-- ==== Sys2Proof/Word.lean ====
section
/-! DEFINITION. The plain word types of the model: bytes, register words, ledger values, and the shape of a sparse list. -/

namespace Sys2Proof

/-- A byte (R4). -/
abbrev Byte := BitVec 8

/-- A BAR0 register word (R5), and a Celper register (R223). -/
abbrev W32 := BitVec 32

/-- A ledger VALUE (R46). -/
abbrev W64 := BitVec 64

/-- A sparse list of keys and values, keys strictly rising. Its operations are in Machine/Map.lean. -/
abbrev SMap (α : Type) := List (Nat × α)

end Sys2Proof
end

