-- ==== Sys2Proof/Syntax.lean ====
section
/-! DEFINITION. The commands of the block (one constructor for each row of spec/opcode_table.json) and the types of their operands. -/

namespace Sys2Proof

/-- The dies that hold units of their own, P0, P1 and V (R15).  Die L is the block's own die. -/
inductive Die where
  | p0 | p1 | v
  deriving DecidableEq, Repr

/-- Where a message to die L comes from: a die link, a producer of die L itself, or the host. -/
inductive Path where
  | die (d : Die) | dieL | host
  deriving DecidableEq, Repr

/-- A unit with a PWM pattern of its own: a switch channel (0 to 47 HS, 48 to 63 PD) or a motor unit. -/
inductive PwmUnit where
  | chan (u : Nat) | motor (m : Nat)
  deriving DecidableEq, Repr

/-- What carries an ember latch (R83, R128, R160, R161, R180).  `side` of a motor unit is 0 for the first half-bridge (or the gate driver of a pre-driven pair) and 1 for the second. -/
inductive EmberUnit where
  | chan (u : Nat) | motor (m side : Nat) | valve (n : Nat) | bank (b : Nat) | array
  deriving DecidableEq, Repr

/-- A periodic report and its unit (R71, R118, R146, R175, R189). -/
inductive FbUnit where
  | chanTj (u : Nat) | chanTc (u : Nat) | bundle (g : Nat) | motorCur (m : Nat) | valveCur (n : Nat) | bankCur (b : Nat)
  | boost | ledVsink (n : Nat) | inputVin (n : Nat)
  deriving DecidableEq, Repr

/-- One sample of a channel: current in mA, output voltage in mV (R78). -/
structure ChanSample where
  u : Nat
  cur : Int
  vout : Nat
  deriving DecidableEq, Repr

/-- One sample of a motor unit: current in mA, side A minus side B voltage in mV (R118, R135). -/
structure MotorSample where
  m : Nat
  cur : Int
  vab : Int
  deriving DecidableEq, Repr

/-- One sample of a valve channel or of a bank switch: current in mA, drain or node voltage in mV (R146, R153). -/
structure ValveSample where
  n : Nat
  cur : Int
  volt : Nat
  deriving DecidableEq, Repr

/-- One sample of an LED sink in its on-time: current in uA, sink voltage in mV (R179). -/
structure LedSample where
  n : Nat
  cur : Nat
  volt : Nat
  deriving DecidableEq, Repr

/-- What a die samples at one sample tick (R78, R102, R146, R179, R435): its VBAT in units of 10 mV, its ground shift in mV, the boost rail in mV (die V), and its units. -/
structure Samples where
  vbat : Nat
  shift : Int
  rail : Nat
  chans : List ChanSample
  motors : List MotorSample
  valves : List ValveSample
  banks : List ValveSample
  leds : List LedSample
  deriving DecidableEq, Repr

/-- What the comparators of a motor unit see (R127): the bridge current in mA, the drain-source voltages in mV and the switch currents in mA, each of high A, low A, high B and low B. -/
structure BridgeSense where
  cur : Nat
  vds : List Nat
  sw : List Nat
  deriving DecidableEq, Repr

/-- A CAN frame as it is on the bus (R237, R245). -/
structure CanFrame where
  id : Nat
  ide : Bool
  rtr : Bool
  fdf : Bool
  brs : Bool
  esi : Bool
  dlc : Nat
  data : List Byte
  deriving DecidableEq, Repr

/-- What a controller saw of an error in a frame: its kinds, bit k being kind k of R254, and the loop delay measured in the frame, where it came to its res edge (R241). -/
structure CanErr where
  kinds : Nat
  tdcv : Option Nat
  deriving DecidableEq, Repr

/-- What a header showed beside its identifier: whether the parity holds, and how many ticks ago its break field began (R64, R267). -/
structure LinHead where
  parityOk : Bool
  ago : Nat
  deriving DecidableEq, Repr

/-- A LIN response as received, with the errors detected in it: bits [0] BIT, [1] CKS, [3] FRAME, and a collision of an event-triggered slot (R270, R271). -/
structure LinFrame where
  pid : Nat
  data : List Byte
  err : Nat
  collision : Bool
  deriving DecidableEq, Repr

/-- What a device read of host memory brings back: its bytes, or how it failed (R291, R302, R312). -/
inductive ReadResult where
  | data (bytes : List Byte)
  | unsupported
  | poisoned
  | timeout
  deriving DecidableEq, Repr

/-- The device read whose completion does not come (R291, R302, R306): the doorbell page, the descriptors of a ring, or the data of the operation with a tag. -/
inductive ReadKind where
  | doorbell | descriptor (q : Nat) | operation (t : Nat)
  deriving DecidableEq, Repr

/-- The sources of an alarm that the device detects by itself (R329). -/
inductive AlarmSrc where
  | glitch | temp | debug | tamper | retire
  deriving DecidableEq, Repr

/-- A received lantern (R409): from a CAN controller, or as a PDU of an Ethernet port. -/
inductive LanternRx where
  | can (c : Nat) (f : CanFrame)
  | eth (p port pdu : Nat) (payload : List Byte)
  deriving DecidableEq, Repr

/-- The Celper machines (R15, R218): the reflex cores 0 to 7, the bridge sequencers of P0 and P1, the six bank sequencers and the LF sequencer. -/
inductive CoreId where
  | reflex (c : Nat) | bridge (d : Nat) | bank (b : Nat) | lf
  deriving DecidableEq, Repr

/-- The commands of the block: one constructor for each row of the table of operations and events, those with operands first and those without after them, each group in the table's order. -/
inductive Instr where
  /-- REGISTER_WRITE (R7). A BAR0 write to a register without behaviour of its own sets RW fields, clears W1C bits and is discarded for RO, RWL-locked or OTP fields. -/
  | registerWrite (off size : Nat) (value : W32)
  /-- READ_64_LOW_WORD (R472). A 32-bit read of the low word of a 64-bit register returns it and latches the high word for the next high-word read. -/
  | read64LowWord (off : Nat)
  /-- WRITE_64_HIGH_WORD (R472). A write of the high word of a writable 64-bit register takes effect together with the low word last written. -/
  | write64HighWord (off : Nat) (value : W32)
  /-- LEDG_PEEKIDX_WRITE (R68). A write to LEDG_PEEKIDX latches the named entry as a live read into LEDG_PEEK0-7 and LEDG_PEEKT. -/
  | ledgPeekidxWrite (value : W32)
  /-- HSW_CTL_CLEAR (R86). Writing 1 to HSW_CTL.CLEAR requests a firmware clear of an HS channel, acted on at the next boundary. -/
  | hswCtlClear (n : Nat)
  /-- PDRV_CTL_CLEAR (R86). Writing 1 to PDRV_CTL.CLEAR requests a firmware clear of a PD channel, acted on at the next boundary. -/
  | pdrvCtlClear (n : Nat)
  /-- BRG_CTL_CLEAR (R129). Writing 1 to BRG_CTL.CLEAR requests a firmware clear of a motor unit at the next boundary. -/
  | brgCtlClear (m : Nat)
  /-- VLV_CTL_CLEAR (R163). Writing 1 to VLV_CTL.CLEAR requests a firmware clear of a valve channel at the next boundary. -/
  | vlvCtlClear (n : Nat)
  /-- VLV_BCTL_CLEAR (R163). Writing 1 to VLV_BCTL.CLEAR requests a firmware clear of a valve bank at the next boundary. -/
  | vlvBctlClear (b : Nat)
  /-- LED_CTL_CLEAR (R178). Writing 1 to LED_CTL.CLEAR requests a firmware clear of an LED sink at the next boundary. -/
  | ledCtlClear (n : Nat)
  /-- CAN_CTL_RECOVER (R257). Writing 1 to CAN_CTL.RECOVER issues a recover request to a CAN controller. -/
  | canCtlRecover (c : Nat)
  /-- CAN_CTL_RESTR_SET (R258). Writing RESTR = 1 sets the firmware restricted source of a CAN controller. -/
  | canCtlRestrSet (c : Nat)
  /-- CAN_CTL_RESTR_CLEAR (R258). Writing RESTR = 2 clears the firmware restricted source of a CAN controller. -/
  | canCtlRestrClear (c : Nat)
  /-- LIN_CTL_SREQ (R269). Writing SREQ with SCHED requests a schedule table change taking effect at the end of the slot in progress. -/
  | linCtlSreq (n table : Nat)
  /-- LIN_CTL_SLEEP (R272). Writing LIN_CTL.SLEEP makes a commander send go-to-sleep in the next diagnostic request slot and enter SLEEP. -/
  | linCtlSleep (n : Nat)
  /-- LIN_CTL_WAKE (R272). Writing LIN_CTL.WAKE sends a 1 ms dominant wake-up signal on a LIN channel. -/
  | linCtlWake (n : Nat)
  /-- RFX_SVC_REMOVE (R211). Writing RFX_SVC with OP 1 requests removal of a reflex core, checked against the placement. -/
  | rfxSvcRemove (c : Nat)
  /-- RFX_SVC_RETURN (R211). Writing RFX_SVC with OP 2 requests return of a reflex core, starting its self-test. -/
  | rfxSvcReturn (c : Nat)
  /-- HOST_CTL_EN_SET (R312). Setting HOST_CTL.EN reads the ring-0 fields and starts the host interface, or sets HOST_ERR.SETUP if a field is out of range. -/
  | hostCtlEnSet (dbper : Nat)
  /-- HOST_CTL_EN_CLEAR (R307). Clearing HOST_CTL.EN stops the host interface, releasing rings and tags. -/
  | hostCtlEnClear (dbper : Nat)
  /-- FLT_CTL_CLR (R370). Writing FLT_CTL with CLR = 1 performs FAULT_CLEAR of the named record. -/
  | fltCtlClr (r : Nat)
  /-- MSIX_VECTOR_UNMASK (R288). Unmasking an MSI-X vector with its pending bit set sends the held message. -/
  | msixVectorUnmask (v : Nat)
  /-- DEVICE_RESET (R28). RESET_N or the MGP reset resets die L, which resumes the epoch from P0's counter and restarts frames, ledger and cores. -/
  | deviceReset (mgp : Bool) (pass : List Bool)
  /-- AS_SYNC_RECEIVED (R32). A received 802.1AS Sync updates TIME_ASOFS and the loop rate correction. -/
  | asSyncReceived (gptp corr : Int)
  /-- TIME_MARKER_RECEIVED (R33). An island corrects its counter phase at a marker, clearing its lock bit and raising its island fault if the error exceeds half a tick. -/
  | timeMarkerReceived (d : Die) (err : Int)
  /-- ISLAND_RELOCK (R34). The 64th consecutive in-bound marker sets an island's lock bit again. -/
  | islandRelock (d : Die)
  /-- MARKER_LOSS (R34). No marker for 16 periods makes an island run free and reports a link fault. -/
  | markerLoss (d : Die)
  /-- LEDGER_UPDATE_ARRIVAL (R54). A ledger update from a die link, decoder, host or engine enters the intake queue, stalling its path when the queue is full. -/
  | ledgerUpdateArrival (p : Path)
  /-- ENTRY_EXPIRY (R52). A FRESH entry turns STALE at its DEADLINE and LEDG_EXPCNT advances. -/
  | entryExpiry (idx : Nat)
  /-- SNAPSHOT_SEAL (R20). At B(F) + 400 the snapshot is sealed, the encoder builds PDUs and frame programs start. -/
  | snapshotSeal (ready : List Bool)
  /-- SNAP_READ_AT_SEAL (R58). A SNAP read that arrived between B(F) and the seal is served at the seal from the sealed snapshot. -/
  | snapReadAtSeal (t : Nat)
  /-- STAGED_WRITE_ARRIVAL (R37). A staged write arrives at its die and is held for the boundary. -/
  | stagedWriteArrival (d : Die)
  /-- FRAME_CLOSE_MESSAGE (R37). A die receives a frame close message carrying F+1 and the count of its staged writes. -/
  | frameCloseMessage (d : Die)
  /-- DIE_BOUNDARY_APPLY (R37). At B(F+1) a die applies late writes, firmware clears and the frame's writes when the count is complete, or reports a late-apply break. -/
  | dieBoundaryApply (d : Die)
  /-- LIMP_ENTRY (R25). 100 ms without a frame boundary makes a die apply the limp states, assert FAULT and raise LIMP. -/
  | limpEntry (d : Die)
  /-- PWM_PERIOD_START (R75). A channel PWM period starts, taking its compensated duty and turning on. -/
  | pwmPeriodStart (u : PwmUnit)
  /-- PWM_ON_TIME_END (R75). The on-time of a PWM period ends and the switch turns off. -/
  | pwmOnTimeEnd (u : PwmUnit)
  /-- SENSE_SAMPLE (R78). A die samples current, output voltage and VBAT of each channel every 200 ticks. -/
  | senseSample (d : Die) (x : Samples)
  /-- SENSING_WINDOW_END (R78). At the end of each 50-sample window the die stores the mean, reports feedback and supplies the wick model. -/
  | sensingWindowEnd (d : Die)
  /-- OVERLOAD_TRIP (R80). TOVL x 10 consecutive samples above IOVL trip the channel through the snuff path into SNUFFED. -/
  | overloadTrip (u : Nat)
  /-- SHORT_COMPARATOR_TRIP (R79). Channel current above ISHORT discharges the gate and puts the channel in SNUFFED with cause SHORT. -/
  | shortComparatorTrip (u : Nat) (cur : Nat)
  /-- VDS_TRIP (R81). A PD MOSFET drain-source voltage above VDSTH after blanking trips the channel with cause VDS. -/
  | vdsTrip (u : Nat) (vds : Nat)
  /-- EMBER_SET (R83). A junction at TEMB_SET or a TS voltage at SETV sets the ember latch, tripping a conducting unit. -/
  | emberSet (u : EmberUnit) (tj : Int) (ts : Nat)
  /-- EMBER_RELEASE (R83). After 1 ms set and with the junction at TEMB_REL the ember latch releases. -/
  | emberRelease (u : EmberUnit) (tj : Int) (ts : Nat)
  /-- SNUFF_END (R84). 10,000 ticks after the trip stamp a SNUFFED channel takes the decision after a trip. -/
  | snuffEnd (u : Nat)
  /-- RETRY_DUE (R84). The retry delay elapsed with WHOLD clear turns a RETRY_WAIT channel on, consuming a retry. -/
  | retryDue (u : Nat)
  /-- RETRY_REFILL (R85). REFILL x 100 ms of trip-free conduction restores RETRYLEFT to MAX and clears TRIPPED. -/
  | retryRefill (u : Nat)
  /-- WICK_STEP (R87). Every 20,000 ticks a die advances the wick nodes, compares Tc with TLIM and sends its bundle message. -/
  | wickStep (d : Die)
  /-- BUNDLE_NODE_MESSAGE (R88). The other power die's bundle-sum message arrives and the die computes the next bundle node. -/
  | bundleNodeMessage (d : Die)
  /-- BUNDLE_MESSAGE_TIMEOUT (R88). No bundle message 1,000 ticks after a step makes the die use the last sums and set HSW_LINK.LOST. -/
  | bundleMessageTimeout (d : Die)
  /-- PERIODIC_FEEDBACK (R71). A unit sends its periodic feedback entries such as TJ, TC, CUR or BOOST every 1 ms. -/
  | periodicFeedback (u : FbUnit) (x : Int)
  /-- ENTRY_RESEND (R71). A unit entry is resent unchanged 2,000,000 ticks after its last update. -/
  | entryResend (idx : Nat)
  /-- INRUSH_WINDOW_END (R97). At the end of its inrush window a channel enters ON or PWM. -/
  | inrushWindowEnd (u : Nat)
  /-- SOFT_START_CARRIER (R99). A soft-start carrier period starts with a rising on-time. -/
  | softStartCarrier (u : Nat)
  /-- DROOP_DETECTED (R104). The seventh consecutive low VBAT sample detects a droop, freezes V_c, suspends inrush windows and sends a notice. -/
  | droopDetected (d : Die)
  /-- DROOP_NOTICE (R105). A droop notice from the other die freezes V_c and may discard the die's own detection. -/
  | droopNotice (d : Die)
  /-- DROOP_END_NOTICE (R105). The owner's end notice sets the extended inrush window ends on the other die. -/
  | droopEndNotice (d : Die)
  /-- DROOP_CAP (R107). At droop stamp + 1,000,000 ticks a suspended window end is set with E capped and the end notice sent. -/
  | droopCap (d : Die)
  /-- DROOP_FREEZE_END (R106). The V_c freeze ends 400,000 ticks after the detection tick. -/
  | droopFreezeEnd (d : Die)
  /-- OPEN_LOAD_TEST_START (R110). An OFF channel with OLEN = 1 starts an off-state open-load test at its interval tick. -/
  | openLoadTestStart (u : Nat)
  /-- OPEN_LOAD_TEST_END (R112). A completed open-load test updates the SBFLAG and OLFLAG runs. -/
  | openLoadTestEnd (u : Nat)
  /-- BRIDGE_CONTROL_STEP (R138). The bridge sequencer takes a control step every 2,000 ticks deciding targets, park and pinch. -/
  | bridgeControlStep (d : Die)
  /-- RIPPLE_EDGE (R130). A counted ripple edge changes POS by one. -/
  | rippleEdge (m : Nat)
  /-- MOTOR_STALL (R132). No ripple edge for TSTALL ms ends the motion with reason STALL. -/
  | motorStall (m : Nat)
  /-- MOTOR_RUN_LIMIT (R132). TRUN x 100 ms in RUN ends the motion with reason RUNLIMIT. -/
  | motorRunLimit (m : Nat)
  /-- MOTOR_START_BLANKING_END (R121). TSTART ends and stall, park and pinch checks begin. -/
  | motorStartBlankingEnd (m : Nat)
  /-- PULSE_END (R121). A PULSE motion reaches its duration and enters SETTLE. -/
  | pulseEnd (m : Nat)
  /-- PINCH_BRAKE_END (R134). After exactly 2,000,000 ticks of braking the pinch reversal drives the opposite direction. -/
  | pinchBrakeEnd (m : Nat)
  /-- REVERSAL_COMPLETE (R134). REVCNT reversal edges counted puts the unit in SETTLE. -/
  | reversalComplete (m : Nat)
  /-- MOTOR_SETTLE_END (R122). TBRAKE elapsed moves SETTLE to IDLE or to RUN after a direction change. -/
  | motorSettleEnd (m : Nat)
  /-- BRIDGE_TRIP (R127). Bridge current above ISHORT, a VDS or integrated short turns the unit off into TRIPPED. -/
  | bridgeTrip (m : Nat) (x : BridgeSense)
  /-- MOTOR_TRIPPED_END (R122). 10 ms after the trip a unit leaves TRIPPED into IDLE or LOCKED. -/
  | motorTrippedEnd (m : Nat)
  /-- CURRENT_CHOP (R126). Sensed current above ILIM turns the driving high side off for TOFF. -/
  | currentChop (m cur : Nat)
  /-- CHOP_OFF_END (R126). The chopping off time ends and the PWM pattern resumes. -/
  | chopOffEnd (m : Nat)
  /-- BEMF_MEASURE_START (R135). A due back-EMF measurement turns all switches off for 20,000 ticks. -/
  | bemfMeasureStart (m : Nat)
  /-- BEMF_MEASURE_END (R135). The back-EMF off interval ends and the mean is reported. -/
  | bemfMeasureEnd (m : Nat)
  /-- BRIDGE_SEQ_OVERRUN (R138). A bridge sequencer step not finished by the next step brakes moving units and ends them with OVERRUN. -/
  | bridgeSeqOverrun (d : Die)
  /-- VALVE_CONTROL_STEP (R156). The bank sequencer takes a control step every 1,000 ticks applying words, starting peaks and ending releases. -/
  | valveControlStep (b : Nat)
  /-- PEAK_END (R152). TPEAK elapsed moves a peak to HOLD or RELEASE. -/
  | peakEnd (n : Nat)
  /-- PEAK_FAIL (R152). No sample reaching IPEAK by TRISE ends the peak in RELEASE with PEAKFAIL. -/
  | peakFail (n : Nat)
  /-- RELEASE_TIMEOUT (R153). A release above 20 mA after TREL is a channel trip with cause CLAMP. -/
  | releaseTimeout (n : Nat)
  /-- LEASH_EXPIRY (R157). A waiting request not started by its leash is rejected with CONFLICT or BOOSTWAIT. -/
  | leashExpiry (n : Nat)
  /-- HOLD_LOW (R152). 200 control steps below IHOLD/2 in HOLD set HOLDLOW and raise a fault. -/
  | holdLow (n : Nat)
  /-- VALVE_TRIP (R160). Valve low-side current above the short limit trips the channel into TRIPPED. -/
  | valveTrip (n cur : Nat)
  /-- VALVE_TRIPPED_END (R149). 10 ms after a trip a valve channel leaves TRIPPED into IDLE or LOCKED. -/
  | valveTrippedEnd (n : Nat)
  /-- BANK_TRIP (R161). Bank switch current above the bank limit turns the bank and its channels off. -/
  | bankTrip (b cur : Nat)
  /-- BANK_TRIPPED_END (R150). 10 ms after a bank trip the bank leaves TRIPPED into OFF or LOCKED. -/
  | bankTrippedEnd (b : Nat)
  /-- BANK_SEQ_OVERRUN (R164). A bank sequencer overrun moves peaks to hold, rejects waiting requests and writes OVERRUN. -/
  | bankSeqOverrun (b : Nat)
  /-- LED_PERIOD_START (R173). An LED sink PWM period starts, taking the duty of its curve position and ending a fade when due. -/
  | ledPeriodStart (n : Nat)
  /-- LED_OPEN (R179). 16 consecutive open samples set OPEN and raise a fault. -/
  | ledOpen (n : Nat)
  /-- LED_OPEN_CLEAR (R179). 16 consecutive samples at half target clear OPEN. -/
  | ledOpenClear (n : Nat)
  /-- LED_SHORT (R179). 16 consecutive samples at or above VSHORT turn the sink off into SHORTED. -/
  | ledShort (n : Nat)
  /-- LED_FOLDBACK_STEP (R180). Every 10 ms the foldback step k changes with the array temperature. -/
  | ledFoldbackStep (tj : Int)
  /-- INPUT_RAW_EDGE (R188). A raw input edge starts or restarts a debounce run. -/
  | inputRawEdge (n vin : Nat)
  /-- PULSED_WETTING_READ (R187). A PULSED input reads its comparator at the end of each 10 us wetting pulse. -/
  | pulsedWettingRead (n vin : Nat)
  /-- DEBOUNCE_ACCEPT (R188). A debounce run held for DEB accepts the new level and updates LEVEL and EDGE. -/
  | debounceAccept (n : Nat)
  /-- INPUT_CHATTER (R191). 64 consecutive restarts raise a chatter fault and record an event. -/
  | inputChatter (n : Nat)
  /-- LOWBAT_SUSPENSION_END (R190). VBAT at or above VTHH + 1.2 V for 2,000 ticks ends the suspension and resends LEVEL and EDGE. -/
  | lowbatSuspensionEnd (n : Nat)
  /-- PARK_POLL (R193). The candle domain polls wake-capable inputs, requesting a wake on two consecutive differing polls. -/
  | parkPoll (vins : List Nat)
  /-- BUDGET_ABORT (R204). An instruction that would exceed BUDGET aborts the run and raises the budget break. -/
  | budgetAbort (c : Nat)
  /-- CORE_FAILURE (R212). The watchdog declares a core FAILED on a stuck abort, memory error or not-ready at seal. -/
  | coreFailure (c cause : Nat)
  /-- CORE_SELF_TEST_END (R211). A joining core's 10,000-tick self-test ends, failing into FAILED or waiting for its boundary. -/
  | coreSelfTestEnd (c : Nat) (pass : Bool)
  /-- IMMEDIATE_APPLY (R207). The owning die applies an immediate write at the next multiple of 200 ticks after arrival. -/
  | immediateApply (d : Die)
  /-- ADD (R222). Celper ADD: g[d] = g[a] + g[b]. -/
  | add (k : CoreId) (d a b : Nat)
  /-- SUB (R222). Celper SUB: g[d] = g[a] - g[b]. -/
  | sub (k : CoreId) (d a b : Nat)
  /-- AND (R222). Celper AND: bitwise and. -/
  | andI (k : CoreId) (d a b : Nat)
  /-- OR (R222). Celper OR: bitwise or. -/
  | orI (k : CoreId) (d a b : Nat)
  /-- XOR (R222). Celper XOR: bitwise exclusive or. -/
  | xorI (k : CoreId) (d a b : Nat)
  /-- SLL (R222). Celper SLL: left shift by g[b][4:0]. -/
  | sll (k : CoreId) (d a b : Nat)
  /-- SRL (R222). Celper SRL: logical right shift. -/
  | srl (k : CoreId) (d a b : Nat)
  /-- SRA (R222). Celper SRA: arithmetic right shift. -/
  | sra (k : CoreId) (d a b : Nat)
  /-- SLT (R222). Celper SLT: signed set-less-than. -/
  | slt (k : CoreId) (d a b : Nat)
  /-- SLTU (R222). Celper SLTU: unsigned set-less-than. -/
  | sltu (k : CoreId) (d a b : Nat)
  /-- NOP_INSTRUCTION (R222). Celper NOP: no operation. -/
  | nopInstruction (k : CoreId)
  /-- END (R200). Celper END ends the run, writing back the state block, or ends a sequencer control step. -/
  | endI (k : CoreId)
  /-- ADDI (R222). Celper ADDI: add sign-extended immediate. -/
  | addi (k : CoreId) (d a : Nat) (imm : BitVec 16)
  /-- ANDI (R222). Celper ANDI: and zero-extended immediate. -/
  | andi (k : CoreId) (d a : Nat) (imm : BitVec 16)
  /-- ORI (R222). Celper ORI: or zero-extended immediate. -/
  | ori (k : CoreId) (d a : Nat) (imm : BitVec 16)
  /-- XORI (R222). Celper XORI: exclusive or zero-extended immediate. -/
  | xori (k : CoreId) (d a : Nat) (imm : BitVec 16)
  /-- SLLI (R222). Celper SLLI: left shift by immediate. -/
  | slli (k : CoreId) (d a : Nat) (imm : BitVec 16)
  /-- SRLI (R222). Celper SRLI: logical right shift by immediate. -/
  | srli (k : CoreId) (d a : Nat) (imm : BitVec 16)
  /-- SRAI (R222). Celper SRAI: arithmetic right shift by immediate. -/
  | srai (k : CoreId) (d a : Nat) (imm : BitVec 16)
  /-- LUI (R222). Celper LUI: g[d] = imm << 16. -/
  | lui (k : CoreId) (d : Nat) (imm : BitVec 16)
  /-- SLTI (R222). Celper SLTI: signed compare with immediate. -/
  | slti (k : CoreId) (d a : Nat) (imm : BitVec 16)
  /-- MUL (R229). Celper MUL: signed multiply into MH:ML after three issue cycles. -/
  | mul (k : CoreId) (a b : Nat)
  /-- MULU (R229). Celper MULU: unsigned multiply into MH:ML after three issue cycles. -/
  | mulu (k : CoreId) (a b : Nat)
  /-- MAC (R229). Celper MAC: signed multiply-accumulate into MH:ML. -/
  | mac (k : CoreId) (a b : Nat)
  /-- MULTIPLIER_RESULT (R229). A product takes effect in MH:ML at the start of issue cycle c + 3. -/
  | multiplierResult (k : CoreId)
  /-- MFS (R220). Celper MFS reads a special register. -/
  | mfs (k : CoreId) (d sp : Nat)
  /-- MTS (R220). Celper MTS writes a special register. -/
  | mts (k : CoreId) (sp a : Nat)
  /-- LDW (R222). Celper LDW loads a word from local data memory. -/
  | ldw (k : CoreId) (d a : Nat) (imm : BitVec 16)
  /-- STW (R222). Celper STW stores a word to local data memory. -/
  | stw (k : CoreId) (d a : Nat) (imm : BitVec 16)
  /-- BC (R226). Celper/S compare-and-branch. -/
  | bc (k : CoreId) (a b cond : Nat) (off : BitVec 13)
  /-- PRD (R236). Celper/S reads a sequencer port. -/
  | prd (k : CoreId) (d port : Nat)
  /-- PWR (R236). Celper/S writes a sequencer port. -/
  | pwr (k : CoreId) (a port : Nat)
  /-- LDV (R230). Celper LDV loads VALUE[31:0] of a snapshot entry and sets LSTAT. -/
  | ldv (k : CoreId) (d index : Nat)
  /-- LDE (R231). Celper LDE loads value, age and state of a snapshot entry into four registers. -/
  | lde (k : CoreId) (d index : Nat)
  /-- LDVX (R230). Celper LDVX: LDV with the index in a register. -/
  | ldvx (k : CoreId) (d a : Nat)
  /-- LDEX (R231). Celper LDEX: LDE with the index in a register. -/
  | ldex (k : CoreId) (d a : Nat)
  /-- LDB (R232). Celper LDB loads a word of a blob entry's snapshot version. -/
  | ldb (k : CoreId) (d a b : Nat)
  /-- STE (R233). Celper STE stages a write to a ledger entry. -/
  | ste (k : CoreId) (d index : Nat)
  /-- STEX (R233). Celper STEX: STE with the index in a register. -/
  | stex (k : CoreId) (d a : Nat)
  /-- BR (R228). Celper BR branches, popping loop levels it leaves. -/
  | br (k : CoreId) (off : BitVec 26)
  /-- BL (R228). Celper BL saves the return address and branches. -/
  | bl (k : CoreId) (off : BitVec 26)
  /-- JR (R228). Celper JR continues at the address in a register. -/
  | jr (k : CoreId) (a : Nat)
  /-- SK (R225). Celper SK skips the next instruction if the register comparison holds. -/
  | sk (k : CoreId) (a b cond : Nat)
  /-- SKI (R225). Celper SKI skips the next instruction if the immediate comparison holds. -/
  | ski (k : CoreId) (a cond : Nat) (imm : BitVec 16)
  /-- SKST (R225). Celper SKST skips the next instruction by the LSTAT state mask. -/
  | skst (k : CoreId) (mask : BitVec 4)
  /-- LOOP (R227). Celper LOOP pushes a hardware loop with count from a register. -/
  | loop (k : CoreId) (a : Nat) (n : BitVec 16)
  /-- LOOPI (R227). Celper LOOPI pushes a hardware loop with an immediate count. -/
  | loopi (k : CoreId) (cnt : BitVec 12) (n : BitVec 14)
  /-- CAN_FRAME_RECEIVED (R243). A valid CAN frame is stamped and passed to the decoder and to firmware under RXHOST. -/
  | canFrameReceived (c : Nat) (f : CanFrame)
  /-- CAN_TX_START (R248). At bus idle the winning pending frame starts its start-of-frame and writes its age word. -/
  | canTxStart (c : Nat)
  /-- CAN_FRAME_SENT (R250). A transmitted frame becomes valid and its request completes SENT. -/
  | canFrameSent (c tdcv : Nat)
  /-- CAN_ARBITRATION_LOST (R248). A frame loses arbitration and stays pending, or completes LOST if one-shot. -/
  | canArbitrationLost (c : Nat)
  /-- CAN_ERROR (R254). A detected CAN error updates TEC/REC, sets CAN_ERR and may change the error state. -/
  | canError (c : Nat) (kinds : CanErr) (tec rec : Nat)
  /-- BUSOFF_HOLD_END (R256). BOHOLD x 10 ms after bus-off automatic recovery starts. -/
  | busoffHoldEnd (c : Nat)
  /-- BUSOFF_RECOVERY_DONE (R257). 128 occurrences of 11 recessive bits end recovery into ERROR_ACTIVE with counters 0. -/
  | busoffRecoveryDone (c : Nat)
  /-- CAN_SYNC_DONE (R253). 11 consecutive recessive bits end SYNC. -/
  | canSyncDone (c : Nat)
  /-- BUSOFF_COUNT_RESET (R255). 1 s in ERROR_ACTIVE returns the consecutive bus-off count to 0. -/
  | busoffCountReset (c : Nat)
  /-- CAN_WAKE_FRAME (R262). In PARK a matching selective wake-up frame or frame-error overflow wakes the device. -/
  | canWakeFrame (c : Nat) (f : CanFrame) (good : Bool)
  /-- CAN_WAKE_PATTERN (R263). In PARK the ISO wake-up pattern on CN0 or CN1 wakes the device. -/
  | canWakePattern (c : Nat)
  /-- LIN_SLOT_START (R268). A commander schedule slot starts with its header break field. -/
  | linSlotStart (n : Nat)
  /-- LIN_HEADER_RECEIVED (R270). A responder receives a protected identifier and starts its response. -/
  | linHeaderReceived (n pid : Nat) (head : LinHead)
  /-- LIN_FRAME_RECEIVED (R271). A LIN frame completes and is decoded or counted as an error. -/
  | linFrameReceived (n : Nat) (f : LinFrame)
  /-- LIN_BUS_IDLE_TIMEOUT (R272). 4 s without bus activity puts a responder into SLEEP. -/
  | linBusIdleTimeout (n : Nat)
  /-- LIN_WAKE_RETRY (R272). No header within 150 ms repeats the wake-up signal, then waits 1.5 s. -/
  | linWakeRetry (n : Nat)
  /-- LIN_REMOTE_WAKE (R272). A dominant pulse of 250 us to 5 ms in SLEEP moves the channel to ACTIVE. -/
  | linRemoteWake (n ticks : Nat)
  /-- LIN_SCHEDULE_RESTART (R272). 100 ms after a wake-up signal a commander restarts its table at slot 0. -/
  | linScheduleRestart (n : Nat)
  /-- ETH_FRAME_RECEIVED (R279). A frame is forwarded, answered as ARP, decoded as UDP PDUs or passed to the internal port. -/
  | ethFrameReceived (p : Nat) (f : List Byte)
  /-- ETH_FRAME_TX_START (R280). An egress frame starts its preamble and an encoded frame writes its age word. -/
  | ethFrameTxStart (p : Nat)
  /-- ETH_LINK_CHANGE (R283). A port link change updates its entry and a link loss raises a fault. -/
  | ethLinkChange (p : Nat) (link : Bool) (speed : Nat) (plca : Bool)
  /-- PDELAY_REQ_RECEIVED (R281). A received Pdelay_Req is answered with timestamps. -/
  | pdelayReqReceived (p : Nat) (seq : Nat)
  /-- DOORBELL_DATA (R291). Doorbell data returns and SQs with new descriptors are served, or a ring enters ERROR. -/
  | doorbellData (x : ReadResult)
  /-- DESCRIPTOR_ACCEPT (R294). A fetched descriptor is refused TAG_BUSY or accepted, reserving a CQ slot. -/
  | descriptorAccept (q : Nat) (x : ReadResult)
  /-- CQ_MODERATION_TIMER (R299). ITIME after the first unsignalled entry the CQ's MSI-X message is sent. -/
  | cqModerationTimer (q : Nat)
  /-- RING_DRAIN_TIMEOUT (R305). Operations still in flight TMO ms after a ring removal complete ABORTED_DISABLED. -/
  | ringDrainTimeout (q : Nat)
  /-- NOP (R300). Host NOP completes OK at acceptance. -/
  | nop (t : Nat)
  /-- RING_ADD (R304). Adds a submission or completion ring. -/
  | ringAdd (t : Nat)
  /-- RING_REMOVE (R305). Removes a ring after draining its operations. -/
  | ringRemove (t : Nat)
  /-- FUNC_RESET (R308). Runs a function's disable sequence and restarts it on the active parameters. -/
  | funcReset (t : Nat)
  /-- LEDGER_WRITE (R301). Writes a host entry, targeted or untargeted. -/
  | ledgerWrite (t : Nat) (x : ReadResult)
  /-- LEDGER_READ (R58). Reads a ledger entry LIVE or SNAP. -/
  | ledgerRead (t : Nat)
  /-- IMMEDIATE_WRITE (R207). Commits a unit command word at once and sends it to the owning die. -/
  | immediateWrite (t : Nat)
  /-- UNIT_CLEAR (R300). Requests a firmware clear of a channel, motor unit, valve channel or bank, or LED sink. -/
  | unitClear (t : Nat)
  /-- CORE_SERVICE (R211). Requests removal or return of a reflex core. -/
  | coreService (t : Nat)
  /-- CAN_TX (R247). Requests transmission of a CAN frame in a firmware slot. -/
  | canTx (t : Nat) (x : ReadResult)
  /-- CAN_CANCEL (R252). Cancels a pending firmware CAN request by tag. -/
  | canCancel (t : Nat)
  /-- CAN_RECOVER (R257). Issues a recover request to a CAN controller in BUS_OFF. -/
  | canRecover (t : Nat)
  /-- CAN_MODE (R258). Sets or clears the firmware restricted source of a CAN controller. -/
  | canMode (t : Nat)
  /-- RX_POST (R303). Posts a receive buffer for CAN, LIN responses or the Ethernet internal port. -/
  | rxPost (t : Nat)
  /-- LIN_SCHED (R269). Requests a LIN schedule table change. -/
  | linSched (t : Nat)
  /-- LIN_DIAG (R273). Queues a LIN diagnostic request for the next diagnostic slot. -/
  | linDiag (t : Nat)
  /-- ETH_TX (R300). Queues an Ethernet frame from the internal port. -/
  | ethTx (t : Nat) (x : ReadResult)
  /-- CIPHER (R315). Queues an AES request in CTR, CBC, CMAC, CCM or GCM. -/
  | cipher (t : Nat) (x aux : ReadResult)
  /-- HASH (R331). Queues a SHA-256 request. -/
  | hash (t : Nat) (x : ReadResult)
  /-- DERIVE (R321). Derives a kennel slot key from a root key under a new epoch. -/
  | derive (t : Nat)
  /-- SLOT_RETIRE (R322). Moves a READY kennel slot to RETIRED. -/
  | slotRetire (t : Nat)
  /-- SLOT_CLEAR (R322). Zeroes a kennel slot, leaving it EMPTY with its epoch kept. -/
  | slotClear (t : Nat)
  /-- ALARM (R329). Raises a firmware alarm of level 1 or 2, starting an erase. -/
  | alarm (t : Nat)
  /-- CIPHER_REQUEST_START (R314). A free AES core takes the oldest internal or host request and draws its nonce. -/
  | cipherRequestStart (i : Nat)
  /-- NONCE_CEILING_WRITTEN (R323). The raised nonce ceiling write to MRAM completes and the waiting draw proceeds. -/
  | nonceCeilingWritten (i : Nat)
  /-- CIPHER_REQUEST_END (R318). A cipher or hash request ends and completes with its status. -/
  | cipherRequestEnd (i : Nat)
  /-- CIPHER_ALARM (R329). A glitch, temperature, debug, tamper or retire alarm starts the kennel erase. -/
  | cipherAlarm (a : AlarmSrc)
  /-- CHALLENGE (R351). Requests a broadcast or addressed access challenge round. -/
  | challenge (t : Nat)
  /-- TOKEN_REGISTER (R338). Registers a token record. -/
  | tokenRegister (t : Nat)
  /-- TOKEN_REMOVE (R338). Removes a token record, revoking its session. -/
  | tokenRemove (t : Nat)
  /-- CALIBRATE (R339). Runs 16 addressed challenges to calibrate a token's reply offset. -/
  | calibrate (t : Nat)
  /-- LF_DRIVER_SHORT (R336). An LF driver above 1.5 A turns off for the rest of the challenge and raises a fault. -/
  | lfDriverShort (k cur : Nat)
  /-- LF_DRIVER_OPEN (R336). Peak current below IPK/4 for 8 periods marks an LF driver open. -/
  | lfDriverOpen (k peak : Nat)
  /-- TKR_FRAME_RECEIVED (R341). A reply or button frame is received on TKR_DAT and checked for length, TYPE and CRC. -/
  | tkrFrameReceived (f : List Byte)
  /-- BUTTON_FRAME (R346). A decoded button frame is accepted, ignored or counted as a failure. -/
  | buttonFrame (f : List Byte)
  /-- FAULT_RAISE (R362). The collector processes a raise, counting it in its record and updating its state. -/
  | faultRaise (p : Path)
  /-- FAULT_RECOVERY (R365). A record quiet for QUIET x 100 ms returns to QUIET, advancing RCNT from SEVERE. -/
  | faultRecovery (r : Nat)
  /-- FAULT_READ (R370). Returns a fault record's entry value and retained stamps. -/
  | faultRead (t : Nat)
  /-- FAULT_NOTICES (R370). Removes up to 2 notices from the queue. -/
  | faultNotices (t : Nat)
  /-- FAULT_CLEAR (R370). Puts a fault record in QUIET with RCNT 0. -/
  | faultClear (t : Nat)
  /-- FAULT_INJECT (R373). In factory test mode processes an injected raise. -/
  | faultInject (t : Nat)
  /-- REPEAT_WRITEBACK (R384). A merged REPEAT count is written back to MRAM at most every 100 ms. -/
  | repeatWriteback (n : Nat)
  /-- EVR_READ (R390). Copies event records to host memory. -/
  | evrRead (t : Nat)
  /-- EVR_MARK (R390). Queues a firmware mark event. -/
  | evrMark (t : Nat)
  /-- EVR_CLEAR (R391). In MANUFACTURE empties the recorder. -/
  | evrClear (t : Nat)
  /-- CFG_WRITE (R398). Writes image bytes into the bank that is not ACTIVE. -/
  | cfgWrite (t : Nat) (x : ReadResult)
  /-- CFG_COMMIT (R399). Verifies, digests and swaps in the written image. -/
  | cfgCommit (t : Nat)
  /-- CFG_ROLLBACK (R403). Reactivates the PREVIOUS bank. -/
  | cfgRollback (t : Nat)
  /-- CFG_STATUS (R398). Returns bank states, versions and OTP counts. -/
  | cfgStatus (t : Nat)
  /-- CFG_RAISEMIN (R404). Raises the minimum image version. -/
  | cfgRaisemin (t : Nat)
  /-- LIFECYCLE (R405). Advances the lifecycle state. -/
  | lifecycle (t : Nat)
  /-- ROOT_PROVISION (R406). Loads a root key, consuming a provisioning count. -/
  | rootProvision (t : Nat) (x : ReadResult)
  /-- DEBUG_UNLOCK (R404). Consumes a debug count, raises the DEBUG alarm and grants MGP debug access. -/
  | debugUnlock (t : Nat)
  /-- TEST_MODE (R404). Enters factory test mode in MANUFACTURE. -/
  | testMode (t : Nat)
  /-- DIE_PARAMS_RECEIVED (R400). A die receives new parameters, holds them pending and acknowledges. -/
  | dieParamsReceived (d : Die)
  /-- DIE_PARAM_ACK (R400). Die L receives a die's parameter acknowledgement. -/
  | dieParamAck (d : Die)
  /-- LANTERN_RECEIVED (R409). A received lantern is checked and classifies its peer entry. -/
  | lanternReceived (x : LanternRx)
  /-- PEER_SILENT (R409). No lantern of a node for VSILENT s makes its entry SILENT. -/
  | peerSilent (i : Nat)
  /-- PWR_VOTE (R431). Sets or withdraws the host park vote. -/
  | pwrVote (t : Nat)
  /-- PWR_STATUS (R431). Returns the power status registers. -/
  | pwrStatus (t : Nat)
  /-- PWR_TIMER (R431). Sets the one-shot park timer wake. -/
  | pwrTimer (t : Nat)
  /-- TKR_WAKE (R421). TKR_WAKE_N low for 100 us in PARK is a wake source. -/
  | tkrWake (ticks : Nat)
  /-- TAMPER (R329). TAMPER_N low for 10 us latches a level-2 alarm, and in PARK starts a wake. -/
  | tamper (ticks : Nat)
  /-- MGP_ADDRESS_MATCH (R422). An MGP address match in PARK is NACKed and wakes the device. -/
  | mgpAddressMatch (addr : Nat)
  /-- MGP_RESET (R422). MGP command 0x0A with 0x5A resets the device. -/
  | mgpReset (data : Nat) (pass : List Bool)
  /-- MGP_DEBUG (R422). MGP commands 0xD0-0xDF give debug access after an unlock. -/
  | mgpDebug (cmd : Nat)
  /-- POWER_ON (R421). VBAT applied to a device without candle supply starts a wake. -/
  | powerOn (a1 a0 : Bool)
  /-- RQB_STATUS_READ (R419). Every 100 us the device clocks in a regulator status that may acknowledge the request. -/
  | rqbStatusRead (status : Byte)
  /-- DIE_L_READY (R423). Die L becomes ready, starts its counter, runs a pending erase, replays the candle latch and checks the bank. -/
  | dieLReady (pass : List Bool)
  /-- DOMAIN_READY (R417). A main domain of P0, P1 or V becomes ready. -/
  | domainReady (d : Die)
  /-- DOMAIN_START_TIMEOUT (R423). A main domain not ready 1 ms after switch-on sets DFAIL and is retried each second. -/
  | domainStartTimeout (d : Die)
  /-- DOMAIN_DEMAND_WAKE (R418). An access to a sleeping die wakes its main domain and stalls. -/
  | domainDemandWake (d : Die)
  /-- DOMAIN_STALL_TIMEOUT (R418). A domain not ready within 8,000 ticks ends the stalled access with DOMAIN_FAIL. -/
  | domainStallTimeout (d : Die)
  /-- RAIL_LOSS (R419). A rail below its monitor threshold for 10 us stops die L and restarts WAKING. -/
  | railLoss (rail ticks : Nat)
  /-- SUPPLY_UV_ENTRY (R435). 10 VBAT samples below 4.0 V enter UV and hold switches off. -/
  | supplyUvEntry (d : Die)
  /-- SUPPLY_UV_EXIT (R438). VBAT at or above 4.5 V for 1 ms leaves UV and resumes channels. -/
  | supplyUvExit (d : Die)
  /-- SUPPLY_OV_ENTRY (R435). 10 VBAT samples above 40 V enter OV. -/
  | supplyOvEntry (d : Die)
  /-- SUPPLY_OV_EXIT (R435). VBAT at or below 38 V for 1 ms leaves OV. -/
  | supplyOvExit (d : Die)
  /-- GNDSHIFT_ENTRY (R435). 10 samples of ground shift above 0.8 V enter GNDSHIFT. -/
  | gndshiftEntry (d : Die)
  /-- GNDSHIFT_EXIT (R435). Ground shift below 0.3 V for 1 ms leaves GNDSHIFT. -/
  | gndshiftExit (d : Die)
  /-- POWER_DIE_RESET (R439). A die's VBAT below 3.0 V resets it and die L resends parameters and commands. -/
  | powerDieReset (d : Die) (vbat : Nat)
  /-- CANDLE_RESET (R444). Candle supply below 2.5 V resets the candle domain, losing its retained values. -/
  | candleReset (mv : Nat)
  /-- DROOP_RECORD_LIMIT (R108). At droop stamp + 65,535 us the owning die of a droop that is still running counts it, sets HSW_DROOPT and writes its record. -/
  | droopRecordLimit (d : Die)
  /-- VALVE_CURRENT_TARGET_REACHED (R151). A valve channel current reaches its phase target, the low side turns off and the recirculation switch turns on for the off-time. -/
  | valveCurrentTargetReached (n cur : Nat)
  /-- VALVE_OFF_TIME_END (R151). The valve phase off-time TOFF or TOFFH ends and the low-side switch conducts again. -/
  | valveOffTimeEnd (n : Nat)
  /-- LIN_RESPONSE_TIMEOUT (R271). No complete response within T_frame_max of a header counts a missing-response error. -/
  | linResponseTimeout (n : Nat)
  /-- ETH_FRAME_TX_END (R280). An Ethernet egress frame finishes transmission, counts in TXOK and lets a waiting build enter its egress queue. -/
  | ethFrameTxEnd (p : Nat)
  /-- FORWARDING_DATABASE_AGEING (R278). A learned forwarding database entry is aged out after ETH_AGE seconds. -/
  | forwardingDatabaseAgeing (mac vid : Nat)
  /-- PCIE_COMPLETION_TIMEOUT (R291). A device memory read gets no completion within the completion timeout, is discarded, sets HOST_ERR.CPLTO and counts toward ring ERROR. -/
  | pcieCompletionTimeout (x : ReadKind)
  /-- BUS_MASTER_ENABLE_CHANGE (R289). A configuration-space write changes Bus Master Enable or the D0/D3hot state, holding back or releasing device memory requests and queued notices. -/
  | busMasterEnableChange (bme d3 : Bool)
  /-- PWR_CTL_VOTE_PARK (R424). Writing PWR_CTL.VOTE = 1 sets the host vote to park. -/
  | pwrCtlVotePark
  /-- PWR_CTL_VOTE_WITHDRAW (R424). Writing PWR_CTL.VOTE = 2 withdraws the host park vote. -/
  | pwrCtlVoteWithdraw
  /-- PCIE_LINK_DOWN (R307). A surprise link loss, hot reset, link disable or PERST_N assertion stops the host interface and raises 0x0A00. -/
  | pcieLinkDown
  /-- CRYSTAL_STABLE (R30). The crystal reports stable after 65,536 cycles without a missing cycle, moving STARTING to CRYSTAL. -/
  | crystalStable
  /-- CRYSTAL_FAIL (R30). Four missing cycles of a stable crystal switch the loop to the RC input and the time base to DEGRADED. -/
  | crystalFail
  /-- STARTING_TIMEOUT (R29). 10 ms in STARTING without a stable crystal puts the time base in DEGRADED. -/
  | startingTimeout
  /-- DEGRADED_RETURN (R31). After 100 ms of stable crystal the next frame boundary returns the time base from DEGRADED to CRYSTAL. -/
  | degradedReturn
  /-- AS_CONVERGED (R29). Rate error below 0.1 ppm for 16 Sync intervals moves the time base to SYNCED. -/
  | asConverged
  /-- AS_SYNC_LOSS (R32). Loss of 802.1AS synchronisation moves SYNCED to CRYSTAL, holds the rate correction and raises 0x0E20. -/
  | asSyncLoss
  /-- TIME_MARKER_SEND (R33). Die L sends a time marker over each L-P0, L-P1 and L-V link every 200 ticks. -/
  | timeMarkerSend
  /-- LEDGER_INTAKE_COMMIT (R53). The ledger commits one intake update per tick, accepting or superseding it by its order key. -/
  | ledgerIntakeCommit
  /-- FRAME_ZERO_START (R36). Frame 0 begins at the first multiple of 2,000 after the time base leaves STARTING and every die confirms the parameters. -/
  | frameZeroStart
  /-- FRAME_BOUNDARY (R20). At B(F) die L commits the previous frame's staged writes ahead of the intake and takes the snapshot of frame F. -/
  | frameBoundary
  /-- STAGING_CLOSE (R37). At B(F+1) - 2,000 running programs are aborted and die L sends each die its staged writes and frame close message. -/
  | stagingClose
  /-- BOOST_READY (R158). The rail at or above VRDY for 2,000 ticks sets boost READY. -/
  | boostReady
  /-- BOOST_READY_LOSS (R159). The rail below VRDY - 1.0 V clears READY and advances LOSS. -/
  | boostReadyLoss
  /-- BOOST_NOT_READY (R159). READY 0 for 20 ms with BSTEN = 1 raises NOTREADY, repeating every 20 ms. -/
  | boostNotReady
  /-- BOOST_OVP (R159). A rail above VSET + 4 V or 52 V stops switching and raises OVP. -/
  | boostOvp
  /-- LF_CONTROL_STEP (R335). The LF sequencer takes a control step every 1,600 ticks during a transmission. -/
  | lfControlStep
  /-- LF_SEQ_OVERRUN (R335). An LF sequencer overrun stops the transmission and completes the round INTERNAL. -/
  | lfSeqOverrun
  /-- DOORBELL_FETCH (R291). Every DBPER us the device starts a 256-byte read of the doorbell page. -/
  | doorbellFetch
  /-- CIPHER_START_DONE (R327). All slot keys recomputed moves the engine from STARTING to READY. -/
  | cipherStartDone
  /-- ERASE_COMPLETE (R330). The kennel erase completes, raising 0x0B00 and moving to STARTING or OFF. -/
  | eraseComplete
  /-- CHALLENGE_START (R340). The engine serves a request, draws a challenge nonce and starts LF drive. -/
  | challengeStart
  /-- CHALLENGE_END (R340). The last LF bit period ends, stamping E. -/
  | challengeEnd
  /-- TKR_STROBE (R337). A rising edge on TKR_STB is stamped. -/
  | tkrStrobe
  /-- REPLY_SLOT_END (R343). At the end of a reply slot span the engine classifies the slot. -/
  | replySlotEnd
  /-- REPLY_VERIFIED (R344). Verification of a reply completes and the round ends or continues. -/
  | replyVerified
  /-- LOCKOUT_END (R347). The lockout time elapses and the engine enters IDLE. -/
  | lockoutEnd
  /-- SESSION_TIMEOUT (R349). 30 s after its start a session ends with cause TIMEOUT. -/
  | sessionTimeout
  /-- EVENT_RECORD (R387). The recorder commits a queued event as a new record or merges it. -/
  | eventRecord
  /-- OPSEC_TICK (R381). Operating seconds advance every 200,000,000 ticks, raising the MRAM ceiling by 64 when reached. -/
  | opsecTick
  /-- SWAP_TIMEOUT (R399). A missing acknowledgement after 20 ms fails the commit with DOMAIN_FAIL. -/
  | swapTimeout
  /-- LANTERN_DUE (R407). Every second a lantern frame is queued for the next seal. -/
  | lanternDue
  /-- WAKE_START (R423). A wake event in PARK starts WAKING, switching on main domains and requesting rails. -/
  | wakeStart
  /-- MGP_STATUS (R422). MGP command 0x01 returns power state and wake sources. -/
  | mgpStatus
  /-- PARK_TIMER_WAKE (R421). The one-shot or periodic timer in candle seconds wakes the device. -/
  | parkTimerWake
  /-- WAKE_RETRY (R420). 1 s after a WAKE_REG_FAIL the wake is retried, up to 8 times. -/
  | wakeRetry
  /-- RQB_REQUEST (R419). The candle domain sends a 16-bit rail request on the RQB. -/
  | rqbRequest
  /-- RQB_RETRY (R420). An unacknowledged request is resent at 1, 4 and 16 ms. -/
  | rqbRetry
  /-- REG_FAIL (R420). A request unacknowledged at 32 ms declares WAKE_REG_FAIL or PARK_REG_FAIL. -/
  | regFail
  /-- SHUTDOWN_TIMEOUT (R425). SDTMO elapsed without quiescence forces limp OFF at B_last. -/
  | shutdownTimeout
  /-- PARK_ENTRY (R427). The rails are off and the state becomes PARK, with latched wakes starting WAKING. -/
  | parkEntry
  /-- WAKE_VOLTAGE_OK (R440). VBAT at P0 at or above 5.5 V for 1 ms starts a held wake. -/
  | wakeVoltageOk
  /-- BOOST_OVP_END (R159). After an OVP stop the boost rail falls below VSET and the controller resumes switching. -/
  | boostOvpEnd
  /-- PCIE_LINK_UP (R307). The PCIe link returns after a link-down and an EN write made while it was down takes effect. -/
  | pcieLinkUp
  deriving DecidableEq, Repr

end Sys2Proof
end

