-- ==== Sys2Proof/Decode.lean ====
section
/-! DEFINITION. The command that a word spells.  No row of the table gives bits: the commands of this block are operations and events, not instruction words. -/

namespace Sys2Proof

/-- The command that the `nbits`-bit word `w` spells by the table's bits: the table gives no row any, so none. -/
def decodeTableWord (_nbits _w : Nat) : Option Instr := none

end Sys2Proof
end

