-- ==== Sys2Proof/Machine/Operands.lean ====
section
/-! DEFINITION. The operand forms: little-endian byte strings (R4), fields of words, signed fields, and the names of the units as source identifiers, dies and ledger entries (R14, R15, R47). -/

namespace Sys2Proof.Machine

/-! ### Bytes and fields -/

/-- The number a little-endian byte string spells (R4). -/
def leNat : List Byte → Nat
  | [] => 0
  | b :: bs => b.toNat + 256 * leNat bs

/-- The `n` low bytes of `v`, least significant first (R4). -/
def leBytes : Nat → Nat → List Byte
  | 0, _ => []
  | n + 1, v => BitVec.ofNat 8 v :: leBytes n (v / 256)

/-- The number a big-endian byte string spells (network order, R4). -/
def beNat (bs : List Byte) : Nat := bs.foldl (fun a b => a * 256 + b.toNat) 0

/-- The `n` low bytes of `v`, most significant first. -/
def beBytes (n v : Nat) : List Byte := (leBytes n v).reverse

/-- `len` bytes at `off` of a byte string, as a little-endian number. -/
def byteField (d : List Byte) (off len : Nat) : Nat := leNat ((d.drop off).take len)

/-- Bits `[lo + w - 1 : lo]` of `v`. -/
def bits (v lo w : Nat) : Nat := v / 2 ^ lo % 2 ^ w

/-- Bit `i` of `v`. -/
def bitOf (v i : Nat) : Bool := v / 2 ^ i % 2 = 1

/-- `v` with bit `i` set. -/
def setBitOf (v i : Nat) : Nat := if bitOf v i then v else v + 2 ^ i

/-- `v` with bit `i` clear. -/
def clearBitOf (v i : Nat) : Nat := if bitOf v i then v - 2 ^ i else v

/-- The two's complement reading of a `w`-bit field. -/
def signedOf (w v : Nat) : Int := if v % 2 ^ w < 2 ^ (w - 1) then (v % 2 ^ w : Nat) else (v % 2 ^ w : Nat) - (2 ^ w : Nat)

/-- The `w`-bit field that holds `i` in two's complement. -/
def fieldOfInt (w : Nat) (i : Int) : Nat := (i % (2 ^ w : Nat)).toNat

/-- Saturating sum in a `w`-bit counter (R7 counters, R45, R68). -/
def satAdd (w a b : Nat) : Nat := min (a + b) (2 ^ w - 1)

/-- The least `q` with `q * b ≥ a`. -/
def ceilDiv (a b : Nat) : Nat := (a + b - 1) / b

/-- `a / b` rounded to the nearest whole number, halves up. -/
def roundDiv (a b : Nat) : Nat := (2 * a + b) / (2 * b)

/-- `i` kept within `lo` to `hi`. -/
def clampInt (lo hi i : Int) : Int := max lo (min hi i)

/-- `v` kept within `lo` to `hi`. -/
def clampNat (lo hi v : Nat) : Nat := max lo (min hi v)

/-- What a 12-bit sample of `x` reads at full scale `fs` (R78): sign and magnitude, in the unit of `x` (DESIGN CHOICE, log entry 16). -/
def adc12 (fs : Nat) (x : Int) : Int := clampInt (-4095) 4095 (x * 4096 / fs) * fs / 4096

/-- A ledger VALUE from a whole number, sign-extended (R46). -/
def w64 (i : Int) : W64 := BitVec.ofInt 64 i

/-- 1 for true. -/
def b2n (b : Bool) : Nat := if b then 1 else 0

/-- Frame a is later than frame b (R11). -/
def frameLater (a b : Nat) : Bool :=
  let d := (a + 2 ^ 32 - b % 2 ^ 32) % 2 ^ 32
  decide (1 ≤ d) && decide (d ≤ 2147483647)

/-- Least whole number of the arithmetic progression of multiples of `k` that is strictly above `t`. -/
def nextMultiple (k t : Nat) : Nat := (t / k + 1) * k

/-! ### Dies and units -/

/-- The number of a die in lock bits, source identifiers and limp sources: P0 0, P1 1, V 2 (R45, R25). -/
def dieNum : Die → Nat
  | .p0 => 0
  | .p1 => 1
  | .v => 2

/-- The dies beside die L. -/
def allDies : List Die := [.p0, .p1, .v]

/-- The die of HS channel n or PD channel n - 48 (R15). -/
def chanDie (u : Nat) : Die :=
  if u < 4 then .p0 else if u < 8 then .p1 else if u < 16 then .p0 else if u < 24 then .p1
  else if u < 36 then .p0 else if u < 48 then .p1 else if u < 56 then .p0 else .p1

/-- The switch channels of a die. -/
def chansOf (d : Die) : List Nat := (List.range 64).filter (fun u => decide (chanDie u = d))

/-- The die of motor unit m: units 0 to 5 are the HB pairs, 6 to 13 start at integrated half-bridge m - 6 (R15, R115). -/
def motorDie (m : Nat) : Die :=
  if m < 3 then .p0 else if m < 6 then .p1 else if m < 10 then .p0 else .p1

/-- The motor units of a die. -/
def motorsOf (d : Die) : List Nat := (List.range 14).filter (fun m => decide (motorDie m = d))

/-- The die of switch input n (R15). -/
def inputDie (n : Nat) : Die := if n < 80 then .p0 else .p1

/-- The bank of valve channel n (R145): four channels to a bank. -/
def valveBank (n : Nat) : Nat := n / 4

/-- The power die with number i. -/
def dieOfNum (i : Nat) : Die := if i = 0 then .p0 else if i = 1 then .p1 else .v

/-- Source identifier of a switch channel (R14). -/
def chanSrc (u : Nat) : Nat := if u < 48 then 0x0100 + u else 0x0200 + (u - 48)

/-- Source identifier of a motor unit, valve channel, valve bank, LED sink and input (R14). -/
def motorSrc (m : Nat) : Nat := 0x0300 + m
def valveSrc (n : Nat) : Nat := 0x0400 + n
def ledSrc (n : Nat) : Nat := 0x0500 + n
def inputSrc (n : Nat) : Nat := 0x0600 + n
def canSrc (c : Nat) : Nat := 0x0700 + c
def linSrc (n : Nat) : Nat := 0x0800 + n
def ethSrc (p : Nat) : Nat := 0x0900 + p

end Sys2Proof.Machine
end

