-- ==== Sys2Proof/Machine/Crypto.lean ====
section
/-! DEFINITION. The algorithms that the cipher engine, the access engine and the configuration commit use, as their standards define them: AES (FIPS 197), the modes of R313, SHA-256 (FIPS 180-4), the derivation of R321, and cyclic redundancy checks. -/

namespace Sys2Proof.Machine

/-- Bytewise exclusive or of two strings, as long as the shorter. -/
def xorBytes (a b : List Byte) : List Byte := List.zipWith (fun x y => x ^^^ y) a b

/-- A string cut into blocks of 16 bytes; `n` bounds their number. -/
def blocks16 : Nat → List Byte → List (List Byte)
  | 0, _ => []
  | n + 1, bs => if bs = [] then [] else bs.take 16 :: blocks16 n (bs.drop 16)

/-- A string filled with zeros to a multiple of 16 bytes. -/
def padZero (bs : List Byte) : List Byte := bs ++ List.replicate ((16 - bs.length % 16) % 16) 0#8

/-! ### AES (FIPS 197) -/

/-- Multiplication by x in GF(2^8). -/
def xtime (b : Byte) : Byte := if b.toNat < 128 then b <<< 1 else (b <<< 1) ^^^ 0x1B#8

/-- Multiplication in GF(2^8), over the `n` low bits of the first factor. -/
def gmul : Nat → Byte → Byte → Byte
  | 0, _, _ => 0#8
  | n + 1, a, b => (if a.toNat % 2 = 1 then b else 0#8) ^^^ gmul n (a >>> 1) (xtime b)

/-- The multiplicative inverse: the 254th power. -/
def ginv (a : Byte) : Byte :=
  let sq := fun (x : Byte) => gmul 8 x x
  let a2 := sq a
  let a3 := gmul 8 a2 a
  let a6 := sq a3
  let a7 := gmul 8 a6 a
  let a14 := sq a7
  let a15 := gmul 8 a14 a
  let a30 := sq a15
  let a31 := gmul 8 a30 a
  let a62 := sq a31
  let a63 := gmul 8 a62 a
  let a126 := sq a63
  let a127 := gmul 8 a126 a
  sq a127

/-- SubBytes on one byte. -/
def sbox (a : Byte) : Byte :=
  let b := ginv a
  b ^^^ b.rotateLeft 1 ^^^ b.rotateLeft 2 ^^^ b.rotateLeft 3 ^^^ b.rotateLeft 4 ^^^ 0x63#8

/-- InvSubBytes on one byte. -/
def invSbox (a : Byte) : Byte := ginv (a.rotateLeft 1 ^^^ a.rotateLeft 3 ^^^ a.rotateLeft 6 ^^^ 0x05#8)

/-- Byte `i` of a string, 0 past its end. -/
def byteAt (bs : List Byte) (i : Nat) : Byte := bs.getD i 0#8

/-- ShiftRows and its inverse; byte i of the state stands in row i mod 4, column i / 4. -/
def shiftRows (s : List Byte) : List Byte := (List.range 16).map (fun i => byteAt s ((i + 4 * (i % 4)) % 16))
def invShiftRows (s : List Byte) : List Byte := (List.range 16).map (fun i => byteAt s ((i + 12 * (i % 4)) % 16))

/-- MixColumns with the factors of its first row; the later rows rotate them. -/
def mixWith (k : List Byte) (s : List Byte) : List Byte :=
  (List.range 16).map (fun i =>
    let c := i / 4 * 4
    (List.range 4).foldl (fun a j => a ^^^ gmul 8 (byteAt k ((j + 4 - i % 4) % 4)) (byteAt s (c + j))) 0#8)

def mixColumns (s : List Byte) : List Byte := mixWith [2#8, 3#8, 1#8, 1#8] s
def invMixColumns (s : List Byte) : List Byte := mixWith [0x0E#8, 0x0B#8, 0x0D#8, 0x09#8] s

/-- The words of the key schedule, last word first, `n` more to make; `i` is the number of the next one. -/
def keyWords (nk : Nat) : Nat → Nat → Byte → List (List Byte) → List (List Byte)
  | 0, _, _, ws => ws
  | n + 1, i, rc, ws =>
    let prev := ws.getD 0 []
    let t := if i % nk = 0 then xorBytes ((prev.drop 1 ++ prev.take 1).map sbox) [rc, 0#8, 0#8, 0#8]
      else if nk = 8 ∧ i % nk = 4 then prev.map sbox else prev
    keyWords nk n (i + 1) (if i % nk = 0 then xtime rc else rc) (xorBytes (ws.getD (nk - 1) []) t :: ws)

/-- The round keys of a key of 16 or 32 bytes. -/
def roundKeys (key : List Byte) : List (List Byte) :=
  let nk := key.length / 4
  let first := ((List.range nk).map (fun i => (key.drop (4 * i)).take 4)).reverse
  let ws := (keyWords nk (4 * (nk + 7) - nk) nk 1#8 first).reverse
  (List.range (nk + 7)).map (fun r => ((ws.drop (4 * r)).take 4).flatten)

/-- The middle rounds of encryption. -/
def encRounds : List (List Byte) → List Byte → List Byte
  | [], s => s
  | [k], s => xorBytes (shiftRows (s.map sbox)) k
  | k :: ks, s => encRounds ks (xorBytes (mixColumns (shiftRows (s.map sbox))) k)

/-- The middle rounds of decryption. -/
def decRounds : List (List Byte) → List Byte → List Byte
  | [], s => s
  | [k], s => xorBytes ((invShiftRows s).map invSbox) k
  | k :: ks, s => decRounds ks (invMixColumns (xorBytes ((invShiftRows s).map invSbox) k))

/-- AES of one block. -/
def aesEnc (key block : List Byte) : List Byte :=
  match roundKeys key with
  | [] => block
  | k :: ks => encRounds ks (xorBytes block k)

/-- The inverse cipher of one block. -/
def aesDec (key block : List Byte) : List Byte :=
  match (roundKeys key).reverse with
  | [] => block
  | k :: ks => decRounds ks (xorBytes block k)

/-! ### Modes (R313, R316) -/

/-- A counter block whose last 4 bytes count as a 32-bit big-endian number. -/
def ctrBlock (icb : List Byte) (i : Nat) : List Byte := icb.take 12 ++ beBytes 4 ((beNat (icb.drop 12) + i) % 2 ^ 32)

/-- The key stream of `n` bytes from counter block `icb` + `i0` on. -/
def keyStream (key icb : List Byte) (i0 n : Nat) : List Byte :=
  ((List.range ((n + 15) / 16)).map (fun i => aesEnc key (ctrBlock icb (i0 + i)))).flatten.take n

/-- CTR in either direction. -/
def ctrCrypt (key icb data : List Byte) : List Byte := xorBytes data (keyStream key icb 0 data.length)

/-- CBC over whole blocks. -/
def cbcEncBlocks (key : List Byte) : List Byte → List (List Byte) → List (List Byte)
  | _, [] => []
  | iv, b :: bs => let c := aesEnc key (xorBytes b iv); c :: cbcEncBlocks key c bs

def cbcDecBlocks (key : List Byte) : List Byte → List (List Byte) → List (List Byte)
  | _, [] => []
  | iv, c :: cs => xorBytes (aesDec key c) iv :: cbcDecBlocks key c cs

/-- CBC encryption with the padding of R316. -/
def cbcEncrypt (key iv data : List Byte) : List Byte :=
  let p := 16 - data.length % 16
  let d := data ++ List.replicate p (BitVec.ofNat 8 p)
  (cbcEncBlocks key iv (blocks16 d.length d)).flatten

/-- CBC decryption; none where the padding is malformed. -/
def cbcDecrypt (key iv data : List Byte) : Option (List Byte) :=
  let d := (cbcDecBlocks key iv (blocks16 data.length data)).flatten
  let p := (d.getLast?.getD 0#8).toNat
  if 1 ≤ p ∧ p ≤ 16 ∧ p ≤ d.length ∧ (d.drop (d.length - p)).all (fun b => decide (b.toNat = p)) then some (d.take (d.length - p)) else none

/-- CBC-MAC of whole blocks. -/
def cbcMac (key : List Byte) (bs : List (List Byte)) : List Byte :=
  bs.foldl (fun c b => aesEnc key (xorBytes b c)) (List.replicate 16 0#8)

/-- Doubling in GF(2^128) as CMAC does it. -/
def cmacDouble (k : List Byte) : List Byte :=
  let n := beNat k * 2
  let m := if n < 2 ^ 128 then n else (n - 2 ^ 128) ^^^ 0x87
  beBytes 16 m

/-- CMAC of a message, all 16 bytes (SP 800-38B). -/
def cmac (key msg : List Byte) : List Byte :=
  let k1 := cmacDouble (aesEnc key (List.replicate 16 0#8))
  let k2 := cmacDouble k1
  let n := (msg.length - 1) / 16 * 16
  let tail := msg.drop n
  let last := if tail.length = 16 then xorBytes tail k1
    else xorBytes (tail ++ 0x80#8 :: List.replicate (15 - tail.length) 0#8) k2
  cbcMac key (blocks16 msg.length (msg.take n) ++ [last])

/-- The MAC that CCM encrypts (SP 800-38C), q = 3. -/
def ccmMac (key nonce aad data : List Byte) (tlen : Nat) : List Byte :=
  let b0 := BitVec.ofNat 8 ((if aad = [] then 0 else 64) + 8 * ((tlen - 2) / 2) + 2) :: nonce ++ beBytes 3 data.length
  let a := if aad = [] then [] else if aad.length < 65280 then beBytes 2 aad.length ++ aad else [0xFF#8, 0xFE#8] ++ beBytes 4 aad.length ++ aad
  let m := padZero a ++ padZero data
  cbcMac key (b0 :: blocks16 m.length m)

/-- CCM: the counter blocks start at A0 for the tag and A1 for the data. -/
def ccmTag (key nonce aad data : List Byte) (tlen : Nat) : List Byte :=
  (xorBytes (ccmMac key nonce aad data tlen) (aesEnc key (2#8 :: nonce ++ [0#8, 0#8, 0#8]))).take tlen

def ccmCrypt (key nonce data : List Byte) : List Byte := xorBytes data (keyStream key (2#8 :: nonce ++ [0#8, 0#8, 0#8]) 1 data.length)

/-- Multiplication in the field of GHASH: `n` bits of x remain, `z` the sum so far, `v` the shifted factor. -/
def ghMul : Nat → Nat → Nat → Nat → Nat
  | 0, _, z, _ => z
  | n + 1, x, z, v =>
    ghMul n x (if x / 2 ^ n % 2 = 1 then z ^^^ v else z) (if v % 2 = 0 then v / 2 else (v / 2) ^^^ (0xE1 * 2 ^ 120))

/-- GHASH of a padded string. -/
def ghash (h : Nat) (d : List Byte) : Nat := (blocks16 d.length d).foldl (fun y b => ghMul 128 (y ^^^ beNat b) 0 h) 0

/-- GCM (SP 800-38D) with a 96-bit IV: its tag over associated data and ciphertext. -/
def gcmTag (key iv aad ct : List Byte) (tlen : Nat) : List Byte :=
  let h := beNat (aesEnc key (List.replicate 16 0#8))
  let s := ghash h (padZero aad ++ padZero ct ++ beBytes 8 (aad.length * 8) ++ beBytes 8 (ct.length * 8))
  (xorBytes (beBytes 16 s) (aesEnc key (iv ++ beBytes 4 1))).take tlen

def gcmCrypt (key iv data : List Byte) : List Byte := xorBytes data (keyStream key (iv ++ beBytes 4 1) 1 data.length)

/-! ### Key derivation (R321) -/

/-- The first `n` bytes of the SP 800-108 counter-mode output of `root` for a label, an epoch and a KEYLEN. -/
def kdf (root label : List Byte) (epoch keylen n : Nat) : List Byte :=
  let fixed := label ++ [0#8] ++ beBytes 2 epoch ++ beBytes 1 keylen ++ beBytes 4 (if keylen = 0 then 160 else 288)
  ((List.range (2 + keylen)).map (fun i => cmac root (beBytes 4 (i + 1) ++ fixed))).flatten.take n

/-! ### SHA-256 (FIPS 180-4) -/

/-- The initial hash value and the round constants. -/
def shaInit : List W32 := [0x6A09E667, 0xBB67AE85, 0x3C6EF372, 0xA54FF53A, 0x510E527F, 0x9B05688C, 0x1F83D9AB, 0x5BE0CD19]
def shaK : List W32 := [0x428A2F98, 0x71374491, 0xB5C0FBCF, 0xE9B5DBA5, 0x3956C25B, 0x59F111F1, 0x923F82A4, 0xAB1C5ED5,
  0xD807AA98, 0x12835B01, 0x243185BE, 0x550C7DC3, 0x72BE5D74, 0x80DEB1FE, 0x9BDC06A7, 0xC19BF174,
  0xE49B69C1, 0xEFBE4786, 0x0FC19DC6, 0x240CA1CC, 0x2DE92C6F, 0x4A7484AA, 0x5CB0A9DC, 0x76F988DA,
  0x983E5152, 0xA831C66D, 0xB00327C8, 0xBF597FC7, 0xC6E00BF3, 0xD5A79147, 0x06CA6351, 0x14292967] ++
  [0x27B70A85, 0x2E1B2138, 0x4D2C6DFC, 0x53380D13, 0x650A7354, 0x766A0ABB, 0x81C2C92E, 0x92722C85,
  0xA2BFE8A1, 0xA81A664B, 0xC24B8B70, 0xC76C51A3, 0xD192E819, 0xD6990624, 0xF40E3585, 0x106AA070,
  0x19A4C116, 0x1E376C08, 0x2748774C, 0x34B0BCB5, 0x391C0CB3, 0x4ED8AA4A, 0x5B9CCA4F, 0x682E6FF3,
  0x748F82EE, 0x78A5636F, 0x84C87814, 0x8CC70208, 0x90BEFFFA, 0xA4506CEB, 0xBEF9A3F7, 0xC67178F2]

def rotr (x : W32) (n : Nat) : W32 := x.rotateRight n

/-- The message schedule, newest word first, `n` more to make. -/
def shaSched : Nat → List W32 → List W32
  | 0, ws => ws
  | n + 1, ws =>
    let a := ws.getD 1 0
    let b := ws.getD 14 0
    let w := (rotr a 17 ^^^ rotr a 19 ^^^ (a >>> 10)) + ws.getD 6 0 + (rotr b 7 ^^^ rotr b 18 ^^^ (b >>> 3)) + ws.getD 15 0
    shaSched n (w :: ws)

/-- One round. -/
def shaRound (v : List W32) (kw : W32 × W32) : List W32 :=
  match v with
  | [a, b, c, d, e, f, g, h] =>
    let t1 := h + (rotr e 6 ^^^ rotr e 11 ^^^ rotr e 25) + ((e &&& f) ^^^ (~~~e &&& g)) + kw.1 + kw.2
    let t2 := (rotr a 2 ^^^ rotr a 13 ^^^ rotr a 22) + ((a &&& b) ^^^ (a &&& c) ^^^ (b &&& c))
    [t1 + t2, a, b, c, d + t1, e, f, g]
  | _ => v

/-- One block of 64 bytes. -/
def shaBlock (h : List W32) (blk : List Byte) : List W32 :=
  let w16 := ((List.range 16).map (fun i => BitVec.ofNat 32 (beNat ((blk.drop (4 * i)).take 4)))).reverse
  List.zipWith (fun x y => x + y) h ((shaK.zip (shaSched 48 w16).reverse).foldl shaRound h)

/-- A string cut into blocks of 64 bytes. -/
def blocks64 : Nat → List Byte → List (List Byte)
  | 0, _ => []
  | n + 1, bs => if bs = [] then [] else bs.take 64 :: blocks64 n (bs.drop 64)

/-- SHA-256. -/
def sha256 (m : List Byte) : List Byte :=
  let p := m ++ 0x80#8 :: List.replicate ((119 - m.length % 64) % 64) 0#8 ++ beBytes 8 (m.length * 8)
  ((blocks64 p.length p).foldl shaBlock shaInit).flatMap (fun w => beBytes 4 w.toNat)

/-! ### Cyclic redundancy checks -/

/-- A CRC of `w` bits with polynomial `poly` over a string, most significant bit first. -/
def crcBits (w poly : Nat) : Nat → Nat → Nat
  | 0, c => c
  | n + 1, c => crcBits w poly n (if c / 2 ^ (w - 1) % 2 = 1 then (c * 2 % 2 ^ w) ^^^ poly else c * 2 % 2 ^ w)

def crcOf (w poly init : Nat) (bs : List Byte) : Nat :=
  bs.foldl (fun c b => crcBits w poly 8 (c ^^^ (b.toNat * 2 ^ (w - 8)))) init

end Sys2Proof.Machine
end

