-- ==== Sys2Proof/Config.lean ====
section
/-! DEFINITION. What the spec leaves open: opaque constants without a value.  A statement that holds of the model holds whatever these are. -/

namespace Sys2Proof.Config

/-- The grade fused into `SYS_ID.GRADE` (R3): true for ZB-9600-E. -/
opaque gradeE : Bool

/-- The n-th free 64-bit value. -/
opaque freeWord : Nat → W64

/-- Error of the short threshold of a channel, per mille (R82 eSHORT); kept within -80 to 80 where it is used. -/
opaque shortError : Nat → Int

/-- Error of a VDSTH comparison of a PD channel or an HB unit, in mV (R465 e_VDS); kept within 10 % and 30 mV where it is used. -/
opaque vdsError : Nat → Int

/-- The integrated short limit of a switch of a motor unit on HBI half-bridges, in mA (R127), which the spec does not give. -/
opaque hbiShort : Nat → Nat

/-- The junction temperature in 1/16 °C at which a unit's ember latch sets, and at which it can release (R82); kept within 170 to 180 °C and 150 to 160 °C where they are used. -/
opaque emberSetTj : EmberUnit → Int
opaque emberRelTj : EmberUnit → Int

/-- Deviation of a wick conductor node, and of a bundle node, from the exact recurrence, in 1/256 K, at a step (R87); kept within -24 to 24 where it is used. -/
opaque wickDev : Nat → Nat → Int
opaque bundleDev : Nat → Nat → Int

/-- Error of the open-load threshold comparison of a channel, in mV (R114 eVTH); kept within -50 to 50 where it is used. -/
opaque olError : Nat → Nat → Int

/-- The short limit of a valve channel and of a bank switch in mA (R168 IVSC, IBSC); kept within 5,400 to 6,600 and 10,800 to 13,200 where they are used. -/
opaque valveShort : Nat → Nat
opaque bankShort : Nat → Nat

/-- The byte with which a frame is filled up to 64 bytes when its tag is removed (R276). -/
opaque ethPad : Byte

/-- The speed code that the internal Ethernet port reports (R283). -/
opaque ethHostSpeed : BitVec 2

end Sys2Proof.Config
end

