-- ==== Sys2Proof/Machine/Regs.lean ====
section
/-! DEFINITION. The BAR0 register file's layout (R470, R473 and the register tables of every chapter): one descriptor for each field, and for each register its words, access masks and reset value.  Written out from the register tables of the spec. -/

namespace Sys2Proof.Machine

/-- A register field: the BAR0 offset of its word, its lowest bit and its width (R5, R470).  A field wider than 32 bits takes the two words from `off` on. -/
structure Fld where
  off : Nat
  lo : Nat
  w : Nat
  deriving DecidableEq, Repr

namespace Reg

/-- `SYS_ID.PART` (R3). -/
abbrev SYS_ID.PART : Fld := ⟨0x00000, 0, 16⟩
/-- `SYS_ID.STEP` (R3). -/
abbrev SYS_ID.STEP : Fld := ⟨0x00000, 16, 8⟩
/-- `SYS_ID.GRADE` (R3). -/
abbrev SYS_ID.GRADE : Fld := ⟨0x00000, 24, 1⟩
/-- `TIME_STATE.STATE` (R45). -/
abbrev TIME_STATE.STATE : Fld := ⟨0x02000, 0, 3⟩
/-- `TIME_STATE.ISLOCK` (R45). -/
abbrev TIME_STATE.ISLOCK : Fld := ⟨0x02000, 4, 3⟩
/-- `TIME_STATE.XTALOK` (R45). -/
abbrev TIME_STATE.XTALOK : Fld := ⟨0x02000, 8, 1⟩
/-- `TIME_STATE.ASSYNC` (R45). -/
abbrev TIME_STATE.ASSYNC : Fld := ⟨0x02000, 9, 1⟩
/-- `TIME_NOW.NOW` (R45). -/
abbrev TIME_NOW.NOW : Fld := ⟨0x02008, 0, 64⟩
/-- `TIME_FRAME.F` (R45). -/
abbrev TIME_FRAME.F : Fld := ⟨0x02010, 0, 32⟩
/-- `TIME_BOUND.B` (R45). -/
abbrev TIME_BOUND.B : Fld := ⟨0x02018, 0, 64⟩
/-- `TIME_PERIOD.P` (R45). -/
abbrev TIME_PERIOD.P : Fld := ⟨0x02020, 0, 22⟩
/-- `TIME_DISC.ASEN` (R45). -/
abbrev TIME_DISC.ASEN : Fld := ⟨0x02024, 0, 1⟩
/-- `TIME_DISC.ASPORT` (R45). -/
abbrev TIME_DISC.ASPORT : Fld := ⟨0x02024, 1, 2⟩
/-- `TIME_DISC.SLEWMAX` (R45). -/
abbrev TIME_DISC.SLEWMAX : Fld := ⟨0x02024, 8, 8⟩
/-- `TIME_RATE.CORR` (R45). -/
abbrev TIME_RATE.CORR : Fld := ⟨0x02028, 0, 24⟩
/-- `TIME_ASOFS.OFS` (R45). -/
abbrev TIME_ASOFS.OFS : Fld := ⟨0x02030, 0, 64⟩
/-- `TIME_DETSTAT.BUDGET` (R45). -/
abbrev TIME_DETSTAT.BUDGET : Fld := ⟨0x02040, 0, 1⟩
/-- `TIME_DETSTAT.IMMEDIATE` (R45). -/
abbrev TIME_DETSTAT.IMMEDIATE : Fld := ⟨0x02040, 1, 1⟩
/-- `TIME_DETSTAT.DEGRADED` (R45). -/
abbrev TIME_DETSTAT.DEGRADED : Fld := ⟨0x02040, 2, 1⟩
/-- `TIME_DETSTAT.LATE_UPDATE` (R45). -/
abbrev TIME_DETSTAT.LATE_UPDATE : Fld := ⟨0x02040, 3, 1⟩
/-- `TIME_DETSTAT.LATE_APPLY` (R45). -/
abbrev TIME_DETSTAT.LATE_APPLY : Fld := ⟨0x02040, 4, 1⟩
/-- `TIME_DETSTAT.ISLAND` (R45). -/
abbrev TIME_DETSTAT.ISLAND : Fld := ⟨0x02040, 5, 1⟩
/-- `TIME_DETSTAT.INJECT` (R45). -/
abbrev TIME_DETSTAT.INJECT : Fld := ⟨0x02040, 6, 1⟩
/-- `TIME_DETFIRST.F` (R45). -/
abbrev TIME_DETFIRST.F : Fld := ⟨0x02044, 0, 32⟩
/-- `TIME_DETCNT.N` (R45). -/
abbrev TIME_DETCNT.N : Fld := ⟨0x02048, 0, 32⟩
/-- `TIME_DETANCHOR.F` (R45). -/
abbrev TIME_DETANCHOR.F : Fld := ⟨0x0204C, 0, 32⟩
/-- `TIME_DETNOW.HOLD` (R45). -/
abbrev TIME_DETNOW.HOLD : Fld := ⟨0x02050, 0, 1⟩
/-- `TIME_LINKERR.LP0` (R45). -/
abbrev TIME_LINKERR.LP0 : Fld := ⟨0x02054, 0, 1⟩
/-- `TIME_LINKERR.LP1` (R45). -/
abbrev TIME_LINKERR.LP1 : Fld := ⟨0x02054, 1, 1⟩
/-- `TIME_LINKERR.LV` (R45). -/
abbrev TIME_LINKERR.LV : Fld := ⟨0x02054, 2, 1⟩
/-- `TIME_LINKERR.PP` (R45). -/
abbrev TIME_LINKERR.PP : Fld := ⟨0x02054, 3, 1⟩
/-- `TIME_XTAL.FAILS` (R45). -/
abbrev TIME_XTAL.FAILS : Fld := ⟨0x02058, 0, 16⟩
/-- `TIME_XTAL.STARTT` (R45). -/
abbrev TIME_XTAL.STARTT : Fld := ⟨0x02058, 16, 16⟩
/-- `LEDG_INFO.NENT` (R68). -/
abbrev LEDG_INFO.NENT : Fld := ⟨0x04000, 0, 18⟩
/-- `LEDG_BLOB.USED` (R68). -/
abbrev LEDG_BLOB.USED : Fld := ⟨0x04004, 0, 22⟩
/-- `LEDG_UPDCNT.N` (R68). -/
abbrev LEDG_UPDCNT.N : Fld := ⟨0x04008, 0, 64⟩
/-- `LEDG_EXPCNT.N` (R68). -/
abbrev LEDG_EXPCNT.N : Fld := ⟨0x04010, 0, 32⟩
/-- `LEDG_SUPCNT.N` (R68). -/
abbrev LEDG_SUPCNT.N : Fld := ⟨0x04014, 0, 32⟩
/-- `LEDG_LATECNT.N` (R68). -/
abbrev LEDG_LATECNT.N : Fld := ⟨0x04018, 0, 32⟩
/-- `LEDG_DECERR.N` (R68). -/
abbrev LEDG_DECERR.N : Fld := ⟨0x0401C, 0, 32⟩
/-- `LEDG_INTAKE.OCC` (R68). -/
abbrev LEDG_INTAKE.OCC : Fld := ⟨0x04020, 0, 13⟩
/-- `LEDG_INTAKE.PEAK` (R68). -/
abbrev LEDG_INTAKE.PEAK : Fld := ⟨0x04020, 16, 13⟩
/-- `LEDG_STAT.FULL` (R68). -/
abbrev LEDG_STAT.FULL : Fld := ⟨0x04024, 0, 1⟩
/-- `LEDG_STAT.LATE` (R68). -/
abbrev LEDG_STAT.LATE : Fld := ⟨0x04024, 1, 1⟩
/-- `LEDG_STAT.DECERR` (R68). -/
abbrev LEDG_STAT.DECERR : Fld := ⟨0x04024, 2, 1⟩
/-- `LEDG_STAT.ENCSTALE` (R68). -/
abbrev LEDG_STAT.ENCSTALE : Fld := ⟨0x04024, 3, 1⟩
/-- `LEDG_PEEKIDX.IDX` (R68). -/
abbrev LEDG_PEEKIDX.IDX : Fld := ⟨0x04040, 0, 17⟩
/-- `LEDG_PEEKT.T` (R68). -/
abbrev LEDG_PEEKT.T : Fld := ⟨0x04048, 0, 64⟩
/-- `LEDG_PEEK0.W` (R68). -/
abbrev LEDG_PEEK0.W : Fld := ⟨0x04050, 0, 32⟩
/-- `LEDG_PEEK1.W` (R68). -/
abbrev LEDG_PEEK1.W : Fld := ⟨0x04054, 0, 32⟩
/-- `LEDG_PEEK2.W` (R68). -/
abbrev LEDG_PEEK2.W : Fld := ⟨0x04058, 0, 32⟩
/-- `LEDG_PEEK3.W` (R68). -/
abbrev LEDG_PEEK3.W : Fld := ⟨0x0405C, 0, 32⟩
/-- `LEDG_PEEK4.W` (R68). -/
abbrev LEDG_PEEK4.W : Fld := ⟨0x04060, 0, 32⟩
/-- `LEDG_PEEK5.W` (R68). -/
abbrev LEDG_PEEK5.W : Fld := ⟨0x04064, 0, 32⟩
/-- `LEDG_PEEK6.W` (R68). -/
abbrev LEDG_PEEK6.W : Fld := ⟨0x04068, 0, 32⟩
/-- `LEDG_PEEK7.W` (R68). -/
abbrev LEDG_PEEK7.W : Fld := ⟨0x0406C, 0, 32⟩
/-- `HSW_CFG.ENABLE` (R93). -/
abbrev HSW_CFG.ENABLE (n : Nat) : Fld := ⟨0x08000 + 64 * n, 0, 1⟩
/-- `HSW_CFG.CLASS` (R93). -/
abbrev HSW_CFG.CLASS (n : Nat) : Fld := ⟨0x08000 + 64 * n, 1, 2⟩
/-- `HSW_CFG.LAMP` (R93). -/
abbrev HSW_CFG.LAMP (n : Nat) : Fld := ⟨0x08000 + 64 * n, 3, 1⟩
/-- `HSW_CFG.COMPEN` (R93). -/
abbrev HSW_CFG.COMPEN (n : Nat) : Fld := ⟨0x08000 + 64 * n, 4, 1⟩
/-- `HSW_CFG.OLEN` (R93). -/
abbrev HSW_CFG.OLEN (n : Nat) : Fld := ⟨0x08000 + 64 * n, 5, 1⟩
/-- `HSW_CFG.WICKEN` (R93). -/
abbrev HSW_CFG.WICKEN (n : Nat) : Fld := ⟨0x08000 + 64 * n, 6, 1⟩
/-- `HSW_CFG.SLEW` (R93). -/
abbrev HSW_CFG.SLEW (n : Nat) : Fld := ⟨0x08000 + 64 * n, 8, 2⟩
/-- `HSW_CFG.BGRP` (R93). -/
abbrev HSW_CFG.BGRP (n : Nat) : Fld := ⟨0x08000 + 64 * n, 12, 4⟩
/-- `HSW_CFG.LIMP` (R93). -/
abbrev HSW_CFG.LIMP (n : Nat) : Fld := ⟨0x08000 + 64 * n, 16, 2⟩
/-- `HSW_CFG.FBDIV` (R93). -/
abbrev HSW_CFG.FBDIV (n : Nat) : Fld := ⟨0x08000 + 64 * n, 24, 8⟩
/-- `HSW_OC.ISHORT` (R93). -/
abbrev HSW_OC.ISHORT (n : Nat) : Fld := ⟨0x08004 + 64 * n, 0, 8⟩
/-- `HSW_OC.IOVL` (R93). -/
abbrev HSW_OC.IOVL (n : Nat) : Fld := ⟨0x08004 + 64 * n, 8, 10⟩
/-- `HSW_OC.TOVL` (R93). -/
abbrev HSW_OC.TOVL (n : Nat) : Fld := ⟨0x08004 + 64 * n, 20, 12⟩
/-- `HSW_RETRY.MAX` (R93). -/
abbrev HSW_RETRY.MAX (n : Nat) : Fld := ⟨0x08008 + 64 * n, 0, 4⟩
/-- `PDRV_RETRY.MAX` (R95). -/
abbrev PDRV_RETRY.MAX (n : Nat) : Fld := ⟨0x09008 + 64 * n, 0, 4⟩
/-- `HSW_RETRY.DELAY` (R93). -/
abbrev HSW_RETRY.DELAY (n : Nat) : Fld := ⟨0x08008 + 64 * n, 8, 8⟩
/-- `PDRV_RETRY.DELAY` (R95). -/
abbrev PDRV_RETRY.DELAY (n : Nat) : Fld := ⟨0x09008 + 64 * n, 8, 8⟩
/-- `HSW_RETRY.REFILL` (R93). -/
abbrev HSW_RETRY.REFILL (n : Nat) : Fld := ⟨0x08008 + 64 * n, 16, 8⟩
/-- `PDRV_RETRY.REFILL` (R95). -/
abbrev PDRV_RETRY.REFILL (n : Nat) : Fld := ⟨0x09008 + 64 * n, 16, 8⟩
/-- `HSW_PWM.FREQ` (R93). -/
abbrev HSW_PWM.FREQ (n : Nat) : Fld := ⟨0x0800C + 64 * n, 0, 11⟩
/-- `PDRV_PWM.FREQ` (R95). -/
abbrev PDRV_PWM.FREQ (n : Nat) : Fld := ⟨0x0900C + 64 * n, 0, 11⟩
/-- `HSW_PWM.PHASE` (R93). -/
abbrev HSW_PWM.PHASE (n : Nat) : Fld := ⟨0x0800C + 64 * n, 12, 4⟩
/-- `PDRV_PWM.PHASE` (R95). -/
abbrev PDRV_PWM.PHASE (n : Nat) : Fld := ⟨0x0900C + 64 * n, 12, 4⟩
/-- `HSW_INRUSH.ILIM` (R93). -/
abbrev HSW_INRUSH.ILIM (n : Nat) : Fld := ⟨0x08010 + 64 * n, 0, 10⟩
/-- `HSW_INRUSH.TWIN` (R93). -/
abbrev HSW_INRUSH.TWIN (n : Nat) : Fld := ⟨0x08010 + 64 * n, 16, 8⟩
/-- `HSW_INRUSH.SOFT` (R93). -/
abbrev HSW_INRUSH.SOFT (n : Nat) : Fld := ⟨0x08010 + 64 * n, 24, 8⟩
/-- `HSW_WICK0.RPM` (R93). -/
abbrev HSW_WICK0.RPM (n : Nat) : Fld := ⟨0x08014 + 64 * n, 0, 16⟩
/-- `PDRV_WICK0.RPM` (R95). -/
abbrev PDRV_WICK0.RPM (n : Nat) : Fld := ⟨0x09014 + 64 * n, 0, 16⟩
/-- `HSW_WICK0.CPM` (R93). -/
abbrev HSW_WICK0.CPM (n : Nat) : Fld := ⟨0x08014 + 64 * n, 16, 16⟩
/-- `PDRV_WICK0.CPM` (R95). -/
abbrev PDRV_WICK0.CPM (n : Nat) : Fld := ⟨0x09014 + 64 * n, 16, 16⟩
/-- `HSW_WICK1.RCB` (R93). -/
abbrev HSW_WICK1.RCB (n : Nat) : Fld := ⟨0x08018 + 64 * n, 0, 16⟩
/-- `PDRV_WICK1.RCB` (R95). -/
abbrev PDRV_WICK1.RCB (n : Nat) : Fld := ⟨0x09018 + 64 * n, 0, 16⟩
/-- `HSW_WICK1.TLIM` (R93). -/
abbrev HSW_WICK1.TLIM (n : Nat) : Fld := ⟨0x08018 + 64 * n, 16, 8⟩
/-- `PDRV_WICK1.TLIM` (R95). -/
abbrev PDRV_WICK1.TLIM (n : Nat) : Fld := ⟨0x09018 + 64 * n, 16, 8⟩
/-- `HSW_WICK1.THYST` (R93). -/
abbrev HSW_WICK1.THYST (n : Nat) : Fld := ⟨0x08018 + 64 * n, 24, 8⟩
/-- `PDRV_WICK1.THYST` (R95). -/
abbrev PDRV_WICK1.THYST (n : Nat) : Fld := ⟨0x09018 + 64 * n, 24, 8⟩
/-- `HSW_OL.VTH` (R93). -/
abbrev HSW_OL.VTH (n : Nat) : Fld := ⟨0x0801C + 64 * n, 0, 12⟩
/-- `HSW_OL.TPER` (R93). -/
abbrev HSW_OL.TPER (n : Nat) : Fld := ⟨0x0801C + 64 * n, 16, 8⟩
/-- `HSW_STAT.STATE` (R93). -/
abbrev HSW_STAT.STATE (n : Nat) : Fld := ⟨0x08020 + 64 * n, 0, 4⟩
/-- `PDRV_STAT.STATE` (R95). -/
abbrev PDRV_STAT.STATE (n : Nat) : Fld := ⟨0x09020 + 64 * n, 0, 4⟩
/-- `HSW_STAT.OP` (R93). -/
abbrev HSW_STAT.OP (n : Nat) : Fld := ⟨0x08020 + 64 * n, 4, 2⟩
/-- `PDRV_STAT.OP` (R95). -/
abbrev PDRV_STAT.OP (n : Nat) : Fld := ⟨0x09020 + 64 * n, 4, 2⟩
/-- `HSW_STAT.EMBER` (R93). -/
abbrev HSW_STAT.EMBER (n : Nat) : Fld := ⟨0x08020 + 64 * n, 6, 1⟩
/-- `PDRV_STAT.EMBER` (R95). -/
abbrev PDRV_STAT.EMBER (n : Nat) : Fld := ⟨0x09020 + 64 * n, 6, 1⟩
/-- `HSW_STAT.TRIPPED` (R93). -/
abbrev HSW_STAT.TRIPPED (n : Nat) : Fld := ⟨0x08020 + 64 * n, 7, 1⟩
/-- `PDRV_STAT.TRIPPED` (R95). -/
abbrev PDRV_STAT.TRIPPED (n : Nat) : Fld := ⟨0x09020 + 64 * n, 7, 1⟩
/-- `HSW_STAT.RETRYLEFT` (R93). -/
abbrev HSW_STAT.RETRYLEFT (n : Nat) : Fld := ⟨0x08020 + 64 * n, 8, 4⟩
/-- `PDRV_STAT.RETRYLEFT` (R95). -/
abbrev PDRV_STAT.RETRYLEFT (n : Nat) : Fld := ⟨0x09020 + 64 * n, 8, 4⟩
/-- `HSW_STAT.WHOLD` (R93). -/
abbrev HSW_STAT.WHOLD (n : Nat) : Fld := ⟨0x08020 + 64 * n, 12, 1⟩
/-- `PDRV_STAT.WHOLD` (R95). -/
abbrev PDRV_STAT.WHOLD (n : Nat) : Fld := ⟨0x09020 + 64 * n, 12, 1⟩
/-- `HSW_STAT.WWARN` (R93). -/
abbrev HSW_STAT.WWARN (n : Nat) : Fld := ⟨0x08020 + 64 * n, 13, 1⟩
/-- `PDRV_STAT.WWARN` (R95). -/
abbrev PDRV_STAT.WWARN (n : Nat) : Fld := ⟨0x09020 + 64 * n, 13, 1⟩
/-- `HSW_STAT.OLFLAG` (R93). -/
abbrev HSW_STAT.OLFLAG (n : Nat) : Fld := ⟨0x08020 + 64 * n, 14, 1⟩
/-- `PDRV_STAT.OLFLAG` (R95). -/
abbrev PDRV_STAT.OLFLAG (n : Nat) : Fld := ⟨0x09020 + 64 * n, 14, 1⟩
/-- `HSW_STAT.SBFLAG` (R93). -/
abbrev HSW_STAT.SBFLAG (n : Nat) : Fld := ⟨0x08020 + 64 * n, 15, 1⟩
/-- `PDRV_STAT.SBFLAG` (R95). -/
abbrev PDRV_STAT.SBFLAG (n : Nat) : Fld := ⟨0x09020 + 64 * n, 15, 1⟩
/-- `HSW_STAT.LIMPSRC` (R93). -/
abbrev HSW_STAT.LIMPSRC (n : Nat) : Fld := ⟨0x08020 + 64 * n, 16, 1⟩
/-- `PDRV_STAT.LIMPSRC` (R95). -/
abbrev PDRV_STAT.LIMPSRC (n : Nat) : Fld := ⟨0x09020 + 64 * n, 16, 1⟩
/-- `HSW_CAUSE.SHORT` (R93). -/
abbrev HSW_CAUSE.SHORT (n : Nat) : Fld := ⟨0x08024 + 64 * n, 0, 1⟩
/-- `PDRV_CAUSE.SHORT` (R95). -/
abbrev PDRV_CAUSE.SHORT (n : Nat) : Fld := ⟨0x09024 + 64 * n, 0, 1⟩
/-- `HSW_CAUSE.OVL` (R93). -/
abbrev HSW_CAUSE.OVL (n : Nat) : Fld := ⟨0x08024 + 64 * n, 1, 1⟩
/-- `PDRV_CAUSE.OVL` (R95). -/
abbrev PDRV_CAUSE.OVL (n : Nat) : Fld := ⟨0x09024 + 64 * n, 1, 1⟩
/-- `HSW_CAUSE.VDS` (R93). -/
abbrev HSW_CAUSE.VDS (n : Nat) : Fld := ⟨0x08024 + 64 * n, 2, 1⟩
/-- `PDRV_CAUSE.VDS` (R95). -/
abbrev PDRV_CAUSE.VDS (n : Nat) : Fld := ⟨0x09024 + 64 * n, 2, 1⟩
/-- `HSW_CAUSE.EMBER` (R93). -/
abbrev HSW_CAUSE.EMBER (n : Nat) : Fld := ⟨0x08024 + 64 * n, 3, 1⟩
/-- `PDRV_CAUSE.EMBER` (R95). -/
abbrev PDRV_CAUSE.EMBER (n : Nat) : Fld := ⟨0x09024 + 64 * n, 3, 1⟩
/-- `HSW_CAUSE.WICK` (R93). -/
abbrev HSW_CAUSE.WICK (n : Nat) : Fld := ⟨0x08024 + 64 * n, 4, 1⟩
/-- `PDRV_CAUSE.WICK` (R95). -/
abbrev PDRV_CAUSE.WICK (n : Nat) : Fld := ⟨0x09024 + 64 * n, 4, 1⟩
/-- `HSW_CAUSE.LOCK` (R93). -/
abbrev HSW_CAUSE.LOCK (n : Nat) : Fld := ⟨0x08024 + 64 * n, 5, 1⟩
/-- `PDRV_CAUSE.LOCK` (R95). -/
abbrev PDRV_CAUSE.LOCK (n : Nat) : Fld := ⟨0x09024 + 64 * n, 5, 1⟩
/-- `HSW_CAUSE.INVCMD` (R93). -/
abbrev HSW_CAUSE.INVCMD (n : Nat) : Fld := ⟨0x08024 + 64 * n, 6, 1⟩
/-- `PDRV_CAUSE.INVCMD` (R95). -/
abbrev PDRV_CAUSE.INVCMD (n : Nat) : Fld := ⟨0x09024 + 64 * n, 6, 1⟩
/-- `HSW_CAUSE.RETRY` (R93). -/
abbrev HSW_CAUSE.RETRY (n : Nat) : Fld := ⟨0x08024 + 64 * n, 7, 1⟩
/-- `PDRV_CAUSE.RETRY` (R95). -/
abbrev PDRV_CAUSE.RETRY (n : Nat) : Fld := ⟨0x09024 + 64 * n, 7, 1⟩
/-- `HSW_CAUSE.OPENLOAD` (R93). -/
abbrev HSW_CAUSE.OPENLOAD (n : Nat) : Fld := ⟨0x08024 + 64 * n, 8, 1⟩
/-- `PDRV_CAUSE.OPENLOAD` (R95). -/
abbrev PDRV_CAUSE.OPENLOAD (n : Nat) : Fld := ⟨0x09024 + 64 * n, 8, 1⟩
/-- `HSW_CAUSE.SHORTBAT` (R93). -/
abbrev HSW_CAUSE.SHORTBAT (n : Nat) : Fld := ⟨0x08024 + 64 * n, 9, 1⟩
/-- `PDRV_CAUSE.SHORTBAT` (R95). -/
abbrev PDRV_CAUSE.SHORTBAT (n : Nat) : Fld := ⟨0x09024 + 64 * n, 9, 1⟩
/-- `HSW_TRIPT.T` (R93). -/
abbrev HSW_TRIPT.T (n : Nat) : Fld := ⟨0x08028 + 64 * n, 0, 64⟩
/-- `PDRV_TRIPT.T` (R95). -/
abbrev PDRV_TRIPT.T (n : Nat) : Fld := ⟨0x09028 + 64 * n, 0, 64⟩
/-- `HSW_MEAS0.CUR` (R93). -/
abbrev HSW_MEAS0.CUR (n : Nat) : Fld := ⟨0x08030 + 64 * n, 0, 16⟩
/-- `PDRV_MEAS0.CUR` (R95). -/
abbrev PDRV_MEAS0.CUR (n : Nat) : Fld := ⟨0x09030 + 64 * n, 0, 16⟩
/-- `HSW_MEAS0.VOUT` (R93). -/
abbrev HSW_MEAS0.VOUT (n : Nat) : Fld := ⟨0x08030 + 64 * n, 16, 16⟩
/-- `PDRV_MEAS0.VOUT` (R95). -/
abbrev PDRV_MEAS0.VOUT (n : Nat) : Fld := ⟨0x09030 + 64 * n, 16, 16⟩
/-- `HSW_MEAS1.TJ` (R93). -/
abbrev HSW_MEAS1.TJ (n : Nat) : Fld := ⟨0x08034 + 64 * n, 0, 16⟩
/-- `PDRV_MEAS1.TJ` (R95). -/
abbrev PDRV_MEAS1.TJ (n : Nat) : Fld := ⟨0x09034 + 64 * n, 0, 16⟩
/-- `HSW_MEAS1.TC` (R93). -/
abbrev HSW_MEAS1.TC (n : Nat) : Fld := ⟨0x08034 + 64 * n, 16, 16⟩
/-- `PDRV_MEAS1.TC` (R95). -/
abbrev PDRV_MEAS1.TC (n : Nat) : Fld := ⟨0x09034 + 64 * n, 16, 16⟩
/-- `HSW_CTL.CLEAR` (R93). -/
abbrev HSW_CTL.CLEAR (n : Nat) : Fld := ⟨0x08038 + 64 * n, 0, 1⟩
/-- `PDRV_CTL.CLEAR` (R95). -/
abbrev PDRV_CTL.CLEAR (n : Nat) : Fld := ⟨0x09038 + 64 * n, 0, 1⟩
/-- `HSW_CNT.TRIPS` (R93). -/
abbrev HSW_CNT.TRIPS (n : Nat) : Fld := ⟨0x0803C + 64 * n, 0, 16⟩
/-- `PDRV_CNT.TRIPS` (R95). -/
abbrev PDRV_CNT.TRIPS (n : Nat) : Fld := ⟨0x0903C + 64 * n, 0, 16⟩
/-- `HSW_CNT.RETRIES` (R93). -/
abbrev HSW_CNT.RETRIES (n : Nat) : Fld := ⟨0x0803C + 64 * n, 16, 16⟩
/-- `PDRV_CNT.RETRIES` (R95). -/
abbrev PDRV_CNT.RETRIES (n : Nat) : Fld := ⟨0x0903C + 64 * n, 16, 16⟩
/-- `HSW_BGA.CB` (R94). -/
abbrev HSW_BGA.CB (n : Nat) : Fld := ⟨0x08C00 + 8 * n, 0, 16⟩
/-- `HSW_BGA.RBA` (R94). -/
abbrev HSW_BGA.RBA (n : Nat) : Fld := ⟨0x08C00 + 8 * n, 16, 16⟩
/-- `HSW_BGB.TAMB` (R94). -/
abbrev HSW_BGB.TAMB (n : Nat) : Fld := ⟨0x08C04 + 8 * n, 0, 8⟩
/-- `HSW_BGB.TB` (R94). -/
abbrev HSW_BGB.TB (n : Nat) : Fld := ⟨0x08C04 + 8 * n, 16, 16⟩
/-- `HSW_VBAT.P0` (R94). -/
abbrev HSW_VBAT.P0 : Fld := ⟨0x08C80, 0, 16⟩
/-- `HSW_VBAT.P1` (R94). -/
abbrev HSW_VBAT.P1 : Fld := ⟨0x08C80, 16, 16⟩
/-- `HSW_LOCK0.MAP` (R94). -/
abbrev HSW_LOCK0.MAP : Fld := ⟨0x08C84, 0, 32⟩
/-- `HSW_LOCK1.MAPHS` (R94). -/
abbrev HSW_LOCK1.MAPHS : Fld := ⟨0x08C88, 0, 16⟩
/-- `HSW_LOCK1.MAPPD` (R94). -/
abbrev HSW_LOCK1.MAPPD : Fld := ⟨0x08C88, 16, 16⟩
/-- `HSW_LINK.LOST` (R94). -/
abbrev HSW_LINK.LOST : Fld := ⟨0x08C8C, 0, 1⟩
/-- `HSW_LINK.DIVERGE` (R94). -/
abbrev HSW_LINK.DIVERGE : Fld := ⟨0x08C8C, 1, 1⟩
/-- `HSW_COMPREF.VREF` (R94). -/
abbrev HSW_COMPREF.VREF : Fld := ⟨0x08C90, 0, 12⟩
/-- `HSW_DROOPCNT.N` (R94). -/
abbrev HSW_DROOPCNT.N : Fld := ⟨0x08C94, 0, 32⟩
/-- `HSW_DROOPT.T` (R94). -/
abbrev HSW_DROOPT.T : Fld := ⟨0x08C98, 0, 64⟩
/-- `PDRV_CFG.ENABLE` (R95). -/
abbrev PDRV_CFG.ENABLE (n : Nat) : Fld := ⟨0x09000 + 64 * n, 0, 1⟩
/-- `PDRV_CFG.LAMP` (R95). -/
abbrev PDRV_CFG.LAMP (n : Nat) : Fld := ⟨0x09000 + 64 * n, 3, 1⟩
/-- `PDRV_CFG.COMPEN` (R95). -/
abbrev PDRV_CFG.COMPEN (n : Nat) : Fld := ⟨0x09000 + 64 * n, 4, 1⟩
/-- `PDRV_CFG.OLEN` (R95). -/
abbrev PDRV_CFG.OLEN (n : Nat) : Fld := ⟨0x09000 + 64 * n, 5, 1⟩
/-- `PDRV_CFG.WICKEN` (R95). -/
abbrev PDRV_CFG.WICKEN (n : Nat) : Fld := ⟨0x09000 + 64 * n, 6, 1⟩
/-- `PDRV_CFG.TSEN` (R95). -/
abbrev PDRV_CFG.TSEN (n : Nat) : Fld := ⟨0x09000 + 64 * n, 7, 1⟩
/-- `PDRV_CFG.IGATE` (R95). -/
abbrev PDRV_CFG.IGATE (n : Nat) : Fld := ⟨0x09000 + 64 * n, 8, 2⟩
/-- `PDRV_CFG.BGRP` (R95). -/
abbrev PDRV_CFG.BGRP (n : Nat) : Fld := ⟨0x09000 + 64 * n, 12, 4⟩
/-- `PDRV_CFG.LIMP` (R95). -/
abbrev PDRV_CFG.LIMP (n : Nat) : Fld := ⟨0x09000 + 64 * n, 16, 2⟩
/-- `PDRV_CFG.FBDIV` (R95). -/
abbrev PDRV_CFG.FBDIV (n : Nat) : Fld := ⟨0x09000 + 64 * n, 24, 8⟩
/-- `PDRV_OC.ISHORT` (R95). -/
abbrev PDRV_OC.ISHORT (n : Nat) : Fld := ⟨0x09004 + 64 * n, 0, 8⟩
/-- `PDRV_OC.IOVL` (R95). -/
abbrev PDRV_OC.IOVL (n : Nat) : Fld := ⟨0x09004 + 64 * n, 8, 10⟩
/-- `PDRV_OC.TOVL` (R95). -/
abbrev PDRV_OC.TOVL (n : Nat) : Fld := ⟨0x09004 + 64 * n, 20, 12⟩
/-- `PDRV_INRUSH.ILIM` (R95). -/
abbrev PDRV_INRUSH.ILIM (n : Nat) : Fld := ⟨0x09010 + 64 * n, 0, 10⟩
/-- `PDRV_INRUSH.TWIN` (R95). -/
abbrev PDRV_INRUSH.TWIN (n : Nat) : Fld := ⟨0x09010 + 64 * n, 16, 8⟩
/-- `PDRV_INRUSH.SOFT` (R95). -/
abbrev PDRV_INRUSH.SOFT (n : Nat) : Fld := ⟨0x09010 + 64 * n, 24, 8⟩
/-- `PDRV_SENSE.RSH` (R95). -/
abbrev PDRV_SENSE.RSH (n : Nat) : Fld := ⟨0x0901C + 64 * n, 0, 12⟩
/-- `PDRV_SENSE.GAIN` (R95). -/
abbrev PDRV_SENSE.GAIN (n : Nat) : Fld := ⟨0x0901C + 64 * n, 12, 1⟩
/-- `PDRV_SENSE.VDSTH` (R95). -/
abbrev PDRV_SENSE.VDSTH (n : Nat) : Fld := ⟨0x0901C + 64 * n, 16, 8⟩
/-- `PDRV_SENSE.VDSBLK` (R95). -/
abbrev PDRV_SENSE.VDSBLK (n : Nat) : Fld := ⟨0x0901C + 64 * n, 24, 8⟩
/-- `PDRV_TS.SETV` (R96). -/
abbrev PDRV_TS.SETV (n : Nat) : Fld := ⟨0x09800 + 4 * n, 0, 12⟩
/-- `PDRV_TS.RELV` (R96). -/
abbrev PDRV_TS.RELV (n : Nat) : Fld := ⟨0x09800 + 4 * n, 16, 12⟩
/-- `PDRV_OL.VTH` (R96). -/
abbrev PDRV_OL.VTH (n : Nat) : Fld := ⟨0x09840 + 4 * n, 0, 12⟩
/-- `PDRV_OL.TPER` (R96). -/
abbrev PDRV_OL.TPER (n : Nat) : Fld := ⟨0x09840 + 4 * n, 16, 8⟩
/-- `BRG_CFG.ENABLE` (R143). -/
abbrev BRG_CFG.ENABLE (n : Nat) : Fld := ⟨0x0A000 + 64 * n, 0, 1⟩
/-- `BRG_CFG.KIND` (R143). -/
abbrev BRG_CFG.KIND (n : Nat) : Fld := ⟨0x0A000 + 64 * n, 1, 1⟩
/-- `BRG_CFG.SIDEA` (R143). -/
abbrev BRG_CFG.SIDEA (n : Nat) : Fld := ⟨0x0A000 + 64 * n, 2, 2⟩
/-- `BRG_CFG.SIDEB` (R143). -/
abbrev BRG_CFG.SIDEB (n : Nat) : Fld := ⟨0x0A000 + 64 * n, 4, 2⟩
/-- `BRG_CFG.RIPEN` (R143). -/
abbrev BRG_CFG.RIPEN (n : Nat) : Fld := ⟨0x0A000 + 64 * n, 6, 1⟩
/-- `BRG_CFG.PINCHEN` (R143). -/
abbrev BRG_CFG.PINCHEN (n : Nat) : Fld := ⟨0x0A000 + 64 * n, 7, 1⟩
/-- `BRG_CFG.PARKEN` (R143). -/
abbrev BRG_CFG.PARKEN (n : Nat) : Fld := ⟨0x0A000 + 64 * n, 8, 1⟩
/-- `BRG_CFG.BEMFEN` (R143). -/
abbrev BRG_CFG.BEMFEN (n : Nat) : Fld := ⟨0x0A000 + 64 * n, 9, 1⟩
/-- `BRG_CFG.PINCHDIR` (R143). -/
abbrev BRG_CFG.PINCHDIR (n : Nat) : Fld := ⟨0x0A000 + 64 * n, 10, 1⟩
/-- `BRG_CFG.PARKLVL` (R143). -/
abbrev BRG_CFG.PARKLVL (n : Nat) : Fld := ⟨0x0A000 + 64 * n, 11, 1⟩
/-- `BRG_CFG.BRKMODE` (R143). -/
abbrev BRG_CFG.BRKMODE (n : Nat) : Fld := ⟨0x0A000 + 64 * n, 12, 2⟩
/-- `BRG_CFG.CLMODE` (R143). -/
abbrev BRG_CFG.CLMODE (n : Nat) : Fld := ⟨0x0A000 + 64 * n, 14, 2⟩
/-- `BRG_CFG.PARKIN` (R143). -/
abbrev BRG_CFG.PARKIN (n : Nat) : Fld := ⟨0x0A000 + 64 * n, 16, 7⟩
/-- `BRG_PWM.FREQ` (R143). -/
abbrev BRG_PWM.FREQ (n : Nat) : Fld := ⟨0x0A004 + 64 * n, 0, 8⟩
/-- `BRG_PWM.DT` (R143). -/
abbrev BRG_PWM.DT (n : Nat) : Fld := ⟨0x0A004 + 64 * n, 8, 9⟩
/-- `BRG_PWM.IGATE` (R143). -/
abbrev BRG_PWM.IGATE (n : Nat) : Fld := ⟨0x0A004 + 64 * n, 17, 2⟩
/-- `BRG_OC.ISHORT` (R143). -/
abbrev BRG_OC.ISHORT (n : Nat) : Fld := ⟨0x0A008 + 64 * n, 0, 8⟩
/-- `BRG_OC.ILIM` (R143). -/
abbrev BRG_OC.ILIM (n : Nat) : Fld := ⟨0x0A008 + 64 * n, 8, 10⟩
/-- `BRG_OC.TOFF` (R143). -/
abbrev BRG_OC.TOFF (n : Nat) : Fld := ⟨0x0A008 + 64 * n, 20, 8⟩
/-- `BRG_SENSE.RSH` (R143). -/
abbrev BRG_SENSE.RSH (n : Nat) : Fld := ⟨0x0A00C + 64 * n, 0, 12⟩
/-- `BRG_SENSE.GAIN` (R143). -/
abbrev BRG_SENSE.GAIN (n : Nat) : Fld := ⟨0x0A00C + 64 * n, 12, 1⟩
/-- `BRG_SENSE.VDSTH` (R143). -/
abbrev BRG_SENSE.VDSTH (n : Nat) : Fld := ⟨0x0A00C + 64 * n, 16, 8⟩
/-- `BRG_SENSE.VDSBLK` (R143). -/
abbrev BRG_SENSE.VDSBLK (n : Nat) : Fld := ⟨0x0A00C + 64 * n, 24, 8⟩
/-- `BRG_TIME.TSTART` (R143). -/
abbrev BRG_TIME.TSTART (n : Nat) : Fld := ⟨0x0A010 + 64 * n, 0, 8⟩
/-- `BRG_TIME.TSTALL` (R143). -/
abbrev BRG_TIME.TSTALL (n : Nat) : Fld := ⟨0x0A010 + 64 * n, 8, 8⟩
/-- `BRG_TIME.TRUN` (R143). -/
abbrev BRG_TIME.TRUN (n : Nat) : Fld := ⟨0x0A010 + 64 * n, 16, 8⟩
/-- `BRG_TIME.TBRAKE` (R143). -/
abbrev BRG_TIME.TBRAKE (n : Nat) : Fld := ⟨0x0A010 + 64 * n, 24, 8⟩
/-- `BRG_RIP.RHYST` (R143). -/
abbrev BRG_RIP.RHYST (n : Nat) : Fld := ⟨0x0A014 + 64 * n, 0, 8⟩
/-- `BRG_RIP.RMIN` (R143). -/
abbrev BRG_RIP.RMIN (n : Nat) : Fld := ⟨0x0A014 + 64 * n, 8, 8⟩
/-- `BRG_PZONE.PZLO` (R143). -/
abbrev BRG_PZONE.PZLO (n : Nat) : Fld := ⟨0x0A018 + 64 * n, 0, 16⟩
/-- `BRG_PZONE.PZHI` (R143). -/
abbrev BRG_PZONE.PZHI (n : Nat) : Fld := ⟨0x0A018 + 64 * n, 16, 16⟩
/-- `BRG_PINCH.PINCHI` (R143). -/
abbrev BRG_PINCH.PINCHI (n : Nat) : Fld := ⟨0x0A01C + 64 * n, 0, 8⟩
/-- `BRG_PINCH.PINCHP` (R143). -/
abbrev BRG_PINCH.PINCHP (n : Nat) : Fld := ⟨0x0A01C + 64 * n, 8, 8⟩
/-- `BRG_PINCH.REVCNT` (R143). -/
abbrev BRG_PINCH.REVCNT (n : Nat) : Fld := ⟨0x0A01C + 64 * n, 16, 16⟩
/-- `BRG_BEMF.BEMFPER` (R143). -/
abbrev BRG_BEMF.BEMFPER (n : Nat) : Fld := ⟨0x0A020 + 64 * n, 0, 8⟩
/-- `BRG_BEMF.BEMFMIN` (R143). -/
abbrev BRG_BEMF.BEMFMIN (n : Nat) : Fld := ⟨0x0A020 + 64 * n, 8, 12⟩
/-- `BRG_TRIP.TRIPLIM` (R143). -/
abbrev BRG_TRIP.TRIPLIM (n : Nat) : Fld := ⟨0x0A024 + 64 * n, 0, 4⟩
/-- `BRG_STAT.STATE` (R143). -/
abbrev BRG_STAT.STATE (n : Nat) : Fld := ⟨0x0A028 + 64 * n, 0, 4⟩
/-- `BRG_STAT.POSUNC` (R143). -/
abbrev BRG_STAT.POSUNC (n : Nat) : Fld := ⟨0x0A028 + 64 * n, 4, 1⟩
/-- `BRG_STAT.EMBER` (R143). -/
abbrev BRG_STAT.EMBER (n : Nat) : Fld := ⟨0x0A028 + 64 * n, 5, 1⟩
/-- `BRG_STAT.PHOLD` (R143). -/
abbrev BRG_STAT.PHOLD (n : Nat) : Fld := ⟨0x0A028 + 64 * n, 6, 1⟩
/-- `BRG_STAT.OP` (R143). -/
abbrev BRG_STAT.OP (n : Nat) : Fld := ⟨0x0A028 + 64 * n, 8, 3⟩
/-- `BRG_STAT.DIR` (R143). -/
abbrev BRG_STAT.DIR (n : Nat) : Fld := ⟨0x0A028 + 64 * n, 11, 1⟩
/-- `BRG_STAT.TRIPRUN` (R143). -/
abbrev BRG_STAT.TRIPRUN (n : Nat) : Fld := ⟨0x0A028 + 64 * n, 12, 4⟩
/-- `BRG_CAUSE.SHORT` (R143). -/
abbrev BRG_CAUSE.SHORT (n : Nat) : Fld := ⟨0x0A02C + 64 * n, 0, 1⟩
/-- `BRG_CAUSE.VDSHA` (R143). -/
abbrev BRG_CAUSE.VDSHA (n : Nat) : Fld := ⟨0x0A02C + 64 * n, 1, 1⟩
/-- `BRG_CAUSE.VDSLA` (R143). -/
abbrev BRG_CAUSE.VDSLA (n : Nat) : Fld := ⟨0x0A02C + 64 * n, 2, 1⟩
/-- `BRG_CAUSE.VDSHB` (R143). -/
abbrev BRG_CAUSE.VDSHB (n : Nat) : Fld := ⟨0x0A02C + 64 * n, 3, 1⟩
/-- `BRG_CAUSE.VDSLB` (R143). -/
abbrev BRG_CAUSE.VDSLB (n : Nat) : Fld := ⟨0x0A02C + 64 * n, 4, 1⟩
/-- `BRG_CAUSE.EMBER` (R143). -/
abbrev BRG_CAUSE.EMBER (n : Nat) : Fld := ⟨0x0A02C + 64 * n, 5, 1⟩
/-- `BRG_CAUSE.STALL` (R143). -/
abbrev BRG_CAUSE.STALL (n : Nat) : Fld := ⟨0x0A02C + 64 * n, 6, 1⟩
/-- `BRG_CAUSE.RUNLIMIT` (R143). -/
abbrev BRG_CAUSE.RUNLIMIT (n : Nat) : Fld := ⟨0x0A02C + 64 * n, 7, 1⟩
/-- `BRG_CAUSE.PINCH` (R143). -/
abbrev BRG_CAUSE.PINCH (n : Nat) : Fld := ⟨0x0A02C + 64 * n, 8, 1⟩
/-- `BRG_CAUSE.LOCK` (R143). -/
abbrev BRG_CAUSE.LOCK (n : Nat) : Fld := ⟨0x0A02C + 64 * n, 9, 1⟩
/-- `BRG_CAUSE.INVCMD` (R143). -/
abbrev BRG_CAUSE.INVCMD (n : Nat) : Fld := ⟨0x0A02C + 64 * n, 10, 1⟩
/-- `BRG_CAUSE.OVERRUN` (R143). -/
abbrev BRG_CAUSE.OVERRUN (n : Nat) : Fld := ⟨0x0A02C + 64 * n, 11, 1⟩
/-- `BRG_POS.POS` (R143). -/
abbrev BRG_POS.POS (n : Nat) : Fld := ⟨0x0A030 + 64 * n, 0, 32⟩
/-- `BRG_MEAS.CUR` (R143). -/
abbrev BRG_MEAS.CUR (n : Nat) : Fld := ⟨0x0A034 + 64 * n, 0, 16⟩
/-- `BRG_MEAS.BEMF` (R143). -/
abbrev BRG_MEAS.BEMF (n : Nat) : Fld := ⟨0x0A034 + 64 * n, 16, 16⟩
/-- `BRG_RESULT.STATUS` (R143). -/
abbrev BRG_RESULT.STATUS (n : Nat) : Fld := ⟨0x0A038 + 64 * n, 0, 8⟩
/-- `BRG_RESULT.REASON` (R143). -/
abbrev BRG_RESULT.REASON (n : Nat) : Fld := ⟨0x0A038 + 64 * n, 8, 8⟩
/-- `BRG_RESULT.COUNT` (R143). -/
abbrev BRG_RESULT.COUNT (n : Nat) : Fld := ⟨0x0A038 + 64 * n, 16, 16⟩
/-- `BRG_CTL.CLEAR` (R143). -/
abbrev BRG_CTL.CLEAR (n : Nat) : Fld := ⟨0x0A03C + 64 * n, 0, 1⟩
/-- `BRG_SEQ.OVRCNT` (R144). -/
abbrev BRG_SEQ.OVRCNT (n : Nat) : Fld := ⟨0x0A400 + 4 * n, 0, 16⟩
/-- `BRG_SEQ.PEAK` (R144). -/
abbrev BRG_SEQ.PEAK (n : Nat) : Fld := ⟨0x0A400 + 4 * n, 16, 16⟩
/-- `BRG_LOCKMAP.MAP` (R144). -/
abbrev BRG_LOCKMAP.MAP : Fld := ⟨0x0A408, 0, 14⟩
/-- `VLV_CFG.ENABLE` (R169). -/
abbrev VLV_CFG.ENABLE (n : Nat) : Fld := ⟨0x0B000 + 64 * n, 0, 1⟩
/-- `VLV_CFG.LIMP` (R169). -/
abbrev VLV_CFG.LIMP (n : Nat) : Fld := ⟨0x0B000 + 64 * n, 1, 2⟩
/-- `VLV_CFG.LIMPPROF` (R169). -/
abbrev VLV_CFG.LIMPPROF (n : Nat) : Fld := ⟨0x0B000 + 64 * n, 4, 3⟩
/-- `VLV_CFG.TRIPLIM` (R169). -/
abbrev VLV_CFG.TRIPLIM (n : Nat) : Fld := ⟨0x0B000 + 64 * n, 8, 4⟩
/-- `VLV_STAT.STATE` (R169). -/
abbrev VLV_STAT.STATE (n : Nat) : Fld := ⟨0x0B004 + 64 * n, 0, 4⟩
/-- `VLV_STAT.EMBER` (R169). -/
abbrev VLV_STAT.EMBER (n : Nat) : Fld := ⟨0x0B004 + 64 * n, 4, 1⟩
/-- `VLV_STAT.LIMPSRC` (R169). -/
abbrev VLV_STAT.LIMPSRC (n : Nat) : Fld := ⟨0x0B004 + 64 * n, 5, 1⟩
/-- `VLV_STAT.HOLDLOW` (R169). -/
abbrev VLV_STAT.HOLDLOW (n : Nat) : Fld := ⟨0x0B004 + 64 * n, 6, 1⟩
/-- `VLV_STAT.PROF` (R169). -/
abbrev VLV_STAT.PROF (n : Nat) : Fld := ⟨0x0B004 + 64 * n, 8, 3⟩
/-- `VLV_STAT.TRIPRUN` (R169). -/
abbrev VLV_STAT.TRIPRUN (n : Nat) : Fld := ⟨0x0B004 + 64 * n, 12, 4⟩
/-- `VLV_STAT.OP` (R169). -/
abbrev VLV_STAT.OP (n : Nat) : Fld := ⟨0x0B004 + 64 * n, 16, 2⟩
/-- `VLV_CAUSE.SHORT` (R169). -/
abbrev VLV_CAUSE.SHORT (n : Nat) : Fld := ⟨0x0B008 + 64 * n, 0, 1⟩
/-- `VLV_CAUSE.EMBER` (R169). -/
abbrev VLV_CAUSE.EMBER (n : Nat) : Fld := ⟨0x0B008 + 64 * n, 1, 1⟩
/-- `VLV_CAUSE.PEAKFAIL` (R169). -/
abbrev VLV_CAUSE.PEAKFAIL (n : Nat) : Fld := ⟨0x0B008 + 64 * n, 2, 1⟩
/-- `VLV_CAUSE.CLAMP` (R169). -/
abbrev VLV_CAUSE.CLAMP (n : Nat) : Fld := ⟨0x0B008 + 64 * n, 3, 1⟩
/-- `VLV_CAUSE.HOLDLOW` (R169). -/
abbrev VLV_CAUSE.HOLDLOW (n : Nat) : Fld := ⟨0x0B008 + 64 * n, 4, 1⟩
/-- `VLV_CAUSE.EHIGH` (R169). -/
abbrev VLV_CAUSE.EHIGH (n : Nat) : Fld := ⟨0x0B008 + 64 * n, 5, 1⟩
/-- `VLV_CAUSE.LOCK` (R169). -/
abbrev VLV_CAUSE.LOCK (n : Nat) : Fld := ⟨0x0B008 + 64 * n, 6, 1⟩
/-- `VLV_CAUSE.INVCMD` (R169). -/
abbrev VLV_CAUSE.INVCMD (n : Nat) : Fld := ⟨0x0B008 + 64 * n, 7, 1⟩
/-- `VLV_CAUSE.OVERRUN` (R169). -/
abbrev VLV_CAUSE.OVERRUN (n : Nat) : Fld := ⟨0x0B008 + 64 * n, 8, 1⟩
/-- `VLV_RESULT.STATUS` (R169). -/
abbrev VLV_RESULT.STATUS (n : Nat) : Fld := ⟨0x0B00C + 64 * n, 0, 8⟩
/-- `VLV_RESULT.REASON` (R169). -/
abbrev VLV_RESULT.REASON (n : Nat) : Fld := ⟨0x0B00C + 64 * n, 8, 8⟩
/-- `VLV_RESULT.COUNT` (R169). -/
abbrev VLV_RESULT.COUNT (n : Nat) : Fld := ⟨0x0B00C + 64 * n, 16, 16⟩
/-- `VLV_MEAS.CUR` (R169). -/
abbrev VLV_MEAS.CUR (n : Nat) : Fld := ⟨0x0B010 + 64 * n, 0, 16⟩
/-- `VLV_MEAS.ECLAMP` (R169). -/
abbrev VLV_MEAS.ECLAMP (n : Nat) : Fld := ⟨0x0B010 + 64 * n, 16, 16⟩
/-- `VLV_TRIPT.T` (R169). -/
abbrev VLV_TRIPT.T (n : Nat) : Fld := ⟨0x0B018 + 64 * n, 0, 64⟩
/-- `VLV_CTL.CLEAR` (R169). -/
abbrev VLV_CTL.CLEAR (n : Nat) : Fld := ⟨0x0B020 + 64 * n, 0, 1⟩
/-- `VLV_CNT.ACT` (R169). -/
abbrev VLV_CNT.ACT (n : Nat) : Fld := ⟨0x0B024 + 64 * n, 0, 16⟩
/-- `VLV_CNT.TRIPS` (R169). -/
abbrev VLV_CNT.TRIPS (n : Nat) : Fld := ⟨0x0B024 + 64 * n, 16, 16⟩
/-- `VLV_BCFG.ENABLE` (R170). -/
abbrev VLV_BCFG.ENABLE (n : Nat) : Fld := ⟨0x0B600 + 128 * n, 0, 1⟩
/-- `VLV_BCFG.LEASH` (R170). -/
abbrev VLV_BCFG.LEASH (n : Nat) : Fld := ⟨0x0B600 + 128 * n, 8, 8⟩
/-- `VLV_BCFG.TRIPLIM` (R170). -/
abbrev VLV_BCFG.TRIPLIM (n : Nat) : Fld := ⟨0x0B600 + 128 * n, 16, 4⟩
/-- `VLV_BCFG.EMAX` (R170). -/
abbrev VLV_BCFG.EMAX (n : Nat) : Fld := ⟨0x0B600 + 128 * n, 24, 8⟩
/-- `VLV_BSTAT.STATE` (R170). -/
abbrev VLV_BSTAT.STATE (n : Nat) : Fld := ⟨0x0B604 + 128 * n, 0, 3⟩
/-- `VLV_BSTAT.EMBER` (R170). -/
abbrev VLV_BSTAT.EMBER (n : Nat) : Fld := ⟨0x0B604 + 128 * n, 3, 1⟩
/-- `VLV_BSTAT.PEAKCH` (R170). -/
abbrev VLV_BSTAT.PEAKCH (n : Nat) : Fld := ⟨0x0B604 + 128 * n, 4, 2⟩
/-- `VLV_BSTAT.PEAKV` (R170). -/
abbrev VLV_BSTAT.PEAKV (n : Nat) : Fld := ⟨0x0B604 + 128 * n, 6, 1⟩
/-- `VLV_BSTAT.WAITN` (R170). -/
abbrev VLV_BSTAT.WAITN (n : Nat) : Fld := ⟨0x0B604 + 128 * n, 8, 3⟩
/-- `VLV_BSTAT.TRIPRUN` (R170). -/
abbrev VLV_BSTAT.TRIPRUN (n : Nat) : Fld := ⟨0x0B604 + 128 * n, 12, 4⟩
/-- `VLV_BCAUSE.SHORT` (R170). -/
abbrev VLV_BCAUSE.SHORT (n : Nat) : Fld := ⟨0x0B608 + 128 * n, 0, 1⟩
/-- `VLV_BCAUSE.EMBER` (R170). -/
abbrev VLV_BCAUSE.EMBER (n : Nat) : Fld := ⟨0x0B608 + 128 * n, 1, 1⟩
/-- `VLV_BCAUSE.LOCK` (R170). -/
abbrev VLV_BCAUSE.LOCK (n : Nat) : Fld := ⟨0x0B608 + 128 * n, 2, 1⟩
/-- `VLV_BCTL.CLEAR` (R170). -/
abbrev VLV_BCTL.CLEAR (n : Nat) : Fld := ⟨0x0B60C + 128 * n, 0, 1⟩
/-- `VLV_BCNT.DEFER` (R170). -/
abbrev VLV_BCNT.DEFER (n : Nat) : Fld := ⟨0x0B610 + 128 * n, 0, 16⟩
/-- `VLV_BCNT.CONFLICT` (R170). -/
abbrev VLV_BCNT.CONFLICT (n : Nat) : Fld := ⟨0x0B610 + 128 * n, 16, 16⟩
/-- `VLV_BMEAS.CUR` (R170). -/
abbrev VLV_BMEAS.CUR (n : Nat) : Fld := ⟨0x0B614 + 128 * n, 0, 16⟩
/-- `VLV_BMEAS.VNODE` (R170). -/
abbrev VLV_BMEAS.VNODE (n : Nat) : Fld := ⟨0x0B614 + 128 * n, 16, 16⟩
/-- `VLV_BTRIPT.T` (R170). -/
abbrev VLV_BTRIPT.T (n : Nat) : Fld := ⟨0x0B618 + 128 * n, 0, 64⟩
/-- `VLV_PROFA.IPEAK` (R170). -/
abbrev VLV_PROFA.IPEAK (b p : Nat) : Fld := ⟨0x0B640 + 128 * b + 8 * p, 0, 9⟩
/-- `VLV_PROFA.SRC` (R170). -/
abbrev VLV_PROFA.SRC (b p : Nat) : Fld := ⟨0x0B640 + 128 * b + 8 * p, 9, 1⟩
/-- `VLV_PROFA.PKDECAY` (R170). -/
abbrev VLV_PROFA.PKDECAY (b p : Nat) : Fld := ⟨0x0B640 + 128 * b + 8 * p, 10, 1⟩
/-- `VLV_PROFA.TOFF` (R170). -/
abbrev VLV_PROFA.TOFF (b p : Nat) : Fld := ⟨0x0B640 + 128 * b + 8 * p, 11, 5⟩
/-- `VLV_PROFA.TPEAK` (R170). -/
abbrev VLV_PROFA.TPEAK (b p : Nat) : Fld := ⟨0x0B640 + 128 * b + 8 * p, 16, 8⟩
/-- `VLV_PROFA.TRISE` (R170). -/
abbrev VLV_PROFA.TRISE (b p : Nat) : Fld := ⟨0x0B640 + 128 * b + 8 * p, 24, 8⟩
/-- `VLV_PROFB.IHOLD` (R170). -/
abbrev VLV_PROFB.IHOLD (b p : Nat) : Fld := ⟨0x0B644 + 128 * b + 8 * p, 0, 8⟩
/-- `VLV_PROFB.TOFFH` (R170). -/
abbrev VLV_PROFB.TOFFH (b p : Nat) : Fld := ⟨0x0B644 + 128 * b + 8 * p, 8, 5⟩
/-- `VLV_PROFB.TREL` (R170). -/
abbrev VLV_PROFB.TREL (b p : Nat) : Fld := ⟨0x0B644 + 128 * b + 8 * p, 16, 8⟩
/-- `VLV_BST.BSTEN` (R171). -/
abbrev VLV_BST.BSTEN : Fld := ⟨0x0B900, 0, 1⟩
/-- `VLV_BST.VSET` (R171). -/
abbrev VLV_BST.VSET : Fld := ⟨0x0B900, 8, 9⟩
/-- `VLV_BSTRDY.VRDY` (R171). -/
abbrev VLV_BSTRDY.VRDY : Fld := ⟨0x0B904, 0, 9⟩
/-- `VLV_BSTSTAT.READY` (R171). -/
abbrev VLV_BSTSTAT.READY : Fld := ⟨0x0B908, 0, 1⟩
/-- `VLV_BSTSTAT.RUN` (R171). -/
abbrev VLV_BSTSTAT.RUN : Fld := ⟨0x0B908, 1, 1⟩
/-- `VLV_BSTSTAT.VRAIL` (R171). -/
abbrev VLV_BSTSTAT.VRAIL : Fld := ⟨0x0B908, 16, 16⟩
/-- `VLV_BSTCAUSE.NOTREADY` (R171). -/
abbrev VLV_BSTCAUSE.NOTREADY : Fld := ⟨0x0B90C, 0, 1⟩
/-- `VLV_BSTCAUSE.OVP` (R171). -/
abbrev VLV_BSTCAUSE.OVP : Fld := ⟨0x0B90C, 1, 1⟩
/-- `VLV_BSTCNT.LOSS` (R171). -/
abbrev VLV_BSTCNT.LOSS : Fld := ⟨0x0B910, 0, 16⟩
/-- `VLV_SEQ.OVRCNT` (R171). -/
abbrev VLV_SEQ.OVRCNT (n : Nat) : Fld := ⟨0x0B940 + 4 * n, 0, 16⟩
/-- `VLV_SEQ.PEAK` (R171). -/
abbrev VLV_SEQ.PEAK (n : Nat) : Fld := ⟨0x0B940 + 4 * n, 16, 16⟩
/-- `LED_CFG.ENABLE` (R184). -/
abbrev LED_CFG.ENABLE (n : Nat) : Fld := ⟨0x0C000 + 16 * n, 0, 1⟩
/-- `LED_CFG.LIMP` (R184). -/
abbrev LED_CFG.LIMP (n : Nat) : Fld := ⟨0x0C000 + 16 * n, 1, 2⟩
/-- `LED_CFG.LEVEL` (R184). -/
abbrev LED_CFG.LEVEL (n : Nat) : Fld := ⟨0x0C000 + 16 * n, 8, 8⟩
/-- `LED_CFG.LIMPPOS` (R184). -/
abbrev LED_CFG.LIMPPOS (n : Nat) : Fld := ⟨0x0C000 + 16 * n, 16, 8⟩
/-- `LED_STAT.STATE` (R184). -/
abbrev LED_STAT.STATE (n : Nat) : Fld := ⟨0x0C004 + 16 * n, 0, 4⟩
/-- `LED_STAT.OPEN` (R184). -/
abbrev LED_STAT.OPEN (n : Nat) : Fld := ⟨0x0C004 + 16 * n, 4, 1⟩
/-- `LED_STAT.LIMPSRC` (R184). -/
abbrev LED_STAT.LIMPSRC (n : Nat) : Fld := ⟨0x0C004 + 16 * n, 5, 1⟩
/-- `LED_STAT.SHORT` (R184). -/
abbrev LED_STAT.SHORT (n : Nat) : Fld := ⟨0x0C004 + 16 * n, 6, 1⟩
/-- `LED_STAT.INVCMD` (R184). -/
abbrev LED_STAT.INVCMD (n : Nat) : Fld := ⟨0x0C004 + 16 * n, 7, 1⟩
/-- `LED_STAT.POS` (R184). -/
abbrev LED_STAT.POS (n : Nat) : Fld := ⟨0x0C004 + 16 * n, 8, 16⟩
/-- `LED_MEAS.VSINK` (R184). -/
abbrev LED_MEAS.VSINK (n : Nat) : Fld := ⟨0x0C008 + 16 * n, 0, 16⟩
/-- `LED_MEAS.DUTY` (R184). -/
abbrev LED_MEAS.DUTY (n : Nat) : Fld := ⟨0x0C008 + 16 * n, 16, 12⟩
/-- `LED_CTL.CLEAR` (R184). -/
abbrev LED_CTL.CLEAR (n : Nat) : Fld := ⟨0x0C00C + 16 * n, 0, 1⟩
/-- `LED_GCFG.GLOBAL` (R185). -/
abbrev LED_GCFG.GLOBAL : Fld := ⟨0x0C400, 0, 8⟩
/-- `LED_GCFG.FREQ` (R185). -/
abbrev LED_GCFG.FREQ : Fld := ⟨0x0C400, 8, 8⟩
/-- `LED_DIAG.VSHORT` (R185). -/
abbrev LED_DIAG.VSHORT : Fld := ⟨0x0C404, 0, 8⟩
/-- `LED_DIAG.VBMIN` (R185). -/
abbrev LED_DIAG.VBMIN : Fld := ⟨0x0C404, 8, 8⟩
/-- `LED_GSTAT.FOLD` (R185). -/
abbrev LED_GSTAT.FOLD : Fld := ⟨0x0C408, 0, 4⟩
/-- `LED_GSTAT.EMBER` (R185). -/
abbrev LED_GSTAT.EMBER : Fld := ⟨0x0C408, 4, 1⟩
/-- `LED_GSTAT.TJ` (R185). -/
abbrev LED_GSTAT.TJ : Fld := ⟨0x0C408, 16, 16⟩
/-- `LED_SHORTMAP.MAP0` (R185). -/
abbrev LED_SHORTMAP.MAP0 : Fld := ⟨0x0C40C, 0, 32⟩
/-- `LED_SHORTMAP1.MAP1` (R185). -/
abbrev LED_SHORTMAP1.MAP1 : Fld := ⟨0x0C410, 0, 16⟩
/-- `LED_UCURVE.PEVEN` (R185). -/
abbrev LED_UCURVE.PEVEN (n : Nat) : Fld := ⟨0x0C800 + 4 * n, 0, 12⟩
/-- `LED_UCURVE.PODD` (R185). -/
abbrev LED_UCURVE.PODD (n : Nat) : Fld := ⟨0x0C800 + 4 * n, 16, 12⟩
/-- `INP_CFG.ENABLE` (R197). -/
abbrev INP_CFG.ENABLE (n : Nat) : Fld := ⟨0x0D000 + 16 * n, 0, 1⟩
/-- `INP_CFG.PULL` (R197). -/
abbrev INP_CFG.PULL (n : Nat) : Fld := ⟨0x0D000 + 16 * n, 1, 1⟩
/-- `INP_CFG.INV` (R197). -/
abbrev INP_CFG.INV (n : Nat) : Fld := ⟨0x0D000 + 16 * n, 2, 1⟩
/-- `INP_CFG.MODE` (R197). -/
abbrev INP_CFG.MODE (n : Nat) : Fld := ⟨0x0D000 + 16 * n, 3, 1⟩
/-- `INP_CFG.ADCEN` (R197). -/
abbrev INP_CFG.ADCEN (n : Nat) : Fld := ⟨0x0D000 + 16 * n, 4, 1⟩
/-- `INP_CFG.WAKEEN` (R197). -/
abbrev INP_CFG.WAKEEN (n : Nat) : Fld := ⟨0x0D000 + 16 * n, 5, 1⟩
/-- `INP_CFG.WAKEDIR` (R197). -/
abbrev INP_CFG.WAKEDIR (n : Nat) : Fld := ⟨0x0D000 + 16 * n, 6, 2⟩
/-- `INP_CFG.IWET` (R197). -/
abbrev INP_CFG.IWET (n : Nat) : Fld := ⟨0x0D000 + 16 * n, 8, 5⟩
/-- `INP_CFG.DEB` (R197). -/
abbrev INP_CFG.DEB (n : Nat) : Fld := ⟨0x0D000 + 16 * n, 16, 12⟩
/-- `INP_THR.VTHL` (R197). -/
abbrev INP_THR.VTHL (n : Nat) : Fld := ⟨0x0D004 + 16 * n, 0, 9⟩
/-- `INP_THR.VTHH` (R197). -/
abbrev INP_THR.VTHH (n : Nat) : Fld := ⟨0x0D004 + 16 * n, 16, 9⟩
/-- `INP_PULSE.PER` (R197). -/
abbrev INP_PULSE.PER (n : Nat) : Fld := ⟨0x0D008 + 16 * n, 0, 8⟩
/-- `INP_PULSE.PWET` (R197). -/
abbrev INP_PULSE.PWET (n : Nat) : Fld := ⟨0x0D008 + 16 * n, 8, 5⟩
/-- `INP_STAT.LEVEL` (R197). -/
abbrev INP_STAT.LEVEL (n : Nat) : Fld := ⟨0x0D00C + 16 * n, 0, 1⟩
/-- `INP_STAT.RAW` (R197). -/
abbrev INP_STAT.RAW (n : Nat) : Fld := ⟨0x0D00C + 16 * n, 1, 1⟩
/-- `INP_STAT.DEBA` (R197). -/
abbrev INP_STAT.DEBA (n : Nat) : Fld := ⟨0x0D00C + 16 * n, 2, 1⟩
/-- `INP_STAT.CHAT` (R197). -/
abbrev INP_STAT.CHAT (n : Nat) : Fld := ⟨0x0D00C + 16 * n, 3, 1⟩
/-- `INP_STAT.LOWBAT` (R197). -/
abbrev INP_STAT.LOWBAT (n : Nat) : Fld := ⟨0x0D00C + 16 * n, 4, 1⟩
/-- `INP_STAT.GLITCH` (R197). -/
abbrev INP_STAT.GLITCH (n : Nat) : Fld := ⟨0x0D00C + 16 * n, 8, 16⟩
/-- `INP_EDGET.T` (R198). -/
abbrev INP_EDGET.T (n : Nat) : Fld := ⟨0x0E000 + 8 * n, 0, 64⟩
/-- `INP_MEAS.VIN` (R198). -/
abbrev INP_MEAS.VIN (n : Nat) : Fld := ⟨0x0E800 + 4 * n, 0, 16⟩
/-- `INP_PARK.PPER` (R198). -/
abbrev INP_PARK.PPER : Fld := ⟨0x0EC00, 0, 8⟩
/-- `INP_WAKEMAP0.MAP` (R198). -/
abbrev INP_WAKEMAP0.MAP : Fld := ⟨0x0EC04, 0, 32⟩
/-- `INP_WAKEMAP1.MAP` (R198). -/
abbrev INP_WAKEMAP1.MAP : Fld := ⟨0x0EC08, 0, 8⟩
/-- `INP_WETLOAD.P0` (R198). -/
abbrev INP_WETLOAD.P0 : Fld := ⟨0x0EC0C, 0, 16⟩
/-- `INP_WETLOAD.P1` (R198). -/
abbrev INP_WETLOAD.P1 : Fld := ⟨0x0EC0C, 16, 16⟩
/-- `RFX_CFG.LOADMAX` (R216). -/
abbrev RFX_CFG.LOADMAX : Fld := ⟨0x10000, 0, 8⟩
/-- `RFX_CFG.IMMEN` (R216). -/
abbrev RFX_CFG.IMMEN : Fld := ⟨0x10000, 8, 1⟩
/-- `RFX_STAT.ENGINE` (R216). -/
abbrev RFX_STAT.ENGINE : Fld := ⟨0x10004, 0, 2⟩
/-- `RFX_STAT.INSVC` (R216). -/
abbrev RFX_STAT.INSVC : Fld := ⟨0x10004, 8, 8⟩
/-- `RFX_STAT.FAILED` (R216). -/
abbrev RFX_STAT.FAILED : Fld := ⟨0x10004, 16, 8⟩
/-- `RFX_INFO.NPROG` (R216). -/
abbrev RFX_INFO.NPROG : Fld := ⟨0x10008, 0, 9⟩
/-- `RFX_INFO.CAP` (R216). -/
abbrev RFX_INFO.CAP : Fld := ⟨0x10008, 9, 23⟩
/-- `RFX_SVC.CORE` (R216). -/
abbrev RFX_SVC.CORE : Fld := ⟨0x1000C, 0, 3⟩
/-- `RFX_SVC.OP` (R216). -/
abbrev RFX_SVC.OP : Fld := ⟨0x1000C, 4, 2⟩
/-- `RFX_SVCRES.STATUS` (R216). -/
abbrev RFX_SVCRES.STATUS : Fld := ⟨0x10010, 0, 8⟩
/-- `RFX_SVCRES.CORE` (R216). -/
abbrev RFX_SVCRES.CORE : Fld := ⟨0x10010, 8, 3⟩
/-- `RFX_SVCRES.OP` (R216). -/
abbrev RFX_SVCRES.OP : Fld := ⟨0x10010, 12, 2⟩
/-- `RFX_SVCRES.COUNT` (R216). -/
abbrev RFX_SVCRES.COUNT : Fld := ⟨0x10010, 16, 16⟩
/-- `RFX_SVCF.F` (R216). -/
abbrev RFX_SVCF.F : Fld := ⟨0x10014, 0, 32⟩
/-- `RFX_IMMCNT.N` (R216). -/
abbrev RFX_IMMCNT.N : Fld := ⟨0x10018, 0, 32⟩
/-- `RFX_ABORTCNT.N` (R216). -/
abbrev RFX_ABORTCNT.N : Fld := ⟨0x1001C, 0, 32⟩
/-- `RFX_LAST.PROG` (R216). -/
abbrev RFX_LAST.PROG : Fld := ⟨0x10020, 0, 8⟩
/-- `RFX_LAST.CORE` (R216). -/
abbrev RFX_LAST.CORE : Fld := ⟨0x10020, 8, 3⟩
/-- `RFX_LAST.CAUSE` (R216). -/
abbrev RFX_LAST.CAUSE : Fld := ⟨0x10020, 12, 2⟩
/-- `RFX_LASTF.F` (R216). -/
abbrev RFX_LASTF.F : Fld := ⟨0x10024, 0, 32⟩
/-- `RFX_CORE.STATE` (R217). -/
abbrev RFX_CORE.STATE (n : Nat) : Fld := ⟨0x10100 + 32 * n, 0, 3⟩
/-- `RFX_CORE.FAILCAUSE` (R217). -/
abbrev RFX_CORE.FAILCAUSE (n : Nat) : Fld := ⟨0x10100 + 32 * n, 3, 3⟩
/-- `RFX_CORE.NPLACED` (R217). -/
abbrev RFX_CORE.NPLACED (n : Nat) : Fld := ⟨0x10100 + 32 * n, 8, 9⟩
/-- `RFX_CORELOAD.CYC` (R217). -/
abbrev RFX_CORELOAD.CYC (n : Nat) : Fld := ⟨0x10104 + 32 * n, 0, 23⟩
/-- `RFX_COREUSED.CYC` (R217). -/
abbrev RFX_COREUSED.CYC (n : Nat) : Fld := ⟨0x10108 + 32 * n, 0, 23⟩
/-- `RFX_COREPEAK.CYC` (R217). -/
abbrev RFX_COREPEAK.CYC (n : Nat) : Fld := ⟨0x1010C + 32 * n, 0, 23⟩
/-- `RFX_CORECNT.ABORTS` (R217). -/
abbrev RFX_CORECNT.ABORTS (n : Nat) : Fld := ⟨0x10110 + 32 * n, 0, 16⟩
/-- `RFX_CORECNT.OVERRUNS` (R217). -/
abbrev RFX_CORECNT.OVERRUNS (n : Nat) : Fld := ⟨0x10110 + 32 * n, 16, 16⟩
/-- `RFX_PROG.PRIM` (R217). -/
abbrev RFX_PROG.PRIM (n : Nat) : Fld := ⟨0x11000 + 16 * n, 0, 3⟩
/-- `RFX_PROG.CUR` (R217). -/
abbrev RFX_PROG.CUR (n : Nat) : Fld := ⟨0x11000 + 16 * n, 4, 3⟩
/-- `RFX_PROG.VALID` (R217). -/
abbrev RFX_PROG.VALID (n : Nat) : Fld := ⟨0x11000 + 16 * n, 7, 1⟩
/-- `RFX_PROG.ORDER` (R217). -/
abbrev RFX_PROG.ORDER (n : Nat) : Fld := ⟨0x11000 + 16 * n, 8, 8⟩
/-- `RFX_PROG.STATE` (R217). -/
abbrev RFX_PROG.STATE (n : Nat) : Fld := ⟨0x11000 + 16 * n, 16, 7⟩
/-- `RFX_PROGBUD.BUDGET` (R217). -/
abbrev RFX_PROGBUD.BUDGET (n : Nat) : Fld := ⟨0x11004 + 16 * n, 0, 23⟩
/-- `RFX_PROGUSED.CYC` (R217). -/
abbrev RFX_PROGUSED.CYC (n : Nat) : Fld := ⟨0x11008 + 16 * n, 0, 23⟩
/-- `RFX_PROGUSED.ABORTED` (R217). -/
abbrev RFX_PROGUSED.ABORTED (n : Nat) : Fld := ⟨0x11008 + 16 * n, 23, 1⟩
/-- `RFX_PROGUSED.SKIPPED` (R217). -/
abbrev RFX_PROGUSED.SKIPPED (n : Nat) : Fld := ⟨0x11008 + 16 * n, 24, 1⟩
/-- `RFX_PROGABORT.N` (R217). -/
abbrev RFX_PROGABORT.N (n : Nat) : Fld := ⟨0x1100C + 16 * n, 0, 16⟩
/-- `RFX_PROGABORT.CAUSE` (R217). -/
abbrev RFX_PROGABORT.CAUSE (n : Nat) : Fld := ⟨0x1100C + 16 * n, 16, 2⟩
/-- `CAN_CFG.ENABLE` (R265). -/
abbrev CAN_CFG.ENABLE (n : Nat) : Fld := ⟨0x14000 + 1024 * n, 0, 1⟩
/-- `CAN_CFG.FDEN` (R265). -/
abbrev CAN_CFG.FDEN (n : Nat) : Fld := ⟨0x14000 + 1024 * n, 1, 1⟩
/-- `CAN_CFG.MODE` (R265). -/
abbrev CAN_CFG.MODE (n : Nat) : Fld := ⟨0x14000 + 1024 * n, 2, 1⟩
/-- `CAN_CFG.RECOV` (R265). -/
abbrev CAN_CFG.RECOV (n : Nat) : Fld := ⟨0x14000 + 1024 * n, 3, 1⟩
/-- `CAN_CFG.DAR` (R265). -/
abbrev CAN_CFG.DAR (n : Nat) : Fld := ⟨0x14000 + 1024 * n, 4, 1⟩
/-- `CAN_CFG.PXHE` (R265). -/
abbrev CAN_CFG.PXHE (n : Nat) : Fld := ⟨0x14000 + 1024 * n, 5, 1⟩
/-- `CAN_CFG.DEGRESTR` (R265). -/
abbrev CAN_CFG.DEGRESTR (n : Nat) : Fld := ⟨0x14000 + 1024 * n, 6, 1⟩
/-- `CAN_CFG.RXHOST` (R265). -/
abbrev CAN_CFG.RXHOST (n : Nat) : Fld := ⟨0x14000 + 1024 * n, 8, 2⟩
/-- `CAN_CFG.BOHOLD` (R265). -/
abbrev CAN_CFG.BOHOLD (n : Nat) : Fld := ⟨0x14000 + 1024 * n, 16, 8⟩
/-- `CAN_CFG.BOLIM` (R265). -/
abbrev CAN_CFG.BOLIM (n : Nat) : Fld := ⟨0x14000 + 1024 * n, 24, 4⟩
/-- `CAN_NBT.NBRP` (R265). -/
abbrev CAN_NBT.NBRP (n : Nat) : Fld := ⟨0x14004 + 1024 * n, 0, 10⟩
/-- `CAN_NBT.NTSEG1` (R265). -/
abbrev CAN_NBT.NTSEG1 (n : Nat) : Fld := ⟨0x14004 + 1024 * n, 16, 9⟩
/-- `CAN_NBT2.NTSEG2` (R265). -/
abbrev CAN_NBT2.NTSEG2 (n : Nat) : Fld := ⟨0x14008 + 1024 * n, 0, 8⟩
/-- `CAN_NBT2.NSJW` (R265). -/
abbrev CAN_NBT2.NSJW (n : Nat) : Fld := ⟨0x14008 + 1024 * n, 8, 8⟩
/-- `CAN_DBT.DBRP` (R265). -/
abbrev CAN_DBT.DBRP (n : Nat) : Fld := ⟨0x1400C + 1024 * n, 0, 6⟩
/-- `CAN_DBT.DTSEG1` (R265). -/
abbrev CAN_DBT.DTSEG1 (n : Nat) : Fld := ⟨0x1400C + 1024 * n, 8, 6⟩
/-- `CAN_DBT.DTSEG2` (R265). -/
abbrev CAN_DBT.DTSEG2 (n : Nat) : Fld := ⟨0x1400C + 1024 * n, 16, 5⟩
/-- `CAN_DBT.DSJW` (R265). -/
abbrev CAN_DBT.DSJW (n : Nat) : Fld := ⟨0x1400C + 1024 * n, 24, 5⟩
/-- `CAN_TDC.TDCEN` (R265). -/
abbrev CAN_TDC.TDCEN (n : Nat) : Fld := ⟨0x14010 + 1024 * n, 0, 1⟩
/-- `CAN_TDC.TDCO` (R265). -/
abbrev CAN_TDC.TDCO (n : Nat) : Fld := ⟨0x14010 + 1024 * n, 8, 7⟩
/-- `CAN_TDC.TDCV` (R265). -/
abbrev CAN_TDC.TDCV (n : Nat) : Fld := ⟨0x14010 + 1024 * n, 16, 7⟩
/-- `CAN_STAT.STATE` (R265). -/
abbrev CAN_STAT.STATE (n : Nat) : Fld := ⟨0x14014 + 1024 * n, 0, 3⟩
/-- `CAN_STAT.RSRC` (R265). -/
abbrev CAN_STAT.RSRC (n : Nat) : Fld := ⟨0x14014 + 1024 * n, 3, 2⟩
/-- `CAN_STAT.TEC` (R265). -/
abbrev CAN_STAT.TEC (n : Nat) : Fld := ⟨0x14014 + 1024 * n, 8, 9⟩
/-- `CAN_STAT.REC` (R265). -/
abbrev CAN_STAT.REC (n : Nat) : Fld := ⟨0x14014 + 1024 * n, 24, 8⟩
/-- `CAN_ERR.BIT` (R265). -/
abbrev CAN_ERR.BIT (n : Nat) : Fld := ⟨0x14018 + 1024 * n, 0, 1⟩
/-- `CAN_ERR.STUFF` (R265). -/
abbrev CAN_ERR.STUFF (n : Nat) : Fld := ⟨0x14018 + 1024 * n, 1, 1⟩
/-- `CAN_ERR.CRC` (R265). -/
abbrev CAN_ERR.CRC (n : Nat) : Fld := ⟨0x14018 + 1024 * n, 2, 1⟩
/-- `CAN_ERR.FORM` (R265). -/
abbrev CAN_ERR.FORM (n : Nat) : Fld := ⟨0x14018 + 1024 * n, 3, 1⟩
/-- `CAN_ERR.ACK` (R265). -/
abbrev CAN_ERR.ACK (n : Nat) : Fld := ⟨0x14018 + 1024 * n, 4, 1⟩
/-- `CAN_ERR.PXE` (R265). -/
abbrev CAN_ERR.PXE (n : Nat) : Fld := ⟨0x14018 + 1024 * n, 5, 1⟩
/-- `CAN_ERR.PASSIVE` (R265). -/
abbrev CAN_ERR.PASSIVE (n : Nat) : Fld := ⟨0x14018 + 1024 * n, 6, 1⟩
/-- `CAN_ERR.BUSOFF` (R265). -/
abbrev CAN_ERR.BUSOFF (n : Nat) : Fld := ⟨0x14018 + 1024 * n, 7, 1⟩
/-- `CAN_ERR.RXDROP` (R265). -/
abbrev CAN_ERR.RXDROP (n : Nat) : Fld := ⟨0x14018 + 1024 * n, 8, 1⟩
/-- `CAN_CNT.TXOK` (R265). -/
abbrev CAN_CNT.TXOK (n : Nat) : Fld := ⟨0x1401C + 1024 * n, 0, 16⟩
/-- `CAN_CNT.RXOK` (R265). -/
abbrev CAN_CNT.RXOK (n : Nat) : Fld := ⟨0x1401C + 1024 * n, 16, 16⟩
/-- `CAN_CNT2.BUSOFFS` (R265). -/
abbrev CAN_CNT2.BUSOFFS (n : Nat) : Fld := ⟨0x14020 + 1024 * n, 0, 16⟩
/-- `CAN_CNT2.RXDROP` (R265). -/
abbrev CAN_CNT2.RXDROP (n : Nat) : Fld := ⟨0x14020 + 1024 * n, 16, 16⟩
/-- `CAN_CNT3.TXREPL` (R265). -/
abbrev CAN_CNT3.TXREPL (n : Nat) : Fld := ⟨0x14024 + 1024 * n, 0, 16⟩
/-- `CAN_CNT3.ENCDROP` (R265). -/
abbrev CAN_CNT3.ENCDROP (n : Nat) : Fld := ⟨0x14024 + 1024 * n, 16, 16⟩
/-- `CAN_CTL.RECOVER` (R265). -/
abbrev CAN_CTL.RECOVER (n : Nat) : Fld := ⟨0x14028 + 1024 * n, 0, 1⟩
/-- `CAN_CTL.RESTR` (R265). -/
abbrev CAN_CTL.RESTR (n : Nat) : Fld := ⟨0x14028 + 1024 * n, 1, 2⟩
/-- `CAN_PEND.FW` (R265). -/
abbrev CAN_PEND.FW (n : Nat) : Fld := ⟨0x1402C + 1024 * n, 0, 5⟩
/-- `CAN_PEND.ENC` (R265). -/
abbrev CAN_PEND.ENC (n : Nat) : Fld := ⟨0x1402C + 1024 * n, 8, 6⟩
/-- `CAN_PEND.BOCONS` (R265). -/
abbrev CAN_PEND.BOCONS (n : Nat) : Fld := ⟨0x1402C + 1024 * n, 16, 4⟩
/-- `CAN_LASTERR.T` (R265). -/
abbrev CAN_LASTERR.T (n : Nat) : Fld := ⟨0x14030 + 1024 * n, 0, 64⟩
/-- `CAN_SWCFG.SWEN` (R266). -/
abbrev CAN_SWCFG.SWEN (n : Nat) : Fld := ⟨0x14100 + 1024 * n, 0, 1⟩
/-- `CAN_SWCFG.WUPEN` (R266). -/
abbrev CAN_SWCFG.WUPEN (n : Nat) : Fld := ⟨0x14100 + 1024 * n, 1, 1⟩
/-- `CAN_SWCFG.SWRATE` (R266). -/
abbrev CAN_SWCFG.SWRATE (n : Nat) : Fld := ⟨0x14100 + 1024 * n, 2, 2⟩
/-- `CAN_SWCFG.SWIDE` (R266). -/
abbrev CAN_SWCFG.SWIDE (n : Nat) : Fld := ⟨0x14100 + 1024 * n, 4, 1⟩
/-- `CAN_SWCFG.SWFDP` (R266). -/
abbrev CAN_SWCFG.SWFDP (n : Nat) : Fld := ⟨0x14100 + 1024 * n, 5, 1⟩
/-- `CAN_SWCFG.SWDATAEN` (R266). -/
abbrev CAN_SWCFG.SWDATAEN (n : Nat) : Fld := ⟨0x14100 + 1024 * n, 6, 1⟩
/-- `CAN_SWCFG.SWDLC` (R266). -/
abbrev CAN_SWCFG.SWDLC (n : Nat) : Fld := ⟨0x14100 + 1024 * n, 8, 4⟩
/-- `CAN_SWID.SWID` (R266). -/
abbrev CAN_SWID.SWID (n : Nat) : Fld := ⟨0x14104 + 1024 * n, 0, 29⟩
/-- `CAN_SWIDM.SWIDM` (R266). -/
abbrev CAN_SWIDM.SWIDM (n : Nat) : Fld := ⟨0x14108 + 1024 * n, 0, 29⟩
/-- `CAN_SWDATA0.MASK` (R266). -/
abbrev CAN_SWDATA0.MASK (n : Nat) : Fld := ⟨0x1410C + 1024 * n, 0, 32⟩
/-- `CAN_SWDATA1.MASK` (R266). -/
abbrev CAN_SWDATA1.MASK (n : Nat) : Fld := ⟨0x14110 + 1024 * n, 0, 32⟩
/-- `CAN_SWSTAT.WUF` (R266). -/
abbrev CAN_SWSTAT.WUF (n : Nat) : Fld := ⟨0x14114 + 1024 * n, 0, 1⟩
/-- `CAN_SWSTAT.WUP` (R266). -/
abbrev CAN_SWSTAT.WUP (n : Nat) : Fld := ⟨0x14114 + 1024 * n, 1, 1⟩
/-- `CAN_SWSTAT.FDERR` (R266). -/
abbrev CAN_SWSTAT.FDERR (n : Nat) : Fld := ⟨0x14114 + 1024 * n, 2, 1⟩
/-- `CAN_SWSTAT.ERRCNT` (R266). -/
abbrev CAN_SWSTAT.ERRCNT (n : Nat) : Fld := ⟨0x14114 + 1024 * n, 4, 6⟩
/-- `LIN_CFG.ENABLE` (R284). -/
abbrev LIN_CFG.ENABLE (n : Nat) : Fld := ⟨0x18000 + 64 * n, 0, 1⟩
/-- `LIN_CFG.ROLE` (R284). -/
abbrev LIN_CFG.ROLE (n : Nat) : Fld := ⟨0x18000 + 64 * n, 1, 1⟩
/-- `LIN_CFG.RATE` (R284). -/
abbrev LIN_CFG.RATE (n : Nat) : Fld := ⟨0x18000 + 64 * n, 2, 15⟩
/-- `LIN_STAT.STATE` (R284). -/
abbrev LIN_STAT.STATE (n : Nat) : Fld := ⟨0x18004 + 64 * n, 0, 2⟩
/-- `LIN_STAT.DEGR` (R284). -/
abbrev LIN_STAT.DEGR (n : Nat) : Fld := ⟨0x18004 + 64 * n, 2, 1⟩
/-- `LIN_STAT.SCHED` (R284). -/
abbrev LIN_STAT.SCHED (n : Nat) : Fld := ⟨0x18004 + 64 * n, 4, 4⟩
/-- `LIN_STAT.SLOT` (R284). -/
abbrev LIN_STAT.SLOT (n : Nat) : Fld := ⟨0x18004 + 64 * n, 8, 8⟩
/-- `LIN_ERR.BIT` (R284). -/
abbrev LIN_ERR.BIT (n : Nat) : Fld := ⟨0x18008 + 64 * n, 0, 1⟩
/-- `LIN_ERR.CKS` (R284). -/
abbrev LIN_ERR.CKS (n : Nat) : Fld := ⟨0x18008 + 64 * n, 1, 1⟩
/-- `LIN_ERR.NORESP` (R284). -/
abbrev LIN_ERR.NORESP (n : Nat) : Fld := ⟨0x18008 + 64 * n, 2, 1⟩
/-- `LIN_ERR.FRAME` (R284). -/
abbrev LIN_ERR.FRAME (n : Nat) : Fld := ⟨0x18008 + 64 * n, 3, 1⟩
/-- `LIN_ERR.PARITY` (R284). -/
abbrev LIN_ERR.PARITY (n : Nat) : Fld := ⟨0x18008 + 64 * n, 4, 1⟩
/-- `LIN_ERR.COLL` (R284). -/
abbrev LIN_ERR.COLL (n : Nat) : Fld := ⟨0x18008 + 64 * n, 5, 1⟩
/-- `LIN_CNT.TXOK` (R284). -/
abbrev LIN_CNT.TXOK (n : Nat) : Fld := ⟨0x1800C + 64 * n, 0, 16⟩
/-- `LIN_CNT.RXOK` (R284). -/
abbrev LIN_CNT.RXOK (n : Nat) : Fld := ⟨0x1800C + 64 * n, 16, 16⟩
/-- `LIN_CNT2.ERR` (R284). -/
abbrev LIN_CNT2.ERR (n : Nat) : Fld := ⟨0x18010 + 64 * n, 0, 16⟩
/-- `LIN_CTL.SCHED` (R284). -/
abbrev LIN_CTL.SCHED (n : Nat) : Fld := ⟨0x18014 + 64 * n, 0, 4⟩
/-- `LIN_CTL.SREQ` (R284). -/
abbrev LIN_CTL.SREQ (n : Nat) : Fld := ⟨0x18014 + 64 * n, 4, 1⟩
/-- `LIN_CTL.SLEEP` (R284). -/
abbrev LIN_CTL.SLEEP (n : Nat) : Fld := ⟨0x18014 + 64 * n, 5, 1⟩
/-- `LIN_CTL.WAKE` (R284). -/
abbrev LIN_CTL.WAKE (n : Nat) : Fld := ⟨0x18014 + 64 * n, 6, 1⟩
/-- `ETH_PCFG.ENABLE` (R285). -/
abbrev ETH_PCFG.ENABLE (n : Nat) : Fld := ⟨0x19000 + 64 * n, 0, 1⟩
/-- `ETH_PCFG.MODE` (R285). -/
abbrev ETH_PCFG.MODE (n : Nat) : Fld := ⟨0x19000 + 64 * n, 1, 2⟩
/-- `ETH_PCFG.PVID` (R285). -/
abbrev ETH_PCFG.PVID (n : Nat) : Fld := ⟨0x19000 + 64 * n, 4, 12⟩
/-- `ETH_PLCA.EN` (R285). -/
abbrev ETH_PLCA.EN (n : Nat) : Fld := ⟨0x19004 + 64 * n, 0, 1⟩
/-- `ETH_PLCA.NODEID` (R285). -/
abbrev ETH_PLCA.NODEID (n : Nat) : Fld := ⟨0x19004 + 64 * n, 8, 8⟩
/-- `ETH_PLCA.NCNT` (R285). -/
abbrev ETH_PLCA.NCNT (n : Nat) : Fld := ⟨0x19004 + 64 * n, 16, 8⟩
/-- `ETH_PLCA.TOTMR` (R285). -/
abbrev ETH_PLCA.TOTMR (n : Nat) : Fld := ⟨0x19004 + 64 * n, 24, 8⟩
/-- `ETH_PLCA2.BURSTCNT` (R285). -/
abbrev ETH_PLCA2.BURSTCNT (n : Nat) : Fld := ⟨0x19008 + 64 * n, 0, 8⟩
/-- `ETH_PLCA2.BURSTTMR` (R285). -/
abbrev ETH_PLCA2.BURSTTMR (n : Nat) : Fld := ⟨0x19008 + 64 * n, 8, 8⟩
/-- `ETH_PSTAT.LINK` (R285). -/
abbrev ETH_PSTAT.LINK (n : Nat) : Fld := ⟨0x1900C + 64 * n, 0, 1⟩
/-- `ETH_PSTAT.SPEED` (R285). -/
abbrev ETH_PSTAT.SPEED (n : Nat) : Fld := ⟨0x1900C + 64 * n, 1, 2⟩
/-- `ETH_PSTAT.PLCA` (R285). -/
abbrev ETH_PSTAT.PLCA (n : Nat) : Fld := ⟨0x1900C + 64 * n, 3, 1⟩
/-- `ETH_PCNT.RXOK` (R285). -/
abbrev ETH_PCNT.RXOK (n : Nat) : Fld := ⟨0x19010 + 64 * n, 0, 32⟩
/-- `ETH_PCNT1.TXOK` (R285). -/
abbrev ETH_PCNT1.TXOK (n : Nat) : Fld := ⟨0x19014 + 64 * n, 0, 32⟩
/-- `ETH_PCNT2.RXDROP` (R285). -/
abbrev ETH_PCNT2.RXDROP (n : Nat) : Fld := ⟨0x19018 + 64 * n, 0, 16⟩
/-- `ETH_PCNT2.TXDROP` (R285). -/
abbrev ETH_PCNT2.TXDROP (n : Nat) : Fld := ⟨0x19018 + 64 * n, 16, 16⟩
/-- `ETH_MACL.MAC` (R285). -/
abbrev ETH_MACL.MAC : Fld := ⟨0x19400, 0, 32⟩
/-- `ETH_MACH.MAC` (R285). -/
abbrev ETH_MACH.MAC : Fld := ⟨0x19404, 0, 16⟩
/-- `ETH_IPV4.ADDR` (R285). -/
abbrev ETH_IPV4.ADDR : Fld := ⟨0x19408, 0, 32⟩
/-- `ETH_AGE.SEC` (R285). -/
abbrev ETH_AGE.SEC : Fld := ⟨0x1940C, 0, 16⟩
/-- `HOST_CTL.EN` (R312). -/
abbrev HOST_CTL.EN : Fld := ⟨0x1C000, 0, 1⟩
/-- `HOST_CTL.DBPER` (R312). -/
abbrev HOST_CTL.DBPER : Fld := ⟨0x1C000, 8, 7⟩
/-- `HOST_DBADDR.ADDR` (R312). -/
abbrev HOST_DBADDR.ADDR : Fld := ⟨0x1C008, 0, 64⟩
/-- `HOST_SQ0BASE.ADDR` (R312). -/
abbrev HOST_SQ0BASE.ADDR : Fld := ⟨0x1C010, 0, 64⟩
/-- `HOST_CQ0BASE.ADDR` (R312). -/
abbrev HOST_CQ0BASE.ADDR : Fld := ⟨0x1C018, 0, 64⟩
/-- `HOST_RING0.SQ0LOG` (R312). -/
abbrev HOST_RING0.SQ0LOG : Fld := ⟨0x1C020, 0, 4⟩
/-- `HOST_RING0.CQ0LOG` (R312). -/
abbrev HOST_RING0.CQ0LOG : Fld := ⟨0x1C020, 4, 4⟩
/-- `HOST_RING0.CQ0VEC` (R312). -/
abbrev HOST_RING0.CQ0VEC : Fld := ⟨0x1C020, 8, 8⟩
/-- `HOST_RING0.ICOUNT` (R312). -/
abbrev HOST_RING0.ICOUNT : Fld := ⟨0x1C020, 16, 8⟩
/-- `HOST_RING0.ITIME` (R312). -/
abbrev HOST_RING0.ITIME : Fld := ⟨0x1C020, 24, 8⟩
/-- `HOST_STAT.UP` (R312). -/
abbrev HOST_STAT.UP : Fld := ⟨0x1C028, 0, 1⟩
/-- `HOST_STAT.CQFULL` (R312). -/
abbrev HOST_STAT.CQFULL : Fld := ⟨0x1C028, 1, 1⟩
/-- `HOST_STAT.INFLIGHT` (R312). -/
abbrev HOST_STAT.INFLIGHT : Fld := ⟨0x1C028, 16, 9⟩
/-- `HOST_SQMAP.MAP` (R312). -/
abbrev HOST_SQMAP.MAP : Fld := ⟨0x1C030, 0, 32⟩
/-- `HOST_CQMAP.MAP` (R312). -/
abbrev HOST_CQMAP.MAP : Fld := ⟨0x1C034, 0, 32⟩
/-- `HOST_RINGERR.MAP` (R312). -/
abbrev HOST_RINGERR.MAP : Fld := ⟨0x1C038, 0, 32⟩
/-- `HOST_ERR.SETUP` (R312). -/
abbrev HOST_ERR.SETUP : Fld := ⟨0x1C03C, 0, 1⟩
/-- `HOST_ERR.CPLTO` (R312). -/
abbrev HOST_ERR.CPLTO : Fld := ⟨0x1C03C, 1, 1⟩
/-- `HOST_ERR.UR` (R312). -/
abbrev HOST_ERR.UR : Fld := ⟨0x1C03C, 2, 1⟩
/-- `HOST_ERR.POISON` (R312). -/
abbrev HOST_ERR.POISON : Fld := ⟨0x1C03C, 3, 1⟩
/-- `HOST_ERR.LINKDOWN` (R312). -/
abbrev HOST_ERR.LINKDOWN : Fld := ⟨0x1C03C, 4, 1⟩
/-- `HOST_ERR.DMAERR` (R312). -/
abbrev HOST_ERR.DMAERR : Fld := ⟨0x1C03C, 5, 1⟩
/-- `HOST_CNT.ACCEPT` (R312). -/
abbrev HOST_CNT.ACCEPT : Fld := ⟨0x1C040, 0, 32⟩
/-- `HOST_CNT1.TAGBUSY` (R312). -/
abbrev HOST_CNT1.TAGBUSY : Fld := ⟨0x1C044, 0, 16⟩
/-- `HOST_CNT1.FETCHERR` (R312). -/
abbrev HOST_CNT1.FETCHERR : Fld := ⟨0x1C044, 16, 16⟩
/-- `HOST_DRAIN.TMO` (R312). -/
abbrev HOST_DRAIN.TMO : Fld := ⟨0x1C048, 0, 8⟩
/-- `HOST_SQHEAD.HEAD` (R312). -/
abbrev HOST_SQHEAD.HEAD (n : Nat) : Fld := ⟨0x1C100 + 4 * n, 0, 16⟩
/-- `CRY_CFG.ENABLE` (R333). -/
abbrev CRY_CFG.ENABLE : Fld := ⟨0x1D000, 0, 1⟩
/-- `CRY_SENDER.ID` (R333). -/
abbrev CRY_SENDER.ID : Fld := ⟨0x1D004, 0, 32⟩
/-- `CRY_STAT.STATE` (R333). -/
abbrev CRY_STAT.STATE : Fld := ⟨0x1D008, 0, 2⟩
/-- `CRY_STAT.QHOST` (R333). -/
abbrev CRY_STAT.QHOST : Fld := ⟨0x1D008, 4, 6⟩
/-- `CRY_STAT.QINT` (R333). -/
abbrev CRY_STAT.QINT : Fld := ⟨0x1D008, 12, 5⟩
/-- `CRY_STAT.ERASEPEND` (R333). -/
abbrev CRY_STAT.ERASEPEND : Fld := ⟨0x1D008, 20, 2⟩
/-- `CRY_ALARM.FW1` (R333). -/
abbrev CRY_ALARM.FW1 : Fld := ⟨0x1D00C, 0, 1⟩
/-- `CRY_ALARM.FW2` (R333). -/
abbrev CRY_ALARM.FW2 : Fld := ⟨0x1D00C, 1, 1⟩
/-- `CRY_ALARM.GLITCH` (R333). -/
abbrev CRY_ALARM.GLITCH : Fld := ⟨0x1D00C, 2, 1⟩
/-- `CRY_ALARM.TEMP` (R333). -/
abbrev CRY_ALARM.TEMP : Fld := ⟨0x1D00C, 3, 1⟩
/-- `CRY_ALARM.DEBUG` (R333). -/
abbrev CRY_ALARM.DEBUG : Fld := ⟨0x1D00C, 4, 1⟩
/-- `CRY_ALARM.TAMPER` (R333). -/
abbrev CRY_ALARM.TAMPER : Fld := ⟨0x1D00C, 5, 1⟩
/-- `CRY_ALARM.RETIRE` (R333). -/
abbrev CRY_ALARM.RETIRE : Fld := ⟨0x1D00C, 6, 1⟩
/-- `CRY_ALARM.LEVEL` (R333). -/
abbrev CRY_ALARM.LEVEL : Fld := ⟨0x1D00C, 8, 2⟩
/-- `CRY_ALARMT.T` (R333). -/
abbrev CRY_ALARMT.T : Fld := ⟨0x1D010, 0, 64⟩
/-- `CRY_CNT.N` (R333). -/
abbrev CRY_CNT.N : Fld := ⟨0x1D018, 0, 32⟩
/-- `CRY_CNT1.AUTHFAIL` (R333). -/
abbrev CRY_CNT1.AUTHFAIL : Fld := ⟨0x1D01C, 0, 16⟩
/-- `CRY_CNT1.ABORT` (R333). -/
abbrev CRY_CNT1.ABORT : Fld := ⟨0x1D01C, 16, 16⟩
/-- `CRY_ROOT.VALID` (R333). -/
abbrev CRY_ROOT.VALID (n : Nat) : Fld := ⟨0x1D040 + 4 * n, 0, 1⟩
/-- `CRY_ROOT.PROV` (R333). -/
abbrev CRY_ROOT.PROV (n : Nat) : Fld := ⟨0x1D040 + 4 * n, 8, 3⟩
/-- `CRY_SLOT.STATE` (R334). -/
abbrev CRY_SLOT.STATE (n : Nat) : Fld := ⟨0x1D100 + 8 * n, 0, 2⟩
/-- `CRY_SLOT.ROOT` (R334). -/
abbrev CRY_SLOT.ROOT (n : Nat) : Fld := ⟨0x1D100 + 8 * n, 2, 2⟩
/-- `CRY_SLOT.KEYLEN` (R334). -/
abbrev CRY_SLOT.KEYLEN (n : Nat) : Fld := ⟨0x1D100 + 8 * n, 4, 1⟩
/-- `CRY_SLOT.MODES` (R334). -/
abbrev CRY_SLOT.MODES (n : Nat) : Fld := ⟨0x1D100 + 8 * n, 8, 5⟩
/-- `CRY_SLOT.EPOCH` (R334). -/
abbrev CRY_SLOT.EPOCH (n : Nat) : Fld := ⟨0x1D100 + 8 * n, 16, 16⟩
/-- `CRY_NONCE.N` (R334). -/
abbrev CRY_NONCE.N (n : Nat) : Fld := ⟨0x1D104 + 8 * n, 0, 32⟩
/-- `ACC_CFG.ENABLE` (R357). -/
abbrev ACC_CFG.ENABLE : Fld := ⟨0x1E000, 0, 1⟩
/-- `ACC_CFG.WIN` (R357). -/
abbrev ACC_CFG.WIN : Fld := ⟨0x1E000, 1, 3⟩
/-- `ACC_CFG.SLOTSM1` (R357). -/
abbrev ACC_CFG.SLOTSM1 : Fld := ⟨0x1E000, 4, 3⟩
/-- `ACC_CFG.CSLOT` (R357). -/
abbrev ACC_CFG.CSLOT : Fld := ⟨0x1E000, 8, 6⟩
/-- `ACC_VID.VID` (R357). -/
abbrev ACC_VID.VID : Fld := ⟨0x1E004, 0, 32⟩
/-- `ACC_STAT.STATE` (R357). -/
abbrev ACC_STAT.STATE : Fld := ⟨0x1E008, 0, 3⟩
/-- `ACC_STAT.QN` (R357). -/
abbrev ACC_STAT.QN : Fld := ⟨0x1E008, 3, 3⟩
/-- `ACC_STAT.LEVEL` (R357). -/
abbrev ACC_STAT.LEVEL : Fld := ⟨0x1E008, 8, 2⟩
/-- `ACC_STAT.FAILN` (R357). -/
abbrev ACC_STAT.FAILN : Fld := ⟨0x1E008, 10, 3⟩
/-- `ACC_LOCKREM.SEC` (R357). -/
abbrev ACC_LOCKREM.SEC : Fld := ⟨0x1E00C, 0, 16⟩
/-- `ACC_RESULT.STATUS` (R357). -/
abbrev ACC_RESULT.STATUS : Fld := ⟨0x1E010, 0, 8⟩
/-- `ACC_RESULT.REASON` (R357). -/
abbrev ACC_RESULT.REASON : Fld := ⟨0x1E010, 8, 8⟩
/-- `ACC_RESULT.COUNT` (R357). -/
abbrev ACC_RESULT.COUNT : Fld := ⟨0x1E010, 16, 16⟩
/-- `ACC_LASTDEV.DEV` (R357). -/
abbrev ACC_LASTDEV.DEV : Fld := ⟨0x1E014, 0, 16⟩
/-- `ACC_LASTDEV.TOKEN` (R357). -/
abbrev ACC_LASTDEV.TOKEN : Fld := ⟨0x1E014, 16, 3⟩
/-- `ACC_LASTDEV.VALID` (R357). -/
abbrev ACC_LASTDEV.VALID : Fld := ⟨0x1E014, 19, 1⟩
/-- `ACC_CNT.ACCEPT` (R357). -/
abbrev ACC_CNT.ACCEPT : Fld := ⟨0x1E018, 0, 16⟩
/-- `ACC_CNT.FAIL` (R357). -/
abbrev ACC_CNT.FAIL : Fld := ⟨0x1E018, 16, 16⟩
/-- `ACC_CNT1.COLL` (R357). -/
abbrev ACC_CNT1.COLL : Fld := ⟨0x1E01C, 0, 16⟩
/-- `ACC_CNT1.NOREPLY` (R357). -/
abbrev ACC_CNT1.NOREPLY : Fld := ⟨0x1E01C, 16, 16⟩
/-- `ACC_SESST.T` (R357). -/
abbrev ACC_SESST.T : Fld := ⟨0x1E020, 0, 64⟩
/-- `ACC_DOOR.IDX` (R357). -/
abbrev ACC_DOOR.IDX (n : Nat) : Fld := ⟨0x1E040 + 4 * n, 0, 17⟩
/-- `ACC_DOOR.EN` (R357). -/
abbrev ACC_DOOR.EN (n : Nat) : Fld := ⟨0x1E040 + 4 * n, 24, 1⟩
/-- `ACC_DOOR.LVL` (R357). -/
abbrev ACC_DOOR.LVL (n : Nat) : Fld := ⟨0x1E040 + 4 * n, 25, 1⟩
/-- `ACC_LF.EN` (R357). -/
abbrev ACC_LF.EN (n : Nat) : Fld := ⟨0x1E080 + 4 * n, 0, 1⟩
/-- `ACC_LF.IPK` (R357). -/
abbrev ACC_LF.IPK (n : Nat) : Fld := ⟨0x1E080 + 4 * n, 8, 7⟩
/-- `ACC_LFSTAT.SHORT` (R357). -/
abbrev ACC_LFSTAT.SHORT : Fld := ⟨0x1E0A0, 0, 8⟩
/-- `ACC_LFSTAT.OPEN` (R357). -/
abbrev ACC_LFSTAT.OPEN : Fld := ⟨0x1E0A0, 8, 8⟩
/-- `ACC_TOKID.ID` (R358). -/
abbrev ACC_TOKID.ID (n : Nat) : Fld := ⟨0x1E100 + 16 * n, 0, 32⟩
/-- `ACC_TOKCFG.SLOT` (R358). -/
abbrev ACC_TOKCFG.SLOT (n : Nat) : Fld := ⟨0x1E104 + 16 * n, 0, 6⟩
/-- `ACC_TOKCFG.REG` (R358). -/
abbrev ACC_TOKCFG.REG (n : Nat) : Fld := ⟨0x1E104 + 16 * n, 8, 1⟩
/-- `ACC_TOKCFG.CALOK` (R358). -/
abbrev ACC_TOKCFG.CALOK (n : Nat) : Fld := ⟨0x1E104 + 16 * n, 9, 1⟩
/-- `ACC_TOKCFG.CAL` (R358). -/
abbrev ACC_TOKCFG.CAL (n : Nat) : Fld := ⟨0x1E104 + 16 * n, 16, 16⟩
/-- `ACC_TOKCNT.LASTCNT` (R358). -/
abbrev ACC_TOKCNT.LASTCNT (n : Nat) : Fld := ⟨0x1E108 + 16 * n, 0, 32⟩
/-- `ACC_TOKSTAT.FLAGS` (R358). -/
abbrev ACC_TOKSTAT.FLAGS (n : Nat) : Fld := ⟨0x1E10C + 16 * n, 0, 8⟩
/-- `ACC_TOKSTAT.NACC` (R358). -/
abbrev ACC_TOKSTAT.NACC (n : Nat) : Fld := ⟨0x1E10C + 16 * n, 16, 16⟩
/-- `FLT_CFG.UNBHOST` (R377). -/
abbrev FLT_CFG.UNBHOST : Fld := ⟨0x1F000, 0, 1⟩
/-- `FLT_STAT.NSEV` (R377). -/
abbrev FLT_STAT.NSEV : Fld := ⟨0x1F004, 0, 9⟩
/-- `FLT_STAT.BALL` (R377). -/
abbrev FLT_STAT.BALL : Fld := ⟨0x1F004, 9, 1⟩
/-- `FLT_STAT.BSRC` (R377). -/
abbrev FLT_STAT.BSRC : Fld := ⟨0x1F004, 10, 3⟩
/-- `FLT_STAT.TEST` (R377). -/
abbrev FLT_STAT.TEST : Fld := ⟨0x1F004, 13, 1⟩
/-- `FLT_STAT.NQ` (R377). -/
abbrev FLT_STAT.NQ : Fld := ⟨0x1F004, 16, 9⟩
/-- `FLT_LOST.NOTICE` (R377). -/
abbrev FLT_LOST.NOTICE : Fld := ⟨0x1F008, 0, 16⟩
/-- `FLT_LOST.DIE` (R377). -/
abbrev FLT_LOST.DIE : Fld := ⟨0x1F008, 16, 16⟩
/-- `FLT_UNBCNT.N` (R377). -/
abbrev FLT_UNBCNT.N : Fld := ⟨0x1F00C, 0, 32⟩
/-- `FLT_RAISECNT.N` (R377). -/
abbrev FLT_RAISECNT.N : Fld := ⟨0x1F010, 0, 32⟩
/-- `FLT_SEVMAP.MAP` (R377). -/
abbrev FLT_SEVMAP.MAP (n : Nat) : Fld := ⟨0x1F020 + 4 * n, 0, 32⟩
/-- `FLT_CTL.REC` (R377). -/
abbrev FLT_CTL.REC : Fld := ⟨0x1F040, 0, 8⟩
/-- `FLT_CTL.CLR` (R377). -/
abbrev FLT_CTL.CLR : Fld := ⟨0x1F040, 8, 1⟩
/-- `FLT_BIND.BASE` (R378). -/
abbrev FLT_BIND.BASE (n : Nat) : Fld := ⟨0x1F400 + 4 * n, 0, 16⟩
/-- `FLT_BIND.SPAN` (R378). -/
abbrev FLT_BIND.SPAN (n : Nat) : Fld := ⟨0x1F400 + 4 * n, 16, 8⟩
/-- `FLT_BIND.REACT` (R378). -/
abbrev FLT_BIND.REACT (n : Nat) : Fld := ⟨0x1F400 + 4 * n, 24, 4⟩
/-- `FLT_COUNT.N` (R378). -/
abbrev FLT_COUNT.N (n : Nat) : Fld := ⟨0x1F800 + 4 * n, 0, 4⟩
/-- `FLT_COUNT.WIN` (R378). -/
abbrev FLT_COUNT.WIN (n : Nat) : Fld := ⟨0x1F800 + 4 * n, 4, 12⟩
/-- `FLT_COUNT.QUIET` (R378). -/
abbrev FLT_COUNT.QUIET (n : Nat) : Fld := ⟨0x1F800 + 4 * n, 16, 12⟩
/-- `FLT_COUNT.RLIM` (R378). -/
abbrev FLT_COUNT.RLIM (n : Nat) : Fld := ⟨0x1F800 + 4 * n, 28, 4⟩
/-- `FLT_RSTAT.STATE` (R378). -/
abbrev FLT_RSTAT.STATE (n : Nat) : Fld := ⟨0x1FC00 + 4 * n, 0, 2⟩
/-- `FLT_RSTAT.INJ` (R378). -/
abbrev FLT_RSTAT.INJ (n : Nat) : Fld := ⟨0x1FC00 + 4 * n, 2, 1⟩
/-- `FLT_RSTAT.KIND` (R378). -/
abbrev FLT_RSTAT.KIND (n : Nat) : Fld := ⟨0x1FC00 + 4 * n, 8, 8⟩
/-- `FLT_RSTAT.RCNT` (R378). -/
abbrev FLT_RSTAT.RCNT (n : Nat) : Fld := ⟨0x1FC00 + 4 * n, 16, 8⟩
/-- `FLT_RSTAT.NRET` (R378). -/
abbrev FLT_RSTAT.NRET (n : Nat) : Fld := ⟨0x1FC00 + 4 * n, 24, 4⟩
/-- `EVR_CFG.MWIN` (R393). -/
abbrev EVR_CFG.MWIN : Fld := ⟨0x20000, 0, 8⟩
/-- `EVR_STAT.QOCC` (R393). -/
abbrev EVR_STAT.QOCC : Fld := ⟨0x20004, 0, 7⟩
/-- `EVR_STAT.CLOCC` (R393). -/
abbrev EVR_STAT.CLOCC : Fld := ⟨0x20004, 8, 5⟩
/-- `EVR_STAT.REPLAY` (R393). -/
abbrev EVR_STAT.REPLAY : Fld := ⟨0x20004, 13, 1⟩
/-- `EVR_WCNT.N` (R393). -/
abbrev EVR_WCNT.N : Fld := ⟨0x20008, 0, 32⟩
/-- `EVR_OLDEST.N` (R393). -/
abbrev EVR_OLDEST.N : Fld := ⟨0x2000C, 0, 32⟩
/-- `EVR_OPSEC.N` (R393). -/
abbrev EVR_OPSEC.N : Fld := ⟨0x20010, 0, 32⟩
/-- `EVR_PCYC.N` (R393). -/
abbrev EVR_PCYC.N : Fld := ⟨0x20014, 0, 24⟩
/-- `EVR_LOST.QUEUE` (R393). -/
abbrev EVR_LOST.QUEUE : Fld := ⟨0x20018, 0, 16⟩
/-- `EVR_LOST.CANDLE` (R393). -/
abbrev EVR_LOST.CANDLE : Fld := ⟨0x20018, 16, 16⟩
/-- `EVR_MERGECNT.N` (R393). -/
abbrev EVR_MERGECNT.N : Fld := ⟨0x2001C, 0, 32⟩
/-- `CFG_STAT.ACTIVE` (R414). -/
abbrev CFG_STAT.ACTIVE : Fld := ⟨0x21000, 0, 1⟩
/-- `CFG_STAT.AVALID` (R414). -/
abbrev CFG_STAT.AVALID : Fld := ⟨0x21000, 1, 1⟩
/-- `CFG_STAT.STATEA` (R414). -/
abbrev CFG_STAT.STATEA : Fld := ⟨0x21000, 2, 3⟩
/-- `CFG_STAT.STATEB` (R414). -/
abbrev CFG_STAT.STATEB : Fld := ⟨0x21000, 5, 3⟩
/-- `CFG_STAT.STEP` (R414). -/
abbrev CFG_STAT.STEP : Fld := ⟨0x21000, 8, 3⟩
/-- `CFG_STAT.TEST` (R414). -/
abbrev CFG_STAT.TEST : Fld := ⟨0x21000, 12, 1⟩
/-- `CFG_STAT.DBG` (R414). -/
abbrev CFG_STAT.DBG : Fld := ⟨0x21000, 13, 1⟩
/-- `CFG_LAST.STATUS` (R414). -/
abbrev CFG_LAST.STATUS : Fld := ⟨0x21004, 0, 8⟩
/-- `CFG_LAST.REASON` (R414). -/
abbrev CFG_LAST.REASON : Fld := ⟨0x21004, 8, 8⟩
/-- `CFG_LAST.STEP` (R414). -/
abbrev CFG_LAST.STEP : Fld := ⟨0x21004, 16, 3⟩
/-- `CFG_LAST.OPC` (R414). -/
abbrev CFG_LAST.OPC : Fld := ⟨0x21004, 24, 8⟩
/-- `CFG_BVER.VERSION` (R414). -/
abbrev CFG_BVER.VERSION (n : Nat) : Fld := ⟨0x21010 + 8 * n, 0, 24⟩
/-- `CFG_BVER.NODE` (R414). -/
abbrev CFG_BVER.NODE (n : Nat) : Fld := ⟨0x21010 + 8 * n, 24, 6⟩
/-- `CFG_BGEN.GEN` (R414). -/
abbrev CFG_BGEN.GEN (n : Nat) : Fld := ⟨0x21014 + 8 * n, 0, 16⟩
/-- `CFG_BSDIG.SDIG` (R414). -/
abbrev CFG_BSDIG.SDIG (n : Nat) : Fld := ⟨0x21020 + 8 * n, 0, 64⟩
/-- `CFG_OTP.MINVER` (R414). -/
abbrev CFG_OTP.MINVER : Fld := ⟨0x21040, 0, 24⟩
/-- `CFG_OTP.RAISES` (R414). -/
abbrev CFG_OTP.RAISES : Fld := ⟨0x21040, 24, 8⟩
/-- `CFG_OTP2.DEBUG` (R414). -/
abbrev CFG_OTP2.DEBUG : Fld := ⟨0x21044, 0, 5⟩
/-- `CFG_OTP2.LIFE` (R414). -/
abbrev CFG_OTP2.LIFE : Fld := ⟨0x21044, 8, 2⟩
/-- `CFG_AUTH.AUTHEN` (R414). -/
abbrev CFG_AUTH.AUTHEN : Fld := ⟨0x21048, 0, 1⟩
/-- `CFG_AUTH.ASLOT` (R414). -/
abbrev CFG_AUTH.ASLOT : Fld := ⟨0x21048, 8, 6⟩
/-- `CFG_VERYA.VEN` (R414). -/
abbrev CFG_VERYA.VEN : Fld := ⟨0x21060, 0, 1⟩
/-- `CFG_VERYA.ETHEN` (R414). -/
abbrev CFG_VERYA.ETHEN : Fld := ⟨0x21060, 1, 1⟩
/-- `CFG_VERYA.VAUTH` (R414). -/
abbrev CFG_VERYA.VAUTH : Fld := ⟨0x21060, 2, 1⟩
/-- `CFG_VERYA.VSLOT` (R414). -/
abbrev CFG_VERYA.VSLOT : Fld := ⟨0x21060, 8, 6⟩
/-- `CFG_VERYA.CANMASK` (R414). -/
abbrev CFG_VERYA.CANMASK : Fld := ⟨0x21060, 16, 12⟩
/-- `CFG_VID.LID` (R414). -/
abbrev CFG_VID.LID : Fld := ⟨0x21064, 0, 11⟩
/-- `CFG_VID.VSILENT` (R414). -/
abbrev CFG_VID.VSILENT : Fld := ⟨0x21064, 24, 8⟩
/-- `CFG_VCNT.RX` (R414). -/
abbrev CFG_VCNT.RX : Fld := ⟨0x21068, 0, 16⟩
/-- `CFG_VCNT.BAD` (R414). -/
abbrev CFG_VCNT.BAD : Fld := ⟨0x21068, 16, 16⟩
/-- `CFG_PEER.STATE` (R414). -/
abbrev CFG_PEER.STATE (n : Nat) : Fld := ⟨0x21100 + 4 * n, 0, 2⟩
/-- `CFG_PEER.REQ` (R414). -/
abbrev CFG_PEER.REQ (n : Nat) : Fld := ⟨0x21100 + 4 * n, 2, 1⟩
/-- `CFG_PEER.NODE` (R414). -/
abbrev CFG_PEER.NODE (n : Nat) : Fld := ⟨0x21100 + 4 * n, 8, 6⟩
/-- `CFG_PEER.GEN` (R414). -/
abbrev CFG_PEER.GEN (n : Nat) : Fld := ⟨0x21100 + 4 * n, 16, 16⟩
/-- `PWR_STAT.STATE` (R434). -/
abbrev PWR_STAT.STATE : Fld := ⟨0x01000, 0, 3⟩
/-- `PWR_STAT.DOM` (R434). -/
abbrev PWR_STAT.DOM : Fld := ⟨0x01000, 4, 3⟩
/-- `PWR_STAT.SLP` (R434). -/
abbrev PWR_STAT.SLP : Fld := ⟨0x01000, 8, 3⟩
/-- `PWR_STAT.VOTEP` (R434). -/
abbrev PWR_STAT.VOTEP : Fld := ⟨0x01000, 12, 1⟩
/-- `PWR_STAT.VOTEH` (R434). -/
abbrev PWR_STAT.VOTEH : Fld := ⟨0x01000, 13, 1⟩
/-- `PWR_STAT.BALL` (R434). -/
abbrev PWR_STAT.BALL : Fld := ⟨0x01000, 14, 1⟩
/-- `PWR_CFG.VOTE` (R434). -/
abbrev PWR_CFG.VOTE : Fld := ⟨0x01004, 0, 2⟩
/-- `PWR_CFG.SLP` (R434). -/
abbrev PWR_CFG.SLP : Fld := ⟨0x01004, 4, 3⟩
/-- `PWR_CFG.SDTMO` (R434). -/
abbrev PWR_CFG.SDTMO : Fld := ⟨0x01004, 8, 8⟩
/-- `PWR_CFG.TMRWAKE` (R434). -/
abbrev PWR_CFG.TMRWAKE : Fld := ⟨0x01004, 16, 16⟩
/-- `PWR_WAKE.SRC` (R434). -/
abbrev PWR_WAKE.SRC : Fld := ⟨0x01008, 0, 10⟩
/-- `PWR_WAKE.ATTEMPT` (R434). -/
abbrev PWR_WAKE.ATTEMPT : Fld := ⟨0x01008, 12, 4⟩
/-- `PWR_PARKT.SEC` (R434). -/
abbrev PWR_PARKT.SEC : Fld := ⟨0x0100C, 0, 32⟩
/-- `PWR_TIMER.SEC` (R434). -/
abbrev PWR_TIMER.SEC : Fld := ⟨0x01010, 0, 32⟩
/-- `PWR_ERR.REGFAIL` (R434). -/
abbrev PWR_ERR.REGFAIL : Fld := ⟨0x01014, 0, 1⟩
/-- `PWR_ERR.PARKREG` (R434). -/
abbrev PWR_ERR.PARKREG : Fld := ⟨0x01014, 1, 1⟩
/-- `PWR_ERR.RAIL` (R434). -/
abbrev PWR_ERR.RAIL : Fld := ⟨0x01014, 2, 3⟩
/-- `PWR_ERR.DFAIL` (R434). -/
abbrev PWR_ERR.DFAIL : Fld := ⟨0x01014, 5, 3⟩
/-- `PWR_ERR.FORCED` (R434). -/
abbrev PWR_ERR.FORCED : Fld := ⟨0x01014, 8, 1⟩
/-- `PWR_CNT.WAKES` (R434). -/
abbrev PWR_CNT.WAKES : Fld := ⟨0x01018, 0, 16⟩
/-- `PWR_CNT.REGFAILS` (R434). -/
abbrev PWR_CNT.REGFAILS : Fld := ⟨0x01018, 16, 16⟩
/-- `PWR_MGP.ADDR` (R434). -/
abbrev PWR_MGP.ADDR : Fld := ⟨0x0101C, 0, 7⟩
/-- `PWR_CTL.VOTE` (R434). -/
abbrev PWR_CTL.VOTE : Fld := ⟨0x01020, 0, 2⟩
/-- `SYS_ACCERR.SIZE` (R471). -/
abbrev SYS_ACCERR.SIZE : Fld := ⟨0x00004, 0, 1⟩
/-- `SYS_ACCERR.UNMAPPED` (R471). -/
abbrev SYS_ACCERR.UNMAPPED : Fld := ⟨0x00004, 1, 1⟩
/-- `SYS_ACCERR.LOCKED` (R471). -/
abbrev SYS_ACCERR.LOCKED : Fld := ⟨0x00004, 2, 1⟩
/-- `SYS_ACCADDR.OFS` (R471). -/
abbrev SYS_ACCADDR.OFS : Fld := ⟨0x00008, 0, 20⟩
/-- `SYS_ACCADDR.KIND` (R471). -/
abbrev SYS_ACCADDR.KIND : Fld := ⟨0x00008, 20, 2⟩

/-- The word of channel u (0 to 47 HS, 48 to 63 PD) at offset `o` of its instance (R93, R95). -/
abbrev chOff (u o : Nat) : Nat := if u < 48 then 0x08000 + 64 * u + o else 0x09000 + 64 * (u - 48) + o

/-- `HSW_CFG.ENABLE` of an HS channel and `PDRV_CFG.ENABLE` of a PD channel (R93, R95). -/
abbrev CH_CFG.ENABLE (u : Nat) : Fld := ⟨chOff u 0x00, 0, 1⟩
/-- `HSW_CFG.LAMP` of an HS channel and `PDRV_CFG.LAMP` of a PD channel (R93, R95). -/
abbrev CH_CFG.LAMP (u : Nat) : Fld := ⟨chOff u 0x00, 3, 1⟩
/-- `HSW_CFG.COMPEN` of an HS channel and `PDRV_CFG.COMPEN` of a PD channel (R93, R95). -/
abbrev CH_CFG.COMPEN (u : Nat) : Fld := ⟨chOff u 0x00, 4, 1⟩
/-- `HSW_CFG.OLEN` of an HS channel and `PDRV_CFG.OLEN` of a PD channel (R93, R95). -/
abbrev CH_CFG.OLEN (u : Nat) : Fld := ⟨chOff u 0x00, 5, 1⟩
/-- `HSW_CFG.WICKEN` of an HS channel and `PDRV_CFG.WICKEN` of a PD channel (R93, R95). -/
abbrev CH_CFG.WICKEN (u : Nat) : Fld := ⟨chOff u 0x00, 6, 1⟩
/-- `HSW_CFG.BGRP` of an HS channel and `PDRV_CFG.BGRP` of a PD channel (R93, R95). -/
abbrev CH_CFG.BGRP (u : Nat) : Fld := ⟨chOff u 0x00, 12, 4⟩
/-- `HSW_CFG.LIMP` of an HS channel and `PDRV_CFG.LIMP` of a PD channel (R93, R95). -/
abbrev CH_CFG.LIMP (u : Nat) : Fld := ⟨chOff u 0x00, 16, 2⟩
/-- `HSW_CFG.FBDIV` of an HS channel and `PDRV_CFG.FBDIV` of a PD channel (R93, R95). -/
abbrev CH_CFG.FBDIV (u : Nat) : Fld := ⟨chOff u 0x00, 24, 8⟩
/-- `HSW_OC.ISHORT` of an HS channel and `PDRV_OC.ISHORT` of a PD channel (R93, R95). -/
abbrev CH_OC.ISHORT (u : Nat) : Fld := ⟨chOff u 0x04, 0, 8⟩
/-- `HSW_OC.IOVL` of an HS channel and `PDRV_OC.IOVL` of a PD channel (R93, R95). -/
abbrev CH_OC.IOVL (u : Nat) : Fld := ⟨chOff u 0x04, 8, 10⟩
/-- `HSW_OC.TOVL` of an HS channel and `PDRV_OC.TOVL` of a PD channel (R93, R95). -/
abbrev CH_OC.TOVL (u : Nat) : Fld := ⟨chOff u 0x04, 20, 12⟩
/-- `HSW_RETRY.MAX` of an HS channel and `PDRV_RETRY.MAX` of a PD channel (R93, R95). -/
abbrev CH_RETRY.MAX (u : Nat) : Fld := ⟨chOff u 0x08, 0, 4⟩
/-- `HSW_RETRY.DELAY` of an HS channel and `PDRV_RETRY.DELAY` of a PD channel (R93, R95). -/
abbrev CH_RETRY.DELAY (u : Nat) : Fld := ⟨chOff u 0x08, 8, 8⟩
/-- `HSW_RETRY.REFILL` of an HS channel and `PDRV_RETRY.REFILL` of a PD channel (R93, R95). -/
abbrev CH_RETRY.REFILL (u : Nat) : Fld := ⟨chOff u 0x08, 16, 8⟩
/-- `HSW_PWM.FREQ` of an HS channel and `PDRV_PWM.FREQ` of a PD channel (R93, R95). -/
abbrev CH_PWM.FREQ (u : Nat) : Fld := ⟨chOff u 0x0C, 0, 11⟩
/-- `HSW_PWM.PHASE` of an HS channel and `PDRV_PWM.PHASE` of a PD channel (R93, R95). -/
abbrev CH_PWM.PHASE (u : Nat) : Fld := ⟨chOff u 0x0C, 12, 4⟩
/-- `HSW_INRUSH.ILIM` of an HS channel and `PDRV_INRUSH.ILIM` of a PD channel (R93, R95). -/
abbrev CH_INRUSH.ILIM (u : Nat) : Fld := ⟨chOff u 0x10, 0, 10⟩
/-- `HSW_INRUSH.TWIN` of an HS channel and `PDRV_INRUSH.TWIN` of a PD channel (R93, R95). -/
abbrev CH_INRUSH.TWIN (u : Nat) : Fld := ⟨chOff u 0x10, 16, 8⟩
/-- `HSW_INRUSH.SOFT` of an HS channel and `PDRV_INRUSH.SOFT` of a PD channel (R93, R95). -/
abbrev CH_INRUSH.SOFT (u : Nat) : Fld := ⟨chOff u 0x10, 24, 8⟩
/-- `HSW_WICK0.RPM` of an HS channel and `PDRV_WICK0.RPM` of a PD channel (R93, R95). -/
abbrev CH_WICK0.RPM (u : Nat) : Fld := ⟨chOff u 0x14, 0, 16⟩
/-- `HSW_WICK0.CPM` of an HS channel and `PDRV_WICK0.CPM` of a PD channel (R93, R95). -/
abbrev CH_WICK0.CPM (u : Nat) : Fld := ⟨chOff u 0x14, 16, 16⟩
/-- `HSW_WICK1.RCB` of an HS channel and `PDRV_WICK1.RCB` of a PD channel (R93, R95). -/
abbrev CH_WICK1.RCB (u : Nat) : Fld := ⟨chOff u 0x18, 0, 16⟩
/-- `HSW_WICK1.TLIM` of an HS channel and `PDRV_WICK1.TLIM` of a PD channel (R93, R95). -/
abbrev CH_WICK1.TLIM (u : Nat) : Fld := ⟨chOff u 0x18, 16, 8⟩
/-- `HSW_WICK1.THYST` of an HS channel and `PDRV_WICK1.THYST` of a PD channel (R93, R95). -/
abbrev CH_WICK1.THYST (u : Nat) : Fld := ⟨chOff u 0x18, 24, 8⟩
/-- `HSW_OL.VTH` of an HS channel and `PDRV_OL.VTH` of a PD channel (R93, R95). -/
abbrev CH_OL.VTH (u : Nat) : Fld := ⟨chOff u 0x1C, 0, 12⟩
/-- `HSW_OL.TPER` of an HS channel and `PDRV_OL.TPER` of a PD channel (R93, R95). -/
abbrev CH_OL.TPER (u : Nat) : Fld := ⟨chOff u 0x1C, 16, 8⟩
/-- `HSW_STAT.STATE` of an HS channel and `PDRV_STAT.STATE` of a PD channel (R93, R95). -/
abbrev CH_STAT.STATE (u : Nat) : Fld := ⟨chOff u 0x20, 0, 4⟩
/-- `HSW_STAT.OP` of an HS channel and `PDRV_STAT.OP` of a PD channel (R93, R95). -/
abbrev CH_STAT.OP (u : Nat) : Fld := ⟨chOff u 0x20, 4, 2⟩
/-- `HSW_STAT.EMBER` of an HS channel and `PDRV_STAT.EMBER` of a PD channel (R93, R95). -/
abbrev CH_STAT.EMBER (u : Nat) : Fld := ⟨chOff u 0x20, 6, 1⟩
/-- `HSW_STAT.TRIPPED` of an HS channel and `PDRV_STAT.TRIPPED` of a PD channel (R93, R95). -/
abbrev CH_STAT.TRIPPED (u : Nat) : Fld := ⟨chOff u 0x20, 7, 1⟩
/-- `HSW_STAT.RETRYLEFT` of an HS channel and `PDRV_STAT.RETRYLEFT` of a PD channel (R93, R95). -/
abbrev CH_STAT.RETRYLEFT (u : Nat) : Fld := ⟨chOff u 0x20, 8, 4⟩
/-- `HSW_STAT.WHOLD` of an HS channel and `PDRV_STAT.WHOLD` of a PD channel (R93, R95). -/
abbrev CH_STAT.WHOLD (u : Nat) : Fld := ⟨chOff u 0x20, 12, 1⟩
/-- `HSW_STAT.WWARN` of an HS channel and `PDRV_STAT.WWARN` of a PD channel (R93, R95). -/
abbrev CH_STAT.WWARN (u : Nat) : Fld := ⟨chOff u 0x20, 13, 1⟩
/-- `HSW_STAT.OLFLAG` of an HS channel and `PDRV_STAT.OLFLAG` of a PD channel (R93, R95). -/
abbrev CH_STAT.OLFLAG (u : Nat) : Fld := ⟨chOff u 0x20, 14, 1⟩
/-- `HSW_STAT.SBFLAG` of an HS channel and `PDRV_STAT.SBFLAG` of a PD channel (R93, R95). -/
abbrev CH_STAT.SBFLAG (u : Nat) : Fld := ⟨chOff u 0x20, 15, 1⟩
/-- `HSW_STAT.LIMPSRC` of an HS channel and `PDRV_STAT.LIMPSRC` of a PD channel (R93, R95). -/
abbrev CH_STAT.LIMPSRC (u : Nat) : Fld := ⟨chOff u 0x20, 16, 1⟩
/-- `HSW_CAUSE.SHORT` of an HS channel and `PDRV_CAUSE.SHORT` of a PD channel (R93, R95). -/
abbrev CH_CAUSE.SHORT (u : Nat) : Fld := ⟨chOff u 0x24, 0, 1⟩
/-- `HSW_CAUSE.OVL` of an HS channel and `PDRV_CAUSE.OVL` of a PD channel (R93, R95). -/
abbrev CH_CAUSE.OVL (u : Nat) : Fld := ⟨chOff u 0x24, 1, 1⟩
/-- `HSW_CAUSE.VDS` of an HS channel and `PDRV_CAUSE.VDS` of a PD channel (R93, R95). -/
abbrev CH_CAUSE.VDS (u : Nat) : Fld := ⟨chOff u 0x24, 2, 1⟩
/-- `HSW_CAUSE.EMBER` of an HS channel and `PDRV_CAUSE.EMBER` of a PD channel (R93, R95). -/
abbrev CH_CAUSE.EMBER (u : Nat) : Fld := ⟨chOff u 0x24, 3, 1⟩
/-- `HSW_CAUSE.WICK` of an HS channel and `PDRV_CAUSE.WICK` of a PD channel (R93, R95). -/
abbrev CH_CAUSE.WICK (u : Nat) : Fld := ⟨chOff u 0x24, 4, 1⟩
/-- `HSW_CAUSE.LOCK` of an HS channel and `PDRV_CAUSE.LOCK` of a PD channel (R93, R95). -/
abbrev CH_CAUSE.LOCK (u : Nat) : Fld := ⟨chOff u 0x24, 5, 1⟩
/-- `HSW_CAUSE.INVCMD` of an HS channel and `PDRV_CAUSE.INVCMD` of a PD channel (R93, R95). -/
abbrev CH_CAUSE.INVCMD (u : Nat) : Fld := ⟨chOff u 0x24, 6, 1⟩
/-- `HSW_CAUSE.RETRY` of an HS channel and `PDRV_CAUSE.RETRY` of a PD channel (R93, R95). -/
abbrev CH_CAUSE.RETRY (u : Nat) : Fld := ⟨chOff u 0x24, 7, 1⟩
/-- `HSW_CAUSE.OPENLOAD` of an HS channel and `PDRV_CAUSE.OPENLOAD` of a PD channel (R93, R95). -/
abbrev CH_CAUSE.OPENLOAD (u : Nat) : Fld := ⟨chOff u 0x24, 8, 1⟩
/-- `HSW_CAUSE.SHORTBAT` of an HS channel and `PDRV_CAUSE.SHORTBAT` of a PD channel (R93, R95). -/
abbrev CH_CAUSE.SHORTBAT (u : Nat) : Fld := ⟨chOff u 0x24, 9, 1⟩
/-- `HSW_TRIPT.T` of an HS channel and `PDRV_TRIPT.T` of a PD channel (R93, R95). -/
abbrev CH_TRIPT.T (u : Nat) : Fld := ⟨chOff u 0x28, 0, 64⟩
/-- `HSW_MEAS0.CUR` of an HS channel and `PDRV_MEAS0.CUR` of a PD channel (R93, R95). -/
abbrev CH_MEAS0.CUR (u : Nat) : Fld := ⟨chOff u 0x30, 0, 16⟩
/-- `HSW_MEAS0.VOUT` of an HS channel and `PDRV_MEAS0.VOUT` of a PD channel (R93, R95). -/
abbrev CH_MEAS0.VOUT (u : Nat) : Fld := ⟨chOff u 0x30, 16, 16⟩
/-- `HSW_MEAS1.TJ` of an HS channel and `PDRV_MEAS1.TJ` of a PD channel (R93, R95). -/
abbrev CH_MEAS1.TJ (u : Nat) : Fld := ⟨chOff u 0x34, 0, 16⟩
/-- `HSW_MEAS1.TC` of an HS channel and `PDRV_MEAS1.TC` of a PD channel (R93, R95). -/
abbrev CH_MEAS1.TC (u : Nat) : Fld := ⟨chOff u 0x34, 16, 16⟩
/-- `HSW_CTL.CLEAR` of an HS channel and `PDRV_CTL.CLEAR` of a PD channel (R93, R95). -/
abbrev CH_CTL.CLEAR (u : Nat) : Fld := ⟨chOff u 0x38, 0, 1⟩
/-- `HSW_CNT.TRIPS` of an HS channel and `PDRV_CNT.TRIPS` of a PD channel (R93, R95). -/
abbrev CH_CNT.TRIPS (u : Nat) : Fld := ⟨chOff u 0x3C, 0, 16⟩
/-- `HSW_CNT.RETRIES` of an HS channel and `PDRV_CNT.RETRIES` of a PD channel (R93, R95). -/
abbrev CH_CNT.RETRIES (u : Nat) : Fld := ⟨chOff u 0x3C, 16, 16⟩

end Reg

/-- One line of a register table: the words `base + stride * i` for i below `count`; `wide` is 1 for the low and 2 for the high word of a 64-bit register; the masks say which bits have which access code (R7), bits in none of them are RO or reserved; and the reset value. -/
structure RegRow where
  base : Nat
  stride : Nat
  count : Nat
  wide : Nat
  rw : Nat
  w1c : Nat
  rwl : Nat
  otp : Nat
  wo : Nat
  reset : Nat
  deriving DecidableEq, Repr

/-- The registers of the 4 KiB block 0x00000: SYS_ID, SYS_ACCERR, SYS_ACCADDR. -/
def regRows00 : List RegRow := [
  ⟨0x00000, 0x4, 1, 0, 0x0, 0x0, 0x0, 0x0, 0x0, 0x219600⟩,
  ⟨0x00004, 0x4, 1, 0, 0x0, 0x7, 0x0, 0x0, 0x0, 0x0⟩,
  ⟨0x00008, 0x4, 1, 0, 0x0, 0x0, 0x0, 0x0, 0x0, 0x0⟩]

/-- The registers of the 4 KiB block 0x01000: PWR_STAT, PWR_CFG, PWR_WAKE, PWR_PARKT, PWR_TIMER, PWR_ERR, PWR_CNT, PWR_MGP, PWR_CTL. -/
def regRows01 : List RegRow := [
  ⟨0x01000, 0x4, 1, 0, 0x0, 0x0, 0x0, 0x0, 0x0, 0x1⟩,
  ⟨0x01004, 0x4, 1, 0, 0x0, 0x0, 0xFFFFFF73, 0x0, 0x0, 0x3200⟩,
  ⟨0x01008, 0x4, 1, 0, 0x0, 0x3FF, 0x0, 0x0, 0x0, 0x0⟩,
  ⟨0x0100C, 0x4, 1, 0, 0x0, 0x0, 0x0, 0x0, 0x0, 0x0⟩,
  ⟨0x01010, 0x4, 1, 0, 0xFFFFFFFF, 0x0, 0x0, 0x0, 0x0, 0x0⟩,
  ⟨0x01014, 0x4, 1, 0, 0x0, 0x1FF, 0x0, 0x0, 0x0, 0x0⟩,
  ⟨0x01018, 0x4, 1, 0, 0x0, 0x0, 0x0, 0x0, 0x0, 0x0⟩,
  ⟨0x0101C, 0x4, 1, 0, 0x0, 0x0, 0x0, 0x0, 0x0, 0x58⟩,
  ⟨0x01020, 0x4, 1, 0, 0x0, 0x0, 0x0, 0x0, 0x3, 0x0⟩]

/-- The registers of the 4 KiB block 0x02000: TIME_STATE, TIME_NOW, TIME_FRAME, TIME_BOUND, TIME_PERIOD, TIME_DISC, TIME_RATE, TIME_ASOFS, TIME_DETSTAT, TIME_DETFIRST, TIME_DETCNT, TIME_DETANCHOR, TIME_DETNOW, TIME_LINKERR, TIME_XTAL. -/
def regRows02 : List RegRow := [
  ⟨0x02000, 0x4, 1, 0, 0x0, 0x0, 0x0, 0x0, 0x0, 0x0⟩,
  ⟨0x02008, 0x4, 1, 1, 0x0, 0x0, 0x0, 0x0, 0x0, 0x0⟩,
  ⟨0x0200C, 0x4, 1, 2, 0x0, 0x0, 0x0, 0x0, 0x0, 0x0⟩,
  ⟨0x02010, 0x4, 1, 0, 0x0, 0x0, 0x0, 0x0, 0x0, 0x0⟩,
  ⟨0x02018, 0x4, 1, 1, 0x0, 0x0, 0x0, 0x0, 0x0, 0x0⟩,
  ⟨0x0201C, 0x4, 1, 2, 0x0, 0x0, 0x0, 0x0, 0x0, 0x0⟩,
  ⟨0x02020, 0x4, 1, 0, 0x0, 0x0, 0x3FFFFF, 0x0, 0x0, 0x30D40⟩,
  ⟨0x02024, 0x4, 1, 0, 0x0, 0x0, 0xFF07, 0x0, 0x0, 0x6400⟩,
  ⟨0x02028, 0x4, 1, 0, 0x0, 0x0, 0x0, 0x0, 0x0, 0x0⟩,
  ⟨0x02030, 0x4, 1, 1, 0x0, 0x0, 0x0, 0x0, 0x0, 0x0⟩,
  ⟨0x02034, 0x4, 1, 2, 0x0, 0x0, 0x0, 0x0, 0x0, 0x0⟩,
  ⟨0x02040, 0x4, 1, 0, 0x0, 0x7F, 0x0, 0x0, 0x0, 0x0⟩,
  ⟨0x02044, 0x4, 1, 0, 0x0, 0x0, 0x0, 0x0, 0x0, 0x0⟩,
  ⟨0x02048, 0x4, 1, 0, 0x0, 0x0, 0x0, 0x0, 0x0, 0x0⟩,
  ⟨0x0204C, 0x4, 1, 0, 0x0, 0x0, 0x0, 0x0, 0x0, 0x0⟩,
  ⟨0x02050, 0x4, 1, 0, 0x0, 0x0, 0x0, 0x0, 0x0, 0x0⟩,
  ⟨0x02054, 0x4, 1, 0, 0x0, 0xF, 0x0, 0x0, 0x0, 0x0⟩,
  ⟨0x02058, 0x4, 1, 0, 0x0, 0x0, 0x0, 0x0, 0x0, 0x0⟩]

/-- The registers of the 4 KiB block 0x04000: LEDG_INFO, LEDG_BLOB, LEDG_UPDCNT, LEDG_EXPCNT, LEDG_SUPCNT, LEDG_LATECNT, LEDG_DECERR, LEDG_INTAKE, LEDG_STAT, LEDG_PEEKIDX, LEDG_PEEKT, LEDG_PEEK0, LEDG_PEEK1, LEDG_PEEK2, LEDG_PEEK3, LEDG_PEEK4, LEDG_PEEK5, LEDG_PEEK6, LEDG_PEEK7. -/
def regRows04 : List RegRow := [
  ⟨0x04000, 0x4, 1, 0, 0x0, 0x0, 0x0, 0x0, 0x0, 0x0⟩,
  ⟨0x04004, 0x4, 1, 0, 0x0, 0x0, 0x0, 0x0, 0x0, 0x0⟩,
  ⟨0x04008, 0x4, 1, 1, 0x0, 0x0, 0x0, 0x0, 0x0, 0x0⟩,
  ⟨0x0400C, 0x4, 1, 2, 0x0, 0x0, 0x0, 0x0, 0x0, 0x0⟩,
  ⟨0x04010, 0x4, 1, 0, 0x0, 0x0, 0x0, 0x0, 0x0, 0x0⟩,
  ⟨0x04014, 0x4, 1, 0, 0x0, 0x0, 0x0, 0x0, 0x0, 0x0⟩,
  ⟨0x04018, 0x4, 1, 0, 0x0, 0x0, 0x0, 0x0, 0x0, 0x0⟩,
  ⟨0x0401C, 0x4, 1, 0, 0x0, 0x0, 0x0, 0x0, 0x0, 0x0⟩,
  ⟨0x04020, 0x4, 1, 0, 0x1FFF0000, 0x0, 0x0, 0x0, 0x0, 0x0⟩,
  ⟨0x04024, 0x4, 1, 0, 0x0, 0xF, 0x0, 0x0, 0x0, 0x0⟩,
  ⟨0x04040, 0x4, 1, 0, 0x1FFFF, 0x0, 0x0, 0x0, 0x0, 0x0⟩,
  ⟨0x04048, 0x4, 1, 1, 0x0, 0x0, 0x0, 0x0, 0x0, 0x0⟩,
  ⟨0x0404C, 0x4, 1, 2, 0x0, 0x0, 0x0, 0x0, 0x0, 0x0⟩,
  ⟨0x04050, 0x4, 1, 0, 0x0, 0x0, 0x0, 0x0, 0x0, 0x0⟩,
  ⟨0x04054, 0x4, 1, 0, 0x0, 0x0, 0x0, 0x0, 0x0, 0x0⟩,
  ⟨0x04058, 0x4, 1, 0, 0x0, 0x0, 0x0, 0x0, 0x0, 0x0⟩,
  ⟨0x0405C, 0x4, 1, 0, 0x0, 0x0, 0x0, 0x0, 0x0, 0x0⟩,
  ⟨0x04060, 0x4, 1, 0, 0x0, 0x0, 0x0, 0x0, 0x0, 0x0⟩,
  ⟨0x04064, 0x4, 1, 0, 0x0, 0x0, 0x0, 0x0, 0x0, 0x0⟩,
  ⟨0x04068, 0x4, 1, 0, 0x0, 0x0, 0x0, 0x0, 0x0, 0x0⟩,
  ⟨0x0406C, 0x4, 1, 0, 0x0, 0x0, 0x0, 0x0, 0x0, 0x0⟩]

/-- The registers of the 4 KiB block 0x08000: HSW_CFG, HSW_OC, HSW_RETRY, HSW_PWM, HSW_INRUSH, HSW_WICK0, HSW_WICK1, HSW_OL, HSW_STAT, HSW_CAUSE, HSW_TRIPT, HSW_MEAS0, HSW_MEAS1, HSW_CTL, HSW_CNT, HSW_BGA, HSW_BGB, HSW_VBAT, HSW_LOCK0, HSW_LOCK1, HSW_LINK, HSW_COMPREF, HSW_DROOPCNT, HSW_DROOPT. -/
def regRows08 : List RegRow := [
  ⟨0x08000, 0x40, 8, 0, 0x0, 0x0, 0xFF03F379, 0x0, 0x0, 0x14000140⟩,
  ⟨0x08200, 0x40, 16, 0, 0x0, 0x0, 0xFF03F379, 0x0, 0x0, 0x14000142⟩,
  ⟨0x08600, 0x40, 24, 0, 0x0, 0x0, 0xFF03F379, 0x0, 0x0, 0x14000144⟩,
  ⟨0x08004, 0x40, 8, 0, 0x0, 0x0, 0xFFF3FFFF, 0x0, 0x0, 0x64140C0⟩,
  ⟨0x08204, 0x40, 16, 0, 0x0, 0x0, 0xFFF3FFFF, 0x0, 0x0, 0x640A060⟩,
  ⟨0x08604, 0x40, 24, 0, 0x0, 0x0, 0xFFF3FFFF, 0x0, 0x0, 0x6403C24⟩,
  ⟨0x08008, 0x40, 48, 0, 0x0, 0x0, 0xFFFF0F, 0x0, 0x0, 0x326403⟩,
  ⟨0x0800C, 0x40, 48, 0, 0x0, 0x0, 0xF7FF, 0x0, 0x0, 0xC8⟩,
  ⟨0x08010, 0x40, 8, 0, 0x0, 0x0, 0xFFFF03FF, 0x0, 0x0, 0x140280⟩,
  ⟨0x08210, 0x40, 16, 0, 0x0, 0x0, 0xFFFF03FF, 0x0, 0x0, 0x140140⟩,
  ⟨0x08610, 0x40, 24, 0, 0x0, 0x0, 0xFFFF03FF, 0x0, 0x0, 0x140078⟩,
  ⟨0x08014, 0x40, 48, 0, 0x0, 0x0, 0xFFFFFFFF, 0x0, 0x0, 0x0⟩,
  ⟨0x08018, 0x40, 48, 0, 0x0, 0x0, 0xFFFFFFFF, 0x0, 0x0, 0xA690000⟩,
  ⟨0x0801C, 0x40, 48, 0, 0x0, 0x0, 0xFF0FFF, 0x0, 0x0, 0xA012C⟩,
  ⟨0x08020, 0x40, 48, 0, 0x0, 0x0, 0x0, 0x0, 0x0, 0x300⟩,
  ⟨0x08024, 0x40, 48, 0, 0x0, 0x3FF, 0x0, 0x0, 0x0, 0x0⟩,
  ⟨0x08028, 0x40, 48, 1, 0x0, 0x0, 0x0, 0x0, 0x0, 0x0⟩,
  ⟨0x0802C, 0x40, 48, 2, 0x0, 0x0, 0x0, 0x0, 0x0, 0x0⟩,
  ⟨0x08030, 0x40, 48, 0, 0x0, 0x0, 0x0, 0x0, 0x0, 0x0⟩,
  ⟨0x08034, 0x40, 48, 0, 0x0, 0x0, 0x0, 0x0, 0x0, 0x0⟩,
  ⟨0x08038, 0x40, 48, 0, 0x0, 0x0, 0x0, 0x0, 0x1, 0x0⟩,
  ⟨0x0803C, 0x40, 48, 0, 0x0, 0x0, 0x0, 0x0, 0x0, 0x0⟩,
  ⟨0x08C00, 0x8, 16, 0, 0x0, 0x0, 0xFFFFFFFF, 0x0, 0x0, 0x0⟩,
  ⟨0x08C04, 0x8, 16, 0, 0x0, 0x0, 0xFF, 0x0, 0x0, 0x55⟩,
  ⟨0x08C80, 0x4, 1, 0, 0x0, 0x0, 0x0, 0x0, 0x0, 0x0⟩,
  ⟨0x08C84, 0x4, 1, 0, 0x0, 0x0, 0x0, 0x0, 0x0, 0x0⟩,
  ⟨0x08C88, 0x4, 1, 0, 0x0, 0x0, 0x0, 0x0, 0x0, 0x0⟩,
  ⟨0x08C8C, 0x4, 1, 0, 0x0, 0x3, 0x0, 0x0, 0x0, 0x0⟩,
  ⟨0x08C90, 0x4, 1, 0, 0x0, 0x0, 0xFFF, 0x0, 0x0, 0x528⟩,
  ⟨0x08C94, 0x4, 1, 0, 0x0, 0x0, 0x0, 0x0, 0x0, 0x0⟩,
  ⟨0x08C98, 0x4, 1, 1, 0x0, 0x0, 0x0, 0x0, 0x0, 0x0⟩,
  ⟨0x08C9C, 0x4, 1, 2, 0x0, 0x0, 0x0, 0x0, 0x0, 0x0⟩]

/-- The registers of the 4 KiB block 0x09000: PDRV_RETRY, PDRV_PWM, PDRV_WICK0, PDRV_WICK1, PDRV_STAT, PDRV_CAUSE, PDRV_TRIPT, PDRV_MEAS0, PDRV_MEAS1, PDRV_CTL, PDRV_CNT, PDRV_CFG, PDRV_OC, PDRV_INRUSH, PDRV_SENSE, PDRV_TS, PDRV_OL. -/
def regRows09 : List RegRow := [
  ⟨0x09008, 0x40, 16, 0, 0x0, 0x0, 0xFFFF0F, 0x0, 0x0, 0x326403⟩,
  ⟨0x0900C, 0x40, 16, 0, 0x0, 0x0, 0xF7FF, 0x0, 0x0, 0xC8⟩,
  ⟨0x09014, 0x40, 16, 0, 0x0, 0x0, 0xFFFFFFFF, 0x0, 0x0, 0x0⟩,
  ⟨0x09018, 0x40, 16, 0, 0x0, 0x0, 0xFFFFFFFF, 0x0, 0x0, 0xA690000⟩,
  ⟨0x09020, 0x40, 16, 0, 0x0, 0x0, 0x0, 0x0, 0x0, 0x300⟩,
  ⟨0x09024, 0x40, 16, 0, 0x0, 0x3FF, 0x0, 0x0, 0x0, 0x0⟩,
  ⟨0x09028, 0x40, 16, 1, 0x0, 0x0, 0x0, 0x0, 0x0, 0x0⟩,
  ⟨0x0902C, 0x40, 16, 2, 0x0, 0x0, 0x0, 0x0, 0x0, 0x0⟩,
  ⟨0x09030, 0x40, 16, 0, 0x0, 0x0, 0x0, 0x0, 0x0, 0x0⟩,
  ⟨0x09034, 0x40, 16, 0, 0x0, 0x0, 0x0, 0x0, 0x0, 0x0⟩,
  ⟨0x09038, 0x40, 16, 0, 0x0, 0x0, 0x0, 0x0, 0x1, 0x0⟩,
  ⟨0x0903C, 0x40, 16, 0, 0x0, 0x0, 0x0, 0x0, 0x0, 0x0⟩,
  ⟨0x09000, 0x40, 16, 0, 0x0, 0x0, 0xFF03F3F9, 0x0, 0x0, 0x14000340⟩,
  ⟨0x09004, 0x40, 16, 0, 0x0, 0x0, 0xFFF3FFFF, 0x0, 0x0, 0x64258C8⟩,
  ⟨0x09010, 0x40, 16, 0, 0x0, 0x0, 0xFFFF03FF, 0x0, 0x0, 0x1403C0⟩,
  ⟨0x0901C, 0x40, 16, 0, 0x0, 0x0, 0xFFFF1FFF, 0x0, 0x0, 0x14320064⟩,
  ⟨0x09800, 0x4, 16, 0, 0x0, 0x0, 0xFFF0FFF, 0x0, 0x0, 0x0⟩,
  ⟨0x09840, 0x4, 16, 0, 0x0, 0x0, 0xFF0FFF, 0x0, 0x0, 0xA012C⟩]

/-- The registers of the 4 KiB block 0x0A000: BRG_CFG, BRG_PWM, BRG_OC, BRG_SENSE, BRG_TIME, BRG_RIP, BRG_PZONE, BRG_PINCH, BRG_BEMF, BRG_TRIP, BRG_STAT, BRG_CAUSE, BRG_POS, BRG_MEAS, BRG_RESULT, BRG_CTL, BRG_SEQ, BRG_LOCKMAP. -/
def regRows0A : List RegRow := [
  ⟨0x0A000, 0x40, 6, 0, 0x0, 0x0, 0x7FFFFD, 0x0, 0x0, 0x1010⟩,
  ⟨0x0A180, 0x40, 8, 0, 0x0, 0x0, 0x7FFFFD, 0x0, 0x0, 0x1012⟩,
  ⟨0x0A004, 0x40, 14, 0, 0x0, 0x0, 0x7FFFF, 0x0, 0x0, 0x664C8⟩,
  ⟨0x0A008, 0x40, 6, 0, 0x0, 0x0, 0xFF3FFFF, 0x0, 0x0, 0x14258A0⟩,
  ⟨0x0A188, 0x40, 8, 0, 0x0, 0x0, 0xFF3FFFF, 0x0, 0x0, 0x1403C18⟩,
  ⟨0x0A00C, 0x40, 14, 0, 0x0, 0x0, 0xFFFF1FFF, 0x0, 0x0, 0x14320064⟩,
  ⟨0x0A010, 0x40, 14, 0, 0x0, 0x0, 0xFFFFFFFF, 0x0, 0x0, 0x14503264⟩,
  ⟨0x0A014, 0x40, 14, 0, 0x0, 0x0, 0xFFFF, 0x0, 0x0, 0x1E14⟩,
  ⟨0x0A018, 0x40, 14, 0, 0x0, 0x0, 0xFFFFFFFF, 0x0, 0x0, 0x0⟩,
  ⟨0x0A01C, 0x40, 14, 0, 0x0, 0x0, 0xFFFFFFFF, 0x0, 0x0, 0x12C0000⟩,
  ⟨0x0A020, 0x40, 14, 0, 0x0, 0x0, 0xFFFFF, 0x0, 0x0, 0x0⟩,
  ⟨0x0A024, 0x40, 14, 0, 0x0, 0x0, 0xF, 0x0, 0x0, 0x3⟩,
  ⟨0x0A028, 0x40, 14, 0, 0x0, 0x0, 0x0, 0x0, 0x0, 0x10⟩,
  ⟨0x0A02C, 0x40, 14, 0, 0x0, 0xFFF, 0x0, 0x0, 0x0, 0x0⟩,
  ⟨0x0A030, 0x40, 14, 0, 0x0, 0x0, 0x0, 0x0, 0x0, 0x0⟩,
  ⟨0x0A034, 0x40, 14, 0, 0x0, 0x0, 0x0, 0x0, 0x0, 0x0⟩,
  ⟨0x0A038, 0x40, 14, 0, 0x0, 0x0, 0x0, 0x0, 0x0, 0x0⟩,
  ⟨0x0A03C, 0x40, 14, 0, 0x0, 0x0, 0x0, 0x0, 0x1, 0x0⟩,
  ⟨0x0A400, 0x4, 2, 0, 0x0, 0x0, 0x0, 0x0, 0x0, 0x0⟩,
  ⟨0x0A408, 0x4, 1, 0, 0x0, 0x0, 0x0, 0x0, 0x0, 0x0⟩]

/-- The registers of the 4 KiB block 0x0B000: VLV_CFG, VLV_STAT, VLV_CAUSE, VLV_RESULT, VLV_MEAS, VLV_TRIPT, VLV_CTL, VLV_CNT, VLV_BCFG, VLV_BSTAT, VLV_BCAUSE, VLV_BCTL, VLV_BCNT, VLV_BMEAS, VLV_BTRIPT, VLV_PROFA, VLV_PROFB, VLV_BST, VLV_BSTRDY, VLV_BSTSTAT. -/
def regRows0B_a : List RegRow := [
  ⟨0x0B000, 0x40, 24, 0, 0x0, 0x0, 0xF77, 0x0, 0x0, 0x300⟩,
  ⟨0x0B004, 0x40, 24, 0, 0x0, 0x0, 0x0, 0x0, 0x0, 0x0⟩,
  ⟨0x0B008, 0x40, 24, 0, 0x0, 0x1FF, 0x0, 0x0, 0x0, 0x0⟩,
  ⟨0x0B00C, 0x40, 24, 0, 0x0, 0x0, 0x0, 0x0, 0x0, 0x0⟩,
  ⟨0x0B010, 0x40, 24, 0, 0x0, 0x0, 0x0, 0x0, 0x0, 0x0⟩,
  ⟨0x0B018, 0x40, 24, 1, 0x0, 0x0, 0x0, 0x0, 0x0, 0x0⟩,
  ⟨0x0B01C, 0x40, 24, 2, 0x0, 0x0, 0x0, 0x0, 0x0, 0x0⟩,
  ⟨0x0B020, 0x40, 24, 0, 0x0, 0x0, 0x0, 0x0, 0x1, 0x0⟩,
  ⟨0x0B024, 0x40, 24, 0, 0x0, 0x0, 0x0, 0x0, 0x0, 0x0⟩,
  ⟨0x0B600, 0x80, 6, 0, 0x0, 0x0, 0xFF0FFF01, 0x0, 0x0, 0x36400⟩,
  ⟨0x0B604, 0x80, 6, 0, 0x0, 0x0, 0x0, 0x0, 0x0, 0x0⟩,
  ⟨0x0B608, 0x80, 6, 0, 0x0, 0x7, 0x0, 0x0, 0x0, 0x0⟩,
  ⟨0x0B60C, 0x80, 6, 0, 0x0, 0x0, 0x0, 0x0, 0x1, 0x0⟩,
  ⟨0x0B610, 0x80, 6, 0, 0x0, 0x0, 0x0, 0x0, 0x0, 0x0⟩,
  ⟨0x0B614, 0x80, 6, 0, 0x0, 0x0, 0x0, 0x0, 0x0, 0x0⟩,
  ⟨0x0B618, 0x80, 6, 1, 0x0, 0x0, 0x0, 0x0, 0x0, 0x0⟩,
  ⟨0x0B61C, 0x80, 6, 2, 0x0, 0x0, 0x0, 0x0, 0x0, 0x0⟩,
  ⟨0x0B640, 0x8, 8, 0, 0x0, 0x0, 0xFFFFFFFF, 0x0, 0x0, 0x50A5000⟩,
  ⟨0x0B6C0, 0x8, 8, 0, 0x0, 0x0, 0xFFFFFFFF, 0x0, 0x0, 0x50A5000⟩,
  ⟨0x0B740, 0x8, 8, 0, 0x0, 0x0, 0xFFFFFFFF, 0x0, 0x0, 0x50A5000⟩,
  ⟨0x0B7C0, 0x8, 8, 0, 0x0, 0x0, 0xFFFFFFFF, 0x0, 0x0, 0x50A5000⟩,
  ⟨0x0B840, 0x8, 8, 0, 0x0, 0x0, 0xFFFFFFFF, 0x0, 0x0, 0x50A5000⟩,
  ⟨0x0B8C0, 0x8, 8, 0, 0x0, 0x0, 0xFFFFFFFF, 0x0, 0x0, 0x50A5000⟩,
  ⟨0x0B644, 0x8, 8, 0, 0x0, 0x0, 0xFF1FFF, 0x0, 0x0, 0x141400⟩,
  ⟨0x0B6C4, 0x8, 8, 0, 0x0, 0x0, 0xFF1FFF, 0x0, 0x0, 0x141400⟩,
  ⟨0x0B744, 0x8, 8, 0, 0x0, 0x0, 0xFF1FFF, 0x0, 0x0, 0x141400⟩,
  ⟨0x0B7C4, 0x8, 8, 0, 0x0, 0x0, 0xFF1FFF, 0x0, 0x0, 0x141400⟩,
  ⟨0x0B844, 0x8, 8, 0, 0x0, 0x0, 0xFF1FFF, 0x0, 0x0, 0x141400⟩,
  ⟨0x0B8C4, 0x8, 8, 0, 0x0, 0x0, 0xFF1FFF, 0x0, 0x0, 0x141400⟩,
  ⟨0x0B900, 0x4, 1, 0, 0x0, 0x0, 0x1FF01, 0x0, 0x0, 0x16800⟩,
  ⟨0x0B904, 0x4, 1, 0, 0x0, 0x0, 0x1FF, 0x0, 0x0, 0x140⟩,
  ⟨0x0B908, 0x4, 1, 0, 0x0, 0x0, 0x0, 0x0, 0x0, 0x0⟩]

/-- The registers of the 4 KiB block 0x0B000: VLV_BSTCAUSE, VLV_BSTCNT, VLV_SEQ. -/
def regRows0B_b : List RegRow := [
  ⟨0x0B90C, 0x4, 1, 0, 0x0, 0x3, 0x0, 0x0, 0x0, 0x0⟩,
  ⟨0x0B910, 0x4, 1, 0, 0x0, 0x0, 0x0, 0x0, 0x0, 0x0⟩,
  ⟨0x0B940, 0x4, 6, 0, 0x0, 0x0, 0x0, 0x0, 0x0, 0x0⟩]

def regRows0B : List RegRow := regRows0B_a ++ regRows0B_b

/-- The registers of the 4 KiB block 0x0C000: LED_CFG, LED_STAT, LED_MEAS, LED_CTL, LED_GCFG, LED_DIAG, LED_GSTAT, LED_SHORTMAP, LED_SHORTMAP1, LED_UCURVE. -/
def regRows0C_a : List RegRow := [
  ⟨0x0C000, 0x10, 48, 0, 0x0, 0x0, 0xFFFF07, 0x0, 0x0, 0xFFFF00⟩,
  ⟨0x0C004, 0x10, 48, 0, 0x0, 0xC0, 0x0, 0x0, 0x0, 0x0⟩,
  ⟨0x0C008, 0x10, 48, 0, 0x0, 0x0, 0x0, 0x0, 0x0, 0x0⟩,
  ⟨0x0C00C, 0x10, 48, 0, 0x0, 0x0, 0x0, 0x0, 0x1, 0x0⟩,
  ⟨0x0C400, 0x4, 1, 0, 0x0, 0x0, 0xFFFF, 0x0, 0x0, 0x14FF⟩,
  ⟨0x0C404, 0x4, 1, 0, 0x0, 0x0, 0xFFFF, 0x0, 0x0, 0x6450⟩,
  ⟨0x0C408, 0x4, 1, 0, 0x0, 0x0, 0x0, 0x0, 0x0, 0x0⟩,
  ⟨0x0C40C, 0x4, 1, 0, 0x0, 0x0, 0x0, 0x0, 0x0, 0x0⟩,
  ⟨0x0C410, 0x4, 1, 0, 0x0, 0x0, 0x0, 0x0, 0x0, 0x0⟩,
  ⟨0x0C800, 0x4, 1, 0, 0x0, 0x0, 0xFFF0FFF, 0x0, 0x0, 0x100000⟩,
  ⟨0x0C804, 0x4, 1, 0, 0x0, 0x0, 0xFFF0FFF, 0x0, 0x0, 0x300020⟩,
  ⟨0x0C808, 0x4, 1, 0, 0x0, 0x0, 0xFFF0FFF, 0x0, 0x0, 0x500040⟩,
  ⟨0x0C80C, 0x4, 1, 0, 0x0, 0x0, 0xFFF0FFF, 0x0, 0x0, 0x700060⟩,
  ⟨0x0C810, 0x4, 1, 0, 0x0, 0x0, 0xFFF0FFF, 0x0, 0x0, 0x910080⟩,
  ⟨0x0C814, 0x4, 1, 0, 0x0, 0x0, 0xFFF0FFF, 0x0, 0x0, 0xB100A1⟩,
  ⟨0x0C818, 0x4, 1, 0, 0x0, 0x0, 0xFFF0FFF, 0x0, 0x0, 0xD100C1⟩,
  ⟨0x0C81C, 0x4, 1, 0, 0x0, 0x0, 0xFFF0FFF, 0x0, 0x0, 0xF100E1⟩,
  ⟨0x0C820, 0x4, 1, 0, 0x0, 0x0, 0xFFF0FFF, 0x0, 0x0, 0x1110101⟩,
  ⟨0x0C824, 0x4, 1, 0, 0x0, 0x0, 0xFFF0FFF, 0x0, 0x0, 0x1310121⟩,
  ⟨0x0C828, 0x4, 1, 0, 0x0, 0x0, 0xFFF0FFF, 0x0, 0x0, 0x1510141⟩,
  ⟨0x0C82C, 0x4, 1, 0, 0x0, 0x0, 0xFFF0FFF, 0x0, 0x0, 0x1710161⟩,
  ⟨0x0C830, 0x4, 1, 0, 0x0, 0x0, 0xFFF0FFF, 0x0, 0x0, 0x1910181⟩,
  ⟨0x0C834, 0x4, 1, 0, 0x0, 0x0, 0xFFF0FFF, 0x0, 0x0, 0x1B201A2⟩,
  ⟨0x0C838, 0x4, 1, 0, 0x0, 0x0, 0xFFF0FFF, 0x0, 0x0, 0x1D201C2⟩,
  ⟨0x0C83C, 0x4, 1, 0, 0x0, 0x0, 0xFFF0FFF, 0x0, 0x0, 0x1F201E2⟩,
  ⟨0x0C840, 0x4, 1, 0, 0x0, 0x0, 0xFFF0FFF, 0x0, 0x0, 0x2120202⟩,
  ⟨0x0C844, 0x4, 1, 0, 0x0, 0x0, 0xFFF0FFF, 0x0, 0x0, 0x2320222⟩,
  ⟨0x0C848, 0x4, 1, 0, 0x0, 0x0, 0xFFF0FFF, 0x0, 0x0, 0x2520242⟩,
  ⟨0x0C84C, 0x4, 1, 0, 0x0, 0x0, 0xFFF0FFF, 0x0, 0x0, 0x2720262⟩,
  ⟨0x0C850, 0x4, 1, 0, 0x0, 0x0, 0xFFF0FFF, 0x0, 0x0, 0x2920282⟩,
  ⟨0x0C854, 0x4, 1, 0, 0x0, 0x0, 0xFFF0FFF, 0x0, 0x0, 0x2B302A2⟩,
  ⟨0x0C858, 0x4, 1, 0, 0x0, 0x0, 0xFFF0FFF, 0x0, 0x0, 0x2D302C3⟩]

/-- The registers of the 4 KiB block 0x0C000: LED_UCURVE. -/
def regRows0C_b : List RegRow := [
  ⟨0x0C85C, 0x4, 1, 0, 0x0, 0x0, 0xFFF0FFF, 0x0, 0x0, 0x2F302E3⟩,
  ⟨0x0C860, 0x4, 1, 0, 0x0, 0x0, 0xFFF0FFF, 0x0, 0x0, 0x3130303⟩,
  ⟨0x0C864, 0x4, 1, 0, 0x0, 0x0, 0xFFF0FFF, 0x0, 0x0, 0x3330323⟩,
  ⟨0x0C868, 0x4, 1, 0, 0x0, 0x0, 0xFFF0FFF, 0x0, 0x0, 0x3530343⟩,
  ⟨0x0C86C, 0x4, 1, 0, 0x0, 0x0, 0xFFF0FFF, 0x0, 0x0, 0x3730363⟩,
  ⟨0x0C870, 0x4, 1, 0, 0x0, 0x0, 0xFFF0FFF, 0x0, 0x0, 0x3930383⟩,
  ⟨0x0C874, 0x4, 1, 0, 0x0, 0x0, 0xFFF0FFF, 0x0, 0x0, 0x3B303A3⟩,
  ⟨0x0C878, 0x4, 1, 0, 0x0, 0x0, 0xFFF0FFF, 0x0, 0x0, 0x3D403C4⟩,
  ⟨0x0C87C, 0x4, 1, 0, 0x0, 0x0, 0xFFF0FFF, 0x0, 0x0, 0x3F403E4⟩,
  ⟨0x0C880, 0x4, 1, 0, 0x0, 0x0, 0xFFF0FFF, 0x0, 0x0, 0x4140404⟩,
  ⟨0x0C884, 0x4, 1, 0, 0x0, 0x0, 0xFFF0FFF, 0x0, 0x0, 0x4340424⟩,
  ⟨0x0C888, 0x4, 1, 0, 0x0, 0x0, 0xFFF0FFF, 0x0, 0x0, 0x4540444⟩,
  ⟨0x0C88C, 0x4, 1, 0, 0x0, 0x0, 0xFFF0FFF, 0x0, 0x0, 0x4740464⟩,
  ⟨0x0C890, 0x4, 1, 0, 0x0, 0x0, 0xFFF0FFF, 0x0, 0x0, 0x4940484⟩,
  ⟨0x0C894, 0x4, 1, 0, 0x0, 0x0, 0xFFF0FFF, 0x0, 0x0, 0x4B404A4⟩,
  ⟨0x0C898, 0x4, 1, 0, 0x0, 0x0, 0xFFF0FFF, 0x0, 0x0, 0x4D504C4⟩,
  ⟨0x0C89C, 0x4, 1, 0, 0x0, 0x0, 0xFFF0FFF, 0x0, 0x0, 0x4F504E5⟩,
  ⟨0x0C8A0, 0x4, 1, 0, 0x0, 0x0, 0xFFF0FFF, 0x0, 0x0, 0x5150505⟩,
  ⟨0x0C8A4, 0x4, 1, 0, 0x0, 0x0, 0xFFF0FFF, 0x0, 0x0, 0x5350525⟩,
  ⟨0x0C8A8, 0x4, 1, 0, 0x0, 0x0, 0xFFF0FFF, 0x0, 0x0, 0x5550545⟩,
  ⟨0x0C8AC, 0x4, 1, 0, 0x0, 0x0, 0xFFF0FFF, 0x0, 0x0, 0x5750565⟩,
  ⟨0x0C8B0, 0x4, 1, 0, 0x0, 0x0, 0xFFF0FFF, 0x0, 0x0, 0x5950585⟩,
  ⟨0x0C8B4, 0x4, 1, 0, 0x0, 0x0, 0xFFF0FFF, 0x0, 0x0, 0x5B505A5⟩,
  ⟨0x0C8B8, 0x4, 1, 0, 0x0, 0x0, 0xFFF0FFF, 0x0, 0x0, 0x5D505C5⟩,
  ⟨0x0C8BC, 0x4, 1, 0, 0x0, 0x0, 0xFFF0FFF, 0x0, 0x0, 0x5F605E6⟩,
  ⟨0x0C8C0, 0x4, 1, 0, 0x0, 0x0, 0xFFF0FFF, 0x0, 0x0, 0x6160606⟩,
  ⟨0x0C8C4, 0x4, 1, 0, 0x0, 0x0, 0xFFF0FFF, 0x0, 0x0, 0x6360626⟩,
  ⟨0x0C8C8, 0x4, 1, 0, 0x0, 0x0, 0xFFF0FFF, 0x0, 0x0, 0x6560646⟩,
  ⟨0x0C8CC, 0x4, 1, 0, 0x0, 0x0, 0xFFF0FFF, 0x0, 0x0, 0x6760666⟩,
  ⟨0x0C8D0, 0x4, 1, 0, 0x0, 0x0, 0xFFF0FFF, 0x0, 0x0, 0x6960686⟩,
  ⟨0x0C8D4, 0x4, 1, 0, 0x0, 0x0, 0xFFF0FFF, 0x0, 0x0, 0x6B606A6⟩,
  ⟨0x0C8D8, 0x4, 1, 0, 0x0, 0x0, 0xFFF0FFF, 0x0, 0x0, 0x6D606C6⟩]

/-- The registers of the 4 KiB block 0x0C000: LED_UCURVE. -/
def regRows0C_c : List RegRow := [
  ⟨0x0C8DC, 0x4, 1, 0, 0x0, 0x0, 0xFFF0FFF, 0x0, 0x0, 0x6F706E6⟩,
  ⟨0x0C8E0, 0x4, 1, 0, 0x0, 0x0, 0xFFF0FFF, 0x0, 0x0, 0x7170707⟩,
  ⟨0x0C8E4, 0x4, 1, 0, 0x0, 0x0, 0xFFF0FFF, 0x0, 0x0, 0x7370727⟩,
  ⟨0x0C8E8, 0x4, 1, 0, 0x0, 0x0, 0xFFF0FFF, 0x0, 0x0, 0x7570747⟩,
  ⟨0x0C8EC, 0x4, 1, 0, 0x0, 0x0, 0xFFF0FFF, 0x0, 0x0, 0x7770767⟩,
  ⟨0x0C8F0, 0x4, 1, 0, 0x0, 0x0, 0xFFF0FFF, 0x0, 0x0, 0x7970787⟩,
  ⟨0x0C8F4, 0x4, 1, 0, 0x0, 0x0, 0xFFF0FFF, 0x0, 0x0, 0x7B707A7⟩,
  ⟨0x0C8F8, 0x4, 1, 0, 0x0, 0x0, 0xFFF0FFF, 0x0, 0x0, 0x7D707C7⟩,
  ⟨0x0C8FC, 0x4, 1, 0, 0x0, 0x0, 0xFFF0FFF, 0x0, 0x0, 0x7F707E7⟩,
  ⟨0x0C900, 0x4, 1, 0, 0x0, 0x0, 0xFFF0FFF, 0x0, 0x0, 0x8180808⟩,
  ⟨0x0C904, 0x4, 1, 0, 0x0, 0x0, 0xFFF0FFF, 0x0, 0x0, 0x8380828⟩,
  ⟨0x0C908, 0x4, 1, 0, 0x0, 0x0, 0xFFF0FFF, 0x0, 0x0, 0x8580848⟩,
  ⟨0x0C90C, 0x4, 1, 0, 0x0, 0x0, 0xFFF0FFF, 0x0, 0x0, 0x8780868⟩,
  ⟨0x0C910, 0x4, 1, 0, 0x0, 0x0, 0xFFF0FFF, 0x0, 0x0, 0x8980888⟩,
  ⟨0x0C914, 0x4, 1, 0, 0x0, 0x0, 0xFFF0FFF, 0x0, 0x0, 0x8B808A8⟩,
  ⟨0x0C918, 0x4, 1, 0, 0x0, 0x0, 0xFFF0FFF, 0x0, 0x0, 0x8D808C8⟩,
  ⟨0x0C91C, 0x4, 1, 0, 0x0, 0x0, 0xFFF0FFF, 0x0, 0x0, 0x8F808E8⟩,
  ⟨0x0C920, 0x4, 1, 0, 0x0, 0x0, 0xFFF0FFF, 0x0, 0x0, 0x9190908⟩,
  ⟨0x0C924, 0x4, 1, 0, 0x0, 0x0, 0xFFF0FFF, 0x0, 0x0, 0x9390929⟩,
  ⟨0x0C928, 0x4, 1, 0, 0x0, 0x0, 0xFFF0FFF, 0x0, 0x0, 0x9590949⟩,
  ⟨0x0C92C, 0x4, 1, 0, 0x0, 0x0, 0xFFF0FFF, 0x0, 0x0, 0x9790969⟩,
  ⟨0x0C930, 0x4, 1, 0, 0x0, 0x0, 0xFFF0FFF, 0x0, 0x0, 0x9990989⟩,
  ⟨0x0C934, 0x4, 1, 0, 0x0, 0x0, 0xFFF0FFF, 0x0, 0x0, 0x9B909A9⟩,
  ⟨0x0C938, 0x4, 1, 0, 0x0, 0x0, 0xFFF0FFF, 0x0, 0x0, 0x9D909C9⟩,
  ⟨0x0C93C, 0x4, 1, 0, 0x0, 0x0, 0xFFF0FFF, 0x0, 0x0, 0x9F909E9⟩,
  ⟨0x0C940, 0x4, 1, 0, 0x0, 0x0, 0xFFF0FFF, 0x0, 0x0, 0xA190A09⟩,
  ⟨0x0C944, 0x4, 1, 0, 0x0, 0x0, 0xFFF0FFF, 0x0, 0x0, 0xA3A0A2A⟩,
  ⟨0x0C948, 0x4, 1, 0, 0x0, 0x0, 0xFFF0FFF, 0x0, 0x0, 0xA5A0A4A⟩,
  ⟨0x0C94C, 0x4, 1, 0, 0x0, 0x0, 0xFFF0FFF, 0x0, 0x0, 0xA7A0A6A⟩,
  ⟨0x0C950, 0x4, 1, 0, 0x0, 0x0, 0xFFF0FFF, 0x0, 0x0, 0xA9A0A8A⟩,
  ⟨0x0C954, 0x4, 1, 0, 0x0, 0x0, 0xFFF0FFF, 0x0, 0x0, 0xABA0AAA⟩,
  ⟨0x0C958, 0x4, 1, 0, 0x0, 0x0, 0xFFF0FFF, 0x0, 0x0, 0xADA0ACA⟩]

/-- The registers of the 4 KiB block 0x0C000: LED_UCURVE. -/
def regRows0C_d : List RegRow := [
  ⟨0x0C95C, 0x4, 1, 0, 0x0, 0x0, 0xFFF0FFF, 0x0, 0x0, 0xAFA0AEA⟩,
  ⟨0x0C960, 0x4, 1, 0, 0x0, 0x0, 0xFFF0FFF, 0x0, 0x0, 0xB1A0B0A⟩,
  ⟨0x0C964, 0x4, 1, 0, 0x0, 0x0, 0xFFF0FFF, 0x0, 0x0, 0xB3B0B2A⟩,
  ⟨0x0C968, 0x4, 1, 0, 0x0, 0x0, 0xFFF0FFF, 0x0, 0x0, 0xB5B0B4B⟩,
  ⟨0x0C96C, 0x4, 1, 0, 0x0, 0x0, 0xFFF0FFF, 0x0, 0x0, 0xB7B0B6B⟩,
  ⟨0x0C970, 0x4, 1, 0, 0x0, 0x0, 0xFFF0FFF, 0x0, 0x0, 0xB9B0B8B⟩,
  ⟨0x0C974, 0x4, 1, 0, 0x0, 0x0, 0xFFF0FFF, 0x0, 0x0, 0xBBB0BAB⟩,
  ⟨0x0C978, 0x4, 1, 0, 0x0, 0x0, 0xFFF0FFF, 0x0, 0x0, 0xBDB0BCB⟩,
  ⟨0x0C97C, 0x4, 1, 0, 0x0, 0x0, 0xFFF0FFF, 0x0, 0x0, 0xBFB0BEB⟩,
  ⟨0x0C980, 0x4, 1, 0, 0x0, 0x0, 0xFFF0FFF, 0x0, 0x0, 0xC1B0C0B⟩,
  ⟨0x0C984, 0x4, 1, 0, 0x0, 0x0, 0xFFF0FFF, 0x0, 0x0, 0xC3B0C2B⟩,
  ⟨0x0C988, 0x4, 1, 0, 0x0, 0x0, 0xFFF0FFF, 0x0, 0x0, 0xC5C0C4C⟩,
  ⟨0x0C98C, 0x4, 1, 0, 0x0, 0x0, 0xFFF0FFF, 0x0, 0x0, 0xC7C0C6C⟩,
  ⟨0x0C990, 0x4, 1, 0, 0x0, 0x0, 0xFFF0FFF, 0x0, 0x0, 0xC9C0C8C⟩,
  ⟨0x0C994, 0x4, 1, 0, 0x0, 0x0, 0xFFF0FFF, 0x0, 0x0, 0xCBC0CAC⟩,
  ⟨0x0C998, 0x4, 1, 0, 0x0, 0x0, 0xFFF0FFF, 0x0, 0x0, 0xCDC0CCC⟩,
  ⟨0x0C99C, 0x4, 1, 0, 0x0, 0x0, 0xFFF0FFF, 0x0, 0x0, 0xCFC0CEC⟩,
  ⟨0x0C9A0, 0x4, 1, 0, 0x0, 0x0, 0xFFF0FFF, 0x0, 0x0, 0xD1C0D0C⟩,
  ⟨0x0C9A4, 0x4, 1, 0, 0x0, 0x0, 0xFFF0FFF, 0x0, 0x0, 0xD3C0D2C⟩,
  ⟨0x0C9A8, 0x4, 1, 0, 0x0, 0x0, 0xFFF0FFF, 0x0, 0x0, 0xD5D0D4C⟩,
  ⟨0x0C9AC, 0x4, 1, 0, 0x0, 0x0, 0xFFF0FFF, 0x0, 0x0, 0xD7D0D6D⟩,
  ⟨0x0C9B0, 0x4, 1, 0, 0x0, 0x0, 0xFFF0FFF, 0x0, 0x0, 0xD9D0D8D⟩,
  ⟨0x0C9B4, 0x4, 1, 0, 0x0, 0x0, 0xFFF0FFF, 0x0, 0x0, 0xDBD0DAD⟩,
  ⟨0x0C9B8, 0x4, 1, 0, 0x0, 0x0, 0xFFF0FFF, 0x0, 0x0, 0xDDD0DCD⟩,
  ⟨0x0C9BC, 0x4, 1, 0, 0x0, 0x0, 0xFFF0FFF, 0x0, 0x0, 0xDFD0DED⟩,
  ⟨0x0C9C0, 0x4, 1, 0, 0x0, 0x0, 0xFFF0FFF, 0x0, 0x0, 0xE1D0E0D⟩,
  ⟨0x0C9C4, 0x4, 1, 0, 0x0, 0x0, 0xFFF0FFF, 0x0, 0x0, 0xE3D0E2D⟩,
  ⟨0x0C9C8, 0x4, 1, 0, 0x0, 0x0, 0xFFF0FFF, 0x0, 0x0, 0xE5D0E4D⟩,
  ⟨0x0C9CC, 0x4, 1, 0, 0x0, 0x0, 0xFFF0FFF, 0x0, 0x0, 0xE7E0E6E⟩,
  ⟨0x0C9D0, 0x4, 1, 0, 0x0, 0x0, 0xFFF0FFF, 0x0, 0x0, 0xE9E0E8E⟩,
  ⟨0x0C9D4, 0x4, 1, 0, 0x0, 0x0, 0xFFF0FFF, 0x0, 0x0, 0xEBE0EAE⟩,
  ⟨0x0C9D8, 0x4, 1, 0, 0x0, 0x0, 0xFFF0FFF, 0x0, 0x0, 0xEDE0ECE⟩]

/-- The registers of the 4 KiB block 0x0C000: LED_UCURVE. -/
def regRows0C_e : List RegRow := [
  ⟨0x0C9DC, 0x4, 1, 0, 0x0, 0x0, 0xFFF0FFF, 0x0, 0x0, 0xEFE0EEE⟩,
  ⟨0x0C9E0, 0x4, 1, 0, 0x0, 0x0, 0xFFF0FFF, 0x0, 0x0, 0xF1E0F0E⟩,
  ⟨0x0C9E4, 0x4, 1, 0, 0x0, 0x0, 0xFFF0FFF, 0x0, 0x0, 0xF3E0F2E⟩,
  ⟨0x0C9E8, 0x4, 1, 0, 0x0, 0x0, 0xFFF0FFF, 0x0, 0x0, 0xF5E0F4E⟩,
  ⟨0x0C9EC, 0x4, 1, 0, 0x0, 0x0, 0xFFF0FFF, 0x0, 0x0, 0xF7F0F6E⟩,
  ⟨0x0C9F0, 0x4, 1, 0, 0x0, 0x0, 0xFFF0FFF, 0x0, 0x0, 0xF9F0F8F⟩,
  ⟨0x0C9F4, 0x4, 1, 0, 0x0, 0x0, 0xFFF0FFF, 0x0, 0x0, 0xFBF0FAF⟩,
  ⟨0x0C9F8, 0x4, 1, 0, 0x0, 0x0, 0xFFF0FFF, 0x0, 0x0, 0xFDF0FCF⟩,
  ⟨0x0C9FC, 0x4, 1, 0, 0x0, 0x0, 0xFFF0FFF, 0x0, 0x0, 0xFFF0FEF⟩]

def regRows0C : List RegRow := regRows0C_a ++ regRows0C_b ++ regRows0C_c ++ regRows0C_d ++ regRows0C_e

/-- The registers of the 4 KiB block 0x0D000: INP_CFG, INP_THR, INP_PULSE, INP_STAT. -/
def regRows0D : List RegRow := [
  ⟨0x0D000, 0x10, 160, 0, 0x0, 0x0, 0xFFF1FFF, 0x0, 0x0, 0x640500⟩,
  ⟨0x0D004, 0x10, 160, 0, 0x0, 0x0, 0x1FF01FF, 0x0, 0x0, 0x2D0014⟩,
  ⟨0x0D008, 0x10, 160, 0, 0x0, 0x0, 0x1FFF, 0x0, 0x0, 0x20A⟩,
  ⟨0x0D00C, 0x10, 160, 0, 0x0, 0x8, 0x0, 0x0, 0x0, 0x0⟩]

/-- The registers of the 4 KiB block 0x0E000: INP_EDGET, INP_MEAS, INP_PARK, INP_WAKEMAP0, INP_WAKEMAP1, INP_WETLOAD. -/
def regRows0E : List RegRow := [
  ⟨0x0E000, 0x8, 160, 1, 0x0, 0x0, 0x0, 0x0, 0x0, 0x0⟩,
  ⟨0x0E004, 0x8, 160, 2, 0x0, 0x0, 0x0, 0x0, 0x0, 0x0⟩,
  ⟨0x0E800, 0x4, 160, 0, 0x0, 0x0, 0x0, 0x0, 0x0, 0x0⟩,
  ⟨0x0EC00, 0x4, 1, 0, 0x0, 0x0, 0xFF, 0x0, 0x0, 0x5⟩,
  ⟨0x0EC04, 0x4, 1, 0, 0x0, 0xFFFFFFFF, 0x0, 0x0, 0x0, 0x0⟩,
  ⟨0x0EC08, 0x4, 1, 0, 0x0, 0xFF, 0x0, 0x0, 0x0, 0x0⟩,
  ⟨0x0EC0C, 0x4, 1, 0, 0x0, 0x0, 0x0, 0x0, 0x0, 0x0⟩]

/-- The registers of the 4 KiB block 0x10000: RFX_CFG, RFX_STAT, RFX_INFO, RFX_SVC, RFX_SVCRES, RFX_SVCF, RFX_IMMCNT, RFX_ABORTCNT, RFX_LAST, RFX_LASTF, RFX_CORE, RFX_CORELOAD, RFX_COREUSED, RFX_COREPEAK, RFX_CORECNT. -/
def regRows10 : List RegRow := [
  ⟨0x10000, 0x4, 1, 0, 0x0, 0x0, 0x1FF, 0x0, 0x0, 0x50⟩,
  ⟨0x10004, 0x4, 1, 0, 0x0, 0x0, 0x0, 0x0, 0x0, 0x0⟩,
  ⟨0x10008, 0x4, 1, 0, 0x0, 0x0, 0x0, 0x0, 0x0, 0x0⟩,
  ⟨0x1000C, 0x4, 1, 0, 0x0, 0x0, 0x0, 0x0, 0x37, 0x0⟩,
  ⟨0x10010, 0x4, 1, 0, 0x0, 0x0, 0x0, 0x0, 0x0, 0x0⟩,
  ⟨0x10014, 0x4, 1, 0, 0x0, 0x0, 0x0, 0x0, 0x0, 0x0⟩,
  ⟨0x10018, 0x4, 1, 0, 0x0, 0x0, 0x0, 0x0, 0x0, 0x0⟩,
  ⟨0x1001C, 0x4, 1, 0, 0x0, 0x0, 0x0, 0x0, 0x0, 0x0⟩,
  ⟨0x10020, 0x4, 1, 0, 0x0, 0x0, 0x0, 0x0, 0x0, 0x0⟩,
  ⟨0x10024, 0x4, 1, 0, 0x0, 0x0, 0x0, 0x0, 0x0, 0x0⟩,
  ⟨0x10100, 0x20, 8, 0, 0x0, 0x0, 0x0, 0x0, 0x0, 0x0⟩,
  ⟨0x10104, 0x20, 8, 0, 0x0, 0x0, 0x0, 0x0, 0x0, 0x0⟩,
  ⟨0x10108, 0x20, 8, 0, 0x0, 0x0, 0x0, 0x0, 0x0, 0x0⟩,
  ⟨0x1010C, 0x20, 8, 0, 0x7FFFFF, 0x0, 0x0, 0x0, 0x0, 0x0⟩,
  ⟨0x10110, 0x20, 8, 0, 0x0, 0x0, 0x0, 0x0, 0x0, 0x0⟩]

/-- The registers of the 4 KiB block 0x11000: RFX_PROG, RFX_PROGBUD, RFX_PROGUSED, RFX_PROGABORT. -/
def regRows11 : List RegRow := [
  ⟨0x11000, 0x10, 256, 0, 0x0, 0x0, 0x7FFF87, 0x0, 0x0, 0x0⟩,
  ⟨0x11004, 0x10, 256, 0, 0x0, 0x0, 0x7FFFFF, 0x0, 0x0, 0x0⟩,
  ⟨0x11008, 0x10, 256, 0, 0x0, 0x0, 0x0, 0x0, 0x0, 0x0⟩,
  ⟨0x1100C, 0x10, 256, 0, 0x0, 0x0, 0x0, 0x0, 0x0, 0x0⟩]

/-- The registers of the 4 KiB block 0x14000: CAN_CFG, CAN_NBT, CAN_NBT2, CAN_DBT, CAN_TDC, CAN_STAT, CAN_ERR, CAN_CNT, CAN_CNT2, CAN_CNT3, CAN_CTL, CAN_PEND, CAN_LASTERR, CAN_SWCFG, CAN_SWID, CAN_SWIDM, CAN_SWDATA0, CAN_SWDATA1, CAN_SWSTAT. -/
def regRows14 : List RegRow := [
  ⟨0x14000, 0x400, 12, 0, 0x0, 0x0, 0xFFF037F, 0x0, 0x0, 0x30A0022⟩,
  ⟨0x14004, 0x400, 12, 0, 0x0, 0x0, 0x1FF03FF, 0x0, 0x0, 0x7F0001⟩,
  ⟨0x14008, 0x400, 12, 0, 0x0, 0x0, 0xFFFF, 0x0, 0x0, 0x2020⟩,
  ⟨0x1400C, 0x400, 12, 0, 0x0, 0x0, 0x1F1F3F3F, 0x0, 0x0, 0xA0A1D01⟩,
  ⟨0x14010, 0x400, 12, 0, 0x0, 0x0, 0x7F01, 0x0, 0x0, 0x1E01⟩,
  ⟨0x14014, 0x400, 12, 0, 0x0, 0x0, 0x0, 0x0, 0x0, 0x0⟩,
  ⟨0x14018, 0x400, 12, 0, 0x0, 0x1FF, 0x0, 0x0, 0x0, 0x0⟩,
  ⟨0x1401C, 0x400, 12, 0, 0x0, 0x0, 0x0, 0x0, 0x0, 0x0⟩,
  ⟨0x14020, 0x400, 12, 0, 0x0, 0x0, 0x0, 0x0, 0x0, 0x0⟩,
  ⟨0x14024, 0x400, 12, 0, 0x0, 0x0, 0x0, 0x0, 0x0, 0x0⟩,
  ⟨0x14028, 0x400, 12, 0, 0x0, 0x0, 0x0, 0x0, 0x7, 0x0⟩,
  ⟨0x1402C, 0x400, 12, 0, 0x0, 0x0, 0x0, 0x0, 0x0, 0x0⟩,
  ⟨0x14030, 0x400, 12, 1, 0x0, 0x0, 0x0, 0x0, 0x0, 0x0⟩,
  ⟨0x14034, 0x400, 12, 2, 0x0, 0x0, 0x0, 0x0, 0x0, 0x0⟩,
  ⟨0x14100, 0x400, 2, 0, 0x0, 0x0, 0xF7F, 0x0, 0x0, 0x28⟩,
  ⟨0x14104, 0x400, 2, 0, 0x0, 0x0, 0x1FFFFFFF, 0x0, 0x0, 0x0⟩,
  ⟨0x14108, 0x400, 2, 0, 0x0, 0x0, 0x1FFFFFFF, 0x0, 0x0, 0x1FFFFFFF⟩,
  ⟨0x1410C, 0x400, 2, 0, 0x0, 0x0, 0xFFFFFFFF, 0x0, 0x0, 0x0⟩,
  ⟨0x14110, 0x400, 2, 0, 0x0, 0x0, 0xFFFFFFFF, 0x0, 0x0, 0x0⟩,
  ⟨0x14114, 0x400, 2, 0, 0x0, 0x7, 0x0, 0x0, 0x0, 0x0⟩]

/-- The registers of the 4 KiB block 0x15000: CAN_CFG, CAN_NBT, CAN_NBT2, CAN_DBT, CAN_TDC, CAN_STAT, CAN_ERR, CAN_CNT, CAN_CNT2, CAN_CNT3, CAN_CTL, CAN_PEND, CAN_LASTERR. -/
def regRows15 : List RegRow := [
  ⟨0x14000, 0x400, 12, 0, 0x0, 0x0, 0xFFF037F, 0x0, 0x0, 0x30A0022⟩,
  ⟨0x14004, 0x400, 12, 0, 0x0, 0x0, 0x1FF03FF, 0x0, 0x0, 0x7F0001⟩,
  ⟨0x14008, 0x400, 12, 0, 0x0, 0x0, 0xFFFF, 0x0, 0x0, 0x2020⟩,
  ⟨0x1400C, 0x400, 12, 0, 0x0, 0x0, 0x1F1F3F3F, 0x0, 0x0, 0xA0A1D01⟩,
  ⟨0x14010, 0x400, 12, 0, 0x0, 0x0, 0x7F01, 0x0, 0x0, 0x1E01⟩,
  ⟨0x14014, 0x400, 12, 0, 0x0, 0x0, 0x0, 0x0, 0x0, 0x0⟩,
  ⟨0x14018, 0x400, 12, 0, 0x0, 0x1FF, 0x0, 0x0, 0x0, 0x0⟩,
  ⟨0x1401C, 0x400, 12, 0, 0x0, 0x0, 0x0, 0x0, 0x0, 0x0⟩,
  ⟨0x14020, 0x400, 12, 0, 0x0, 0x0, 0x0, 0x0, 0x0, 0x0⟩,
  ⟨0x14024, 0x400, 12, 0, 0x0, 0x0, 0x0, 0x0, 0x0, 0x0⟩,
  ⟨0x14028, 0x400, 12, 0, 0x0, 0x0, 0x0, 0x0, 0x7, 0x0⟩,
  ⟨0x1402C, 0x400, 12, 0, 0x0, 0x0, 0x0, 0x0, 0x0, 0x0⟩,
  ⟨0x14030, 0x400, 12, 1, 0x0, 0x0, 0x0, 0x0, 0x0, 0x0⟩,
  ⟨0x14034, 0x400, 12, 2, 0x0, 0x0, 0x0, 0x0, 0x0, 0x0⟩]

/-- The registers of the 4 KiB block 0x16000: CAN_CFG, CAN_NBT, CAN_NBT2, CAN_DBT, CAN_TDC, CAN_STAT, CAN_ERR, CAN_CNT, CAN_CNT2, CAN_CNT3, CAN_CTL, CAN_PEND, CAN_LASTERR. -/
def regRows16 : List RegRow := [
  ⟨0x14000, 0x400, 12, 0, 0x0, 0x0, 0xFFF037F, 0x0, 0x0, 0x30A0022⟩,
  ⟨0x14004, 0x400, 12, 0, 0x0, 0x0, 0x1FF03FF, 0x0, 0x0, 0x7F0001⟩,
  ⟨0x14008, 0x400, 12, 0, 0x0, 0x0, 0xFFFF, 0x0, 0x0, 0x2020⟩,
  ⟨0x1400C, 0x400, 12, 0, 0x0, 0x0, 0x1F1F3F3F, 0x0, 0x0, 0xA0A1D01⟩,
  ⟨0x14010, 0x400, 12, 0, 0x0, 0x0, 0x7F01, 0x0, 0x0, 0x1E01⟩,
  ⟨0x14014, 0x400, 12, 0, 0x0, 0x0, 0x0, 0x0, 0x0, 0x0⟩,
  ⟨0x14018, 0x400, 12, 0, 0x0, 0x1FF, 0x0, 0x0, 0x0, 0x0⟩,
  ⟨0x1401C, 0x400, 12, 0, 0x0, 0x0, 0x0, 0x0, 0x0, 0x0⟩,
  ⟨0x14020, 0x400, 12, 0, 0x0, 0x0, 0x0, 0x0, 0x0, 0x0⟩,
  ⟨0x14024, 0x400, 12, 0, 0x0, 0x0, 0x0, 0x0, 0x0, 0x0⟩,
  ⟨0x14028, 0x400, 12, 0, 0x0, 0x0, 0x0, 0x0, 0x7, 0x0⟩,
  ⟨0x1402C, 0x400, 12, 0, 0x0, 0x0, 0x0, 0x0, 0x0, 0x0⟩,
  ⟨0x14030, 0x400, 12, 1, 0x0, 0x0, 0x0, 0x0, 0x0, 0x0⟩,
  ⟨0x14034, 0x400, 12, 2, 0x0, 0x0, 0x0, 0x0, 0x0, 0x0⟩]

/-- The registers of the 4 KiB block 0x18000: LIN_CFG, LIN_STAT, LIN_ERR, LIN_CNT, LIN_CNT2, LIN_CTL. -/
def regRows18 : List RegRow := [
  ⟨0x18000, 0x40, 10, 0, 0x0, 0x0, 0x1FFFF, 0x0, 0x0, 0x12C00⟩,
  ⟨0x18004, 0x40, 10, 0, 0x0, 0x0, 0x0, 0x0, 0x0, 0x0⟩,
  ⟨0x18008, 0x40, 10, 0, 0x0, 0x3F, 0x0, 0x0, 0x0, 0x0⟩,
  ⟨0x1800C, 0x40, 10, 0, 0x0, 0x0, 0x0, 0x0, 0x0, 0x0⟩,
  ⟨0x18010, 0x40, 10, 0, 0x0, 0x0, 0x0, 0x0, 0x0, 0x0⟩,
  ⟨0x18014, 0x40, 10, 0, 0x0, 0x0, 0x0, 0x0, 0x7F, 0x0⟩]

/-- The registers of the 4 KiB block 0x19000: ETH_PCFG, ETH_PLCA, ETH_PLCA2, ETH_PSTAT, ETH_PCNT, ETH_PCNT1, ETH_PCNT2, ETH_MACL, ETH_MACH, ETH_IPV4, ETH_AGE. -/
def regRows19 : List RegRow := [
  ⟨0x19000, 0x40, 5, 0, 0x0, 0x0, 0xFFF7, 0x0, 0x0, 0x10⟩,
  ⟨0x19004, 0x40, 5, 0, 0x0, 0x0, 0xFFFFFF01, 0x0, 0x0, 0x2008FF00⟩,
  ⟨0x19008, 0x40, 5, 0, 0x0, 0x0, 0xFFFF, 0x0, 0x0, 0x8000⟩,
  ⟨0x1900C, 0x40, 5, 0, 0x0, 0x0, 0x0, 0x0, 0x0, 0x0⟩,
  ⟨0x19010, 0x40, 5, 0, 0x0, 0x0, 0x0, 0x0, 0x0, 0x0⟩,
  ⟨0x19014, 0x40, 5, 0, 0x0, 0x0, 0x0, 0x0, 0x0, 0x0⟩,
  ⟨0x19018, 0x40, 5, 0, 0x0, 0x0, 0x0, 0x0, 0x0, 0x0⟩,
  ⟨0x19400, 0x4, 1, 0, 0x0, 0x0, 0xFFFFFFFF, 0x0, 0x0, 0x0⟩,
  ⟨0x19404, 0x4, 1, 0, 0x0, 0x0, 0xFFFF, 0x0, 0x0, 0x0⟩,
  ⟨0x19408, 0x4, 1, 0, 0x0, 0x0, 0xFFFFFFFF, 0x0, 0x0, 0x0⟩,
  ⟨0x1940C, 0x4, 1, 0, 0x0, 0x0, 0xFFFF, 0x0, 0x0, 0x12C⟩]

/-- The registers of the 4 KiB block 0x1C000: HOST_CTL, HOST_DBADDR, HOST_SQ0BASE, HOST_CQ0BASE, HOST_RING0, HOST_STAT, HOST_SQMAP, HOST_CQMAP, HOST_RINGERR, HOST_ERR, HOST_CNT, HOST_CNT1, HOST_DRAIN, HOST_SQHEAD. -/
def regRows1C : List RegRow := [
  ⟨0x1C000, 0x4, 1, 0, 0x7F01, 0x0, 0x0, 0x0, 0x0, 0x200⟩,
  ⟨0x1C008, 0x4, 1, 1, 0xFFFFFFFF, 0x0, 0x0, 0x0, 0x0, 0x0⟩,
  ⟨0x1C00C, 0x4, 1, 2, 0xFFFFFFFF, 0x0, 0x0, 0x0, 0x0, 0x0⟩,
  ⟨0x1C010, 0x4, 1, 1, 0xFFFFFFFF, 0x0, 0x0, 0x0, 0x0, 0x0⟩,
  ⟨0x1C014, 0x4, 1, 2, 0xFFFFFFFF, 0x0, 0x0, 0x0, 0x0, 0x0⟩,
  ⟨0x1C018, 0x4, 1, 1, 0xFFFFFFFF, 0x0, 0x0, 0x0, 0x0, 0x0⟩,
  ⟨0x1C01C, 0x4, 1, 2, 0xFFFFFFFF, 0x0, 0x0, 0x0, 0x0, 0x0⟩,
  ⟨0x1C020, 0x4, 1, 0, 0xFFFFFFFF, 0x0, 0x0, 0x0, 0x0, 0x10066⟩,
  ⟨0x1C028, 0x4, 1, 0, 0x0, 0x0, 0x0, 0x0, 0x0, 0x0⟩,
  ⟨0x1C030, 0x4, 1, 0, 0x0, 0x0, 0x0, 0x0, 0x0, 0x0⟩,
  ⟨0x1C034, 0x4, 1, 0, 0x0, 0x0, 0x0, 0x0, 0x0, 0x0⟩,
  ⟨0x1C038, 0x4, 1, 0, 0x0, 0x0, 0x0, 0x0, 0x0, 0x0⟩,
  ⟨0x1C03C, 0x4, 1, 0, 0x0, 0x3F, 0x0, 0x0, 0x0, 0x0⟩,
  ⟨0x1C040, 0x4, 1, 0, 0x0, 0x0, 0x0, 0x0, 0x0, 0x0⟩,
  ⟨0x1C044, 0x4, 1, 0, 0x0, 0x0, 0x0, 0x0, 0x0, 0x0⟩,
  ⟨0x1C048, 0x4, 1, 0, 0xFF, 0x0, 0x0, 0x0, 0x0, 0x64⟩,
  ⟨0x1C100, 0x4, 32, 0, 0x0, 0x0, 0x0, 0x0, 0x0, 0x0⟩]

/-- The registers of the 4 KiB block 0x1D000: CRY_CFG, CRY_SENDER, CRY_STAT, CRY_ALARM, CRY_ALARMT, CRY_CNT, CRY_CNT1, CRY_ROOT, CRY_SLOT, CRY_NONCE. -/
def regRows1D : List RegRow := [
  ⟨0x1D000, 0x4, 1, 0, 0x0, 0x0, 0x1, 0x0, 0x0, 0x0⟩,
  ⟨0x1D004, 0x4, 1, 0, 0x0, 0x0, 0xFFFFFFFF, 0x0, 0x0, 0x0⟩,
  ⟨0x1D008, 0x4, 1, 0, 0x0, 0x0, 0x0, 0x0, 0x0, 0x0⟩,
  ⟨0x1D00C, 0x4, 1, 0, 0x0, 0x7F, 0x0, 0x0, 0x0, 0x0⟩,
  ⟨0x1D010, 0x4, 1, 1, 0x0, 0x0, 0x0, 0x0, 0x0, 0x0⟩,
  ⟨0x1D014, 0x4, 1, 2, 0x0, 0x0, 0x0, 0x0, 0x0, 0x0⟩,
  ⟨0x1D018, 0x4, 1, 0, 0x0, 0x0, 0x0, 0x0, 0x0, 0x0⟩,
  ⟨0x1D01C, 0x4, 1, 0, 0x0, 0x0, 0x0, 0x0, 0x0, 0x0⟩,
  ⟨0x1D040, 0x4, 4, 0, 0x0, 0x0, 0x0, 0x700, 0x0, 0x0⟩,
  ⟨0x1D100, 0x8, 64, 0, 0x0, 0x0, 0x0, 0x0, 0x0, 0x0⟩,
  ⟨0x1D104, 0x8, 64, 0, 0x0, 0x0, 0x0, 0x0, 0x0, 0x0⟩]

/-- The registers of the 4 KiB block 0x1E000: ACC_CFG, ACC_VID, ACC_STAT, ACC_LOCKREM, ACC_RESULT, ACC_LASTDEV, ACC_CNT, ACC_CNT1, ACC_SESST, ACC_DOOR, ACC_LF, ACC_LFSTAT, ACC_TOKID, ACC_TOKCFG, ACC_TOKCNT, ACC_TOKSTAT. -/
def regRows1E : List RegRow := [
  ⟨0x1E000, 0x4, 1, 0, 0x0, 0x0, 0x3F7F, 0x0, 0x0, 0x3A⟩,
  ⟨0x1E004, 0x4, 1, 0, 0x0, 0x0, 0xFFFFFFFF, 0x0, 0x0, 0x0⟩,
  ⟨0x1E008, 0x4, 1, 0, 0x0, 0x0, 0x0, 0x0, 0x0, 0x0⟩,
  ⟨0x1E00C, 0x4, 1, 0, 0x0, 0x0, 0x0, 0x0, 0x0, 0x0⟩,
  ⟨0x1E010, 0x4, 1, 0, 0x0, 0x0, 0x0, 0x0, 0x0, 0x0⟩,
  ⟨0x1E014, 0x4, 1, 0, 0x0, 0x0, 0x0, 0x0, 0x0, 0x0⟩,
  ⟨0x1E018, 0x4, 1, 0, 0x0, 0x0, 0x0, 0x0, 0x0, 0x0⟩,
  ⟨0x1E01C, 0x4, 1, 0, 0x0, 0x0, 0x0, 0x0, 0x0, 0x0⟩,
  ⟨0x1E020, 0x4, 1, 1, 0x0, 0x0, 0x0, 0x0, 0x0, 0x0⟩,
  ⟨0x1E024, 0x4, 1, 2, 0x0, 0x0, 0x0, 0x0, 0x0, 0x0⟩,
  ⟨0x1E040, 0x4, 4, 0, 0x0, 0x0, 0x301FFFF, 0x0, 0x0, 0x2000000⟩,
  ⟨0x1E080, 0x4, 8, 0, 0x0, 0x0, 0x7F01, 0x0, 0x0, 0x3C00⟩,
  ⟨0x1E0A0, 0x4, 1, 0, 0x0, 0xFFFF, 0x0, 0x0, 0x0, 0x0⟩,
  ⟨0x1E100, 0x10, 8, 0, 0x0, 0x0, 0x0, 0x0, 0x0, 0x0⟩,
  ⟨0x1E104, 0x10, 8, 0, 0x0, 0x0, 0x0, 0x0, 0x0, 0x0⟩,
  ⟨0x1E108, 0x10, 8, 0, 0x0, 0x0, 0x0, 0x0, 0x0, 0x0⟩,
  ⟨0x1E10C, 0x10, 8, 0, 0x0, 0x0, 0x0, 0x0, 0x0, 0x0⟩]

/-- The registers of the 4 KiB block 0x1F000: FLT_CFG, FLT_STAT, FLT_LOST, FLT_UNBCNT, FLT_RAISECNT, FLT_SEVMAP, FLT_CTL, FLT_BIND, FLT_COUNT, FLT_RSTAT. -/
def regRows1F : List RegRow := [
  ⟨0x1F000, 0x4, 1, 0, 0x0, 0x0, 0x1, 0x0, 0x0, 0x0⟩,
  ⟨0x1F004, 0x4, 1, 0, 0x0, 0x0, 0x0, 0x0, 0x0, 0x0⟩,
  ⟨0x1F008, 0x4, 1, 0, 0x0, 0x0, 0x0, 0x0, 0x0, 0x0⟩,
  ⟨0x1F00C, 0x4, 1, 0, 0x0, 0x0, 0x0, 0x0, 0x0, 0x0⟩,
  ⟨0x1F010, 0x4, 1, 0, 0x0, 0x0, 0x0, 0x0, 0x0, 0x0⟩,
  ⟨0x1F020, 0x4, 8, 0, 0x0, 0x0, 0x0, 0x0, 0x0, 0x0⟩,
  ⟨0x1F040, 0x4, 1, 0, 0x0, 0x0, 0x0, 0x0, 0x1FF, 0x0⟩,
  ⟨0x1F400, 0x4, 256, 0, 0x0, 0x0, 0xFFFFFFF, 0x0, 0x0, 0x0⟩,
  ⟨0x1F800, 0x4, 256, 0, 0x0, 0x0, 0xFFFFFFFF, 0x0, 0x0, 0x320641⟩,
  ⟨0x1FC00, 0x4, 256, 0, 0x0, 0x0, 0x0, 0x0, 0x0, 0x0⟩]

/-- The registers of the 4 KiB block 0x20000: EVR_CFG, EVR_STAT, EVR_WCNT, EVR_OLDEST, EVR_OPSEC, EVR_PCYC, EVR_LOST, EVR_MERGECNT. -/
def regRows20 : List RegRow := [
  ⟨0x20000, 0x4, 1, 0, 0x0, 0x0, 0xFF, 0x0, 0x0, 0xA⟩,
  ⟨0x20004, 0x4, 1, 0, 0x0, 0x0, 0x0, 0x0, 0x0, 0x0⟩,
  ⟨0x20008, 0x4, 1, 0, 0x0, 0x0, 0x0, 0x0, 0x0, 0x0⟩,
  ⟨0x2000C, 0x4, 1, 0, 0x0, 0x0, 0x0, 0x0, 0x0, 0x0⟩,
  ⟨0x20010, 0x4, 1, 0, 0x0, 0x0, 0x0, 0x0, 0x0, 0x0⟩,
  ⟨0x20014, 0x4, 1, 0, 0x0, 0x0, 0x0, 0x0, 0x0, 0x0⟩,
  ⟨0x20018, 0x4, 1, 0, 0x0, 0x0, 0x0, 0x0, 0x0, 0x0⟩,
  ⟨0x2001C, 0x4, 1, 0, 0x0, 0x0, 0x0, 0x0, 0x0, 0x0⟩]

/-- The registers of the 4 KiB block 0x21000: CFG_STAT, CFG_LAST, CFG_BVER, CFG_BGEN, CFG_BSDIG, CFG_OTP, CFG_OTP2, CFG_AUTH, CFG_VERYA, CFG_VID, CFG_VCNT, CFG_PEER. -/
def regRows21 : List RegRow := [
  ⟨0x21000, 0x4, 1, 0, 0x0, 0x0, 0x0, 0x0, 0x0, 0x0⟩,
  ⟨0x21004, 0x4, 1, 0, 0x0, 0x0, 0x0, 0x0, 0x0, 0x0⟩,
  ⟨0x21010, 0x8, 2, 0, 0x0, 0x0, 0x0, 0x0, 0x0, 0x0⟩,
  ⟨0x21014, 0x8, 2, 0, 0x0, 0x0, 0x0, 0x0, 0x0, 0x0⟩,
  ⟨0x21020, 0x8, 2, 1, 0x0, 0x0, 0x0, 0x0, 0x0, 0x0⟩,
  ⟨0x21024, 0x8, 2, 2, 0x0, 0x0, 0x0, 0x0, 0x0, 0x0⟩,
  ⟨0x21040, 0x4, 1, 0, 0x0, 0x0, 0x0, 0xFFFFFFFF, 0x0, 0x0⟩,
  ⟨0x21044, 0x4, 1, 0, 0x0, 0x0, 0x0, 0x31F, 0x0, 0x0⟩,
  ⟨0x21048, 0x4, 1, 0, 0x0, 0x0, 0x3F01, 0x0, 0x0, 0x0⟩,
  ⟨0x21060, 0x4, 1, 0, 0x0, 0x0, 0xFFF3F07, 0x0, 0x0, 0x0⟩,
  ⟨0x21064, 0x4, 1, 0, 0x0, 0x0, 0xFF0007FF, 0x0, 0x0, 0x3000600⟩,
  ⟨0x21068, 0x4, 1, 0, 0x0, 0x0, 0x0, 0x0, 0x0, 0x0⟩,
  ⟨0x21100, 0x4, 32, 0, 0x0, 0x0, 0x0, 0x0, 0x0, 0x0⟩]

/-- The register rows of a 4 KiB block of BAR0 (R470). -/
def regRowsOf : Nat → List RegRow
  | 0x00 => regRows00
  | 0x01 => regRows01
  | 0x02 => regRows02
  | 0x04 => regRows04
  | 0x08 => regRows08
  | 0x09 => regRows09
  | 0x0A => regRows0A
  | 0x0B => regRows0B
  | 0x0C => regRows0C
  | 0x0D => regRows0D
  | 0x0E => regRows0E
  | 0x10 => regRows10
  | 0x11 => regRows11
  | 0x14 => regRows14
  | 0x15 => regRows15
  | 0x16 => regRows16
  | 0x18 => regRows18
  | 0x19 => regRows19
  | 0x1C => regRows1C
  | 0x1D => regRows1D
  | 0x1E => regRows1E
  | 0x1F => regRows1F
  | 0x20 => regRows20
  | 0x21 => regRows21
  | _ => []

/-- The register row that holds BAR0 word offset `off`, if a register occupies it (R473). -/
def regRow (off : Nat) : Option RegRow :=
  (regRowsOf (off / 4096)).find? (fun r =>
    decide (r.base ≤ off) && decide (off < r.base + r.stride * r.count) && decide ((off - r.base) % r.stride = 0))

/-- The value a register word has at reset; 0 where no register is (R6). -/
def resetWord (off : Nat) : W32 :=
  match regRow off with
  | some r => BitVec.ofNat 32 r.reset
  | none => 0#32

end Sys2Proof.Machine
end

