-- ==== Sys2Proof/Machine/State.lean ====
section
/-! DEFINITION. The state of the block as plain data: the register file, and for every unit the state its chapter gives it beside its registers; the faults and refusals; and the state after reset. -/

namespace Sys2Proof.Machine

/-- Reasons for a fault of the model.  A fault of the manual is a raise to the fault collector (R359), never one of these. -/
inductive Fault where
  /-- Raised by no command of the model: the spec gives the block no behaviour that stops it. Safe. -/
  | stopped
  deriving DecidableEq, Repr

/-- Reasons for a refusal. -/
inductive Refusal where
  /-- Raised by an arm of `exec` whose command has no meaning yet. Safe: no claim about that command can be proved. -/
  | notModelled (mnemonic : String)
  deriving DecidableEq, Repr

/-! ### Messages and outputs -/

/-- How an update sets its entry: a valid update, a valid update after which the entry is STALE (R65), or an invalidating one (R51). -/
inductive UpdKind where
  | valid | stale | invalid
  deriving DecidableEq, Repr

/-- An order key (R53): stamp, then class (0 untargeted, 1 targeted host write), then source or ring, then position in the ring. -/
structure OrdKey where
  stamp : Nat := 0
  cls : Nat := 0
  who : Nat := 0
  pos : Nat := 0
  deriving DecidableEq, Repr

/-- Owner class of an entry (R49, R50). -/
inductive Owner where
  | unit | decode | program | host
  deriving DecidableEq, Repr

/-- A ledger update on its way: entry, value, stamp, source (R46, R48, R51), the class of its producer (R50), `targeted` ring and position (R41), the bytes of a blob version (R59), the tag of the host operation that waits for its commit, and whether it was late already before it came to the intake (R54). -/
structure Upd where
  idx : Nat
  value : W64
  stamp : Nat
  src : Nat
  kind : UpdKind := .valid
  own : Owner := .unit
  targeted : Option (Nat × Nat) := none
  bytes : List Byte := []
  tag : Option Nat := none
  late : Bool := false
  deriving DecidableEq, Repr

/-- A raise (R359), with the injected flag of R373. -/
structure Raise where
  src : Nat
  kind : Nat
  stamp : Nat
  inj : Bool := false
  deriving DecidableEq, Repr

/-- An event on its way to the recorder (R379, R380). -/
structure Evt where
  code : Nat
  flags : Nat := 0
  tick : Nat
  p1 : Nat := 0
  p2 : Nat := 0
  p3 : Nat := 0
  deriving DecidableEq, Repr

/-- A staged or immediate write for a unit of a die: the entry it commands and its VALUE (R37, R207), and for an immediate write the tag of its operation. -/
structure DieWrite where
  idx : Nat
  value : W64
  tag : Option Nat := none
  deriving DecidableEq, Repr

/-- A frame close message (R37): F+1, the count of staged writes, B(F+1), and the activate flag, activate-only mark (R400) and park flag (R427). -/
structure CloseMsg where
  f1 : Nat
  count : Nat
  bound : Nat
  act : Bool := false
  only : Bool := false
  park : Bool := false
  deriving DecidableEq, Repr

/-- A message of die L to another die (R16, R33, R37, R207, R400): a staged write with the boundary it is for, a frame close message, parameters (`swap`: to be held pending) as the register words of an image, an immediate write with the tick from which it is at the die, or a time marker with the tick it was sent at. -/
inductive DownMsg where
  | staged (w : DieWrite) (bound : Nat)
  | close (c : CloseMsg)
  | params (regs : SMap W32) (swap : Bool)
  | immediate (w : DieWrite) (since : Nat)
  | marker (sent : Nat)
  deriving DecidableEq, Repr

/-- A message of a die to die L (R16, R361, R400): a ledger update, a raise, or the acknowledgement of parameters (`swap`: of a commit's). -/
inductive UpMsg where
  | update (u : Upd)
  | raise (r : Raise)
  | ack (swap : Bool)
  deriving DecidableEq, Repr

/-- A message over the P0–P1 link (R88, R105). -/
inductive PpMsg where
  | bundle (step : Nat) (sums tbs : List Rat) (sent : Nat)
  | droop (stamp det : Nat) (sent : Nat)
  | droopEnd (stamp ext : Nat) (sent : Nat)
  deriving DecidableEq, Repr

/-- What leaves the device: the model's own record of it, oldest first. -/
inductive Output where
  /-- A posted write to host memory (R297). -/
  | hostWrite (addr : Nat) (bytes : List Byte)
  /-- An MSI-X message (R288). -/
  | msix (vector addr data : Nat)
  /-- A CAN frame put on the bus (R248). -/
  | canFrame (c : Nat) (f : CanFrame)
  /-- The acknowledgement of a frame received, and an error flag, active or passive (R253). -/
  | canAck (c : Nat)
  | canErrorFlag (c : Nat) (active : Bool)
  /-- The level of the standby ball of CN8 to CN11 (R239). -/
  | canStandby (c : Nat) (high : Bool)
  /-- A LIN header or response put on the bus (R268, R270). -/
  | linHeader (n pid : Nat)
  | linResponse (n pid : Nat) (data : List Byte) (sum : Nat)
  /-- A LIN wake-up signal (R272). -/
  | linWake (n : Nat)
  /-- An Ethernet frame without its FCS (R280). -/
  | ethFrame (p : Nat) (bytes : List Byte)
  /-- An answer to a Pdelay_Req with its receive and transmit timestamps (R281). -/
  | pdelayResp (p seq rx tx : Nat)
  /-- A Pdelay_Req of the gPTP end station with its transmit timestamp (R281). -/
  | pdelayReq (p tx : Nat)
  /-- An LF transmission (R340). -/
  | lfBits (bytes : List Byte)
  /-- A reply on the management port (R422). -/
  | mgp (bytes : List Byte)
  /-- A request on the regulator request bus (R419). -/
  | rqb (word : Nat)
  /-- What a read of the BAR0 word at `off` returned (R5, R472). -/
  | readData (off : Nat) (value : W32)
  deriving DecidableEq, Repr

/-! ### Time base, links and frames (R27 to R45) -/

/-- Time base state (R29). -/
inductive TbSt where
  | starting | crystal | synced | degraded
  deriving DecidableEq, Repr

/-- The counter of an island and its lock (R33, R34): `count` is its copy of the device time counter; `lost` that no marker has come for 16 periods and it runs on its local oscillator; `slew` that markers are back and it slews toward them; `relock` the in-bound markers since the loss, `lastMarker` its counter at the last marker; `part` counts the ticks toward the next one added or omitted; `delay` is the link delay it has measured, and `checkIn` the markers since it was checked. -/
structure Island where
  count : Nat := 0
  lost : Bool := false
  slew : Bool := false
  relock : Nat := 0
  lastMarker : Nat := 0
  part : Nat := 0
  delay : Nat := 0
  checkIn : Nat := 0
  deriving DecidableEq, Repr

/-- State of the time base beside its registers: since when the crystal reports stable (R30, R31) and when the time base last started (R29); the 802.1AS convergence count and the last Sync (R29, R32); frames running; the dies that have confirmed their parameters (R36); T0 with the number of its frame and the frame length before it, frames counted from the first of the epoch, and the frame from which cyclic triggers count (R36, R63); the phase of the frame (R20, R37); the last marker sent; the frames counted as broken in this epoch (R476), and for the anchor of R44 whether one is in force, whether a break came after it and the last broken frame. -/
structure TimeBase where
  crystalSince : Option Nat := none
  startTick : Nat := 0
  syncCount : Nat := 0
  lastSync : Option (Nat × Int) := none
  framesOn : Bool := false
  dieConfirmed : SMap Bool := []
  t0 : Nat := 0
  run0 : Nat := 0
  prevP : Nat := 0
  run : Nat := 0
  imgRun : Nat := 0
  sealed : Bool := false
  closed : Bool := false
  markersSent : Nat := 0
  broken : List Nat := []
  anchorSet : Bool := false
  anchorBroken : Bool := false
  anchorAfter : Nat := 0
  deriving DecidableEq, Repr

/-- What a die holds of the frame cycle and its links (R16, R24 to R26, R34 to R37, R361): the two directions of its link with die L, each in the order its messages were sent, and the raises it dropped; the staged writes it holds with the boundary each is for, the close message of the next boundary, the late writes that the next boundary applies first, the close messages whose writes are not complete, and the boundary of a late activate flag (R400); the tick of the last boundary it reached, and whether its lock bit was 0 since then; the pending parameters; limp; and the commands that die L resends after a reset of the die (R439). -/
structure DieLink where
  down : List DownMsg := []
  up : List UpMsg := []
  dropped : Nat := 0
  held : List (DieWrite × Nat) := []
  close : Option CloseMsg := none
  late : List DieWrite := []
  short : List CloseMsg := []
  lateAct : Option Nat := none
  lastBoundary : Nat := 0
  unlockedSince : Bool := false
  params : Option (SMap W32) := none
  limp : Bool := false
  resend : List DieWrite := []
  deriving DecidableEq, Repr

/-! ### The signal ledger (R46 to R68) -/

/-- Entry state (R51). -/
inductive EState where
  | never | fresh | stale | invalid
  deriving DecidableEq, Repr

/-- Attribute record (R49): `kind` 0 unsigned, 1 signed, 2 boolean, 3 blob. -/
structure Attr where
  freshint : Nat := 0
  kind : Nat := 0
  width : Nat := 64
  owner : Owner := .unit
  bloblen : Nat := 2
  deriving DecidableEq, Repr

/-- A ledger entry (R46) with the order key of the update that set it (R53), and for a blob entry the bytes of its current version (R59). -/
structure Entry where
  value : W64 := 0#64
  stamp : Nat := 0
  deadline : Nat := 0
  ucount : Nat := 0
  source : Nat := 0
  state : EState := .never
  key : OrdKey := {}
  bytes : List Byte := []
  deriving DecidableEq, Repr

/-- The ledger: live entries, the snapshot under construction (`base`, R20), the sealed snapshot with its boundary tick and frame, the updates that belong to later snapshots, the intake queue (R54), with the tick of its last commit, the queues of die L's own producers and of the host, the staged writes of the running frame (R37, R55), and for each unit entry the value and tick last sent (R71). -/
structure Ledger where
  live : SMap Entry := []
  base : SMap Entry := []
  snap : SMap Entry := []
  snapTick : Nat := 0
  snapFrame : Nat := 0
  future : List Upd := []
  intake : List Upd := []
  fromL : List Upd := []
  fromHost : List Upd := []
  staged : SMap (W64 × Nat × List Byte) := []
  changed : List Nat := []
  sent : SMap (Option Upd) := []
  commitAt : Nat := 0
  deriving DecidableEq, Repr

/-! ### Fault collection (R359 to R378) -/

/-- What a fault record holds beside its register words (R364, R365): its retained stamps, ascending, and its last raise. -/
structure FltRec where
  stamps : List Nat := []
  src : Nat := 0
  deriving DecidableEq, Repr

/-- A notice (R368): `record` 0xFFFF for an unbound raise. -/
structure Notice where
  stamp : Nat
  src : Nat
  kind : Nat
  event : Nat
  record : Nat
  inj : Bool
  deriving DecidableEq, Repr

/-- The collector: records, notices, the raises of die L that wait, the MRAM copies of RCNT and LATCHED (R371), and whether a source held the FAULT ball at the end of the last tick (R367). -/
structure Faults where
  recs : SMap FltRec := []
  notices : List Notice := []
  fromL : List Raise := []
  mram : SMap (Nat × Bool) := []
  ball : Bool := false
  deriving DecidableEq, Repr

/-! ### Event recorder (R379 to R393) -/

/-- A stored record (R379); code 0 is an empty slot. -/
structure EvRec where
  code : Nat := 0
  rep : Nat := 0
  opsec : Nat := 0
  pcyc : Nat := 0
  flags : Nat := 0
  tick : Nat := 0
  p1 : Nat := 0
  p2 : Nat := 0
  p3 : Nat := 0
  deriving DecidableEq, Repr

/-- The recorder: the slots in SRAM, the REPEAT that MRAM holds where it lags (R384), the tick of a slot's last write-back (0 for none), the queue (R388), discards not yet recorded, the MRAM ceilings (R381, R387; a recorder without records starts below the first 64), and the tick from which the next operating second counts. -/
structure Recorder where
  slots : SMap EvRec := []
  mramRep : SMap Nat := []
  wbTick : SMap Nat := []
  queue : List Evt := []
  discards : Nat := 0
  wcntCeil : Nat := 64
  opsecCeil : Nat := 0
  opsecAt : Nat := 0
  deriving DecidableEq, Repr

/-! ### Host interface (R286 to R312) -/

/-- State of a submission ring (R304 to R306). -/
inductive SqSt where
  | absent | active | draining
  deriving DecidableEq, Repr

/-- A submission ring (R290, R291, R295, R304, R305): `fails` counts descriptor reads that failed in a row; for a removal the final count, the tag and tick of its operation and whether its drain limit has passed. -/
structure Sq where
  st : SqSt := .absent
  err : Bool := false
  base : Nat := 0
  log2 : Nat := 4
  cq : Nat := 0
  weight : Nat := 4
  consumed : Nat := 0
  tail : Nat := 0
  fails : Nat := 0
  final : Nat := 0
  remTag : Option Nat := none
  remTick : Nat := 0
  drained : Bool := false
  deriving DecidableEq, Repr

/-- A completion ring (R290, R297 to R299, R304). -/
structure Cq where
  active : Bool := false
  base : Nat := 0
  log2 : Nat := 4
  vec : Nat := 255
  icount : Nat := 1
  itime : Nat := 0
  produced : Nat := 0
  head : Nat := 0
  reserved : Nat := 0
  unsig : Nat := 0
  firstUnsig : Nat := 0
  deriving DecidableEq, Repr

/-- An operation in flight (R294): its ring, the descriptor as fetched, its place in the order of acceptance and the tick of it, and whether it has left for its function. -/
structure HostOp where
  sq : Nat
  desc : List Byte
  order : Nat
  tick : Nat := 0
  begun : Bool := false
  deriving DecidableEq, Repr

/-- A posted receive buffer (R303). -/
structure RxPost where
  tag : Nat
  kind : Nat
  unit : Nat
  addr : Nat
  deriving DecidableEq, Repr

/-- A completion on its way (R296): its ring and descriptor head, status, reason, stamp, result, and the writes to host memory that go before it (R297). -/
structure Cpl where
  sq : Nat
  tag : Nat
  opcode : Nat
  ctx : Nat
  status : Nat
  reason : Nat := 0
  stamp : Nat := 0
  result : List Byte := []
  writes : List (Nat × List Byte) := []
  refused : Bool := false
  deriving DecidableEq, Repr

/-- A vector of the MSI-X table and its pending bit (R287, R288). -/
structure MsixVec where
  masked : Bool := true
  pending : Bool := false
  addr : Nat := 0
  data : Nat := 0
  deriving DecidableEq, Repr

/-- The host interface. -/
structure HostIf where
  linkUp : Bool := false
  bme : Bool := false
  d3 : Bool := false
  sqs : SMap Sq := []
  cqs : SMap Cq := []
  ops : SMap HostOp := []
  rr : Nat := 31
  turn : Nat := 0
  seq : Nat := 0
  fetchOut : Nat := 0
  rx : List RxPost := []
  enWait : Option Nat := none
  heldCpl : List Cpl := []
  heldMsix : List Nat := []
  msix : SMap MsixVec := []
  deriving DecidableEq, Repr

/-- The 64-bit latches of R472: latched high words, and low words written since the last high-word write. -/
structure Latches where
  high : SMap W32 := []
  low : SMap (Option W32) := []
  deriving DecidableEq, Repr

/-! ### The active image's tables (R395): what a commit makes of the sections that no register holds -/

/-- A signal record of a decode or encode record (R60, R63): `stale` is the stale action, 0 SEND, 1 PATTERN, 2 WITHHOLD. -/
structure SigRec where
  entry : Nat
  start : Nat
  len : Nat
  order : Nat := 0
  signed : Bool := false
  muxval : Option Nat := none
  invpat : Option Nat := none
  stale : Nat := 0
  deriving DecidableEq, Repr

/-- An age word (R60, R64): its byte offset and the signals it covers. -/
structure AgeRec where
  off : Nat
  sigs : List Nat
  deriving DecidableEq, Repr

/-- A PDU decode record (R60, R325): bus 0 CAN, 1 LIN, 2 Ethernet; `key` is the CAN identifier with IDE in bit 31, the LIN frame identifier or the Ethernet PDU identifier, with `vid` and `port` for Ethernet; `secured` the kennel slot and MACLEN. -/
structure DecRec where
  bus : Nat
  channel : Nat
  key : Nat
  vid : Nat := 0
  port : Nat := 0
  minlen : Nat := 0
  sigs : List SigRec := []
  mux : Option Nat := none
  secured : Option (Nat × Nat) := none
  agew : List AgeRec := []
  transit : Nat := 0
  deriving DecidableEq, Repr

/-- A PDU encode record (R63, R64, R280, R325): its bus and identifier as a decode record has them, the payload length, the triggers, and what its bus needs for the frame. -/
structure EncRec where
  bus : Nat
  channel : Nat
  key : Nat
  len : Nat
  sigs : List SigRec := []
  secured : Option (Nat × Nat) := none
  agew : List AgeRec := []
  cyclic : Nat := 0
  change : Bool := false
  fdf : Bool := false
  brs : Bool := false
  dmac : Nat := 0
  dip : Nat := 0
  sport : Nat := 0
  dport : Nat := 0
  vid : Nat := 0
  pcp : Nat := 0
  deriving DecidableEq, Repr

/-- A frame program (R201): primary core, order, budget, state block size in units of 64 bytes, its code span in words and its declared targets. -/
structure Prog where
  prim : Nat := 0
  order : Nat := 0
  budget : Nat := 0
  stateLen : Nat := 0
  first : Nat := 0
  words : Nat := 0
  targets : List Nat := []
  deriving DecidableEq, Repr

/-- Kinds of frame a schedule slot names (R267, R270). -/
inductive LinKind where
  | unconditional | eventTriggered | sporadic | diagRequest | diagResponse
  deriving DecidableEq, Repr

/-- A schedule slot (R268): its length in ms, and its frame: identifier, data length, whether this channel publishes it, its checksum model, and for event-triggered and sporadic frames the frames behind it the collision-resolution table, and whether it carries RESPERR (R271). -/
structure LinSlot where
  ms : Nat
  kind : LinKind := .unconditional
  id : Nat := 0
  dlen : Nat := 0
  publish : Bool := false
  enhanced : Bool := true
  frames : List Nat := []
  resolve : Nat := 0
  resperr : Bool := false
  deriving DecidableEq, Repr

/-- The schedule tables of one channel (R268), and as a responder the identifiers it publishes or subscribes with length and checksum (R270). -/
structure LinChan where
  tables : List (List LinSlot) := []
  frames : List LinSlot := []
  deriving DecidableEq, Repr

/-- A VLAN table row (R278): identifier, member ports and untagged ports as bit masks. -/
structure VlanRec where
  vid : Nat
  members : Nat
  untagged : Nat := 0
  deriving DecidableEq, Repr

/-- An expected peer (R408): NODE, REQUIRED, NEXTOK, and two pairs of GEN, VERSION and short digest. -/
structure PeerRec where
  node : Nat
  required : Bool
  nextok : Bool
  gen1 : Nat
  ver1 : Nat
  dig1 : Nat
  gen2 : Nat
  ver2 : Nat
  dig2 : Nat
  deriving DecidableEq, Repr

/-- The tables of an image (R394, R395), with the register words it sets. -/
structure Tables where
  regs : SMap W32 := []
  gen : Nat := 0
  version : Nat := 0
  digest : List Byte := []
  attrs : SMap (Option Attr) := []
  blobBase : SMap Nat := []
  dec : List DecRec := []
  enc : List EncRec := []
  progs : SMap (Option Prog) := []
  code : SMap W32 := []
  lin : SMap LinChan := []
  vlan : List VlanRec := []
  peers : List PeerRec := []
  lanternEth : List Nat := []
  deriving DecidableEq, Repr

/-! ### Switch channels (R69 to R114) and what a power die measures -/

/-- State of a channel beside its registers.  `cmd` is the applied command word (R76); `gridFreq` and `gridPhase` are the PWM grid before the last change of `FREQ` or `PHASE`, and `gridAt` the boundary of that change (R75); `on` is the switch, `onUntil` the tick its on-time ends (0 none), `edge` the tick of its last gate-on edge (R73, R81); `perStart`, `perLen` and `d` are the PWM period in progress, and `carStart` and `carD` the soft-start carrier period (R99); `causes` are the cause bits of the trip whose stamp `TRIPT` holds, with whether the switch was on and `CAUSE.LOCK` set before it (R77); `condSince` is since when it conducts without a trip or a warm wick step (R85); `emberAt` when the ember latch set (R83); the sums of the sensing window, and of the windows of the wick step that have ended (R78, R87); the overload run and the stamp at which it was full (R80); the inrush window with the values it opened with (R97 to R99) and its suspension, 0 none, 1 by this die's droop, 2 by the other's (R107); the hold-off and when it began (R438); the wick conductor node, exact (R87); the open-load test and its runs (R110 to R112); `clear` holds the firmware clears that wait, with their tags (R86). -/
structure Chan where
  cmd : Nat := 0
  gridFreq : Nat := 0
  gridPhase : Nat := 0
  gridAt : Nat := 0
  on : Bool := false
  onUntil : Nat := 0
  edge : Nat := 0
  perStart : Nat := 0
  perLen : Nat := 0
  d : Nat := 0
  carStart : Nat := 0
  carD : Nat := 0
  causes : Nat := 0
  wasOn : Bool := false
  lockWas : Bool := false
  condSince : Option Nat := none
  offSince : Nat := 0
  emberAt : Option Nat := none
  nSamp : Nat := 0
  sumCur : Int := 0
  sumVout : Nat := 0
  winSq : Nat := 0
  nSq : Nat := 0
  sumSq : Nat := 0
  ovlRun : Nat := 0
  ovlStamp : Nat := 0
  tOn : Nat := 0
  winEnd : Nat := 0
  winOrig : Nat := 0
  winIlim : Nat := 0
  winSoft : Nat := 0
  winExtended : Bool := false
  winSusp : Nat := 0
  heldOff : Bool := false
  heldSince : Nat := 0
  tc : Rat := 0
  olStart : Option Nat := none
  olN1 : Nat := 0
  olS1 : Nat := 0
  olN2 : Nat := 0
  olS2 : Nat := 0
  olRun : Nat := 0
  notOlRun : Nat := 0
  sbRun : Nat := 0
  notSbRun : Nat := 0
  clear : Bool := false
  clearTags : List Nat := []
  deriving DecidableEq, Repr

/-- A droop as a power die follows it (R104 to R108): low samples in a row, droop stamp, lowest sample, the reference and the values of V_f around it, whether it is detected and when, whether this die owns it, the cause and the affected channel, whether its end notice and its record are done. -/
structure Droop where
  run : Nat := 0
  stamp : Nat := 0
  low : Nat := 0
  vfAt : Nat := 0
  detected : Bool := false
  detTick : Nat := 0
  owner : Bool := false
  cause : Nat := 0
  affected : Nat := 0
  capped : Bool := false
  recorded : Bool := false
  deriving DecidableEq, Repr

/-- Supply states (R435). -/
inductive SupSt where
  | normal | low | uv | high | ov | gndshift
  deriving DecidableEq, Repr

/-- What a die holds of its supply (R435, R436): state, runs of samples beyond each entry threshold, since when each exit condition holds, the last sample, and the content of its entry. -/
structure Supply where
  st : SupSt := .normal
  uvRun : Nat := 0
  ovRun : Nat := 0
  gsRun : Nat := 0
  uvOk : Option Nat := none
  ovOk : Option Nat := none
  gsOk : Option Nat := none
  last : Nat := 0
  lowest : Nat := 255
  entriesUv : Nat := 0
  entriesOv : Nat := 0
  deriving DecidableEq, Repr

/-- What a die measures: VBAT samples of the window and V_f (R102), with the V_f before it; the tick of the last sample, window and wick step; the wick step's own and the other die's sums, the bundle nodes, whether the link is lost, and a message that came before the step it is for (R87, R88); V_ref′, the value it takes if the run of low samples in progress is no droop, and whether the window holds a sample of a droop (R104); the droops, own and noticed, with the stamps of the last of each (R105), and the freeze of V_c (R106); the supply state; and whether the main domain is ready and the parameters are in (R92, R417). -/
structure DieAna where
  ready : Bool := false
  params : Bool := false
  nV : Nat := 0
  sumV : Nat := 0
  vf : Nat := 0
  vfTick : Nat := 0
  vfPrev : Nat := 0
  lastSample : Nat := 0
  lastWindow : Nat := 0
  wickTick : Nat := 0
  wickWait : Bool := false
  ownSums : List Rat := []
  otherSums : List Rat := []
  ppLost : Bool := false
  tb : SMap Rat := []
  early : Option (Nat × List Rat × List Rat) := none
  vref : Nat := 0
  vrefNext : Option Nat := none
  winDroop : Bool := false
  droop : Droop := {}
  other : Option (Nat × Nat) := none
  noticed : Option Nat := none
  ownLast : Option Nat := none
  frozen : Nat := 0
  freezeFrom : Nat := 0
  freezeEnd : Nat := 0
  sup : Supply := {}
  deriving DecidableEq, Repr

/-! ### Bridges (R115 to R144) -/

/-- A motion (R119, R121): its OP, direction, DUTY and ARG. -/
structure Motion where
  op : Nat
  dir : Nat
  duty : Nat
  arg : Nat
  deriving DecidableEq, Repr

/-- One side of a bridge: the position it is commanded to, 0 off, 1 high, 2 low, with the tick from which that switch conducts, and the last other position that conducted with the tick it turned off (R124). -/
structure HbSide where
  cmd : Nat := 0
  onAt : Nat := 0
  last : Nat := 0
  offAt : Nat := 0
  deriving DecidableEq, Repr

/-- State of a motor unit beside its registers: the previous applied word (R120); the motion in RUN and the one that waits in SETTLE (R121); start blanking, run start, pulse end; the settle end and whether its braking is forced; the pinch reversal: whether it drives, since when, its direction, its edges, and whether a changed word waits (R134); trip stamp; chopping and back-EMF off intervals (R126, R135); the ripple detector's last 64 samples and arming, an edge that waits to be counted, the last counted edge, the ripple interval in progress with the off time in it, and the intervals (length, mean current) completed since blanking, newest first, with those of the current control step (R130, R133, R135); the PWM position of the driving high side and the two sides; when POS last changed and whether it did so in the window (R118); the window sums; and the firmware clears that wait (R129). -/
structure Motor where
  word : Nat := 0
  motion : Option Motion := none
  waiting : Option Motion := none
  blankEnd : Nat := 0
  blankDone : Bool := false
  runStart : Nat := 0
  pulseEnd : Nat := 0
  settleEnd : Nat := 0
  settleLow : Bool := false
  pinchDrive : Bool := false
  pinchTick : Nat := 0
  pinchDir : Nat := 0
  revEdges : Nat := 0
  pinchCmd : Bool := false
  tripTick : Nat := 0
  chopUntil : Nat := 0
  bemfLast : Nat := 0
  bemfStart : Option Nat := none
  bemfN : Nat := 0
  bemfSum : Int := 0
  bemfLowSince : Option Nat := none
  hist : List Int := []
  armed : Bool := false
  edgeAt : Option Nat := none
  lastEdge : Option Nat := none
  ivStart : Option Nat := none
  ivOff : Nat := 0
  ints : List (Nat × Int) := []
  newInts : Nat := 0
  intSum : Int := 0
  intN : Nat := 0
  on : Bool := false
  onUntil : Nat := 0
  nSamp : Nat := 0
  sumCur : Int := 0
  cur : Int := 0
  a : HbSide := {}
  b : HbSide := {}
  posAt : Nat := 0
  posDirty : Bool := false
  clear : Bool := false
  clearTags : List Nat := []
  deriving DecidableEq, Repr

/-- A sequencer of control steps (R138, R156, R335): stopped until the next boundary after an overrun, and the tick of its last step. -/
structure Seq where
  stopped : Bool := false
  last : Nat := 0
  deriving DecidableEq, Repr

/-! ### Valve banks (R145 to R171) -/

/-- A request for a peak (R149, R155): its OP, its profile, the profile of its hold phase, its stamp, and whether the leash applies (R165). -/
structure ValveReq where
  op : Nat
  prof : Nat
  hold : Nat
  stamp : Nat
  leash : Bool := true
  deriving DecidableEq, Repr

/-- State of a valve channel beside its registers: the previous applied word (R148) and the word that waits for the control step, with its stamp; the request that waits; OP, profile words and hold profile of the peak or hold that runs (R152, R154) and the hold target in mA and off-time in ticks in force; the start of the peak and whether a sample reached its target; the switches, the end of the off-time and the fast decay (R151); the release: its start, the result it writes and the energy in mV mA µs (R153); when HOLD began and the low control steps (R152); when the ember latch set; the last sample and the window sums; and the firmware clears that wait (R163). -/
structure Valve where
  word : Nat := 0
  applied : Option (Nat × Nat) := none
  req : Option ValveReq := none
  op : Nat := 0
  profA : Nat := 0
  profB : Nat := 0
  hold : Nat := 0
  holdI : Nat := 0
  holdT : Nat := 0
  peakStart : Nat := 0
  reached : Bool := false
  lowSide : Bool := false
  recirc : Bool := false
  offEnd : Nat := 0
  fast : Bool := false
  relStart : Nat := 0
  relRes : Nat := 0
  energy : Nat := 0
  holdAt : Nat := 0
  lowRun : Nat := 0
  lowMiss : Bool := false
  emberAt : Option Nat := none
  last : Int := 0
  nSamp : Nat := 0
  sumCur : Int := 0
  cur : Int := 0
  clear : Bool := false
  clearTags : List Nat := []
  deriving DecidableEq, Repr

/-- State of a valve bank beside its registers: its sequencer, when its ember latch set, its window sums, and the firmware clears that wait. -/
structure Bank where
  seq : Seq := {}
  emberAt : Option Nat := none
  nSamp : Nat := 0
  sumCur : Int := 0
  sumNode : Nat := 0
  cur : Int := 0
  clear : Bool := false
  clearTags : List Nat := []
  deriving DecidableEq, Repr

/-- State of the boost controller beside its registers (R158, R159): the rail in mV, since when it is at or above VRDY, since when READY is 0, whether an OVP stop holds it, and whether and since when the controller is enabled. -/
structure Boost where
  rail : Nat := 0
  since : Option Nat := none
  notReady : Nat := 0
  ovp : Bool := false
  en : Bool := false
  enAt : Nat := 0
  deriving DecidableEq, Repr


/-! ### LED sinks (R172 to R185) -/

/-- A fade (R177): its start tick, its length in ticks, its start and its target in 8.8. -/
structure Fade where
  t0 : Nat
  len : Nat
  x0 : Nat
  goal : Nat
  deriving DecidableEq, Repr

/-- State of a sink beside its registers: the last word that reached it, whether any word acts next (R181), and the last valid word, which a clear takes (R178); position, curve and fade (R177); the period in use before the last change of `FREQ`, the boundary of that change, and `GLOBAL` and `LEVEL` as the running period took them (R182); the on edge and the end of the on-time; the runs of the open and short checks (R179); whether the 1 ms interval had a sample (R175); and a waiting clear. -/
structure LedSink where
  word : Nat := 0
  always : Bool := false
  stored : Nat := 0
  x : Nat := 0
  curve : Nat := 0
  fade : Option Fade := none
  oldPer : Nat := 0
  gridAt : Nat := 0
  glob : Nat := 0
  lev : Nat := 0
  edge : Nat := 0
  onUntil : Nat := 0
  openRun : Nat := 0
  okRun : Nat := 0
  shortRun : Nat := 0
  shortStamp : Nat := 0
  measured : Bool := false
  clear : Bool := false
  clearTags : List Nat := []
  deriving DecidableEq, Repr

/-- The sink array (R180): when its ember latch set, and the tick of the last foldback step. -/
structure LedArray where
  emberAt : Option Nat := none
  lastFold : Nat := 0
  deriving DecidableEq, Repr


/-! ### Switch inputs (R186 to R198) -/

/-- State of an input beside its registers: the voltage last seen at its pin in mV; the comparator's level before INV (R186); whether a level has been accepted, and since when the raw level of a first acceptance has held (R192); the edge stamp of the run in progress (R188); the last PULSED read; consecutive restarts and the stamp of a 64th that waits to be reported (R191); since when VBAT permits the end of a suspension (R190); and for PARK the reference, the comparator at the last poll, and whether that poll differed (R193). -/
structure Input where
  pin : Nat := 0
  raw : Bool := false
  accepted : Bool := false
  holdFrom : Nat := 0
  run : Option Nat := none
  lastRead : Nat := 0
  restarts : Nat := 0
  chatAt : Option Nat := none
  lowOk : Option Nat := none
  parkRef : Option Bool := none
  parkRaw : Option Bool := none
  parkDiff : Bool := false
  deriving DecidableEq, Repr


/-! ### Transmitted PDUs and the buses (R63 to R65, R246 to R285) -/

/-- An age word that waits for the start of transmission (R64): its byte offset, the worst state of its group and the earliest stamp of it. -/
structure TxAge where
  off : Nat
  state : EState
  stamp : Nat
  deriving DecidableEq, Repr

/-- A built PDU: its payload and the age words to fill in at the start of transmission. -/
structure TxPdu where
  bytes : List Byte := []
  ages : List TxAge := []
  deriving DecidableEq, Repr

/-- A frame in a transmit slot (R246 to R252): the frame, its age words, when it became pending, the firmware request it answers, and whether it is one-shot or cancelled. -/
structure CanTx where
  frame : CanFrame
  ages : List TxAge := []
  seq : Nat := 0
  tag : Option Nat := none
  oneshot : Bool := false
  cancelled : Bool := false
  deriving DecidableEq, Repr

/-- What follows the end of a frame past its start-of-frame (R260, R308): nothing, OFF, or SYNC. -/
inductive CanAfter where
  | none | off | sync
  deriving DecidableEq, Repr

/-- State of a CAN controller beside its registers: the transmit slots, the slot past its start-of-frame, the encoder builds that wait for their slot (R249), the count of pending frames so far, the consecutive bus-off count (R255), when BUS_OFF and ERROR_ACTIVE were entered, whether the limit holds it in BUS_OFF (R256), what follows the frame in progress, the tag of a function reset (R308), the frame error counter of the selective wake-up (R262), and the bus-off entries since wake (R242). -/
structure CanCtl where
  slots : SMap (Option CanTx) := []
  cur : Option Nat := none
  next : SMap (Option CanTx) := []
  seq : Nat := 0
  cons : Nat := 0
  boAt : Nat := 0
  eaAt : Nat := 0
  limit : Bool := false
  after : CanAfter := .none
  resetTag : Option Nat := none
  swErr : Nat := 0
  busoffs : Nat := 0
  deriving DecidableEq, Repr

/-- The latest build of a published LIN frame, and whether it has been sent since it was built (R270). -/
structure LinBuild where
  pdu : TxPdu := {}
  isNew : Bool := false
  deriving DecidableEq, Repr

/-- State of a LIN channel beside its registers: the end of the slot in progress and whether the table starts anew (R268, R269, R272); the schedule request; the builds; the diagnostic requests (R273); a pending go-to-sleep; the wake-up signal's end and the signals sent (R272); the last bus activity; the frame that is expected: identifier, header tick, deadline, and the data if the channel publishes it, with the frame behind an event-triggered response; the resolution table in progress with the place to return to (R270); RESPERR (R271); and the tag of a function reset. -/
structure LinCh where
  slotEnd : Nat := 0
  anew : Bool := true
  req : Option (Nat × Option Nat) := none
  builds : SMap LinBuild := []
  diag : List (Nat × List Byte) := []
  diagOut : Option Nat := none
  sleepReq : Bool := false
  sleepOut : Bool := false
  wakeEnd : Option Nat := none
  wakeTries : Nat := 0
  restartAt : Option Nat := none
  lastBus : Nat := 0
  hdr : Option (Nat × Nat) := none
  publishing : Bool := false
  evOut : Option Nat := none
  resolving : Option (Nat × Nat) := none
  resolveNext : Nat := 0
  resperr : Bool := false
  ending : Bool := false
  resetTag : Option Nat := none
  deriving DecidableEq, Repr

/-- A frame in an egress queue (R278, R280): its bytes without FCS, its class, and for an encoded frame its record, with the build that a start of transmission completes. -/
structure EthTx where
  bytes : List Byte := []
  cls : Nat := 0
  enc : Option Nat := none
  pdu : TxPdu := {}
  deriving DecidableEq, Repr

/-- A port of the switch: its egress queue, the frame it sends, and the builds that wait for an earlier frame to end (R280); link, speed code and PLCA state as its PHY last reported them (R282, R283); the end of its last frame, and the frames of the burst in progress (R277). -/
structure EthPort where
  queue : List EthTx := []
  sending : Option EthTx := none
  waiting : List EthTx := []
  phy : Bool := false
  phySpeed : Nat := 0
  phyPlca : Bool := false
  lastEnd : Option Nat := none
  burst : Nat := 0
  deriving DecidableEq, Repr

/-- A learned entry of the forwarding database (R278). -/
structure FdbRow where
  mac : Nat
  vid : Nat
  port : Nat
  tick : Nat
  deriving DecidableEq, Repr

/-- The Ethernet switch. -/
structure Eth where
  ports : SMap EthPort := []
  fdb : List FdbRow := []
  deriving DecidableEq, Repr

/-! ### Cipher engine (R313 to R334) -/

/-- What a slot's MRAM record and SRAM hold beside `CRY_SLOT` and `CRY_NONCE` (R320, R321): label, nonce ceiling, key and KDFIV. -/
structure Kennel where
  label : List Byte := []
  ceil : Nat := 0
  key : List Byte := []
  kdfiv : List Byte := []
  deriving DecidableEq, Repr

/-- A request of the queue (R314): its operation's tag, opcode and descriptor, its input and auxiliary data as read at its start; or for a received secured PDU its decode record, bytes, stamp and source (R326). -/
structure CryReq where
  id : Nat
  tag : Option Nat := none
  opcode : Nat := 0
  desc : List Byte := []
  input : List Byte := []
  aux : List Byte := []
  pdu : Option (Nat × List Byte × Nat × Nat) := none
  nonce : Option Nat := none
  waitCeil : Bool := false
  deriving DecidableEq, Repr

/-- A unit of the engine: the request it runs, and the one it has suspended (R314).  Units 0 and 1 are the AES cores, 2 is the SHA unit. -/
structure CryUnit where
  cur : Option CryReq := none
  susp : Option CryReq := none
  deriving DecidableEq, Repr

/-- The engine: root keys, slots, queue, units, next request number, freshness counters of encode records (value and ceiling) and LASTFV of decode records with its MRAM copy (R326), and the alarm bits of an erase that runs (R330). -/
structure Cipher where
  roots : SMap (List Byte) := []
  slots : SMap Kennel := []
  queue : List CryReq := []
  units : SMap CryUnit := []
  nextId : Nat := 0
  fvOut : SMap (Nat × Nat) := []
  fvIn : SMap (Nat × Nat) := []
  eraseSrc : Nat := 0
  resetTag : Option Nat := none
  deriving DecidableEq, Repr


/-! ### Celper machines and the reflex engine (R199 to R236) -/

/-- An active loop level (R219, R227). -/
structure CelLoop where
  ls : Nat
  le : Nat
  lc : W32
  deriving DecidableEq, Repr

/-- A product that has not taken effect (R229): the issue cycle it is due at, whether it is added to MH:ML, and its value. -/
structure CelProd where
  due : Nat
  adds : Bool
  value : W64
  deriving DecidableEq, Repr

/-- A Celper machine (R219, R220): whether a run is in progress, the program it runs, program counter, general registers, MH:ML, active loops (innermost first), LSTAT, whether the next instruction is skipped (R225), products pending (R229), issue cycles charged so far (R224), local data memory by word (R199), whether the run has recorded an error (R235), the port space of a sequencer (R236), the cycles of the frame's runs with their overheads (R200), and the tick of an abort that no run has followed (R212). -/
structure Cel where
  running : Bool := false
  prog : Nat := 0
  pc : Nat := 0
  regs : SMap W32 := []
  acc : W64 := 0#64
  loops : List CelLoop := []
  lstat : W32 := 0#32
  skip : Bool := false
  prods : List CelProd := []
  cyc : Nat := 0
  mem : SMap W32 := []
  erred : Bool := false
  ports : SMap W32 := []
  used : Nat := 0
  stopAt : Option Nat := none
  deriving DecidableEq, Repr

/-- A pending removal (1) or return (2) of a core (R211): its operation's tag, the tick of its receipt, and for a return the state it began from and whether the self-test has passed. -/
structure SvcReq where
  core : Nat
  op : Nat
  tag : Option Nat := none
  tick : Nat := 0
  origin : Nat := 2
  tested : Bool := false
  deriving DecidableEq, Repr

/-- The reflex engine (R199 to R214): pending service requests in order of receipt, the placement in force as the programs of each core, the programs each core has still to start in this frame, and the state blocks by word (R200). -/
structure Reflex where
  reqs : List SvcReq := []
  placed : SMap (List Nat) := []
  todo : SMap (List Nat) := []
  blocks : SMap (SMap W32) := []
  deriving DecidableEq, Repr


/-! ### Access engine (R335 to R358) -/

/-- A request of the access engine (R339, R351): its operation's tag, none for a CMD word; its mode, 1 broadcast, 2 addressed, 3 calibration; its token and antenna mask. -/
structure AccReq where
  tag : Option Nat := none
  mode : Nat := 1
  token : Nat := 0
  mask : Nat := 0
  deriving DecidableEq, Repr

/-- A reply whose MAC is being verified (R343, R344): its slot, token, FLAGS, strobe stamp, and whether the MAC is right. -/
structure AccReply where
  k : Nat
  token : Nat
  flags : Nat
  stamp : Nat
  good : Bool
  deriving DecidableEq, Repr

/-- The access engine beside its registers: requests that wait, in arrival order, and the previous CMD word (R351); the request served, whether the challenge in progress is an addressed one, and its token; its nonce; whether LF is driven, when its last bit period ends, and E (R340); the number of slots and the next slot to classify (R343); the drivers in use, those turned off and those found open in this challenge (R336); the strobes since E, and the frames with the strobe each followed; the reply that is verified; the tokens an addressed repeat still has to ask, and whether one runs (R344); the accepted reply (token, dev, FLAGS) and the round's counts; the calibration's deviations and the challenges it has left (R339); the failures in the history, oldest first, with their reasons, the end of the lockout and the level it began with (R347); the session's ledger word (R349, R350); the lockout time left and the ages of the failures that the candle domain keeps in PARK, and the level and activity that MRAM holds (R348); and the LF sequencer's last control step (R335). -/
structure Access where
  queue : List AccReq := []
  word : Nat := 0
  cur : Option AccReq := none
  addressed : Bool := false
  token : Nat := 0
  nonce : List Byte := []
  sending : Bool := false
  endAt : Nat := 0
  challengeEnd : Option Nat := none
  slots : Nat := 1
  k : Nat := 0
  drivers : Nat := 0
  off : Nat := 0
  opens : Nat := 0
  strobes : List Nat := []
  frames : List (Nat × List Byte) := []
  verify : Option AccReply := none
  repeats : List Nat := []
  inRepeat : Bool := false
  accepted : Option (Nat × Int × Nat) := none
  fails : Nat := 0
  discards : Nat := 0
  sent : Nat := 0
  lastFail : Nat := 0
  devs : List Int := []
  calLeft : Nat := 0
  history : List (Int × Nat) := []
  lockEnd : Nat := 0
  lockLevel : Nat := 0
  session : Nat := 0
  parkLeft : Nat := 0
  parkAges : List (Nat × Nat) := []
  mramLevel : Nat := 0
  mramLock : Bool := false
  lf : Seq := {}
  deriving DecidableEq, Repr


/-! ### Configuration banks and fleet consistency (R394 to R414) -/

/-- A commit or rollback in SWAP (R399, R400): its operation's tag and opcode, whether FORCE was set, the bank it activates with its registers and tables, the dies that still have to acknowledge, when the parameters were sent, and whether the selector is written. -/
structure CfgOp where
  tag : Option Nat := none
  opcode : Nat := 0x61
  force : Bool := false
  bank : Nat := 0
  regs : SMap W32 := []
  img : Tables := {}
  waits : List Nat := []
  sentAt : Nat := 0
  selected : Bool := false
  deriving DecidableEq, Repr

/-- The latest kept lantern of a node (R409): when it came, GEN, VERSION and short digest. -/
structure LanternSeen where
  stamp : Nat
  gen : Nat
  version : Nat
  digest : Nat
  deriving DecidableEq, Repr

/-- The bank record and what hangs on it: the bytes of the two banks (MRAM that nothing has written reads 0), the last step each bank entered (R397), the operation in SWAP, the lanterns queued and their count (R407), and the latest kept lantern of each node (R409, R411). -/
structure Banks where
  bytesA : SMap Byte := []
  bytesB : SMap Byte := []
  stepA : Nat := 0
  stepB : Nat := 0
  op : Option CfgOp := none
  lanternsDue : Nat := 0
  lanternTick : Nat := 0
  lanternCount : Nat := 0
  seen : SMap (Option LanternSeen) := []
  deriving DecidableEq, Repr

/-- The one-time-programmable counts (R404): MINVER, RAISES, debug unlocks, lifecycle, and provisionings of each root slot. `CFG_OTP`, `CFG_OTP2` and `CRY_ROOT.PROV` show them. -/
structure Otp where
  minver : Nat := 0
  raises : Nat := 0
  debug : Nat := 0
  life : Nat := 0
  prov : SMap Nat := []
  deriving DecidableEq, Repr


/-! ### Power states, domains and the candle domain (R385, R415 to R434) -/

/-- An entry of the candle latch (R385). -/
structure CandleEnt where
  code : Nat
  p1 : Nat
  p2 : Nat
  p3 : Nat
  sec : Nat
  deriving DecidableEq, Repr

/-- What the candle domain drives on the rails (R419, R420, R423, R427): nothing, rails on in order, off in reverse order for a park, or off once each after a failed wake. -/
inductive RailGoal where
  | rest | on | off
  deriving DecidableEq, Repr

/-- An access to a die whose main domain is not ready (R418): a ring operation by its tag, a BAR0 write, a firmware clear written to a unit's control register, by the unit's source identifier, or a BAR0 read that latches a high word. -/
inductive Stalled where
  | op (t : Nat)
  | write (off size : Nat) (value : W32)
  | clear (src : Nat)
  | read (off : Nat)
  deriving DecidableEq, Repr

/-- Power states and the candle domain: whether it is supplied, its clock in ticks since PARK entry or power-on (R385), the candle latch and its overflow count (R386); what it does on the rails, the rail in progress, the last sequence number, when the request in progress was first sent and how often (0: not yet), and the rails that are on (R419, R420); whether a wake is on its way to RUN, its source bits and retry number, and when a retry is due (R420, R421); sources that came in PARK and have not started a wake (R440), and the lowest-numbered input that asked for the wake (R194); the entry tick of SHUTDOWN, B_last and the sources latched since (R425, R426), and whether the park sequence has reached its step 3 (R427); the failures to raise at the next RUN (R429); when each main domain was or will be switched on, the accesses that stall on a domain, since when, and the domains woken on demand (R418, R423); the MGP straps (R422); the last poll (R193); a forced shutdown that is still to be reported (R425), and whether the close messages of the running frame carry the park flag (R427); and the wick nodes that the candle domain retains in whole °C, with the power dies that have not taken them yet (R90); the dies that reset under R439 and are not up again; and whether a time epoch has begun since the last PARK or power-on (R27, R28). -/
structure Power where
  supplied : Bool := false
  candle : Nat := 0
  latch : List CandleEnt := []
  overflow : Nat := 0
  goal : RailGoal := .rest
  rail : Nat := 0
  seqno : Nat := 0
  sentAt : Nat := 0
  sends : Nat := 0
  railsOn : List Nat := []
  waking : Bool := false
  src : Nat := 0
  attempt : Nat := 0
  retryAt : Option Nat := none
  heldSrc : Nat := 0
  wakeInput : Option Nat := none
  shutdownAt : Nat := 0
  lastBound : Option Nat := none
  latched : Nat := 0
  parking : Bool := false
  wakeFailed : Bool := false
  parkFailed : Bool := false
  railLost : Nat := 0
  dieFailed : Nat := 0
  ball : Bool := false
  onAt : SMap (Option Nat) := []
  stalls : List (Nat × Stalled) := []
  stallAt : SMap (Option Nat) := []
  demanded : List Nat := []
  straps : Nat := 0
  lastPoll : Nat := 0
  forcedDue : Bool := false
  parkSent : Bool := false
  wickTc : SMap Int := []
  wickTb : SMap Int := []
  wickFor : List Nat := []
  lost : List Nat := []
  epoch : Bool := false
  deriving DecidableEq, Repr


/-- The state of the block. -/
structure State where
  /-- The BAR0 register file, keyed by word offset (R5, R470); an unlisted word reads as its reset value. -/
  regs : SMap W32 := []
  /-- The bits that hardware has set in the current tick, by register word (R8). -/
  hwSet : SMap W32 := []
  /-- The commands that wait, first in first out: the model's own field. -/
  pending : List Instr := []
  /-- The master counter on die L (R27); 0 before the first start. -/
  now : Nat := 0
  /-- How many free values have been taken: the model's own field, which selects the next free value. -/
  fresh : Nat := 0
  /-- What left the device, oldest first: the model's own field. -/
  out : List Output := []
  /-- The latches of the 64-bit registers (R472). -/
  latches : Latches := {}
  /-- The time base and the frame cycle. -/
  tb : TimeBase := {}
  /-- The counter of P0. -/
  islP0 : Island := {}
  /-- The counter of P1. -/
  islP1 : Island := {}
  /-- The counter of V. -/
  islV : Island := {}
  /-- P0 and its link. -/
  linkP0 : DieLink := {}
  /-- P1 and its link. -/
  linkP1 : DieLink := {}
  /-- V and its link. -/
  linkV : DieLink := {}
  /-- Messages on the P0–P1 link toward P0 (R88, R105). -/
  ppTo0 : List PpMsg := []
  /-- Messages on the P0–P1 link toward P1. -/
  ppTo1 : List PpMsg := []
  /-- The signal ledger. -/
  led : Ledger := {}
  /-- The fault collector. -/
  flt : Faults := {}
  /-- The event recorder. -/
  evr : Recorder := {}
  /-- The host interface. -/
  host : HostIf := {}
  /-- The tables of the active image (R395). -/
  img : Tables := {}
  /-- The switch channels, 0 to 47 HS and 48 to 63 PD. -/
  ch : SMap Chan := []
  /-- What P0 measures and holds. -/
  anaP0 : DieAna := {}
  /-- What P1 measures and holds. -/
  anaP1 : DieAna := {}
  /-- What V measures and holds. -/
  anaV : DieAna := {}
  /-- The motor units 0 to 13. -/
  mu : SMap Motor := []
  /-- When the ember latch of an HB pair (0 to 5) or of integrated half-bridge i (12 + i) set (R128). -/
  hbEmber : SMap (Option Nat) := []
  /-- The bridge sequencers of P0 (0) and P1 (1). -/
  brgSeq : SMap Seq := []
  /-- The valve channels. -/
  vl : SMap Valve := []
  /-- The valve banks. -/
  vb : SMap Bank := []
  /-- The boost controller. -/
  bst : Boost := {}
  /-- The LED sinks. -/
  ld : SMap LedSink := []
  /-- The LED array. -/
  ledArr : LedArray := {}
  /-- The switch inputs. -/
  inp : SMap Input := []
  /-- The CAN controllers. -/
  can : SMap CanCtl := []
  /-- The LIN channels. -/
  lin : SMap LinCh := []
  /-- The Ethernet switch. -/
  eth : Eth := {}
  /-- The cipher engine. -/
  cry : Cipher := {}
  /-- The Celper machines: reflex core c at c, bridge sequencer d at 8 + d, bank sequencer b at 10 + b, the LF sequencer at 16. -/
  cel : SMap Cel := []
  /-- The reflex engine. -/
  rfx : Reflex := {}
  /-- The access engine. -/
  acc : Access := {}
  /-- The configuration banks and the lanterns. -/
  cfg : Banks := {}
  /-- The one-time-programmable counts. -/
  otp : Otp := {}
  /-- Power states and the candle domain. -/
  pow : Power := {}
  deriving DecidableEq, Repr

/-- The machine before power is applied: every register at the reset value of its table, every queue and store empty, the counter at 0 (R27, R45 `TIME_NOW`, R434).  POWER_ON and DIE_L_READY bring it up. -/
def State.reset : State := {}

end Sys2Proof.Machine
end

