-- ==== Sys2Proof/Machine/Ops.lean ====
section
/-! DEFINITION. The named operations that every family uses: register fields, die times and links, free values, outputs, notices, raises, events, and the report of a determinism break. -/

namespace Sys2Proof.Machine

/-! ### Registers (R5 to R8) -/

/-- The register word at BAR0 offset `off` (R5). -/
def State.word (s : State) (off : Nat) : W32 := SMap.get resetWord s.regs off

/-- `s` with register word `off` holding `v`. -/
def State.setWord (s : State) (off : Nat) (v : W32) : State := { s with regs := SMap.set resetWord s.regs off v }

/-- The value of a field of at most 32 bits. -/
def State.rd (s : State) (f : Fld) : Nat := (s.word f.off).toNat / 2 ^ f.lo % 2 ^ f.w

/-- The word `x` with the `w` bits from `lo` on replaced by the low bits of `v`. -/
def insertField (x lo w v : Nat) : Nat := x % 2 ^ lo + v % 2 ^ w * 2 ^ lo + x / 2 ^ (lo + w) * 2 ^ (lo + w)

/-- `s` with a field of at most 32 bits holding the low bits of `v`. -/
def State.wr (s : State) (f : Fld) (v : Nat) : State :=
  s.setWord f.off (BitVec.ofNat 32 (insertField (s.word f.off).toNat f.lo f.w v))

/-- The value of a 64-bit register (R5): low word at the lower offset. -/
def State.rd64 (s : State) (f : Fld) : Nat := (s.word f.off).toNat + 2 ^ 32 * (s.word (f.off + 4)).toNat

/-- `s` with a 64-bit register holding the low 64 bits of `v`. -/
def State.wr64 (s : State) (f : Fld) (v : Nat) : State :=
  (s.setWord f.off (BitVec.ofNat 32 v)).setWord (f.off + 4) (BitVec.ofNat 32 (v / 2 ^ 32))

/-- A one-bit field as a truth value. -/
def State.flag (s : State) (f : Fld) : Bool := s.rd f = 1

/-- `s` with a counter field advanced by `n`, saturating at all ones. -/
def State.count (s : State) (f : Fld) (n : Nat) : State := s.wr f (satAdd f.w (s.rd f) n)

/-- Hardware sets the bits `m` of word `off`; a W1C write of the same tick leaves them set (R8). -/
def State.raiseBits (s : State) (off : Nat) (m : W32) : State :=
  { s.setWord off (s.word off ||| m) with hwSet := SMap.set (fun _ => 0#32) s.hwSet off (SMap.get (fun _ => 0#32) s.hwSet off ||| m) }

/-- Hardware sets a one-bit field. -/
def State.raiseFlag (s : State) (f : Fld) : State := s.raiseBits f.off (BitVec.ofNat 32 (2 ^ f.lo))

/-- `s` with a 64-bit counter register advanced by one, saturating (R68). -/
def State.count64 (s : State) (f : Fld) : State := s.wr64 f (satAdd 64 (s.rd64 f) 1)

/-! ### Times, dies and links (R16, R17, R33) -/

/-- The counter of a die's island (R17). -/
def State.isl (s : State) : Die → Island
  | .p0 => s.islP0
  | .p1 => s.islP1
  | .v => s.islV

/-- `s` with the island of a die replaced. -/
def State.setIsl (s : State) (d : Die) (i : Island) : State :=
  match d with
  | .p0 => { s with islP0 := i }
  | .p1 => { s with islP1 := i }
  | .v => { s with islV := i }

/-- The device time as die `d` counts it. -/
def State.dieNow (s : State) (d : Die) : Nat := (s.isl d).count

/-- A die and its link to die L. -/
def State.link (s : State) : Die → DieLink
  | .p0 => s.linkP0
  | .p1 => s.linkP1
  | .v => s.linkV

/-- `s` with a die's link replaced. -/
def State.setLink (s : State) (d : Die) (l : DieLink) : State :=
  match d with
  | .p0 => { s with linkP0 := l }
  | .p1 => { s with linkP1 := l }
  | .v => { s with linkV := l }

/-- `s` with message `m` sent to die `d`, behind every earlier one (R16). -/
def State.sendDown (s : State) (d : Die) (m : DownMsg) : State :=
  s.setLink d { s.link d with down := (s.link d).down ++ [m] }

/-- The lock bit of a die (R33, `TIME_STATE.ISLOCK`). -/
def State.locked (s : State) (d : Die) : Bool := bitOf (s.rd Reg.TIME_STATE.ISLOCK) (dieNum d)

/-- `s` with the lock bit of a die set or clear. -/
def State.setLocked (s : State) (d : Die) (b : Bool) : State :=
  s.wr Reg.TIME_STATE.ISLOCK
    (if b then setBitOf (s.rd Reg.TIME_STATE.ISLOCK) (dieNum d) else clearBitOf (s.rd Reg.TIME_STATE.ISLOCK) (dieNum d))

/-- A counter that runs on its local oscillator, within 1 % of the tick (R34): each 100 ticks it gains one, loses one or neither, as the free value `x` has it. -/
def Island.freeTick (i : Island) (x : Nat) : Island :=
  if i.part < 99 then { i with count := i.count + 1, part := i.part + 1 } else { i with count := i.count + x % 3, part := 0 }

/-- A counter that slews toward the master counter `now` (R34): it adds or omits one tick in every 16. -/
def Island.slewTick (i : Island) (now : Nat) : Island :=
  if i.part < 15 then { i with count := i.count + 1, part := i.part + 1 }
  else { i with count := if i.count < now then i.count + 2 else if now < i.count then i.count else i.count + 1, part := 0 }

/-- The counter of an island one tick on, `now` being the master counter; an island whose counter has not started stands still (R27). -/
def Island.tick (i : Island) (now x : Nat) : Island :=
  if i.count = 0 then i else if i.lost then i.freeTick x else if i.slew then i.slewTick now else { i with count := i.count + 1 }

/-- The port of the gPTP end station is in use and has its link (R281). -/
def State.asPortUp (s : State) : Bool :=
  let p := s.rd Reg.TIME_DISC.ASPORT
  s.flag (Reg.ETH_PCFG.ENABLE p) && s.flag (Reg.ETH_PSTAT.LINK p)

/-- The Pdelay_Req that leaves at this tick (R281): one a second (DESIGN CHOICE, log entry 42). -/
def State.pdelayOut (s : State) : List Output :=
  if s.now % 200000000 = 0 ∧ s.now ≠ 0 ∧ s.asPortUp then [.pdelayReq (s.rd Reg.TIME_DISC.ASPORT) s.now] else []

/-! ### The FAULT ball (R363, R367, R430) -/

/-- The state of record r (R363): 0 QUIET, 1 ACTIVE, 2 SEVERE, 3 LATCHED. -/
def State.fltSt (s : State) (r : Nat) : Nat := s.rd (Reg.FLT_RSTAT.STATE r)

/-- A record is bound (R362). -/
def State.fltBound (s : State) (r : Nat) : Bool := decide (r < 256) && decide (s.rd (Reg.FLT_BIND.SPAN r) ≠ 0)

/-- The sources that hold the ball: [0] records, [1] limp, [2] power and wake. -/
def State.ballSources (s : State) : Nat :=
  let recs := (List.range 256).any (fun r => bitOf (s.rd (Reg.FLT_BIND.REACT r)) 3 && s.fltBound r && decide (2 ≤ s.fltSt r))
  b2n recs + 2 * b2n (allDies.any (fun d => (s.link d).limp)) + 4 * b2n s.pow.ball

/-! ### The clock (R17, R27, R385) -/

/-- One tick of the clocks (R17): the master counter, once it has started, the counters of the islands, and the candle domain's clock while it is supplied (R385).  The FAULT ball goes into the new tick as its sources left it: it is released in the tick after the last of them ends (R367). -/
def State.clockTick (s : State) : State :=
  let x := fun (k : Nat) => (Config.freeWord (s.fresh + k)).toNat
  { s with now := if s.now = 0 then 0 else s.now + 1, islP0 := s.islP0.tick s.now (x 0), islP1 := s.islP1.tick s.now (x 1), islV := s.islV.tick s.now (x 2),
           fresh := s.fresh + 3, hwSet := [], out := s.out ++ s.pdelayOut, flt := { s.flt with ball := decide (s.ballSources ≠ 0) },
           pow := { s.pow with candle := if s.pow.supplied then s.pow.candle + 1 else s.pow.candle } }

/-! ### Free values and outputs -/

/-- The next free value, and the state that has taken it. -/
def State.takeFree (s : State) : W64 × State := (Config.freeWord s.fresh, { s with fresh := s.fresh + 1 })

/-- `s` with `o` having left the device. -/
def State.emit (s : State) (o : Output) : State := { s with out := s.out ++ [o] }

/-! ### Celper machines (R218, R219, R236) -/

/-- A machine that has not run. -/
def Cel.blank : Nat → Cel := fun _ => {}

/-- The machine with index i: reflex core c at c, bridge sequencer d at 8 + d, bank sequencer b at 10 + b, the LF sequencer at 16. -/
def State.celAt (s : State) (i : Nat) : Cel := SMap.get Cel.blank s.cel i
def State.setCel (s : State) (i : Nat) (x : Cel) : State := { s with cel := SMap.set Cel.blank s.cel i x }

/-- The index of a Celper machine. -/
def celIdx : CoreId → Nat
  | .reflex c => c
  | .bridge d => 8 + d
  | .bank b => 10 + b
  | .lf => 16

/-- A sequencer starts its program at a control step (R219, R236): nothing survives but its ports. -/
def State.seqStart (s : State) (i : Nat) : State := s.setCel i { running := true, ports := (s.celAt i).ports }

/-- A sequencer's program is stopped. -/
def State.seqHalt (s : State) (i : Nat) : State := s.setCel i { s.celAt i with running := false }

/-! ### Events and raises (R359, R379, R388) -/

/-- An event handed to the recorder's queue; an event that finds the queue full is discarded and counted (R388). -/
def State.record (s : State) (e : Evt) : State :=
  if s.evr.queue.length < 64 then { s with evr := { s.evr with queue := s.evr.queue ++ [e] } }
  else { s.count Reg.EVR_LOST.QUEUE 1 with evr := { s.evr with discards := s.evr.discards + 1 } }

/-- An event with up to three parameters. -/
def State.event (s : State) (code tick : Nat) (p1 : Nat := 0) (p2 : Nat := 0) (p3 : Nat := 0) : State :=
  s.record { code := code, tick := tick, p1 := p1 % 2 ^ 32, p2 := p2 % 2 ^ 32, p3 := p3 % 2 ^ 32 }

/-- The code of an event that accompanies a raise (R380). -/
def raiseCode (src kind : Nat) : Nat := src / 256 * 256 + kind

/-- Raise `a` comes before raise `b` (R18, R361): by stamp, and with equal stamps by source identifier. -/
def Raise.before (a b : Raise) : Bool := decide (a.stamp < b.stamp) || (decide (a.stamp = b.stamp) && decide (a.src < b.src))

/-- A raise takes its place among the messages of a die: behind all that were sent, but before a waiting raise of the same stamp and a higher source (R16, R18). -/
def insertRaise (x : Raise) : List UpMsg → List UpMsg
  | [] => [.raise x]
  | .raise y :: l => if y.stamp = x.stamp ∧ x.src < y.src then .raise x :: .raise y :: l else .raise y :: insertRaise x l
  | .update u :: l => .update u :: insertRaise x l
  | .ack b :: l => .ack b :: insertRaise x l

/-- How many raises wait in a queue of messages. -/
def raisesIn (l : List UpMsg) : Nat :=
  (l.filter (fun m => match m with
    | .raise _ => true
    | _ => false)).length

/-- A raise of die L: it reaches the collector in the tick of its stamp (R361). -/
def State.raiseL (s : State) (src kind stamp : Nat) : State :=
  { s with flt := { s.flt with fromL := insertBy Raise.before { src := src, kind := kind, stamp := stamp } s.flt.fromL } }

/-- A raise of a die: kept in order, up to 256; a further one is dropped and counted (R361). -/
def State.raiseD (s : State) (d : Die) (src kind stamp : Nat) : State :=
  let l := s.link d
  if raisesIn l.up < 256 then s.setLink d { l with up := insertRaise { src := src, kind := kind, stamp := stamp } l.up }
  else s.setLink d { l with dropped := l.dropped + 1 }

/-- A die raises a fault and records the event that accompanies it (R380). -/
def State.faultD (s : State) (d : Die) (src kind stamp : Nat) (p2 : Nat := 0) (p3 : Nat := 0) : State :=
  (s.raiseD d src kind stamp).event (raiseCode src kind) stamp src p2 p3

/-- Die L raises a fault and records the event that accompanies it (R380). -/
def State.faultL (s : State) (src kind stamp : Nat) (p2 : Nat := 0) (p3 : Nat := 0) : State :=
  (s.raiseL src kind stamp).event (raiseCode src kind) stamp src p2 p3

/-! ### MSI-X (R288, R289) -/

/-- The host interface runs: EN = 1 and the link is up (R312 `HOST_STAT.UP`). -/
def State.hostUp (s : State) : Bool := s.flag Reg.HOST_CTL.EN && s.host.linkUp

/-- Memory requests may be issued (R289). -/
def State.busMaster (s : State) : Bool := s.host.bme && !s.host.d3

/-- An MSI-X vector whose table entry no one has written: masked. -/
def MsixVec.blank : Nat → MsixVec := fun _ => {}

/-- Vector `v` signals: its message is sent, or its pending bit set while it is masked; nothing while the interface is stopped (R288), and the message waits while memory requests are held back (R289). -/
def State.msix (s : State) (v : Nat) : State :=
  if !s.hostUp then s
  else
    let e := SMap.get MsixVec.blank s.host.msix v
    if e.masked then { s with host := { s.host with msix := SMap.set MsixVec.blank s.host.msix v { e with pending := true } } }
    else if s.busMaster then s.emit (.msix v e.addr e.data)
    else if s.host.heldMsix.contains v then s
    else { s with host := { s.host with heldMsix := s.host.heldMsix ++ [v] } }

/-- A bit of `HOST_ERR` is set; each setting signals vector 32 (R288). -/
def State.hostErr (s : State) (f : Fld) : State := (s.raiseFlag f).msix 32

/-! ### The determinism report (R43, R44, R476) -/

/-- A break of kind `bit` (its bit in `TIME_DETSTAT`) of the frames `fs`, `first` being the frame a first capture takes: the status bit is set, each frame not counted before is counted, HOLD clears where one of them has completed or the break is a late update (a broken frame that still runs clears it when it completes), and the first break after an anchor raises 0x0E30 and records F and the cause bits (R43, R44, R45, R476). -/
def State.detBreak (s : State) (bit first : Nat) (fs : List Nat) : State :=
  let news := (fs.filter (fun f => !s.tb.broken.contains f)).dedup
  let s1 := if (s.word Reg.TIME_DETSTAT.BUDGET.off).toNat % 128 = 0 then s.wr Reg.TIME_DETFIRST.F first else s
  let s2 := (s1.raiseFlag ⟨Reg.TIME_DETSTAT.BUDGET.off, bit, 1⟩).count Reg.TIME_DETCNT.N news.length
  let s3 := if bit = 3 ∨ fs.any (fun f => decide (f < s.tb.run)) then s2.wr Reg.TIME_DETNOW.HOLD 0 else s2
  let s4 := if s.tb.anchorBroken then s3 else s3.faultL 0x0E30 0x35 s.now first (2 ^ bit)
  { s4 with tb := { s4.tb with broken := s4.tb.broken ++ news, anchorBroken := true,
                               anchorAfter := fs.foldl max s4.tb.anchorAfter } }

/-- A break of the current frame; before the first frame there is none to break. -/
def State.breakNow (s : State) (bit : Nat) : State :=
  if s.tb.framesOn then s.detBreak bit (s.rd Reg.TIME_FRAME.F) [s.tb.run] else s

end Sys2Proof.Machine
end

