-- ==== Sys2Proof/Machine/Ledger.lean ====
section
/-! DEFINITION. The signal ledger (R46 to R59): attribute records, order keys and acceptance, the paths of updates, reads at an evaluation tick, and blob slots. -/

namespace Sys2Proof.Machine

/-! ### Attribute records (R49) -/

/-- A record of the fixed region: owner UNIT, FRESHINT, kind and width. -/
def unitAttr (f kind width : Nat) : Option Attr := some { freshint := f, kind := kind, width := width, owner := .unit }

/-- The record of a CMD or vote entry: owner PROGRAM without a deadline. -/
def cmdAttr (kind width : Nat) : Option Attr := some { kind := kind, width := width, owner := .program }

/-- The value of an RWL field in the active image, whatever the die that owns the register holds (R49, R67, R400). -/
def State.img1 (s : State) (f : Fld) : Nat := (SMap.get resetWord s.img.regs f.off).toNat / 2 ^ f.lo % 2 ^ f.w

/-- A one-bit RWL field of the active image. -/
def State.imgFlag (s : State) (f : Fld) : Bool := s.img1 f = 1

/-- A channel is enabled in the parameters its die holds. -/
def State.chEnabled (s : State) (u : Nat) : Bool := decide (u < 64) && s.flag (Reg.CH_CFG.ENABLE u)

/-- The wick model steps bundle group g of the active image: it holds an enabled channel with WICKEN = 1 (R71). -/
def State.imgGroup (s : State) (g : Nat) : Bool :=
  (List.range 64).any (fun u => s.imgFlag (Reg.CH_CFG.ENABLE u) && s.imgFlag (Reg.CH_CFG.WICKEN u) && decide (s.img1 (Reg.CH_CFG.BGRP u) = g))

/-- The wick model steps bundle group g: it holds an enabled channel with WICKEN = 1 (R71). -/
def State.groupActive (s : State) (g : Nat) : Bool :=
  (List.range 64).any (fun u => s.chEnabled u && s.flag (Reg.CH_CFG.WICKEN u) && decide (s.rd (Reg.CH_CFG.BGRP u) = g))

/-- Entries of a switch channel (R71). -/
def State.chanAttr (s : State) (u o : Nat) : Option Attr :=
  if !(decide (u < 64) && s.imgFlag (Reg.CH_CFG.ENABLE u)) then none
  else
    let fb := 600 * s.img1 (Reg.CH_CFG.FBDIV u)
    match o with
    | 0 => cmdAttr 0 32
    | 1 => unitAttr 80000 0 8
    | 2 => unitAttr fb 1 32
    | 3 => unitAttr fb 0 32
    | 4 => unitAttr 12000 1 16
    | 5 => unitAttr 12000 1 16
    | 6 => unitAttr 80000 0 4
    | 7 => unitAttr 80000 0 16
    | _ => none

/-- Entries of a motor unit (R118). -/
def State.motorAttr (s : State) (m o : Nat) : Option Attr :=
  if !(decide (m < 14) && s.imgFlag (Reg.BRG_CFG.ENABLE m)) then none
  else
    match o with
    | 0 => cmdAttr 0 32
    | 1 => unitAttr 80000 0 8
    | 2 => unitAttr 80000 1 32
    | 3 => unitAttr 12000 1 32
    | 4 => unitAttr (12000 * s.img1 (Reg.BRG_BEMF.BEMFPER m)) 1 32
    | 5 => unitAttr 0 0 32
    | _ => none

/-- Entries of a valve channel and of a bank (R146). -/
def State.valveAttr (s : State) (n o : Nat) : Option Attr :=
  if !(decide (n < 24) && s.imgFlag (Reg.VLV_CFG.ENABLE n)) then none
  else
    match o with
    | 0 => cmdAttr 0 32
    | 1 => unitAttr 80000 0 8
    | 2 => unitAttr 12000 1 32
    | 3 => unitAttr 0 0 32
    | 4 => unitAttr 0 0 32
    | _ => none

def State.bankAttr (s : State) (b o : Nat) : Option Attr :=
  if !(decide (b < 6) && s.imgFlag (Reg.VLV_BCFG.ENABLE b)) then none
  else
    match o with
    | 0 => unitAttr 80000 0 8
    | 1 => unitAttr 12000 1 32
    | _ => none

/-- Entries of an LED sink (R175). -/
def State.ledAttr (s : State) (n o : Nat) : Option Attr :=
  if !(decide (n < 48) && s.imgFlag (Reg.LED_CFG.ENABLE n)) then none
  else
    match o with
    | 0 => cmdAttr 0 32
    | 1 => unitAttr 80000 0 32
    | 2 => unitAttr 12000 0 32
    | _ => none

/-- Entries of a switch input (R189). -/
def State.inputAttr (s : State) (n o : Nat) : Option Attr :=
  if !(decide (n < 160) && s.imgFlag (Reg.INP_CFG.ENABLE n)) then none
  else
    match o with
    | 0 => unitAttr 80000 2 1
    | 1 => unitAttr 80000 0 64
    | 2 => unitAttr 12000 0 32
    | _ => none

/-- The entries 0x03000 to 0x03017 of the access engine (R350). -/
def State.accAttr (s : State) (o : Nat) : Option Attr :=
  if !s.imgFlag Reg.ACC_CFG.ENABLE then none
  else if o = 0 then cmdAttr 0 32
  else if o = 1 then unitAttr 80000 0 32
  else if o = 2 then unitAttr 0 0 32
  else if o = 3 then unitAttr 80000 0 32
  else if 16 ≤ o ∧ o < 24 then unitAttr 80000 0 8
  else none

/-- The records that the device supplies for the fixed region, by the active image; the time-base, lifecycle and image-version entries that R47's table names have no index in any chapter and stay undefined (log entry 7) (R47, R49, R71, R118, R146, R175, R189, R242, R275, R283, R350, R369, R410, R432, R436). -/
def State.fixedAttr (s : State) (i : Nat) : Option Attr :=
  if i < 0x100 then
    if i = 0x10 then unitAttr 80000 0 32
    else if i = 0x11 then cmdAttr 2 1
    else if i = 0x12 ∨ i = 0x13 ∨ i = 0x14 then unitAttr 80000 0 32
    else none
  else if i < 0x200 then (if s.img1 (Reg.FLT_BIND.SPAN (i - 0x100)) = 0 then none else unitAttr 80000 0 44)
  else if i < 0x400 then none
  else if i < 0x700 then s.chanAttr ((i - 0x400) / 16) (i % 16)
  else if i < 0x710 then (if s.imgGroup (i - 0x700) then unitAttr 12000 1 16 else none)
  else if i < 0x800 then none
  else if i < 0x900 then s.chanAttr (48 + (i - 0x800) / 16) (i % 16)
  else if i < 0xC00 then none
  else if i < 0xCE0 then s.motorAttr ((i - 0xC00) / 16) (i % 16)
  else if i < 0x1000 then none
  else if i < 0x1180 then s.valveAttr ((i - 0x1000) / 16) (i % 16)
  else if i < 0x1200 then none
  else if i < 0x1260 then s.bankAttr ((i - 0x1200) / 16) (i % 16)
  else if i = 0x1300 then (if s.imgFlag Reg.VLV_BST.BSTEN then unitAttr 12000 0 32 else none)
  else if i < 0x1400 then none
  else if i < 0x1700 then s.ledAttr ((i - 0x1400) / 16) (i % 16)
  else if i < 0x1800 then none
  else if i < 0x1A80 then s.inputAttr ((i - 0x1800) / 4) (i % 4)
  else if i < 0x1C00 then none
  else if i < 0x1CC0 then
    (if s.imgFlag (Reg.CAN_CFG.ENABLE ((i - 0x1C00) / 16)) && decide (i % 16 < 2) then unitAttr 80000 0 32 else none)
  else if i < 0x2000 then none
  else if i < 0x20A0 then
    (if s.imgFlag (Reg.LIN_CFG.ENABLE ((i - 0x2000) / 16)) && decide (i % 16 = 0) then unitAttr 80000 0 32 else none)
  else if i < 0x2400 then none
  else if i < 0x2450 then
    (if s.imgFlag (Reg.ETH_PCFG.ENABLE ((i - 0x2400) / 16)) && decide (i % 16 = 0) then unitAttr 80000 0 32 else none)
  else if i < 0x3000 then none
  else if i < 0x3018 then s.accAttr (i - 0x3000)
  else if i = 0x3C00 then unitAttr 80000 0 32
  else if 0x3C10 ≤ i ∧ i < 0x3C30 then (if i - 0x3C10 < s.img.peers.length then unitAttr 80000 0 32 else none)
  else none

/-- The attribute record of an index; none where the index is undefined (R49). -/
def State.attr (s : State) (i : Nat) : Option Attr :=
  if i < 0x4000 then s.fixedAttr i
  else if i < 0x20000 then SMap.get (fun _ => none) s.img.attrs i
  else none

/-! ### Entries and order keys (R46, R51, R53) -/

/-- An entry no update has set (R51 NEVER). -/
def Entry.blank : Nat → Entry := fun _ => {}

/-- The state code of an entry (R46). -/
def EState.code : EState → Nat
  | .never => 0
  | .fresh => 1
  | .stale => 2
  | .invalid => 3

/-- Key `a` is higher than key `b` (R53). -/
def OrdKey.gt (a b : OrdKey) : Bool :=
  decide (a.stamp > b.stamp) || (decide (a.stamp = b.stamp) &&
    (decide (a.cls > b.cls) || (decide (a.cls = b.cls) &&
      (decide (a.who > b.who) || (decide (a.who = b.who) && decide (a.pos > b.pos))))))

/-- The order key of an update (R53). -/
def Upd.key (u : Upd) : OrdKey :=
  match u.targeted with
  | none => { stamp := u.stamp, cls := 0, who := u.src, pos := 0 }
  | some (r, p) => { stamp := u.stamp, cls := 1, who := r, pos := p }

/-- The deadline of a valid update with stamp `t` (R52). -/
def deadlineOf (f t : Nat) : Nat := if f = 0 then 0 else t + 50 * f

/-- The state of an entry as a read at tick `t` reports it (R52). -/
def Entry.stateAt (e : Entry) (t : Nat) : EState :=
  if e.state = .fresh ∧ e.deadline ≠ 0 ∧ e.deadline ≤ t then .stale else e.state

/-- The entry an accepted update leaves at tick `t` (R51, R52). -/
def Entry.accept (e : Entry) (f : Nat) (u : Upd) (t : Nat) : Entry :=
  match u.kind with
  | .valid =>
    { e with value := u.value, bytes := u.bytes, stamp := u.stamp, deadline := deadlineOf f u.stamp, source := u.src, key := u.key,
             ucount := (e.ucount + 1) % 2 ^ 32,
             state := if f ≠ 0 ∧ u.stamp + 50 * f ≤ t then .stale else .fresh }
  | .stale =>
    { e with value := u.value, bytes := u.bytes, stamp := u.stamp, deadline := deadlineOf f u.stamp, source := u.src, key := u.key,
             ucount := (e.ucount + 1) % 2 ^ 32, state := .stale }
  | .invalid =>
    { e with stamp := u.stamp, deadline := 0, source := u.src, key := u.key, ucount := (e.ucount + 1) % 2 ^ 32, state := .invalid }

/-- An update meets an entry at tick `t`: accepted when its key is higher than the entry's, else superseded, and only UCOUNT advances (R53). -/
def Entry.apply (e : Entry) (f : Nat) (u : Upd) (t : Nat) : Entry :=
  if u.key.gt e.key then e.accept f u t else { e with ucount := (e.ucount + 1) % 2 ^ 32 }

/-- The live entry (R56). -/
def State.live (s : State) (i : Nat) : Entry := SMap.get Entry.blank s.led.live i

/-- The entry of the sealed snapshot. -/
def State.snap (s : State) (i : Nat) : Entry := SMap.get Entry.blank s.led.snap i

/-! ### Blob slots (R59) -/

/-- Bytes of one slot: BLOBLEN × 8 rounded up to a multiple of 32. -/
def slotBytes (a : Attr) : Nat := (a.bloblen * 8 + 31) / 32 * 32

/-- The slot offset for a new version: the first of the three slots that is neither the current one nor the one pinned by the sealed snapshot. -/
def State.blobSlot (s : State) (i : Nat) (a : Attr) : Nat :=
  let base := SMap.get (fun _ => 0) s.img.blobBase i
  let n := slotBytes a
  let used := fun (e : Entry) => if e.value.toNat / 2 ^ 32 % 2048 = 0 then none else some (e.value.toNat % 2 ^ 21)
  let busy := [used (s.live i), used (s.snap i)]
  if !busy.contains (some base) then base else if !busy.contains (some (base + n)) then base + n else base + 2 * n

/-- The descriptor of a blob version (R59). -/
def blobDesc (ofs len : Nat) : W64 := BitVec.ofNat 64 (ofs % 2 ^ 21 + len % 2 ^ 11 * 2 ^ 32)

/-- A blob update as the ledger stores it: its descriptor, or an invalidating update when its bytes do not fit (R59). -/
def State.blobUpd (s : State) (a : Attr) (u : Upd) : Upd :=
  if a.kind ≠ 3 ∨ u.kind = .invalid then u
  else if u.bytes.length = 0 ∨ u.bytes.length > a.bloblen * 8 then { u with kind := .invalid, bytes := [] }
  else { u with value := blobDesc (s.blobSlot u.idx a) u.bytes.length }

/-! ### Frames and snapshots (R20, R36, R38) -/

/-- The frame length in force (R36). -/
def State.period (s : State) : Nat := s.rd Reg.TIME_PERIOD.P

/-- B(F) of the current frame. -/
def State.bound (s : State) : Nat := s.rd64 Reg.TIME_BOUND.B

/-- The boundary whose snapshot is built or will be built next: B(F) until the seal of F, then B(F+1). -/
def State.nextSnapBound (s : State) : Nat := if s.tb.sealed then s.bound + s.period else s.bound

/-- The frame, as `tb.run` counts frames, whose snapshot an update with stamp `t` first belongs to: the least F with `t` below B(F) (R20, R35).  Before the current T0 the frame length before it counts; a stamp before frame 0 belongs to frame 0. -/
def State.frameOfStamp (s : State) (t : Nat) : Nat :=
  if s.bound ≤ t then s.tb.run + ((t - s.bound) / s.period + 1)
  else if s.tb.t0 ≤ t then s.tb.run - (s.bound - 1 - t) / s.period
  else if s.tb.prevP = 0 then s.tb.run0
  else s.tb.run0 - (s.tb.t0 - 1 - t) / s.tb.prevP

/-- The value of F in frame `n` of the count, a frame not later than the current one (R11). -/
def State.frameValue (s : State) (n : Nat) : Nat := (s.rd Reg.TIME_FRAME.F + 2 ^ 32 - (s.tb.run - n) % 2 ^ 32) % 2 ^ 32

/-- An update stamped before B(F) that comes after the seal of F is late (R35, R54): F is the last frame whose snapshot is sealed. -/
def State.lateStamp (s : State) (t : Nat) : Bool := s.tb.framesOn && decide (t < s.led.snapTick)

/-! ### Commit (R52, R53, R54) -/

/-- The snapshot under construction takes an update that belongs to it; a later one waits. -/
def State.commitBase (s : State) (a : Attr) (u : Upd) : State :=
  if !s.tb.framesOn || decide (u.stamp < s.nextSnapBound) then
    { s with led := { s.led with base := SMap.set Entry.blank s.led.base u.idx ((SMap.get Entry.blank s.led.base u.idx).apply a.freshint u 0) } }
  else { s with led := { s.led with future := s.led.future ++ [u] } }

/-- An entry that went STALE at its deadline before this tick counts its expiry (R52). -/
def State.expire (s : State) (i : Nat) : State :=
  let e := s.live i
  if e.state = .fresh ∧ e.deadline ≠ 0 ∧ e.deadline ≤ s.now then
    { s.count Reg.LEDG_EXPCNT.N 1 with led := { s.led with live := SMap.set Entry.blank s.led.live i { e with state := .stale } } }
  else s

/-- Entry i is one that the active image keeps in NEVER: BEMF with `BEMFEN` = 0 (R118) or VIN with `ADCEN` = 0 (R189). -/
def State.unfed (s : State) (i : Nat) : Bool :=
  (decide (0xC00 ≤ i ∧ i < 0xCE0 ∧ i % 16 = 4) && !s.imgFlag (Reg.BRG_CFG.BEMFEN ((i - 0xC00) / 16))) ||
  (decide (0x1800 ≤ i ∧ i < 0x1A80 ∧ i % 4 = 2) && !s.imgFlag (Reg.INP_CFG.ADCEN ((i - 0x1800) / 4)))

/-- The live entry takes an update: counted as accepted or superseded (R53, R68). -/
def State.commitLive (s : State) (a : Attr) (u : Upd) : State :=
  let s1 := s.expire u.idx
  let e := s1.live u.idx
  let s2 := (s1.count64 Reg.LEDG_UPDCNT.N)
  let s3 := if u.key.gt e.key then s2 else s2.count Reg.LEDG_SUPCNT.N 1
  { s3 with led := { s3.led with live := SMap.set Entry.blank s3.led.live u.idx (e.apply a.freshint u s3.now) } }

/-- The report of a late update at its commit (R35, R54, R476): frames from the one its stamp belongs to up to the first whose snapshot includes it, which is the running frame until its seal and the next one from then on. -/
def State.lateUpdate (s : State) (t : Nat) : State :=
  let f0 := s.frameOfStamp t
  (s.count Reg.LEDG_LATECNT.N 1).detBreak 3 (s.frameValue f0) ((List.range (s.tb.run + (if s.tb.sealed then 2 else 1))).drop f0)

/-- One update is committed to the ledger at this tick (R53, R54); an update to an index that is undefined, not fed by its producer's class or kept in NEVER has no effect (R50, R118, R189). -/
def State.commit (s : State) (u0 : Upd) : State :=
  match s.attr u0.idx with
  | none => s
  | some a =>
    if a.owner ≠ u0.own ∨ s.unfed u0.idx then s
    else
    let u := s.blobUpd a u0
    let late := s.lateStamp u.stamp
    let s1 := if late then s.lateUpdate u.stamp else s
    (s1.commitBase a u).commitLive a u

/-- A staged write is committed at boundary tick `b` with the source of its program (R21, R55), ahead of every intake update; the change of its VALUE or STATE is noted for on-change triggers (R63). -/
def State.commitStaged (s : State) (b i : Nat) (v : W64) (src : Nat) (bytes : List Byte) : State :=
  match s.attr i with
  | none => s
  | some a =>
    let u := s.blobUpd a { idx := i, value := v, stamp := b, src := src, bytes := bytes }
    let old := SMap.get Entry.blank s.led.base i
    let e := old.apply a.freshint u 0
    let ch := if e.value ≠ old.value ∨ e.stateAt b ≠ old.stateAt b then s.led.changed ++ [i] else s.led.changed
    let l := { s.led with base := SMap.set Entry.blank s.led.base i e, changed := ch }
    let s1 := { s with led := l }
    s1.commitLive a u

/-! ### The paths into the intake (R54) -/

/-- The update last sent for a unit entry (R71). -/
def State.lastSent (s : State) (i : Nat) : Option Upd := SMap.get (fun _ => none) s.led.sent i

/-- The link of a die to die L can carry messages: die L runs, and the link has not failed (R34, R361). -/
def State.linkCarries (s : State) (d : Die) : Bool := decide (s.now ≠ 0) && !(s.isl d).lost

/-- An entry of a switch input (R189). -/
def isInputEntry (i : Nat) : Bool := decide (0x1800 ≤ i) && decide (i < 0x1A80)

/-- The messages of a die that stay when it has a new update of entry `i`: while the link cannot carry them, only the newest update of an input's entry is kept (R24). -/
def State.keptUp (s : State) (d : Die) (i : Nat) : List UpMsg :=
  if isInputEntry i && !s.linkCarries d then
    (s.link d).up.filter (fun m => match m with
      | .update v => decide (v.idx ≠ i)
      | _ => true)
  else (s.link d).up

/-- A unit of die `d` sends an update of its entry (R16). -/
def State.sendD (s : State) (d : Die) (u : Upd) : State :=
  let s1 := s.setLink d { s.link d with up := s.keptUp d u.idx ++ [.update u] }
  { s1 with led := { s1.led with sent := SMap.set (fun _ => none) s1.led.sent u.idx (some u) } }

/-- A unit of die L sends an update of its entry. -/
def State.sendL (s : State) (u : Upd) : State :=
  { s with led := { s.led with fromL := s.led.fromL ++ [{ u with late := s.lateStamp u.stamp }], sent := SMap.set (fun _ => none) s.led.sent u.idx (some u) } }

/-- A unit reports an entry again in the tick of its last report: while that update still waits on the link it carries the value at the end of the tick; else the new one follows it. -/
def State.amendD (s : State) (d : Die) (u : Upd) : State :=
  let same := fun (m : UpMsg) => match m with
    | .update x => decide (x.idx = u.idx) && decide (x.stamp = u.stamp)
    | _ => false
  if (s.link d).up.any same then
    let s1 := s.setLink d { s.link d with up := (s.link d).up.map (fun m => if same m then .update u else m) }
    { s1 with led := { s1.led with sent := SMap.set (fun _ => none) s1.led.sent u.idx (some u) } }
  else s.sendD d u

/-- A valid unit update from a die. -/
def State.unitD (s : State) (d : Die) (idx : Nat) (v : Int) (stamp src : Nat) : State :=
  s.sendD d { idx := idx, value := w64 v, stamp := stamp, src := src }

/-- A valid unit update from die L. -/
def State.unitL (s : State) (idx : Nat) (v : Int) (stamp src : Nat) : State :=
  s.sendL { idx := idx, value := w64 v, stamp := stamp, src := src }

/-! ### Reads (R46, R52, R56) -/

/-- The 32 bytes of an entry as a read at tick `t` returns them (R46). -/
def entryBytes (a : Attr) (e : Entry) (t : Nat) : List Byte :=
  leBytes 8 e.value.toNat ++ leBytes 8 e.stamp ++ leBytes 8 e.deadline ++ leBytes 4 e.ucount ++ leBytes 2 e.source
    ++ [BitVec.ofNat 8 (e.stateAt t).code, BitVec.ofNat 8 a.kind]

/-- Whether a value fits an attribute record's WIDTH and KIND (R46, R50). -/
def valueFits (a : Attr) (v : W64) : Bool :=
  if a.kind = 1 then decide (-(2 ^ (a.width - 1) : Int) ≤ v.toInt) && decide (v.toInt < (2 ^ (a.width - 1) : Int))
  else if a.kind = 2 then decide (v.toNat < 2)
  else decide (v.toNat < 2 ^ a.width)

end Sys2Proof.Machine
end

