-- ==== Sys2Proof/Machine/HostRing.lean ====
section
/-! DEFINITION. The rings of the host interface: status codes (R12), completions and moderation (R296 to R299), operations in flight (R294, R295), the service order of the rings, and the release of drained rings (R305). -/

namespace Sys2Proof.Machine

/-! ### Status codes (R12) -/

abbrev St.ok : Nat := 0x00
abbrev St.retryLater : Nat := 0x01
abbrev St.aborted : Nat := 0x02
abbrev St.bankConflict : Nat := 0x03
abbrev St.nonceExhausted : Nat := 0x04
abbrev St.authFail : Nat := 0x05
abbrev St.stale : Nat := 0x06
abbrev St.boostNotReady : Nat := 0x07
abbrev St.tagBusy : Nat := 0x08
abbrev St.domainFail : Nat := 0x09
abbrev St.degradedTime : Nat := 0x0A
abbrev St.lockedOut : Nat := 0x0B
abbrev St.limitReached : Nat := 0x0C
abbrev St.configMismatch : Nat := 0x0D
abbrev St.invalid : Nat := 0x0E
abbrev St.internal : Nat := 0x0F

/-! ### Access to rings and operations -/

/-- A ring that was never added. -/
def Sq.blank : Nat → Sq := fun _ => {}
def Cq.blank : Nat → Cq := fun _ => {}

def State.sq (s : State) (q : Nat) : Sq := SMap.get Sq.blank s.host.sqs q
def State.cq (s : State) (q : Nat) : Cq := SMap.get Cq.blank s.host.cqs q

def State.setSq (s : State) (q : Nat) (x : Sq) : State :=
  { s with host := { s.host with sqs := SMap.set Sq.blank s.host.sqs q x } }
def State.setCq (s : State) (q : Nat) (x : Cq) : State :=
  { s with host := { s.host with cqs := SMap.set Cq.blank s.host.cqs q x } }

/-- The operation in flight under a tag (R294). -/
def State.op (s : State) (t : Nat) : Option HostOp := (s.host.ops.find? (fun p => decide (p.1 = t))).map (fun p => p.2)

/-- The place of a request in the order of arrival (R250, R273); one that is no operation comes first. -/
def State.arrival (s : State) (t : Option Nat) : Nat := ((t.bind (fun t => s.op t)).map (fun o => o.order + 1)).getD 0

/-- A number that is no tag: a function carries it on for an operation whose completion is no longer wanted. -/
abbrev noTag : Nat := 256

/-- `s` without the operation of tag `t`. -/
def State.dropOp (s : State) (t : Nat) : State := { s with host := { s.host with ops := SMap.del t s.host.ops } }

/-- `s` with the operation of tag `t` stored. -/
def State.putOp (s : State) (t : Nat) (o : HostOp) : State := { s with host := { s.host with ops := SMap.put t o s.host.ops } }

/-- A field of a descriptor (R293): `len` bytes at `off`. -/
def HostOp.fld (o : HostOp) (off len : Nat) : Nat := byteField o.desc off len

def HostOp.opcode (o : HostOp) : Nat := o.fld 0 1
def HostOp.ctx (o : HostOp) : Nat := o.fld 8 8

/-- The operation of tag `t` when it is the one that starts next on its ring (R295) and has opcode `c`. -/
def State.opReady (s : State) (t c : Nat) : Option HostOp :=
  match s.op t with
  | none => none
  | some o =>
    if o.opcode = c ∧ !o.begun ∧ s.host.ops.all (fun p => p.2.begun || decide (p.2.sq ≠ o.sq) || decide (o.order ≤ p.2.order))
    then some o else none

/-- The operation of tag `t` has left for its function and waits there. -/
def State.begin (s : State) (t : Nat) : State :=
  match s.op t with
  | none => s
  | some o => s.putOp t { o with begun := true }

/-! ### Completions (R296 to R299) -/

/-- The 64 bytes of a completion entry (R296), `phase` its phase bit and `head` the consumption count. -/
def Cpl.bytes (c : Cpl) (head : Nat) (phase : Bool) : List Byte :=
  leBytes 8 c.ctx ++ leBytes 8 c.stamp ++ ((c.result ++ List.replicate 40 0#8).take 40)
    ++ [BitVec.ofNat 8 c.tag, BitVec.ofNat 8 c.status, BitVec.ofNat 8 c.reason, BitVec.ofNat 8 c.opcode]
    ++ leBytes 2 head ++ [BitVec.ofNat 8 c.sq, BitVec.ofNat 8 (b2n c.refused + 128 * b2n phase)]

/-- Moderation after an entry of CQ q (R299): the message is sent when the entries not signalled reach ICOUNT. -/
def State.moderate (s : State) (q : Nat) : State :=
  let c := s.cq q
  if c.vec = 255 then s
  else if c.unsig + 1 ≥ c.icount then (s.setCq q { c with unsig := 0 }).msix c.vec
  else s.setCq q { c with unsig := c.unsig + 1, firstUnsig := if c.unsig = 0 then s.now else c.firstUnsig }

/-- A completion entry is written: the operation's own host writes first, then bytes 0 to 55, then bytes 56 to 63 (R297); its CQ slot is used and its tag is free (R294, R298). -/
def State.writeCpl (s : State) (c : Cpl) : State :=
  let sq := s.sq c.sq
  let q := s.cq sq.cq
  let size := 2 ^ q.log2
  let bs := c.bytes sq.consumed (decide (q.produced / size % 2 = 0))
  let at0 := q.base + q.produced % size * 64
  let s1 := c.writes.foldl (fun s w => s.emit (.hostWrite w.1 w.2)) s
  let s2 := (s1.emit (.hostWrite at0 (bs.take 56))).emit (.hostWrite (at0 + 56) (bs.drop 56))
  let s3 := s2.setCq sq.cq { q with produced := (q.produced + 1) % 65536, reserved := q.reserved - 1 }
  let s4 := if c.refused then s3 else s3.dropOp c.tag
  s4.moderate sq.cq

/-- Ring q drains and nothing of it remains (R305): FINAL is reached or the drain limit has passed, and no operation of the ring is in flight. -/
def State.ringEmpty (s : State) (q : Nat) : Bool :=
  decide ((s.sq q).st = .draining) && (decide ((s.sq q).consumed = (s.sq q).final) || (s.sq q).drained)
    && !s.host.ops.any (fun p => decide (p.2.sq = q))

/-- A drained ring is released and its removal completes OK, after the drain limit with REASON 1 and fault 0x0A02 (R305).  That may in turn empty the ring that carried the removal; `n` bounds the chain. -/
def State.releaseFrom : Nat → State → Nat → State
  | 0, s, _ => s
  | n + 1, s, q =>
    let r := s.sq q
    match s.ringEmpty q, r.remTag with
    | true, some t =>
      let s1 := s.setSq q {}
      let s2 := if r.drained then s1.raiseL 0x0A02 0x1A s.now else s1
      (match s.op t with
       | none => s2
       | some o => s2.writeCpl { sq := o.sq, tag := t, opcode := o.opcode, ctx := o.ctx, status := St.ok, reason := b2n r.drained } |> fun s3 => State.releaseFrom n s3 o.sq)
    | _, _ => s

def State.releaseDrained (s : State) (q : Nat) : State := State.releaseFrom 32 s q

/-- A completion is issued: written at once, or held while memory requests are held back (R289); the operation of a held one has ended, and its tag stays in flight until the entry is written (R294). -/
def State.issue (s : State) (c : Cpl) : State :=
  if !s.hostUp then s
  else if s.busMaster then (s.writeCpl c).releaseDrained c.sq
  else
    let s1 := if c.refused then s else s.begin c.tag
    { s1 with host := { s1.host with heldCpl := s1.host.heldCpl ++ [c] } }

/-- The completion of tag `t` is held back (R289). -/
def State.heldFor (s : State) (t : Nat) : Bool := s.host.heldCpl.any (fun c => decide (c.tag = t) && !c.refused)

/-- The operation of tag `t` completes, once (R294, R296). -/
def State.complete (s : State) (t status : Nat) (reason : Nat := 0) (stamp : Nat := 0) (result : List Byte := [])
    (writes : List (Nat × List Byte) := []) : State :=
  match s.op t with
  | none => s
  | some o =>
    if s.heldFor t then s
    else s.issue { sq := o.sq, tag := t, opcode := o.opcode, ctx := o.ctx, status := status, reason := reason, stamp := stamp,
                   result := result, writes := writes }

/-- The operation of an optional tag completes; an operation without a tag (a register write) reports nothing. -/
def State.completeOpt (s : State) (t : Option Nat) (status : Nat) (reason : Nat := 0) (stamp : Nat := 0) (result : List Byte := []) : State :=
  match t with
  | none => s
  | some t => s.complete t status reason stamp result

/-! ### Host memory reads (R291, R302) -/

/-- The bit of `HOST_ERR` that a failed device read sets (R312); it signals vector 32 (R288). -/
def State.readFailed (s : State) (x : ReadResult) : State :=
  match x with
  | .data _ => s
  | .unsupported => s.hostErr Reg.HOST_ERR.UR
  | .poisoned => s.hostErr Reg.HOST_ERR.POISON
  | .timeout => s.hostErr Reg.HOST_ERR.CPLTO

/-- The bytes a read brought, if it did not fail and brought at least `n`. -/
def readBytes (x : ReadResult) (n : Nat) : Option (List Byte) :=
  match x with
  | .data b => if b.length < n then none else some (b.take n)
  | _ => none

/-- An operation whose host data could not be read completes INVALID_REQUEST and sets DMAERR (R302). -/
def State.dmaError (s : State) (t : Nat) (x : ReadResult) : State :=
  ((s.readFailed x).hostErr Reg.HOST_ERR.DMAERR).complete t St.invalid

/-! ### Service of the rings (R291, R295, R298) -/

/-- Free slots of CQ q: neither unconsumed by firmware nor reserved (R298). -/
def State.cqFree (s : State) (q : Nat) : Nat :=
  let c := s.cq q
  2 ^ c.log2 - ((c.produced + 65536 - c.head) % 65536 + c.reserved)

/-- SQ q has a descriptor that may be consumed, CQ space apart (R291, R305, R306). -/
def State.sqWaiting (s : State) (q : Nat) : Bool :=
  let r := s.sq q
  !r.err && (match r.st with
    | .absent => false
    | .active => decide (r.consumed ≠ r.tail)
    | .draining => !r.drained && decide (r.consumed ≠ r.tail) && decide (r.consumed ≠ r.final))

/-- SQ q may be served now. -/
def State.sqServable (s : State) (q : Nat) : Bool := s.sqWaiting q && decide (0 < s.cqFree (s.sq q).cq)

/-- The ring to serve next: the last one served while its turn lasts, else the next in ascending number (R295). -/
def State.nextSq (s : State) : Option Nat :=
  if s.host.turn > 0 ∧ s.sqServable s.host.rr then some s.host.rr
  else ((List.range 32).map (fun i => (s.host.rr + 1 + i) % 32)).find? (fun q => s.sqServable q)

/-- A ring enters ERROR (R306). -/
def State.ringError (s : State) (q : Nat) : State :=
  if (s.sq q).err then s else (s.setSq q { s.sq q with err := true }).raiseL 0x0A01 0x19 s.now

end Sys2Proof.Machine
end

