-- ==== Sys2Proof/Machine/TimeBase.lean ====
section
/-! DEFINITION. The time base (R27 to R34): its states, the crystal, 802.1AS disciplining, the time markers and the locks of the islands. -/

namespace Sys2Proof.Machine

/-- The outcome every command of the block has: a next state. -/
abbrev Res : Type := Host.Outcome State Fault Refusal

/-- State codes of `TIME_STATE.STATE` (R29). -/
def TbSt.code : TbSt → Nat
  | .starting => 0
  | .crystal => 1
  | .synced => 2
  | .degraded => 3

/-- The state of the time base (R29). -/
def State.tbSt (s : State) : TbSt :=
  match s.rd Reg.TIME_STATE.STATE with
  | 0 => .starting
  | 1 => .crystal
  | 2 => .synced
  | _ => .degraded

/-- A change of state: an event, and on entry to DEGRADED one fault (R31) and the degraded break of the frame that runs (R40, R43). -/
def State.setTb (s : State) (n : TbSt) : State :=
  let o := s.tbSt
  let s1 := (s.wr Reg.TIME_STATE.STATE n.code).event 0x0E80 s.now o.code n.code
  if n = .degraded then ((s1.raiseL 0x0E00 0x30 s.now).breakNow 2) else s1

/-- The counter has started and device time runs (R27). -/
def State.started (s : State) : Bool := decide (s.now ≠ 0)

/-- CRYSTAL_STABLE (R29, R30): STARTING becomes CRYSTAL within 10 ms of the start. -/
def State.crystalStable (s : State) : State :=
  if !s.started || s.flag Reg.TIME_STATE.XTALOK then s
  else
    let s1 : State := { s.raiseFlag Reg.TIME_STATE.XTALOK with tb := { s.tb with crystalSince := some s.now } }
    if s.tbSt = .starting ∧ s.now ≤ s.tb.startTick + 2000000 then
      (s1.wr Reg.TIME_XTAL.STARTT ((s.now - s.tb.startTick) / 1000)).setTb .crystal
    else s1

def execCrystalStable (s : State) : Res := .next s.crystalStable

/-- CRYSTAL_FAIL (R30, R31): a crystal that has reported stable fails; CRYSTAL and SYNCED become DEGRADED. -/
def State.crystalFail (s : State) : State :=
  if !s.flag Reg.TIME_STATE.XTALOK then s
  else
    let s1 : State := { (s.wr Reg.TIME_STATE.XTALOK 0).count Reg.TIME_XTAL.FAILS 1 with tb := { s.tb with crystalSince := none } }
    match s.tbSt with
    | .crystal => s1.setTb .degraded
    | .synced => s1.setTb .degraded
    | _ => s1

/-- STARTING_TIMEOUT (R29): 10 ms in STARTING without a stable crystal. -/
def State.startingTimeout (s : State) : State :=
  if s.started && decide (s.tbSt = .starting) && decide (s.tb.startTick + 2000000 ≤ s.now) then
    (s.wr Reg.TIME_XTAL.STARTT 0xFFFF).setTb .degraded
  else s

/-- The return rule of R31 holds at boundary tick `b`: the crystal has been stable for 100 ms. -/
def State.returnDue (s : State) (b : Nat) : Bool :=
  decide (s.tbSt = .degraded) &&
    (match s.tb.crystalSince with
     | some t => decide (t + 20000000 ≤ b)
     | none => false)

/-- DEGRADED_RETURN (R31): at the frame boundary after 100 ms of stable crystal. -/
def State.degradedReturn (s : State) : State :=
  if s.tb.framesOn && s.returnDue s.bound && decide (s.bound ≤ s.now) then s.setTb .crystal else s

/-- The rate limit in units of 0.001 ppm (R32): SLEWMAX, values above 100 acting as 100. -/
def State.slewLimit (s : State) : Int := (min (s.rd Reg.TIME_DISC.SLEWMAX) 100 * 1000 : Nat)

/-- The rate error between two Syncs is below 0.1 ppm (R29): the change of gPTP time against 5 ns a tick. -/
def rateGood (t0 : Nat) (g0 : Int) (t1 : Nat) (g1 : Int) : Bool :=
  decide (((g1 - g0) - 5 * ((t1 : Int) - t0)).natAbs * 10000000 < 5 * (t1 - t0))

/-- AS_SYNC_RECEIVED (R32, R281), on the selected port: TIME_ASOFS follows the grandmaster, and with ASEN = 1 the loop takes the rate correction `corr` of the servo within SLEWMAX; no counter steps. -/
def State.asSync (s : State) (gptp corr : Int) : State :=
  if !s.started || !s.asPortUp then s
  else
    let good := match s.tb.lastSync with
      | some (t0, g0) => rateGood t0 g0 s.now gptp
      | none => false
    let s1 := (s.wr64 Reg.TIME_ASOFS.OFS (fieldOfInt 64 (gptp - 5 * s.now))).raiseFlag Reg.TIME_STATE.ASSYNC
    let s2 := if s.flag Reg.TIME_DISC.ASEN then
        s1.wr Reg.TIME_RATE.CORR (fieldOfInt 24 (clampInt (-s.slewLimit) s.slewLimit corr)) else s1
    { s2 with tb := { s2.tb with lastSync := some (s.now, gptp), syncCount := if good then s.tb.syncCount + 1 else 0 } }

def execAsSyncReceived (gptp corr : Int) (s : State) : Res := .next (s.asSync gptp corr)

/-- AS_CONVERGED (R29): CRYSTAL becomes SYNCED after 16 consecutive Sync intervals with a rate error below 0.1 ppm. -/
def State.asConverged (s : State) : State :=
  if s.tbSt = .crystal ∧ s.started ∧ s.flag Reg.TIME_DISC.ASEN ∧ s.flag Reg.TIME_STATE.ASSYNC ∧ 16 ≤ s.tb.syncCount then
    s.setTb .synced
  else s

def execAsConverged (s : State) : Res := .next s.asConverged

/-- AS_SYNC_LOSS (R29, R32): SYNCED becomes CRYSTAL, the last rate correction is held, 0x0E20 is raised and recorded. -/
def State.asSyncLoss (s : State) : State :=
  if !s.flag Reg.TIME_STATE.ASSYNC then s
  else
    let s1 : State := { s.wr Reg.TIME_STATE.ASSYNC 0 with tb := { s.tb with syncCount := 0, lastSync := none } }
    let s2 := s1.faultL 0x0E20 0x34 s.now
    if s.tbSt = .synced then s2.setTb .crystal else s2

def execAsSyncLoss (s : State) : Res := .next s.asSyncLoss

/-! ### Markers and locks (R33, R34) -/

/-- Die L distributes time: every 200 ticks a marker leaves over each link (R33). -/
def State.timeMarkerSend (s : State) : State :=
  if s.started && decide (s.now % 200 = 0) && decide (s.tb.markersSent ≠ s.now) then
    let s1 := allDies.foldl (fun s d => s.sendDown d (.marker s.now)) s
    { s1 with tb := { s1.tb with markersSent := s1.now } }
  else s

/-- TIME_MARKER_SEND (R33): one marker over each link every 200 ticks. -/
def execTimeMarkerSend (s : State) : Res := .next s.timeMarkerSend

/-- A report of the link or island of die d (R34, R35): die L raises it; while die L is stopped the die keeps it (R361). -/
def State.raiseAt (s : State) (d : Die) (src kind : Nat) : State :=
  if s.started then s.raiseL src kind s.now else s.raiseD d src kind (s.dieNow d)

/-- The island of die `d` loses its lock: its bit clears, its source raises, and the frame that runs has an island break (R34, R43). -/
def State.lossOfLock (s : State) (d : Die) : State :=
  let s1 := s.setLink d { s.link d with unlockedSince := true }
  if s.locked d then ((s1.setLocked d false).raiseAt d (0x0E01 + dieNum d) 0x31).breakNow 5 else s1

/-- The link fault of the link of die `d` (R34, R35): its bit in `TIME_LINKERR` and its raise. -/
def State.linkFault (s : State) (d : Die) : State :=
  (s.raiseFlag ⟨Reg.TIME_LINKERR.LP0.off, dieNum d, 1⟩).raiseAt d (0x0E11 + dieNum d) 0x32

/-! ### A die's link (R16) -/

/-- The oldest message toward a die that has not arrived, and what stays: immediate writes that nothing went before are at the die already, and those behind the message arrive with it (R207). -/
def takeDown (now : Nat) : List DownMsg → Option (DownMsg × List DownMsg)
  | [] => none
  | .immediate w t :: l => (takeDown now l).map (fun p => (p.1, .immediate w t :: p.2))
  | m :: l =>
    some (m, l.map (fun x => match x with
      | .immediate w t => .immediate w (max t now)
      | y => y))

/-- The message that die d receives next, and the state without it (R16). -/
def State.popDown (s : State) (d : Die) : Option (DownMsg × State) :=
  match takeDown s.now (s.link d).down with
  | none => none
  | some (m, ms) => some (m, s.setLink d { s.link d with down := ms })

/-! ### The island at a marker (R33, R34) -/

/-- The link delay is measured by round trip at each wake (R33): a free value within the transit bound of R16. -/
def State.measureDelay (s : State) (d : Die) : State :=
  let (x, s1) := s.takeFree
  s1.setIsl d { s1.isl d with delay := x.toNat % 401 }

/-- Every 1,024 markers the island checks its link delay (R33), and takes it as measured then. -/
def State.checkDelay (s : State) (d : Die) : State :=
  let i := s.isl d
  if i.checkIn + 1 < 1024 then s.setIsl d { i with checkIn := i.checkIn + 1 } else (s.setIsl d { i with checkIn := 0 }).measureDelay d

/-- An island after a marker at master tick `now`: one that does not slew takes the counter's phase, unless it is ahead, and one that is ahead or was lost slews until it is within half a tick (R33, R34). -/
def Island.atMarker (i : Island) (now : Nat) : Island :=
  if i.count = now ∨ i.count = 0 then { i with count := now, lost := false, slew := false }
  else if i.lost ∨ i.slew ∨ now < i.count then { i with lost := false, slew := true, part := if i.slew then i.part else 0 }
  else { i with count := now }

/-- TIME_MARKER_RECEIVED (R33, R34): the island of `d` corrects its phase; `err` is its phase error at the marker in thousandths of a tick, and more than half a tick clears its lock. -/
def State.markerReceived (s : State) (d : Die) (err : Int) : State :=
  match s.popDown d with
  | some (.marker _, s1) =>
    let i := (s1.isl d).atMarker s.now
    let inBound := decide (err.natAbs ≤ 500) && !i.slew
    let s2 := (s1.setIsl d { i with relock := if inBound then i.relock + 1 else 0, lastMarker := i.count }).checkDelay d
    if inBound then s2 else s2.lossOfLock d
  | _ => s

def execTimeMarkerReceived (d : Die) (err : Int) (s : State) : Res := .next (s.markerReceived d err)

/-- ISLAND_RELOCK (R34): the 64th consecutive in-bound marker sets the lock bit again; the first lock after a wake asks the same 64 markers (DESIGN CHOICE, log entry 12). -/
def State.islandRelock (s : State) (d : Die) : State :=
  if !s.locked d && decide (64 ≤ (s.isl d).relock) then s.setLocked d true else s

def execIslandRelock (d : Die) (s : State) : Res := .next (s.islandRelock d)

/-- MARKER_LOSS (R34): no marker for 16 periods by the island's own counter; the island runs free and the link fault is reported. -/
def State.markerLoss (s : State) (d : Die) : State :=
  let i := s.isl d
  if !i.lost && decide (i.lastMarker ≠ 0) && decide (i.lastMarker + 3200 ≤ i.count) then
    ((s.setIsl d { i with lost := true, slew := false, relock := 0, part := 0 }).lossOfLock d).linkFault d
  else s

def execMarkerLoss (d : Die) (s : State) : Res := .next (s.markerLoss d)

end Sys2Proof.Machine
end

