-- ==== Sys2Proof/Machine/Switch.lean ====
section
/-! DEFINITION. Protected switch channels (R69 to R92): the command word, the states, turn-on and the decision after a trip, sensing, the trip paths, the ember latch of a channel, and the firmware clear. -/

namespace Sys2Proof.Machine

/-! ### State of a channel -/

/-- Channel states (R76). -/
inductive ChanSt where
  | off | on | pwm | inrush | snuffed | ember | retryWait | lockedOff | limp
  deriving DecidableEq, Repr

/-- State codes of `HSW_STAT.STATE` (R76). -/
def ChanSt.code : ChanSt → Nat
  | .off => 0
  | .on => 1
  | .pwm => 2
  | .inrush => 3
  | .snuffed => 4
  | .ember => 5
  | .retryWait => 6
  | .lockedOff => 7
  | .limp => 8

/-- The state of a code (R76). -/
def chanStOf : Nat → ChanSt
  | 0 => .off
  | 1 => .on
  | 2 => .pwm
  | 3 => .inrush
  | 4 => .snuffed
  | 5 => .ember
  | 6 => .retryWait
  | 7 => .lockedOff
  | _ => .limp

def Chan.blank : Nat → Chan := fun _ => {}
def State.chan (s : State) (u : Nat) : Chan := SMap.get Chan.blank s.ch u
def State.setChan (s : State) (u : Nat) (c : Chan) : State := { s with ch := SMap.set Chan.blank s.ch u c }

/-- What a die measures and holds. -/
def State.ana (s : State) : Die → DieAna
  | .p0 => s.anaP0
  | .p1 => s.anaP1
  | .v => s.anaV

def State.setAna (s : State) (d : Die) (a : DieAna) : State :=
  match d with
  | .p0 => { s with anaP0 := a }
  | .p1 => { s with anaP1 := a }
  | .v => { s with anaV := a }

/-- The state of channel u. -/
def State.chSt (s : State) (u : Nat) : ChanSt := chanStOf (s.rd (Reg.CH_STAT.STATE u))

/-- The tick at channel u's die. -/
def State.chNow (s : State) (u : Nat) : Nat := s.dieNow (chanDie u)

/-- OP of a channel command word (R72): 0 OFF, 1 ON, 2 PWM. -/
def cmdOp (w : Nat) : Nat := w % 4

/-- DUTY of a channel command word (R72). -/
def cmdDuty (w : Nat) : Nat := bits w 4 12

/-- A channel command word is invalid (R74): OP = 3 or a reserved bit set. -/
def cmdInvalid (w : Nat) : Bool := decide (w % 4 = 3) || decide (bits w 2 2 ≠ 0) || decide (w / 65536 ≠ 0)

/-- A channel conducts in ON, PWM and INRUSH, and in LIMP while its applied command is ON or PWM (R76). -/
def conducts (st : ChanSt) (cmd : Nat) : Bool :=
  match st with
  | .on => true
  | .pwm => true
  | .inrush => true
  | .limp => decide (cmdOp cmd ≠ 0)
  | _ => false

def State.chConducts (s : State) (u : Nat) : Bool := conducts (s.chSt u) (s.chan u).cmd

/-- The base entry index of channel u (R71). -/
def chanEntry (u : Nat) : Nat := if u < 48 then 0x400 + 16 * u else 0x800 + 16 * (u - 48)

/-- Frame boundaries reach die d (R24): its next one is announced, or not yet due. -/
def State.boundariesArrive (s : State) (d : Die) : Bool :=
  let l := s.link d
  !l.limp && (l.close.isSome || decide (s.dieNow d ≤ l.lastBoundary + s.period))

/-- The die is in limp (R25). -/
def State.inLimp (s : State) (d : Die) : Bool := (s.link d).limp

/-! ### Reports (R71) -/

/-- A unit entry is reported when its value differs from the one last sent, once in a tick (R53, R71). -/
def State.reportD (s : State) (d : Die) (idx : Nat) (v : Int) (stamp src : Nat) : State :=
  match s.lastSent idx with
  | some u =>
    if u.value = w64 v ∧ u.kind = .valid then s
    else if u.stamp = stamp then s.amendD d { u with value := w64 v, kind := .valid, src := src }
    else s.unitD d idx v stamp src
  | none => s.unitD d idx v stamp src

/-- Content of the STATE entry (R71). -/
def State.chanStateValue (s : State) (u : Nat) : Nat :=
  s.rd (Reg.CH_STAT.STATE u) + 16 * s.rd (Reg.CH_STAT.EMBER u) + 32 * s.rd (Reg.CH_STAT.TRIPPED u)
    + 64 * s.rd (Reg.CH_STAT.WHOLD u) + 128 * s.rd (Reg.CH_STAT.LIMPSRC u)

/-- The STATE and RETRY entries follow each change, stamped at it (R71). -/
def State.reportChan (s : State) (u t : Nat) : State :=
  (s.reportD (chanDie u) (chanEntry u + 1) (s.chanStateValue u) t (chanSrc u)).reportD (chanDie u) (chanEntry u + 6)
    (s.rd (Reg.CH_STAT.RETRYLEFT u)) t (chanSrc u)

/-! ### The switch and its pattern (R75, R99, R102) -/

/-- The PWM period in ticks (R75). -/
def pwmPeriod (freq : Nat) : Nat := roundDiv 200000000 freq

/-- The offset of the period starts (R75). -/
def pwmOffset (freq phase : Nat) : Nat := phase * (pwmPeriod freq / 16)

/-- Tick t is a period start of a grid (R75). -/
def pwmStarts (freq phase t : Nat) : Bool := decide (t % pwmPeriod freq = pwmOffset freq phase % pwmPeriod freq)

/-- The start of the period that tick t lies in (R75). -/
def pwmStartOf (freq phase t : Nat) : Nat :=
  t - (t + pwmPeriod freq - pwmOffset freq phase % pwmPeriod freq) % pwmPeriod freq

/-- The PWM grid in force at channel u at tick t (R75): that of the registers from its first period start at or after the boundary that changed it, and until then the one before. -/
def State.gridOf (s : State) (u t : Nat) : Nat × Nat :=
  let c := s.chan u
  let g := (s.rd (Reg.CH_PWM.FREQ u), s.rd (Reg.CH_PWM.PHASE u))
  if c.gridAt ≤ pwmStartOf g.1 g.2 t then g else (c.gridFreq, c.gridPhase)

/-- V_c at die d (R102, R106): V_f of the latest window, or the frozen value while a droop freeze is in force. -/
def State.vc (s : State) (d : Die) (t : Nat) : Nat :=
  let a := s.ana d
  if a.freezeEnd ≠ 0 ∧ t < a.freezeEnd then a.frozen else a.vf

/-- DUTY after supply compensation (R101, R102); with V_c = 0 the quotient is without bound and the limit of 4,095 holds. -/
def compDuty (duty vref vc : Nat) : Nat :=
  if duty = 0 then 0 else if vc = 0 then 4095 else min 4095 (duty * vref ^ 2 / vc ^ 2)

/-- D of channel u for a period that starts at t (R102). -/
def State.chanD (s : State) (u t : Nat) : Nat :=
  let duty := cmdDuty (s.chan u).cmd
  if s.flag (Reg.CH_CFG.COMPEN u) then compDuty duty (s.rd Reg.HSW_COMPREF.VREF) (s.vc (chanDie u) t) else duty

/-- The soft-start ramp of channel u is running at t (R99). -/
def State.rampOn (s : State) (u t : Nat) : Bool :=
  let c := s.chan u
  decide (s.chSt u = .inrush) && decide (c.winSoft ≥ 1) && decide (c.tOn ≤ t) && decide (t < c.tOn + c.winSoft * 20000)

/-- On-time of carrier period j of a ramp of S periods (R99). -/
def carrierOn (j d S : Nat) : Nat := 20000 * (j + 1) * d / ((S + 1) * 4096)

/-- D′ of the ramp (R99): 4,096 for ON, the compensated duty for PWM. -/
def State.rampD (s : State) (u t : Nat) : Nat := if cmdOp (s.chan u).cmd = 2 then s.chanD u t else 4096

/-- From tick t on channel u uses the PWM period that t lies in on the grid in force, with the duty of tick t (R75, R102). -/
def State.takePattern (s : State) (u t : Nat) : State :=
  let g := s.gridOf u t
  s.setChan u { s.chan u with perStart := pwmStartOf g.1 g.2 t, perLen := pwmPeriod g.1, d := s.chanD u t }

/-- The carrier period of the soft-start ramp that tick t lies in, with D′ of tick t (R99).  It keeps that D′ to its end, also where the applied command changes within it (DESIGN CHOICE, log entry 17). -/
def State.takeCarrier (s : State) (u t : Nat) : State :=
  let c := s.chan u
  s.setChan u { c with carStart := c.tOn + (t - c.tOn) / 20000 * 20000, carD := s.rampD u t }

/-- The switch of channel u as its state, command, ramp and hold-off have it at tick t: on until the second number (0 without end). -/
def State.gateWant (s : State) (u t : Nat) : Bool × Nat :=
  let c := s.chan u
  let upTo := fun (e : Nat) => (decide (t < e), if t < e then e else 0)
  if !s.chConducts u || c.heldOff then (false, 0)
  else if s.rampOn u t then upTo (c.carStart + carrierOn ((c.carStart - c.tOn) / 20000) c.carD c.winSoft)
  else if cmdOp c.cmd = 2 then upTo (c.perStart + c.perLen * c.d / 4096)
  else (true, 0)

/-- The switch takes the position its state wants at tick t; a turn-on edge takes that tick (R73, R75, R81). -/
def State.gate (s : State) (u t : Nat) : State :=
  let c := s.chan u
  let g := s.gateWant u t
  s.setChan u { c with on := g.1, onUntil := g.2, edge := if g.1 ∧ !c.on then t else c.edge }

/-- Channel u enters a state at tick t: conduction time, OFF time and the open-load test follow (R85, R110, R111), a channel that begins to conduct takes its PWM pattern (R75), the switch takes its position, and the entries report (R71). -/
def State.enter (s : State) (u : Nat) (st : ChanSt) (t : Nat) : State :=
  let was := s.chConducts u
  let old := s.chSt u
  let c := s.chan u
  let now := conducts st c.cmd
  let c1 := { c with condSince := if now then (if was then c.condSince else some t) else none,
                     offSince := if st = .off ∧ old ≠ .off then t else c.offSince,
                     olStart := if st = .off then c.olStart else none,
                     ovlRun := if now then c.ovlRun else 0 }
  let s1 := (s.setChan u c1).wr (Reg.CH_STAT.STATE u) st.code
  ((if now && !was then s1.takePattern u t else s1).gate u t).reportChan u t

/-- The state of a conducting or OFF channel that follows its applied command (R76): LIMP while the die is in limp. -/
def State.appliedSt (s : State) (u : Nat) : ChanSt :=
  if s.inLimp (chanDie u) then .limp
  else match cmdOp (s.chan u).cmd with
    | 0 => .off
    | 1 => .on
    | _ => .pwm

/-! ### Turn-on, trips and the decision after a trip (R77, R84) -/

/-- Entry into LOCKED_OFF: `CAUSE.LOCK`, a further fault and event (R77). -/
def State.lockOff (s : State) (u t : Nat) : State :=
  ((s.raiseFlag (Reg.CH_CAUSE.LOCK u)).enter u .lockedOff t).faultD (chanDie u) (chanSrc u) 0x06 t (2 ^ 5)

/-- A new inrush window opens at t with the values of the registers and its first carrier period (R97 to R99). -/
def State.openWindow (s : State) (u t : Nat) : State :=
  let c := s.chan u
  let e := t + s.rd (Reg.CH_INRUSH.TWIN u) * 200000
  (s.setChan u { c with tOn := t, winEnd := e, winOrig := e, winIlim := s.rd (Reg.CH_INRUSH.ILIM u),
                        winSoft := s.rd (Reg.CH_INRUSH.SOFT u), winExtended := false, winSusp := 0 }).takeCarrier u t

/-- Conduction begins: INRUSH for a lamp, else the applied command (R84, R97).  During a hold-off the hold-off counts from here (R438). -/
def State.conduct (s : State) (u t : Nat) : State :=
  let c := s.chan u
  let s1 := if c.heldOff then s.setChan u { c with heldSince := t } else s
  if s.flag (Reg.CH_CFG.LAMP u) then (s1.openWindow u t).enter u .inrush t else s1.enter u (s1.appliedSt u) t

/-- turn_on of R84: the ember latch, then the wick hold, then the retry count decide.  `CAUSE.RETRY` is set at every counted turn-on, a commanded one too (DESIGN CHOICE, log entry 18). -/
def State.turnOn (s : State) (u t : Nat) : State :=
  if s.flag (Reg.CH_STAT.EMBER u) then s.enter u .ember t
  else if s.flag (Reg.CH_STAT.WHOLD u) then s.enter u .retryWait t
  else if s.flag (Reg.CH_STAT.TRIPPED u) then
    if s.rd (Reg.CH_STAT.RETRYLEFT u) = 0 then s.lockOff u t
    else (((s.wr (Reg.CH_STAT.RETRYLEFT u) (s.rd (Reg.CH_STAT.RETRYLEFT u) - 1)).count (Reg.CH_CNT.RETRIES u) 1).raiseFlag
      (Reg.CH_CAUSE.RETRY u)).conduct u t
  else s.conduct u t

/-- decide of R84. -/
def State.decideTrip (s : State) (u t : Nat) : State :=
  if cmdOp (s.chan u).cmd = 0 then s.enter u (if s.inLimp (chanDie u) then .limp else .off) t
  else if s.flag (Reg.CH_STAT.EMBER u) then s.enter u .ember t
  else if s.rd (Reg.CH_STAT.RETRYLEFT u) = 0 then s.lockOff u t
  else s.enter u .retryWait t

/-- The cause bits of `HSW_CAUSE` (R93). -/
abbrev Cause.short : Nat := 0
abbrev Cause.ovl : Nat := 1
abbrev Cause.vds : Nat := 2
abbrev Cause.ember : Nat := 3
abbrev Cause.wick : Nat := 4

/-- A cause bit of channel u is set. -/
def State.setCause (s : State) (u c : Nat) : State := s.raiseFlag ⟨(Reg.CH_CAUSE.SHORT u).off, c, 1⟩

/-- The lowest of the five trip causes of a bit set: its raise is the one of the trip (R77). -/
def lowCause (m : Nat) : Nat := ((List.range 5).find? (bitOf m)).getD 0

/-- The overload filter of channel u is full (R80). -/
def State.overloaded (s : State) (u : Nat) : Bool :=
  decide (s.rd (Reg.CH_OC.TOVL u) * 10 ≤ (s.chan u).ovlRun) && decide ((s.chan u).ovlRun ≠ 0)

/-- The causes detected at tick t with cause c: an overload run that is full at t belongs to them (R77). -/
def State.causesAt (s : State) (u c t : Nat) : Nat :=
  if c ≠ Cause.ovl ∧ s.overloaded u = true ∧ (s.chan u).ovlStamp = t then 2 ^ c + 2 ^ Cause.ovl else 2 ^ c

/-- After the causes `m` of a trip: a snuff cause enters SNUFFED, else the decision is taken (R77, R84). -/
def State.tripState (s : State) (u m t : Nat) : State := if m % 8 ≠ 0 then s.enter u .snuffed t else s.decideTrip u t

/-- A trip of channel u with cause bit c and stamp t (R77, R84): the causes of the tick, stamp, count, one raise and one event, TRIPPED, and the state that follows. -/
def State.trip (s : State) (u c t : Nat) : State :=
  let m := s.causesAt u c t
  let s0 := s.setChan u { s.chan u with causes := m, wasOn := (s.chan u).on, lockWas := s.flag (Reg.CH_CAUSE.LOCK u) }
  let s1 := (((s0.raiseBits (Reg.CH_CAUSE.SHORT u).off (BitVec.ofNat 32 m)).wr64 (Reg.CH_TRIPT.T u) t).count (Reg.CH_CNT.TRIPS u) 1).wr
    (Reg.CH_STAT.TRIPPED u) 1
  let s2 := s1.faultD (chanDie u) (chanSrc u) (lowCause m + 1) t m
  (s2.unitD (chanDie u) (chanEntry u + 7) (m : Nat) t (chanSrc u)).tripState u m t

/-- Channel u has tripped at tick t. -/
def State.trippedAt (s : State) (u t : Nat) : Bool := decide ((s.chan u).causes ≠ 0) && decide (s.rd64 (Reg.CH_TRIPT.T u) = t)

/-- The raise and the event of kind `old` that unit `src` of die d made at tick t, while they wait, take kind `new` and the cause bits `m`. -/
def State.amendTrip (s : State) (d : Die) (src old new m t : Nat) : State :=
  let l := s.link d
  let s1 := s.setLink d { l with up := l.up.map (fun x => match x with
    | .raise r => if r.src = src ∧ r.kind = old ∧ r.stamp = t then .raise { r with kind := new } else x
    | _ => x) }
  { s1 with evr := { s1.evr with queue := s1.evr.queue.map (fun e =>
    if e.code = raiseCode src old ∧ e.p1 = src ∧ e.tick = t then { e with code := raiseCode src new, p2 := m } else e) } }

/-- An entry into LOCKED_OFF of tick t, which a further cause of the tick makes void: `CAUSE.LOCK` as it was, its raise and its event withdrawn. -/
def State.unlock (s : State) (u t : Nat) : State :=
  if s.chSt u ≠ .lockedOff then s
  else
    let d := chanDie u
    let l := s.link d
    let s1 := (s.wr (Reg.CH_CAUSE.LOCK u) (b2n (s.chan u).lockWas)).setLink d { l with up := l.up.filter (fun x =>
      decide (x ≠ .raise { src := chanSrc u, kind := 0x06, stamp := t })) }
    { s1 with evr := { s1.evr with queue := s1.evr.queue.filter (fun e =>
      !(decide (e.code = raiseCode (chanSrc u) 0x06) && decide (e.p1 = chanSrc u) && decide (e.tick = t))) } }

/-- The cause bits of the trip with a further cause, which `HSW_CAUSE` and the CAUSE entry show (R77). -/
def State.noteCause (s : State) (u c t : Nat) : State :=
  let m := setBitOf (s.chan u).causes c
  ((s.setCause u c).setChan u { s.chan u with causes := m }).reportD (chanDie u) (chanEntry u + 7) (m : Nat) t (chanSrc u)

/-- A further cause of a trip of the same tick (R77): the causes are those of one trip, with one raise, one event and one decision. -/
def State.addCause (s : State) (u c t : Nat) : State :=
  let old := (s.chan u).causes
  if bitOf old c then s
  else
    let m := setBitOf old c
    let s1 := (s.noteCause u c t).amendTrip (chanDie u) (chanSrc u) (lowCause old + 1) (lowCause m + 1) m t
    if old % 8 ≠ 0 then s1.reportChan u t else (s1.unlock u t).tripState u m t

/-- A protective cause of channel u at tick t (R77): a trip, or a further cause of one. -/
def State.protect (s : State) (u c t : Nat) : State := if s.trippedAt u t then s.addCause u c t else s.trip u c t

/-- Channel u conducts at tick t, or did until its trip of that tick. -/
def State.protects (s : State) (u t : Nat) : Bool := s.chConducts u || s.trippedAt u t

/-- The retry delay has run from the trip stamp (R84). -/
def State.delayElapsed (s : State) (u t : Nat) : Bool :=
  decide (s.rd64 (Reg.CH_TRIPT.T u) + s.rd (Reg.CH_RETRY.DELAY u) * 200000 ≤ t)

/-! ### The trip commands (R79 to R81) -/

/-- The short comparator of channel u asserts at current `cur` mA (R79, R82). -/
def State.shortAsserts (s : State) (u cur : Nat) : Bool :=
  decide ((cur : Int) * 1000 > (s.rd (Reg.CH_OC.ISHORT u) : Int) * 250 * (1000 + clampInt (-80) 80 (Config.shortError u)))

/-- SHORT_COMPARATOR_TRIP (R79): active while the channel conducts. -/
def State.shortTrip (s : State) (u cur : Nat) : State :=
  let t := s.chNow u
  if s.chEnabled u && s.protects u t && s.shortAsserts u cur then s.protect u Cause.short t else s

def execShortComparatorTrip (u cur : Nat) (s : State) : Res := .next (s.shortTrip u cur)

/-- OVERLOAD_TRIP (R80): `TOVL` × 10 consecutive samples exceed the limit; the stamp is that of the last such sample. -/
def State.overloadTrip (s : State) (u : Nat) : State :=
  if s.chEnabled u && s.chConducts u && s.overloaded u then s.protect u Cause.ovl (s.chan u).ovlStamp else s

def execOverloadTrip (u : Nat) (s : State) : Res := .next (s.overloadTrip u)

/-- A drain-source voltage exceeds the threshold of `th` mV of comparator k (R81, R465). -/
def vdsExceeds (th k vds : Nat) : Bool :=
  let e : Int := th / 10 + 30
  decide ((th : Int) + clampInt (-e) e (Config.vdsError k) < vds)

/-- VDS_TRIP (R81): after the blanking of the last gate-on edge, while the gate is on, the drain-source voltage `vds` mV exceeds VDSTH. -/
def State.vdsTrip (s : State) (u vds : Nat) : State :=
  let c := s.chan u
  let n := u - 48
  let t := s.chNow u
  let on := if s.trippedAt u t then c.wasOn else c.on
  if decide (48 ≤ u) && s.chEnabled u && s.protects u t && on
      && decide (c.edge + s.rd (Reg.PDRV_SENSE.VDSBLK n) * 20 ≤ t) && vdsExceeds (s.rd (Reg.PDRV_SENSE.VDSTH n) * 20) u vds then
    s.protect u Cause.vds t
  else s

def execVdsTrip (u vds : Nat) (s : State) : Res := .next (s.vdsTrip u vds)

/-! ### Ember, snuff end, retry, refill (R83 to R85) -/

/-- The ember set threshold of a unit (R82 TEMB_SET), 1/16 °C. -/
def emberSetAt (k : EmberUnit) : Int := clampInt (170 * 16) (180 * 16) (Config.emberSetTj k)

/-- The ember release threshold of a unit (R82 TEMB_REL), 1/16 °C. -/
def emberRelAt (k : EmberUnit) : Int := clampInt (150 * 16) (160 * 16) (Config.emberRelTj k)

/-- The ember latch of channel u sets (R83): the junction at TEMB_SET, or with TSEN the TS voltage at or below SETV. -/
def State.chanEmberSets (s : State) (u : Nat) (tj : Int) (ts : Nat) : Bool :=
  decide (emberSetAt (.chan u) ≤ tj) ||
    (decide (48 ≤ u) && s.flag (Reg.PDRV_CFG.TSEN (u - 48)) && decide (ts ≤ s.rd (Reg.PDRV_TS.SETV (u - 48))))

/-- EMBER_SET of a channel (R77, R83, R84): a conducting channel trips, one in SNUFFED records the cause, one in RETRY_WAIT enters EMBER.  The latch of a channel with `ENABLE` = 0 neither sets nor releases (DESIGN CHOICE, log entry 19). -/
def State.chanEmberSet (s : State) (u : Nat) (tj : Int) (ts : Nat) : State :=
  let t := s.chNow u
  if s.chEnabled u && !s.flag (Reg.CH_STAT.EMBER u) && s.chanEmberSets u tj ts then
    let s1 := (s.wr (Reg.CH_STAT.EMBER u) 1).setChan u { s.chan u with emberAt := some t }
    if s.protects u t then s1.protect u Cause.ember t
    else match s.chSt u with
      | .snuffed => (s1.noteCause u Cause.ember t).reportChan u t
      | .retryWait => s1.enter u .ember t
      | _ => s1.reportChan u t
  else s

/-- The release conditions of R83. -/
def State.chanEmberReleases (s : State) (u : Nat) (tj : Int) (ts : Nat) : Bool :=
  (match (s.chan u).emberAt with
   | some e => decide (e + 200000 ≤ s.chNow u)
   | none => false) && decide (tj ≤ emberRelAt (.chan u)) &&
    (!(decide (48 ≤ u) && s.flag (Reg.PDRV_CFG.TSEN (u - 48))) || decide (s.rd (Reg.PDRV_TS.RELV (u - 48)) ≤ ts))

/-- EMBER_RELEASE of a channel (R83, R84). -/
def State.chanEmberRelease (s : State) (u : Nat) (tj : Int) (ts : Nat) : State :=
  let t := s.chNow u
  if s.chEnabled u && s.flag (Reg.CH_STAT.EMBER u) && s.chanEmberReleases u tj ts then
    let s1 := (s.wr (Reg.CH_STAT.EMBER u) 0).setChan u { s.chan u with emberAt := none }
    match s.chSt u with
    | .ember => if s.flag (Reg.CH_STAT.WHOLD u) || !s.delayElapsed u t then s1.enter u .retryWait t else s1.turnOn u t
    | _ => s1.reportChan u t
  else s

/-- SNUFF_END (R76, R84): 10,000 ticks after the trip stamp the decision is taken. -/
def State.snuffEnd (s : State) (u : Nat) : State :=
  let e := s.rd64 (Reg.CH_TRIPT.T u) + 10000
  if s.chEnabled u && decide (s.chSt u = .snuffed) && decide (e ≤ s.chNow u) then s.decideTrip u e else s

def execSnuffEnd (u : Nat) (s : State) : Res := .next (s.snuffEnd u)

/-- RETRY_DUE (R84): in RETRY_WAIT with the delay elapsed and WHOLD clear the channel turns on. -/
def State.retryDue (s : State) (u : Nat) : State :=
  if s.chEnabled u && decide (s.chSt u = .retryWait) && s.delayElapsed u (s.chNow u) && !s.flag (Reg.CH_STAT.WHOLD u) then
    s.turnOn u (s.chNow u)
  else s

def execRetryDue (u : Nat) (s : State) : Res := .next (s.retryDue u)

/-- RETRY_REFILL (R85): after `REFILL` × 100 ms of conduction without a trip, RETRYLEFT = MAX and TRIPPED = 0. -/
def State.retryRefill (s : State) (u : Nat) : State :=
  match (s.chan u).condSince with
  | some c =>
    let e := c + s.rd (Reg.CH_RETRY.REFILL u) * 20000000
    if s.chEnabled u && s.chConducts u && decide (e ≤ s.chNow u) then
      (((s.wr (Reg.CH_STAT.RETRYLEFT u) (s.rd (Reg.CH_RETRY.MAX u))).wr (Reg.CH_STAT.TRIPPED u) 0).setChan u
        { s.chan u with condSince := some e }).reportChan u e
    else s
  | none => s

def execRetryRefill (u : Nat) (s : State) : Res := .next (s.retryRefill u)

/-! ### Commands (R73, R74, R84, R91) and the firmware clear (R86) -/

/-- `HSW_STAT.OP` shows the OP of the applied command. -/
def State.setCmd (s : State) (u w : Nat) : State :=
  (s.setChan u { s.chan u with cmd := w }).wr (Reg.CH_STAT.OP u) (cmdOp w)

/-- A conducting channel follows its applied command, which was `old`, from tick t on (R75, R98): a change between ON and PWM takes its pattern at once, a changed DUTY waits for the next period start. -/
def State.followCmd (s : State) (u t old : Nat) : State :=
  (if cmdOp old ≠ cmdOp (s.chan u).cmd then s.takePattern u t else s).enter u (if s.chSt u = .inrush then .inrush else s.appliedSt u) t

/-- Channel u acts at tick t on its applied command, which was `old`, as its state allows (R76, R77, R84, R98).  The limp state OFF moves EMBER and RETRY_WAIT to LIMP as an applied OFF moves them to OFF (DESIGN CHOICE, log entry 20). -/
def State.actOnCmd (s : State) (u t old : Nat) : State :=
  let op := cmdOp (s.chan u).cmd
  match s.chSt u with
  | .snuffed => s.reportChan u t
  | .lockedOff => s.reportChan u t
  | .ember => if op = 0 then s.enter u (s.appliedSt u) t else s.reportChan u t
  | .retryWait => if op = 0 then s.enter u (s.appliedSt u) t else s.reportChan u t
  | st =>
    if op = 0 then s.enter u (s.appliedSt u) t
    else if conducts st old then s.followCmd u t old
    else s.turnOn u t

/-- A command word is applied to channel u at boundary tick t (R73, R74, R84): an invalid word keeps the applied command, sets INVCMD and raises. -/
def State.applyChan (s : State) (u w t : Nat) : State :=
  if !s.chEnabled u then s
  else if cmdInvalid w then ((s.raiseFlag (Reg.CH_CAUSE.INVCMD u)).raiseD (chanDie u) (chanSrc u) 0x07 t)
  else ((s.setCmd u w).wr (Reg.CH_STAT.LIMPSRC u) 0).actOnCmd u t (s.chan u).cmd

/-- The firmware clear of channel u at boundary tick t (R86): RETRYLEFT = MAX, TRIPPED = 0, LOCKED_OFF moves to OFF and takes its applied command through turn-on; an event is recorded. -/
def State.clearChan (s : State) (u t : Nat) : State :=
  let s1 := (s.wr (Reg.CH_STAT.RETRYLEFT u) (s.rd (Reg.CH_RETRY.MAX u))).wr (Reg.CH_STAT.TRIPPED u) 0
  let s2 := s1.event (chanSrc u / 256 * 256 + 0x81) t (chanSrc u)
  if s.chSt u = .lockedOff then (s2.enter u .off t).actOnCmd u t 0 else s2.reportChan u t

/-- A clear is requested: the die acts on it at the first boundary it reaches (R86). -/
def State.requestChanClear (s : State) (u : Nat) (tag : Option Nat) : State :=
  let c := s.chan u
  s.setChan u { c with clear := true, clearTags := c.clearTags ++ tag.toList }

/-- The limp state of channel u at tick t (R25, R76, R91): HOLD keeps the applied command, OFF and ON replace it. -/
def State.limpChan (s : State) (u t : Nat) : State :=
  ((match s.rd (Reg.CH_CFG.LIMP u) with
    | 1 => s.setCmd u 0
    | 2 => s.setCmd u 1
    | _ => s).wr (Reg.CH_STAT.LIMPSRC u) 1).actOnCmd u t (s.chan u).cmd

/-- Leaving limp at a boundary (R26, R91): the state code leaves LIMP, the applied command stays the limp state. -/
def State.unlimpChan (s : State) (u t : Nat) : State :=
  if s.chSt u = .limp then s.enter u (s.appliedSt u) t else s

/-! ### Start, commit (R92) -/

/-- A channel starts in OFF with RETRYLEFT = MAX, TRIPPED = 0, HSW_CNT = 0, flags clear and the wick node at TAMB (R90, R92, R112). -/
def State.startChan (s : State) (u t : Nat) : State :=
  let s1 := s.setChan u { offSince := t, tc := signedOf 8 (s.rd (Reg.HSW_BGB.TAMB (s.rd (Reg.CH_CFG.BGRP u)))) }
  let s2 := (s1.setWord (Reg.CH_STAT.STATE u).off 0#32).wr (Reg.CH_STAT.RETRYLEFT u) (s.rd (Reg.CH_RETRY.MAX u))
  (s2.setWord (Reg.CH_CNT.TRIPS u).off 0#32).reportChan u t

end Sys2Proof.Machine
end

