-- ==== Sys2Proof/Machine/Lamp.lean ====
section
/-! DEFINITION. What the power dies do with time and samples for their channels: PWM periods and the soft-start carrier (R75, R99), sensing windows (R78), the wick model and its bundle nodes (R87 to R90), inrush windows (R97), supply droops (R104 to R108), and the open-load test (R110 to R113). -/

namespace Sys2Proof.Machine

/-! ### PWM and soft start (R75, R99) -/

/-- PWM_PERIOD_START of a channel (R75, R102): on its grid the period takes its compensated duty and turns on; in a soft-start ramp the output keeps the carrier (R99). -/
def State.chanPeriodStart (s : State) (u : Nat) : State :=
  let t := s.chNow u
  let g := s.gridOf u t
  if s.chEnabled u && s.chConducts u && decide (cmdOp (s.chan u).cmd = 2) && pwmStarts g.1 g.2 t then (s.takePattern u t).gate u t
  else s

/-- PWM_ON_TIME_END of a channel (R75, R99). -/
def State.chanOnTimeEnd (s : State) (u : Nat) : State :=
  let c := s.chan u
  if c.on && decide (c.onUntil ≠ 0) && decide (c.onUntil ≤ s.chNow u) then s.setChan u { c with on := false, onUntil := 0 } else s

/-- SOFT_START_CARRIER (R99): carrier period j starts at T_on + j × 20,000; at the end of the ramp the output follows the applied command. -/
def State.softStartCarrier (s : State) (u : Nat) : State :=
  let t := s.chNow u
  let c := s.chan u
  if s.chEnabled u && decide (s.chSt u = .inrush) && decide (1 ≤ c.winSoft) && decide (c.tOn ≤ t)
      && decide ((t - c.tOn) % 20000 = 0) && decide ((t - c.tOn) / 20000 ≤ c.winSoft) then
    (if s.rampOn u t then s.takeCarrier u t else s).gate u t
  else s

def execSoftStartCarrier (u : Nat) (s : State) : Res := .next (s.softStartCarrier u)

/-- INRUSH_WINDOW_END (R97, R98, R107): the channel enters the state of its applied command. -/
def State.inrushWindowEnd (s : State) (u : Nat) : State :=
  let c := s.chan u
  if s.chEnabled u && decide (s.chSt u = .inrush) && decide (c.winSusp = 0) && decide (c.winEnd ≤ s.chNow u) then
    s.enter u (s.appliedSt u) c.winEnd
  else s

def execInrushWindowEnd (u : Nat) (s : State) : Res := .next (s.inrushWindowEnd u)

/-! ### Samples of a channel (R78, R80, R87, R110) -/

/-- The overload limit in mA (R80, R98): IOVL, or the window's ILIM in INRUSH. -/
def State.overLimit (s : State) (u : Nat) : Nat :=
  if s.chSt u = .inrush then (s.chan u).winIlim * 50 else s.rd (Reg.CH_OC.IOVL u) * 50

/-- The full scale of the current digitizer of channel u in mA (R69, R78): that of its class, or the shunt full scale across RSH. -/
def State.fullScale (s : State) (u : Nat) : Nat :=
  if u < 8 then 32000 else if u < 24 then 16000 else if u < 48 then 6000
  else (if s.flag (Reg.PDRV_SENSE.GAIN (u - 48)) then 50 else 200) * 100000 / s.rd (Reg.PDRV_SENSE.RSH (u - 48))

/-- One sample of channel u at tick t, at 12 bits: the window and wick sums, the overload run (not in off-time or hold-off), and the open-load means. -/
def State.chanSample (s : State) (t : Nat) (x : ChanSample) : State :=
  let u := x.u
  if !s.chEnabled u then s
  else
    let c := s.chan u
    let cur := adc12 (s.fullScale u) x.cur
    let vout := (adc12 45000 x.vout).toNat
    let run := if s.chConducts u && c.on then (if cur > (s.overLimit u : Int) then c.ovlRun + 1 else 0) else c.ovlRun
    let inV1 := match c.olStart with
      | some b => decide (b ≤ t) && decide (t < b + 20000)
      | none => false
    let inV2 := match c.olStart with
      | some b => decide (b + 220000 ≤ t) && decide (t < b + 240000)
      | none => false
    s.setChan u { c with
      nSamp := c.nSamp + 1, sumCur := c.sumCur + cur, sumVout := c.sumVout + vout,
      winSq := c.winSq + (if c.heldOff then 0 else cur.natAbs ^ 2),
      ovlRun := run, ovlStamp := if run = s.rd (Reg.CH_OC.TOVL u) * 10 ∧ c.ovlRun ≠ run then t else c.ovlStamp,
      olN1 := if inV1 then c.olN1 + 1 else c.olN1, olS1 := if inV1 then c.olS1 + vout else c.olS1,
      olN2 := if inV2 then c.olN2 + 1 else c.olN2, olS2 := if inV2 then c.olS2 + vout else c.olS2 }

/-- The end of a sensing window of channel u at tick w: the means go to `MEAS0` and, every FBDIV windows, to the ledger, and the sum of squares to the wick step (R71, R78). -/
def State.chanWindow (s : State) (u w : Nat) : State :=
  let c := s.chan u
  if c.nSamp = 0 then s
  else
    let cur := c.sumCur / (c.nSamp : Int)
    let vout := c.sumVout / c.nSamp
    let s1 := ((s.setChan u { c with nSamp := 0, sumCur := 0, sumVout := 0, winSq := 0, nSq := c.nSq + c.nSamp, sumSq := c.sumSq + c.winSq }).wr (Reg.CH_MEAS0.CUR u) (fieldOfInt 16 (cur / 2))).wr
      (Reg.CH_MEAS0.VOUT u) vout
    let fb := s.rd (Reg.CH_CFG.FBDIV u)
    if fb ≠ 0 ∧ w / 10000 % fb = 0 then
      (s1.unitD (chanDie u) (chanEntry u + 2) cur w (chanSrc u)).unitD (chanDie u) (chanEntry u + 3) (vout : Nat) w (chanSrc u)
    else s1

/-! ### The wick model (R87 to R89) -/

/-- A bundle node as die d holds it (R88). -/
def State.tbOf (s : State) (d : Die) (g : Nat) : Rat := SMap.get (fun _ => 0) (s.ana d).tb g

/-- A node in 1/256 K as the device computes it: the exact value, with a deviation of at most 0.1 K (R87). -/
def node256 (x : Rat) (dev : Int) : Int := (x * 256).floor + clampInt (-24) 24 dev

/-- ρ(Tc) in Ω/m (R87). -/
def wickRho (rpm : Nat) (tc : Rat) : Rat := (rpm : Rat) / 10000 * (1 + 393 / 100000 * (tc - 20))

/-- q(k) in W/m, conductor to bundle (R87). -/
def wickQ (rcb : Nat) (tc tb : Rat) : Rat := (tc - tb) / ((rcb : Rat) / 100)

/-- tc(k+1) (R87); dt is 100 µs. -/
def wickTc (rpm cpm : Nat) (isq q tc : Rat) : Rat := tc + (isq * wickRho rpm tc - q) * (1 / 10000) / ((cpm : Rat) / 100)

/-- tb(k+1) (R87). -/
def wickTb (cb rba : Nat) (ta sum tb : Rat) : Rat := tb + (sum - (tb - ta) / ((rba : Rat) / 100)) * (1 / 10000) / ((cb : Rat) / 10)

/-- Channel u is in the wick model. -/
def State.wickIn (s : State) (u : Nat) : Bool := s.chEnabled u && s.flag (Reg.CH_CFG.WICKEN u)

/-- q(k) of channel u with its bundle node. -/
def State.chanQ (s : State) (u : Nat) : Rat :=
  wickQ (s.rd (Reg.CH_WICK1.RCB u)) (s.chan u).tc (s.tbOf (chanDie u) (s.rd (Reg.CH_CFG.BGRP u)))

/-- The die's sums of q(k), one for each group (R88). -/
def State.dieSums (s : State) (d : Die) : List Rat :=
  (List.range 16).map (fun g =>
    ((chansOf d).filter (fun u => s.wickIn u && decide (s.rd (Reg.CH_CFG.BGRP u) = g))).foldl (fun a u => a + s.chanQ u) 0)

/-- The limits at the end of a step (R89): WHOLD, WWARN, and the trip of a conducting channel; a step that ends above `TLIM` − `THYST` starts the refill time anew (R85). -/
def State.wickLimits (s : State) (u t : Nat) (n : Int) : State :=
  let lim : Int := s.rd (Reg.CH_WICK1.TLIM u) * 256
  let rel : Int := lim - s.rd (Reg.CH_WICK1.THYST u) * 256
  let c := s.chan u
  let s1 := (s.wr (Reg.CH_STAT.WWARN u) (b2n (decide (lim - 2560 ≤ n)))).setChan u
    { c with condSince := if n ≤ rel then c.condSince else c.condSince.map (fun _ => t) }
  if lim ≤ n then
    let s2 := s1.wr (Reg.CH_STAT.WHOLD u) 1
    if s.protects u t then s2.protect u Cause.wick t
    else if s.chSt u = .snuffed ∧ !s.flag (Reg.CH_STAT.WHOLD u) then (s2.noteCause u Cause.wick t).reportChan u t
    else s2.reportChan u t
  else if n ≤ rel then (s1.wr (Reg.CH_STAT.WHOLD u) 0).reportChan u t
  else s1

/-- One wick step of channel u at tick t, with the sums as they were before the step (R87). -/
def State.wickChan (s : State) (u t : Nat) : State :=
  let c := s.chan u
  let isq : Rat := if c.nSq = 0 then 0 else (c.sumSq : Rat) / (c.nSq : Rat) / 1000000
  let tc := wickTc (s.rd (Reg.CH_WICK0.RPM u)) (s.rd (Reg.CH_WICK0.CPM u)) isq (s.chanQ u) c.tc
  let n := node256 tc (Config.wickDev u (t / 20000))
  let s1 := (s.setChan u { c with tc := tc, nSq := 0, sumSq := 0 }).wr (Reg.CH_MEAS1.TC u) (fieldOfInt 16 (n / 16))
  s1.wickLimits u t n

/-- The bundle node of group g after the step, from both dies' sums (R87, R88). -/
def State.tbStep (s : State) (d : Die) (g : Nat) (own other : List Rat) : Rat :=
  wickTb (s.rd (Reg.HSW_BGA.CB g)) (s.rd (Reg.HSW_BGA.RBA g)) (signedOf 8 (s.rd (Reg.HSW_BGB.TAMB g)) : Int)
    (own.getD g 0 + other.getD g 0) (s.tbOf d g)

/-- Die d computes every bundle node in use and waits no longer; `HSW_BGB.TB` shows P0's copy in 1/16 °C (R88, R94). -/
def State.bundleCompute (s : State) (d : Die) (other : List Rat) : State :=
  let a := s.ana d
  let gs := (List.range 16).filter (fun g => s.groupActive g)
  let tb := gs.foldl (fun m g => SMap.set (fun _ => 0) m g (s.tbStep d g a.ownSums other)) a.tb
  let s1 := s.setAna d { a with tb := tb, wickWait := false, otherSums := other }
  if d = .p0 then
    gs.foldl (fun s g => s.wr (Reg.HSW_BGB.TB g)
      (fieldOfInt 16 (node256 (SMap.get (fun _ => 0) tb g) (Config.bundleDev g (a.wickTick / 20000)) / 16))) s1
  else s1

/-- The messages on their way to a power die. -/
def State.ppQueue (s : State) (d : Die) : List PpMsg := if d = .p0 then s.ppTo0 else s.ppTo1

def State.setPpQueue (s : State) (d : Die) (q : List PpMsg) : State := if d = .p0 then { s with ppTo0 := q } else { s with ppTo1 := q }

/-- A P0–P1 message that comes more than 400 ticks after its sending is late (R35). -/
def State.ppLate (s : State) (d : Die) (sent : Nat) : State :=
  if sent + 400 < s.dieNow d then (s.raiseFlag Reg.TIME_LINKERR.PP).raiseL 0x0E14 0x32 s.now else s

/-- At the first message in time after a loss each node is first set to the higher of the two copies (R88). -/
def State.bundleResume (s : State) (d : Die) (tbs : List Rat) : State :=
  let a := s.ana d
  let gs := List.range 16
  let differ := gs.any (fun g => decide (s.tbOf d g ≠ tbs.getD g (s.tbOf d g)))
  let tb := gs.foldl (fun m g => SMap.set (fun _ => 0) m g (max (s.tbOf d g) (tbs.getD g (s.tbOf d g)))) a.tb
  let s1 := s.setAna d { a with tb := tb, ppLost := false }
  if differ then s1.raiseFlag Reg.HSW_LINK.DIVERGE else s1

/-- The other die's sums for the step the die has taken are there (R88). -/
def State.bundleTake (s : State) (d : Die) (sums tbs : List Rat) : State :=
  (if (s.ana d).ppLost then s.bundleResume d tbs else s).bundleCompute d sums

/-- BUNDLE_NODE_MESSAGE (R88, R35): the other die's sums for the step arrive in time and the nodes advance; a message that comes before the die's own step waits for it; a late one only becomes the last received sums. -/
def State.bundleMessage (s : State) (d : Die) : State :=
  match s.ppQueue d with
  | .bundle k sums tbs sent :: q =>
    let s1 := (s.setPpQueue d q).ppLate d sent
    let a := s1.ana d
    if a.wickWait ∧ a.wickTick / 20000 = k ∧ s1.dieNow d ≤ a.wickTick + 1000 then s1.bundleTake d sums tbs
    else if a.wickTick / 20000 < k then s1.setAna d { a with early := some (k, sums, tbs) }
    else s1.setAna d { a with otherSums := sums }
  | _ => s

def execBundleNodeMessage (d : Die) (s : State) : Res := .next (if d = .v then s else s.bundleMessage d)

/-- BUNDLE_MESSAGE_TIMEOUT (R88): no message 1,000 ticks after the step; the last received sums are used and LOST sets. -/
def State.bundleTimeout (s : State) (d : Die) : State :=
  let a := s.ana d
  if decide (d ≠ .v) && a.wickWait && decide (a.wickTick + 1000 ≤ s.dieNow d) then
    ((s.setAna d { a with ppLost := true }).raiseFlag Reg.HSW_LINK.LOST).bundleCompute d a.otherSums
  else s

def execBundleMessageTimeout (d : Die) (s : State) : Res := .next (s.bundleTimeout d)

/-! ### Supply droops (R104 to R108) -/

/-- The channels of die d whose inrush window a droop may extend: in INRUSH and not extended before (R107). -/
def State.suspendable (s : State) (d : Die) (det : Nat) : List Nat :=
  (chansOf d).filter (fun u => decide (s.chSt u = .inrush) && !(s.chan u).winExtended && decide ((s.chan u).tOn ≤ det))

/-- Windows suspended by cause k end at their original end plus e, and now where that has passed (R107). -/
def State.extendWindows (s : State) (d : Die) (k e : Nat) : State :=
  (chansOf d).foldl (fun s u =>
    let c := s.chan u
    if c.winSusp = k then s.setChan u { c with winSusp := 0, winExtended := true, winEnd := max (c.winOrig + e) (s.dieNow d) } else s) s

/-- The affected channel of a droop (R108): the one in INRUSH with the highest CUR, ties to the lower identifier. -/
def State.affectedChan (s : State) (d : Die) : Nat :=
  let cur := fun u => signedOf 16 (s.rd (Reg.CH_MEAS0.CUR u))
  ((chansOf d).filter (fun u => decide (s.chSt u = .inrush))).foldl (fun (b : Nat) u =>
    if b = 0 ∨ cur u > cur (if b < 0x200 then b - 0x100 else b - 0x200 + 48) then chanSrc u else b) 0

/-- The cause channel of a droop, as the die finds it at the detection (R108): the trip stamp nearest the droop stamp, from 2,000 ticks before it to the detection. -/
def State.causeChan (s : State) (d : Die) (stamp det : Nat) : Nat :=
  let far := fun u => let t := s.rd64 (Reg.CH_TRIPT.T u); (max t stamp) - (min t stamp)
  let us := (chansOf d).filter (fun u => let t := s.rd64 (Reg.CH_TRIPT.T u); decide (t ≠ 0) && decide (stamp ≤ t + 2000) && decide (t ≤ det))
  us.foldl (fun (b : Nat) u => if b = 0 ∨ far u < far (if b < 0x200 then b - 0x100 else b - 0x200 + 48) then chanSrc u else b) 0

/-- The droop record (R108): count, stamp and one event with the cause channel, the affected channel, and duration with the lowest sample. -/
def State.droopRecord (s : State) (d : Die) (dur : Nat) : State :=
  let a := s.ana d
  let r := a.droop
  let us := min 65535 (dur / 200)
  ((((s.count Reg.HSW_DROOPCNT.N 1).wr64 Reg.HSW_DROOPT.T r.stamp).event 0x0180 r.stamp r.cause r.affected
    (us + r.low % 65536 * 65536))).setAna d { a with droop := { r with recorded := true } }

/-- The end notice goes to the other power die (R105). -/
def State.droopEndSend (s : State) (d : Die) (stamp e : Nat) : State :=
  let m := PpMsg.droopEnd stamp e (s.dieNow d)
  if d = .p0 then { s with ppTo1 := s.ppTo1 ++ [m] } else { s with ppTo0 := s.ppTo0 ++ [m] }

/-- The end of a droop that this die owns, at sample tick t (R105, R107, R108). -/
def State.droopEnd (s : State) (d : Die) (t : Nat) : State :=
  let r := (s.ana d).droop
  let dur := t - r.stamp
  let s1 := if r.owner && !r.capped then (s.extendWindows d 1 (min dur 1000000)).droopEndSend d r.stamp (min dur 1000000) else s
  let s2 := if r.owner && !r.recorded then s1.droopRecord d dur else s1
  s2.setAna d { s2.ana d with droop := {} }

/-- The value of V_c in use just before a droop stamp (R106): the frozen value of a freeze in force then, else V_f of the latest window that ended before it. -/
def vcBefore (a : DieAna) (stamp : Nat) : Nat :=
  if a.freezeEnd ≠ 0 ∧ a.freezeFrom < stamp ∧ stamp ≤ a.freezeEnd then a.frozen else if a.vfTick < stamp then a.vf else a.vfPrev

/-- One VBAT sample of a power die at tick t in units of 10 mV, as the droop rule sees it (R104): a run that ends below seven samples has no effect, and the window end it held up gives its V_ref′. -/
def State.droopSample (s : State) (d : Die) (v t : Nat) : State :=
  let a := s.ana d
  let r := a.droop
  if v + 150 < a.vref then
    let r1 : Droop := if r.run = 0 then { run := 1, stamp := t, low := v, vfAt := vcBefore a t } else { r with run := r.run + 1, low := min r.low v }
    s.setAna d { a with droop := r1, winDroop := a.winDroop || decide (7 ≤ r1.run), vrefNext := if 7 ≤ r1.run then none else a.vrefNext }
  else if r.run = 0 then s
  else if r.detected then s.droopEnd d t
  else s.setAna d { a with droop := {}, vref := a.vrefNext.getD a.vref, vrefNext := none }

/-- The freeze of V_c begins at tick `now`, or its end moves and it keeps its value where one is in force at the detection (R106). -/
def freezeOf (a : DieAna) (now value det : Nat) : DieAna :=
  if a.freezeEnd ≠ 0 ∧ det < a.freezeEnd then { a with freezeEnd := max a.freezeEnd (det + 400000) }
  else { a with frozen := value, freezeFrom := now, freezeEnd := det + 400000 }

/-- Two droop stamps name one droop (R105). -/
def sameDroop (a b : Nat) : Bool := decide (max a b - min a b ≤ 2000)

/-- A notice names the same droop as the die's own, and owns it (R105). -/
def noticeOwns (d : Die) (own stamp : Nat) : Bool :=
  sameDroop own stamp && (decide (stamp < own) || (decide (stamp = own) && decide (d = .p1)))

/-- A notice that came before the die's own detection owns the droop (R105). -/
def State.noticedFirst (s : State) (d : Die) : Bool :=
  match (s.ana d).noticed with
  | some st => noticeOwns d (s.ana d).droop.stamp st
  | none => false

/-- DROOP_DETECTED (R104 to R107): the seventh low sample in a row; the die freezes V_c, suspends its inrush windows, abandons open-load tests and sends a notice, acting as owner.  A detection that a notice already owns is discarded. -/
def State.droopDetected (s : State) (d : Die) : State :=
  let a := s.ana d
  let r := a.droop
  if decide (d = .v) || decide (r.run < 7) || r.detected then s
  else
    let det := r.stamp + 1200
    let s2 := (chansOf d).foldl (fun s u => s.setChan u { s.chan u with olStart := none }) s
    if s.noticedFirst d then s2.setAna d { a with droop := { r with detected := true, detTick := det } }
    else
      let s1 := ((s.suspendable d det).filter (fun u => decide ((s.chan u).winSusp = 0))).foldl (fun s u =>
        s.setChan u { s.chan u with winSusp := 1 }) s2
      let own := { r with detected := true, detTick := det, owner := true, cause := s.causeChan d r.stamp det, affected := s.affectedChan d }
      let s3 := s1.setAna d { freezeOf a (s.dieNow d) r.vfAt det with droop := own, ownLast := some r.stamp }
      let m := PpMsg.droop r.stamp det (s.dieNow d)
      if d = .p0 then { s3 with ppTo1 := s3.ppTo1 ++ [m] } else { s3 with ppTo0 := s3.ppTo0 ++ [m] }

def execDroopDetected (d : Die) (s : State) : Res := .next (s.droopDetected d)

/-- A window that the die suspended for its own droop, now superseded: kept for the new owner where it was in INRUSH at the new owner's detection tick, else released to its original end, and the channel leaves INRUSH at once where that has passed (R107). -/
def State.resuspend (s : State) (d : Die) (det : Nat) : State :=
  (chansOf d).foldl (fun s u =>
    let c := s.chan u
    if c.winSusp = 1 then
      if c.tOn ≤ det then s.setChan u { c with winSusp := 2 }
      else
        let s1 := s.setChan u { c with winSusp := 0 }
        if s.chSt u = .inrush ∧ c.winEnd ≤ s.dieNow d then s1.enter u (s1.appliedSt u) (s.dieNow d) else s1
    else s) s

/-- DROOP_NOTICE (R105 to R107): the same droop as the die's own, which keeps it or gives it up, or a droop of the other die. -/
def State.droopNotice (s : State) (d : Die) : State :=
  match s.ppQueue d with
  | .droop stamp det sent :: q =>
    let s1 := (s.setPpQueue d q).ppLate d sent
    let a := { s1.ana d with noticed := some stamp }
    let r := a.droop
    let same := match a.ownLast with
      | some own => sameDroop own stamp
      | none => false
    let mine := match a.ownLast with
      | some own => !noticeOwns d own stamp
      | none => false
    if same && mine then s1.setAna d a
    else if same && r.detected && r.owner then
      let v := vcBefore a stamp
      let a1 := { a with droop := { r with owner := false }, other := some (stamp, det), frozen := v,
                         freezeFrom := if a.freezeFrom < stamp then a.freezeFrom else s1.dieNow d, freezeEnd := det + 400000 }
      (s1.setAna d a1).resuspend d det
    else
      let s2 := (s1.suspendable d det).foldl (fun s u => if (s.chan u).winSusp = 0 then s.setChan u { s.chan u with winSusp := 2 } else s) s1
      s2.setAna d { freezeOf a (s1.dieNow d) (vcBefore a stamp) det with other := some (stamp, det) }
  | _ => s

def execDroopNotice (d : Die) (s : State) : Res := .next (if d = .v then s else s.droopNotice d)

/-- DROOP_END_NOTICE (R105, R107). -/
def State.droopEndNotice (s : State) (d : Die) : State :=
  match s.ppQueue d with
  | .droopEnd stamp e sent :: q =>
    let s1 := (s.setPpQueue d q).ppLate d sent
    match (s1.ana d).other with
    | some (st, _) => if st = stamp then (s1.extendWindows d 2 e).setAna d { s1.ana d with other := none } else s1
    | none => s1
  | _ => s

def execDroopEndNotice (d : Die) (s : State) : Res := .next (if d = .v then s else s.droopEndNotice d)

/-- DROOP_CAP (R105, R107): at droop stamp + 1,000,000 ticks the new end is set with E = 1,000,000; the owner sends its end notice, the other die stops waiting for one. -/
def State.droopCap (s : State) (d : Die) : State :=
  let a := s.ana d
  let t := s.dieNow d
  let s1 := if a.droop.detected && a.droop.owner && !a.droop.capped && decide (a.droop.stamp + 1000000 ≤ t) then
      ((s.extendWindows d 1 1000000).droopEndSend d a.droop.stamp 1000000).setAna d { a with droop := { a.droop with capped := true } }
    else s
  match (s1.ana d).other with
  | some (st, _) => if st + 1000000 ≤ t then (s1.extendWindows d 2 1000000).setAna d { s1.ana d with other := none } else s1
  | none => s1

def execDroopCap (d : Die) (s : State) : Res := .next (s.droopCap d)

/-- DROOP_FREEZE_END (R106). -/
def State.droopFreezeEnd (s : State) (d : Die) : State :=
  let a := s.ana d
  if a.freezeEnd ≠ 0 ∧ a.freezeEnd ≤ s.dieNow d then s.setAna d { a with freezeEnd := 0 } else s

def execDroopFreezeEnd (d : Die) (s : State) : Res := .next (s.droopFreezeEnd d)

/-- DROOP_RECORD_LIMIT (R108): at droop stamp + 65,535 µs a droop that still runs is counted and recorded. -/
def State.droopRecordLimit (s : State) (d : Die) : State :=
  let r := (s.ana d).droop
  if r.detected && r.owner && !r.recorded && decide (r.stamp + 13107000 ≤ s.dieNow d) then s.droopRecord d 13107000 else s

def execDroopRecordLimit (d : Die) (s : State) : Res := .next (s.droopRecordLimit d)

/-! ### The off-state open-load test (R110 to R112) -/

/-- OPEN_LOAD_TEST_START (R110): at its interval tick, the channel in OFF for 2 ms, its die not in a droop, and the supply not in UV, GNDSHIFT or OV (R437). -/
def State.olTestStart (s : State) (u : Nat) : State :=
  let d := chanDie u
  let t := s.chNow u
  let per := s.rd (if u < 48 then Reg.HSW_OL.TPER u else Reg.PDRV_OL.TPER (u - 48)) * 2000000
  let c := s.chan u
  let sup := (s.ana d).sup.st
  if s.chEnabled u && s.flag (Reg.CH_CFG.OLEN u) && decide (s.chSt u = .off) && decide (per ≠ 0) && decide (t % per = 0)
      && decide (c.offSince + 400000 ≤ t) && !(s.ana d).droop.detected && decide (c.olStart = none)
      && decide (sup = .normal) then
    s.setChan u { c with olStart := some t, olN1 := 0, olS1 := 0, olN2 := 0, olS2 := 0 }
  else s

/-- The pull-up of the open-load test of channel u is on at tick t (R110, R111, R114): from the end of the first mean to the end of the test; a turn-on edge ends the test, and with it the pull-up, in its own tick. -/
def State.pullUp (s : State) (u t : Nat) : Bool :=
  match (s.chan u).olStart with
  | some b => decide (b + 20000 ≤ t) && decide (t < b + 240000)
  | none => false

def execOpenLoadTestStart (u : Nat) (s : State) : Res := .next (s.olTestStart u)

/-- A mean of `n` samples with sum `v` lies above the threshold of `th` mV (R110, R114). -/
def meanAbove (v n : Nat) (th : Int) : Bool := decide (n ≠ 0) && decide ((v : Int) > th * n)

/-- The flags after a completed test (R112). -/
def State.olResult (s : State) (u t : Nat) (sb ol : Bool) : State :=
  let c := s.chan u
  let r := { c with olStart := none, sbRun := if sb then c.sbRun + 1 else 0, notSbRun := if sb then 0 else c.notSbRun + 1,
                    olRun := if ol then c.olRun + 1 else 0, notOlRun := if ol then 0 else c.notOlRun + 1 }
  let s1 := s.setChan u r
  let s2 := if 2 ≤ r.notSbRun then s1.wr (Reg.CH_STAT.SBFLAG u) 0 else s1
  let s3 := if 2 ≤ r.notOlRun then s2.wr (Reg.CH_STAT.OLFLAG u) 0 else s2
  let s4 := if 2 ≤ r.sbRun ∧ !s.flag (Reg.CH_STAT.SBFLAG u) then
      ((s3.wr (Reg.CH_STAT.SBFLAG u) 1).raiseFlag (Reg.CH_CAUSE.SHORTBAT u)).faultD (chanDie u) (chanSrc u) 0x09 t else s3
  if 2 ≤ r.olRun ∧ !s.flag (Reg.CH_STAT.OLFLAG u) then
    ((s4.wr (Reg.CH_STAT.OLFLAG u) 1).raiseFlag (Reg.CH_CAUSE.OPENLOAD u)).faultD (chanDie u) (chanSrc u) 0x08 t
  else s4

/-- OPEN_LOAD_TEST_END (R110, R112): 240,000 ticks after its start the test completes. -/
def State.olTestEnd (s : State) (u : Nat) : State :=
  let c := s.chan u
  match c.olStart with
  | some b =>
    if s.chEnabled u && decide (b + 240000 ≤ s.chNow u) then
      let th : Int := s.rd (if u < 48 then Reg.HSW_OL.VTH u else Reg.PDRV_OL.VTH (u - 48)) * 10
      let e := fun k => clampInt (-50) 50 (Config.olError u (2 * b + k))
      let sb := meanAbove c.olS1 c.olN1 (th + e 0)
      let ol := !sb && meanAbove c.olS2 c.olN2 (th + e 1)
      s.olResult u (b + 240000) sb ol
    else s
  | none => s

def execOpenLoadTestEnd (u : Nat) (s : State) : Res := .next (s.olTestEnd u)

end Sys2Proof.Machine
end

