-- ==== Sys2Proof/Machine/Bridge.lean ====
section
/-! DEFINITION. Bridges and motors (R115 to R141): command words, states, results, control steps, ripple counting, anti-pinch, trips, chopping, back-EMF, and limp. -/

namespace Sys2Proof.Machine

/-! ### State of a motor unit -/

/-- Motor unit states (R122). -/
inductive MotorSt where
  | idle | brake | run | pinch | settle | tripped | thermal | locked | limp
  deriving DecidableEq, Repr

def MotorSt.code : MotorSt → Nat
  | .idle => 0
  | .brake => 1
  | .run => 2
  | .pinch => 3
  | .settle => 4
  | .tripped => 5
  | .thermal => 6
  | .locked => 7
  | .limp => 8

def motorStOf : Nat → MotorSt
  | 0 => .idle
  | 1 => .brake
  | 2 => .run
  | 3 => .pinch
  | 4 => .settle
  | 5 => .tripped
  | 6 => .thermal
  | 7 => .locked
  | _ => .limp

def Motor.blank : Nat → Motor := fun _ => {}
def State.motor (s : State) (m : Nat) : Motor := SMap.get Motor.blank s.mu m
def State.setMotor (s : State) (m : Nat) (x : Motor) : State := { s with mu := SMap.set Motor.blank s.mu m x }
def State.mSt (s : State) (m : Nat) : MotorSt := motorStOf (s.rd (Reg.BRG_STAT.STATE m))
def State.mNow (s : State) (m : Nat) : Nat := s.dieNow (motorDie m)
def State.mEnabled (s : State) (m : Nat) : Bool := decide (m < 14) && s.flag (Reg.BRG_CFG.ENABLE m)
def motorEntry (m : Nat) : Nat := 0xC00 + 16 * m

/-- POS as a signed number (R130). -/
def State.pos (s : State) (m : Nat) : Int := signedOf 32 (s.rd (Reg.BRG_POS.POS m))

/-- The half-bridges of unit m: HB 2m and 2m + 1, or the two integrated ones its sides choose, 12 on (R115). -/
def State.halfBridges (s : State) (m : Nat) : List Nat :=
  if m < 6 then [2 * m, 2 * m + 1]
  else
    let b := if m < 10 then 12 else 16
    [b + s.rd (Reg.BRG_CFG.SIDEA m), b + s.rd (Reg.BRG_CFG.SIDEB m)]

/-- A unit keeps its half-bridges busy in RUN, PINCH and SETTLE (R116). -/
def busyState (st : MotorSt) : Bool := decide (st = .run) || decide (st = .pinch) || decide (st = .settle)

/-- A half-bridge of unit m is busy with another unit (R116). -/
def State.hbBusy (s : State) (m : Nat) : Bool :=
  (List.range 14).any (fun k => decide (k ≠ m) && s.mEnabled k && busyState (s.mSt k) &&
    (s.halfBridges k).any (fun h => (s.halfBridges m).contains h))

/-! ### Reports and results (R118, R137) -/

/-- Content of the STATE entry (R118). -/
def State.motorStateValue (s : State) (m : Nat) : Nat :=
  s.rd (Reg.BRG_STAT.STATE m) + 16 * s.rd (Reg.BRG_STAT.POSUNC m) + 32 * s.rd (Reg.BRG_STAT.EMBER m) + 64 * s.rd (Reg.BRG_STAT.PHOLD m)

def State.reportMotor (s : State) (m t : Nat) : State :=
  s.reportD (motorDie m) (motorEntry m + 1) (s.motorStateValue m) t (motorSrc m)

/-- Reasons of a result (R137). -/
abbrev MRes.target : Nat := 1
abbrev MRes.parked : Nat := 2
abbrev MRes.done : Nat := 3
abbrev MRes.replaced : Nat := 4
abbrev MRes.stall : Nat := 5
abbrev MRes.runlimit : Nat := 6
abbrev MRes.pinch : Nat := 7
abbrev MRes.trip : Nat := 8
abbrev MRes.thermal : Nat := 9
abbrev MRes.busy : Nat := 10
abbrev MRes.blocked : Nat := 11
abbrev MRes.limp : Nat := 12
abbrev MRes.commit : Nat := 13
abbrev MRes.overrun : Nat := 14
abbrev MRes.invalid : Nat := 15
abbrev MRes.noconfig : Nat := 16

/-- The status of a reason (R137); `drive` is that the motion was a DRIVE. -/
def motorStatus (reason : Nat) (drive : Bool) : Nat :=
  if reason ≤ 4 then St.ok
  else if reason = 5 then (if drive then St.ok else St.retryLater)
  else if reason ≤ 11 then St.retryLater
  else if reason ≤ 13 then St.aborted
  else if reason = 14 then St.internal
  else if reason = 15 then St.invalid
  else St.configMismatch

/-- A result is written: `BRG_RESULT` and the RESULT entry, COUNT one on; of two results of one tick the entry reports the second (R118, R123, R137). -/
def State.motorResult (s : State) (m reason : Nat) (drive : Bool) (t : Nat) : State :=
  let st := motorStatus reason drive
  let n := (s.rd (Reg.BRG_RESULT.COUNT m) + 1) % 65536
  (((s.wr (Reg.BRG_RESULT.STATUS m) st).wr (Reg.BRG_RESULT.REASON m) reason).wr (Reg.BRG_RESULT.COUNT m) n).reportD
    (motorDie m) (motorEntry m + 5) ((st + 256 * reason + 65536 * n : Nat) : Int) t (motorSrc m)

/-- A motion ends with a reason; a motion that ends with status OK clears TRIPRUN (R127). -/
def State.endMotion (s : State) (m : Nat) (mo : Motion) (reason t : Nat) : State :=
  let s1 := s.motorResult m reason (decide (mo.op = 2)) t
  if motorStatus reason (decide (mo.op = 2)) = St.ok then s1.wr (Reg.BRG_STAT.TRIPRUN m) 0 else s1

/-- The motions a unit has end: the one in RUN with a reason, one that waits with `waits`. -/
def State.endMotions (s : State) (m reason t : Nat) (waits : Nat := reason) : State :=
  let x := s.motor m
  let s1 := match x.motion with
    | some mo => s.endMotion m mo reason t
    | none => s
  let s2 := match x.waiting with
    | some mo => s1.endMotion m mo waits t
    | none => s1
  s2.setMotor m { s2.motor m with motion := none, waiting := none }

/-! ### The bridge's switches (R119, R122, R124 to R126, R134, R135) -/

/-- The PWM period of a unit (R124). -/
def motorPeriod (freq : Nat) : Nat := roundDiv 200000000 (freq * 100)

/-- The driving high side at tick t as the PWM pattern has it, with the end of the on-time: DUTY 4,095 is continuously on (R119, R124). -/
def State.motorOn (s : State) (m duty t : Nat) : Bool × Nat :=
  let p := motorPeriod (s.rd (Reg.BRG_PWM.FREQ m))
  let e := t - t % p + p * duty / 4096
  if duty = 4095 then (true, 0) else (decide (t < e), if t < e then e else 0)

/-- The dead time of a unit in ticks (R124). -/
def State.deadTime (s : State) (m : Nat) : Nat := if m < 6 then s.rd (Reg.BRG_PWM.DT m) else 40

/-- A side goes to position p at tick t; from one switch to the other both are off for the dead time (R124). -/
def HbSide.go (h : HbSide) (p t dt : Nat) : HbSide :=
  if p = h.cmd then h
  else
    let last := if h.cmd = 0 then h.last else h.cmd
    let off := if h.cmd = 0 then h.offAt else t
    { cmd := p, last := last, offAt := off, onAt := if last ≠ 0 ∧ last ≠ p then max t (off + dt) else t }

/-- The positions that the sides of unit m are commanded to (R122, R124 to R126, R134, R135). -/
def State.bridgeWant (s : State) (m : Nat) : Nat × Nat :=
  let x := s.motor m
  let brk := fun (k : Nat) => if k = 1 then (2, 2) else if k = 2 then (1, 1) else (0, 0)
  let drive := fun (dir : Nat) =>
    let p := if x.on then 1 else 2
    if x.bemfStart.isSome then brk 0
    else if x.chopUntil ≠ 0 then brk (if s.rd (Reg.BRG_CFG.CLMODE m) = 2 then 0 else 1)
    else if dir = 0 then (p, 2) else (2, p)
  match s.mSt m with
  | .brake => brk 1
  | .limp => brk 1
  | .run => drive (s.rd (Reg.BRG_STAT.DIR m))
  | .pinch => if x.pinchDrive then drive (s.rd (Reg.BRG_STAT.DIR m)) else brk 1
  | .settle => brk (if x.settleLow then 1 else s.rd (Reg.BRG_CFG.BRKMODE m))
  | _ => brk 0

/-- The sides of unit m follow at tick t. -/
def State.driveOut (s : State) (m t : Nat) : State :=
  let x := s.motor m
  let w := s.bridgeWant m
  s.setMotor m { x with a := x.a.go w.1 t (s.deadTime m), b := x.b.go w.2 t (s.deadTime m) }

/-- The switches of unit m at tick t: high A, low A, high B, low B (R124). -/
def State.bridgeOut (s : State) (m t : Nat) : List Bool :=
  let x := s.motor m
  [decide (x.a.cmd = 1) && decide (x.a.onAt ≤ t), decide (x.a.cmd = 2) && decide (x.a.onAt ≤ t),
   decide (x.b.cmd = 1) && decide (x.b.onAt ≤ t), decide (x.b.cmd = 2) && decide (x.b.onAt ≤ t)]

/-- The tick from which each switch of unit m conducts, for one that is on. -/
def State.bridgeSince (s : State) (m : Nat) : List Nat :=
  let x := s.motor m
  [x.a.onAt, x.a.onAt, x.b.onAt, x.b.onAt]

/-- The duty a moving unit uses (R119, R134). -/
def State.motorDuty (s : State) (m : Nat) : Nat :=
  match s.mSt m, (s.motor m).motion with
  | .run, some mo => mo.duty
  | .pinch, _ => 4095
  | _, _ => 0

/-- The driving high side as the PWM pattern has it at tick t. -/
def State.motorGate (s : State) (m t : Nat) : State :=
  let g := s.motorOn m (s.motorDuty m) t
  (s.setMotor m { s.motor m with on := g.1, onUntil := g.2 }).driveOut m t

/-- Unit m enters a state at tick t: outside RUN and PINCH the driving high side is off; the switches follow and the entry reports. -/
def State.mEnter (s : State) (m : Nat) (st : MotorSt) (t : Nat) : State :=
  let s1 := s.wr (Reg.BRG_STAT.STATE m) st.code
  let s2 := if st = .run ∨ st = .pinch then s1
    else s1.setMotor m { s1.motor m with on := false, onUntil := 0, chopUntil := 0, bemfStart := none, pinchDrive := false }
  (s2.driveOut m t).reportMotor m t

/-! ### Starts and ends of motions (R121, R122) -/

/-- POSUNC sets (R131). -/
def State.unsure (s : State) (m : Nat) : State := s.wr (Reg.BRG_STAT.POSUNC m) 1

/-- A start: RUN, with the start blanking of TSTART from tick t (R121); the driving side joins its PWM pattern at the current position. -/
def State.startMotion (s : State) (m : Nat) (mo : Motion) (t : Nat) : State :=
  let x := s.motor m
  let g := s.motorOn m mo.duty t
  let s1 := s.setMotor m { x with motion := some mo, waiting := none, blankEnd := t + s.rd (Reg.BRG_TIME.TSTART m) * 200000, blankDone := false,
                                  runStart := t, pulseEnd := t + mo.arg * 200000, ivStart := none, ivOff := 0, ints := [], newInts := 0,
                                  intSum := 0, intN := 0, bemfLast := t, bemfLowSince := none, on := g.1, onUntil := g.2 }
  (s1.wr (Reg.BRG_STAT.DIR m) mo.dir).mEnter m .run t

/-- SETTLE for TBRAKE ms, `low` forcing low-side braking (R122); with BRKMODE = 0 a motion that ends so makes POS uncertain (R131). -/
def State.settle (s : State) (m t : Nat) (low : Bool) : State :=
  let x := s.motor m
  let s1 := s.setMotor m { x with settleEnd := t + s.rd (Reg.BRG_TIME.TBRAKE m) * 200000, settleLow := low }
  let s2 := if s.rd (Reg.BRG_CFG.BRKMODE m) = 0 ∧ s.mSt m = .run then s1.unsure m else s1
  s2.mEnter m .settle t

/-- A motion in RUN ends with a reason into SETTLE (R122). -/
def State.endRun (s : State) (m reason t : Nat) (low : Bool := false) : State := (s.endMotions m reason t).settle m t low

def hbBlank : Nat → Option Nat := fun _ => none

/-- The latch of side `side` of unit m: its pair's gate drivers, or an integrated half-bridge (R128). -/
def State.hbOf (s : State) (m side : Nat) : Nat := if m < 6 then m else (s.halfBridges m).getD (side % 2) 0

/-- The latches of unit m. -/
def State.latchesOf (s : State) (m : Nat) : List Nat := if m < 6 then [m] else s.halfBridges m

/-- A latch of unit m is set. -/
def State.latched (s : State) (m : Nat) : Bool := (s.latchesOf m).any (fun h => (SMap.get hbBlank s.hbEmber h).isSome)

/-- `BRG_STAT.EMBER` shows whether any latch of the unit is set (R143). -/
def State.showEmber (s : State) (m : Nat) : State := s.wr (Reg.BRG_STAT.EMBER m) (b2n (s.latched m))

/-- Where a unit goes that would enter IDLE: LIMP while its die is in limp (R139), THERMAL while a latch is set (R128). -/
def State.mRest (s : State) (m t : Nat) : State :=
  if s.latched m then s.mEnter m .thermal t
  else if s.inLimp (motorDie m) then s.mEnter m .limp t
  else s.mEnter m .idle t

/-- A unit takes a word as its applied one (R120); `BRG_STAT.OP` shows its OP. -/
def State.setMWord (s : State) (m w : Nat) : State := (s.setMotor m { s.motor m with word := w }).wr (Reg.BRG_STAT.OP m) (w % 8)

/-- The direction of a motion (R119): GOTO takes the direction toward its target. -/
def State.motionOf (s : State) (m w : Nat) : Motion :=
  let op := w % 8
  let arg := bits w 16 16
  { op := op, dir := if op = 3 then b2n (decide (signedOf 16 arg < s.pos m)) else bits w 3 1, duty := bits w 4 12, arg := arg }

/-- An invalid word (R119): OP = 7, a PULSE duration outside 1 to 2,000, or a reserved bit set. -/
def motorInvalid (w : Nat) : Bool :=
  let op := w % 8
  let arg := bits w 16 16
  decide (op = 7) || (decide (op = 5) && (decide (arg = 0) || decide (2000 < arg)))
    || (!(decide (op = 3) || decide (op = 5) || decide (op = 6)) && decide (arg ≠ 0))

/-- The level of the park input, read on the die (R136). -/
def State.parkLevel (s : State) (m : Nat) : Nat :=
  s.rd (Reg.INP_STAT.LEVEL (s.rd (Reg.BRG_CFG.PARKIN m) + (if motorDie m = .p0 then 0 else 80)))

/-- The supply state of a die blocks starts (R437). -/
def State.supplyBlocks (s : State) (d : Die) : Bool :=
  let st := (s.ana d).sup.st
  decide (st = .uv) || decide (st = .gndshift) || decide (st = .ov)

/-- A unit is blocked for a motion (R121, R134, R437). -/
def State.mBlocked (s : State) (m dir : Nat) : Bool :=
  let st := s.mSt m
  decide (st = .tripped) || decide (st = .thermal) || decide (st = .locked) || decide (st = .limp)
    || (s.flag (Reg.BRG_STAT.PHOLD m) && decide (dir = s.rd (Reg.BRG_CFG.PINCHDIR m))) || s.supplyBlocks (motorDie m)

/-- Why a DRIVE, GOTO, PARK or PULSE is refused, or 0 (R121). -/
def State.mRefusal (s : State) (m : Nat) (mo : Motion) : Nat :=
  if mo.op = 3 ∧ !s.flag (Reg.BRG_CFG.RIPEN m) then MRes.noconfig
  else if mo.op = 4 ∧ !s.flag (Reg.BRG_CFG.PARKEN m) then MRes.noconfig
  else if s.mBlocked m mo.dir then MRes.blocked
  else if mo.op = 3 ∧ s.flag (Reg.BRG_STAT.POSUNC m) then MRes.blocked
  else if s.hbBusy m then MRes.busy
  else 0

/-- A motion that may start takes its place: from rest it starts; in RUN it replaces, at once in the same direction, through SETTLE in the opposite one; in SETTLE it waits (R121). -/
def State.takeMotion (s : State) (m : Nat) (mo : Motion) (t : Nat) : State :=
  let x := s.motor m
  match s.mSt m with
  | .run =>
    if mo.dir = s.rd (Reg.BRG_STAT.DIR m) then
      let s1 := s.endMotions m MRes.replaced t
      s1.setMotor m { s1.motor m with motion := some mo, pulseEnd := t + mo.arg * 200000 }
    else
      let s1 := (s.endMotions m MRes.replaced t).settle m t true
      s1.setMotor m { s1.motor m with waiting := some mo }
  | .settle =>
    let s1 := match x.waiting with
      | some w => s.endMotion m w MRes.replaced t
      | none => s
    s1.setMotor m { s1.motor m with waiting := some mo }
  | _ => s.startMotion m mo t

/-- A motion that is at its end when it comes (R121): what ran or waited is replaced, and a unit in RUN settles. -/
def State.endsAtOnce (s : State) (m : Nat) (mo : Motion) (reason t : Nat) : State :=
  let s1 := (s.endMotions m MRes.replaced t).endMotion m mo reason t
  if s.mSt m = .run then s1.settle m t false else s1

/-- DRIVE, GOTO, PARK and PULSE (R121): refused, ended at once, or taken. -/
def State.mMove (s : State) (m : Nat) (mo : Motion) (t : Nat) : State :=
  let r := s.mRefusal m mo
  if r ≠ 0 then s.motorResult m r false t
  else if mo.op = 3 ∧ s.pos m = signedOf 16 mo.arg then s.endsAtOnce m mo MRes.target t
  else if mo.op = 4 ∧ s.parkLevel m = s.rd (Reg.BRG_CFG.PARKLVL m) then s.endsAtOnce m mo MRes.parked t
  else s.takeMotion m mo t

/-- COAST (R121, R131): a running motion ends DONE and one that waits REPLACED, and the unit enters IDLE; the POS of a motor that ran, in RUN or in a pinch reversal, is then uncertain. -/
def State.mCoast (s : State) (m t : Nat) : State :=
  match s.mSt m with
  | .tripped => s
  | .thermal => s
  | .locked => s
  | .idle => s
  | st =>
    let s1 := s.endMotions m MRes.done t MRes.replaced
    (if st = .run ∨ st = .pinch then s1.unsure m else s1).mEnter m .idle t

/-- BRAKE (R121). -/
def State.mBrake (s : State) (m t : Nat) : State :=
  match s.mSt m with
  | .tripped => s
  | .thermal => s
  | .locked => s
  | _ => (s.endMotions m MRes.done t MRes.replaced).mEnter m .brake t

/-- SETPOS (R121): the POS entry follows at the window's end with the tick of the change (DESIGN CHOICE, log entry 22). -/
def State.mSetPos (s : State) (m arg t : Nat) : State :=
  if s.mSt m = .idle ∨ s.mSt m = .brake then
    let p := signedOf 16 arg
    let x := s.motor m
    let s1 := if s.pos m = p then s else s.setMotor m { x with posDirty := true, posAt := t }
    (((s1.wr (Reg.BRG_POS.POS m) (fieldOfInt 32 p)).wr (Reg.BRG_STAT.POSUNC m) 0).motorResult m MRes.done false t).reportMotor m t
  else s.motorResult m MRes.blocked false t

/-- The action of a changed valid word (R121); during PINCH every word but COAST and BRAKE waits (R134). -/
def State.mAct (s : State) (m w t : Nat) : State :=
  if s.mSt m = .pinch ∧ 1 < w % 8 then s.setMotor m { s.motor m with pinchCmd := true }
  else
    match w % 8 with
    | 0 => s.mCoast m t
    | 1 => s.mBrake m t
    | 6 => s.mSetPos m (bits w 16 16) t
    | _ => s.mMove m (s.motionOf m w) t

/-- PINCH has ended: a changed word that still waits is taken (R121). -/
def State.pinchLeft (s : State) (m t : Nat) : State :=
  let x := s.motor m
  if x.pinchCmd then (s.setMotor m { x with pinchCmd := false }).mAct m x.word t else s

/-- PHOLD clears at the first boundary whose applied word has OP COAST or BRAKE, or DIR opposite to PINCHDIR (R134). -/
def State.pholdCheck (s : State) (m t : Nat) : State :=
  let w := (s.motor m).word
  if s.flag (Reg.BRG_STAT.PHOLD m) ∧ (w % 8 ≤ 1 ∨ (s.motionOf m w).dir ≠ s.rd (Reg.BRG_CFG.PINCHDIR m)) then
    (s.wr (Reg.BRG_STAT.PHOLD m) 0).reportMotor m t
  else s

/-- A CMD word is applied to unit m at boundary tick t (R120, R139): it acts when it differs from the previous applied word; the first write after limp takes the unit out of LIMP with BRAKE as the previous word. -/
def State.applyMotor (s : State) (m w t : Nat) : State :=
  if !s.mEnabled m then s
  else
    let fromLimp := decide (s.mSt m = .limp) && !s.inLimp (motorDie m)
    let s0 := if fromLimp then (s.setMWord m 1).mEnter m .brake t else s
    if w = (s0.motor m).word then s0
    else
      let s1 := (s0.setMWord m w).setMotor m { (s0.setMWord m w).motor m with pinchCmd := false }
      if motorInvalid w then
        ((s1.raiseFlag (Reg.BRG_CAUSE.INVCMD m)).raiseD (motorDie m) (motorSrc m) 0x07 t).motorResult m MRes.invalid false t
      else s1.mAct m w t

/-- The firmware clear of unit m at boundary tick t (R129). -/
def State.clearMotor (s : State) (m t : Nat) : State :=
  let s1 := ((s.wr (Reg.BRG_STAT.TRIPRUN m) 0).wr (Reg.BRG_STAT.PHOLD m) 0).event 0x0381 t (motorSrc m)
  if s.mSt m = .locked then s1.mRest m t else s1.reportMotor m t

def State.requestMotorClear (s : State) (m : Nat) (tag : Option Nat) : State :=
  let x := s.motor m
  s.setMotor m { x with clear := true, clearTags := x.clearTags ++ tag.toList }

/-- Limp entry of unit m (R139). -/
def State.limpMotor (s : State) (m t : Nat) : State :=
  match s.mSt m with
  | .run => (s.endMotions m MRes.limp t).mEnter m .limp t
  | .settle => (s.endMotions m MRes.limp t).mEnter m .limp t
  | .idle => s.mEnter m .limp t
  | .brake => s.mEnter m .limp t
  | _ => s

/-! ### The control step (R132 to R138) -/

/-- The mean of the interval currents and lengths of the 16 intervals after position i, with the current one exceeding them by a criterion (R133). -/
def pinchAt (ints : List (Nat × Int)) (i pinchI pinchP : Nat) : Bool :=
  match ints[i]? with
  | none => false
  | some (len, cur) =>
    let prev := (ints.drop (i + 1)).take 16
    decide (prev.length = 16) &&
      ((decide (pinchI ≠ 0) && decide (cur * 16 > prev.foldl (fun a p => a + p.2) 0 + (pinchI * 10 * 16 : Nat)))
        || (decide (pinchP ≠ 0) && decide (len * 16 * 64 > prev.foldl (fun a p => a + p.1) 0 * (64 + pinchP))))

/-- The sequencer finds a pinch at this step (R133). -/
def State.pinchFound (s : State) (m : Nat) : Bool :=
  let x := s.motor m
  s.flag (Reg.BRG_CFG.PINCHEN m) && x.blankDone && decide (s.rd (Reg.BRG_STAT.DIR m) = s.rd (Reg.BRG_CFG.PINCHDIR m))
    && decide (signedOf 16 (s.rd (Reg.BRG_PZONE.PZLO m)) ≤ s.pos m) && decide (s.pos m ≤ signedOf 16 (s.rd (Reg.BRG_PZONE.PZHI m)))
    && (List.range x.newInts).any (fun i => pinchAt x.ints i (s.rd (Reg.BRG_PINCH.PINCHI m)) (s.rd (Reg.BRG_PINCH.PINCHP m)))

/-- A pinch (R134): the motion ends with reason PINCH, PHOLD sets, and the unit brakes in PINCH. -/
def State.pinch (s : State) (m t : Nat) : State :=
  let s1 := ((s.endMotions m MRes.pinch t).raiseFlag (Reg.BRG_CAUSE.PINCH m)).wr (Reg.BRG_STAT.PHOLD m) 1
  let x := s1.motor m
  (s1.setMotor m { x with pinchDrive := false, pinchTick := t + 200, pinchDir := 1 - s.rd (Reg.BRG_STAT.DIR m), revEdges := 0, on := false,
                          onUntil := 0, chopUntil := 0, bemfStart := none, pinchCmd := false }).mEnter m .pinch t

/-- GOTO is at or past its target in its direction of travel (R132). -/
def State.atTarget (s : State) (m : Nat) (mo : Motion) : Bool :=
  if mo.dir = 0 then decide (signedOf 16 mo.arg ≤ s.pos m) else decide (s.pos m ≤ signedOf 16 mo.arg)

/-- The decisions of one control step for unit m (R132, R133, R136). -/
def State.motorStep (s : State) (m t : Nat) : State :=
  if !s.mEnabled m || decide (s.mSt m ≠ .run) then s
  else
    let x := s.motor m
    let s1 := s.setMotor m { x with newInts := 0 }
    match x.motion with
    | none => s1
    | some mo =>
      if mo.op = 3 ∧ s.atTarget m mo then s1.endRun m MRes.target t
      else if mo.op = 4 ∧ x.blankEnd ≤ t ∧ s.parkLevel m = s.rd (Reg.BRG_CFG.PARKLVL m) then s1.endRun m MRes.parked t
      else if s.pinchFound m then s1.pinch m t
      else s1

def Seq.blank : Nat → Seq := fun _ => {}
def State.seq (s : State) (i : Nat) : Seq := SMap.get Seq.blank s.brgSeq i
def State.setSeq (s : State) (i : Nat) (q : Seq) : State := { s with brgSeq := SMap.set Seq.blank s.brgSeq i q }

/-- An overrun of the sequencer of die d at tick t (R138, R144): moving units brake and end OVERRUN, POSUNC sets, a fault is raised on each, the cycles of the step that was cut off count, and the sequencer stops until the next boundary. -/
def State.bridgeOverrunAt (s : State) (d : Die) (t : Nat) : State :=
  let k := dieNum d
  let s1 := ((s.setSeq k { s.seq k with stopped := true, last := t }).seqHalt (8 + k)).count (Reg.BRG_SEQ.OVRCNT k) 1
  let s2 := s1.wr (Reg.BRG_SEQ.PEAK k) (max (min (s.celAt (8 + k)).cyc 65535) (s.rd (Reg.BRG_SEQ.PEAK k)))
  ((motorsOf d).filter (fun m => s.mEnabled m && busyState (s.mSt m))).foldl (fun s m =>
    let x := s.motor m
    let s3 := if x.motion.isNone && x.waiting.isNone then s.motorResult m MRes.overrun false t else s.endMotions m MRes.overrun t
    ((((s3.settle m t true).unsure m |>.raiseFlag (Reg.BRG_CAUSE.OVERRUN m)).raiseD d (motorSrc m) 0x0A t).reportMotor m t).pinchLeft m t) s2

/-- A control step of the sequencer of die d is due at tick t (R138). -/
def State.bridgeDue (s : State) (d : Die) (t : Nat) : Bool :=
  decide (d ≠ .v) && (s.ana d).ready && !(s.seq (dieNum d)).stopped && decide (t % 2000 = 0) && decide ((s.seq (dieNum d)).last < t)

/-- The sequencer's step at tick t: every enabled unit of the die is served; a step that has not finished by then is an overrun (R138). -/
def State.bridgeStepAt (s : State) (d : Die) (t : Nat) : State :=
  let k := dieNum d
  if (s.celAt (8 + k)).running then s.bridgeOverrunAt d t
  else (motorsOf d).foldl (fun s m => s.motorStep m t) ((s.setSeq k { s.seq k with last := t }).seqStart (8 + k))

/-- BRIDGE_CONTROL_STEP (R138): every 2,000 ticks. -/
def State.bridgeStep (s : State) (d : Die) : State := if s.bridgeDue d (s.dieNow d) then s.bridgeStepAt d (s.dieNow d) else s

def execBridgeControlStep (d : Die) (s : State) : Res := .next (s.bridgeStep d)

/-- BRIDGE_SEQ_OVERRUN (R138): the next step is due and the last has not finished. -/
def State.bridgeOverrun (s : State) (d : Die) : State :=
  if s.bridgeDue d (s.dieNow d) && (s.celAt (8 + dieNum d)).running then s.bridgeOverrunAt d (s.dieNow d) else s

def execBridgeSeqOverrun (d : Die) (s : State) : Res := .next (s.bridgeOverrun d)

/-! ### Ripple (R130) -/

/-- What a sample of `cur` mA reads (R118): the full scale of a pre-driven unit is that of its shunt; for an integrated one the spec gives none, and the reading is the operand (DESIGN CHOICE, log entry 16). -/
def State.motorReads (s : State) (m : Nat) (cur : Int) : Int :=
  if m < 6 then adc12 ((if s.flag (Reg.BRG_SENSE.GAIN m) then 50 else 200) * 100000 / s.rd (Reg.BRG_SENSE.RSH m)) cur else cur

/-- A motor sample at tick t (R118, R130, R135): window sum, interval sum, the ripple detector on the deviation from the mean of the last 64 samples, and the back-EMF mean over the last 8,000 ticks of the off interval. -/
def State.motorSample (s : State) (t : Nat) (y : MotorSample) : State :=
  let m := y.m
  if !s.mEnabled m then s
  else
    let x := s.motor m
    let cur := s.motorReads m y.cur
    let hist := (cur :: x.hist).take 64
    let dev := cur * hist.length - hist.foldl (fun a b => a + b) 0
    let th : Int := s.rd (Reg.BRG_RIP.RHYST m) * 5 * hist.length
    let off := x.bemfStart.isSome
    let edge := s.flag (Reg.BRG_CFG.RIPEN m) && !off && x.armed && decide (th < dev) && busyState (s.mSt m)
    let inB := match x.bemfStart with
      | some b => decide (b + 12000 ≤ t) && decide (t < b + 20000)
      | none => false
    s.setMotor m { x with
      nSamp := x.nSamp + 1, sumCur := x.sumCur + cur, hist := hist,
      intSum := if off then x.intSum else x.intSum + cur, intN := if off then x.intN else x.intN + 1,
      armed := if off then x.armed else if dev < -th then true else if th < dev then false else x.armed,
      edgeAt := if edge then some t else x.edgeAt,
      bemfN := if inB then x.bemfN + 1 else x.bemfN, bemfSum := if inB then x.bemfSum + y.vab else x.bemfSum }

/-- An edge at tick e comes RMIN or more after the previous counted one (R130). -/
def State.edgeCounts (s : State) (m e : Nat) : Bool :=
  match (s.motor m).lastEdge with
  | some p => decide (p + s.rd (Reg.BRG_RIP.RMIN m) * 2000 ≤ e)
  | none => true

/-- The ripple interval that ends with an edge at tick e: its length without the back-EMF off time, and its mean current (R133, R135). -/
def Motor.interval (x : Motor) (e : Nat) : Option (Nat × Int) :=
  x.ivStart.map (fun b => (e - b - x.ivOff, if x.intN = 0 then 0 else x.intSum / (x.intN : Int)))

/-- RIPPLE_EDGE (R130): a counted edge changes POS by one in the last drive direction, in RUN, PINCH or SETTLE. -/
def State.rippleEdge (s : State) (m : Nat) : State :=
  let x := s.motor m
  match x.edgeAt with
  | none => s
  | some e =>
    if s.mEnabled m && s.flag (Reg.BRG_CFG.RIPEN m) && busyState (s.mSt m) && s.edgeCounts m e then
      let p := if s.rd (Reg.BRG_STAT.DIR m) = 0 then s.pos m + 1 else s.pos m - 1
      let new := if x.blankDone && decide (s.mSt m = .run) then (x.interval e).toList else []
      let x1 := { x with edgeAt := none, lastEdge := some e, posAt := e, posDirty := true, ivStart := some e, ivOff := 0, intSum := 0, intN := 0,
                         ints := (new ++ x.ints).take 32, newInts := x.newInts + new.length,
                         revEdges := if s.mSt m = .pinch ∧ x.pinchDrive then x.revEdges + 1 else x.revEdges }
      (s.setMotor m x1).wr (Reg.BRG_POS.POS m) (fieldOfInt 32 p)
    else s.setMotor m { x with edgeAt := none }

def execRippleEdge (m : Nat) (s : State) : Res := .next (s.rippleEdge m)

/-- The end of a sensing window of unit m (R118): the mean goes to `BRG_MEAS`, and POS is reported where it changed, stamped with the change. -/
def State.motorWindow (s : State) (m : Nat) : State :=
  let x := s.motor m
  let s1 := if x.nSamp = 0 then s
    else
      let cur := x.sumCur / (x.nSamp : Int)
      (s.setMotor m { x with nSamp := 0, sumCur := 0, cur := cur }).wr (Reg.BRG_MEAS.CUR m) (fieldOfInt 16 (cur / 2))
  if x.posDirty then
    (s1.setMotor m { s1.motor m with posDirty := false }).unitD (motorDie m) (motorEntry m + 2) (s.pos m) x.posAt (motorSrc m)
  else s1

/-! ### Timed ends (R121, R122, R132, R134) -/

/-- PINCH ends: SETTLE with low-side braking, or LIMP while the die is in limp (R134, R139); a changed word that still waits is then taken (R121). -/
def State.pinchDone (s : State) (m t : Nat) : State :=
  (if s.inLimp (motorDie m) then s.mEnter m .limp t else s.settle m t true).pinchLeft m t

/-- A decision of the sequencer for unit m falls at tick t: a control step of a sequencer that runs (R123, R138). -/
def State.stepAt (s : State) (m t : Nat) : Bool := decide (t % 2000 = 0) && !(s.seq (dieNum (motorDie m))).stopped

/-- The stall condition of unit m at tick t (R132). -/
def State.stalled (s : State) (m t : Nat) : Bool :=
  let x := s.motor m
  let lim := s.rd (Reg.BRG_TIME.TSTALL m) * 200000
  if s.flag (Reg.BRG_CFG.RIPEN m) then decide (max (x.lastEdge.getD 0) x.blankEnd + lim ≤ t)
  else s.flag (Reg.BRG_CFG.BEMFEN m) && (match x.bemfLowSince with
    | some b => decide (max b x.blankEnd + lim ≤ t)
    | none => false)

/-- A stall found at control step t (R132, R134). -/
def State.motorStallAt (s : State) (m t : Nat) : State :=
  let x := s.motor m
  if !s.mEnabled m || !s.stepAt m t then s
  else match s.mSt m with
    | .run =>
      match x.motion with
      | some mo => if decide (mo.op ≠ 5) && decide (x.blankEnd ≤ t) && s.stalled m t then (s.endRun m MRes.stall t).raiseFlag (Reg.BRG_CAUSE.STALL m) else s
      | none => s
    | .pinch =>
      if x.pinchDrive && decide (max (x.lastEdge.getD 0) x.pinchTick + s.rd (Reg.BRG_TIME.TSTALL m) * 200000 ≤ t) then
        (s.raiseFlag (Reg.BRG_CAUSE.STALL m)).pinchDone m t else s
    | _ => s

/-- MOTOR_STALL (R123, R132, R134). -/
def State.motorStall (s : State) (m : Nat) : State := s.motorStallAt m (s.mNow m)

def execMotorStall (m : Nat) (s : State) : Res := .next (s.motorStall m)

/-- MOTOR_RUN_LIMIT (R132, R134). -/
def State.motorRunLimit (s : State) (m : Nat) : State :=
  let x := s.motor m
  let lim := s.rd (Reg.BRG_TIME.TRUN m) * 20000000
  match s.mSt m with
  | .run =>
    if s.mEnabled m && decide (x.runStart + lim ≤ s.mNow m) then (s.endRun m MRes.runlimit (x.runStart + lim)).raiseFlag (Reg.BRG_CAUSE.RUNLIMIT m) else s
  | .pinch =>
    if s.mEnabled m && x.pinchDrive && decide (x.pinchTick + lim ≤ s.mNow m) then
      (s.raiseFlag (Reg.BRG_CAUSE.RUNLIMIT m)).pinchDone m (x.pinchTick + lim) else s
  | _ => s

def execMotorRunLimit (m : Nat) (s : State) : Res := .next (s.motorRunLimit m)

/-- MOTOR_START_BLANKING_END (R121, R133): intervals count from here. -/
def State.blankingEnd (s : State) (m : Nat) : State :=
  let x := s.motor m
  if s.mEnabled m && decide (s.mSt m = .run) && !x.blankDone && decide (x.blankEnd ≤ s.mNow m) then
    s.setMotor m { x with blankDone := true, ints := [], newInts := 0 }
  else s

def execMotorStartBlankingEnd (m : Nat) (s : State) : Res := .next (s.blankingEnd m)

/-- The end of a pulse found at control step t (R121, R123): the unit settles and reports DONE. -/
def State.pulseEndAt (s : State) (m t : Nat) : State :=
  let x := s.motor m
  match x.motion with
  | some mo =>
    if s.mEnabled m && s.stepAt m t && decide (s.mSt m = .run) && decide (mo.op = 5) && decide (x.pulseEnd ≤ t) then s.endRun m MRes.done t else s
  | none => s

/-- PULSE_END (R121): the end of the pulse is its target. -/
def State.pulseEnd (s : State) (m : Nat) : State := s.pulseEndAt m (s.mNow m)

def execPulseEnd (m : Nat) (s : State) : Res := .next (s.pulseEnd m)

/-- PINCH_BRAKE_END (R134): after exactly 2,000,000 ticks of braking the unit drives in the opposite direction at full duty. -/
def State.pinchBrakeEnd (s : State) (m : Nat) : State :=
  let x := s.motor m
  let e := x.pinchTick + 2000000
  if s.mEnabled m && decide (s.mSt m = .pinch) && !x.pinchDrive && decide (e ≤ s.mNow m) then
    ((s.setMotor m { x with pinchDrive := true, pinchTick := e, revEdges := 0, ivStart := none, on := true, onUntil := 0 }).wr
      (Reg.BRG_STAT.DIR m) x.pinchDir).driveOut m e
  else s

def execPinchBrakeEnd (m : Nat) (s : State) : Res := .next (s.pinchBrakeEnd m)

/-- The end of a pinch reversal found at control step t (R134). -/
def State.reversalAt (s : State) (m t : Nat) : State :=
  let x := s.motor m
  if s.mEnabled m && s.stepAt m t && decide (s.mSt m = .pinch) && x.pinchDrive && decide (s.rd (Reg.BRG_PINCH.REVCNT m) ≤ x.revEdges) then
    s.pinchDone m t
  else s

/-- REVERSAL_COMPLETE (R134). -/
def State.reversalComplete (s : State) (m : Nat) : State := s.reversalAt m (s.mNow m)

/-- The control step of tick t comes before the boundary of that tick (R123). -/
def State.stepBefore (s : State) (d : Die) (t : Nat) : State :=
  if !s.bridgeDue d t then s
  else (motorsOf d).foldl (fun s m => ((s.reversalAt m t).pulseEndAt m t).motorStallAt m t) (s.bridgeStepAt d t)

def execReversalComplete (m : Nat) (s : State) : Res := .next (s.reversalComplete m)

/-- MOTOR_SETTLE_END (R24, R122): into RUN for a motion that waits, else to rest.  While no frame boundaries arrive no motion starts: it waits in SETTLE (DESIGN CHOICE, log entry 21). -/
def State.settleEnd (s : State) (m : Nat) : State :=
  let x := s.motor m
  let d := motorDie m
  if s.mEnabled m && decide (s.mSt m = .settle) && decide (x.settleEnd ≤ s.mNow m) then
    match x.waiting with
    | some mo => if s.boundariesArrive d then s.startMotion m mo (max x.settleEnd (s.link d).lastBoundary) else s
    | none => s.mRest m x.settleEnd
  else s

def execMotorSettleEnd (m : Nat) (s : State) : Res := .next (s.settleEnd m)

/-! ### Trips, ember, chopping, back-EMF (R126 to R128, R135) -/

/-- A unit that moves (R127, R128, R131). -/
def State.mMoving (s : State) (m : Nat) : Bool := busyState (s.mSt m)

/-- The cause bits of `BRG_CAUSE` [4:0] that the comparators of unit m assert at tick t (R127): the bridge current above ISHORT, on HBI a switch above the integrated limit, on HB the drain-source voltage of a switch that has conducted for VDSBLK above VDSTH. -/
def State.bridgeCauses (s : State) (m t : Nat) (x : BridgeSense) : Nat :=
  let on := s.bridgeOut m t
  let short := decide ((x.cur : Int) * 1000 > (s.rd (Reg.BRG_OC.ISHORT m) : Int) * 250 * (1000 + clampInt (-80) 80 (Config.shortError (64 + m))))
  let hbi := decide (6 ≤ m) && (List.range 4).any (fun k => on.getD k false && decide (Config.hbiShort m < x.sw.getD k 0))
  let vds := fun (k : Nat) => decide (m < 6) && on.getD k false
    && decide ((s.bridgeSince m).getD k 0 + s.rd (Reg.BRG_SENSE.VDSBLK m) * 20 ≤ t)
    && vdsExceeds (s.rd (Reg.BRG_SENSE.VDSTH m) * 20) (64 + 4 * m + k) (x.vds.getD k 0)
  b2n (short || hbi) + (List.range 4).foldl (fun a k => a + b2n (vds k) * 2 ^ (k + 1)) 0

/-- BRIDGE_TRIP (R127): every switch turns off and the unit enters TRIPPED; a state with all switches off has nothing to trip. -/
def State.bridgeTrip (s : State) (m : Nat) (x : BridgeSense) : State :=
  let t := s.mNow m
  let c := s.bridgeCauses m t x
  let live := busyState (s.mSt m) || decide (s.mSt m = .brake) || decide (s.mSt m = .limp)
  if !s.mEnabled m || !live || decide (c = 0) then s
  else
    let s1 := s.raiseBits (Reg.BRG_CAUSE.SHORT m).off (BitVec.ofNat 32 c)
    let s2 := (s1.wr (Reg.BRG_STAT.TRIPRUN m) (satAdd 4 (s.rd (Reg.BRG_STAT.TRIPRUN m)) 1)).faultD (motorDie m) (motorSrc m)
      (if c % 2 = 1 then 0x01 else 0x03) t c
    let s3 := s2.endMotions m MRes.trip t
    let s4 := if s.mMoving m then s3.unsure m else s3
    ((s4.setMotor m { s4.motor m with tripTick := t }).mEnter m .tripped t).pinchLeft m t

def execBridgeTrip (m : Nat) (x : BridgeSense) (s : State) : Res := .next (s.bridgeTrip m x)

/-- MOTOR_TRIPPED_END (R122, R127): 10 ms after the trip, LOCKED when TRIPRUN has reached TRIPLIM, else to rest. -/
def State.motorTrippedEnd (s : State) (m : Nat) : State :=
  let e := (s.motor m).tripTick + 2000000
  if s.mEnabled m && decide (s.mSt m = .tripped) && decide (e ≤ s.mNow m) then
    if s.rd (Reg.BRG_TRIP.TRIPLIM m) ≤ s.rd (Reg.BRG_STAT.TRIPRUN m) then
      ((s.raiseFlag (Reg.BRG_CAUSE.LOCK m)).mEnter m .locked e).faultD (motorDie m) (motorSrc m) 0x06 e
    else s.mRest m e
  else s

def execMotorTrippedEnd (m : Nat) (s : State) : Res := .next (s.motorTrippedEnd m)

/-- The units that a latch belongs to. -/
def State.unitsOfLatch (s : State) (h : Nat) : List Nat := (List.range 14).filter (fun m => s.mEnabled m && (s.latchesOf m).contains h)

/-- A latch of unit m has set (R128): a running motion ends THERMAL, the unit turns off into THERMAL; LOCKED ends by a firmware clear only (R122). -/
def State.thermal (s : State) (m t : Nat) : State :=
  let s1 := ((s.showEmber m).raiseFlag (Reg.BRG_CAUSE.EMBER m)).raiseD (motorDie m) (motorSrc m) 0x04 t
  match s.mSt m with
  | .locked => s1.reportMotor m t
  | .thermal => s1
  | _ =>
    let s2 := s1.endMotions m MRes.thermal t
    ((if s.mMoving m then s2.unsure m else s2).mEnter m .thermal t).pinchLeft m t

/-- EMBER_SET of a motor unit's side (R128, R83). -/
def State.motorEmberSet (s : State) (m side : Nat) (tj : Int) : State :=
  let h := s.hbOf m side
  if s.mEnabled m && decide (SMap.get hbBlank s.hbEmber h = none) && decide (emberSetAt (.motor m side) ≤ tj) then
    let t := s.mNow m
    let s1 := { s with hbEmber := SMap.set hbBlank s.hbEmber h (some t) }
    (s.unitsOfLatch h).foldl (fun s m => s.thermal m t) s1
  else s

/-- EMBER_RELEASE of a motor unit's side (R122, R128, R83): THERMAL ends when every latch of the unit has released. -/
def State.motorEmberRelease (s : State) (m side : Nat) (tj : Int) : State :=
  let h := s.hbOf m side
  let t := s.mNow m
  match SMap.get hbBlank s.hbEmber h with
  | none => s
  | some e =>
    if s.mEnabled m && decide (e + 200000 ≤ t) && decide (tj ≤ emberRelAt (.motor m side)) then
      let s1 := { s with hbEmber := SMap.set hbBlank s.hbEmber h none }
      (s.unitsOfLatch h).foldl (fun s m =>
        if s.latched m then s
        else if s.mSt m = .thermal then (s.showEmber m).mRest m t
        else (s.showEmber m).reportMotor m t) s1
    else s

/-- CURRENT_CHOP (R126): the sensed current exceeds ILIM; the driving high side turns off for TOFF µs. -/
def State.currentChop (s : State) (m cur : Nat) : State :=
  let x := s.motor m
  let cl := s.rd (Reg.BRG_CFG.CLMODE m)
  if s.mEnabled m && (decide (s.mSt m = .run) || (decide (s.mSt m = .pinch) && x.pinchDrive)) && (decide (cl = 1) || decide (cl = 2))
      && x.on && decide (s.rd (Reg.BRG_OC.ILIM m) * 50 < cur) then
    (s.setMotor m { x with on := false, chopUntil := s.mNow m + s.rd (Reg.BRG_OC.TOFF m) * 200 }).driveOut m (s.mNow m)
  else s

def execCurrentChop (m cur : Nat) (s : State) : Res := .next (s.currentChop m cur)

/-- CHOP_OFF_END (R126): the PWM pattern resumes. -/
def State.chopOffEnd (s : State) (m : Nat) : State :=
  let x := s.motor m
  if x.chopUntil ≠ 0 ∧ x.chopUntil ≤ s.mNow m then (s.setMotor m { x with chopUntil := 0 }).motorGate m (s.mNow m) else s

def execChopOffEnd (m : Nat) (s : State) : Res := .next (s.chopOffEnd m)

/-- PWM_PERIOD_START of a motor unit (R124): periods start at multiples of the period. -/
def State.motorPeriodStart (s : State) (m : Nat) : State :=
  let x := s.motor m
  let t := s.mNow m
  if s.mEnabled m && (decide (s.mSt m = .run) || (decide (s.mSt m = .pinch) && x.pinchDrive)) && decide (x.chopUntil = 0)
      && x.bemfStart.isNone && decide (t % motorPeriod (s.rd (Reg.BRG_PWM.FREQ m)) = 0) then s.motorGate m t
  else s

/-- PWM_ON_TIME_END of a motor unit (R124). -/
def State.motorOnTimeEnd (s : State) (m : Nat) : State :=
  let x := s.motor m
  if x.on && decide (x.onUntil ≠ 0) && decide (x.onUntil ≤ s.mNow m) then (s.setMotor m { x with on := false, onUntil := 0 }).driveOut m x.onUntil else s

/-- PWM_PERIOD_START (R75, R124). -/
def execPwmPeriodStart (u : PwmUnit) (s : State) : Res :=
  match u with
  | .chan u => .next (s.chanPeriodStart u)
  | .motor m => .next (s.motorPeriodStart m)

/-- PWM_ON_TIME_END (R75, R124). -/
def execPwmOnTimeEnd (u : PwmUnit) (s : State) : Res :=
  match u with
  | .chan u => .next (if s.chEnabled u then s.chanOnTimeEnd u else s)
  | .motor m => .next (if s.mEnabled m then s.motorOnTimeEnd m else s)

/-- BEMF_MEASURE_START (R135): at the first PWM period start after the measurement falls due all switches turn off. -/
def State.bemfStart (s : State) (m : Nat) : State :=
  let x := s.motor m
  let t := s.mNow m
  if s.mEnabled m && s.flag (Reg.BRG_CFG.BEMFEN m) && decide (s.mSt m = .run) && x.bemfStart.isNone
      && decide (s.rd (Reg.BRG_BEMF.BEMFPER m) ≠ 0) && decide (x.bemfLast + s.rd (Reg.BRG_BEMF.BEMFPER m) * 200000 ≤ t)
      && decide (t % motorPeriod (s.rd (Reg.BRG_PWM.FREQ m)) = 0) then
    s.setMotor m { x with bemfStart := some t, bemfN := 0, bemfSum := 0, on := false, onUntil := 0, bemfLast := x.bemfLast + s.rd (Reg.BRG_BEMF.BEMFPER m) * 200000 } |>.driveOut m t
  else s

def execBemfMeasureStart (m : Nat) (s : State) : Res := .next (s.bemfStart m)

/-- BEMF_MEASURE_END (R135, R132): the mean of the last 40 samples is reported. -/
def State.bemfEnd (s : State) (m : Nat) : State :=
  let x := s.motor m
  match x.bemfStart with
  | none => s
  | some b =>
    if s.mEnabled m && decide (b + 20000 ≤ s.mNow m) then
      let v := if x.bemfN = 0 then 0 else x.bemfSum / (x.bemfN : Int)
      let low := decide (v.natAbs < s.rd (Reg.BRG_BEMF.BEMFMIN m) * 10)
      let x1 := { x with bemfStart := none, ivOff := if x.ivStart.isSome then x.ivOff + 20000 else 0, bemfLowSince := if low then (match x.bemfLowSince with
        | some k => some k
        | none => some (b + 20000)) else none }
      (((s.setMotor m x1).wr (Reg.BRG_MEAS.BEMF m) (fieldOfInt 16 (v / 10))).unitD (motorDie m) (motorEntry m + 4) v (b + 20000) (motorSrc m)).motorGate
        m (s.mNow m)
    else s

def execBemfMeasureEnd (m : Nat) (s : State) : Res := .next (s.bemfEnd m)

/-- A unit starts in IDLE with POS and POSUNC as retained (R141). -/
def State.startMotor (s : State) (m t : Nat) : State :=
  let s1 := (((s.setMotor m {}).setMWord m 0).wr (Reg.BRG_STAT.TRIPRUN m) 0).wr (Reg.BRG_STAT.PHOLD m) 0
  ((s1.wr (Reg.BRG_STAT.STATE m) 0).showEmber m).reportMotor m t

/-- A commit that changes a unit's fields, disables or enables it (R140): a motion ends COMMIT and the unit enters IDLE, also from LOCKED (DESIGN CHOICE, log entry 23); its latches are those of the sides it now has. -/
def State.commitMotor (s : State) (m t : Nat) : State :=
  let s1 := (s.endMotions m MRes.commit t).showEmber m
  if s.mEnabled m then (s1.mRest m t).pinchLeft m t else (s1.setMWord m 0).mEnter m .idle t

end Sys2Proof.Machine
end

