-- ==== Sys2Proof/Machine/Valve.lean ====
section
/-! DEFINITION. Valve banks (R145 to R167): command words, states, current shaping, the overlap rule and the leash, the boost rail, trips and ember latches, limp and the supply hold-off. -/

namespace Sys2Proof.Machine

/-! ### State of a channel and of a bank -/

/-- Valve channel states (R149). -/
inductive ValveSt where
  | idle | wait | peak | hold | release | tripped | thermal | locked
  deriving DecidableEq, Repr

def ValveSt.code : ValveSt → Nat
  | .idle => 0
  | .wait => 1
  | .peak => 2
  | .hold => 3
  | .release => 4
  | .tripped => 5
  | .thermal => 6
  | .locked => 7

def valveStOf : Nat → ValveSt
  | 0 => .idle
  | 1 => .wait
  | 2 => .peak
  | 3 => .hold
  | 4 => .release
  | 5 => .tripped
  | 6 => .thermal
  | _ => .locked

/-- Bank states (R150). -/
inductive BankSt where
  | off | vbat | boost | tripped | thermal | locked
  deriving DecidableEq, Repr

def BankSt.code : BankSt → Nat
  | .off => 0
  | .vbat => 1
  | .boost => 2
  | .tripped => 3
  | .thermal => 4
  | .locked => 5

def bankStOf : Nat → BankSt
  | 0 => .off
  | 1 => .vbat
  | 2 => .boost
  | 3 => .tripped
  | 4 => .thermal
  | _ => .locked

def Valve.blank : Nat → Valve := fun _ => {}
def Bank.blank : Nat → Bank := fun _ => {}
def State.valve (s : State) (n : Nat) : Valve := SMap.get Valve.blank s.vl n
def State.setValve (s : State) (n : Nat) (x : Valve) : State := { s with vl := SMap.set Valve.blank s.vl n x }
def State.bank (s : State) (b : Nat) : Bank := SMap.get Bank.blank s.vb b
def State.setBank (s : State) (b : Nat) (x : Bank) : State := { s with vb := SMap.set Bank.blank s.vb b x }
def State.vSt (s : State) (n : Nat) : ValveSt := valveStOf (s.rd (Reg.VLV_STAT.STATE n))
def State.bSt (s : State) (b : Nat) : BankSt := bankStOf (s.rd (Reg.VLV_BSTAT.STATE b))
def State.vNow (s : State) : Nat := s.dieNow .v
def State.vEnabled (s : State) (n : Nat) : Bool := decide (n < 24) && s.flag (Reg.VLV_CFG.ENABLE n)
def State.bEnabled (s : State) (b : Nat) : Bool := decide (b < 6) && s.flag (Reg.VLV_BCFG.ENABLE b)
def valveEntry (n : Nat) : Nat := 0x1000 + 16 * n
def bankEntry (b : Nat) : Nat := 0x1200 + 16 * b
def bankSrc (b : Nat) : Nat := 0x0420 + b
def valvesOf (b : Nat) : List Nat := [4 * b, 4 * b + 1, 4 * b + 2, 4 * b + 3]

/-- A channel takes part in its bank's steps: enabled, or disabled and not yet IDLE (R166). -/
def State.vLive (s : State) (n : Nat) : Bool := decide (n < 24) && (s.vEnabled n || decide (s.vSt n ≠ .idle))

/-- The channels of bank b that take part, in ascending index. -/
def State.bankChans (s : State) (b : Nat) : List Nat := (valvesOf b).filter (fun n => s.vLive n)

/-! ### Reports, results, and the state of a bank (R146, R150, R162) -/

/-- Content of the STATE entry (R146). -/
def State.valveStateValue (s : State) (n : Nat) : Nat :=
  s.rd (Reg.VLV_STAT.STATE n) + 16 * s.rd (Reg.VLV_STAT.EMBER n) + 32 * s.rd (Reg.VLV_STAT.LIMPSRC n) + 64 * s.rd (Reg.VLV_STAT.HOLDLOW n)

def State.reportValve (s : State) (n t : Nat) : State := s.reportD .v (valveEntry n + 1) (s.valveStateValue n) t (valveSrc n)

def State.reportBank (s : State) (b t : Nat) : State :=
  s.reportD .v (bankEntry b) (s.rd (Reg.VLV_BSTAT.STATE b) + 8 * s.rd (Reg.VLV_BSTAT.EMBER b) : Nat) t (bankSrc b)

/-- SRC of a latched profile word (R170). -/
def profSrc (a : Nat) : Nat := bits a 9 1

/-- The state R150 gives a bank that is not tripped, thermal or locked: by the phases of its channels. -/
def State.bankByChans (s : State) (b : Nat) : BankSt :=
  let c := s.bankChans b
  if c.any (fun n => decide (s.vSt n = .peak) && decide (profSrc (s.valve n).profA = 1)) then .boost
  else if c.any (fun n => decide (s.vSt n = .peak) || decide (s.vSt n = .hold) || decide (s.vSt n = .release)) then .vbat
  else .off

/-- The bank follows its channels (R150) and its status fields show PEAK and the requests that wait (R170). -/
def State.bankFollow (s : State) (b t : Nat) : State :=
  let c := s.bankChans b
  let st := match s.bSt b with
    | .tripped => BankSt.tripped
    | .thermal => .thermal
    | .locked => .locked
    | _ => s.bankByChans b
  let pk := c.find? (fun n => decide (s.vSt n = .peak))
  let s1 := (s.wr (Reg.VLV_BSTAT.STATE b) st.code).wr (Reg.VLV_BSTAT.WAITN b) (c.filter (fun n => decide (s.vSt n = .wait))).length
  let s2 := (s1.wr (Reg.VLV_BSTAT.PEAKV b) (b2n pk.isSome)).wr (Reg.VLV_BSTAT.PEAKCH b) (pk.getD 0 % 4)
  s2.reportBank b t

/-- Reasons of a result (R162). -/
abbrev VRes.actuated : Nat := 1
abbrev VRes.released : Nat := 2
abbrev VRes.pulsed : Nat := 3
abbrev VRes.cancelled : Nat := 4
abbrev VRes.conflict : Nat := 5
abbrev VRes.boostwait : Nat := 6
abbrev VRes.peakfail : Nat := 7
abbrev VRes.trip : Nat := 8
abbrev VRes.thermal : Nat := 9
abbrev VRes.blocked : Nat := 11
abbrev VRes.limp : Nat := 12
abbrev VRes.commit : Nat := 13
abbrev VRes.overrun : Nat := 14
abbrev VRes.invalid : Nat := 15

/-- The status of a reason (R162). -/
def valveStatus (reason : Nat) : Nat :=
  if reason ≤ 4 then St.ok
  else if reason = 5 then St.bankConflict
  else if reason = 6 then St.boostNotReady
  else if reason ≤ 11 then St.retryLater
  else if reason ≤ 13 then St.aborted
  else if reason = 14 then St.internal
  else St.invalid

/-- A result is written (R162); ACTUATED and PULSED return the channel's and the bank's `TRIPRUN` to 0 (R160, R161). -/
def State.valveResult (s : State) (n reason t : Nat) : State :=
  let st := valveStatus reason
  let k := (s.rd (Reg.VLV_RESULT.COUNT n) + 1) % 65536
  let s1 := (((s.wr (Reg.VLV_RESULT.STATUS n) st).wr (Reg.VLV_RESULT.REASON n) reason).wr (Reg.VLV_RESULT.COUNT n) k).reportD
    .v (valveEntry n + 4) ((st + 256 * reason + 65536 * k : Nat) : Int) t (valveSrc n)
  if reason = 1 ∨ reason = 3 then (s1.wr (Reg.VLV_STAT.TRIPRUN n) 0).wr (Reg.VLV_BSTAT.TRIPRUN (valveBank n)) 0 else s1

/-- Channel n enters a state at tick t: outside PEAK and HOLD its switches are off (R149). -/
def State.vEnter (s : State) (n : Nat) (st : ValveSt) (t : Nat) : State :=
  let s1 := s.wr (Reg.VLV_STAT.STATE n) st.code
  let s2 := if st = .peak ∨ st = .hold then s1
    else s1.setValve n { s1.valve n with lowSide := false, recirc := false, offEnd := 0, fast := false }
  (s2.reportValve n t).bankFollow (valveBank n) t

/-- The switches of a channel (low side, recirculation) and of a bank (boost path, battery path) (R149 to R151, R437). -/
def State.valveOut (s : State) (n : Nat) : Bool × Bool := ((s.valve n).lowSide, (s.valve n).recirc)
def State.bankOut (s : State) (b : Nat) : Bool × Bool :=
  if s.supplyBlocks .v then (false, false) else (decide (s.bSt b = .boost), decide (s.bSt b = .vbat))

/-- A channel that has no phase and no request rests in IDLE, or in THERMAL while its latch is set (R149). -/
def State.vRest (s : State) (n t : Nat) : State := s.vEnter n (if s.flag (Reg.VLV_STAT.EMBER n) then .thermal else .idle) t

/-! ### Profiles and phases (R147, R151 to R153) -/

/-- The profile words of profile p of bank b. -/
def State.profA (s : State) (b p : Nat) : Nat := (s.word (Reg.VLV_PROFA.IPEAK b p).off).toNat
def State.profB (s : State) (b p : Nat) : Nat := (s.word (Reg.VLV_PROFB.IHOLD b p).off).toNat

/-- IPEAK in mA, TPEAK and TRISE in ticks, TOFF in ticks, of a profile word. -/
def profIpeak (a : Nat) : Nat := bits a 0 9 * 10
def profTpeak (a : Nat) : Nat := bits a 16 8 * 20000
def profTrise (a : Nat) : Nat := bits a 24 8 * 20000
def profToff (a : Nat) : Nat := bits a 11 5 * 200
def profFast (a : Nat) : Bool := bits a 10 1 = 1
/-- IHOLD in mA, TOFFH and TREL in ticks. -/
def profIhold (b : Nat) : Nat := bits b 0 8 * 10
def profToffh (b : Nat) : Nat := bits b 8 5 * 200
def profTrel (b : Nat) : Nat := bits b 16 8 * 20000

/-- An invalid word (R147). -/
def State.valveInvalid (s : State) (n w : Nat) : Bool :=
  let b := valveBank n
  let p := bits w 4 3
  decide (w % 4 = 3) || decide (bits w 2 1 = 1) || decide (w / 128 ≠ 0)
    || decide (profIpeak (s.profA b p) = 0) || (decide (w % 4 = 1) && decide (profIhold (s.profB b p) = 0))

/-- The hold targets of the hold profile, as the registers have them (R154, R166). -/
def State.holdRefresh (s : State) (n : Nat) : State :=
  let x := s.valve n
  let b := s.profB (valveBank n) x.hold
  s.setValve n { x with holdI := profIhold b, holdT := profToffh b }

/-- HOLD begins at tick t (R151): with `PKDECAY` = 1 both switches stay off until the current has fallen; else slow decay and regulation at once. -/
def State.toHold (s : State) (n t : Nat) : State :=
  let s1 := s.holdRefresh n
  let x := s1.valve n
  let above := decide ((x.holdI : Int) ≤ x.last)
  let x1 := if profFast x.profA then { x with lowSide := !above, recirc := false, offEnd := 0, fast := above }
    else { x with lowSide := !above, recirc := above, offEnd := if above then t + x.holdT else 0, fast := false }
  ((s1.setValve n { x1 with holdAt := t, lowRun := 0, lowMiss := false }).wr (Reg.VLV_STAT.PROF n) x.hold).vEnter n .hold t

/-- RELEASE begins at tick t; `res` is the result it writes at its end, 0 for none (R153). -/
def State.toRelease (s : State) (n res t : Nat) : State :=
  (s.setValve n { s.valve n with relStart := t, relRes := res, energy := 0 }).vEnter n .release t

/-- The clamp energy of a release in µJ (R153). -/
def energyUj (e : Nat) : Nat := e / 1000000

/-- The energy of the release that ends is reported (R146, R153). -/
def State.reportEnergy (s : State) (n t : Nat) : State :=
  let e := energyUj (s.valve n).energy
  (s.wr (Reg.VLV_MEAS.ECLAMP n) (min (e / 10) 65535)).unitD .v (valveEntry n + 3) (e : Nat) t (valveSrc n)

/-- A release ends in IDLE and writes its result (R153). -/
def State.endRelease (s : State) (n t : Nat) : State :=
  let r := (s.valve n).relRes
  let s1 := (s.reportEnergy n t).vRest n t
  if r = 0 then s1 else s1.valveResult n r t

/-- The request of channel n ends with a reason; a channel in WAIT returns to IDLE (R154, R157). -/
def State.dropReq (s : State) (n reason t : Nat) : State :=
  match (s.valve n).req with
  | none => s
  | some _ =>
    let s1 := (s.setValve n { s.valve n with req := none }).valveResult n reason t
    if s1.vSt n = .wait then s1.vRest n t else s1

/-! ### Trips, latches and their ends (R149, R150, R160, R161) -/

/-- A trip of channel n with the cause bit c (0 SHORT, 3 CLAMP) at tick t (R160). -/
def State.valveTripAt (s : State) (n c t : Nat) : State :=
  let rel := decide (s.vSt n = .release)
  let s1 := ((s.raiseFlag ⟨(Reg.VLV_CAUSE.SHORT n).off, c, 1⟩).wr64 (Reg.VLV_TRIPT.T n) t).count (Reg.VLV_CNT.TRIPS n) 1
  let s2 := s1.wr (Reg.VLV_STAT.TRIPRUN n) (satAdd 4 (s.rd (Reg.VLV_STAT.TRIPRUN n)) 1)
  let s3 := if c = 0 then s2.faultD .v (valveSrc n) 0x01 t 1
    else (s2.raiseD .v (valveSrc n) 0x0D t).event 0x0482 t (valveSrc n) (2 ^ c)
  let s4 := if rel then s3.reportEnergy n t else s3
  ((s4.setValve n { s4.valve n with req := none }).valveResult n VRes.trip t).vEnter n .tripped t

/-- VALVE_TRIP (R160): the low-side current exceeds the short limit while the switch conducts. -/
def State.valveTrip (s : State) (n cur : Nat) : State :=
  if s.vEnabled n && (s.valve n).lowSide && decide (clampNat 5400 6600 (Config.valveShort n) < cur) then s.valveTripAt n 0 s.vNow else s

def execValveTrip (n cur : Nat) (s : State) : Res := .next (s.valveTrip n cur)

/-- VALVE_TRIPPED_END (R149): 10 ms after the trip stamp, into LOCKED at `TRIPLIM`, else to rest. -/
def State.valveTrippedEnd (s : State) (n : Nat) : State :=
  let e := s.rd64 (Reg.VLV_TRIPT.T n) + 2000000
  if s.vLive n && decide (s.vSt n = .tripped) && decide (e ≤ s.vNow) then
    if s.rd (Reg.VLV_CFG.TRIPLIM n) ≤ s.rd (Reg.VLV_STAT.TRIPRUN n) then
      ((s.raiseFlag (Reg.VLV_CAUSE.LOCK n)).vEnter n .locked e).faultD .v (valveSrc n) 0x06 e
    else s.vRest n e
  else s

def execValveTrippedEnd (n : Nat) (s : State) : Res := .next (s.valveTrippedEnd n)

/-- Every channel of bank b that is not IDLE, or whose request has not been served, ends with a reason and goes to IDLE, its switches off (R161). -/
def State.bankDrop (s : State) (b reason t : Nat) : State :=
  (s.bankChans b).foldl (fun s n =>
    if s.vSt n = .idle then s.dropReq n reason t
    else
      let s1 := if s.vSt n = .release then s.reportEnergy n t else s
      ((s1.setValve n { s1.valve n with req := none }).vEnter n .idle t).valveResult n reason t) s

/-- A bank enters a state of its own. -/
def State.bEnter (s : State) (b : Nat) (st : BankSt) (t : Nat) : State := (s.wr (Reg.VLV_BSTAT.STATE b) st.code).bankFollow b t

/-- Where a bank goes from TRIPPED, THERMAL or LOCKED: THERMAL while its latch is set, else OFF. -/
def State.bRest (s : State) (b t : Nat) : State := s.bEnter b (if s.flag (Reg.VLV_BSTAT.EMBER b) then .thermal else .off) t

/-- BANK_TRIP (R161): the bank switch current exceeds the bank limit while the switch conducts. -/
def State.bankTrip (s : State) (b cur : Nat) : State :=
  let t := s.vNow
  if s.bEnabled b && (decide (s.bSt b = .vbat) || decide (s.bSt b = .boost)) && !s.supplyBlocks .v
      && decide (clampNat 10800 13200 (Config.bankShort b) < cur) then
    let s1 := (s.raiseFlag (Reg.VLV_BCAUSE.SHORT b)).wr64 (Reg.VLV_BTRIPT.T b) t
    let s2 := (s1.wr (Reg.VLV_BSTAT.TRIPRUN b) (satAdd 4 (s.rd (Reg.VLV_BSTAT.TRIPRUN b)) 1)).faultD .v (bankSrc b) 0x01 t 1
    (s2.bankDrop b VRes.trip t).bEnter b .tripped t
  else s

def execBankTrip (b cur : Nat) (s : State) : Res := .next (s.bankTrip b cur)

/-- BANK_TRIPPED_END (R150). -/
def State.bankTrippedEnd (s : State) (b : Nat) : State :=
  let e := s.rd64 (Reg.VLV_BTRIPT.T b) + 2000000
  if s.bEnabled b && decide (s.bSt b = .tripped) && decide (e ≤ s.vNow) then
    if s.rd (Reg.VLV_BCFG.TRIPLIM b) ≤ s.rd (Reg.VLV_BSTAT.TRIPRUN b) then
      ((s.raiseFlag (Reg.VLV_BCAUSE.LOCK b)).bEnter b .locked e).faultD .v (bankSrc b) 0x06 e
    else s.bRest b e
  else s

def execBankTrippedEnd (b : Nat) (s : State) : Res := .next (s.bankTrippedEnd b)

/-- EMBER_SET of a valve channel (R149, R160). -/
def State.valveEmberSet (s : State) (n : Nat) (tj : Int) : State :=
  let t := s.vNow
  if s.vEnabled n && !s.flag (Reg.VLV_STAT.EMBER n) && decide (emberSetAt (.valve n) ≤ tj) then
    let s1 := (((s.wr (Reg.VLV_STAT.EMBER n) 1).raiseFlag (Reg.VLV_CAUSE.EMBER n)).setValve n { s.valve n with emberAt := some t }).raiseD
      .v (valveSrc n) 0x04 t
    match s.vSt n with
    | .tripped => s1.reportValve n t
    | .locked => s1.reportValve n t
    | .thermal => s1.reportValve n t
    | .idle => (s1.dropReq n VRes.thermal t).vEnter n .thermal t
    | st =>
      let s2 := if st = .release then s1.reportEnergy n t else s1
      ((s2.setValve n { s2.valve n with req := none }).valveResult n VRes.thermal t).vEnter n .thermal t
  else s

/-- EMBER_RELEASE of a valve channel (R83, R149). -/
def State.valveEmberRelease (s : State) (n : Nat) (tj : Int) : State :=
  let t := s.vNow
  match (s.valve n).emberAt with
  | none => s
  | some e =>
    if s.vEnabled n && decide (e + 200000 ≤ t) && decide (tj ≤ emberRelAt (.valve n)) then
      let s1 := (s.wr (Reg.VLV_STAT.EMBER n) 0).setValve n { s.valve n with emberAt := none }
      if s.vSt n = .thermal then s1.vEnter n .idle t else s1.reportValve n t
    else s

/-- EMBER_SET of a bank switch (R161). -/
def State.bankEmberSet (s : State) (b : Nat) (tj : Int) : State :=
  let t := s.vNow
  if s.bEnabled b && !s.flag (Reg.VLV_BSTAT.EMBER b) && decide (emberSetAt (.bank b) ≤ tj) then
    let s1 := (((s.wr (Reg.VLV_BSTAT.EMBER b) 1).raiseFlag (Reg.VLV_BCAUSE.EMBER b)).setBank b { s.bank b with emberAt := some t }).raiseD
      .v (bankSrc b) 0x04 t
    match s.bSt b with
    | .tripped => s1.reportBank b t
    | .locked => s1.reportBank b t
    | _ => (s1.bankDrop b VRes.thermal t).bEnter b .thermal t
  else s

/-- EMBER_RELEASE of a bank switch. -/
def State.bankEmberRelease (s : State) (b : Nat) (tj : Int) : State :=
  let t := s.vNow
  match (s.bank b).emberAt with
  | none => s
  | some e =>
    if s.bEnabled b && decide (e + 200000 ≤ t) && decide (tj ≤ emberRelAt (.bank b)) then
      let s1 := (s.wr (Reg.VLV_BSTAT.EMBER b) 0).setBank b { s.bank b with emberAt := none }
      if s.bSt b = .thermal then s1.bEnter b .off t else s1.reportBank b t
    else s

/-! ### Commands (R147, R148, R154) -/

/-- A CMD word is applied to channel n at boundary tick t (R148): a changed word waits for the next control step, with its stamp. -/
def State.applyValve (s : State) (n w t : Nat) : State :=
  if !s.vEnabled n then s
  else
    let s1 := s.wr (Reg.VLV_STAT.LIMPSRC n) 0
    if w = (s.valve n).word then s1.reportValve n t
    else ((s1.setValve n { s.valve n with word := w, applied := some (w, t) }).wr (Reg.VLV_STAT.OP n) (w % 4)).reportValve n t

/-- Channel n or its bank is blocked (R154, R437). -/
def State.vBlocked (s : State) (n : Nat) : Bool :=
  let st := s.vSt n
  let bs := s.bSt (valveBank n)
  decide (st = .tripped) || decide (st = .thermal) || decide (st = .locked) || decide (bs = .tripped) || decide (bs = .thermal)
    || decide (bs = .locked) || s.supplyBlocks .v

/-- ACTUATE or PULSE of an IDLE or releasing channel becomes a request (R154). -/
def State.makeReq (s : State) (n : Nat) (r : ValveReq) : State := s.setValve n { s.valve n with req := some r }

/-- The action of a valid changed word at control step t (R154). -/
def State.valveAct (s : State) (n w stamp t : Nat) : State :=
  let x := s.valve n
  let op := w % 4
  let p := bits w 4 3
  match s.vSt n with
  | .idle =>
    if op = 0 then s
    else if s.vBlocked n then s.valveResult n VRes.blocked t
    else s.makeReq n { op := op, prof := p, hold := p, stamp := stamp }
  | .wait =>
    if op = 0 then s.dropReq n VRes.cancelled t
    else if op = 1 then
      match x.req with
      | some r => s.setValve n { x with req := some { r with op := 1, hold := p } }
      | none => s
    else s.valveResult n VRes.blocked t
  | .peak =>
    if op = 0 then s.toRelease n VRes.released t
    else if op = 1 then s.setValve n { x with op := 1, hold := p }
    else s.valveResult n VRes.blocked t
  | .hold =>
    if op = 0 then s.toRelease n VRes.released t
    else if op = 1 then (s.setValve n { x with hold := p }).wr (Reg.VLV_STAT.PROF n) p
    else s.valveResult n VRes.blocked t
  | .release =>
    if op = 0 then s
    else if s.vBlocked n then s.valveResult n VRes.blocked t
    else s.makeReq n { op := op, prof := p, hold := p, stamp := stamp }
  | _ => if op = 0 then s else s.valveResult n VRes.blocked t

/-- The sequencer takes the word that waits for channel n (R147, R148). -/
def State.takeWord (s : State) (n t : Nat) : State :=
  match (s.valve n).applied with
  | none => s
  | some (w, stamp) =>
    let s1 := s.setValve n { s.valve n with applied := none }
    if s1.valveInvalid n w then
      ((s1.raiseFlag (Reg.VLV_CAUSE.INVCMD n)).raiseD .v (valveSrc n) 0x07 t).valveResult n VRes.invalid t
    else s1.valveAct n w stamp t

/-! ### The control step (R155, R156) -/

/-- PEAK_FAIL of channel n at control step t (R152). -/
def State.peakFailAt (s : State) (n t : Nat) : State :=
  let x := s.valve n
  if s.vSt n = .peak ∧ x.reached = false ∧ x.peakStart + profTrise x.profA ≤ t then
    (((s.raiseFlag (Reg.VLV_CAUSE.PEAKFAIL n)).raiseD .v (valveSrc n) 0x0B t).valveResult n VRes.peakfail t).toRelease n 0 t
  else s

/-- PEAK_END of channel n at control step t (R149, R152). -/
def State.peakEndAt (s : State) (n t : Nat) : State :=
  let x := s.valve n
  if s.vSt n = .peak ∧ x.peakStart + profTpeak x.profA ≤ t then
    if x.op = 1 then (s.toHold n t).valveResult n VRes.actuated t else s.toRelease n VRes.pulsed t
  else s

/-- A release ends when the current is below 20 mA at a control step, or at 20 mA when TREL has elapsed (R149, R153). -/
def State.releaseEndAt (s : State) (n t : Nat) : State :=
  let x := s.valve n
  if s.vSt n = .release ∧ (x.last < 20 ∨ x.last ≤ 20 ∧ x.relStart + profTrel x.profB ≤ t) then s.endRelease n t else s

/-- RELEASE_TIMEOUT of channel n at control step t (R153): still above 20 mA after TREL, a trip with cause CLAMP. -/
def State.releaseTimeoutAt (s : State) (n t : Nat) : State :=
  let x := s.valve n
  if s.vSt n = .release ∧ 20 < x.last ∧ x.relStart + profTrel x.profB ≤ t then s.valveTripAt n 3 t else s

/-- A new peak phase may start in bank b (R24, R154): frame boundaries arrive, or limp applies, and neither the bank nor the supply blocks it. -/
def State.peaksOpen (s : State) (b : Nat) : Bool :=
  (s.boundariesArrive .v || s.inLimp .v) && !s.supplyBlocks .v
    && !(decide (s.bSt b = .tripped) || decide (s.bSt b = .thermal) || decide (s.bSt b = .locked))

/-- A request of channel n that may start at this step starts its peak; one that cannot enters WAIT (R24, R155). -/
def State.startPeak (s : State) (n t : Nat) : State :=
  let x := s.valve n
  let b := valveBank n
  match x.req with
  | none => s
  | some r =>
    if s.vSt n ≠ .idle ∧ s.vSt n ≠ .wait then s
    else if s.peaksOpen b = true ∧ (s.bankChans b).any (fun k => decide (s.vSt k = .peak)) = false ∧ (profSrc (s.profA b r.prof) = 0 ∨ s.flag Reg.VLV_BSTSTAT.READY) then
      let x1 := { x with req := none, op := r.op, profA := s.profA b r.prof, profB := s.profB b r.prof, hold := r.hold, peakStart := t,
                         reached := false, lowSide := true, recirc := false, offEnd := 0, fast := false }
      (((s.setValve n x1).wr (Reg.VLV_STAT.PROF n) r.prof).count (Reg.VLV_CNT.ACT n) 1).vEnter n .peak t
    else if s.vSt n = .idle then (s.count (Reg.VLV_BCNT.DEFER b) 1).vEnter n .wait t
    else s

/-- The requests of bank b in their order: ascending stamp, then ascending index (R155). -/
def State.reqOrder (s : State) (b : Nat) : List Nat :=
  sortBy (fun i j =>
    match (s.valve i).req, (s.valve j).req with
    | some r, some q => decide (r.stamp < q.stamp) || (decide (r.stamp = q.stamp) && decide (i ≤ j))
    | _, _ => true) ((s.bankChans b).filter (fun n => (s.valve n).req.isSome))

/-- LEASH_EXPIRY of channel n at control step t (R155, R157). -/
def State.leashAt (s : State) (n t : Nat) : State :=
  let b := valveBank n
  match (s.valve n).req with
  | none => s
  | some r =>
    if r.leash = true ∧ r.stamp + s.rd (Reg.VLV_BCFG.LEASH b) * 2000 ≤ t then
      (s.count (Reg.VLV_BCNT.CONFLICT b) 1).dropReq n
        (if s.flag Reg.VLV_BSTSTAT.READY = false ∧ profSrc (s.profA b r.prof) = 1 then VRes.boostwait else VRes.conflict) t
    else s

/-- In a HOLD that began before this step the targets follow the hold profile and the low control steps are counted (R152, R154). -/
def State.holdStep (s : State) (n t : Nat) : State :=
  if s.vSt n = .hold ∧ (s.valve n).holdAt < t then
    let s1 := s.holdRefresh n
    let x := s1.valve n
    s1.setValve n { x with lowRun := if x.lowMiss then 0 else x.lowRun + 1, lowMiss := false }
  else s

/-- An overrun of the sequencer of bank b at tick t (R164, R171): peaks go to HOLD and requests are rejected with result OVERRUN, the bank raises a fault, the cycles of the step that was cut off count, and the sequencer stops until the next boundary. -/
def State.bankOverrunAt (s : State) (b t : Nat) : State :=
  let s1 := (((s.setBank b { s.bank b with seq := { stopped := true, last := t } }).seqHalt (10 + b)).count (Reg.VLV_SEQ.OVRCNT b) 1).raiseD
    .v (bankSrc b) 0x0A t
  let s2 := s1.wr (Reg.VLV_SEQ.PEAK b) (max (min (s.celAt (10 + b)).cyc 65535) (s.rd (Reg.VLV_SEQ.PEAK b)))
  (s.bankChans b).foldl (fun s n =>
    match s.vSt n with
    | .peak => ((s.raiseFlag (Reg.VLV_CAUSE.OVERRUN n)).toHold n t).valveResult n VRes.overrun t
    | _ => if (s.valve n).req.isSome then (s.raiseFlag (Reg.VLV_CAUSE.OVERRUN n)).dropReq n VRes.overrun t else s) s2

/-- The bank's sequencer runs: the bank is enabled or has a channel still to release, and no overrun stops it (R148, R164). -/
def State.bankRuns (s : State) (b : Nat) : Bool :=
  decide (b < 6) && (s.bEnabled b || (valvesOf b).any (fun n => s.vLive n)) && (s.ana .v).ready && !(s.bank b).seq.stopped

/-- The sequencer of bank b runs at tick t: a multiple of 1,000 (R148, R164). -/
def State.bankSteps (s : State) (b t : Nat) : Bool := s.bankRuns b && decide (t % 1000 = 0)

/-- A control step of bank b is due at tick t (R148). -/
def State.bankDue (s : State) (b t : Nat) : Bool := s.bankSteps b t && decide ((s.bank b).seq.last < t)

/-- The step of bank b at tick t (R156): leashes left over from the step before, phase ends, words in ascending index, peak starts; a step that has not finished by then is an overrun (R164). -/
def State.valveStepAt (s : State) (b t : Nat) : State :=
  if (s.celAt (10 + b)).running then s.bankOverrunAt b t
  else
    let q := (s.bank b).seq
    let cs := s.bankChans b
    let s0 := cs.foldl (fun s n => s.leashAt n q.last) s
    let s1 := (s0.setBank b { s0.bank b with seq := { q with last := t } }).seqStart (10 + b)
    let s2 := cs.foldl (fun s n => ((((s.holdStep n t).peakFailAt n t).peakEndAt n t).releaseTimeoutAt n t).releaseEndAt n t) s1
    let s3 := cs.foldl (fun s n => s.takeWord n t) s2
    (s3.reqOrder b).foldl (fun s n => s.startPeak n t) s3

/-- VALVE_CONTROL_STEP (R148, R156). -/
def State.valveStep (s : State) (b : Nat) : State := if s.bankDue b s.vNow then s.valveStepAt b s.vNow else s

def execValveControlStep (b : Nat) (s : State) : Res := .next (s.valveStep b)

/-- PEAK_END, PEAK_FAIL and RELEASE_TIMEOUT of one channel at a control step, ahead of the step's own items (R156). -/
def execPeakEnd (n : Nat) (s : State) : Res :=
  .next (if s.vLive n && s.bankSteps (valveBank n) s.vNow then s.peakEndAt n s.vNow else s)
def execPeakFail (n : Nat) (s : State) : Res :=
  .next (if s.vLive n && s.bankSteps (valveBank n) s.vNow then s.peakFailAt n s.vNow else s)
def execReleaseTimeout (n : Nat) (s : State) : Res :=
  .next (if s.vLive n && s.bankSteps (valveBank n) s.vNow then s.releaseTimeoutAt n s.vNow else s)

/-- LEASH_EXPIRY (R155 to R157): the last item of the control step the bank took last. -/
def execLeashExpiry (n : Nat) (s : State) : Res :=
  .next (if s.vEnabled n then s.leashAt n (s.bank (valveBank n)).seq.last else s)

/-- HOLD_LOW (R152): 200 control steps without a sample at IHOLD / 2. -/
def State.holdLow (s : State) (n : Nat) : State :=
  if s.vEnabled n && decide (s.vSt n = .hold) && !s.flag (Reg.VLV_STAT.HOLDLOW n) && decide (200 ≤ (s.valve n).lowRun) then
    (((s.wr (Reg.VLV_STAT.HOLDLOW n) 1).raiseFlag (Reg.VLV_CAUSE.HOLDLOW n)).raiseD .v (valveSrc n) 0x0C s.vNow).reportValve n s.vNow
  else s

def execHoldLow (n : Nat) (s : State) : Res := .next (s.holdLow n)

/-- BANK_SEQ_OVERRUN (R164): the next step is due and the last has not finished. -/
def State.bankOverrun (s : State) (b : Nat) : State :=
  if s.bankDue b s.vNow && (s.celAt (10 + b)).running then s.bankOverrunAt b s.vNow else s

def execBankSeqOverrun (b : Nat) (s : State) : Res := .next (s.bankOverrun b)

/-! ### Regulation and sampling (R146, R151 to R153) -/

/-- The target and the off-time of the phase that runs. -/
def State.vTarget (s : State) (n : Nat) : Nat × Nat :=
  let x := s.valve n
  if s.vSt n = .peak then (profIpeak x.profA, profToff x.profA) else (x.holdI, x.holdT)

/-- VALVE_CURRENT_TARGET_REACHED (R151): the low side turns off for the off-time, the recirculation switch on. -/
def State.targetReached (s : State) (n cur : Nat) : State :=
  let x := s.valve n
  if s.vEnabled n && (decide (s.vSt n = .peak) || decide (s.vSt n = .hold)) && x.lowSide && decide ((s.vTarget n).1 ≤ cur) then
    s.setValve n { x with lowSide := false, recirc := true, offEnd := s.vNow + (s.vTarget n).2 }
  else s

def execValveCurrentTargetReached (n cur : Nat) (s : State) : Res := .next (s.targetReached n cur)

/-- VALVE_OFF_TIME_END (R151): the low side conducts again. -/
def State.offTimeEnd (s : State) (n : Nat) : State :=
  let x := s.valve n
  if s.vEnabled n && (decide (s.vSt n = .peak) || decide (s.vSt n = .hold)) && x.recirc && decide (x.offEnd ≤ s.vNow) then
    s.setValve n { x with lowSide := true, recirc := false, offEnd := 0 }
  else s

def execValveOffTimeEnd (n : Nat) (s : State) : Res := .next (s.offTimeEnd n)

/-- A valve sample at tick t, at 12 bits of 8 A: window sums, the peak target, fast decay, the low hold, and the clamp energy (R146, R151 to R153). -/
def State.valveSample (s : State) (t : Nat) (y : ValveSample) : State :=
  let n := y.n
  if !s.vLive n then s
  else
    let cur := adc12 8000 y.cur
    let x := { s.valve n with last := cur, nSamp := (s.valve n).nSamp + 1, sumCur := (s.valve n).sumCur + cur }
    let ih := if s.vSt n = .peak then profIhold (s.profB (valveBank n) x.hold) else x.holdI
    let s0 := if s.flag (Reg.VLV_STAT.HOLDLOW n) && decide ((ih : Int) ≤ cur) then (s.wr (Reg.VLV_STAT.HOLDLOW n) 0).reportValve n t else s
    match s.vSt n with
    | .peak => s0.setValve n { x with reached := x.reached || decide ((profIpeak x.profA : Int) ≤ cur) }
    | .hold =>
      let down := x.fast && decide (cur ≤ x.holdI)
      s0.setValve n { x with fast := x.fast && !down, lowSide := x.lowSide || down, lowMiss := x.lowMiss || decide ((x.holdI : Int) ≤ 2 * cur) }
    | .release =>
      let e := x.energy + y.volt * cur.toNat
      let lim := s.rd (Reg.VLV_BCFG.EMAX (valveBank n)) * 1000
      let s1 := s0.setValve n { x with energy := e }
      if lim ≠ 0 ∧ lim < energyUj e ∧ energyUj x.energy ≤ lim then (s1.raiseFlag (Reg.VLV_CAUSE.EHIGH n)).raiseD .v (valveSrc n) 0x0D t else s1
    | _ => s0.setValve n x

/-- A bank sample, at 12 bits of 16 A (R146, R170). -/
def State.bankSample (s : State) (y : ValveSample) : State :=
  if !s.bEnabled y.n then s
  else
    let x := s.bank y.n
    s.setBank y.n { x with nSamp := x.nSamp + 1, sumCur := x.sumCur + adc12 16000 y.cur, sumNode := x.sumNode + y.volt }

/-- The end of a sensing window of channel n and of bank b (R146). -/
def State.valveWindow (s : State) (n : Nat) : State :=
  let x := s.valve n
  if x.nSamp = 0 then s
  else
    let c := x.sumCur / (x.nSamp : Int)
    (s.setValve n { x with nSamp := 0, sumCur := 0, cur := c }).wr (Reg.VLV_MEAS.CUR n) (fieldOfInt 16 (c / 2))

def State.bankWindow (s : State) (b : Nat) : State :=
  let x := s.bank b
  if x.nSamp = 0 then s
  else
    let c := x.sumCur / (x.nSamp : Int)
    ((s.setBank b { x with nSamp := 0, sumCur := 0, sumNode := 0, cur := c }).wr (Reg.VLV_BMEAS.CUR b) (fieldOfInt 16 (c / 2))).wr
      (Reg.VLV_BMEAS.VNODE b) (min (x.sumNode / x.nSamp / 10) 65535)

/-! ### The boost rail (R158, R159) -/

/-- Content of the BOOST entry (R146). -/
def State.reportBoost (s : State) (t : Nat) : State :=
  s.unitD .v 0x1300 ((min s.bst.rail 65535 + 65536 * s.rd Reg.VLV_BSTSTAT.READY : Nat) : Int) t 0x0430

/-- The boost controller may switch: enabled, die V runs, and its supply permits (R158, R437). -/
def State.boostMay (s : State) : Bool := s.flag Reg.VLV_BST.BSTEN && (s.ana .v).ready && !s.supplyBlocks .v

/-- A rail sample in mV at tick t. -/
def State.boostSample (s : State) (t rail : Nat) : State :=
  let up := decide (s.rd Reg.VLV_BSTRDY.VRDY * 100 ≤ rail)
  { s.wr Reg.VLV_BSTSTAT.VRAIL (min (rail / 10) 65535) with
    bst := { s.bst with rail := rail, since := if up then (match s.bst.since with
      | some k => some k
      | none => some t) else none } }

/-- BOOST_READY (R158): 2,000 consecutive ticks at or above VRDY, with the controller enabled. -/
def State.boostReady (s : State) : State :=
  match s.bst.since with
  | some k =>
    let e := max (k + 2000) s.bst.enAt
    if s.flag Reg.VLV_BST.BSTEN && (s.ana .v).ready && !s.flag Reg.VLV_BSTSTAT.READY && decide (e ≤ s.vNow) then
      (s.wr Reg.VLV_BSTSTAT.READY 1).reportBoost e
    else s
  | none => s

def execBoostReady (s : State) : Res := .next s.boostReady

/-- BOOST_READY_LOSS (R158, R159): the rail below VRDY − 1.0 V. -/
def State.boostReadyLoss (s : State) : State :=
  if s.flag Reg.VLV_BSTSTAT.READY && decide (s.bst.rail + 1000 < s.rd Reg.VLV_BSTRDY.VRDY * 100) then
    ({ (s.wr Reg.VLV_BSTSTAT.READY 0).count Reg.VLV_BSTCNT.LOSS 1 with bst := { s.bst with since := none, notReady := s.vNow } } : State).reportBoost s.vNow
  else s

def execBoostReadyLoss (s : State) : Res := .next s.boostReadyLoss

/-- BOOST_NOT_READY (R159): each further 20 ms without READY. -/
def State.boostNotReady (s : State) : State :=
  let e := s.bst.notReady + 4000000
  if s.flag Reg.VLV_BST.BSTEN && (s.ana .v).ready && !s.flag Reg.VLV_BSTSTAT.READY && decide (e ≤ s.vNow) then
    let s1 := (s.raiseFlag Reg.VLV_BSTCAUSE.NOTREADY).faultD .v 0x0430 0x0E e
    { s1 with bst := { s.bst with notReady := e } }
  else s

def execBoostNotReady (s : State) : Res := .next s.boostNotReady

/-- BOOST_OVP (R159): above VSET + 4.0 V, or above 52 V. -/
def State.boostOvp (s : State) : State :=
  if s.flag Reg.VLV_BST.BSTEN && !s.bst.ovp && (decide (s.rd Reg.VLV_BST.VSET * 100 + 4000 < s.bst.rail) || decide (52000 < s.bst.rail)) then
    let s1 := ((s.raiseFlag Reg.VLV_BSTCAUSE.OVP).wr Reg.VLV_BSTSTAT.RUN 0).raiseD .v 0x0430 0x0F s.vNow
    { s1 with bst := { s.bst with ovp := true } }
  else s

def execBoostOvp (s : State) : Res := .next s.boostOvp

/-- BOOST_OVP_END (R159): the rail below VSET. -/
def State.boostOvpEnd (s : State) : State :=
  if s.bst.ovp && decide (s.bst.rail < s.rd Reg.VLV_BST.VSET * 100) then
    { s.wr Reg.VLV_BSTSTAT.RUN (b2n s.boostMay) with bst := { s.bst with ovp := false } }
  else s

def execBoostOvpEnd (s : State) : Res := .next s.boostOvpEnd

/-- The boost controller starts, or follows a change of its enable or supply at tick t (R158, R159, R167, R437): an enable starts its times anew, a disable clears READY. -/
def State.boostFollow (s : State) (t : Nat) : State :=
  let en := s.flag Reg.VLV_BST.BSTEN
  let s1 := s.wr Reg.VLV_BSTSTAT.RUN (b2n (s.boostMay && !s.bst.ovp))
  if en && !s.bst.en then { s1 with bst := { s1.bst with en := true, enAt := t, notReady := t } }
  else if en then s1
  else
    let s2 : State := { s1 with bst := { s1.bst with en := false, notReady := t } }
    if s.flag Reg.VLV_BSTSTAT.READY then ((s2.wr Reg.VLV_BSTSTAT.READY 0).count Reg.VLV_BSTCNT.LOSS 1).reportBoost t else s2

/-! ### Clears, limp, commit, supply (R163, R165, R166, R437) -/

/-- The firmware clear of channel n and of bank b at boundary tick t (R163). -/
def State.clearValve (s : State) (n t : Nat) : State :=
  let s1 := (s.wr (Reg.VLV_STAT.TRIPRUN n) 0).event 0x0481 t (valveSrc n)
  if s.vSt n = .locked then s1.vRest n t else s1

def State.clearBank (s : State) (b t : Nat) : State :=
  let s1 := (s.wr (Reg.VLV_BSTAT.TRIPRUN b) 0).event 0x0481 t (bankSrc b)
  if s.bSt b = .locked then s1.bRest b t else s1

/-- A clear is requested (R163). -/
def State.requestValveClear (s : State) (n : Nat) (tag : Option Nat) : State :=
  s.setValve n { s.valve n with clear := true, clearTags := (s.valve n).clearTags ++ tag.toList }

def State.requestBankClear (s : State) (b : Nat) (tag : Option Nat) : State :=
  s.setBank b { s.bank b with clear := true, clearTags := (s.bank b).clearTags ++ tag.toList }

/-- The limp state OFF of channel n (R165, R167): what holds is released, what waits or has not been taken ends LIMP. -/
def State.limpOff (s : State) (n t : Nat) : State :=
  let s1 := (s.setValve n { s.valve n with applied := none }).dropReq n VRes.limp t
  match s1.vSt n with
  | .peak => s1.toRelease n VRes.released t
  | .hold => s1.toRelease n VRes.released t
  | _ => s1

/-- The limp state ON: an IDLE channel makes a request without a leash, which waits until R155 lets it start (R165). -/
def State.limpOn (s : State) (n t : Nat) : State :=
  let p := s.rd (Reg.VLV_CFG.LIMPPROF n)
  let s1 := s.setValve n { s.valve n with applied := none }
  if s.vSt n = .idle ∧ (s.valve n).req = none then s1.makeReq n { op := 1, prof := p, hold := p, stamp := t, leash := false } else s1

/-- The last thing applied to the channel is its limp state (R149, R165). -/
def State.showLimp (s : State) (n t : Nat) : State := (s.wr (Reg.VLV_STAT.LIMPSRC n) 1).reportValve n t

/-- Limp entry of channel n (R165). -/
def State.limpValve (s : State) (n t : Nat) : State :=
  (match s.rd (Reg.VLV_CFG.LIMP n) with
    | 1 => s.limpOff n t
    | 2 => s.limpOn n t
    | _ => s).showLimp n t

/-- Leaving limp: any written word acts (R165). -/
def State.unlimpValve (s : State) (n : Nat) : State := s.setValve n { s.valve n with word := 0xFFFFFFFF }

/-- A commit that changes the fields or profiles of bank b (R166). -/
def State.commitBank (s : State) (b t : Nat) : State := (s.bankChans b).foldl (fun s n => s.dropReq n VRes.commit t) s

/-- A channel whose ENABLE goes to 0 at a commit (R166): it writes COMMIT, what drives is released through its clamp, and nothing else is left of it but its ember latch. -/
def State.commitValveOff (s : State) (n t : Nat) : State :=
  let s1 := (s.setValve n { s.valve n with req := none, applied := none, word := 0 }).valveResult n VRes.commit t
  match s.vSt n with
  | .peak => s1.toRelease n 0 t
  | .hold => s1.toRelease n 0 t
  | .release => s1.setValve n { s1.valve n with relRes := 0 }
  | _ => s1.vEnter n .idle t

/-- Entry of die V into UV, GNDSHIFT or OV (R437). -/
def State.valvesHeldOff (s : State) (t : Nat) : State :=
  let s1 := ((List.range 24).filter (fun n => s.vEnabled n)).foldl (fun s n =>
    match s.vSt n with
    | .peak => (s.valveResult n VRes.blocked t).toRelease n 0 t
    | .hold => (s.valveResult n VRes.blocked t).toRelease n 0 t
    | _ => s.dropReq n VRes.blocked t) s
  s1.boostFollow t

/-- Start of die V (R167): channels IDLE, banks OFF, every TRIPRUN 0, the boost controller once the parameters have arrived. -/
def State.startValves (s : State) (t : Nat) : State :=
  let s1 := ((List.range 24).filter (fun n => s.vEnabled n)).foldl (fun s n =>
    ((s.setValve n {}).setWord (Reg.VLV_STAT.STATE n).off 0#32).reportValve n t) s
  let s2 := ((List.range 6).filter (fun b => s.bEnabled b)).foldl (fun s b =>
    ((s.setBank b {}).setWord (Reg.VLV_BSTAT.STATE b).off 0#32).reportBank b t) s1
  ({ s2.wr Reg.VLV_BSTSTAT.READY 0 with bst := { notReady := t } } : State).boostFollow t

end Sys2Proof.Machine
end

