-- ==== Sys2Proof/Machine/LedSinks.lean ====
section
/-! DEFINITION. LED sinks (R172 to R182): curves, positions and fades, the command word, periods, the open and short checks, foldback and the array ember latch, and limp. -/

namespace Sys2Proof.Machine

/-! ### State of a sink -/

/-- LED sink states (R178). -/
inductive LedSt where
  | off | lit | fading | shorted | thermal
  deriving DecidableEq, Repr

def LedSt.code : LedSt → Nat
  | .off => 0
  | .lit => 1
  | .fading => 2
  | .shorted => 3
  | .thermal => 4

def ledStOf : Nat → LedSt
  | 0 => .off
  | 1 => .lit
  | 2 => .fading
  | 3 => .shorted
  | _ => .thermal

def LedSink.blank : Nat → LedSink := fun _ => {}
def State.sink (s : State) (n : Nat) : LedSink := SMap.get LedSink.blank s.ld n
def State.setSink (s : State) (n : Nat) (x : LedSink) : State := { s with ld := SMap.set LedSink.blank s.ld n x }
def State.lSt (s : State) (n : Nat) : LedSt := ledStOf (s.rd (Reg.LED_STAT.STATE n))
def State.lEnabled (s : State) (n : Nat) : Bool := decide (n < 48) && s.flag (Reg.LED_CFG.ENABLE n)
def ledEntry (n : Nat) : Nat := 0x1400 + 16 * n

/-- Content of the STATE entry (R175). -/
def State.ledStateValue (s : State) (n : Nat) : Nat :=
  s.rd (Reg.LED_STAT.STATE n) + 16 * s.rd (Reg.LED_STAT.OPEN n) + 32 * s.rd (Reg.LED_STAT.LIMPSRC n) + 256 * s.rd (Reg.LED_STAT.POS n)

def State.reportLed (s : State) (n t : Nat) : State := s.reportD .v (ledEntry n + 1) (s.ledStateValue n) t (ledSrc n)

/-! ### Curves (R174) -/

/-- The greatest `v` below 2^k above `acc` for which `p` holds, `p` holding up to some bound. -/
def greatest (p : Nat → Bool) : Nat → Nat → Nat
  | 0, acc => acc
  | k + 1, acc => if p (acc + 2 ^ k) then greatest p k (acc + 2 ^ k) else greatest p k acc

/-- A point of a curve (R174): v is the rounded value when (2v - 1) / 2 is at most the exact one. -/
def State.curvePoint (s : State) (curve p : Nat) : Nat :=
  match curve with
  | 0 => roundDiv (4095 * p) 255
  | 1 => if p = 0 then 0 else greatest (fun v => decide ((2 * v - 1) ^ 32 * 2 ^ (255 - p) ≤ 8190 ^ 32)) 12 0
  | 2 => greatest (fun v => decide ((2 * v - 1) ^ 5 * 255 ^ 11 ≤ 8190 ^ 5 * p ^ 11)) 12 0
  | _ => if p % 2 = 0 then s.rd (Reg.LED_UCURVE.PEVEN (p / 2)) else s.rd (Reg.LED_UCURVE.PODD (p / 2))

/-- The duty at a position in 8.8 (R174). -/
def State.curveDuty (s : State) (curve x : Nat) : Nat :=
  let i := x / 256
  if 255 ≤ i then s.curvePoint curve 255
  else
    let a : Int := s.curvePoint curve i
    let b : Int := s.curvePoint curve (i + 1)
    (a + (b - a) * (x % 256 : Nat) / 256).toNat

/-! ### Position and current (R172, R177, R180) -/

/-- The position of a fade at tick t, truncated toward its start (R177). -/
def Fade.at (f : Fade) (t : Nat) : Nat :=
  let el := min (t - f.t0) f.len
  if f.x0 ≤ f.goal then f.x0 + (f.goal - f.x0) * el / f.len else f.x0 - (f.x0 - f.goal) * el / f.len

/-- The position that the timeline of sink n gives at tick t. -/
def State.ledPos (s : State) (n t : Nat) : Nat :=
  match (s.sink n).fade with
  | some f => f.at t
  | none => (s.sink n).x

/-- G_eff (R180) from the `GLOBAL` that the running period of sink n took (R182). -/
def State.ledGlobal (s : State) (n : Nat) : Nat := (s.sink n).glob * (16 - s.rd Reg.LED_GSTAT.FOLD) / 16

/-- The target current of sink n in µA (R172). -/
def State.ledTarget (s : State) (n : Nat) : Nat := 60000 * s.ledGlobal n * (s.sink n).lev / 65025

/-- The PWM period (R173). -/
def State.ledPeriod (s : State) : Nat := roundDiv 200000000 (s.rd Reg.LED_GCFG.FREQ * 100)

/-- Sink n conducts at tick t (R173, R178). -/
def State.ledConducts (s : State) (n t : Nat) : Bool :=
  (decide (s.lSt n = .lit) || decide (s.lSt n = .fading)) && decide ((s.sink n).edge ≤ t) && decide (t < (s.sink n).onUntil)

/-- The map bit of sink n (R185). -/
def State.ledMap (s : State) (n : Nat) (b : Bool) : State :=
  if n < 32 then s.wr ⟨Reg.LED_SHORTMAP.MAP0.off, n, 1⟩ (b2n b) else s.wr ⟨Reg.LED_SHORTMAP1.MAP1.off, n - 32, 1⟩ (b2n b)

/-- Sink n enters a state at tick t: outside LIT and FADING it carries no current (R178). -/
def State.ledEnter (s : State) (n : Nat) (st : LedSt) (t : Nat) : State :=
  let s1 := s.wr (Reg.LED_STAT.STATE n) st.code
  let s2 := if st = .lit ∨ st = .fading then s1
    else (s1.setSink n { s1.sink n with onUntil := 0, openRun := 0, okRun := 0, shortRun := 0 }).wr (Reg.LED_MEAS.DUTY n) 0
  (s2.ledMap n (decide (st = .shorted))).reportLed n t

/-- The state a running timeline gives: THERMAL while the array latch is set (DESIGN CHOICE, log entry 29). -/
def State.ledRunSt (s : State) (n : Nat) : LedSt :=
  if s.flag Reg.LED_GSTAT.EMBER then .thermal else if (s.sink n).fade.isSome then .fading else .lit

/-- The position of sink n is set. -/
def State.setLedPos (s : State) (n x : Nat) : State := (s.setSink n { s.sink n with x := x }).wr (Reg.LED_STAT.POS n) x

/-! ### Commands (R176, R177, R178) -/

/-- An invalid word (R176). -/
def ledInvalid (w : Nat) : Bool := decide (w % 4 = 3) || decide (w / 2 ^ 25 ≠ 0)

/-- SET acts at tick t (R177). -/
def State.ledSet (s : State) (n pos curve t : Nat) : State :=
  let s1 := (s.setSink n { s.sink n with fade := none, curve := curve }).setLedPos n (pos * 256)
  s1.ledEnter n (s1.ledRunSt n) t

/-- OFF acts at tick t (R177). -/
def State.ledOff (s : State) (n t : Nat) : State :=
  ((s.setSink n { s.sink n with fade := none }).setLedPos n 0).ledEnter n .off t

/-- A valid word acts at tick t (R177); with it a limp state no longer applies (R181). -/
def State.ledAct (s0 : State) (n w t : Nat) : State :=
  let s := s0.wr (Reg.LED_STAT.LIMPSRC n) 0
  let curve := bits w 2 2
  let pos := bits w 4 8
  let len := bits w 12 12 * (if bits w 24 1 = 1 then 2000000 else 200000)
  let x0 := s.ledPos n t
  match w % 4 with
  | 0 => s.ledOff n t
  | 1 => s.ledSet n pos curve t
  | _ =>
    if len = 0 ∨ x0 = pos * 256 then s.ledSet n pos curve t
    else
      let s1 := (s.setSink n { s.sink n with curve := curve, fade := some { t0 := t, len := len, x0 := x0, goal := pos * 256 } }).setLedPos n x0
      s1.ledEnter n (s1.ledRunSt n) t

/-- A CMD word is applied to sink n at boundary tick t (R176, R178, R181).  An invalid word leaves the sink as it is, in SHORTED the stored word too (DESIGN CHOICE, log entry 28). -/
def State.applyLed (s : State) (n w t : Nat) : State :=
  let k := s.sink n
  if !s.lEnabled n || (decide (w = k.word) && !k.always) then s
  else if ledInvalid w then
    ((s.setSink n { k with word := w, always := false }).raiseFlag (Reg.LED_STAT.INVCMD n)).raiseD .v (ledSrc n) 0x07 t
  else
    let s1 := s.setSink n { k with word := w, always := false, stored := w }
    if s.lSt n = .shorted then s1 else s1.ledAct n w t

/-- The firmware clear of sink n at boundary tick t (R178): the stored word acts as a changed word. -/
def State.clearLed (s : State) (n t : Nat) : State :=
  let s1 := s.event 0x0581 t (ledSrc n)
  if s.lSt n = .shorted then
    let s2 := ((s1.setSink n { s1.sink n with fade := none }).setLedPos n 0).ledEnter n .off t
    s2.ledAct n (s2.sink n).stored t
  else s1

def State.requestLedClear (s : State) (n : Nat) (tag : Option Nat) : State :=
  s.setSink n { s.sink n with clear := true, clearTags := (s.sink n).clearTags ++ tag.toList }

/-- Limp entry of sink n (R181); a sink in SHORTED takes no command. -/
def State.limpLed (s : State) (n t : Nat) : State :=
  let s1 := s.wr (Reg.LED_STAT.LIMPSRC n) 1
  if s.lSt n = .shorted then s1.reportLed n t
  else
    match s.rd (Reg.LED_CFG.LIMP n) with
    | 1 => s1.ledOff n t
    | 2 => s1.ledSet n (s.rd (Reg.LED_CFG.LIMPPOS n)) 0 t
    | _ => s1.reportLed n t

/-- Leaving limp: the next written word acts whatever it is (R181). -/
def State.unlimpLed (s : State) (n : Nat) : State := s.setSink n { s.sink n with always := true }

/-! ### Periods (R173, R177) -/

/-- The first tick from `a` on at which sink n starts a period of `per` ticks (R173). -/
def ledFirst (per n a : Nat) : Nat := a + (per + n % 16 * (per / 16) - a % per) % per

/-- The period whose grid sink n follows at tick t (R173, R182): the old one up to its first start from the boundary of a change of `FREQ` on. -/
def State.ledGrid (s : State) (n t : Nat) : Nat :=
  let k := s.sink n
  if k.oldPer ≠ 0 ∧ t ≤ ledFirst k.oldPer n k.gridAt then k.oldPer else s.ledPeriod

/-- Tick t is a period start of sink n (R173). -/
def State.ledStarts (s : State) (n t : Nat) : Bool :=
  let per := s.ledGrid n t
  decide (t % per = n % 16 * (per / 16))

/-- The fade of sink n is over at tick t. -/
def State.fadeOver (s : State) (n t : Nat) : Bool :=
  match (s.sink n).fade with
  | some f => decide (f.t0 + f.len ≤ t)
  | none => false

/-- LED_PERIOD_START (R173, R174, R177, R182): the duty of the position at this tick, on the values of the active image; a fade that is due ends, in LIT where the sink is not in THERMAL. -/
def State.ledPeriodStart (s : State) (n : Nat) : State :=
  let t := s.vNow
  if s.lEnabled n && (s.ana .v).ready && s.ledStarts n t && (decide (s.lSt n = .lit) || decide (s.lSt n = .fading) || decide (s.lSt n = .thermal)) then
    let ended := s.fadeOver n t
    let x := s.ledPos n t
    let s1 := s.setLedPos n x
    let s2 := if ended then s1.setSink n { s1.sink n with fade := none } else s1
    if s.lSt n = .thermal then (if ended then s2.reportLed n t else s2)
    else
      let d := s2.curveDuty (s2.sink n).curve x
      let e := if d = 4095 then t + s.ledPeriod else t + s.ledPeriod * d / 4096
      let k := s2.sink n
      let s3 := (s2.setSink n { k with
        onUntil := e, edge := if t ≤ k.onUntil ∧ k.edge < t then k.edge else t,
        glob := s.rd Reg.LED_GCFG.GLOBAL, lev := s.rd (Reg.LED_CFG.LEVEL n) }).wr (Reg.LED_MEAS.DUTY n) d
      if ended then s3.ledEnter n .lit t else s3
  else s

def execLedPeriodStart (n : Nat) (s : State) : Res := .next (s.ledPeriodStart n)

/-! ### Diagnostics (R179) -/

/-- A sample of sink n at tick t, taken in its on-time at least 1 µs after the on edge; on-times below 2 µs take none (R179).  A suspension of the open check ends its run (DESIGN CHOICE, log entry 27). -/
def State.ledSample (s : State) (t : Nat) (y : LedSample) : State :=
  let n := y.n
  let k := s.sink n
  if s.lEnabled n && s.ledConducts n t && decide (k.edge + 200 ≤ t) && decide (k.edge + 400 ≤ k.onUntil) then
    let low := decide (2 * y.cur < s.ledTarget n)
    let isOpen := low && decide (y.volt < 300)
    let isShort := decide (s.rd Reg.LED_DIAG.VSHORT * 100 ≤ y.volt)
    let susp := decide ((s.ana .v).vf * 10 < s.rd Reg.LED_DIAG.VBMIN * 100)
    (s.setSink n { k with openRun := if isOpen && !susp then k.openRun + 1 else 0,
                          okRun := if low then 0 else k.okRun + 1,
                          shortRun := if isShort then k.shortRun + 1 else 0,
                          shortStamp := if isShort ∧ k.shortRun < 16 then t else k.shortStamp,
                          measured := true }).wr (Reg.LED_MEAS.VSINK n) (min y.volt 65535)
  else s

/-- LED_OPEN (R179). -/
def State.ledOpen (s : State) (n : Nat) : State :=
  if s.lEnabled n && !s.flag (Reg.LED_STAT.OPEN n) && decide (16 ≤ (s.sink n).openRun) then
    ((s.wr (Reg.LED_STAT.OPEN n) 1).faultD .v (ledSrc n) 0x08 s.vNow).reportLed n s.vNow
  else s

def execLedOpen (n : Nat) (s : State) : Res := .next (s.ledOpen n)

/-- LED_OPEN_CLEAR (R179). -/
def State.ledOpenClear (s : State) (n : Nat) : State :=
  if s.lEnabled n && s.flag (Reg.LED_STAT.OPEN n) && decide (16 ≤ (s.sink n).okRun) then
    (s.wr (Reg.LED_STAT.OPEN n) 0).reportLed n s.vNow
  else s

def execLedOpenClear (n : Nat) (s : State) : Res := .next (s.ledOpenClear n)

/-- LED_SHORT (R179): SHORTED, with the stamp of the sixteenth sample. -/
def State.ledShort (s : State) (n : Nat) : State :=
  let k := s.sink n
  if s.lEnabled n && (decide (s.lSt n = .lit) || decide (s.lSt n = .fading)) && decide (16 ≤ k.shortRun) then
    ((s.raiseFlag (Reg.LED_STAT.SHORT n)).faultD .v (ledSrc n) 0x01 k.shortStamp).ledEnter n .shorted s.vNow
  else s

def execLedShort (n : Nat) (s : State) : Res := .next (s.ledShort n)

/-! ### Foldback and the array latch (R180) -/

/-- k after a foldback step at junction `tj` in 1/16 °C. -/
def foldStep (k : Nat) (tj : Int) : Nat := if 140 * 16 ≤ tj then min 8 (k + 1) else if tj ≤ 135 * 16 then k - 1 else k

/-- LED_FOLDBACK_STEP (R180). -/
def State.foldback (s : State) (tj : Int) : State :=
  let t := s.vNow
  if (s.ana .v).ready && decide (t % 2000000 = 0) && decide (s.ledArr.lastFold ≠ t) then
    let k := s.rd Reg.LED_GSTAT.FOLD
    let n := foldStep k tj
    let s1 : State := { (s.wr Reg.LED_GSTAT.FOLD n).wr Reg.LED_GSTAT.TJ (fieldOfInt 16 tj) with ledArr := { s.ledArr with lastFold := t } }
    if k = 0 ∧ n = 1 then s1.faultD .v 0x0530 0x10 t else s1
  else s

def execLedFoldbackStep (tj : Int) (s : State) : Res := .next (s.foldback tj)

/-- EMBER_SET of the array (R178, R180). -/
def State.arrayEmberSet (s : State) (tj : Int) : State :=
  let t := s.vNow
  if !s.flag Reg.LED_GSTAT.EMBER && decide (emberSetAt .array ≤ tj) then
    let s0 : State := { s with ledArr := { s.ledArr with emberAt := some t } }
    let s1 := (s0.wr Reg.LED_GSTAT.EMBER 1).raiseD .v 0x0530 0x04 t
    ((List.range 48).filter (fun n => s.lEnabled n && (decide (s.lSt n = .lit) || decide (s.lSt n = .fading)))).foldl
      (fun s n => s.ledEnter n .thermal t) s1
  else s

/-- EMBER_RELEASE of the array (R178): a sink enters LIT or FADING as its timeline has it. -/
def State.arrayEmberRelease (s : State) (tj : Int) : State :=
  let t := s.vNow
  match s.ledArr.emberAt with
  | none => s
  | some e =>
    if e + 200000 ≤ t ∧ tj ≤ emberRelAt .array then
      let s0 : State := { s with ledArr := { s.ledArr with emberAt := none } }
      ((List.range 48).filter (fun n => s.lEnabled n && decide (s.lSt n = .thermal))).foldl (fun s n =>
        let x := s.ledPos n t
        let s1 := if s.fadeOver n t then (s.setSink n { s.sink n with fade := none }).setLedPos n x else s.setLedPos n x
        s1.ledEnter n (s1.ledRunSt n) t) (s0.wr Reg.LED_GSTAT.EMBER 0)
    else s

/-! ### Commit and start (R182) -/

/-- Sink n stands in OFF with no command, its clear still waiting (R178, R182). -/
def State.blankLed (s : State) (n : Nat) : State :=
  let k := s.sink n
  ((((s.setSink n { clear := k.clear, clearTags := k.clearTags }).wr (Reg.LED_STAT.STATE n) 0).wr (Reg.LED_STAT.LIMPSRC n) 0).wr (Reg.LED_STAT.POS n) 0
    |>.wr (Reg.LED_MEAS.DUTY n) 0).ledMap n false

/-- A commit (R182): OPEN clears for every sink, and its check begins anew (DESIGN CHOICE, log entry 27); a sink whose ENABLE goes to 0 turns off. -/
def State.commitLed (s : State) (n t : Nat) (turnedOff : Bool) : State :=
  let s1 := s.wr (Reg.LED_STAT.OPEN n) 0
  if turnedOff then s1.blankLed n
  else
    let s2 := s1.setSink n { s1.sink n with openRun := 0, okRun := 0 }
    if s.flag (Reg.LED_STAT.OPEN n) then s2.reportLed n t else s2

/-- Start of die V: every sink OFF, k = 0 (R182). -/
def State.startLeds (s : State) (t : Nat) : State :=
  let s0 : State := { s with ledArr := {} }
  let s1 := (List.range 48).foldl (fun s n => (s.blankLed n).wr (Reg.LED_STAT.OPEN n) 0) ((s0.wr Reg.LED_GSTAT.FOLD 0).wr Reg.LED_GSTAT.EMBER 0)
  ((List.range 48).filter (fun n => s1.lEnabled n)).foldl (fun s n => s.reportLed n t) s1

end Sys2Proof.Machine
end

