-- ==== Sys2Proof/Machine/Inputs.lean ====
section
/-! DEFINITION. Switch inputs (R186 to R195): the comparator, debounce, reports, the low-battery suspension, chatter, the start of an input, and the poll of an input in PARK. -/

namespace Sys2Proof.Machine

def Input.blank : Nat → Input := fun _ => {}
def State.input (s : State) (n : Nat) : Input := SMap.get Input.blank s.inp n
def State.setInput (s : State) (n : Nat) (x : Input) : State := { s with inp := SMap.set Input.blank s.inp n x }
def State.iEnabled (s : State) (n : Nat) : Bool := decide (n < 160) && s.flag (Reg.INP_CFG.ENABLE n)
def State.iNow (s : State) (n : Nat) : Nat := s.dieNow (inputDie n)
def inputEntry (n : Nat) : Nat := 0x1800 + 4 * n

/-- The inputs of a die. -/
def inputsOf (d : Die) : List Nat :=
  match d with
  | .p0 => List.range 80
  | .p1 => (List.range 80).map (fun i => i + 80)
  | .v => []

/-! ### Levels (R186) -/

/-- The comparator's level at `v` mV: 1 at or above VTHH, 0 at or below VTHL, else what it was. -/
def State.compare (s : State) (n v : Nat) (was : Bool) : Bool :=
  if s.rd (Reg.INP_THR.VTHH n) * 100 ≤ v then true else if v ≤ s.rd (Reg.INP_THR.VTHL n) * 100 then false else was

/-- The comparator's level at a start: 1 only at or above VTHH (R192, R193). -/
def State.compareStart (s : State) (n v : Nat) : Bool := decide (s.rd (Reg.INP_THR.VTHH n) * 100 ≤ v)

/-- A level after `INV`. -/
def State.inverted (s : State) (n : Nat) (raw : Bool) : Bool := raw != s.flag (Reg.INP_CFG.INV n)

/-- The accepted level. -/
def State.level (s : State) (n : Nat) : Bool := s.flag (Reg.INP_STAT.LEVEL n)

/-- The debounce time in ticks (R188). -/
def State.debTicks (s : State) (n : Nat) : Nat := s.rd (Reg.INP_CFG.DEB n) * 2000

/-- A debounce run begins with edge stamp t. -/
def State.beginRun (s : State) (n t : Nat) : State :=
  (s.setInput n { s.input n with run := some t }).wr (Reg.INP_STAT.DEBA n) 1

/-- A restart at tick t (R188, R191): the run ends, GLITCH and the count of consecutive restarts advance. -/
def State.restart (s : State) (n t : Nat) : State :=
  let x := s.input n
  let k := x.restarts + 1
  ((s.setInput n { x with run := none, restarts := if k = 64 then 0 else k, chatAt := if k = 64 then some t else x.chatAt }).wr
    (Reg.INP_STAT.DEBA n) 0).count (Reg.INP_STAT.GLITCH n) 1

/-- The die of input n is up. -/
def State.iRuns (s : State) (n : Nat) : Bool := s.iEnabled n && (s.ana (inputDie n)).ready && (s.ana (inputDie n)).params

/-! ### Acceptance (R188, R189, R192) -/

/-- LEVEL and EDGE are sent, stamped t. -/
def State.sendLevel (s : State) (n t : Nat) : State :=
  let d := inputDie n
  (s.unitD d (inputEntry n) (b2n (s.level n) : Nat) t (inputSrc n)).unitD d (inputEntry n + 1) (s.rd64 (Reg.INP_EDGET.T n) : Nat) t (inputSrc n)

/-- A level is accepted at tick t, with the edge stamp of its run or 0. -/
def State.acceptLevel (s : State) (n edge t : Nat) : State :=
  let x := s.input n
  let s1 := ((s.setInput n { x with accepted := true, run := none, restarts := 0 }).wr (Reg.INP_STAT.LEVEL n) (b2n (s.inverted n x.raw))).wr
    (Reg.INP_STAT.DEBA n) 0
  (s1.wr64 (Reg.INP_EDGET.T n) edge).sendLevel n t

/-- When a run or a first acceptance that began at tick k is due: k + DEB, or in PULSED mode the read at or after it. -/
def State.acceptAt (s : State) (n k : Nat) : Option Nat :=
  let e := k + s.debTicks n
  if s.flag (Reg.INP_CFG.MODE n) then (if e ≤ (s.input n).lastRead then some (s.input n).lastRead else none)
  else if e ≤ s.iNow n then some e else none

/-- The direction of a change is allowed by `WAKEDIR` (R193). -/
def wakeDirOk (dir : Nat) (ref new : Bool) : Bool :=
  decide (ref ≠ new) && (decide (dir = 0) || (decide (dir = 1) && new) || (decide (dir = 2) && !new))

/-- A change accepted between the last boundary and PARK entry latches a wake event (R426); `was` is the level before. -/
def State.latchWake (s : State) (n : Nat) (was : Bool) : State :=
  if s.pow.lastBound.isSome && s.flag (Reg.INP_CFG.WAKEEN n) && wakeDirOk (s.rd (Reg.INP_CFG.WAKEDIR n)) was (s.level n) then
    { s with pow := { s.pow with latched := setBitOf s.pow.latched 0 } }
  else s

/-- When the next acceptance of input n falls (R188, R190, R192). -/
def State.acceptDue (s : State) (n : Nat) : Option Nat :=
  let x := s.input n
  if !s.iRuns n || s.flag (Reg.INP_STAT.LOWBAT n) then none
  else if x.accepted then x.run.bind (fun k => s.acceptAt n k)
  else s.acceptAt n x.holdFrom

/-- The acceptance of input n that is due (R188, R192): the first one reports edge 0. -/
def State.acceptOne (s : State) (n : Nat) : State :=
  match s.acceptDue n with
  | none => s
  | some t =>
    let x := s.input n
    if x.accepted then (s.acceptLevel n (x.run.getD 0) t).latchWake n (s.level n) else s.acceptLevel n 0 t

/-- An acceptance that falls before tick t comes before what happens at t. -/
def State.acceptBefore (s : State) (n t : Nat) : State :=
  match s.acceptDue n with
  | some e => if e < t then s.acceptOne n else s
  | none => s

/-- The comparator reads `v` mV at tick t: a change of the raw level starts a run or restarts one (R188), or restarts the count of a first acceptance (R192). -/
def State.rawAt (s0 : State) (n v t : Nat) : State :=
  let s := s0.acceptBefore n t
  let x := s.input n
  let r := s.compare n v x.raw
  if r = x.raw then s
  else
    let s1 := (s.setInput n { x with raw := r }).wr (Reg.INP_STAT.RAW n) (b2n (s.inverted n r))
    if x.accepted = false then s1.setInput n { s1.input n with holdFrom := t }
    else if s.inverted n r ≠ s.level n then s1.beginRun n t
    else s1.restart n t

/-- INPUT_RAW_EDGE (R188): the voltage at the pin; a CONT input reads it at once, a PULSED one at its next read. -/
def State.rawEdge (s : State) (n v : Nat) : State :=
  if 160 ≤ n then s
  else
    let s1 := s.setInput n { s.input n with pin := v }
    if s.iRuns n && !s.flag (Reg.INP_CFG.MODE n) then s1.rawAt n v (s.iNow n) else s1

def execInputRawEdge (n vin : Nat) (s : State) : Res := .next (s.rawEdge n vin)

/-- PULSED_WETTING_READ (R187): at the end of each 2,000-tick pulse. -/
def State.pulsedRead (s : State) (n v : Nat) : State :=
  let t := s.iNow n
  if s.iRuns n && s.flag (Reg.INP_CFG.MODE n) && decide (t % (s.rd (Reg.INP_PULSE.PER n) * 20000) = 2000) then
    let s1 := (s.setInput n { s.input n with pin := v }).rawAt n v t
    s1.setInput n { s1.input n with lastRead := t }
  else s

def execPulsedWettingRead (n vin : Nat) (s : State) : Res := .next (s.pulsedRead n vin)

/-- Inputs of the same die with a lower index and an acceptance in the same tick go first (R189). -/
def State.debounceAccept (s : State) (n : Nat) : State :=
  match s.acceptDue n with
  | none => s
  | some t => (((inputsOf (inputDie n)).filter (fun m => decide (m < n) && decide (s.acceptDue m = some t))).foldl State.acceptOne s).acceptOne n

def execDebounceAccept (n : Nat) (s : State) : Res := .next (s.debounceAccept n)

/-- INPUT_CHATTER (R191): the 64th consecutive restart. -/
def State.chatter (s : State) (n : Nat) : State :=
  match (s.input n).chatAt with
  | none => s
  | some t => ((s.setInput n { s.input n with chatAt := none }).raiseFlag (Reg.INP_STAT.CHAT n)).faultD (inputDie n) (inputSrc n) 0x11 t t

def execInputChatter (n : Nat) (s : State) : Res := .next (s.chatter n)

/-! ### Low battery (R190) -/

/-- A VBAT sample in units of 10 mV at tick t, as input n judges it. -/
def State.lowbatSample (s0 : State) (n t vbat : Nat) : State :=
  if !s0.iRuns n || s0.flag (Reg.INP_CFG.PULL n) then s0
  else
    let s := s0.acceptBefore n t
    let x := s.input n
    let th := s.rd (Reg.INP_THR.VTHH n) * 100
    if vbat * 10 < th + 1000 then (s.setInput n { x with lowOk := none }).wr (Reg.INP_STAT.LOWBAT n) 1
    else if s.flag (Reg.INP_STAT.LOWBAT n) = false then s
    else if th + 1200 ≤ vbat * 10 then s.setInput n { x with lowOk := some (x.lowOk.getD t) }
    else s.setInput n { x with lowOk := none }

/-- LOWBAT_SUSPENSION_END (R190). -/
def State.lowbatEnd (s : State) (n : Nat) : State :=
  let x := s.input n
  match x.lowOk with
  | none => s
  | some k =>
    let t := k + 2000
    if s.iRuns n && s.flag (Reg.INP_STAT.LOWBAT n) && decide (t ≤ s.iNow n) then
      let s1 := (s.setInput n { x with lowOk := none, holdFrom := if x.accepted then x.holdFrom else t }).wr (Reg.INP_STAT.LOWBAT n) 0
      if x.accepted then
        let s2 := s1.sendLevel n t
        if s.inverted n x.raw ≠ s.level n then s2.beginRun n t else s2
      else s1
    else s

def execLowbatSuspensionEnd (n : Nat) (s : State) : Res := .next (s.lowbatEnd n)

/-! ### Start, wetting load, park (R187, R192, R193) -/

/-- An input starts at tick t (R192). -/
def State.startInput (s : State) (n t : Nat) : State :=
  let x := s.input n
  let r := s.compareStart n x.pin
  let s1 := s.setInput n { pin := x.pin, raw := r, holdFrom := t, lastRead := 0 }
  let w := (s.word (Reg.INP_STAT.LEVEL n).off).toNat
  (s1.setWord (Reg.INP_STAT.LEVEL n).off (BitVec.ofNat 32 (insertField (insertField w 0 3 (2 * b2n (s.inverted n r))) 4 1 0))).wr64 (Reg.INP_EDGET.T n) 0

/-- The continuous-equivalent wetting load of a die in units of 0.1 mA (R187). -/
def State.wetLoad (s : State) (d : Die) : Nat :=
  let r : Rat := ((inputsOf d).filter (fun n => s.iEnabled n)).foldl (fun a n =>
    let i : Rat := (s.rd (Reg.INP_CFG.IWET n) * 10 : Nat)
    a + (if s.flag (Reg.INP_CFG.MODE n) then i / (10 * s.rd (Reg.INP_PULSE.PER n) : Nat) else i)) 0
  r.floor.toNat

/-- `INP_WETLOAD` follows the configuration (R187). -/
def State.showWetLoad (s : State) : State :=
  (s.wr Reg.INP_WETLOAD.P0 (min (s.wetLoad .p0) 65535)).wr Reg.INP_WETLOAD.P1 (min (s.wetLoad .p1) 65535)

/-- The reference of an input at PARK entry (R193): its accepted level, if it had one. -/
def State.parkInput (s : State) (n : Nat) : State :=
  let x := s.input n
  s.setInput n { x with parkRef := if x.accepted then some (s.level n) else none, parkRaw := none, parkDiff := false }

/-- An input is polled in PARK (R193). -/
def State.polled (s : State) (n : Nat) : Bool := decide (n < 40) && s.iEnabled n && s.flag (Reg.INP_CFG.WAKEEN n)

/-- One poll of input n at `v` mV: whether it asks for a wake, and the state after (R193). -/
def State.pollInput (s : State) (n v : Nat) : Bool × State :=
  let x := s.input n
  let raw := match x.parkRaw with
    | some r => s.compare n v r
    | none => match x.parkRef with
      | some l => s.compare n v (s.inverted n l)
      | none => s.compareStart n v
  let lvl := s.inverted n raw
  let ref := x.parkRef.getD lvl
  let diff := wakeDirOk (s.rd (Reg.INP_CFG.WAKEDIR n)) ref lvl
  (diff && x.parkDiff, s.setInput n { x with pin := v, parkRaw := some raw, parkRef := some ref, parkDiff := diff })

end Sys2Proof.Machine
end

