-- ==== Sys2Proof/Machine/Sense.lean ====
section
/-! DEFINITION. What the dies measure: the sample tick (R78, R102, R435), the end of a sensing window, periodic feedback and resends (R71), the supply state as samples and windows give it (R435, R436), and the ember latches of every unit (R83). -/

namespace Sys2Proof.Machine

/-! ### Supply states (R435, R436) -/

/-- State codes (R435). -/
def SupSt.code : SupSt → Nat
  | .normal => 0
  | .low => 1
  | .uv => 2
  | .high => 3
  | .ov => 4
  | .gndshift => 5

/-- UV and GNDSHIFT hold the switches off and the transmitters recessive (R437). -/
def holdsOff (st : SupSt) : Bool := decide (st = .uv) || decide (st = .gndshift)

/-- The transceivers of die d drive nothing: its main domain is not up (R416), or UV or GNDSHIFT forces its transmitters recessive (R437). -/
def State.txMute (s : State) (d : Die) : Bool := !(s.ana d).ready || holdsOff (s.ana d).sup.st

/-- Index and source of a die's supply entry (R436). -/
def supplyEntry (d : Die) : Nat := 0x12 + dieNum d
def supplySrc (d : Die) : Nat := 0x0D01 + dieNum d

/-- Content of a die's supply entry (R436). -/
def Supply.value (x : Supply) : Nat := x.st.code + 256 * x.lowest + 65536 * x.entriesUv + 16777216 * x.entriesOv

/-- `s` with a die's supply state record replaced. -/
def State.setSup (s : State) (d : Die) (x : Supply) : State := s.setAna d { s.ana d with sup := x }

/-- The die enters a supply state at tick t: the entry is updated (R436), and open-load tests are abandoned outside NORMAL (R437). -/
def State.supEnter (s : State) (d : Die) (st : SupSt) (t : Nat) : State :=
  let x := { (s.ana d).sup with st := st, uvOk := none, ovOk := none, gsOk := none }
  let s1 := if st = .normal then s else (chansOf d).foldl (fun s u => s.setChan u { s.chan u with olStart := none }) s
  (s1.setSup d x).unitD d (supplyEntry d) (x.value : Nat) t (supplySrc d)

/-- The state by V_f alone (R435). -/
def byVf (vf : Nat) : SupSt := if 3600 < vf then .high else if vf < 600 then .low else .normal

/-- HIGH and LOW at the end of a window (R435). -/
def State.supWindow (s : State) (d : Die) (w : Nat) : State :=
  let a := s.ana d
  let n := match a.sup.st with
    | .normal => byVf a.vf
    | .high => if a.vf ≤ 3500 then byVf a.vf else .high
    | .low => if 620 ≤ a.vf then byVf a.vf else .low
    | st => st
  if n = a.sup.st then s else s.supEnter d n w

/-- The runs of samples beyond each threshold, VBAT in 10 mV and shift in mV, at tick t (R435). -/
def Supply.sample (x : Supply) (t v : Nat) (shift : Int) : Supply :=
  { x with uvRun := if v < 400 then x.uvRun + 1 else 0, ovRun := if 4000 < v then x.ovRun + 1 else 0,
           gsRun := if 800 < shift then x.gsRun + 1 else 0,
           uvOk := if 450 ≤ v then some (x.uvOk.getD t) else none,
           ovOk := if v ≤ 3800 then some (x.ovOk.getD t) else none,
           gsOk := if shift < 300 then some (x.gsOk.getD t) else none,
           last := v, lowest := if x.st = .uv then min x.lowest (v / 10) else x.lowest }

/-! ### Windows and samples (R78, R102) -/

/-- The end of the sensing window of die d at tick w (R78, R102); V_ref′ takes the mean of a window without a sample of a droop, which a run in progress has still to show (R104). -/
def State.windowAt (s : State) (d : Die) (w : Nat) : State :=
  let a := s.ana d
  let vf := if a.nV = 0 then a.vf else a.sumV / a.nV
  let a1 := { a with lastWindow := w, nV := 0, sumV := 0, vf := vf, vfPrev := a.vf, vfTick := w,
                     vref := if a.winDroop ∨ a.droop.run ≠ 0 then a.vref else vf,
                     vrefNext := if a.winDroop ∨ 7 ≤ a.droop.run then none else if a.droop.run ≠ 0 then some vf else none, winDroop := false }
  let s1 := s.setAna d a1
  let s2 := match d with
    | .p0 => s1.wr Reg.HSW_VBAT.P0 (min vf 65535)
    | .p1 => s1.wr Reg.HSW_VBAT.P1 (min vf 65535)
    | .v => s1
  let s3 := (chansOf d).foldl (fun s u => s.chanWindow u w) s2
  let s4 := (motorsOf d).foldl (fun s m => s.motorWindow m) s3
  let s5 := if d = .v then (List.range 6).foldl (fun s b => s.bankWindow b) ((List.range 24).foldl (fun s n => s.valveWindow n) s4) else s4
  s5.supWindow d w

/-- A window ends at tick t and has not been taken. -/
def State.windowDue (s : State) (d : Die) (t : Nat) : Bool := (s.ana d).ready && decide (t % 10000 = 0) && decide ((s.ana d).lastWindow ≠ t)

/-- SENSING_WINDOW_END (R78): every 10,000 ticks. -/
def State.windowEnd (s : State) (d : Die) : State :=
  if s.windowDue d (s.dieNow d) then s.windowAt d (s.dieNow d) else s

def execSensingWindowEnd (d : Die) (s : State) : Res := .next (s.windowEnd d)

/-! ### The wick step (R87, R88) -/

/-- The message for the step that the die has just taken, where it came before it (R88). -/
def State.bundleEarly (s : State) (d : Die) : State :=
  let a := s.ana d
  match a.early with
  | some (k, sums, tbs) =>
    let s1 := s.setAna d { a with early := none }
    if a.wickTick / 20000 = k then s1.bundleTake d sums tbs else s1.setAna d { a with early := none, otherSums := sums }
  | none => s

/-- One wick step of power die d at tick t (R87, R88): each channel in the model steps on the windows that have ended, and the die sends its sums and its copies of the bundle nodes. -/
def State.wickStepAt (s : State) (d : Die) (t : Nat) : State :=
  let a := s.ana d
  let sums := s.dieSums d
  let s1 := s.setAna d { a with wickTick := t, wickWait := true, ownSums := sums }
  let m := PpMsg.bundle (t / 20000) sums ((List.range 16).map (fun g => s.tbOf d g)) t
  let s2 := if d = .p0 then { s1 with ppTo1 := s1.ppTo1 ++ [m] } else { s1 with ppTo0 := s1.ppTo0 ++ [m] }
  (((chansOf d).filter (fun u => s.wickIn u)).foldl (fun s u => s.wickChan u t) s2).bundleEarly d

/-- WICK_STEP (R87, R88): every 20,000 ticks; the window that ends at the step, and the wait of the step before, end first. -/
def State.wickStep (s : State) (d : Die) : State :=
  let t := s.dieNow d
  let a := s.ana d
  if decide (d = .v) || !a.ready || !a.params || decide (t % 20000 ≠ 0) || decide (a.wickTick = t) then s
  else ((s.bundleTimeout d).windowEnd d).wickStepAt d t

def execWickStep (d : Die) (s : State) : Res := .next (s.wickStep d)

/-- The VBAT sample and the ground shift of die d at tick t (R102, R104, R190, R435). -/
def State.vbatSample (s : State) (d : Die) (t : Nat) (x : Samples) : State :=
  let a := s.ana d
  let s1 := s.setAna d { a with lastSample := t, nV := a.nV + 1, sumV := a.sumV + x.vbat, sup := a.sup.sample t x.vbat x.shift }
  let s2 := if d = .v then s1 else s1.droopSample d x.vbat t
  (inputsOf d).foldl (fun s n => s.lowbatSample n t x.vbat) s2

/-- SENSE_SAMPLE (R78, R102, R118, R146, R179): at each multiple of 200 the die samples its supply and its units; the sample of a window's end tick belongs to the next window. -/
def State.senseSample (s : State) (d : Die) (x : Samples) : State :=
  let t := s.dieNow d
  if (s.ana d).ready = false ∨ t % 200 ≠ 0 ∨ (s.ana d).lastSample = t then s
  else
    let s0 := if s.windowDue d t then s.windowAt d t else s
    let s1 := s0.vbatSample d t x
    let s2 := (x.chans.filter (fun y => decide (chanDie y.u = d))).foldl (fun s y => s.chanSample t y) s1
    let s3 := (x.motors.filter (fun y => decide (motorDie y.m = d))).foldl (fun s y => s.motorSample t y) s2
    if d = .v then
      let s4 := x.valves.foldl (fun s y => s.valveSample t y) s3
      let s5 := x.banks.foldl (fun s y => s.bankSample y) s4
      (x.leds.foldl (fun s y => s.ledSample t y) s5).boostSample t x.rail
    else s3

def execSenseSample (d : Die) (x : Samples) (s : State) : Res := .next (s.senseSample d x)

/-! ### Periodic feedback and resends (R71, R118, R146, R175, R189) -/

/-- A feedback tick of die d: a multiple of 200,000 with the die up. -/
def State.fbTick (s : State) (d : Die) : Bool := (s.ana d).ready && decide (s.dieNow d % 200000 = 0)

/-- PERIODIC_FEEDBACK: `x` is the junction temperature in 1/16 °C, or the input voltage in mV; the other reports carry what the die holds. -/
def State.feedback (s : State) (u : FbUnit) (x : Int) : State :=
  match u with
  | .chanTj u =>
    let d := chanDie u
    if s.chEnabled u && s.fbTick d then (s.wr (Reg.CH_MEAS1.TJ u) (fieldOfInt 16 x)).unitD d (chanEntry u + 4) x (s.dieNow d) (chanSrc u) else s
  | .chanTc u =>
    let d := chanDie u
    if s.wickIn u && s.fbTick d then s.unitD d (chanEntry u + 5) (signedOf 16 (s.rd (Reg.CH_MEAS1.TC u))) (s.dieNow d) (chanSrc u) else s
  | .bundle g =>
    if decide (g < 16) && s.groupActive g && s.fbTick .p0 then
      s.unitD .p0 (0x700 + g) (signedOf 16 (s.rd (Reg.HSW_BGB.TB g))) (s.dieNow .p0) (0x0130 + g) else s
  | .motorCur m =>
    let d := motorDie m
    if s.mEnabled m && s.fbTick d then s.unitD d (motorEntry m + 3) (s.motor m).cur (s.dieNow d) (motorSrc m) else s
  | .valveCur n => if s.vEnabled n && s.fbTick .v then s.unitD .v (valveEntry n + 2) (s.valve n).cur s.vNow (valveSrc n) else s
  | .bankCur b => if s.bEnabled b && s.fbTick .v then s.unitD .v (bankEntry b + 1) (s.bank b).cur s.vNow (bankSrc b) else s
  | .boost => if s.fbTick .v then s.reportBoost s.vNow else s
  | .ledVsink n =>
    if s.lEnabled n && s.fbTick .v && (s.sink n).measured then
      (s.setSink n { s.sink n with measured := false }).unitD .v (ledEntry n + 2) (s.rd (Reg.LED_MEAS.VSINK n) : Nat) s.vNow (ledSrc n)
    else s
  | .inputVin n =>
    let d := inputDie n
    if s.iEnabled n && s.flag (Reg.INP_CFG.ADCEN n) && s.fbTick d then
      let v := (adc12 45000 (max 0 x)).toNat
      (s.wr (Reg.INP_MEAS.VIN n) v).unitD d (inputEntry n + 2) (v : Nat) (s.dieNow d) (inputSrc n)
    else s

def execPeriodicFeedback (u : FbUnit) (x : Int) (s : State) : Res := .next (s.feedback u x)

/-- The die that feeds a unit entry; none for die L (R71, R118, R146, R175, R189, R436). -/
def entryDie (i : Nat) : Option Die :=
  if i = 0x12 then some .p0 else if i = 0x13 then some .p1 else if i = 0x14 then some .v
  else if 0x400 ≤ i ∧ i < 0x700 then some (chanDie ((i - 0x400) / 16))
  else if 0x700 ≤ i ∧ i < 0x710 then some .p0
  else if 0x800 ≤ i ∧ i < 0x900 then some (chanDie (48 + (i - 0x800) / 16))
  else if 0xC00 ≤ i ∧ i < 0xCE0 then some (motorDie ((i - 0xC00) / 16))
  else if 0x1000 ≤ i ∧ i < 0x1700 then some .v
  else if 0x1800 ≤ i ∧ i < 0x1A80 then some (inputDie ((i - 0x1800) / 4))
  else none

/-- What a resend of an entry carries: the last value, but the current content for a supply entry (R436) and for the STATE of an LED sink, whose position moves during a fade (R175). -/
def State.resendValue (s : State) (i : Nat) (u : Upd) : W64 :=
  match entryDie i with
  | some d =>
    if i = supplyEntry d then w64 ((s.ana d).sup.value : Nat)
    else if 0x1400 ≤ i ∧ i < 0x1700 ∧ i % 16 = 1 then w64 (s.ledStateValue ((i - 0x1400) / 16) : Nat)
    else u.value
  | none => u.value

/-- The resends of an input stop during a suspension (R190). -/
def State.resendHeld (s : State) (i : Nat) : Bool :=
  decide (0x1800 ≤ i) && decide (i < 0x1A80) && s.flag (Reg.INP_STAT.LOWBAT ((i - 0x1800) / 4))

/-- ENTRY_RESEND (R71): an entry that is resent goes out unchanged 2,000,000 ticks after its last update. -/
def State.resend (s : State) (i : Nat) : State :=
  match s.attr i, s.lastSent i with
  | some a, some u =>
    let e := u.stamp + 2000000
    let v := { u with value := s.resendValue i u, stamp := e }
    if a.owner = .unit ∧ a.freshint = 80000 ∧ s.resendHeld i = false then
      match entryDie i with
      | some d => if e ≤ s.dieNow d ∧ (s.ana d).ready then s.sendD d v else s
      | none => if e ≤ s.now then s.sendL v else s
    else s
  | _, _ => s

def execEntryResend (idx : Nat) (s : State) : Res := .next (s.resend idx)

/-! ### Ember latches (R83) -/

/-- EMBER_SET (R83, R128, R160, R161, R180): `tj` in 1/16 °C, `ts` the TS voltage of a PD channel. -/
def execEmberSet (u : EmberUnit) (tj : Int) (ts : Nat) (s : State) : Res :=
  .next (match u with
    | .chan u => s.chanEmberSet u tj ts
    | .motor m side => s.motorEmberSet m side tj
    | .valve n => s.valveEmberSet n tj
    | .bank b => s.bankEmberSet b tj
    | .array => s.arrayEmberSet tj)

/-- EMBER_RELEASE (R83). -/
def execEmberRelease (u : EmberUnit) (tj : Int) (ts : Nat) (s : State) : Res :=
  .next (match u with
    | .chan u => s.chanEmberRelease u tj ts
    | .motor m side => s.motorEmberRelease m side tj
    | .valve n => s.valveEmberRelease n tj
    | .bank b => s.bankEmberRelease b tj
    | .array => s.arrayEmberRelease tj)

end Sys2Proof.Machine
end

