-- ==== Sys2Proof/Machine/Pdu.lean ====
section
/-! DEFINITION. PDUs: bit positions (R474), the decoder (R60 to R62), age words (R64 to R66), the encoder (R63), and the securing of PDUs (R325, R326). -/

namespace Sys2Proof.Machine

/-! ### Bits of a payload (R474) -/

/-- Bit `n` of a payload; none past its end. -/
def payBit (p : List Byte) (n : Nat) : Option Bool := (p[n / 8]?).map (fun b => bitOf b.toNat (n % 8))

/-- The positions of a signal, least significant bit first (R474). -/
def bePositions : Nat → Nat → List Nat
  | _, 0 => []
  | n, k + 1 => n :: bePositions (if n % 8 = 0 then n + 15 else n - 1) k

def sigPositions (order start len : Nat) : List Nat :=
  if order = 0 then (List.range len).map (fun i => start + i) else (bePositions start len).reverse

/-- The raw value at positions, least significant first; none where a bit lies outside the payload. -/
def payRaw (p : List Byte) : List Nat → Option Nat
  | [] => some 0
  | n :: ns =>
    match payBit p n, payRaw p ns with
    | some b, some v => some (b2n b + 2 * v)
    | _, _ => none

/-- A payload with bit `n` set to `b`. -/
def setPayBit (p : List Byte) (n : Nat) (b : Bool) : List Byte :=
  p.modify (n / 8) (fun x => BitVec.ofNat 8 (if b then setBitOf x.toNat (n % 8) else clearBitOf x.toNat (n % 8)))

/-- A payload with the bits of `v` at positions, least significant first. -/
def putRaw : List Byte → List Nat → Nat → List Byte
  | p, [], _ => p
  | p, n :: ns, v => putRaw (setPayBit p n (bitOf v 0)) ns (v / 2)

/-- The raw value of a signal (R62): LEN bits, or LEN bytes for a blob entry. -/
def SigRec.raw (g : SigRec) (p : List Byte) : Option Nat := payRaw p (sigPositions g.order g.start g.len)

/-- The raw value of a blob signal: LEN bytes, in the bit order of the signal (R474); its bytes are that number's, least significant first (R4). -/
def SigRec.rawBlob (g : SigRec) (p : List Byte) : Option Nat := payRaw p (sigPositions g.order g.start (8 * g.len))

/-! ### Age words (R64 to R66) -/

/-- Ticks in a unit of SCALE (R65). -/
def ageUnit : Nat → Nat
  | 0 => 2000
  | 1 => 20000
  | 2 => 200000
  | _ => 2000000

/-- The smallest SCALE whose MANT fits in 12 bits, with that MANT; SCALE 3 and 0xFFF above (R65). -/
def ageScale (age : Nat) : Nat × Nat :=
  if ceilDiv age 2000 ≤ 4095 then (0, ceilDiv age 2000)
  else if ceilDiv age 20000 ≤ 4095 then (1, ceilDiv age 20000)
  else if ceilDiv age 200000 ≤ 4095 then (2, ceilDiv age 200000)
  else if ceilDiv age 2000000 ≤ 4095 then (3, ceilDiv age 2000000)
  else (3, 4095)

/-- The age word for a state and an age (R65). -/
def ageWord (st : EState) (age : Nat) : Nat :=
  if st = .never then 0 else st.code * 16384 + (ageScale age).1 * 4096 + (ageScale age).2

/-- The stamp of a signal covered by an age word (R66). -/
def ageStamp (rx w transit : Nat) : Nat := max 1 (rx - ((w % 4096 + 1) * ageUnit (bits w 12 2) + 50 * transit))

/-- The worse of two states (R64). -/
def worse (a b : EState) : EState :=
  if a = .never ∨ b = .never then .never
  else if a = .invalid ∨ b = .invalid then .invalid
  else if a = .stale ∨ b = .stale then .stale
  else .fresh

/-- A built PDU with its age words for transmission start tick t (R64). -/
def TxPdu.at (p : TxPdu) (t : Nat) : List Byte :=
  p.ages.foldl (fun b a =>
    let w := ageWord a.state (t - a.stamp)
    putRaw b ((List.range 16).map (fun i => 8 * a.off + i)) w) p.bytes

/-! ### The decoder (R60 to R62) -/

/-- A PDU that the decoder refuses (R62). -/
def State.decodeErr (s : State) : State := (s.count Reg.LEDG_DECERR.N 1).raiseFlag Reg.LEDG_STAT.DECERR

/-- A producer of die L other than a unit hands an update to the intake (R54). -/
def State.feedL (s : State) (u : Upd) : State := { s with led := { s.led with fromL := s.led.fromL ++ [{ u with late := s.lateStamp u.stamp }] } }

/-- How a received age word makes an update (R66): its kind and stamp, or none; without an age word a valid update at the receive stamp. -/
def ageUpdate (w : Option Nat) (rx transit : Nat) : Option (UpdKind × Nat) :=
  match w with
  | none => some (.valid, rx)
  | some w =>
    let st := ageStamp rx w transit
    match w / 16384 with
    | 0 => none
    | 1 => if w % 16384 = 16383 then some (.stale, st) else some (.valid, st)
    | 2 => some (.stale, st)
    | _ => some (.invalid, st)

/-- The update of one signal of a received payload, if it gives one (R62, R66); `i` is its place among the record's signals.  A signal with a MUXVAL in a record that names no multiplexor signal is taken as present (DESIGN CHOICE, log entry 10). -/
def State.sigUpdate (s : State) (r : DecRec) (p : List Byte) (rx src : Nat) (i : Nat) (g : SigRec) : Option Upd :=
  match s.attr g.entry with
  | none => none
  | some a =>
    let muxOk := match g.muxval with
      | none => true
      | some v => match r.mux with
        | none => true
        | some m => match r.sigs[m]? with
          | some mg => decide (mg.raw p = some v)
          | none => false
    let age := r.agew.find? (fun x => x.sigs.contains i)
    let w : Option (Option Nat) := match age with
      | none => some none
      | some x => (payRaw p ((List.range 16).map (fun k => 8 * x.off + k))).map some
    if a.owner ≠ .decode ∨ muxOk = false then none
    else
      match w with
      | none => none
      | some w =>
        match ageUpdate w rx r.transit with
        | none => none
        | some (kind, stamp) =>
          if a.kind = 3 then
            (g.rawBlob p).map (fun v =>
              { idx := g.entry, value := 0#64, stamp := stamp, src := src, own := .decode, kind := if g.invpat = some v then .invalid else kind,
                bytes := leBytes g.len v })
          else
            (g.raw p).map (fun v =>
              { idx := g.entry, value := if g.signed then w64 (signedOf g.len v) else BitVec.ofNat 64 v, stamp := stamp, src := src,
                own := .decode, kind := if g.invpat = some v then .invalid else kind })

/-- A payload accepted for decode updates the entries of its record (R62). -/
def State.decodePay (s : State) (r : DecRec) (p : List Byte) (rx src : Nat) : State :=
  if p.length < r.minlen then s.decodeErr
  else (r.sigs.zipIdx.filterMap (fun x => s.sigUpdate r p rx src x.2 x.1)).foldl (fun s u => s.feedL u) s

/-- The decode record of a received PDU (R60). -/
def State.decRec (s : State) (bus ch key vid port : Nat) : Option Nat :=
  s.img.dec.findIdx? (fun r => decide (r.bus = bus) && decide (r.channel = ch) && decide (r.key = key) && (decide (bus ≠ 2) ||
    (decide (r.vid = vid) && decide (r.port = port))))

/-! ### Securing (R325, R326) -/

def Kennel.blank : Nat → Kennel := fun _ => {}
def State.kennel (s : State) (i : Nat) : Kennel := SMap.get Kennel.blank s.cry.slots i

/-- The engine serves requests (R327). -/
def State.cryReady (s : State) : Bool := decide (s.rd Reg.CRY_STAT.STATE = 2)

/-- KEY8 of a record (R325). -/
def key8 (bus ch id : Nat) : List Byte := [BitVec.ofNat 8 bus, BitVec.ofNat 8 ch, 0#8, 0#8] ++ leBytes 4 id

/-- The MAC of a secured PDU (R325). -/
def secMac (key k8 fv pay : List Byte) (n : Nat) : List Byte := (cmac key (k8 ++ fv ++ pay)).take n

/-- A secured PDU that fails verification (R326). -/
def State.secFail (s : State) : State := (s.decodeErr).count Reg.CRY_CNT1.AUTHFAIL 1

/-- Requests of internal producers that wait or run (R314). -/
def CryReq.internal (r : CryReq) : Bool := r.pdu.isSome

/-- A received PDU meets record number `k` (R62, R326): a secured one goes to the cipher engine first. -/
def State.receiveRec (s : State) (k : Nat) (p : List Byte) (rx src : Nat) : State :=
  match s.img.dec[k]? with
  | none => s
  | some r =>
    match r.secured with
    | none => s.decodePay r p rx src
    | some _ =>
      if !s.cryReady then s.secFail
      else { s with cry := { s.cry with queue := s.cry.queue ++ [{ id := s.cry.nextId, pdu := some (k, p, rx, src) }], nextId := s.cry.nextId + 1 } }

/-- A received PDU (R60): one that matches no record updates nothing. -/
def State.receivePdu (s : State) (bus ch key vid port : Nat) (p : List Byte) (rx src : Nat) : State :=
  match s.decRec bus ch key vid port with
  | none => s
  | some k => s.receiveRec k p rx src

/-- The verification of a secured PDU ends (R326): MAC and freshness, then the decode. -/
def State.verifyPdu (s : State) (k : Nat) (p : List Byte) (rx src : Nat) : State :=
  match s.img.dec[k]? with
  | none => s
  | some r =>
    match r.secured with
    | none => s
    | some (slot, n) =>
      let pay := p.take (p.length - (n + 4))
      let fvb := (p.drop pay.length).take 4
      let mac := p.drop (pay.length + 4)
      let fv := leNat fvb
      let last := SMap.get (fun _ => (0, 0)) s.cry.fvIn k
      if n + 4 ≤ p.length ∧ s.rd (Reg.CRY_SLOT.STATE slot) ≠ 0 ∧ mac = secMac (s.kennel slot).key (key8 r.bus r.channel r.key) fvb pay n ∧ last.1 < fv then
        ({ s with cry := { s.cry with fvIn := SMap.set (fun _ => (0, 0)) s.cry.fvIn k (fv, fv / 4096 * 4096) } } : State).decodePay r pay rx src
      else s.secFail

/-! ### The encoder (R63, R64) -/

/-- The snapshot state of an entry at B(F). -/
def State.snapState (s : State) (i : Nat) : EState := (s.snap i).stateAt s.led.snapTick

/-- What a signal carries, as raw bits and their number; none withholds the PDU (R63).  A blob version shorter than LEN is filled with zero bits (DESIGN CHOICE, log entry 11). -/
def State.encodeSig (s : State) (g : SigRec) : Option (List Nat × Nat) :=
  let e := s.snap g.entry
  let blob := match s.attr g.entry with
    | some a => decide (a.kind = 3)
    | none => false
  let pos := sigPositions g.order g.start (if blob then 8 * g.len else g.len)
  let v := if blob then leNat (e.bytes.take g.len) else e.value.toNat
  match s.snapState g.entry with
  | .fresh => some (pos, v)
  | st =>
    match g.stale with
    | 2 => none
    | 0 => some (pos, if st = .never then g.invpat.getD 0 else v)
    | _ => some (pos, g.invpat.getD 0)

/-- The age word group of a record, from the snapshot (R64). -/
def State.encodeAge (s : State) (r : EncRec) (a : AgeRec) : TxAge :=
  let es := a.sigs.filterMap (fun i => (r.sigs[i]?).map (fun g => g.entry))
  { off := a.off, state := es.foldl (fun w i => worse w (s.snapState i)) .fresh,
    stamp := es.foldl (fun m i => min m (s.snap i).stamp) s.led.snapTick }

/-- The signals of a record in order; none where one withholds the PDU. -/
def State.encodeSigs (s : State) : List SigRec → List Byte → Option (List Byte)
  | [], p => some p
  | g :: gs, p =>
    match s.encodeSig g with
    | none => none
    | some (pos, v) => s.encodeSigs gs (putRaw p pos v)

/-- The freshness value for encode record k is drawn (R326): the counter and its MRAM ceiling; the last value stops the record and raises. -/
def State.drawFv (s : State) (k : Nat) : Option (Nat × State) :=
  let c := SMap.get (fun _ => (0, 0)) s.cry.fvOut k
  if c.1 = 0xFFFFFFFF then none
  else
    let ceil := if c.1 = c.2 then c.2 + 4096 else c.2
    let s1 : State := { s with cry := { s.cry with fvOut := SMap.set (fun _ => (0, 0)) s.cry.fvOut k (c.1 + 1, ceil) } }
    some (c.1, if c.1 + 1 = 0xFFFFFFFF then s1.raiseL 0x0B00 0x1C s.now else s1)

/-- Encode record k is built (R63, R64, R326); none where it is withheld or may not be built. -/
def State.buildRec (s : State) (k : Nat) (r : EncRec) : Option TxPdu × State :=
  match s.encodeSigs r.sigs (List.replicate r.len 0#8) with
  | none => (none, s.raiseFlag Reg.LEDG_STAT.ENCSTALE)
  | some b =>
    let p : TxPdu := { bytes := b, ages := r.agew.map (fun a => s.encodeAge r a) }
    match r.secured with
    | none => (some p, s)
    | some (slot, n) =>
      if !s.cryReady || decide (s.rd (Reg.CRY_SLOT.STATE slot) = 0) then (none, s)
      else
        match s.drawFv k with
        | none => (none, s)
        | some (fv, s1) =>
          let pay := p.at s.now
          let f := leBytes 4 fv
          (some { bytes := pay ++ f ++ secMac (s.kennel slot).key (key8 r.bus r.channel r.key) f pay n }, s1)

end Sys2Proof.Machine
end

