-- ==== Sys2Proof/Machine/Can.lean ====
section
/-! DEFINITION. The CAN controllers (R237 to R266): states, restricted operation, reception, transmit slots, errors and bus-off, and the ring operations that act on them. -/

namespace Sys2Proof.Machine

/-- A controller in OFF that was never used. -/
def CanCtl.blank : Nat → CanCtl := fun _ => {}
def State.canC (s : State) (c : Nat) : CanCtl := SMap.get CanCtl.blank s.can c
def State.setCanC (s : State) (c : Nat) (x : CanCtl) : State := { s with can := SMap.set CanCtl.blank s.can c x }

/-- `CAN_STAT.STATE` (R253): 0 OFF, 1 SYNC, 2 ERROR_ACTIVE, 3 ERROR_PASSIVE, 4 BUS_OFF, 5 RECOVERING, 6 RESTRICTED. -/
def State.canSt (s : State) (c : Nat) : Nat := s.rd (Reg.CAN_STAT.STATE c)

/-- An empty transmit slot. -/
def CanTx.empty : Nat → Option CanTx := fun _ => none
def CanCtl.slot (x : CanCtl) (i : Nat) : Option CanTx := SMap.get CanTx.empty x.slots i
def CanCtl.setSlot (x : CanCtl) (i : Nat) (f : Option CanTx) : CanCtl := { x with slots := SMap.set CanTx.empty x.slots i f }

/-! ### Entries and state changes (R242, R253) -/

/-- The STATE entry's value (R242). -/
def State.canValue (s : State) (c : Nat) : Nat :=
  s.canSt c + 256 * min 255 (s.rd (Reg.CAN_STAT.TEC c)) + 65536 * s.rd (Reg.CAN_STAT.REC c) + 16777216 * s.rd (Reg.CAN_STAT.RSRC c)

/-- The STATE entry is updated, stamped now. -/
def State.canReport (s : State) (c : Nat) : State := s.unitL (0x01C00 + 16 * c) (s.canValue c) s.now (canSrc c)

/-- The standby ball of CN8 to CN11: low while the controller is outside OFF (R239, R454). -/
def State.canStandbyHigh (s : State) (c : Nat) : Bool := decide (s.canSt c = 0)

/-- The controller enters a state (R253); a change of its standby ball shows. -/
def State.canGo (s : State) (c st : Nat) : State :=
  let s1 := (s.wr (Reg.CAN_STAT.STATE c) st).canReport c
  let s2 := if 8 ≤ c ∧ s.canStandbyHigh c ≠ s1.canStandbyHigh c then s1.emit (.canStandby c (s1.canStandbyHigh c)) else s1
  if st = 2 then s2.setCanC c { s2.canC c with eaAt := s2.now } else s2

/-- A raise of the controller with its event: controller, TEC, REC (R254, R256). -/
def State.canFault (s : State) (c kind : Nat) : State :=
  s.faultL (canSrc c) kind s.now (s.rd (Reg.CAN_STAT.TEC c)) (s.rd (Reg.CAN_STAT.REC c))

/-- Entry into ERROR_PASSIVE (R254). -/
def State.canPassive (s : State) (c : Nat) : State := ((s.raiseFlag (Reg.CAN_ERR.PASSIVE c)).canGo c 3).canFault c 0x12

/-! ### Ending requests and builds (R249, R250) -/

/-- The status that goes with a reason (R250). -/
def canStatus (reason : Nat) : Nat :=
  if reason = 1 ∨ 12 ≤ reason then St.ok
  else if reason ≤ 7 then St.retryLater
  else if reason = 8 then St.degradedTime
  else if reason = 9 then St.aborted
  else if reason = 10 then St.configMismatch
  else St.invalid

/-- A slot empties; a build that waited for it enters it and is pending from now on (R249). -/
def CanCtl.free (x : CanCtl) (i : Nat) : CanCtl :=
  match SMap.get CanTx.empty x.next i with
  | none => x.setSlot i none
  | some f => { (x.setSlot i (some { f with seq := x.seq })) with next := SMap.set CanTx.empty x.next i none, seq := x.seq + 1 }

/-- The frame of a slot ends with a reason: a firmware request completes, an encoder build is discarded and counted, a lantern frame is discarded. -/
def State.canEnd (s : State) (c i reason stamp : Nat) : State :=
  match (s.canC c).slot i with
  | none => s
  | some f =>
    let s1 := s.setCanC c ((s.canC c).free i)
    if 48 ≤ i then s1.completeOpt f.tag (canStatus reason) reason stamp
    else if i < 47 ∧ reason ≠ 1 then s1.count (Reg.CAN_CNT3.ENCDROP c) 1
    else s1

/-- Put a key into an ascending list of keys. -/
def insertKey (k : Nat × Nat) : List (Nat × Nat) → List (Nat × Nat)
  | [] => [k]
  | x :: xs => if k.1 < x.1 then k :: x :: xs else x :: insertKey k xs

/-- The pending firmware slots in the order their requests arrived. -/
def CanCtl.fwOrder (x : CanCtl) : List Nat :=
  ((x.slots.filterMap (fun p => if 48 ≤ p.1 then p.2.map (fun f => (f.seq, p.1)) else none)).foldr insertKey []).map (fun k => k.2)

/-- Every pending firmware request that is not past its start-of-frame completes with a reason, in arrival order. -/
def State.canEndFw (s : State) (c reason : Nat) : State :=
  ((s.canC c).fwOrder.filter (fun i => decide ((s.canC c).cur ≠ some i))).foldl (fun s i => s.canEnd c i reason 0) s

/-- Firmware requests of several controllers end in one tick in the order of their arrival (R250): controller, slot and reason of each. -/
def State.canEndAll (s : State) (l : List (Nat × Nat × Nat)) : State :=
  let at' := fun (x : Nat × Nat × Nat) => s.arrival (((s.canC x.1).slot x.2.1).bind (fun f => f.tag))
  (sortBy (fun x y => decide (at' x ≤ at' y)) l).foldl (fun s x => s.canEnd x.1 x.2.1 x.2.2 0) s

/-- The firmware requests of controller c that are not past their start-of-frame, to end with a reason. -/
def State.canWaiting (s : State) (reason c : Nat) : List (Nat × Nat × Nat) :=
  ((s.canC c).fwOrder.filter (fun i => decide ((s.canC c).cur ≠ some i))).map (fun i => (c, i, reason))

/-- The encoder and lantern slots are emptied, with the builds that wait for one; a frame past its start-of-frame keeps its slot (R249). -/
def State.canEmpty (s : State) (c : Nat) : State :=
  let x := s.canC c
  let s1 := (s.setCanC c { x with next := [] }).count (Reg.CAN_CNT3.ENCDROP c) (x.next.filter (fun p => decide (p.1 < 47))).length
  ((x.slots.map (fun p => p.1)).filter (fun i => decide (i < 48) && decide (x.cur ≠ some i))).foldl (fun s i => s.canEnd c i 2 0) s1

/-! ### Restricted operation (R258) -/

/-- Entry into RESTRICTED: firmware requests complete, encoder and lantern slots are emptied. -/
def State.canRestrict (s : State) (c : Nat) : State := (((s.canGo c 6).canEndFw c 6).canEmpty c)

/-- The state that follows SYNC, recovery and RESTRICTED: RESTRICTED while a source is set, else as the counters say. -/
def State.canJoin (s : State) (c : Nat) : State :=
  if s.rd (Reg.CAN_STAT.RSRC c) ≠ 0 then s.canRestrict c
  else if 128 ≤ s.rd (Reg.CAN_STAT.TEC c) ∨ 128 ≤ s.rd (Reg.CAN_STAT.REC c) then s.canPassive c
  else s.canGo c 2

/-- A restricted source, 0 firmware and 1 DEGRADED, is set or cleared. -/
def State.canSource (s : State) (c k : Nat) (b : Bool) : State :=
  let r := s.rd (Reg.CAN_STAT.RSRC c)
  let s1 := s.wr (Reg.CAN_STAT.RSRC c) (if b then setBitOf r k else clearBitOf r k)
  let st := s1.canSt c
  if s1.rd (Reg.CAN_STAT.RSRC c) ≠ 0 then (if st = 2 ∨ st = 3 then s1.canRestrict c else s1)
  else if st = 6 then s1.canJoin c
  else s1

/-- CAN_CTL_RESTR_SET (R258): the firmware source is set. -/
def execCanCtlRestrSet (c : Nat) (s : State) : Res := .next (if c < 12 then s.canSource c 0 true else s)

/-- CAN_CTL_RESTR_CLEAR (R258). -/
def execCanCtlRestrClear (c : Nat) (s : State) : Res := .next (if c < 12 then s.canSource c 0 false else s)

/-- CAN_MODE (R258, R300): sets or clears the firmware source, at once. -/
def State.canMode (s : State) (t : Nat) : State :=
  match s.opReady t 0x23 with
  | none => s
  | some o =>
    if 12 ≤ o.fld 16 1 ∨ o.fld 17 1 = 0 ∨ 2 < o.fld 17 1 then s.complete t St.invalid
    else (s.canSource (o.fld 16 1) 0 (decide (o.fld 17 1 = 1))).complete t St.ok

def execCanMode (t : Nat) (s : State) : Res := .next (s.canMode t)

/-! ### Enable, disable, new timing and function reset (R253, R260, R261, R308) -/

/-- The controller leaves OFF: SYNC with both counters 0, the sources of R258 as the image and the time base set them. -/
def State.canEnable (s : State) (c : Nat) : State :=
  let s1 := (s.wr (Reg.CAN_STAT.TEC c) 0).wr (Reg.CAN_STAT.REC c) 0
  let fw := s.flag (Reg.CAN_CFG.MODE c) || bitOf (s.rd (Reg.CAN_STAT.RSRC c)) 0
  let dg := s.flag (Reg.CAN_CFG.DEGRESTR c) && decide (s.tbSt = .degraded)
  (s1.wr (Reg.CAN_STAT.RSRC c) (b2n fw + 2 * b2n dg)).canGo c 1

/-- The posted receive entries of one unit, in posting order. -/
def State.posted (s : State) (kind unit : Nat) : List RxPost :=
  s.host.rx.filter (fun p => decide (p.kind = kind) && decide (p.unit = unit))

/-- Posted entries are returned unwritten (R260, R305). -/
def State.returnPosts (s : State) (ps : List RxPost) : State :=
  ps.foldl (fun s p => { s with host := { s.host with rx := s.host.rx.filter (fun x => decide (x.tag ≠ p.tag)) } }.complete p.tag St.aborted) s

/-- The controller enters OFF; a function reset goes on to SYNC (R308). -/
def State.canOff (s : State) (c : Nat) : State :=
  let x := s.canC c
  let s1 := s.setCanC c { x with cur := none, after := .none, resetTag := none, limit := false }
  match x.resetTag with
  | none => s1.canGo c 0
  | some t => ((s1.canGo c 0).canEnable c).complete t St.ok

/-- What R260 does once no frame is past its start-of-frame: the other requests end, slots are emptied, posted entries return, OFF. -/
def State.canStopNow (s : State) (c : Nat) : State := ((((s.canEndFw c 9).canEmpty c).returnPosts (s.posted 0 c)).canOff c)

/-- The disable sequence (R260): a frame past its start-of-frame runs to its end first.  A function reset that waited for that end is overtaken, and ends as the waiting operations do. -/
def State.canDisable (s : State) (c : Nat) (tag : Option Nat) : State :=
  if s.canSt c = 0 ∨ (tag.isSome ∧ !s.flag (Reg.CAN_CFG.ENABLE c)) then s.completeOpt tag St.configMismatch
  else
    let s1 := (s.setCanC c { s.canC c with after := .off, resetTag := tag }).completeOpt (s.canC c).resetTag St.aborted
    if (s1.canC c).cur = none then s1.canStopNow c else s1

/-- Several controllers are disabled in one tick (R250, R260). -/
def State.canDisableAll (s : State) (cs : List Nat) : State :=
  let go := cs.filter (fun c => decide (s.canSt c ≠ 0) && decide ((s.canC c).cur = none))
  cs.foldl (fun s c => s.canDisable c none) (s.canEndAll (go.flatMap (s.canWaiting 9)))

/-- SYNC on new timing (R260): encoder and lantern slots are emptied, counters 0. -/
def State.canResync (s : State) (c : Nat) : State :=
  let s1 := (s.setCanC c { s.canC c with after := .none, limit := false }).canEmpty c
  ((s1.wr (Reg.CAN_STAT.TEC c) 0).wr (Reg.CAN_STAT.REC c) 0).canGo c 1

/-- A commit that changes bit timing or FDEN of a controller that stays enabled (R260). -/
def State.canRetime (s : State) (c : Nat) : State :=
  if (s.canC c).cur = none then s.canResync c else s.setCanC c { s.canC c with after := .sync }

/-- What waited for the end of the frame past its start-of-frame (R260). -/
def State.canAfterFrame (s : State) (c : Nat) : State :=
  match (s.canC c).after with
  | .none => s
  | .off => s.canStopNow c
  | .sync => s.canResync c

/-! ### Error states (R253 to R257) -/

/-- Recovery starts (R256, R257). -/
def State.canRecoverStart (s : State) (c : Nat) : State := (s.setCanC c { s.canC c with limit := false }).canGo c 5

/-- Entry into BUS_OFF (R254 to R256); `i` is the slot whose frame caused it. -/
def State.canBusoff (s : State) (c : Nat) (i : Option Nat) : State :=
  let s0 := s.setCanC c { s.canC c with cur := none, boAt := s.now }
  let s1 : State := match i with
    | none => s0
    | some i => s0.canEnd c i 5 0
  let s2 := ((s1.canEndFw c 5).canEmpty c).count (Reg.CAN_CNT2.BUSOFFS c) 1
  let s3 := (s2.setCanC c { s2.canC c with cons := (s2.canC c).cons + 1, busoffs := min ((s2.canC c).busoffs + 1) (2 ^ 32 - 1) }).raiseFlag (Reg.CAN_ERR.BUSOFF c)
  let s4 := ((s3.canGo c 4).unitL (0x01C00 + 16 * c + 1) (s3.canC c).busoffs s.now (canSrc c)).canFault c 0x13
  if s4.flag (Reg.CAN_CFG.RECOV c) then s4
  else if s4.rd (Reg.CAN_CFG.BOLIM c) ≠ 0 ∧ s4.rd (Reg.CAN_CFG.BOLIM c) ≤ (s4.canC c).cons then
    (s4.setCanC c { s4.canC c with limit := true }).canFault c 0x14
  else if s4.rd (Reg.CAN_CFG.BOHOLD c) = 0 then s4.canRecoverStart c
  else s4

/-- The controller moves between ERROR_ACTIVE and ERROR_PASSIVE as its counters say (R253). -/
def State.canLevel (s : State) (c : Nat) : State :=
  let high := decide (128 ≤ s.rd (Reg.CAN_STAT.TEC c)) || decide (128 ≤ s.rd (Reg.CAN_STAT.REC c))
  if s.canSt c = 2 ∧ high then s.canPassive c
  else if s.canSt c = 3 ∧ !high then s.canGo c 2
  else s

/-- What becomes of a frame whose attempt failed (R248, R251, R252, R260): `reason` 3 LOST or 4 ERROR. -/
def State.canFailed (s : State) (c i reason : Nat) : State :=
  let x := s.canC c
  let s1 := s.setCanC c { x with cur := none }
  let s2 : State := match x.slot i with
    | none => s1
    | some f =>
      if x.after = .off then s1.canEnd c i 9 0
      else if f.cancelled then s1.canEnd c i 2 0
      else if f.oneshot || s.flag (Reg.CAN_CFG.DAR c) then s1.canEnd c i reason 0
      else s1
  s2.canAfterFrame c

/-- The bits of `CAN_ERR` that an error sets, and its stamp (R254). -/
def State.canErrBits (s : State) (c kinds : Nat) : State :=
  let f := Reg.CAN_ERR.BIT c
  ((List.range 6).foldl (fun s k => if bitOf kinds k then s.raiseFlag ⟨f.off, k, 1⟩ else s) s).wr64 (Reg.CAN_LASTERR.T c) s.now

/-- Counters that an error may leave behind (R254): a transmitter raises TEC, by 8 or not at all and by 8 more for what follows its flag, a receiver REC by 1 or by 8, and by 8 more (PRESUMED, log entry 34). -/
def State.canStepOk (s : State) (c tec rec : Nat) : Bool :=
  let t := s.rd (Reg.CAN_STAT.TEC c)
  let r := s.rd (Reg.CAN_STAT.REC c)
  if s.canSt c = 6 then true
  else if (s.canC c).cur.isSome then decide (rec = r) && decide (t ≤ tec) && decide ((tec - t) % 8 = 0)
  else decide (tec = t) && decide (r ≤ rec) && decide ((rec - r) % 8 ≤ 1)

/-- New counters as ISO 11898-1 has them; frozen in RESTRICTED (R254, R258). -/
def State.canCounters (s : State) (c tec rec : Nat) : State :=
  if s.canSt c = 6 then s
  else (s.wr (Reg.CAN_STAT.TEC c) (min tec 511)).wr (Reg.CAN_STAT.REC c) (min rec 255)

/-- The error kinds as the controller reports them: with PXHE = 0 a recessive res bit is a form error (R237). -/
def State.canKinds (s : State) (c kinds : Nat) : Nat :=
  if bitOf kinds 5 ∧ !s.flag (Reg.CAN_CFG.PXHE c) then setBitOf (clearBitOf kinds 5) 3 % 64 else kinds % 64

/-- The loop delay `v` measured on the frame in progress, when it has BRS and its res edge has passed (R241). -/
def State.canMeasured (s : State) (c : Nat) (v : Option Nat) : State :=
  match v, (s.canC c).cur.bind (fun i => (s.canC c).slot i) with
  | some v, some f => if f.frame.fdf && f.frame.brs && s.flag (Reg.CAN_TDC.TDCEN c) then s.wr (Reg.CAN_TDC.TDCV c) v else s
  | _, _ => s

/-- The transmitter of controller c drives nothing (R437); CN8 to CN11 have transceivers outside the device. -/
def State.canMute (s : State) (c : Nat) : Bool := decide (c < 8) && s.txMute .p0

/-- What controller c drives onto its bus, if its transmitter is free to. -/
def State.canSay (s : State) (c : Nat) (o : Output) : State := if s.canMute c then s else s.emit o

/-- The error flag of a controller that takes part in error signalling (R253, R258). -/
def State.canFlag (s : State) (c : Nat) : State := if s.canSt c = 6 then s else s.canSay c (.canErrorFlag c (decide (s.canSt c = 2)))

/-- CAN_ERROR (R254): `kinds` names the errors detected, [0] bit to [4] acknowledgement and [5] protocol exception; `tec` and `rec` are the counters after them; `tdcv` is the loop delay if it was measured before the error (R241). -/
def State.canError (s : State) (c kinds tec rec : Nat) (tdcv : Option Nat) : State :=
  if c < 12 ∧ (s.canSt c = 2 ∨ s.canSt c = 3 ∨ s.canSt c = 6) ∧ kinds % 64 ≠ 0 then
    let ks := s.canKinds c kinds
    if ks % 32 = 0 then s.canErrBits c ks
    else if !s.canStepOk c tec rec then s
    else
      let s2 := (((s.canErrBits c ks).canMeasured c tdcv).canFlag c).canCounters c tec rec
      let x := s2.canC c
      if s2.canSt c ≠ 6 ∧ 255 < s2.rd (Reg.CAN_STAT.TEC c) ∧ x.after = .none then s2.canBusoff c x.cur
      else
        let s3 := s2.canLevel c
        match x.cur with
        | none => s3
        | some i => s3.canFailed c i 4
  else s

def execCanError (c : Nat) (x : CanErr) (tec rec : Nat) (s : State) : Res := .next (s.canError c x.kinds tec rec x.tdcv)

/-- BUSOFF_HOLD_END (R256). -/
def State.busoffHoldEnd (s : State) (c : Nat) : State :=
  if c < 12 ∧ s.canSt c = 4 ∧ !s.flag (Reg.CAN_CFG.RECOV c) ∧ !(s.canC c).limit ∧
      (s.canC c).boAt + s.rd (Reg.CAN_CFG.BOHOLD c) * 2000000 ≤ s.now then s.canRecoverStart c
  else s

def execBusoffHoldEnd (c : Nat) (s : State) : Res := .next (s.busoffHoldEnd c)

/-- BUSOFF_RECOVERY_DONE (R257): recovery ends with both counters 0. -/
def State.busoffRecoveryDone (s : State) (c : Nat) : State :=
  if c < 12 ∧ s.canSt c = 5 then ((s.wr (Reg.CAN_STAT.TEC c) 0).wr (Reg.CAN_STAT.REC c) 0).canJoin c else s

def execBusoffRecoveryDone (c : Nat) (s : State) : Res := .next (s.busoffRecoveryDone c)

/-- CAN_SYNC_DONE (R253). -/
def execCanSyncDone (c : Nat) (s : State) : Res := .next (if c < 12 ∧ s.canSt c = 1 then s.canJoin c else s)

/-- BUSOFF_COUNT_RESET (R255). -/
def execBusoffCountReset (c : Nat) (s : State) : Res :=
  .next (if c < 12 ∧ s.canSt c = 2 ∧ (s.canC c).eaAt + 200000000 ≤ s.now then s.setCanC c { s.canC c with cons := 0 } else s)

/-- A recover request (R256, R257); true when it starts recovery. -/
def State.canRecoverReq (s : State) (c : Nat) : Bool × State :=
  if c < 12 ∧ s.canSt c = 4 then (true, s.canRecoverStart c) else (false, s)

/-- CAN_CTL_RECOVER (R257). -/
def execCanCtlRecover (c : Nat) (s : State) : Res := .next (s.canRecoverReq c).2

/-- CAN_RECOVER (R257, R250): reason 15 STARTED or 16 NOEFFECT. -/
def State.canRecover (s : State) (t : Nat) : State :=
  match s.opReady t 0x22 with
  | none => s
  | some o =>
    if 12 ≤ o.fld 16 1 then s.complete t St.invalid
    else
      let r := s.canRecoverReq (o.fld 16 1)
      r.2.complete t St.ok (if r.1 then 15 else 16)

def execCanRecover (t : Nat) (s : State) : Res := .next (s.canRecover t)

/-! ### Reception (R243 to R245) -/

/-- Data bytes of a DLC (R237). -/
def dlcLen (fdf : Bool) (d : Nat) : Nat :=
  if d ≤ 8 then d else if !fdf then 8 else ([12, 16, 20, 24, 32, 48, 64][d - 9]?).getD 64

/-- A frame that can be on the bus: identifier within its format, data of its DLC, remote frames classical. -/
def canValid (f : CanFrame) : Bool :=
  decide (f.id < if f.ide then 2 ^ 29 else 2 ^ 11) && decide (f.dlc < 16) && !(f.rtr && f.fdf) && !(f.brs && !f.fdf)
    && decide (f.data.length = if f.rtr then 0 else dlcLen f.fdf f.dlc)

/-- A written receive entry (R245). -/
def canEntry (c : Nat) (f : CanFrame) (stamp : Nat) (matched : Bool) : List Byte :=
  leBytes 8 stamp ++ leBytes 4 (f.id + 2 ^ 29 * b2n f.ide + 2 ^ 30 * b2n f.rtr)
    ++ [BitVec.ofNat 8 (b2n f.fdf + 2 * b2n f.brs + 4 * b2n f.esi + 8 * b2n matched), BitVec.ofNat 8 f.dlc,
        BitVec.ofNat 8 f.data.length, BitVec.ofNat 8 c]
    ++ (f.data ++ List.replicate 64 0#8).take 64

/-- The oldest posted entry of a unit takes what was received; none: the caller's `drop` (R244, R303). -/
def State.fillPost (s : State) (kind unit : Nat) (bytes result : List Byte) (stamp : Nat) (drop : State) : State :=
  match s.posted kind unit with
  | [] => drop
  | p :: _ =>
    { s with host := { s.host with rx := s.host.rx.filter (fun x => decide (x.tag ≠ p.tag)) } }.complete p.tag St.ok 0 stamp result
      (if bytes.length = 0 then [] else [(p.addr, bytes)])

/-- A frame that finds no posted entry is dropped (R244); the first drop since the bit was cleared raises. -/
def State.canDrop (s : State) (c : Nat) : State :=
  let s1 := (s.count (Reg.CAN_CNT2.RXDROP c) 1).raiseFlag (Reg.CAN_ERR.RXDROP c)
  if s.flag (Reg.CAN_ERR.RXDROP c) then s1 else s1.raiseL (canSrc c) 0x15 s.now

/-- Receive counter after a valid frame (R254): one less, and from above 127 to a value of 119 to 127. -/
def State.canRxCount (s : State) (c : Nat) : State :=
  let r := s.rd (Reg.CAN_STAT.REC c)
  if s.canSt c = 6 ∨ r = 0 then s
  else if r ≤ 127 then s.wr (Reg.CAN_STAT.REC c) (r - 1)
  else
    let f := s.takeFree
    (f.2.wr (Reg.CAN_STAT.REC c) (119 + f.1.toNat % 9)).canLevel c

/-- CAN_FRAME_RECEIVED (R243): a valid frame is acknowledged outside RESTRICTED, stamped now, and goes to the decoder and to firmware (R253, R258); with FDEN = 0 an FD frame is a form error (R238). -/
def State.canFrameReceived (s : State) (c : Nat) (f : CanFrame) : State :=
  let st := s.canSt c
  if c < 12 ∧ (st = 2 ∨ st = 3 ∨ st = 6) ∧ (s.canC c).cur = none ∧ canValid f then
    if f.fdf ∧ !s.flag (Reg.CAN_CFG.FDEN c) then s.canError c 8 (s.rd (Reg.CAN_STAT.TEC c)) (s.rd (Reg.CAN_STAT.REC c) + 1) none
    else
      let key := f.id + 2 ^ 31 * b2n f.ide
      let k := if f.rtr then none else s.decRec 0 c key 0 0
      let s0 := if st = 6 then s else s.canSay c (.canAck c)
      let s1 := (s0.count (Reg.CAN_CNT.RXOK c) 1).canRxCount c
      let s2 : State := match k with
        | none => s1
        | some k => s1.receiveRec k f.data s.now (canSrc c)
      let mode := s.rd (Reg.CAN_CFG.RXHOST c)
      if mode = 2 ∨ (mode = 1 ∧ k = none) then
        s2.fillPost 0 c (canEntry c f s.now k.isSome) [] s.now (s2.canDrop c)
      else s2
  else s

def execCanFrameReceived (c : Nat) (f : CanFrame) (s : State) : Res := .next (s.canFrameReceived c f)

/-! ### Transmission (R246 to R252) -/

/-- The arbitration field as a number, the lowest winning (R248). -/
def canArb (f : CanFrame) : Nat :=
  if f.ide then f.id / 2 ^ 18 * 2 ^ 21 + 2 ^ 20 + 2 ^ 19 + f.id % 2 ^ 18 * 2 + b2n f.rtr
  else f.id * 2 ^ 21 + b2n f.rtr * 2 ^ 20

/-- Frame a starts before frame b (R248). -/
def canBefore (a b : Nat × CanTx) : Bool :=
  decide (canArb a.2.frame < canArb b.2.frame) || (decide (canArb a.2.frame = canArb b.2.frame) &&
    (decide (a.2.seq < b.2.seq) || (decide (a.2.seq = b.2.seq) && decide (a.1 < b.1))))

/-- The frame that starts next: of those that may start, the first by R248. -/
def canBest : List (Nat × CanTx) → Option (Nat × CanTx)
  | [] => none
  | x :: xs =>
    match canBest xs with
    | none => some x
    | some y => if canBefore y x then some y else some x

/-- A cancel of request t has arrived before this tick and is next on its ring (R252). -/
def State.cancelled (s : State) (c : Nat) (t : Option Nat) : Bool :=
  s.host.ops.any (fun p => match s.opReady p.1 0x21 with
    | some o => decide (o.fld 16 1 = c) && decide (t = some (o.fld 17 1)) && decide (o.tick < s.now)
    | none => false)

/-- The pending frames that may start: while DEGRADED the data phase is refused (R259), with FDEN = 0 an FD frame (DESIGN CHOICE, log entry 32), and a frame whose cancel came in an earlier tick (R252). -/
def State.canReadySlots (s : State) (c : Nat) : List (Nat × CanTx) :=
  ((s.canC c).slots.filterMap (fun p => p.2.map (fun f => (p.1, f)))).filter (fun p =>
    !(p.2.frame.brs && decide (s.tbSt = .degraded)) && (!p.2.frame.fdf || s.flag (Reg.CAN_CFG.FDEN c)) && !s.cancelled c p.2.tag)

/-- CAN_TX_START (R248): the start-of-frame of the winning pending frame; its age words are written (R64). -/
def State.canTxStart (s : State) (c : Nat) : State :=
  let x := s.canC c
  if c < 12 ∧ (s.canSt c = 2 ∨ s.canSt c = 3) ∧ x.cur = none ∧ x.after = .none then
    match canBest (s.canReadySlots c) with
    | none => s
    | some (i, f) =>
      let data := TxPdu.at { bytes := f.frame.data, ages := f.ages } s.now
      let fr : CanFrame := { f.frame with data := data, esi := decide (s.canSt c = 3) }
      (s.setCanC c { x with cur := some i }).canSay c (.canFrame c fr)
  else s

def execCanTxStart (c : Nat) (s : State) : Res := .next (s.canTxStart c)

/-- CAN_FRAME_SENT (R250, R254): the frame becomes valid, which it cannot while its transmitter is forced recessive (R437); `tdcv` is the loop delay measured on it (R241). -/
def State.canFrameSent (s : State) (c tdcv : Nat) : State :=
  match (s.canC c).cur with
  | none => s
  | some i =>
    match (s.canC c).slot i with
    | none => s
    | some _ =>
      if s.canMute c then s
      else
        let s1 := s.count (Reg.CAN_CNT.TXOK c) 1
        let s2 := s1.canMeasured c (some tdcv)
        let s3 := (s2.canCounters c (s.rd (Reg.CAN_STAT.TEC c) - 1) (s.rd (Reg.CAN_STAT.REC c))).canLevel c
        let s4 := (s3.setCanC c { s3.canC c with cur := none }).canEnd c i 1 s.now
        s4.canAfterFrame c

def execCanFrameSent (c tdcv : Nat) (s : State) : Res := .next (s.canFrameSent c tdcv)

/-- CAN_ARBITRATION_LOST (R248, R251). -/
def State.canArbitrationLost (s : State) (c : Nat) : State :=
  match (s.canC c).cur with
  | none => s
  | some i => s.canFailed c i 3

def execCanArbitrationLost (c : Nat) (s : State) : Res := .next (s.canArbitrationLost c)

/-- A build enters an encoder or the lantern slot (R249); an FD frame on a controller with FDEN = 0 cannot be accepted (DESIGN CHOICE, log entry 32). -/
def State.canQueue (s : State) (c i : Nat) (f : CanTx) : State :=
  let x := s.canC c
  let st := s.canSt c
  let lost := if i < 47 then s.count (Reg.CAN_CNT3.ENCDROP c) 1 else s
  let repl := if i < 47 then s.count (Reg.CAN_CNT3.TXREPL c) 1 else s
  if st = 0 ∨ x.after = .off then s
  else if 4 ≤ st ∨ (f.frame.brs ∧ s.tbSt = .degraded) ∨ (f.frame.fdf ∧ !s.flag (Reg.CAN_CFG.FDEN c)) then lost
  else
    let g : CanTx := { f with seq := x.seq }
    if x.cur = some i ∨ (SMap.get CanTx.empty x.next i).isSome then
      (if (SMap.get CanTx.empty x.next i).isSome then repl else s).setCanC c { x with next := SMap.set CanTx.empty x.next i (some g) }
    else (if (x.slot i).isSome then repl else s).setCanC c { (x.setSlot i (some g)) with seq := x.seq + 1 }

/-- The DLC that carries `n` bytes. -/
def lenDlc (n : Nat) : Nat :=
  if n ≤ 8 then n
  else if n ≤ 12 then 9 else if n ≤ 16 then 10 else if n ≤ 20 then 11 else if n ≤ 24 then 12 else if n ≤ 32 then 13 else if n ≤ 48 then 14 else 15

/-- The slot of encode record `k`: its place among the records of its controller (R246). -/
def State.canSlotOf (s : State) (k c : Nat) : Nat :=
  ((s.img.enc.take k).filter (fun r => decide (r.bus = 0) && decide (r.channel = c))).length

/-- The build of encode record `k` reaches its controller. -/
def State.canBuild (s : State) (k : Nat) (r : EncRec) (p : TxPdu) : State :=
  let n := dlcLen r.fdf (lenDlc p.bytes.length)
  let fr : CanFrame := { id := r.key % 2 ^ 29, ide := bitOf r.key 31, rtr := false, fdf := r.fdf, brs := r.brs, esi := false,
                         dlc := lenDlc p.bytes.length, data := (p.bytes ++ List.replicate 64 0#8).take n }
  if s.canSlotOf k r.channel < 47 ∧ r.channel < 12 then s.canQueue r.channel (s.canSlotOf k r.channel) { frame := fr, ages := p.ages } else s

/-- The lowest free firmware slot (R246). -/
def CanCtl.freeFw (x : CanCtl) : Option Nat := ((List.range 16).map (fun i => 48 + i)).find? (fun i => (x.slot i).isNone)

/-- The reason a transmit request is refused with, if it is (R247). -/
def State.canRefusal (s : State) (c : Nat) (f : CanFrame) : Option Nat :=
  let st := s.canSt c
  if st = 0 ∨ (s.canC c).after = .off then some 9
  else if !canValid f || (!f.fdf && decide (8 < f.dlc)) then some 11
  else if f.fdf ∧ !s.flag (Reg.CAN_CFG.FDEN c) then some 10
  else if f.brs ∧ s.tbSt = .degraded then some 8
  else if st = 4 ∨ st = 5 then some 5
  else if st = 6 then some 6
  else if (s.canC c).freeFw = none then some 7
  else none

/-- The frame of a transmit request (R300): data of up to 32 bytes from the descriptor, longer data from host memory. -/
def canReqFrame (o : HostOp) (host : List Byte) : CanFrame :=
  let fl := o.fld 17 1
  let n := if bitOf fl 1 then 0 else dlcLen (bitOf fl 2) (o.fld 18 1)
  { id := o.fld 20 4, ide := bitOf fl 0, rtr := bitOf fl 1, fdf := bitOf fl 2, brs := bitOf fl 3, esi := false, dlc := o.fld 18 1,
    data := if n ≤ 32 then (o.desc.drop 32).take n else host }

/-- CAN_TX (R247). -/
def State.canTx (s : State) (t : Nat) (x : ReadResult) : State :=
  match s.opReady t 0x20 with
  | none => s
  | some o =>
    let c := o.fld 16 1
    let n := dlcLen (bitOf (o.fld 17 1) 2) (o.fld 18 1)
    let f := canReqFrame o ((readBytes x n).getD [])
    if 12 ≤ c then s.complete t St.invalid 11
    else if s.canSt c ≠ 0 ∧ (s.canC c).after ≠ .off ∧ 32 < n ∧ !bitOf (o.fld 17 1) 1 ∧ readBytes x n = none then s.dmaError t x
    else
      match s.canRefusal c f with
      | some r => s.complete t (canStatus r) r
      | none =>
        match (s.canC c).freeFw with
        | none => s
        | some i =>
          let g : CanTx := { frame := f, seq := (s.canC c).seq, tag := some t, oneshot := bitOf (o.fld 17 1) 4 }
          (s.begin t).setCanC c { ((s.canC c).setSlot i (some g)) with seq := (s.canC c).seq + 1 }

def execCanTx (t : Nat) (x : ReadResult) (s : State) : Res := .next (s.canTx t x)

/-- The firmware slot that holds a request's tag. -/
def CanCtl.slotOf (x : CanCtl) (t : Nat) : Option Nat :=
  ((List.range 16).map (fun i => 48 + i)).find? (fun i => match x.slot i with
    | some f => decide (f.tag = some t)
    | none => false)

/-- A pending request is cancelled (R252): removed, or marked when it is past its start-of-frame; the reason for the cancel. -/
def State.canCancelTag (s : State) (c t : Nat) : Nat × State :=
  match (s.canC c).slotOf t with
  | none => (14, s)
  | some i =>
    if (s.canC c).cur = some i then
      (13, s.setCanC c ((s.canC c).setSlot i (((s.canC c).slot i).map (fun f => { f with cancelled := true }))))
    else (12, s.canEnd c i 2 0)

/-- CAN_CANCEL (R252): on equal ticks a start-of-frame comes before the cancel, which acts from the next tick on. -/
def State.canCancel (s : State) (t : Nat) : State :=
  match s.opReady t 0x21 with
  | none => s
  | some o =>
    if 12 ≤ o.fld 16 1 then s.complete t St.invalid
    else if s.now ≤ o.tick then s
    else
      let r := s.canCancelTag (o.fld 16 1) (o.fld 17 1)
      r.2.complete t St.ok r.1

def execCanCancel (t : Nat) (s : State) : Res := .next (s.canCancel t)

/-! ### DEGRADED (R258, R259), device reset and the stop of the host interface -/

/-- A frame of a slot waits with a data phase and has not started. -/
def CanCtl.brsWaits (x : CanCtl) (i : Nat) : Bool :=
  match x.slot i with
  | some f => f.frame.brs && decide (x.cur ≠ some i)
  | none => false

/-- Entry into DEGRADED on one controller: waiting BRS frames end (R259), and a source of RESTRICTED may be set (R258). -/
def State.canDegradedOne (s : State) (c : Nat) : State :=
  let x := s.canC c
  let s1 := ((x.slots.map (fun p => p.1)).filter (fun i => x.brsWaits i)).foldl (fun s i => s.canEnd c i 8 0) s
  if s.flag (Reg.CAN_CFG.DEGRESTR c) ∧ s.canSt c ≠ 0 then s1.canSource c 1 true else s1

/-- The DEGRADED source makes controller c enter RESTRICTED. -/
def State.canRestricts (s : State) (c : Nat) : Bool :=
  s.flag (Reg.CAN_CFG.DEGRESTR c) && (decide (s.canSt c = 2) || decide (s.canSt c = 3))

/-- The firmware requests that entry into DEGRADED ends on controller c (R258, R259). -/
def State.canDegradedFw (s : State) (c : Nat) : List (Nat × Nat × Nat) :=
  let x := s.canC c
  (x.fwOrder.filter (fun i => decide (x.cur ≠ some i) && (x.brsWaits i || s.canRestricts c))).map (fun i => (c, i, if x.brsWaits i then 8 else 6))

/-- The controllers follow the time base into DEGRADED or out of it; firmware requests end in the order of their arrival (R250). -/
def State.canFollow (s : State) (degraded : Bool) : State :=
  if degraded then (List.range 12).foldl State.canDegradedOne (s.canEndAll ((List.range 12).flatMap s.canDegradedFw))
  else (List.range 12).foldl (fun s c => if bitOf (s.rd (Reg.CAN_STAT.RSRC c)) 1 then s.canSource c 1 false else s) s

/-- A start of die L stops a controller at once (R261); an enabled one enters SYNC.  Bus-off entries are counted from the wake on (R242). -/
def State.canReset (fresh : Bool) (s : State) (c : Nat) : State :=
  let s1 := ((s.setCanC c { busoffs := if fresh then 0 else (s.canC c).busoffs }).wr (Reg.CAN_STAT.STATE c) 0).wr (Reg.CAN_STAT.RSRC c) 0
  if s.flag (Reg.CAN_CFG.ENABLE c) then s1.canEnable c
  else (s1.wr (Reg.CAN_STAT.TEC c) 0).wr (Reg.CAN_STAT.REC c) 0

/-- The stop of the host interface (R307): firmware requests end as for disabling and report nothing; one past its start-of-frame runs on without a further attempt. -/
def State.canHostStop (s : State) (c : Nat) : State :=
  let x := s.canC c
  let keep := fun (p : Nat × Option CanTx) =>
    if p.1 < 48 then some p else if x.cur = some p.1 then some (p.1, p.2.map (fun f => { f with tag := none, cancelled := true })) else none
  s.setCanC c { x with slots := x.slots.filterMap keep, resetTag := x.resetTag.map (fun _ => noTag) }

end Sys2Proof.Machine
end

