-- ==== Sys2Proof/Machine/Lin.lean ====
section
/-! DEFINITION. The LIN channels (R267 to R275, R284): schedules, publishing and reception, errors, sleep and wake, diagnostic requests. -/

namespace Sys2Proof.Machine

/-- A channel that was never used. -/
def LinCh.blank : Nat → LinCh := fun _ => {}
def State.linC (s : State) (n : Nat) : LinCh := SMap.get LinCh.blank s.lin n
def State.setLinC (s : State) (n : Nat) (x : LinCh) : State := { s with lin := SMap.set LinCh.blank s.lin n x }

/-- `LIN_STAT.STATE` (R275): 0 OFF, 1 SLEEP, 2 ACTIVE. -/
def State.linSt (s : State) (n : Nat) : Nat := s.rd (Reg.LIN_STAT.STATE n)
def State.linCommander (s : State) (n : Nat) : Bool := !s.flag (Reg.LIN_CFG.ROLE n)

/-- The tables of a channel in the active image. -/
def State.linChan (s : State) (n : Nat) : LinChan := SMap.get (fun _ => {}) s.img.lin n
def State.linTable (s : State) (n tb : Nat) : List LinSlot := ((s.linChan n).tables[tb]?).getD []

/-- Bit length in ticks (R267) and T_frame_max for N data bytes (R268). -/
def State.linBit (s : State) (n : Nat) : Nat := roundDiv 200000000 (s.rd (Reg.LIN_CFG.RATE n))
def State.linFrameMax (s : State) (n dlen : Nat) : Nat := 14 * (34 + 10 * (dlen + 1)) * s.linBit n / 10

/-- The protected identifier: parity bits over the identifier (R267). -/
def linPid (id : Nat) : Nat :=
  let b := fun i => b2n (bitOf id i)
  id % 64 + 64 * ((b 0 + b 1 + b 2 + b 4) % 2) + 128 * ((b 1 + b 3 + b 4 + b 5 + 1) % 2)

/-- Sum with end-around carry. -/
def linSum (start : Nat) (bs : List Byte) : Nat :=
  bs.foldl (fun a b => if 256 ≤ a + b.toNat then a + b.toNat - 255 else a + b.toNat) start

/-- The checksum of a response: classic over the data, enhanced over the protected identifier too; 0x3C and 0x3D classic (R267). -/
def linChecksum (enhanced : Bool) (id : Nat) (bs : List Byte) : Nat :=
  255 - linSum (if enhanced && decide (id ≠ 0x3C) && decide (id ≠ 0x3D) then linPid id else 0) bs

/-! ### The STATE entry (R275) -/

def State.linValue (s : State) (n : Nat) : Nat :=
  s.linSt n + 16 * s.rd (Reg.LIN_STAT.SCHED n) + 256 * s.rd (Reg.LIN_STAT.SLOT n) + 65536 * b2n (s.linC n).resperr

/-- The entry is updated when its value has changed. -/
def State.linReport (s : State) (n t : Nat) : State :=
  let same := match s.lastSent (0x02000 + 16 * n) with
    | some u => decide (u.value = w64 (s.linValue n))
    | none => false
  if same then s else s.unitL (0x02000 + 16 * n) (s.linValue n) t (linSrc n)

/-- The channel enters a state. -/
def State.linGo (s : State) (n st t : Nat) : State := (s.wr (Reg.LIN_STAT.STATE n) st).linReport n t

/-! ### Errors (R271) -/

/-- Errors are detected: their bits, the count, the fault of the first since the bits were clear, and RESPERR of a responder addressed. -/
def State.linErrs (s : State) (n kinds : Nat) (addressed : Bool) : State :=
  let f := Reg.LIN_ERR.BIT n
  let ks := (List.range 5).filter (fun k => bitOf kinds k)
  if ks.length = 0 then s
  else
    let clear := decide ((s.word f.off).toNat % 32 = 0)
    let s1 := (ks.foldl (fun s k => s.raiseFlag ⟨f.off, k, 1⟩) s).count (Reg.LIN_CNT2.ERR n) ks.length
    let s2 := if clear then s1.raiseL (linSrc n) 0x16 s.now else s1
    if addressed && !s.linCommander n then (s2.setLinC n { s2.linC n with resperr := true }).linReport n s.now else s2

/-! ### Enable, disable and reset (R273, R308) -/

/-- `DEGR` of channel n: a commander in use while the time base is DEGRADED (R274). -/
def State.linShowDegr (s : State) (n : Nat) : State :=
  s.wr (Reg.LIN_STAT.DEGR n) (b2n (s.linCommander n && decide (s.linSt n ≠ 0) && decide (s.tbSt = .degraded)))

/-- A channel that is put in use: ACTIVE, table 0 from its slot 0. -/
def State.linEnable (s : State) (n : Nat) : State :=
  let s1 := ((s.setLinC n { slotEnd := s.now, lastBus := s.now }).wr (Reg.LIN_STAT.SCHED n) 0).wr (Reg.LIN_STAT.SLOT n) 0
  (s1.linGo n 2 s.now).linShowDegr n

/-- The tags of the requests that wait on channel n, in the order of their arrival (R273). -/
def State.linWaiting (s : State) (n : Nat) : List Nat :=
  let x := s.linC n
  sortBy (fun a b => decide (s.arrival (some a) ≤ s.arrival (some b))) (x.diag.map (fun d => d.1) ++ (x.req.bind (fun r => r.2)).toList)

/-- The waiting requests end and the channel enters OFF; a function reset puts it in use again. -/
def State.linOff (s : State) (n : Nat) : State :=
  let x := s.linC n
  let s2 := (s.linWaiting n).foldl (fun s t => s.complete t St.aborted) s
  let s3 := (((s2.returnPosts (s2.posted 1 n)).setLinC n {}).linGo n 0 s.now).linShowDegr n
  match x.resetTag with
  | none => s3
  | some t => (s3.linEnable n).complete t St.ok

/-- The disable sequence (R273): a frame in progress finishes first.  A function reset that waited for that end is overtaken, and ends as the waiting operations do. -/
def State.linDisable (s : State) (n : Nat) (tag : Option Nat) : State :=
  if s.linSt n = 0 ∨ (tag.isSome ∧ !s.flag (Reg.LIN_CFG.ENABLE n)) then s.completeOpt tag St.configMismatch
  else
    let s1 := (s.setLinC n { s.linC n with ending := true, resetTag := tag }).completeOpt (s.linC n).resetTag St.aborted
    if (s1.linC n).hdr.isNone then s1.linOff n else s1

/-- A frame has ended. -/
def State.linFrameOver (s : State) (n : Nat) : State :=
  let s1 := s.setLinC n { s.linC n with hdr := none, publishing := false, evOut := none, diagOut := none, sleepOut := false, lastBus := s.now }
  if (s.linC n).ending then s1.linOff n else s1

/-- A device reset (R309): a channel in use starts anew. -/
def State.linReset (s : State) (n : Nat) : State :=
  let s1 := (s.setLinC n {}).wr (Reg.LIN_STAT.STATE n) 0
  if s.flag (Reg.LIN_CFG.ENABLE n) then s1.linEnable n else s1

/-- The channels follow the time base into DEGRADED or out of it (R274). -/
def State.linFollow (s : State) : State := (List.range 10).foldl State.linShowDegr s

/-! ### The schedule (R268 to R270) -/

/-- The table and slot that come next, and what is left of the resolution: request, restart, collision resolution, the end of a resolution table, the next slot. -/
def State.linNext (s : State) (n : Nat) : (Nat × Nat) × Option (Nat × Nat) :=
  let x := s.linC n
  let tb := s.rd (Reg.LIN_STAT.SCHED n)
  let sl := s.rd (Reg.LIN_STAT.SLOT n)
  let len := (s.linTable n tb).length
  match x.req with
  | some (r, _) => ((r, 0), none)
  | none =>
    if x.anew then (((match x.resolving with
      | some (t, _) => t
      | none => tb), 0), none)
    else if x.resolveNext ≠ 0 then ((x.resolveNext - 1, 0), some (tb, (sl + 1) % len))
    else
      match x.resolving with
      | some (t, k) => if sl + 1 = len then ((t, k), none) else ((tb, sl + 1), some (t, k))
      | none => ((tb, (sl + 1) % len), none)

/-- What channel n drives onto its bus, unless its transmitter is forced recessive (R437). -/
def State.linSay (s : State) (o : Output) : State := if s.txMute .p1 then s else s.emit o

/-- A header is sent, at tick `t` (R268). -/
def State.linHeader (s : State) (n id t : Nat) : State :=
  (s.setLinC n { s.linC n with hdr := some (id, t), lastBus := t, wakeEnd := none, wakeTries := 0 }).linSay (.linHeader n (linPid id))

/-- A response is sent. -/
def State.linRespond (s : State) (n id : Nat) (enhanced : Bool) (data : List Byte) : State :=
  (s.setLinC n { s.linC n with publishing := true }).linSay (.linResponse n (linPid id) data (linChecksum enhanced id data))

/-- The build that waits for an identifier. -/
def LinCh.build (x : LinCh) (id : Nat) : Option LinBuild := (x.builds.find? (fun p => decide (p.1 = id))).map (fun p => p.2)

/-- The latest build of a published frame goes out with its age words as of tick `t` (R64, R270); a frame that was never built has no response. -/
def State.linPublish (s : State) (n : Nat) (f : LinSlot) (t : Nat) : State :=
  match (s.linC n).build f.id with
  | none => s
  | some b =>
    let x := s.linC n
    (s.setLinC n { x with builds := SMap.put f.id { b with isNew := false } x.builds }).linRespond n f.id f.enhanced ((b.pdu.at t).take f.dlen)

/-- The frame of an identifier among the channel's frames. -/
def State.linFrameOf (s : State) (n id : Nat) : Option LinSlot := (s.linChan n).frames.find? (fun f => decide (f.id = id))

/-- The go-to-sleep command (R272). -/
def sleepData : List Byte := 0#8 :: List.replicate 7 0xFF#8

/-- The diagnostic request slot (R272, R273): the go-to-sleep command first, then the oldest request; without one the slot stays silent. -/
def State.linDiagSlot (s : State) (n t : Nat) : State :=
  let x := s.linC n
  if x.sleepReq then ((s.linHeader n 0x3C t).setLinC n { (s.linHeader n 0x3C t).linC n with sleepOut := true }).linRespond n 0x3C false sleepData
  else
    match x.diag with
    | [] => s
    | d :: _ =>
      let s1 := s.linHeader n 0x3C t
      (s1.setLinC n { s1.linC n with diagOut := some d.1 }).linRespond n 0x3C false d.2

/-- A responder answers an event-triggered header when a frame behind it has been built by an on-change trigger and not sent since; its first byte is that frame's protected identifier (PRESUMED, log entry 35). -/
def State.linPublishEvent (s : State) (n : Nat) (f : LinSlot) (t : Nat) : State :=
  let x := s.linC n
  match f.frames.filterMap (fun i => (x.build i).bind (fun b => if b.isNew then some (i, b) else none)) with
  | [] => s
  | (i, b) :: _ =>
    (s.setLinC n { x with builds := SMap.put i { b with isNew := false } x.builds, evOut := some i }).linRespond n f.id f.enhanced
      (BitVec.ofNat 8 (linPid i) :: ((b.pdu.at t).take f.dlen).drop 1)

/-- A slot of the schedule runs from tick `t` (R268, R270). -/
def State.linRun (s : State) (n : Nat) (f : LinSlot) (t : Nat) : State :=
  match f.kind with
  | .unconditional => if f.publish then (s.linHeader n f.id t).linPublish n f t else s.linHeader n f.id t
  | .eventTriggered => s.linHeader n f.id t
  | .sporadic =>
    match f.frames.find? (fun i => match (s.linC n).build i with
      | some b => b.isNew
      | none => false) with
    | none => s
    | some i =>
      let g := (s.linFrameOf n i).getD { ms := 0, id := i, dlen := f.dlen, enhanced := f.enhanced }
      (s.linHeader n i t).linPublish n g t
  | .diagRequest => s.linDiagSlot n t
  | .diagResponse => s.linHeader n 0x3D t

/-- A schedule change is requested; one that waits is replaced (R269, R300). -/
def State.linRequest (s : State) (n tb : Nat) (tag : Option Nat) : State :=
  let s1 : State := match (s.linC n).req with
    | some (_, t) => s.completeOpt t St.retryLater
    | none => s
  s1.setLinC n { s1.linC n with req := some (tb, tag) }

/-- LIN_CTL_SREQ (R269). -/
def execLinCtlSreq (n table : Nat) (s : State) : Res :=
  .next (if n < 10 ∧ s.linSt n ≠ 0 ∧ s.linCommander n ∧ (s.linTable n table).length ≠ 0 then s.linRequest n table none else s)

/-- LIN_SCHED (R269, R300). -/
def State.linSched (s : State) (t : Nat) : State :=
  match s.opReady t 0x28 with
  | none => s
  | some o =>
    let n := o.fld 16 1
    if 10 ≤ n then s.complete t St.invalid
    else if s.linSt n = 0 ∨ (s.linC n).ending then s.complete t St.aborted
    else if s.linCommander n ∧ (s.linTable n (o.fld 17 1)).length = 0 then s.complete t St.invalid
    else if !s.linCommander n then s.complete t St.configMismatch
    else (s.begin t).linRequest n (o.fld 17 1) (some t)

def execLinSched (t : Nat) (s : State) : Res := .next (s.linSched t)

/-- LIN_DIAG (R273): a request waits for the next diagnostic request slot; at most 4 wait. -/
def State.linDiag (s : State) (t : Nat) : State :=
  match s.opReady t 0x29 with
  | none => s
  | some o =>
    let n := o.fld 16 1
    if 10 ≤ n then s.complete t St.invalid
    else if s.linSt n = 0 ∨ (s.linC n).ending then s.complete t St.aborted
    else if !s.linCommander n then s.complete t St.configMismatch
    else if s.linSt n = 1 ∨ 4 ≤ (s.linC n).diag.length then s.complete t St.retryLater
    else (s.begin t).setLinC n { s.linC n with diag := (s.linC n).diag ++ [(t, (o.desc.drop 24).take 8)] }

def execLinDiag (t : Nat) (s : State) : Res := .next (s.linDiag t)

/-! ### Frames (R270, R271) -/

/-- The frame that identifier `id` names for a responder: one of the image's, or the go-to-sleep command, which every responder takes (R272). -/
def State.linRespFrame (s : State) (n id : Nat) : Option LinSlot :=
  match s.linFrameOf n id with
  | some f => some f
  | none => if id = 0x3C then some { ms := 0, id := 0x3C, dlen := 8, enhanced := false } else none

/-- The break field of a header that is complete now began `ago` ticks ago: 34 bit lengths, stretched by up to 1.4 (R268). -/
def State.linHeaderLen (s : State) (n ago : Nat) : Bool := decide (34 * s.linBit n ≤ ago) && decide (10 * ago ≤ 476 * s.linBit n) && decide (ago ≤ s.now)

/-- LIN_HEADER_RECEIVED (R270, R271): a responder publishes the latest build, or expects the response of another; the break field of the header began `ago` ticks ago (R64). -/
def State.linHeaderReceived (s : State) (n pid : Nat) (parityOk : Bool) (ago : Nat) : State :=
  if n < 10 ∧ s.linSt n = 2 ∧ !s.linCommander n ∧ !(s.linC n).ending ∧ s.linHeaderLen n ago then
    let s1 := s.setLinC n { s.linC n with lastBus := s.now, wakeEnd := none, wakeTries := 0, hdr := none, publishing := false }
    match s.linRespFrame n (pid % 64) with
    | none => if parityOk then s1 else s1.linErrs n 16 false
    | some f =>
      if !parityOk then s1.linErrs n 16 (s.linFrameOf n f.id).isSome
      else
        let t := s.now - ago
        let s2 := s1.setLinC n { s1.linC n with hdr := some (f.id, t) }
        if f.publish then (if f.kind = .eventTriggered then s2.linPublishEvent n f t else s2.linPublish n f t) else s2
  else s

def execLinHeaderReceived (n pid : Nat) (x : LinHead) (s : State) : Res := .next (s.linHeaderReceived n pid x.parityOk x.ago)

/-- The slot of the schedule in progress. -/
def State.linSlotNow (s : State) (n : Nat) : Option LinSlot :=
  (s.linTable n (s.rd (Reg.LIN_STAT.SCHED n)))[s.rd (Reg.LIN_STAT.SLOT n)]?

/-- The frame a header of identifier `id` stands for: the responder's own, or that of the commander's slot. -/
def State.linExpected (s : State) (n id : Nat) : Option LinSlot :=
  if !s.linCommander n then s.linRespFrame n id
  else
    match s.linSlotNow n with
    | none => none
    | some f => if f.kind = .sporadic then some ((s.linFrameOf n id).getD f) else some f

/-- A published frame is complete (R271, R272, R273). -/
def State.linSent (s : State) (n : Nat) (f : LinSlot) : State :=
  let x := s.linC n
  let s1 := s.count (Reg.LIN_CNT.TXOK n) 1
  let s2 := if f.resperr && x.resperr then (s1.setLinC n { x with resperr := false }).linReport n s.now else s1
  let s3 : State := match x.diagOut with
    | none => s2
    | some t => (s2.setLinC n { s2.linC n with diag := (s2.linC n).diag.filter (fun d => decide (d.1 ≠ t)) }).complete t St.ok 0 s.now
  if x.sleepOut then (s3.setLinC n { s3.linC n with sleepReq := false }).linGo n 1 s.now else s3

/-- A received response is complete and correct (R60, R272, R303): decoded, or a diagnostic response for firmware, or the go-to-sleep command. -/
def State.linGot (s : State) (n id : Nat) (f : LinSlot) (data : List Byte) : State :=
  let s1 := s.count (Reg.LIN_CNT.RXOK n) 1
  if f.kind = .diagResponse ∨ id = 0x3D then
    (if s.linCommander n then
      s1.fillPost 1 n [] ([BitVec.ofNat 8 (linPid id), BitVec.ofNat 8 data.length] ++ List.replicate 6 0#8 ++ data) s.now
        (s1.count (Reg.LIN_CNT2.ERR n) 1)
     else s1)
  else if id = 0x3C then (if data.head? = some 0#8 then s1.linGo n 1 s.now else s1)
  else
    let k := if f.kind = .eventTriggered then (data.headD 0#8).toNat % 64 else id
    s1.receivePdu 1 n k 0 0 data s.now (linSrc n)

/-- The responses to an event-triggered header collide (R270): the commander records it and runs the resolution table next; a responder still has its frame to send. -/
def State.linCollision (s : State) (n : Nat) (f : LinSlot) : State :=
  let x := s.linC n
  if s.linCommander n then
    let s1 := s.raiseFlag (Reg.LIN_ERR.COLL n)
    s1.setLinC n { x with resolveNext := f.resolve + 1 }
  else
    match x.evOut.bind (fun i => (x.build i).map (fun b => (i, b))) with
    | some (i, b) => s.setLinC n { x with builds := SMap.put i { b with isNew := true } x.builds }
    | none => s

/-- LIN_FRAME_RECEIVED (R270, R271): the response to the header in progress is complete; one of its own that a transmitter forced recessive sent is a bit error (R437). -/
def State.linFrameReceived (s : State) (n : Nat) (r : LinFrame) : State :=
  match (s.linC n).hdr with
  | none => s
  | some (id, t) =>
    match s.linExpected n id with
    | none => s
    | some f =>
      if 10 ≤ n ∨ s.linSt n ≠ 2 ∨ r.pid ≠ linPid id ∨ t + s.linFrameMax n f.dlen < s.now then s
      else if f.kind = .eventTriggered ∧ r.collision then (s.linCollision n f).linFrameOver n
      else
        let own := (s.linC n).publishing && s.txMute .p1 && decide (r.err % 2 = 0)
        let bad := r.err % 16 - (if bitOf r.err 2 then 4 else 0) + (if r.data.length < f.dlen then 4 else 0) + b2n own
        if bad ≠ 0 then (s.linErrs n bad (s.linFrameOf n id).isSome).linFrameOver n
        else if (s.linC n).publishing then (s.linSent n f).linFrameOver n
        else (s.linGot n id f r.data).linFrameOver n

def execLinFrameReceived (n : Nat) (f : LinFrame) (s : State) : Res := .next (s.linFrameReceived n f)

/-- LIN_RESPONSE_TIMEOUT (R271): no complete response within T_frame_max; an event-triggered slot may stay unanswered. -/
def State.linResponseTimeout (s : State) (n : Nat) : State :=
  match (s.linC n).hdr with
  | none => s
  | some (id, t) =>
    match s.linExpected n id with
    | none => s
    | some f =>
      if n < 10 ∧ t + s.linFrameMax n f.dlen ≤ s.now then
        (if f.kind = .eventTriggered then s else s.linErrs n 4 (s.linFrameOf n id).isSome).linFrameOver n
      else s

def execLinResponseTimeout (n : Nat) (s : State) : Res := .next (s.linResponseTimeout n)

/-- A running commander takes its next slot, at the end of the one before. -/
def State.linSlotNext (s : State) (n : Nat) : State :=
  let x := s.linC n
  let nx := s.linNext n
  match (s.linTable n nx.1.1)[nx.1.2]? with
  | none => s
  | some f =>
    let t := x.slotEnd
    let s1 := s.setLinC n { x with slotEnd := t + f.ms * 200000, anew := false, req := none, resolving := nx.2, resolveNext := 0, hdr := none }
    let s2 := ((s1.wr (Reg.LIN_STAT.SCHED n) nx.1.1).wr (Reg.LIN_STAT.SLOT n) nx.1.2).linReport n t
    let s3 : State := match x.req with
      | some (_, tag) => s2.completeOpt tag St.ok 0 t
      | none => s2
    s3.linRun n f t

/-- LIN_SLOT_START (R268, R269): the next slot starts at the end of the one before, whose frame is over by then. -/
def State.linSlotStart (s : State) (n : Nat) : State :=
  let x := s.linC n
  if n < 10 ∧ s.linSt n = 2 ∧ s.linCommander n ∧ x.restartAt = none ∧ !x.ending ∧ x.slotEnd ≤ s.now then
    (s.linResponseTimeout n).linSlotNext n
  else s

def execLinSlotStart (n : Nat) (s : State) : Res := .next (s.linSlotStart n)

/-- The build of an encode record reaches its channel; `byChange` is that an on-change trigger made it (R270). -/
def State.linBuild (s : State) (r : EncRec) (p : TxPdu) (byChange : Bool) : State :=
  let x := s.linC r.channel
  if r.channel < 10 ∧ s.linSt r.channel ≠ 0 then
    let was := match x.build (r.key % 64) with
      | some b => b.isNew
      | none => false
    s.setLinC r.channel { x with builds := SMap.put (r.key % 64) { pdu := p, isNew := was || byChange } x.builds }
  else s

/-! ### Sleep and wake (R272) -/

/-- LIN_CTL_SLEEP (R272). -/
def execLinCtlSleep (n : Nat) (s : State) : Res :=
  .next (if n < 10 ∧ s.linSt n = 2 ∧ s.linCommander n then s.setLinC n { s.linC n with sleepReq := true } else s)

/-- A wake-up signal of 1 ms from tick `t`; a commander restarts its table 100 ms after its end. -/
def State.linWakeSignal (s : State) (n t tries : Nat) : State :=
  let x := s.linC n
  (s.setLinC n { x with wakeEnd := some (t + 200000), wakeTries := tries, lastBus := t + 200000,
                        restartAt := if s.linCommander n then some (t + 200000 + 20000000) else none }).linSay (.linWake n)

/-- LIN_CTL_WAKE (R272). -/
def execLinCtlWake (n : Nat) (s : State) : Res :=
  .next (if n < 10 ∧ s.linSt n ≠ 0 ∧ !(s.linC n).ending then (s.linWakeSignal n s.now 1).linGo n 2 s.now else s)

/-- LIN_WAKE_RETRY (R272): without a header 150 ms after the signal it is repeated, up to twice; then the next attempt comes 1.5 s later. -/
def State.linWakeRetry (s : State) (n : Nat) : State :=
  let x := s.linC n
  match x.wakeEnd with
  | none => s
  | some e =>
    let due := if x.wakeTries < 3 then e + 30000000 else e + 30000000 + 300000000
    if n < 10 ∧ s.linSt n ≠ 0 ∧ due ≤ s.now then s.linWakeSignal n due (if x.wakeTries < 3 then x.wakeTries + 1 else 1) else s

def execLinWakeRetry (n : Nat) (s : State) : Res := .next (s.linWakeRetry n)

/-- LIN_REMOTE_WAKE (R272): a dominant pulse of 250 µs to 5 ms in SLEEP. -/
def State.linRemoteWake (s : State) (n ticks : Nat) : State :=
  if n < 10 ∧ s.linSt n = 1 ∧ 50000 ≤ ticks ∧ ticks ≤ 1000000 then
    (s.setLinC n { s.linC n with lastBus := s.now, restartAt := if s.linCommander n then some (s.now + 20000000) else none }).linGo n 2 s.now
  else s

def execLinRemoteWake (n ticks : Nat) (s : State) : Res := .next (s.linRemoteWake n ticks)

/-- LIN_SCHEDULE_RESTART (R272): slot 0 of the current table starts 100 ms after the end of the wake-up signal. -/
def State.linScheduleRestart (s : State) (n : Nat) : State :=
  match (s.linC n).restartAt with
  | none => s
  | some t =>
    if n < 10 ∧ t ≤ s.now then s.setLinC n { s.linC n with restartAt := none, anew := true, slotEnd := t, hdr := none, publishing := false } else s

def execLinScheduleRestart (n : Nat) (s : State) : Res := .next (s.linScheduleRestart n)

/-- LIN_BUS_IDLE_TIMEOUT (R272): a responder without bus activity for 4 s. -/
def State.linBusIdleTimeout (s : State) (n : Nat) : State :=
  if n < 10 ∧ s.linSt n = 2 ∧ !s.linCommander n ∧ (s.linC n).lastBus + 800000000 ≤ s.now then s.linGo n 1 s.now else s

def execLinBusIdleTimeout (n : Nat) (s : State) : Res := .next (s.linBusIdleTimeout n)

/-- The stop of the host interface (R307): waiting requests end and report nothing. -/
def State.linHostStop (s : State) (n : Nat) : State :=
  let x := s.linC n
  s.setLinC n { x with diag := [], diagOut := none, req := x.req.map (fun r => (r.1, none)), resetTag := x.resetTag.map (fun _ => noTag) }

end Sys2Proof.Machine
end

