-- ==== Sys2Proof/Machine/Eth.lean ====
section
/-! DEFINITION. The Ethernet switch (R276 to R283, R285): forwarding, the device's own end station, encoded frames, links, and ETH_TX. -/

namespace Sys2Proof.Machine

/-! ### Ports -/

def EthPort.blank : Nat → EthPort := fun _ => {}
def State.ethP (s : State) (p : Nat) : EthPort := SMap.get EthPort.blank s.eth.ports p
def State.setEthP (s : State) (p : Nat) (x : EthPort) : State :=
  { s with eth := { s.eth with ports := SMap.set EthPort.blank s.eth.ports p x } }

/-- A port in use; the external ports need their link. -/
def State.ethUp (s : State) (p : Nat) : Bool :=
  decide (p < 5) && s.flag (Reg.ETH_PCFG.ENABLE p) && (decide (p = 4) || s.flag (Reg.ETH_PSTAT.LINK p))

/-- The device's MAC address as a number, its first byte the most significant (R285). -/
def State.ethMac (s : State) : Nat := s.rd Reg.ETH_MACH.MAC * 2 ^ 32 + s.rd Reg.ETH_MACL.MAC
def State.ethIp (s : State) : Nat := s.rd Reg.ETH_IPV4.ADDR

/-- The entry of a port (R283). -/
def State.ethReport (s : State) (p : Nat) : State :=
  s.unitL (0x02400 + 16 * p) (s.rd (Reg.ETH_PSTAT.LINK p) + 2 * s.rd (Reg.ETH_PSTAT.SPEED p) + 8 * s.rd (Reg.ETH_PSTAT.PLCA p) : Nat) s.now (ethSrc p)

/-- The frames of a port that stops are gone; what its PHY reported stays. -/
def EthPort.emptied (x : EthPort) : EthPort := { phy := x.phy, phySpeed := x.phySpeed, phyPlca := x.phyPlca }

/-! ### Frames: addresses, tags and checksums -/

/-- A big-endian field of a frame (R4). -/
def beField (f : List Byte) (off len : Nat) : Nat := beNat ((f.drop off).take len)

/-- A frame without its tag: destination, source and everything from the type on; with priority and VLAN identifier of its tag, if it has one. -/
structure EthRx where
  dst : Nat
  src : Nat
  tag : Option (Nat × Nat)
  rest : List Byte
  deriving DecidableEq, Repr

def parseEth (f : List Byte) : EthRx :=
  if beField f 12 2 = 0x8100 then
    { dst := beField f 0 6, src := beField f 6 6, tag := some (beField f 14 2 / 8192, beField f 14 2 % 4096), rest := f.drop 16 }
  else { dst := beField f 0 6, src := beField f 6 6, tag := none, rest := f.drop 12 }

/-- The bytes of a frame with its tag or without. -/
def wireHead (e : EthRx) (tagged : Bool) (pcp vid : Nat) : List Byte :=
  beBytes 6 e.dst ++ beBytes 6 e.src ++ (if tagged then beBytes 2 0x8100 ++ beBytes 2 (pcp * 8192 + vid) else []) ++ e.rest

/-- The frame as a port sends it: with its tag, or without and then filled up to 64 bytes with its FCS (R276, R278). -/
def wireFrame (e : EthRx) (tagged : Bool) (pcp vid : Nat) : List Byte :=
  let f := wireHead e tagged pcp vid
  f ++ List.replicate (60 - f.length) Config.ethPad

/-- The ones' complement sum of 16-bit words, folded. -/
def inetSum : Nat → List Byte → Nat
  | acc, [] => acc
  | acc, [a] => (acc + a.toNat * 256) % 65536 + (acc + a.toNat * 256) / 65536
  | acc, a :: b :: r => inetSum ((acc + a.toNat * 256 + b.toNat) % 65536 + (acc + a.toNat * 256 + b.toNat) / 65536) r

def inetChecksum (bs : List Byte) : Nat := 65535 - inetSum 0 bs

/-- The pseudo-header of UDP over IPv4: addresses, protocol and length. -/
def udpPseudo (addrs : List Byte) (len : Nat) : List Byte := addrs ++ [0#8, 17#8] ++ beBytes 2 len

/-! ### The VLAN table and the forwarding database (R278) -/

/-- The row of a VLAN. -/
def State.vlan (s : State) (vid : Nat) : Option VlanRec := s.img.vlan.find? (fun r => decide (r.vid = vid))

def State.vlanMember (s : State) (vid p : Nat) : Bool :=
  match s.vlan vid with
  | some r => bitOf r.members p
  | none => false

/-- A port sends a VLAN's frames with their tag. -/
def State.vlanTagged (s : State) (vid p : Nat) : Bool :=
  match s.vlan vid with
  | some r => !bitOf r.untagged p
  | none => true

/-- A source address is learned, or its row renewed; a full database learns nothing new. -/
def State.ethLearn (s : State) (mac vid p : Nat) : State :=
  let rest := s.eth.fdb.filter (fun r => !(decide (r.mac = mac) && decide (r.vid = vid)))
  if bitOf (mac / 2 ^ 40) 0 ∨ 2048 ≤ rest.length then s
  else { s with eth := { s.eth with fdb := rest ++ [{ mac := mac, vid := vid, port := p, tick := s.now }] } }

/-- FORWARDING_DATABASE_AGEING (R278). -/
def State.ethAgeing (s : State) (mac vid : Nat) : State :=
  let old := fun (r : FdbRow) => decide (r.mac = mac) && decide (r.vid = vid) && decide (r.tick + s.rd Reg.ETH_AGE.SEC * 200000000 ≤ s.now)
  { s with eth := { s.eth with fdb := s.eth.fdb.filter (fun r => !old r) } }

def execForwardingDatabaseAgeing (mac vid : Nat) (s : State) : Res := .next (s.ethAgeing mac vid)

/-! ### Egress (R278, R280) -/

/-- Bytes the shared buffer holds. -/
def EthPort.bytes (x : EthPort) : Nat :=
  ((x.queue ++ x.sending.toList).map (fun t => t.bytes.length + t.pdu.bytes.length)).foldl (fun a b => a + b) 0
def State.ethBuffered (s : State) : Nat := ((List.range 5).map (fun p => (s.ethP p).bytes)).foldl (fun a b => a + b) 0

/-- A frame enters the egress queue of an external port, or is dropped at its tail; true when it was dropped. -/
def State.ethQueue (s : State) (p : Nat) (t : EthTx) : State × Bool :=
  if !s.ethUp p ∨ 524288 < s.ethBuffered + t.bytes.length + t.pdu.bytes.length then (s.count (Reg.ETH_PCNT2.TXDROP p) 1, true)
  else (s.setEthP p { s.ethP p with queue := (s.ethP p).queue ++ [t] }, false)

/-- A frame for firmware takes a posted buffer of the internal port (R303). -/
def State.ethToHost (s : State) (bytes : List Byte) : State :=
  s.fillPost 2 4 bytes (leBytes 2 bytes.length) s.now (s.count (Reg.ETH_PCNT2.RXDROP 4) 1)

/-- A frame leaves by a port; the internal port is firmware.  One that its tag makes longer than 1,522 bytes with FCS is discarded (R276). -/
def State.ethSend (s : State) (p : Nat) (e : EthRx) (pcp vid : Nat) : State × Bool :=
  let b := wireFrame e (s.vlanTagged vid p) pcp vid
  if !s.flag (Reg.ETH_PCFG.ENABLE p) then (s, false)
  else if 1518 < b.length then (s.count (Reg.ETH_PCNT2.TXDROP p) 1, true)
  else if p = 4 then (s.ethToHost b, false)
  else s.ethQueue p { bytes := b, cls := pcp }

/-- A frame leaves by several ports; true when one of them dropped it. -/
def State.ethSendAll (s : State) (ps : List Nat) (e : EthRx) (pcp vid : Nat) : State × Bool :=
  ps.foldl (fun r p => let x := r.1.ethSend p e pcp vid; (x.1, r.2 || x.2)) (s, false)

/-! ### The end station (R279) -/

/-- A port of the device's UDP endpoint: one that a decode record names, or the lanterns' (R409). -/
def State.udpPort (s : State) (port : Nat) : Bool :=
  s.img.dec.any (fun r => decide (r.bus = 2) && decide (r.port = port))
    || (s.flag Reg.CFG_VERYA.VEN && s.flag Reg.CFG_VERYA.ETHEN && decide (s.img.lanternEth[2]? = some port))

/-- The PDUs of a container (R279); `n` bounds their number. -/
def State.container (s : State) (p vid port : Nat) : Nat → List Byte → State
  | 0, _ => s
  | n + 1, c =>
    if c = [] then s
    else if c.length < 8 ∨ c.length < 8 + beField c 4 4 then s.decodeErr
    else (s.receivePdu 2 p (beField c 0 4) vid port ((c.drop 8).take (beField c 4 4)) s.now (ethSrc p)).container p vid port n (c.drop (8 + beField c 4 4))

/-- An ARP request for the device's address: the addresses of the one who asks. -/
def State.arpRequest (s : State) (e : EthRx) : Option (Nat × Nat) :=
  let r := e.rest
  if beField r 0 2 = 0x0806 ∧ beField r 2 2 = 1 ∧ beField r 4 2 = 0x0800 ∧ beField r 6 2 = 0x0604 ∧ beField r 8 2 = 1 ∧ 30 ≤ r.length ∧
      beField r 26 4 = s.ethIp ∧ s.ethIp ≠ 0 then some (beField r 10 6, beField r 16 4)
  else none

/-- The answer to an ARP request. -/
def State.arpReply (s : State) (mac ip : Nat) : EthRx :=
  { dst := mac, src := s.ethMac, tag := none,
    rest := beBytes 2 0x0806 ++ beBytes 2 1 ++ beBytes 2 0x0800 ++ beBytes 2 0x0604 ++ beBytes 2 2 ++ beBytes 6 s.ethMac ++ beBytes 4 s.ethIp
      ++ beBytes 6 mac ++ beBytes 4 ip ++ List.replicate 18 0#8 }

/-- Unfragmented IPv4 without options that carries UDP for the device. -/
def State.udpFor (s : State) (e : EthRx) : Option (Nat × Nat × List Byte × List Byte) :=
  let ip := e.rest.drop 2
  let udp := ip.drop 20
  if beField e.rest 0 2 = 0x0800 ∧ beField ip 0 1 = 0x45 ∧ beField ip 6 2 % 0x4000 = 0 ∧ beField ip 9 1 = 17 ∧ beField ip 16 4 = s.ethIp ∧
      s.ethIp ≠ 0 ∧ beField ip 2 2 ≤ ip.length ∧ 28 ≤ beField ip 2 2 ∧ 8 ≤ beField udp 4 2 ∧ beField udp 4 2 + 20 ≤ beField ip 2 2 then
    some (beField udp 2 2, beField udp 6 2, (ip.drop 12).take 8, udp.take (beField udp 4 2))
  else none

/-- A frame addressed to the device from port `p` (R279): ARP answered, PDUs decoded, anything else for firmware. -/
def State.ethOwn (s : State) (p : Nat) (e : EthRx) (pcp vid : Nat) : State :=
  match s.arpRequest e with
  | some (mac, ip) => (s.ethSend p (s.arpReply mac ip) 0 vid).1
  | none =>
    match s.udpFor e with
    | some (port, ck, addrs, seg) =>
      if !s.udpPort port then (s.ethSend 4 e pcp vid).1
      else if ck ≠ 0 ∧ inetSum 0 (udpPseudo addrs seg.length ++ seg) ≠ 65535 then s.decodeErr
      else s.container p vid port seg.length (seg.drop 8)
    | none => (s.ethSend 4 e pcp vid).1

/-! ### Forwarding (R278) -/

/-- The ports a frame leaves by: the known port of its destination, else every member of its VLAN, never the port it came from. -/
def State.ethPorts (s : State) (p : Nat) (e : EthRx) (vid : Nat) : List Nat :=
  let members := (List.range 5).filter (fun q => s.vlanMember vid q && decide (q ≠ p) && s.ethUp q)
  if bitOf (e.dst / 2 ^ 40) 0 then members
  else
    match s.eth.fdb.find? (fun r => decide (r.mac = e.dst) && decide (r.vid = vid)) with
    | some r => if r.port = p ∨ !s.vlanMember vid r.port then [] else [r.port]
    | none => members

/-- A frame is discarded at ingress. -/
def State.ethRxDrop (s : State) (p : Nat) : State := s.count (Reg.ETH_PCNT2.RXDROP p) 1

/-- A frame that came in by port `p` is switched (R276, R278, R279, R281); true when an egress port dropped it. -/
def State.ethForward (s : State) (p : Nat) (f : List Byte) : State × Bool :=
  let e := parseEth f
  let vid := match e.tag with
    | some (_, v) => if v = 0 then s.rd (Reg.ETH_PCFG.PVID p) else v
    | none => s.rd (Reg.ETH_PCFG.PVID p)
  let pcp := match e.tag with
    | some (q, _) => q
    | none => 0
  let typ := beField e.rest 0 2
  if f.length < 60 ∨ 1518 < f.length ∨ typ = 0x8808 then (s.ethRxDrop p, false)
  else
    let s1 := s.count (Reg.ETH_PCNT.RXOK p) 1
    if typ = 0x88F7 ∨ (0x0180C2000000 ≤ e.dst ∧ e.dst ≤ 0x0180C200000F) then (s1, false)
    else if !s.vlanMember vid p then (s1.ethRxDrop p, false)
    else
      let s2 := s1.ethLearn e.src vid p
      if e.dst = s.ethMac ∧ p ≠ 4 then (s2.ethOwn p e pcp vid, false)
      else
        let s3 := if p ≠ 4 ∧ e.dst = 0xFFFFFFFFFFFF ∧ (s.arpRequest e).isSome then s2.ethOwn p e pcp vid else s2
        s3.ethSendAll (s.ethPorts p e vid) e pcp vid

/-- ETH_FRAME_RECEIVED (R276, R279): a frame, without its FCS, is complete at a port. -/
def State.ethFrameReceived (s : State) (p : Nat) (f : List Byte) : State :=
  if p < 4 ∧ s.ethUp p then (s.ethForward p f).1 else s

def execEthFrameReceived (p : Nat) (f : List Byte) (s : State) : Res := .next (s.ethFrameReceived p f)

/-- ETH_TX (R300): a frame of firmware is forwarded from the internal port. -/
def State.ethTx (s : State) (t : Nat) (x : ReadResult) : State :=
  match s.opReady t 0x2C with
  | none => s
  | some o =>
    let n := o.fld 32 2
    if n < 60 ∨ 1518 < n then s.complete t St.invalid
    else
      match readBytes x n with
      | none => s.dmaError t x
      | some f =>
        if !s.flag (Reg.ETH_PCFG.ENABLE 4) then s.complete t St.configMismatch
        else
          let r := s.ethForward 4 f
          r.1.complete t (if r.2 then St.retryLater else St.ok) 0 (if r.2 then 0 else s.now)

def execEthTx (t : Nat) (x : ReadResult) (s : State) : Res := .next (s.ethTx t x)

/-! ### Encoded frames (R64, R280) -/

/-- The headers of an encoded frame up to its payload, checksum of UDP still 0; `id` is the identification and type of service, which the spec leaves open. -/
def State.encHeaders (s : State) (r : EncRec) (len id : Nat) : List Byte :=
  let ip0 := [0x45#8, BitVec.ofNat 8 (id / 65536)] ++ beBytes 2 (36 + len) ++ beBytes 2 id ++ beBytes 2 0x4000 ++ [64#8, 17#8]
  let addrs := beBytes 4 s.ethIp ++ beBytes 4 r.dip
  beBytes 2 0x0800 ++ ip0 ++ beBytes 2 (inetChecksum (ip0 ++ [0#8, 0#8] ++ addrs)) ++ addrs
    ++ beBytes 2 r.sport ++ beBytes 2 r.dport ++ beBytes 2 (16 + len) ++ [0#8, 0#8] ++ beBytes 4 r.key ++ beBytes 4 len

/-- An encoded frame with its payload: the UDP checksum over its segment, and the fill to 60 bytes, which the spec leaves open. -/
def encFinish (pre payload : List Byte) (fill : W64) : List Byte :=
  let ip := pre.length - 36
  let seg := pre.drop (ip + 20) ++ payload
  let c := inetChecksum (udpPseudo ((pre.drop (ip + 12)).take 8) seg.length ++ seg)
  let ck := if c = 0 then 65535 else c
  let f := pre.take (ip + 26) ++ beBytes 2 ck ++ pre.drop (ip + 28) ++ payload
  f ++ ((leBytes 8 fill.toNat ++ leBytes 8 fill.toNat ++ leBytes 8 fill.toNat)).take (60 - f.length)

/-- The build of encode record `k` reaches the egress queue of its port: it replaces one that waits, and waits for one whose preamble has begun (R280). -/
def State.ethBuild (s : State) (k : Nat) (r : EncRec) (p : TxPdu) : State :=
  let d := s.takeFree
  let e : EthRx := { dst := r.dmac, src := s.ethMac, tag := none, rest := s.encHeaders r p.bytes.length (d.1.toNat % 2 ^ 24) }
  let t : EthTx := { bytes := wireHead e (s.vlanTagged r.vid r.channel) r.pcp r.vid, cls := r.pcp, enc := some k, pdu := p }
  let x := s.ethP r.channel
  let same := fun (u : EthTx) => decide (u.enc = some k)
  if !s.flag (Reg.ETH_PCFG.ENABLE r.channel) then s
  else if r.channel = 4 then d.2.ethToHost (encFinish t.bytes (p.at s.now) d.1)
  else if x.queue.any same then d.2.setEthP r.channel { x with queue := x.queue.map (fun u => if same u then t else u) }
  else if x.sending.any same then d.2.setEthP r.channel { x with waiting := x.waiting.filter (fun u => !same u) ++ [t] }
  else (d.2.ethQueue r.channel t).1

/-- The frame that a port sends next: the oldest of the highest class (R278). -/
def ethPick (q : List EthTx) : Option EthTx :=
  let top := (q.map (fun t => t.cls)).foldl max 0
  q.find? (fun t => decide (t.cls = top))

/-- PLCA runs on port p (R277). -/
def State.plcaOn (s : State) (p : Nat) : Bool := decide (2 ≤ p) && s.flag (Reg.ETH_PLCA.EN p) && s.flag (Reg.ETH_PSTAT.PLCA p)

/-- Port p is within a burst: its last frame ended no more than BURSTTMR bit times ago (R277). -/
def State.inBurst (s : State) (p : Nat) : Bool :=
  (s.ethP p).lastEnd.any (fun e => decide (s.now ≤ e + 20 * s.rd (Reg.ETH_PLCA2.BURSTTMR p)))

/-- A port that runs PLCA may start a frame (R277): within a burst up to BURSTCNT more frames; else not before the opportunities of the nodes that come before it in the cycle, TOTMR bit times each, and the beacon of 20 have passed (PRESUMED, log entry 43).  Any other port may start at any time. -/
def State.plcaMay (s : State) (p : Nat) : Bool :=
  let others := if s.rd (Reg.ETH_PLCA.NODEID p) = 0 then s.rd (Reg.ETH_PLCA.NCNT p) - 1 else s.rd (Reg.ETH_PLCA.NODEID p)
  !s.plcaOn p || (s.inBurst p && decide ((s.ethP p).burst < s.rd (Reg.ETH_PLCA2.BURSTCNT p)))
    || (s.ethP p).lastEnd.all (fun e => decide (e + 20 * (20 + others * s.rd (Reg.ETH_PLCA.TOTMR p)) ≤ s.now))

/-- ETH_FRAME_TX_START (R277, R280): the first preamble bit, at which age words are written. -/
def State.ethTxStart (s : State) (p : Nat) : State :=
  let x := s.ethP p
  if p < 4 ∧ s.ethUp p ∧ x.sending = none ∧ s.plcaMay p then
    match ethPick x.queue with
    | none => s
    | some t =>
      let s1 := s.setEthP p { x with queue := x.queue.erase t, sending := some t, burst := if s.inBurst p then x.burst + 1 else 0 }
      match t.enc with
      | none => s1.emit (.ethFrame p t.bytes)
      | some _ =>
        let d := s1.takeFree
        d.2.emit (.ethFrame p (encFinish t.bytes (t.pdu.at s.now) d.1))
  else s

def execEthFrameTxStart (p : Nat) (s : State) : Res := .next (s.ethTxStart p)

/-- ETH_FRAME_TX_END (R280): the frame is sent, and the builds that waited for it enter the queue. -/
def State.ethTxEnd (s : State) (p : Nat) : State :=
  let x := s.ethP p
  match x.sending with
  | none => s
  | some _ => x.waiting.foldl (fun s t => (s.ethQueue p t).1) ((s.count (Reg.ETH_PCNT1.TXOK p) 1).setEthP p { x with sending := none, waiting := [], lastEnd := some s.now })

def execEthFrameTxEnd (p : Nat) (s : State) : Res := .next (s.ethTxEnd p)

/-! ### Links (R281 to R283) -/

/-- A port stops: the frame in transmission is truncated, queued frames are discarded and counted (R282). -/
def State.ethStop (s : State) (p : Nat) : State :=
  let x := s.ethP p
  (s.count (Reg.ETH_PCNT2.TXDROP p) (x.queue.length + x.waiting.length)).setEthP p x.emptied

/-- The link of a port; a change updates its entry, a loss raises (R283). -/
def State.ethLink (s : State) (p : Nat) (link : Bool) (speed : Nat) (plca : Bool) : State :=
  let was := s.flag (Reg.ETH_PSTAT.LINK p)
  let s1 := ((s.wr (Reg.ETH_PSTAT.LINK p) (b2n link)).wr (Reg.ETH_PSTAT.SPEED p) speed).wr (Reg.ETH_PSTAT.PLCA p) (b2n plca)
  let s2 := if s1.word (Reg.ETH_PSTAT.LINK p).off = s.word (Reg.ETH_PSTAT.LINK p).off then s1 else s1.ethReport p
  if was && !link then (s2.ethStop p).raiseL (ethSrc p) 0x17 s.now else s2

/-- The speed that an external port can have: that of its interface on an EP port, none where its PHY names one that SGMII does not have, 10 Mbit/s on an ET port (R276). -/
def State.ethSpeed (s : State) (p speed : Nat) : Option Nat :=
  if 2 ≤ p then some 0
  else match s.rd (Reg.ETH_PCFG.MODE p) with
    | 0 => if speed ≤ 2 then some speed else none
    | 1 => some 2
    | _ => some 3

/-- Port p shows its state (R277, R282, R283): an external one what its PHY reported, an ET port no link while the time base is DEGRADED; the internal one is linked while it is enabled (DESIGN CHOICE, log entry 44). -/
def State.ethShow (s : State) (p : Nat) : State :=
  let x := s.ethP p
  if p = 4 then s.ethLink 4 (s.flag (Reg.ETH_PCFG.ENABLE 4)) Config.ethHostSpeed.toNat false
  else
    let link := x.phy && s.flag (Reg.ETH_PCFG.ENABLE p) && !(decide (2 ≤ p) && decide (s.tbSt = .degraded))
    s.ethLink p link (if link then x.phySpeed else 0) (x.phyPlca && link && decide (2 ≤ p) && s.flag (Reg.ETH_PLCA.EN p))

/-- ETH_LINK_CHANGE (R283): the PHY of an enabled port reports its link. -/
def State.ethLinkChange (s : State) (p : Nat) (link : Bool) (speed : Nat) (plca : Bool) : State :=
  if p < 4 ∧ s.flag (Reg.ETH_PCFG.ENABLE p) then
    match s.ethSpeed p speed with
    | none => s
    | some v => (s.setEthP p { s.ethP p with phy := link, phySpeed := v, phyPlca := plca }).ethShow p
  else s

def execEthLinkChange (p : Nat) (link : Bool) (speed : Nat) (plca : Bool) (s : State) : Res := .next (s.ethLinkChange p link speed plca)

/-- The ET ports follow the time base into DEGRADED or out of it, with the link they had (R282). -/
def State.ethFollow (s : State) : State := [2, 3].foldl (fun s p => if s.flag (Reg.ETH_PCFG.ENABLE p) then s.ethShow p else s) s

/-- PDELAY_REQ_RECEIVED (R281): answered on every enabled port with the receive and transmit stamps; when the answer leaves is not given. -/
def State.pdelayReq (s : State) (p seq : Nat) : State :=
  if p < 4 ∧ s.ethUp p then
    let d := s.takeFree
    d.2.emit (.pdelayResp p seq s.now (s.now + d.1.toNat))
  else s

def execPdelayReqReceived (p seq : Nat) (s : State) : Res := .next (s.pdelayReq p seq)

/-- A port is put out of use or in use again (R308): queue discarded, link down, learned rows of the port forgotten. -/
def State.ethPortReset (s : State) (p : Nat) : State :=
  let s1 := s.ethStop p
  let s2 := (s1.setEthP p {}).ethShow p
  { s2 with eth := { s2.eth with fdb := s2.eth.fdb.filter (fun r => decide (r.port ≠ p)) } }

/-- A port that comes into use reports its state (R283). -/
def State.ethOpen (s : State) (p : Nat) : State := (s.ethShow p).ethReport p

/-- A start of die L: queues and database are empty, every link is down, and the ports in use report it. -/
def State.ethReset (s : State) : State :=
  let s1 := (List.range 5).foldl (fun s p => ((s.wr (Reg.ETH_PSTAT.LINK p) 0).wr (Reg.ETH_PSTAT.SPEED p) 0).wr (Reg.ETH_PSTAT.PLCA p) 0) { s with eth := {} }
  ((List.range 5).filter (fun p => s1.flag (Reg.ETH_PCFG.ENABLE p))).foldl State.ethOpen s1

/-- The three buses follow the time base into DEGRADED and out of it (R258, R259, R274, R282). -/
def State.busesFollow (s : State) (was : TbSt) : State :=
  if was ≠ .degraded ∧ s.tbSt = .degraded then ((s.canFollow true).linFollow).ethFollow
  else if was = .degraded ∧ s.tbSt ≠ .degraded then ((s.canFollow false).linFollow).ethFollow
  else s

end Sys2Proof.Machine
end

