-- ==== Sys2Proof/Machine/Cipher.lean ====
section
/-! DEFINITION. The cipher engine and the kennel (R313 to R334): its queue and cores, cipher requests, key derivation, nonce counters, hashes, and the erase. -/

namespace Sys2Proof.Machine

/-! ### Slots, roots and the queue -/

def State.setKennel (s : State) (i : Nat) (k : Kennel) : State := { s with cry := { s.cry with slots := SMap.set Kennel.blank s.cry.slots i k } }
def State.rootKey (s : State) (r : Nat) : List Byte := SMap.get (fun _ => []) s.cry.roots r

def CryUnit.blank : Nat → CryUnit := fun _ => {}
def State.cryU (s : State) (i : Nat) : CryUnit := SMap.get CryUnit.blank s.cry.units i
def State.setCryU (s : State) (i : Nat) (u : CryUnit) : State := { s with cry := { s.cry with units := SMap.set CryUnit.blank s.cry.units i u } }

/-- `CRY_STAT.STATE` (R327): 0 OFF, 1 STARTING, 2 READY, 3 ERASING. -/
def State.crySt (s : State) : Nat := s.rd Reg.CRY_STAT.STATE

/-- Every request that runs or is suspended. -/
def State.cryRunning (s : State) : List CryReq :=
  [0, 1, 2].flatMap (fun i => (s.cryU i).cur.toList ++ (s.cryU i).susp.toList)

/-- Requests of the host that wait or run (R314). -/
def State.cryHost (s : State) : Nat := ((s.cry.queue ++ s.cryRunning).filter (fun r => !r.internal)).length
/-- Requests of internal producers in the queue's places; a producer beyond them holds its own (R314). -/
def State.cryInternal (s : State) : Nat := ((s.cry.queue ++ s.cryRunning).filter (fun r => r.internal)).length

/-- A field of a request's descriptor. -/
def CryReq.fld (r : CryReq) (off len : Nat) : Nat := byteField r.desc off len

/-- The slot a request names: none for a hash. -/
def State.crySlotOf (s : State) (r : CryReq) : Option Nat :=
  match r.pdu with
  | some (k, _) => (s.img.dec[k]?).bind (fun d => d.secured.map (fun x => x.1))
  | none => if r.opcode = 0x31 then none else some (r.fld 16 1)

/-- IVFIX of a slot (R321). -/
def State.ivfix (s : State) (i : Nat) : List Byte := beBytes 4 (s.rd Reg.CRY_SENDER.ID) ++ (s.kennel i).kdfiv

/-! ### Acceptance (R314, R315, R318) -/

/-- The tag lengths a mode allows (R316). -/
def tagLens (mode : Nat) : List Nat :=
  match mode with
  | 0 => [0]
  | 1 => [0]
  | 2 => [4, 5, 6, 7, 8, 9, 10, 11, 12, 13, 14, 15, 16]
  | 3 => [4, 6, 8, 10, 12, 14, 16]
  | _ => [8, 12, 13, 14, 15, 16]

/-- A CIPHER body within R315 and R316. -/
def cipherOk (o : HostOp) : Bool :=
  let mode := o.fld 17 1
  let len := o.fld 20 4
  decide (o.fld 16 1 < 64) && decide (mode ≤ 4) && decide (o.fld 18 1 ≤ 1) && (tagLens mode).contains (o.fld 19 1) && decide (len ≤ 16777215)
    && (decide (o.fld 48 2 = 0) || decide (3 ≤ mode)) && !(decide (mode = 1) && decide (o.fld 18 1 = 1) && (decide (len = 0) || decide (len % 16 ≠ 0)))

/-- Bytes of the auxiliary area that a request reads (R315). -/
def auxLen (o : HostOp) : Nat :=
  if o.fld 18 1 = 0 then (if o.fld 48 2 = 0 then 0 else 32 + o.fld 48 2) else 32 + o.fld 48 2

/-- A host request completes without having been served (R318); an ABORTED_DISABLED completion is counted. -/
def State.cryRefuse (s : State) (t : Option Nat) (status reason : Nat) (writes : List (Nat × List Byte)) : State :=
  let s1 := if status = St.aborted then s.count Reg.CRY_CNT1.ABORT 1 else s
  match t with
  | none => s1
  | some t => s1.complete t status reason 0 [] writes

/-- A request enters the queue, or is refused by the state of the engine (R318): OFF, then a malformed request, then STARTING or ERASING, then a full queue. -/
def State.cryAccept (s : State) (t : Nat) (o : HostOp) (good : Bool) (input aux : List Byte) : State :=
  if s.crySt = 0 then s.cryRefuse (some t) St.aborted 9 []
  else if !good then s.cryRefuse (some t) St.invalid 11 []
  else if s.crySt ≠ 2 then s.cryRefuse (some t) St.retryLater 7 []
  else if 48 ≤ s.cryHost then s.cryRefuse (some t) St.retryLater 6 []
  else
    let s1 := s.begin t
    { s1 with cry := { s1.cry with
        queue := s1.cry.queue ++ [{ id := s1.cry.nextId, tag := some t, opcode := o.opcode, desc := o.desc, input := input, aux := aux }],
        nextId := s1.cry.nextId + 1 } }

/-- A read of host memory that a request needs and that failed (R302). -/
def State.cryReadFault (s : State) (n : Nat) (x : ReadResult) : Bool × State :=
  if n ≠ 0 ∧ readBytes x n = none then (true, (s.readFailed x).hostErr Reg.HOST_ERR.DMAERR) else (false, s)

/-- CIPHER (R315). -/
def State.cipherOp (s : State) (t : Nat) (x aux : ReadResult) : State :=
  match s.opReady t 0x30 with
  | none => s
  | some o =>
    if s.crySt ≠ 0 ∧ cipherOk o then
      let a := s.cryReadFault (o.fld 20 4) x
      let b := a.2.cryReadFault (auxLen o) aux
      b.2.cryAccept t o (!a.1 && !b.1) ((readBytes x (o.fld 20 4)).getD []) ((readBytes aux (auxLen o)).getD [])
    else s.cryAccept t o (cipherOk o) [] []

def execCipher (t : Nat) (x aux : ReadResult) (s : State) : Res := .next (s.cipherOp t x aux)

/-- HASH (R331). -/
def State.hashOp (s : State) (t : Nat) (x : ReadResult) : State :=
  match s.opReady t 0x31 with
  | none => s
  | some o =>
    let len := o.fld 20 4
    if s.crySt ≠ 0 ∧ len ≤ 16777215 then
      let a := s.cryReadFault len x
      a.2.cryAccept t o (!a.1) ((readBytes x len).getD []) []
    else s.cryAccept t o (decide (len ≤ 16777215)) [] []

def execHash (t : Nat) (x : ReadResult) (s : State) : Res := .next (s.hashOp t x)

/-- DERIVE (R321): a field out of range is refused at once; the rest is checked when its turn comes. -/
def State.deriveOp (s : State) (t : Nat) : State :=
  match s.opReady t 0x32 with
  | none => s
  | some o =>
    let good := decide (o.fld 16 1 < 64) && decide (o.fld 17 1 < 4) && decide (o.fld 18 1 < 2) && decide (o.fld 19 1 ≠ 0) && decide (o.fld 19 1 < 32)
      && decide (o.fld 20 2 ≠ 0) && decide (o.fld 22 1 ≠ 0) && decide (o.fld 22 1 ≤ 32)
    s.cryAccept t o good [] []

def execDerive (t : Nat) (s : State) : Res := .next (s.deriveOp t)

/-- SLOT_RETIRE (R322). -/
def State.slotRetireOp (s : State) (t : Nat) : State :=
  match s.opReady t 0x33 with
  | none => s
  | some o => s.cryAccept t o (decide (o.fld 16 1 < 64)) [] []

def execSlotRetire (t : Nat) (s : State) : Res := .next (s.slotRetireOp t)

/-- SLOT_CLEAR (R322). -/
def State.slotClearOp (s : State) (t : Nat) : State :=
  match s.opReady t 0x34 with
  | none => s
  | some o => s.cryAccept t o (decide (o.fld 16 1 < 64)) [] []

def execSlotClear (t : Nat) (s : State) : Res := .next (s.slotClearOp t)

/-! ### Starting requests (R314, R321 to R324) -/

/-- A request of the host ends; ones that ran are counted. -/
def State.cryDone (s : State) (r : CryReq) (status reason : Nat) (result : List Byte) (writes : List (Nat × List Byte)) : State :=
  let s1 := s.count Reg.CRY_CNT.N 1
  let s2 := if status = St.authFail then s1.count Reg.CRY_CNT1.AUTHFAIL 1 else s1
  match r.tag with
  | none => s2
  | some t => s2.complete t status reason s.now result writes

/-- A slot's record is gone: EMPTY, its epoch kept (R320, R322). -/
def State.emptySlot (s : State) (i : Nat) : State :=
  (((((s.setKennel i {}).wr (Reg.CRY_SLOT.STATE i) 0).wr (Reg.CRY_SLOT.ROOT i) 0).wr (Reg.CRY_SLOT.KEYLEN i) 0).wr (Reg.CRY_SLOT.MODES i) 0).wr (Reg.CRY_NONCE.N i) 0

/-- The event of an operation on a slot (R380). -/
def State.slotEvent (s : State) (i opcode : Nat) : State := s.event 0x0B80 s.now i opcode (s.rd (Reg.CRY_SLOT.EPOCH i))

/-- Another slot holds the same root, label, epoch and key length (R321). -/
def State.slotTwin (s : State) (r : CryReq) : Bool :=
  (List.range 64).any (fun j => decide (j ≠ r.fld 16 1) && decide (s.rd (Reg.CRY_SLOT.STATE j) ≠ 0) && decide (s.rd (Reg.CRY_SLOT.ROOT j) = r.fld 17 1)
    && decide (s.rd (Reg.CRY_SLOT.KEYLEN j) = r.fld 18 1) && decide (s.rd (Reg.CRY_SLOT.EPOCH j) = r.fld 20 2)
    && decide ((s.kennel j).label = (r.desc.drop 24).take (r.fld 22 1)))

/-- DERIVE begins (R321): its checks, then the new last epoch; the slot has no record until the derivation is complete. -/
def State.deriveStart (s : State) (u : Nat) (r : CryReq) : State :=
  let i := r.fld 16 1
  let last := s.rd (Reg.CRY_SLOT.EPOCH i)
  if !s.flag (Reg.CRY_ROOT.VALID (r.fld 17 1)) ∨ (last ≠ 65535 ∧ r.fld 20 2 ≤ last) then s.cryDone r St.invalid 11 [] []
  else if last = 65535 then s.cryDone r St.limitReached 0 [] []
  else if s.slotTwin r then s.cryDone r St.invalid 8 [] []
  else ((s.emptySlot i).wr (Reg.CRY_SLOT.EPOCH i) (r.fld 20 2)).setCryU u { s.cryU u with cur := some r }

/-- SLOT_RETIRE and SLOT_CLEAR take effect (R322). -/
def State.slotOp (s : State) (r : CryReq) : State :=
  let i := r.fld 16 1
  if r.opcode = 0x34 then ((s.emptySlot i).slotEvent i 0x34).cryDone r St.ok 0 [] []
  else if s.rd (Reg.CRY_SLOT.STATE i) = 0 then s.cryDone r St.invalid 3 [] []
  else ((s.wr (Reg.CRY_SLOT.STATE i) 2).slotEvent i 0x33).cryDone r St.ok 0 [] []

/-- A request draws a nonce: encryption in every mode but CMAC (R316). -/
def CryReq.draws (r : CryReq) : Bool := decide (r.opcode = 0x30) && decide (r.fld 18 1 = 0) && decide (r.fld 17 1 ≠ 2)

/-- A cipher request begins (R318, R323, R324): checks of its slot, then its nonce, or the wait for a new ceiling. -/
def State.cipherBegin (s : State) (u : Nat) (r : CryReq) : State :=
  let i := r.fld 16 1
  let n := s.rd (Reg.CRY_NONCE.N i)
  let run := fun (s : State) (r : CryReq) => s.setCryU u { s.cryU u with cur := some r }
  if s.rd (Reg.CRY_SLOT.STATE i) = 0 then s.cryDone r St.invalid 3 [] []
  else if !bitOf (s.rd (Reg.CRY_SLOT.MODES i)) (r.fld 17 1) then s.cryDone r St.invalid 4 [] []
  else if !r.draws then run s r
  else if s.rd (Reg.CRY_SLOT.STATE i) = 2 then s.cryDone r St.nonceExhausted 5 [] []
  else if n = 0xFFFFFFFF then ((s.wr (Reg.CRY_SLOT.STATE i) 2).faultL (0x0B40 + i) 0x1D s.now).cryDone r St.nonceExhausted 5 [] []
  else if n = (s.kennel i).ceil then run s { r with waitCeil := true }
  else run (s.wr (Reg.CRY_NONCE.N i) (n + 1)) { r with nonce := some n }

/-- A slot that a running request names, DERIVE included (R321). -/
def State.slotBusy (s : State) (i : Nat) : Bool := s.cryRunning.any (fun r => decide (s.crySlotOf r = some i))

/-- A slot with a derivation in progress. -/
def State.slotDeriving (s : State) (i : Nat) : Bool := s.cryRunning.any (fun r => !r.internal && decide (r.opcode = 0x32) && decide (r.fld 16 1 = i))

/-- A request may begin: operations on a slot wait for every running request of it, others for a derivation. -/
def State.mayBegin (s : State) (r : CryReq) : Bool :=
  match s.crySlotOf r with
  | none => true
  | some i => if !r.internal && decide (0x32 ≤ r.opcode) then !s.slotBusy i else !s.slotDeriving i

/-- The request that unit `u` would take (R314): the oldest internal one, else the first of the host, on a core; the first hash on the SHA unit. -/
def State.cryNext (s : State) (u : Nat) : Option CryReq :=
  if u = 2 then s.cry.queue.find? (fun r => !r.internal && decide (r.opcode = 0x31))
  else
    match s.cry.queue.find? (fun r => r.internal) with
    | some r => if s.mayBegin r then some r else none
    | none =>
      match s.cry.queue.find? (fun r => !r.internal && decide (r.opcode ≠ 0x31)) with
      | some r => if s.mayBegin r then some r else none
      | none => none

/-- A core gives way to an internal request (R314): both cores hold host requests, and this one holds the younger. -/
def State.cryYields (s : State) (u : Nat) (r : CryReq) : Bool :=
  match (s.cryU u).cur, (s.cryU (1 - u)).cur with
  | some a, some b => r.internal && !a.internal && !b.internal && !a.waitCeil && (s.cryU u).susp.isNone && decide (b.id < a.id)
  | _, _ => false

/-- CIPHER_REQUEST_START (R314): a free unit takes its next request; a core may suspend a host request for an internal one. -/
def State.cryStart (s : State) (u : Nat) : State :=
  match s.cryNext u with
  | none => s
  | some r =>
    if u < 3 ∧ s.crySt = 2 ∧ ((s.cryU u).cur.isNone ∨ (u < 2 ∧ s.cryYields u r)) then
      let x := s.cryU u
      let s1 : State := { s with cry := { s.cry with queue := s.cry.queue.erase r } }
      let s2 := s1.setCryU u { x with cur := none, susp := if x.cur.isSome then x.cur else x.susp }
      if r.internal ∨ r.opcode = 0x31 then s2.setCryU u { s2.cryU u with cur := some r }
      else if r.opcode = 0x30 then s2.cipherBegin u r
      else if r.opcode = 0x32 then s2.deriveStart u r
      else s2.slotOp r
    else s

def execCipherRequestStart (i : Nat) (s : State) : Res := .next (s.cryStart i)

/-- NONCE_CEILING_WRITTEN (R323): the ceiling is in MRAM, and the draw goes on; draws of one slot go in start order. -/
def State.ceilWritten (s : State) (u : Nat) : State :=
  match (s.cryU u).cur with
  | none => s
  | some r =>
    let i := r.fld 16 1
    let n := s.rd (Reg.CRY_NONCE.N i)
    let k := s.kennel i
    let first := s.cryRunning.all (fun q => !(q.waitCeil && decide (q.fld 16 1 = i)) || decide (r.id ≤ q.id))
    if u < 2 ∧ r.waitCeil ∧ first then
      let s1 := if n = k.ceil then s.setKennel i { k with ceil := k.ceil + 4096 } else s
      (s1.wr (Reg.CRY_NONCE.N i) (n + 1)).setCryU u { s1.cryU u with cur := some { r with waitCeil := false, nonce := some n } }
    else s

def execNonceCeilingWritten (i : Nat) (s : State) : Res := .next (s.ceilWritten i)

/-! ### Ending requests (R315 to R318) -/

/-- What a request comes to: its status and reason, what it writes to OUTADDR, the IV or counter block and the tag it reports. -/
structure CryOut where
  status : Nat := 0
  reason : Nat := 0
  out : List Byte := []
  iv : List Byte := []
  tag : List Byte := []
  deriving DecidableEq, Repr

/-- A verification: its output if the tags match, else zeros and AUTH_FAIL (R317). -/
def cryVerify (good : Bool) (out : List Byte) (len reason : Nat) : CryOut :=
  if good then { out := out } else { status := St.authFail, reason := reason, out := List.replicate len 0#8 }

/-- The result of a cipher request under a key and IVFIX ‖ N (R316). -/
def cipherResult (r : CryReq) (key ivn : List Byte) : CryOut :=
  let tl := r.fld 19 1
  let len := r.fld 20 4
  let aad := (r.aux.drop 32).take (r.fld 48 2)
  let rxTag := (r.aux.drop 16).take tl
  let iv16 := r.aux.take 16
  let iv12 := r.aux.take 12
  let z4 := List.replicate 4 0#8
  match r.fld 17 1, r.fld 18 1 with
  | 0, 0 => { out := ctrCrypt key (ivn ++ z4) r.input, iv := ivn ++ z4 }
  | 0, _ => { out := ctrCrypt key iv16 r.input }
  | 1, 0 => let iv := aesEnc key (ivn ++ z4); { out := cbcEncrypt key iv r.input, iv := iv }
  | 1, _ =>
    match cbcDecrypt key iv16 r.input with
    | some p => { out := p }
    | none => cryVerify false [] len 1
  | 2, 0 => { tag := (cmac key r.input).take tl }
  | 2, _ => cryVerify (decide ((cmac key r.input).take tl = rxTag)) [] 0 2
  | 3, 0 => { out := ccmCrypt key ivn r.input, iv := ivn ++ z4, tag := ccmTag key ivn aad r.input tl }
  | 3, _ =>
    let p := ccmCrypt key iv12 r.input
    cryVerify (decide (ccmTag key iv12 aad p tl = rxTag)) p len 2
  | _, 0 => let c := gcmCrypt key ivn r.input; { out := c, iv := ivn ++ z4, tag := gcmTag key ivn aad c tl }
  | _, _ => cryVerify (decide (gcmTag key iv12 aad r.input tl = rxTag)) (gcmCrypt key iv12 r.input) len 2

/-- The result field of a cipher completion (R315). -/
def CryOut.result (c : CryOut) (nonce : Option Nat) : List Byte :=
  (c.iv ++ List.replicate 16 0#8).take 16 ++ (c.tag ++ List.replicate 16 0#8).take 16 ++ leBytes 4 c.out.length ++ leBytes 4 (nonce.getD 0xFFFFFFFF)

/-- A write to the output area, if there is anything to write. -/
def outWrite (addr : Nat) (bytes : List Byte) : List (Nat × List Byte) := if bytes = [] then [] else [(addr, bytes)]

/-- A derivation is complete (R321): the record with nonce ceiling 0, the key, and the event. -/
def State.deriveEnd (s : State) (r : CryReq) : State :=
  let i := r.fld 16 1
  let kl := r.fld 18 1
  let label := (r.desc.drop 24).take (r.fld 22 1)
  let n := if kl = 0 then 16 else 32
  let k := kdf (s.rootKey (r.fld 17 1)) label (r.fld 20 2) kl (n + 4)
  let s1 := s.setKennel i { label := label, ceil := 0, key := k.take n, kdfiv := k.drop n }
  let s2 := (((s1.wr (Reg.CRY_SLOT.STATE i) 1).wr (Reg.CRY_SLOT.ROOT i) (r.fld 17 1)).wr (Reg.CRY_SLOT.KEYLEN i) kl).wr (Reg.CRY_SLOT.MODES i) (r.fld 19 1)
  ((s2.wr (Reg.CRY_NONCE.N i) 0).slotEvent i 0x32).cryDone r St.ok 0 [] []

/-- What the end of a request does. -/
def State.cryFinish (s : State) (r : CryReq) : State :=
  match r.pdu with
  | some (k, p, rx, src) => (s.count Reg.CRY_CNT.N 1).verifyPdu k p rx src
  | none =>
    if r.opcode = 0x31 then s.cryDone r St.ok 0 (sha256 r.input) []
    else if r.opcode = 0x32 then s.deriveEnd r
    else
      let i := r.fld 16 1
      let c := cipherResult r (s.kennel i).key (s.ivfix i ++ beBytes 4 (r.nonce.getD 0))
      s.cryDone r c.status c.reason (c.result r.nonce) (outWrite (r.fld 32 8) c.out)

/-- CIPHER_REQUEST_END (R314, R318): the request of a unit ends, and a suspended one resumes. -/
def State.cryEnd (s : State) (u : Nat) : State :=
  match (s.cryU u).cur with
  | none => s
  | some r =>
    if u < 3 ∧ s.crySt = 2 ∧ !r.waitCeil then (s.setCryU u { cur := (s.cryU u).susp, susp := none }).cryFinish r else s

def execCipherRequestEnd (i : Nat) (s : State) : Res := .next (s.cryEnd i)

/-! ### Disable, erase and start (R327 to R330) -/

/-- The bytes of a request's output area (R316). -/
def CryReq.outLen (r : CryReq) : Nat :=
  if r.opcode ≠ 0x30 ∨ r.fld 17 1 = 2 then 0
  else if r.fld 17 1 = 1 ∧ r.fld 18 1 = 0 then r.fld 20 4 + 16 - r.fld 20 4 % 16
  else r.fld 20 4

/-- A request is aborted (R328): a running one has zeros written over its output area; an internal one fails. -/
def State.cryAbort (s : State) (ran : Bool) (r : CryReq) : State :=
  if r.internal then s.secFail
  else s.cryRefuse r.tag St.aborted 9 (if ran then outWrite (r.fld 32 8) (List.replicate r.outLen 0#8) else [])

/-- Running requests, then the queue, end (R328). -/
def State.cryAbortAll (s : State) : State :=
  let s1 : State := { s with cry := { s.cry with queue := [], units := [] } }
  s.cry.queue.foldl (fun s r => s.cryAbort false r) (s.cryRunning.foldl (fun s r => s.cryAbort true r) s1)

/-- The engine leaves OFF or an erase (R327, R405): STARTING while it is in use, ERASING while an erase is pending; OFF in a retired part. -/
def State.cryUp (s : State) : State :=
  s.wr Reg.CRY_STAT.STATE (if s.rd Reg.CRY_STAT.ERASEPEND ≠ 0 then 3 else if s.flag Reg.CRY_CFG.ENABLE && decide (s.otp.life ≠ 2) then 1 else 0)

/-- The engine is put out of use (R328). -/
def State.cryDisable (s : State) : State :=
  let s1 := s.cryAbortAll
  let s2 : State := match s.cry.resetTag with
    | none => s1
    | some t => ({ s1 with cry := { s1.cry with resetTag := none } } : State).complete t St.aborted
  s2.wr Reg.CRY_STAT.STATE (if s.crySt = 3 then 3 else 0)

/-- FUNC_RESET of the engine (R308, R327): aborted as for disabling, an earlier function reset too, then STARTING. -/
def State.cryFuncReset (s : State) (t : Nat) : State :=
  if s.crySt = 0 ∨ !s.flag Reg.CRY_CFG.ENABLE then s.complete t St.configMismatch
  else
    let s1 := s.cryAbortAll.completeOpt s.cry.resetTag St.aborted
    ({ s1 with cry := { s1.cry with resetTag := some t } } : State).cryUp

/-- The key of a slot computed again from its root (R327). -/
def State.slotKey (s : State) (i : Nat) : State :=
  let k := s.kennel i
  let kl := s.rd (Reg.CRY_SLOT.KEYLEN i)
  let n := if kl = 0 then 16 else 32
  let b := kdf (s.rootKey (s.rd (Reg.CRY_SLOT.ROOT i))) k.label (s.rd (Reg.CRY_SLOT.EPOCH i)) kl (n + 4)
  if s.rd (Reg.CRY_SLOT.STATE i) = 0 then s else s.setKennel i { k with key := b.take n, kdfiv := b.drop n }

/-- CIPHER_START_DONE (R327): every key is computed, and the engine is READY; a function reset completes. -/
def State.cryStartDone (s : State) : State :=
  if s.crySt = 1 then
    let s1 := ((List.range 64).foldl (fun s i => s.slotKey i) s).wr Reg.CRY_STAT.STATE 2
    ({ s1 with cry := { s1.cry with resetTag := none } } : State).completeOpt s.cry.resetTag St.ok
  else s

def execCipherStartDone (s : State) : Res := .next s.cryStartDone

/-- An alarm (R329, R330) of a level, with its bit of `CRY_ALARM`. -/
def State.alarm (s : State) (level bit : Nat) : State :=
  let s1 := (s.raiseFlag ⟨Reg.CRY_ALARM.FW1.off, bit, 1⟩).wr64 Reg.CRY_ALARMT.T s.now
  let s2 := s1.wr Reg.CRY_STAT.ERASEPEND (max level (s1.rd Reg.CRY_STAT.ERASEPEND))
  let s3 := (s2.wr Reg.CRY_ALARM.LEVEL (s2.rd Reg.CRY_STAT.ERASEPEND)).wr Reg.CRY_STAT.STATE 3
  ({ s3 with cry := { s3.cry with eraseSrc := setBitOf s3.cry.eraseSrc bit } } : State).cryAbortAll

/-- Level and bit of an alarm's source (R329). -/
def AlarmSrc.code : AlarmSrc → Nat × Nat
  | .glitch => (1, 2)
  | .temp => (1, 3)
  | .debug => (1, 4)
  | .tamper => (2, 5)
  | .retire => (2, 6)

/-- CIPHER_ALARM (R329): a source on die L, or the candle domain while die L runs. -/
def execCipherAlarm (a : AlarmSrc) (s : State) : Res :=
  .next (if s.started then s.alarm (AlarmSrc.code a).1 (AlarmSrc.code a).2 else s)

/-- ALARM (R329): firmware's alarm of level 1 or 2. -/
def State.alarmOp (s : State) (t : Nat) : State :=
  match s.opReady t 0x35 with
  | none => s
  | some o =>
    let l := o.fld 16 1
    if l = 1 ∨ l = 2 then (s.complete t St.ok 0 s.now).alarm l (l - 1) else s.complete t St.invalid 11

def execAlarm (t : Nat) (s : State) : Res := .next (s.alarmOp t)

/-- A root key is erased (R330); its count of provisionings stays. -/
def State.eraseRoot (s : State) (r : Nat) : State :=
  ({ s with cry := { s.cry with roots := SMap.set (fun _ => []) s.cry.roots r [] } } : State).wr (Reg.CRY_ROOT.VALID r) 0

/-- The erase itself (R330): every slot, and at level 2 every root key; the fault with level and sources. -/
def State.eraseAll (s : State) : State :=
  let l := s.rd Reg.CRY_STAT.ERASEPEND
  let s1 := (List.range 64).foldl (fun s i => s.emptySlot i) s
  let s2 := if l = 2 then (List.range 4).foldl (fun s r => s.eraseRoot r) s1 else s1
  let s3 := (s2.wr Reg.CRY_STAT.ERASEPEND 0).faultL 0x0B00 0x1B s.now l s.cry.eraseSrc
  ({ s3 with cry := { s3.cry with eraseSrc := 0 } } : State).cryUp

/-- ERASE_COMPLETE (R330). -/
def execEraseComplete (s : State) : Res :=
  .next (if s.crySt = 3 ∧ s.rd Reg.CRY_STAT.ERASEPEND ≠ 0 then s.eraseAll else s)

/-- Freshness values go on from what MRAM holds of them (R326). -/
def resumeFv (m : SMap (Nat × Nat)) : SMap (Nat × Nat) :=
  (m.map (fun p => (p.1, (min p.2.2 0xFFFFFFFF, p.2.2)))).filter (fun p => decide (p.2 ≠ (0, 0)))

/-- The engine at a start of die L (R323, R326, R327, R330): nothing waits, counters go on from their ceilings, and a pending erase comes first. -/
def State.cryBoot (s : State) : State :=
  let s1 := (List.range 64).foldl (fun s i =>
    if s.rd (Reg.CRY_SLOT.STATE i) = 1 then s.wr (Reg.CRY_NONCE.N i) (min (s.kennel i).ceil 0xFFFFFFFF) else s) s
  ({ s1 with cry := { s1.cry with queue := [], units := [], resetTag := none, fvOut := resumeFv s1.cry.fvOut, fvIn := resumeFv s1.cry.fvIn } } : State).cryUp

/-- The request of a tag is aborted (R305, R328); its completion is the caller's. -/
def State.cryDropTag (s : State) (t : Nat) : List (Nat × List Byte) × State :=
  let mine := fun (r : CryReq) => decide (r.tag = some t)
  let ran := (s.cryRunning.filter mine).flatMap (fun r => outWrite (r.fld 32 8) (List.replicate r.outLen 0#8))
  let drop := fun (x : CryUnit) =>
    let y : CryUnit := { x with susp := if x.susp.any mine then none else x.susp }
    if y.cur.any mine then ({ cur := y.susp, susp := none } : CryUnit) else y
  let s1 : State := { s with cry := { s.cry with queue := s.cry.queue.filter (fun r => !mine r) } }
  (ran, [0, 1, 2].foldl (fun s i => s.setCryU i (drop (s.cryU i))) s1)

/-- The stop of the host interface (R307, R328): host requests are aborted without a word to host memory. -/
def State.cryHostStop (s : State) : State :=
  let keep := fun (o : Option CryReq) => match o with
    | some r => if r.internal then some r else none
    | none => none
  let u := fun (i : Nat) => let x := s.cryU i; ({ cur := keep x.cur, susp := keep x.susp } : CryUnit)
  let s1 := [0, 1, 2].foldl (fun s i => s.setCryU i (u i)) s
  { s1 with cry := { s1.cry with queue := s1.cry.queue.filter (fun r => r.internal), resetTag := s1.cry.resetTag.map (fun _ => noTag) } }

end Sys2Proof.Machine
end

