-- ==== Sys2Proof/Machine/Stall.lean ====
section
/-! DEFINITION. Accesses to a die whose main domain sleeps or is not ready (R418, R423): they stall, and the first one wakes a sleeping die. -/

namespace Sys2Proof.Machine

/-- The main domain of a die is ready: `PWR_STAT.DOM`. -/
def State.domReady (s : State) (d : Die) : Bool := bitOf (s.rd Reg.PWR_STAT.DOM) (dieNum d)

/-- The main domain of a die sleeps: `PWR_STAT.SLP`. -/
def State.asleep (s : State) (d : Die) : Bool := bitOf (s.rd Reg.PWR_STAT.SLP) (dieNum d)

/-- The access that begins now stalls on die d; the limit of 8,000 ticks counts from the first one. -/
def State.stallFrom (s : State) (d : Die) : State :=
  if SMap.get (fun _ => none) s.pow.stallAt (dieNum d) = none then
    { s with pow := { s.pow with stallAt := SMap.set (fun _ => none) s.pow.stallAt (dieNum d) (some s.now) } }
  else s

/-- An access to a die that is not ready (R418): a sleeping main domain is woken on demand, and the access stalls. -/
def State.demandWake (s : State) (d : Die) : State :=
  if s.domReady d then s
  else
    let s1 := s.stallFrom d
    if s.asleep d then
      let s2 := s1.wr Reg.PWR_STAT.SLP (clearBitOf (s.rd Reg.PWR_STAT.SLP) (dieNum d))
      { s2 with pow := { s2.pow with demanded := dieNum d :: s2.pow.demanded } }
    else s1

/-- The access x stalls on die d, once. -/
def State.stall (s : State) (d : Die) (x : Stalled) : State :=
  let s1 := s.demandWake d
  if s1.pow.stalls.contains (dieNum d, x) then s1
  else { s1 with pow := { s1.pow with stalls := s1.pow.stalls ++ [(dieNum d, x)] } }

/-- DOMAIN_DEMAND_WAKE (R418): an access that changes nothing but the die's sleep, such as a BAR0 read. -/
def execDomainDemandWake (d : Die) (s : State) : Res := .next (if s.started ∧ s.asleep d then s.demandWake d else s)

end Sys2Proof.Machine
end

