-- ==== Sys2Proof/Machine/Units.lean ====
section
/-! DEFINITION. The units as the frame cycle, the immediate path and firmware address them: CMD entries and their dies (R47, R71, R118, R146, R175), command words applied, limp states, and firmware clears (R86, R129, R163, R178, R300). -/

namespace Sys2Proof.Machine

/-- What a CMD entry at offset 0 of a unit commands (R207). -/
inductive CmdUnit where
  | chan (u : Nat) | motor (m : Nat) | valve (n : Nat) | led (n : Nat)
  deriving DecidableEq, Repr

/-- The unit whose CMD entry index `i` is (R47, R71, R118, R146, R175). -/
def cmdUnit (i : Nat) : Option CmdUnit :=
  if i % 16 ≠ 0 then none
  else if 0x400 ≤ i ∧ i < 0x700 then some (.chan ((i - 0x400) / 16))
  else if 0x800 ≤ i ∧ i < 0x900 then some (.chan (48 + (i - 0x800) / 16))
  else if 0xC00 ≤ i ∧ i < 0xCE0 then some (.motor ((i - 0xC00) / 16))
  else if 0x1000 ≤ i ∧ i < 0x1180 then some (.valve ((i - 0x1000) / 16))
  else if 0x1400 ≤ i ∧ i < 0x1700 then some (.led ((i - 0x1400) / 16))
  else none

/-- The die that owns a unit (R15). -/
def CmdUnit.die : CmdUnit → Die
  | .chan u => chanDie u
  | .motor m => motorDie m
  | .valve _ => .v
  | .led _ => .v

/-- The die that takes the staged writes of entry `i`, none for an entry that no die owns. -/
def cmdDie (i : Nat) : Option Die := (cmdUnit i).map CmdUnit.die

/-- A word is applied to a unit at tick t. -/
def State.applyUnit (s : State) (k : CmdUnit) (w t : Nat) : State :=
  match k with
  | .chan u => s.applyChan u w t
  | .motor m => s.applyMotor m w t
  | .valve n => s.applyValve n w t
  | .led n => s.applyLed n w t

/-- The write of a CMD entry reaches its unit. -/
def State.applyWrite (s : State) (w : DieWrite) (t : Nat) : State :=
  match cmdUnit w.idx with
  | none => s
  | some k => s.applyUnit k (w.value.toNat % 2 ^ 32) t

/-! ### Limp states (R25, R26, R91, R139, R165, R181) -/

/-- Every unit of a die takes its limp state at tick t. -/
def State.limpUnits (s : State) (d : Die) (t : Nat) : State :=
  match d with
  | .v => ((List.range 48).filter (fun n => s.lEnabled n)).foldl (fun s n => s.limpLed n t)
            (((List.range 24).filter (fun n => s.vEnabled n)).foldl (fun s n => s.limpValve n t) s)
  | _ => ((motorsOf d).filter (fun m => s.mEnabled m)).foldl (fun s m => s.limpMotor m t)
           (((chansOf d).filter (fun u => s.chEnabled u)).foldl (fun s u => s.limpChan u t) s)

/-- Every unit of a die leaves limp at boundary tick t; it keeps its limp state until a write names it. -/
def State.unlimpUnits (s : State) (d : Die) (t : Nat) : State :=
  match d with
  | .v => ((List.range 48).filter (fun n => s.lEnabled n)).foldl (fun s n => s.unlimpLed n)
            (((List.range 24).filter (fun n => s.vEnabled n)).foldl (fun s n => s.unlimpValve n) s)
  | _ => ((chansOf d).filter (fun u => s.chEnabled u)).foldl (fun s u => s.unlimpChan u t) s

/-! ### Firmware clears (R86, R129, R163, R178) -/

/-- The operations of the clears that acted complete OK with the boundary (R300). -/
def State.clearsDone (s : State) (tags : List Nat) (t : Nat) : State := tags.foldl (fun s k => s.complete k St.ok 0 t) s

def State.actChanClear (s : State) (u t : Nat) : State :=
  let x := s.chan u
  if x.clear then ((s.setChan u { x with clear := false, clearTags := [] }).clearChan u t).clearsDone x.clearTags t else s

def State.actMotorClear (s : State) (m t : Nat) : State :=
  let x := s.motor m
  if x.clear then ((s.setMotor m { x with clear := false, clearTags := [] }).clearMotor m t).clearsDone x.clearTags t else s

def State.actValveClear (s : State) (n t : Nat) : State :=
  let x := s.valve n
  if x.clear then ((s.setValve n { x with clear := false, clearTags := [] }).clearValve n t).clearsDone x.clearTags t else s

def State.actBankClear (s : State) (b t : Nat) : State :=
  let x := s.bank b
  if x.clear then ((s.setBank b { x with clear := false, clearTags := [] }).clearBank b t).clearsDone x.clearTags t else s

def State.actLedClear (s : State) (n t : Nat) : State :=
  let x := s.sink n
  if x.clear then ((s.setSink n { x with clear := false, clearTags := [] }).clearLed n t).clearsDone x.clearTags t else s

/-- The firmware clears that wait on die `d` act at boundary tick t. -/
def State.actClears (s : State) (d : Die) (t : Nat) : State :=
  match d with
  | .v =>
    let s1 := (List.range 24).foldl (fun s n => s.actValveClear n t) s
    let s2 := (List.range 6).foldl (fun s b => s.actBankClear b t) s1
    (List.range 48).foldl (fun s n => s.actLedClear n t) s2
  | _ => (motorsOf d).foldl (fun s m => s.actMotorClear m t) ((chansOf d).foldl (fun s u => s.actChanClear u t) s)

/-- What a firmware clear names by its source identifier (R86, R129, R163, R178, R300): none for a source of another class or unit; else the unit's die, whether the unit is enabled, and the state with the clear requested, for the operation of tag `t` if there is one. -/
def State.unitClearOf (s : State) (src : Nat) (t : Option Nat) : Option (Die × Bool × State) :=
  let i := src % 256
  match src / 256 with
  | 1 => if i < 48 then some (chanDie i, s.chEnabled i, s.requestChanClear i t) else none
  | 2 => if i < 16 then some (chanDie (48 + i), s.chEnabled (48 + i), s.requestChanClear (48 + i) t) else none
  | 3 => if i < 14 then some (motorDie i, s.mEnabled i, s.requestMotorClear i t) else none
  | 4 =>
    if i < 24 then some (.v, s.vEnabled i, s.requestValveClear i t)
    else if 32 ≤ i ∧ i < 38 then some (.v, s.bEnabled (i - 32), s.requestBankClear (i - 32) t)
    else none
  | 5 => if i < 48 then some (.v, s.lEnabled i, s.requestLedClear i t) else none
  | _ => none

/-- A write of 1 to the CLEAR bit of a unit's control register (R86, R129, R163, R178): a unit that is not enabled has nothing to clear, and the write to a die that is not ready stalls (R418). -/
def State.clearWrite (s : State) (src : Nat) : State :=
  match s.unitClearOf src none with
  | none => s
  | some (d, e, s1) => if !s.domReady d then s.stall d (.clear src) else if e then s1 else s

/-- HSW_CTL_CLEAR and PDRV_CTL_CLEAR (R86). -/
def execHswCtlClear (n : Nat) (s : State) : Res := .next (if n < 48 then s.clearWrite (chanSrc n) else s)
def execPdrvCtlClear (n : Nat) (s : State) : Res := .next (if n < 16 then s.clearWrite (chanSrc (48 + n)) else s)
/-- BRG_CTL_CLEAR (R129). -/
def execBrgCtlClear (m : Nat) (s : State) : Res := .next (if m < 14 then s.clearWrite (motorSrc m) else s)
/-- VLV_CTL_CLEAR and VLV_BCTL_CLEAR (R163). -/
def execVlvCtlClear (n : Nat) (s : State) : Res := .next (if n < 24 then s.clearWrite (valveSrc n) else s)
def execVlvBctlClear (b : Nat) (s : State) : Res := .next (if b < 6 then s.clearWrite (0x0420 + b) else s)
/-- LED_CTL_CLEAR (R178). -/
def execLedCtlClear (n : Nat) (s : State) : Res := .next (if n < 48 then s.clearWrite (ledSrc n) else s)

/-- UNIT_CLEAR (R300); one that names a unit of a die that is not ready stalls (R418). -/
def State.unitClear (s : State) (t : Nat) : State :=
  match s.opReady t 0x18 with
  | none => s
  | some o =>
    match (s.begin t).unitClearOf (o.fld 16 2) (some t) with
    | none => s.complete t St.invalid
    | some (d, e, s1) =>
      if !s.domReady d then s.stall d (.op t)
      else if e then s1
      else s.complete t St.configMismatch

def execUnitClear (t : Nat) (s : State) : Res := .next (s.unitClear t)

end Sys2Proof.Machine
end

