-- ==== Sys2Proof/Machine/Reflex.lean ====
section
/-! DEFINITION. The reflex engine (R199 to R217): placement, dispatch and aborts of frame programs, core service states, failure, HALTED, and the immediate path. -/

namespace Sys2Proof.Machine

/-! ### Programs, loads and the placement (R201, R202, R210) -/

/-- The record of frame program p. -/
def State.prog (s : State) (p : Nat) : Option Prog := SMap.get (fun _ => none) s.img.progs p

/-- The programs of the active image, in ascending index. -/
def Tables.progIds (t : Tables) : List Nat := (t.progs.filter (fun p => p.2.isSome)).map (fun p => p.1)

def Tables.progAt (t : Tables) (p : Nat) : Prog := (SMap.get (fun _ => none) t.progs p).getD {}

/-- The load that program p puts on its core (R202): its budget and the overhead of a run. -/
def Tables.progLoad (t : Tables) (p : Nat) : Nat := (t.progAt p).budget + 400

/-- The load of a list of programs. -/
def Tables.loadOf (t : Tables) (ps : List Nat) : Nat := ps.foldl (fun a p => a + t.progLoad p) 0

/-- Capacity of a core in cycles (R202). -/
def capacityOf (period loadmax : Nat) : Nat := 3 * (period - 2400) * loadmax / 100

def State.capacity (s : State) : Nat := capacityOf s.period (s.rd Reg.RFX_CFG.LOADMAX)

/-- The core with the largest room; the lowest number on ties, the list being in ascending core number (R210). -/
def bestCore : List (Nat × Int) → Option (Nat × Int)
  | [] => none
  | (c, r) :: m =>
    match bestCore m with
    | none => some (c, r)
    | some (c', r') => if r' > r then some (c', r') else some (c, r)

/-- One mover is placed, or none fits (R210). -/
def placeMover (t : Tables) (cap : Nat) (pl : List (Nat × List Nat)) (p : Nat) : Option (List (Nat × List Nat)) :=
  match bestCore (pl.map (fun x => (x.1, (cap : Int) - t.loadOf x.2))) with
  | none => none
  | some (c, r) => if (t.progLoad p : Int) > r then none else some (pl.map (fun x => if x.1 = c then (x.1, x.2 ++ [p]) else x))

/-- place(S) (R210): each core of S, in ascending number, with its programs in the order it runs them. -/
def placeIn (t : Tables) (cap : Nat) (S : List Nat) : Option (List (Nat × List Nat)) :=
  let own := fun c => sortBy (fun a b => decide ((t.progAt a).order ≤ (t.progAt b).order)) (t.progIds.filter (fun p => decide ((t.progAt p).prim = c)))
  let movers := sortBy (fun a b => decide ((t.progAt b).budget ≤ (t.progAt a).budget)) (t.progIds.filter (fun p => !S.contains (t.progAt p).prim))
  if S = [] then none else movers.foldl (fun pl p => pl.bind (fun x => placeMover t cap x p)) (some (S.map (fun c => (c, own c))))

def State.place (s : State) (S : List Nat) : Option (List (Nat × List Nat)) := placeIn s.img s.capacity S

/-- `RFX_CORE.STATE` (R209): 0 IN_SERVICE, 1 LEAVING, 2 OUT, 3 JOINING, 4 FAILED. -/
def State.coreSt (s : State) (c : Nat) : Nat := s.rd (Reg.RFX_CORE.STATE c)
def State.setCore (s : State) (c st : Nat) : State := s.wr (Reg.RFX_CORE.STATE c) st

/-- S (R210): the cores IN_SERVICE or LEAVING. -/
def State.inService (s : State) : List Nat := (List.range 8).filter (fun c => decide (s.coreSt c ≤ 1))

/-- `RFX_STAT.ENGINE` (R213): 0 STOPPED, 1 RUNNING, 2 HALTED. -/
def State.engine (s : State) : Nat := s.rd Reg.RFX_STAT.ENGINE

/-- The registers that show a placement (R217). -/
def State.showPlacement (s : State) (pl : List (Nat × List Nat)) : State :=
  let s1 := (List.range 8).foldl (fun s c =>
    let ps := ((pl.find? (fun x => decide (x.1 = c))).map (fun x => x.2)).getD []
    (s.wr (Reg.RFX_CORE.NPLACED c) ps.length).wr (Reg.RFX_CORELOAD.CYC c) (s.img.loadOf ps)) s
  pl.foldl (fun s x => x.2.foldl (fun s p => s.wr (Reg.RFX_PROG.CUR p) x.1) s) s1

/-- A placement takes force. -/
def State.usePlacement (s : State) (pl : List (Nat × List Nat)) : State :=
  { s.showPlacement pl with rfx := { s.rfx with placed := pl.filter (fun x => decide (x.2 ≠ [])) } }

/-! ### Runs (R200, R203 to R205, R219) -/

/-- Source identifier of a core, and of the engine (R14). -/
def coreSrc (c : Nat) : Nat := 0x1000 + c

/-- The programs a core has still to start in this frame. -/
def State.todoOf (s : State) (c : Nat) : List Nat := SMap.get (fun _ => []) s.rfx.todo c
def State.setTodo (s : State) (c : Nat) (ps : List Nat) : State := { s with rfx := { s.rfx with todo := SMap.set (fun _ => []) s.rfx.todo c ps } }

/-- The state block of program p by words; a block that nothing wrote is zero (R214). -/
def State.blockOf (s : State) (p : Nat) : SMap W32 := SMap.get (fun _ => []) s.rfx.blocks p

/-- Core c starts the next program it has to run in this frame (R200, R203, R219). -/
def State.dispatchCore (s : State) (c : Nat) : State :=
  match s.todoOf c with
  | [] => s.setCel c { s.celAt c with running := false, stopAt := none }
  | p :: ps =>
    let s1 := (s.setTodo c ps).wr (Reg.RFX_PROGUSED.SKIPPED p) 0
    s1.setCel c { running := true, prog := p, pc := (s.img.progAt p).first, mem := s.blockOf p, used := (s.celAt c).used + 400 }

/-- The words of a working copy that belong to the state block of p (R199, R200). -/
def blockWords (n : Nat) (m : SMap W32) : SMap W32 := m.filter (fun x => decide (x.1 < 16 * n))

/-- The charge of the run that ends goes to the program's and the core's registers (R217). -/
def State.chargeRun (s : State) (c : Nat) (aborted : Bool) : State :=
  let x := s.celAt c
  ((s.wr (Reg.RFX_PROGUSED.CYC x.prog) (min x.cyc (2 ^ 23 - 1))).wr (Reg.RFX_PROGUSED.ABORTED x.prog) (b2n aborted)).setCel c
    { x with running := false, used := x.used + x.cyc }

/-- A run reaches its end (R200): its working copy is written back, and the core goes on. -/
def State.endRunOf (s : State) (c : Nat) : State :=
  let x := s.celAt c
  let b := blockWords (s.img.progAt x.prog).stateLen x.mem
  let s1 := s.chargeRun c false
  ({ s1 with rfx := { s1.rfx with blocks := SMap.set (fun _ => []) s1.rfx.blocks x.prog b } } : State).dispatchCore c

/-- A run is aborted (R204, R205, R212): cause 1 BUDGET, 2 CLOSE, 3 WATCHDOG; `skipped` programs are carried in the event. -/
def State.abortRun (s : State) (c cause skipped : Nat) : State :=
  let x := s.celAt c
  let p := x.prog
  let f := s.rd Reg.TIME_FRAME.F
  let s1 := ((s.chargeRun c true).count (Reg.RFX_PROGABORT.N p) 1).wr (Reg.RFX_PROGABORT.CAUSE p) cause
  let s2 := ((s1.count Reg.RFX_ABORTCNT.N 1).count (Reg.RFX_CORECNT.ABORTS c) 1).wr Reg.RFX_LASTF.F f
  let s3 := ((s2.wr Reg.RFX_LAST.PROG p).wr Reg.RFX_LAST.CORE c).wr Reg.RFX_LAST.CAUSE cause
  (s3.breakNow 0).faultL (coreSrc c) 0x50 s.now (p + 256 * cause + 65536 * skipped) f

/-- The programs of core c not yet started are skipped for the frame (R205, R212). -/
def State.skipRest (s : State) (c : Nat) : State :=
  let ps := s.todoOf c
  let s1 := ps.foldl (fun s p => s.wr (Reg.RFX_PROGUSED.SKIPPED p) 1) (s.setTodo c [])
  s1.count (Reg.RFX_CORECNT.OVERRUNS c) ps.length

/-- Staging close on core c (R205): the run in progress is aborted, the rest skipped. -/
def State.closeCore (s : State) (c : Nat) : State :=
  let n := (s.todoOf c).length
  if (s.celAt c).running then
    let s1 := (s.abortRun c 2 n).skipRest c
    s1.setCel c { s1.celAt c with stopAt := some s.now }
  else s.skipRest c

/-- Elapsed cycles of the frame that completes (R217): at least what its runs were charged with their overheads; how many of them were stalls is open. -/
def State.showUsed (s : State) (c : Nat) : State :=
  let f := s.takeFree
  let n := min (max (s.celAt c).used (f.1.toNat % 2 ^ 23)) (2 ^ 23 - 1)
  if (s.celAt c).used = 0 then s.wr (Reg.RFX_COREUSED.CYC c) 0
  else
    let s1 := (f.2.wr (Reg.RFX_COREUSED.CYC c) n).wr (Reg.RFX_COREPEAK.CYC c) (max n (s.rd (Reg.RFX_COREPEAK.CYC c)))
    s1.setCel c { s1.celAt c with used := 0 }

/-- Every run ends or is aborted at the staging close of a frame (R205). -/
def State.closeCores (s : State) : State := (List.range 8).foldl State.closeCore s

/-- A frame completes: the elapsed cycles of every core (R217). -/
def State.showUsedAll (s : State) : State := (List.range 8).foldl State.showUsed s

/-! ### Failure (R212, R213) -/

/-- A program that core c was given after an abort it did not stop for has not been started (R203, R212). -/
def State.undispatch (s : State) (c : Nat) : State :=
  let x := s.celAt c
  if x.running ∧ x.stopAt.isSome then (s.setTodo c (x.prog :: s.todoOf c)).setCel c { x with running := false, used := x.used - 400 } else s

/-- Core c fails at this tick with a cause (R212, R217): 1 abort not stopped, 2 memory error, 3 not ready at a seal.  Nothing is placed on it (R209). -/
def State.coreFail (s : State) (c cause : Nat) : State :=
  let s0 := if cause = 1 then s.undispatch c else s
  let n := (s0.todoOf c).length
  let s1 := if (s0.celAt c).running then (s0.abortRun c 3 n).skipRest c else (s0.skipRest c).breakNow 0
  let s2 := (s1.setCore c 4).wr (Reg.RFX_CORE.FAILCAUSE c) cause
  let s3 := (s2.wr (Reg.RFX_CORE.NPLACED c) 0).wr (Reg.RFX_CORELOAD.CYC c) 0
  s3.faultL (coreSrc c) 0x51 s.now cause (s.rd Reg.TIME_FRAME.F)

/-- Core c has not stopped 2,000 core cycles, 667 ticks, after an abort (R212). -/
def State.notStopped (s : State) (c : Nat) : Bool := (s.celAt c).stopAt.any (fun k => decide (k + 667 ≤ s.now))

/-- CORE_FAILURE (R212): a core that runs programs is declared FAILED. -/
def execCoreFailure (c cause : Nat) (s : State) : Res :=
  .next (if c < 8 ∧ s.started ∧ s.coreSt c ≤ 1 ∧ 1 ≤ cause ∧ cause ≤ 3 ∧ (cause = 1 → s.notStopped c) then s.coreFail c cause else s)

/-- A frame's programs start at the seal (R203, R212): `ready` says which cores report themselves ready. -/
def State.startPrograms (s : State) (ready : List Bool) : State :=
  if s.engine ≠ 1 then s
  else
    let s1 := s.inService.foldl (fun s c => s.setTodo c (SMap.get (fun _ => []) s.rfx.placed c)) s
    s1.inService.foldl (fun s c => if ready.getD c true then s.dispatchCore c else s.coreFail c 3) s1

/-! ### Core service (R209, R211) -/

/-- A request completes (R211): `RFX_SVCRES`, and its operation. -/
def State.svcDone (s : State) (c op : Nat) (tag : Option Nat) (status stamp : Nat) : State :=
  let n := s.rd Reg.RFX_SVCRES.COUNT
  ((((s.wr Reg.RFX_SVCRES.STATUS status).wr Reg.RFX_SVCRES.CORE c).wr Reg.RFX_SVCRES.OP op).wr Reg.RFX_SVCRES.COUNT (n + 1)).completeOpt tag status 0 stamp

/-- The pending request of core c to be removed (1) or returned (2). -/
def State.svcPending (s : State) (c op : Nat) : Option SvcReq := s.rfx.reqs.find? (fun r => decide (r.core = c) && decide (r.op = op))

/-- The pending request of core c to be removed (1) or returned (2) is withdrawn (R211). -/
def State.svcWithdraw (s : State) (c op : Nat) : State :=
  match s.svcPending c op with
  | none => s
  | some r =>
    ({ s with rfx := { s.rfx with reqs := s.rfx.reqs.filter (fun r => !(decide (r.core = c) && decide (r.op = op))) } } : State).svcDone
      c r.op r.tag St.retryLater 0

/-- A request waits for its boundary. -/
def State.svcAdd (s : State) (r : SvcReq) : State := { s with rfx := { s.rfx with reqs := s.rfx.reqs ++ [r] } }

/-- The set a removal of core c is checked against (R211): S without every core that leaves, and without c. -/
def State.remaining (s : State) (c : Nat) : List Nat := (List.range 8).filter (fun k => decide (s.coreSt k = 0) && decide (k ≠ c))

/-- A request to remove core c (R211). -/
def State.svcRemove (s : State) (c : Nat) (tag : Option Nat) : State :=
  match s.coreSt c with
  | 0 =>
    if s.place (s.remaining c) = none then s.svcDone c 1 tag St.configMismatch 0
    else (s.setCore c 1).svcAdd { core := c, op := 1, tag := tag, tick := s.now }
  | 3 =>
    let o := ((s.svcPending c 2).map (fun r => r.origin)).getD 2
    ((s.setCore c o).svcDone c 1 tag St.ok 0).svcWithdraw c 2
  | _ => s.svcDone c 1 tag St.ok 0

/-- A request to return core c (R211). -/
def State.svcReturn (s : State) (c : Nat) (tag : Option Nat) : State :=
  match s.coreSt c with
  | 1 => ((s.setCore c 0).svcDone c 2 tag St.ok 0).svcWithdraw c 1
  | 2 => (s.setCore c 3).svcAdd { core := c, op := 2, tag := tag, tick := s.now, origin := 2 }
  | 4 => (s.setCore c 3).svcAdd { core := c, op := 2, tag := tag, tick := s.now, origin := 4 }
  | _ => s.svcDone c 2 tag St.ok 0

/-- RFX_SVC_REMOVE and RFX_SVC_RETURN (R211). -/
def execRfxSvcRemove (c : Nat) (s : State) : Res := .next (if c < 8 ∧ s.started then s.svcRemove c none else s)
def execRfxSvcReturn (c : Nat) (s : State) : Res := .next (if c < 8 ∧ s.started then s.svcReturn c none else s)

/-- CORE_SERVICE (R211, R300). -/
def State.coreService (s : State) (t : Nat) : State :=
  match s.opReady t 0x19 with
  | none => s
  | some o =>
    let c := o.fld 16 1
    if 8 ≤ c then s.complete t St.invalid
    else if o.fld 17 1 = 1 then (s.begin t).svcRemove c (some t)
    else if o.fld 17 1 = 2 then (s.begin t).svcReturn c (some t)
    else s.complete t St.invalid

def execCoreService (t : Nat) (s : State) : Res := .next (s.coreService t)

/-- CORE_SELF_TEST_END (R209, R211): 10,000 ticks after a return was accepted. -/
def State.selfTestEnd (s : State) (c : Nat) (pass : Bool) : State :=
  match s.rfx.reqs.find? (fun r => decide (r.core = c) && decide (r.op = 2) && !r.tested) with
  | none => s
  | some r =>
    if s.coreSt c = 3 ∧ r.tick + 10000 ≤ s.now then
      if pass then
        { s with rfx := { s.rfx with reqs := s.rfx.reqs.map (fun q => if q.core = c then { q with tested := true } else q) } }
      else
        let s1 : State := { s with rfx := { s.rfx with reqs := s.rfx.reqs.filter (fun q => !(decide (q.core = c) && decide (q.op = 2))) } }
        ((s1.setCore c 4).wr (Reg.RFX_CORE.FAILCAUSE c) 4).svcDone c 2 r.tag St.internal 0
    else s

def execCoreSelfTestEnd (c : Nat) (pass : Bool) (s : State) : Res := .next (s.selfTestEnd c pass)

/-- A request is due at boundary b (R211). -/
def SvcReq.due (r : SvcReq) (b : Nat) : Bool :=
  if r.op = 1 then decide (r.tick + 2000 ≤ b) else r.tested && decide (r.tick + 12000 ≤ b)

/-- A request completes OK at boundary b, in which frame f begins, with the change it asked for (R211).  The removal of a core that failed in the meantime completes without one (DESIGN CHOICE, log entry 31). -/
def State.svcEffect (s : State) (r : SvcReq) (b f : Nat) : State :=
  let changes := decide (s.coreSt r.core = if r.op = 1 then 1 else 3)
  let s1 := if r.op = 1 then s.setCore r.core 2 else (s.setCore r.core 0).wr (Reg.RFX_CORE.FAILCAUSE r.core) 0
  let s2 := if changes then (s1.wr Reg.RFX_SVCF.F f).event 0x1081 b r.core r.op f else s
  s2.svcDone r.core r.op r.tag St.ok b

/-- One pending request at boundary b (R211, R214): with a new image a removal that no longer fits completes CONFIG_MISMATCH. -/
def State.svcAt (s : State) (newImage : Bool) (b f : Nat) (r : SvcReq) : State :=
  if newImage ∧ r.op = 1 ∧ s.coreSt r.core = 1 ∧ s.place (s.remaining r.core) = none then
    (s.setCore r.core 0).svcDone r.core 1 r.tag St.configMismatch 0
  else s.svcEffect r b f

/-- The requests due at boundary b are evaluated in order of receipt (R211). -/
def State.svcBoundary (s : State) (newImage : Bool) (b f : Nat) : State :=
  let dueNow := s.rfx.reqs.filter (fun r => r.due b)
  let s1 : State := { s with rfx := { s.rfx with reqs := s.rfx.reqs.filter (fun r => !r.due b) } }
  dueNow.foldl (fun s r => s.svcAt newImage b f r) s1

/-- HALTED (R213): no programs run. -/
def State.haltEngine (s : State) (b : Nat) : State :=
  let s1 := (s.wr Reg.RFX_STAT.ENGINE 2).usePlacement []
  ({ s1 with rfx := { s1.rfx with todo := [] } } : State).faultL 0x1008 0x53 b 0 (s.rd Reg.TIME_FRAME.F)

/-- The engine at boundary b (R210, R213, R214): service requests, then the placement of the frame that begins; without one the engine is HALTED, which it leaves after a return or a commit; every frame in HALTED has a budget break. -/
def State.engineBoundary (s : State) (newImage : Bool) (b f : Nat) : State :=
  let returned := s.rfx.reqs.any (fun r => r.due b && decide (r.op = 2))
  let s2 := s.svcBoundary newImage b f
  match s2.place s2.inService with
  | some pl =>
    if s2.engine = 2 ∧ !returned ∧ !newImage then s2.breakNow 0
    else (s2.wr Reg.RFX_STAT.ENGINE (if s2.engine = 0 then 0 else 1)).usePlacement pl
  | none =>
    if s2.engine = 1 then (s2.haltEngine b).breakNow 0
    else if s2.engine = 2 then s2.breakNow 0
    else s2.usePlacement []

/-- A new image in force (R214): a program keeps its state block only when its code and its block size are both unchanged. -/
def State.keepBlocks (s : State) (old : Tables) : State :=
  let code := fun (t : Tables) (p : Nat) => (List.range (t.progAt p).words).map (fun i => SMap.get (fun _ => 0#32) t.code ((t.progAt p).first + i))
  let same := fun p => decide ((SMap.get (fun _ => none) old.progs p).isSome) && decide ((SMap.get (fun _ => none) s.img.progs p).isSome)
    && decide ((old.progAt p).stateLen = (s.img.progAt p).stateLen) && decide (code old p = code s.img p)
  { s with rfx := { s.rfx with blocks := s.rfx.blocks.filter (fun x => same x.1) } }

/-- The program records where the words of program p in `regs` are written one by one (R217, R396): present while VALID is 1, its code as it was. -/
def Tables.withProgRegs (t : Tables) (regs : SMap W32) (p : Nat) : Tables :=
  let f := fun (x : Fld) => (SMap.get resetWord regs x.off).toNat / 2 ^ x.lo % 2 ^ x.w
  let q : Prog := { t.progAt p with prim := f (Reg.RFX_PROG.PRIM p), order := f (Reg.RFX_PROG.ORDER p), stateLen := f (Reg.RFX_PROG.STATE p),
                                    budget := f (Reg.RFX_PROGBUD.BUDGET p) }
  { t with progs := SMap.set (fun _ => none) t.progs p (if f (Reg.RFX_PROG.VALID p) = 1 then some q else none) }

/-- The engine at a start of die L (R209, R213, R214): state blocks zero, every core self-tested, STOPPED. -/
def State.engineStart (s : State) (pass : List Bool) : State :=
  let s1 : State := { s with rfx := {} }
  let s2 := (List.range 8).foldl (fun s c =>
    let ok := pass.getD c true
    ((s.setCel c {}).setCore c (if ok then 0 else 4)).wr (Reg.RFX_CORE.FAILCAUSE c) (if ok then 0 else 4)) s1
  (s2.wr Reg.RFX_STAT.ENGINE 0)

/-! ### The immediate path (R207, R208) -/

/-- IMMEDIATE_WRITE (R207), in the precedence of R12. -/
def State.immediateWrite (s : State) (t : Nat) : State :=
  match s.opReady t 0x12 with
  | none => s
  | some o =>
    let i := o.fld 16 3
    let w := o.fld 32 4
    match s.attr i, cmdUnit i with
    | none, _ => s.complete t St.invalid
    | some _, none => s.complete t St.configMismatch
    | some _, some k =>
      if !s.flag Reg.RFX_CFG.IMMEN then s.complete t St.configMismatch
      else if !s.domReady k.die then s.stall k.die (.op t)
      else if s.inLimp k.die then s.complete t St.retryLater
      else
        let s1 := (s.begin t).commit { idx := i, value := BitVec.ofNat 64 w, stamp := s.now, src := 0x1100 + o.sq, own := .program }
        s1.sendDown k.die (.immediate { idx := i, value := BitVec.ofNat 64 w, tag := some t } s.now)

def execImmediateWrite (t : Nat) (s : State) : Res := .next (s.immediateWrite t)

/-- An immediate word is applied at tick t (R207, R208). -/
def State.immediateAt (s : State) (t : Nat) (w : DieWrite) : State :=
  let s1 := ((s.applyWrite w t).count Reg.RFX_IMMCNT.N 1).event 0x1080 t w.idx w.value.toNat
  ((s1.breakNow 1).raiseL 0x0E30 0x35 t).completeOpt w.tag St.ok 0 t

/-- The immediate words that are at a die since before tick t, and the messages that stay: no other message went before them (R16, R207). -/
def takeImmediates (t : Nat) : List DownMsg → List DieWrite × List DownMsg
  | .immediate w since :: l =>
    if since < t then
      let x := takeImmediates t l
      (w :: x.1, x.2)
    else ([], .immediate w since :: l)
  | l => ([], l)

/-- IMMEDIATE_APPLY (R207): at an island tick that is a multiple of 200 the die applies the words that arrived before it. -/
def State.immediateApply (s : State) (d : Die) : State :=
  let t := s.dieNow d
  if t ≠ 0 ∧ t % 200 = 0 then
    let x := takeImmediates t (s.link d).down
    x.1.foldl (fun s w => s.immediateAt t w) (s.setLink d { s.link d with down := x.2 })
  else s

def execImmediateApply (d : Die) (s : State) : Res := .next (s.immediateApply d)

end Sys2Proof.Machine
end

