-- ==== Sys2Proof/Machine/Access.lean ====
section
/-! DEFINITION. The access engine (R335 to R358): tokens, LF challenges, reply slots, rounds, calibration, button frames, lockout and sessions. -/

namespace Sys2Proof.Machine

/-! ### Reports (R350) -/

/-- `ACC_STAT.STATE` (R352): 0 OFF, 1 IDLE, 2 ROUND, 3 CALIBRATING, 4 LOCKED_OUT. -/
def State.accSt (s : State) : Nat := s.rd Reg.ACC_STAT.STATE
def State.accGo (s : State) (st : Nat) : State := s.wr Reg.ACC_STAT.STATE st

/-- An entry of the engine is updated (R350); an engine that is not in use has none. -/
def State.accUnit (s : State) (o : Nat) (v t : Nat) : State :=
  if s.flag Reg.ACC_CFG.ENABLE then s.unitL (0x3000 + o) (v : Int) t 0x0C00 else s

def State.tokReg (s : State) (i : Nat) : Bool := decide (i < 8) && s.flag (Reg.ACC_TOKCFG.REG i)
def State.tokCal (s : State) (i : Nat) : Bool := s.tokReg i && s.flag (Reg.ACC_TOKCFG.CALOK i)

/-- The TOKEN entry of record i. -/
def State.tokReport (s : State) (i : Nat) : State :=
  let f := s.rd (Reg.ACC_TOKSTAT.FLAGS i)
  s.accUnit (16 + i) (s.rd (Reg.ACC_TOKCFG.REG i) + 2 * s.rd (Reg.ACC_TOKCFG.CALOK i) + 4 * (f % 4)) s.now

/-- Whole seconds of lockout left, a started second counting as one (R350, R357). -/
def State.lockRem (s : State) : Nat := if s.accSt = 4 then ceilDiv (s.acc.lockEnd - s.now) 200000000 else 0

/-- The LOCK entry, and the copies in MRAM (R348, R350). -/
def State.lockReport (s : State) (t : Nat) : State :=
  let s1 : State := { s with acc := { s.acc with mramLevel := s.rd Reg.ACC_STAT.LEVEL, mramLock := decide (s.accSt = 4) } }
  s1.accUnit 3 (b2n (decide (s.accSt = 4)) + 2 * s.rd Reg.ACC_STAT.LEVEL + 8 * s.acc.history.length + 65536 * (s.lockRem % 65536)) t

/-- A result is written: `ACC_RESULT` and the RESULT entry (R350). -/
def State.accResult (s : State) (status reason : Nat) : State :=
  let n := (s.rd Reg.ACC_RESULT.COUNT + 1) % 65536
  (((s.wr Reg.ACC_RESULT.STATUS status).wr Reg.ACC_RESULT.REASON reason).wr Reg.ACC_RESULT.COUNT n).accUnit 2
    (status + 256 * reason + 65536 * n) s.now

/-! ### Sessions (R349) -/

def State.sessionOn (s : State) : Bool := bitOf s.acc.session 0

/-- The session's word is set and reported. -/
def State.setSession (s : State) (w t : Nat) : State := ({ s with acc := { s.acc with session := w } } : State).accUnit 1 w t

/-- The session's word once it has ended with a cause (R349): 1 DOOR, 2 TIMEOUT, 3 REPLACED, 4 REVOKED. -/
def State.closeSession (s : State) (cause t : Nat) : State :=
  s.setSession (s.acc.session - 1 - bits s.acc.session 13 3 * 8192 + cause * 8192) t

/-- The tick at which the session times out (R349). -/
def State.sessionEnd (s : State) : Nat := s.rd64 Reg.ACC_SESST.T + 6000000000

/-- The session ends at tick t, unless its 30 s have ended it before (R349). -/
def State.endSession (s : State) (cause t : Nat) : State :=
  if !s.sessionOn then s else if s.sessionEnd ≤ t then s.closeSession 2 s.sessionEnd else s.closeSession cause t

/-- A session starts at tick t (R349); its word carries REPLACED where it replaces one that still runs. -/
def State.startSession (s : State) (tok method mask t : Nat) : State :=
  let s1 := if s.sessionEnd ≤ t then s.endSession 2 t else s
  let n := (s1.acc.session / 65536 + 1) % 65536
  let cause := if s1.sessionOn then 3 else 0
  (s1.setSession (1 + 2 * tok + 16 * method + 32 * (mask % 256) + 8192 * cause + 65536 * n) t).wr64 Reg.ACC_SESST.T t

/-- SESSION_TIMEOUT (R349): 30 s after its start. -/
def State.sessionTimeout (s : State) : State := if s.sessionEnd ≤ s.now then s.endSession 2 s.now else s

def execSessionTimeout (s : State) : Res := .next s.sessionTimeout

/-- An update that the ledger accepted ends the session when it opens an enabled door (R349). -/
def State.doorUpdate (s : State) (idx : Nat) (value : W64) (stamp : Nat) : State :=
  if s.sessionOn && decide (s.rd64 Reg.ACC_SESST.T ≤ stamp) && (List.range 4).any (fun k =>
      s.flag (Reg.ACC_DOOR.EN k) && decide (s.rd (Reg.ACC_DOOR.IDX k) = idx) && decide (value.toNat = s.rd (Reg.ACC_DOOR.LVL k))) then
    s.endSession 1 stamp
  else s

/-! ### Rounds: completion (R344, R351) -/

/-- RESULT of a challenge's completion (R351). -/
def Access.result (a : Access) : List Byte :=
  match a.accepted with
  | none => [0xFF#8, BitVec.ofNat 8 a.fails, BitVec.ofNat 8 a.discards, BitVec.ofNat 8 a.sent]
  | some (tok, dev, flags) =>
    [BitVec.ofNat 8 tok, BitVec.ofNat 8 a.fails, BitVec.ofNat 8 a.discards, BitVec.ofNat 8 a.sent] ++ List.replicate 4 0#8
      ++ leBytes 2 (fieldOfInt 16 dev) ++ [BitVec.ofNat 8 flags]

/-- A lockout runs (R347). -/
def State.lockRuns (s : State) : Bool := decide (s.now < s.acc.lockEnd)

/-- Where the engine rests: LOCKED_OUT while a lockout runs, else IDLE (R352). -/
def State.accRest (s : State) : State := s.accGo (if s.lockRuns then 4 else 1)

/-- A request that was never served ends: a CMD word writes a result, an operation completes (R351). -/
def State.accRefuse (s : State) (r : AccReq) (status reason : Nat) : State :=
  match r.tag with
  | none => s.accResult status reason
  | some t => s.complete t status reason s.now

/-- LF stops at the end of the current bit (R353); a transmission that has ended stays ended. -/
def State.lfStop (s : State) : State :=
  let a := s.acc
  let rest := (a.endAt - s.dieNow .v) % 51200
  if a.sending then { s with acc := { a with endAt := s.dieNow .v + rest } } else s

/-- What a round leaves when it is over. -/
def Access.idle (a : Access) : Access :=
  { a with cur := none, challengeEnd := none, strobes := [], frames := [], verify := none, repeats := [], inRepeat := false, accepted := none, fails := 0,
           discards := 0, sent := 0, lastFail := 0, devs := [], calLeft := 0, k := 0 }

/-- The request that runs ends with a status and reason at this tick: a round writes RESULT, an operation completes (R344, R351). -/
def State.accFinish (s : State) (status reason : Nat) : State :=
  match s.acc.cur with
  | none => s
  | some r =>
    let a := s.acc
    let s1 := if r.mode = 3 then s else s.accResult status reason
    let s2 : State := match r.tag with
      | none => s1
      | some t => s1.complete t status reason s.now (if r.mode = 3 then [] else a.result)
    ({ s2.lfStop with acc := s2.lfStop.acc.idle } : State).accRest

/-- Every request that waits ends, in arrival order. -/
def State.accFlush (s : State) (status reason : Nat) : State :=
  s.acc.queue.foldl (fun s r => s.accRefuse r status reason) { s with acc := { s.acc with queue := [] } }

/-! ### Lockout (R347) -/

/-- The level returns to 0 at an acceptance (R347). -/
def State.levelZero (s : State) : State :=
  if s.rd Reg.ACC_STAT.LEVEL = 0 then s else (s.wr Reg.ACC_STAT.LEVEL 0).lockReport s.now

/-- The reasons of five failures, six bits each, the earliest lowest. -/
def packReasons : List Nat → Nat
  | [] => 0
  | r :: rs => r % 64 + 64 * packReasons rs

/-- The lockout begins (R347): a running round completes LOCKED_OUT, and so do the requests that wait. -/
def State.lockout (s : State) (reasons : List Nat) : State :=
  let l := s.rd Reg.ACC_STAT.LEVEL
  let a := { s.acc with lockEnd := s.now + 60000000000 * 2 ^ l, lockLevel := l, history := [] }
  let s1 := ({ s with acc := a } : State).wr Reg.ACC_STAT.LEVEL (min (l + 1) 3)
  let s2 := s1.faultL 0x0C00 0x1E s.now l (packReasons reasons)
  (((s2.accFinish St.lockedOut 8).accFlush St.lockedOut 8).accGo 4).lockReport s.now

/-- A counted failure, stamped at this tick (R347): the fifth within 60 s of the fourth before it brings lockout. -/
def State.accFailure (s : State) (reason : Nat) : State :=
  let a := s.acc
  let s1 := ({ s with acc := { a with fails := a.fails + 1, lastFail := reason } } : State).count Reg.ACC_CNT.FAIL 1
  match a.history with
  | (t0, r0) :: h1 :: h2 :: h3 :: _ =>
    if (s.now : Int) ≤ t0 + 12000000000 then s1.lockout [r0, h1.2, h2.2, h3.2, reason]
    else ({ s1 with acc := { s1.acc with history := [h1, h2, h3, ((s.now : Int), reason)] } } : State).lockReport s.now
  | h => ({ s1 with acc := { s1.acc with history := h ++ [((s.now : Int), reason)] } } : State).lockReport s.now

/-- LOCKOUT_END (R347). -/
def State.lockoutEnd (s : State) : State :=
  if s.accSt = 4 ∧ s.acc.lockEnd ≤ s.now then
    ((s.accGo 1).event 0x0C82 s.acc.lockEnd (s.rd Reg.ACC_STAT.LEVEL)).lockReport s.acc.lockEnd
  else s

def execLockoutEnd (s : State) : Res := .next s.lockoutEnd

/-! ### Tokens (R338) -/

/-- The record that holds an ID. -/
def State.tokenOf (s : State) (id : Nat) : Option Nat := (List.range 8).find? (fun i => s.tokReg i && decide (s.rd (Reg.ACC_TOKID.ID i) = id))

/-- The engine runs a round or a calibration. -/
def State.accBusy (s : State) : Bool := decide (s.accSt = 2) || decide (s.accSt = 3)

/-- A record is zeroed (R338). -/
def State.tokZero (s : State) (i : Nat) : State :=
  (((s.setWord (Reg.ACC_TOKID.ID i).off 0#32).setWord (Reg.ACC_TOKCFG.SLOT i).off 0#32).setWord (Reg.ACC_TOKCNT.LASTCNT i).off 0#32).setWord
    (Reg.ACC_TOKSTAT.FLAGS i).off 0#32

/-- A slot permits CMAC and is READY (R338). -/
def State.slotPermits (s : State) (i mode : Nat) : Bool :=
  decide (i < 64) && decide (s.rd (Reg.CRY_SLOT.STATE i) = 1) && bitOf (s.rd (Reg.CRY_SLOT.MODES i)) mode

/-- TOKEN_REGISTER (R338). -/
def State.tokenRegister (s : State) (t : Nat) : State :=
  match s.opReady t 0x41 with
  | none => s
  | some o =>
    let i := o.fld 16 1
    let id := o.fld 20 4
    if 8 ≤ i ∨ s.tokReg i ∨ id = 0xFFFFFFFF ∨ (s.tokenOf id).isSome then s.complete t St.invalid 12
    else if !s.slotPermits (o.fld 17 1) 2 then s.complete t St.configMismatch 13
    else if s.accBusy then s.complete t St.retryLater 7
    else
      let s1 := (((s.tokZero i).wr (Reg.ACC_TOKID.ID i) id).wr (Reg.ACC_TOKCFG.SLOT i) (o.fld 17 1)).wr (Reg.ACC_TOKCFG.REG i) 1
      ((s1.tokReport i).event 0x0C80 s.now i 0x41 id).complete t St.ok

def execTokenRegister (t : Nat) (s : State) : Res := .next (s.tokenRegister t)

/-- TOKEN_REMOVE (R338, R349). -/
def State.tokenRemove (s : State) (t : Nat) : State :=
  match s.opReady t 0x42 with
  | none => s
  | some o =>
    let i := o.fld 16 1
    if !s.tokReg i then s.complete t St.invalid 12
    else if s.accBusy then s.complete t St.retryLater 7
    else
      let id := s.rd (Reg.ACC_TOKID.ID i)
      let s1 := if bits s.acc.session 1 3 = i then s.endSession 4 s.now else s
      (((s1.tokZero i).tokReport i).event 0x0C80 s.now i 0x42 id).complete t St.ok

def execTokenRemove (t : Nat) (s : State) : Res := .next (s.tokenRemove t)

/-! ### Requests (R339, R351, R353) -/

/-- The enabled drivers of an antenna mask (R335). -/
def State.driversOf (s : State) (mask : Nat) : Nat :=
  ((List.range 8).filter (fun k => bitOf mask k && s.flag (Reg.ACC_LF.EN k))).foldl (fun a k => a + 2 ^ k) 0

/-- Why a request cannot be served, as status and reason, in the order of R351; none when it can. -/
def State.accCheck (s : State) (r : AccReq) : Option (Nat × Nat) :=
  if s.accSt = 0 then some (St.aborted, 11)
  else if r.mode = 0 ∨ 3 < r.mode ∨ 8 ≤ r.token ∨ r.mask = 0 then some (St.invalid, 12)
  else if s.driversOf r.mask = 0 ∨ (r.mode ≠ 1 ∧ !s.tokReg r.token) ∨ (r.mode = 2 ∧ !s.tokCal r.token)
      ∨ !(s.slotPermits (s.rd Reg.ACC_CFG.CSLOT) 0) ∨ !s.cryReady then some (St.configMismatch, 13)
  else if s.accSt = 4 then some (St.lockedOut, 8)
  else if s.tbSt = .degraded then some (St.degradedTime, 9)
  else if s.supplyBlocks .v then some (St.retryLater, 7)
  else none

/-- CHALLENGE (R351): refused, or put in a place. -/
def State.challengeOp (s : State) (t : Nat) : State :=
  match s.opReady t 0x40 with
  | none => s
  | some o =>
    let m := o.fld 16 1
    let r : AccReq := { tag := some t, mode := if m = 1 ∨ m = 2 then m else 0, token := o.fld 17 1, mask := o.fld 18 1 }
    match s.accCheck r with
    | some (st, why) => s.accRefuse r st why
    | none =>
      if 4 ≤ (s.acc.queue.filter (fun q => q.tag.isSome)).length then s.accRefuse r St.retryLater 7
      else
        let s1 := s.begin t
        { s1 with acc := { s1.acc with queue := s1.acc.queue ++ [r] } }

def execChallenge (t : Nat) (s : State) : Res := .next (s.challengeOp t)

/-- CALIBRATE (R339): accepted only in IDLE. -/
def State.calibrate (s : State) (t : Nat) : State :=
  match s.opReady t 0x43 with
  | none => s
  | some o =>
    let r : AccReq := { tag := some t, mode := 3, token := o.fld 16 1, mask := o.fld 17 1 }
    match s.accCheck r with
    | some (st, why) => s.accRefuse r st why
    | none =>
      if s.accSt ≠ 1 ∨ 4 ≤ (s.acc.queue.filter (fun q => q.tag.isSome)).length then s.accRefuse r St.retryLater 7
      else
        let s1 := s.begin t
        { s1 with acc := { s1.acc with queue := s1.acc.queue ++ [r] } }

def execCalibrate (t : Nat) (s : State) : Res := .next (s.calibrate t)

/-- A CMD word is applied at a boundary (R351): only a changed word acts; a waiting CMD word that it replaces writes BUSY. -/
def State.accCmd (s : State) (w : Nat) : State :=
  if w = s.acc.word then s
  else
    let old := s.acc.queue.filter (fun q => q.tag.isNone)
    let s1 : State := { s with acc := { s.acc with word := w, queue := s.acc.queue.filter (fun q => q.tag.isSome) } }
    let s2 := old.foldl (fun s r => s.accRefuse r St.retryLater 7) s1
    let bad := decide (w % 4 = 3) || bitOf w 2 || bitOf w 7 || decide (w / 65536 ≠ 0)
    let r : AccReq := { tag := none, mode := if bad then 0 else w % 4, token := bits w 4 3, mask := bits w 8 8 }
    if w % 4 = 0 ∧ !bad then s2
    else
      match s2.accCheck r with
      | some (st, why) => s2.accRefuse r st why
      | none => { s2 with acc := { s2.acc with queue := s2.acc.queue ++ [r] } }

/-! ### Challenges (R335, R340) -/

/-- A nonce of slot i is drawn by an internal request (R316, R323, R324): none when the slot is exhausted. -/
def State.drawNonce (s : State) (i : Nat) : Option Nat × State :=
  let n := s.rd (Reg.CRY_NONCE.N i)
  let k := s.kennel i
  if n = 0xFFFFFFFF then (none, (s.wr (Reg.CRY_SLOT.STATE i) 2).faultL (0x0B40 + i) 0x1D s.now)
  else (some n, (if n = k.ceil then s.setKennel i { k with ceil := k.ceil + 4096 } else s).wr (Reg.CRY_NONCE.N i) (n + 1))

/-- The challenge frame (R340): WAKE, SYNC, HDR, VID, TID, NONCE, CRC. -/
def challengeFrame (slots : Nat) (addressed : Bool) (vid tid : Nat) (nonce : List Byte) : List Byte :=
  let body := [0x96#8, BitVec.ofNat 8 (slots - 1 + 8 * b2n addressed)] ++ leBytes 4 vid ++ leBytes 4 tid ++ nonce
  [0xFF#8, 0xFF#8] ++ body ++ [BitVec.ofNat 8 (crcOf 8 0x2F 0xFF body)]

/-- A challenge is sent to every token, or to token `tok`: its nonce is drawn, and LF drive starts at the next carrier edge (R335, R340). -/
def State.sendChallenge (s : State) (addressed : Bool) (tok mask : Nat) : State :=
  let slot := s.rd Reg.ACC_CFG.CSLOT
  match s.drawNonce slot with
  | (none, s1) => s1.accFinish St.nonceExhausted 10
  | (some n, s1) =>
    let nonce := (aesEnc (s.kennel slot).key (s.ivfix slot ++ beBytes 4 n ++ List.replicate 4 0#8)).take 8
    let S := if addressed then 1 else s.rd Reg.ACC_CFG.SLOTSM1 + 1
    let start := (s.dieNow .v + 799) / 800 * 800
    let a := { s1.acc with addressed := addressed, token := tok, nonce := nonce, sending := true, endAt := start + 8601600, challengeEnd := none,
                           slots := S, k := 0, drivers := s.driversOf mask, off := 0, opens := 0, strobes := [], frames := [], verify := none,
                           sent := s1.acc.sent + b2n addressed }
    ({ s1 with acc := a } : State).emit (.lfBits (challengeFrame S addressed (s.rd Reg.ACC_VID.VID)
      (if addressed then s.rd (Reg.ACC_TOKID.ID tok) else 0xFFFFFFFF) nonce))

/-- Die V starts a transmission (R355): frame boundaries reach it, and it is not in limp. -/
def State.lfMay (s : State) : Bool := !s.inLimp .v && decide (s.dieNow .v < (s.link .v).lastBoundary + 2 * s.period)

/-- The front request is served (R351). -/
def State.serveNext (s : State) : State :=
  match s.acc.queue with
  | [] => s
  | r :: rs =>
    let s1 : State := { s with acc := { s.acc with queue := rs } }
    match s1.accCheck r with
    | some (st, why) => s1.accRefuse r st why
    | none =>
      let s2 := ({ s1 with acc := { s1.acc.idle with cur := some r, calLeft := if r.mode = 3 then 15 else 0 } } : State).accGo (if r.mode = 3 then 3 else 2)
      s2.sendChallenge (decide (r.mode ≠ 1)) r.token r.mask

/-- CHALLENGE_START (R340, R344): the next request from IDLE, the next addressed repeat of a round, or the next challenge of a calibration. -/
def State.challengeStart (s : State) : State :=
  let a := s.acc
  if a.sending ∨ a.challengeEnd.isSome ∨ !s.lfMay then s
  else
    match a.cur with
    | none => if s.accSt = 1 then s.serveNext else s
    | some r =>
      if r.mode = 3 then s.sendChallenge true r.token r.mask
      else
        match a.repeats with
        | [] => s
        | i :: rest => ({ s with acc := { a with repeats := rest } } : State).sendChallenge true i r.mask

def execChallengeStart (s : State) : Res := .next s.challengeStart

/-- CHALLENGE_END (R340): the last LF bit period ends, and E is stamped on die V. -/
def State.challengeOver (s : State) : State :=
  let a := s.acc
  if a.sending ∧ a.endAt ≤ s.dieNow .v then
    ({ s with acc := { a with sending := false, drivers := 0, challengeEnd := if a.cur.isSome then some a.endAt else none } } : State).seqHalt 16
  else s

def execChallengeEnd (s : State) : Res := .next s.challengeOver

/-- An overrun or execution error of the LF sequencer (R335): the transmission stops at once and the round completes INTERNAL. -/
def State.lfOverrun (s : State) : State :=
  if s.acc.sending then
    let s1 := (({ s with acc := { s.acc with sending := false, drivers := 0 } } : State).seqHalt 16)
    s1.accFinish St.internal 16
  else s

/-- A control step of the LF sequencer is due: every 1,600 ticks of a transmission (R335). -/
def State.lfDue (s : State) : Bool :=
  let a := s.acc
  let t := s.dieNow .v
  a.sending && decide (t ≤ a.endAt) && decide (a.endAt ≤ t + 8601600) && decide ((a.endAt - t) % 1600 = 0) && decide (a.lf.last ≠ t)

/-- LF_CONTROL_STEP (R335): a step that has not finished when the next is due is an overrun. -/
def State.lfStep (s : State) : State :=
  if s.lfDue then
    if (s.celAt 16).running then s.lfOverrun
    else ({ s with acc := { s.acc with lf := { s.acc.lf with last := s.dieNow .v } } } : State).seqStart 16
  else s

def execLfControlStep (s : State) : Res := .next s.lfStep

/-- LF_SEQ_OVERRUN (R335): the next step is due and the last has not finished. -/
def execLfSeqOverrun (s : State) : Res := .next (if s.lfDue && (s.celAt 16).running then s.lfOverrun else s)

/-- Driver k is driven now. -/
def State.lfDriven (s : State) (k : Nat) : Bool := s.acc.sending && bitOf s.acc.drivers k && !bitOf s.acc.off k

/-- LF_DRIVER_SHORT (R336): above 1.5 A the driver is off for the rest of the challenge. -/
def State.lfShort (s : State) (k cur : Nat) : State :=
  if k < 8 ∧ s.lfDriven k ∧ 1500 < cur then
    (({ s with acc := { s.acc with off := setBitOf s.acc.off k } } : State).raiseFlag ⟨Reg.ACC_LFSTAT.SHORT.off, k, 1⟩).faultD .v (0x0C20 + k) 0x01 (s.dieNow .v)
  else s

def execLfDriverShort (k cur : Nat) (s : State) : Res := .next (s.lfShort k cur)

/-- LF_DRIVER_OPEN (R336): a peak below IPK / 4 over 8 carrier periods. -/
def State.lfOpen (s : State) (k peak : Nat) : State :=
  if k < 8 ∧ s.lfDriven k ∧ !bitOf s.acc.opens k ∧ 4 * peak < s.rd (Reg.ACC_LF.IPK k) * 10 then
    (({ s with acc := { s.acc with opens := setBitOf s.acc.opens k } } : State).raiseFlag ⟨Reg.ACC_LFSTAT.OPEN.off, 8 + k, 1⟩).faultD .v (0x0C20 + k) 0x08 (s.dieNow .v)
  else s

def execLfDriverOpen (k peak : Nat) (s : State) : Res := .next (s.lfOpen k peak)

/-! ### Frames of the token receive port (R337, R341) -/

/-- A reply or a button frame that decodes (R341): ID, FLAGS, counter of a button frame, and MAC. -/
structure TkrFrame where
  button : Bool
  id : Nat
  flags : Nat
  cnt : Nat
  mac : List Byte
  deriving DecidableEq, Repr

/-- A frame decodes when its length, TYPE and CRC are all correct (R341). -/
def parseTkr (f : List Byte) : Option TkrFrame :=
  let good := decide (crcOf 16 0x1021 0xFFFF (f.take (f.length - 2)) = byteField f (f.length - 2) 2)
  if f.length = 16 ∧ byteField f 0 1 = 0x5A ∧ good then
    some { button := false, id := byteField f 1 4, flags := byteField f 5 1, cnt := 0, mac := (f.drop 6).take 8 }
  else if f.length = 20 ∧ byteField f 0 1 = 0xA5 ∧ good then
    some { button := true, id := byteField f 1 4, flags := byteField f 5 1, cnt := byteField f 6 4, mac := (f.drop 10).take 8 }
  else none

/-- The MAC of a frame verifies under the slot key of token i, in a slot that permits CMAC (R320, R341). -/
def State.tkrVerifies (s : State) (i : Nat) (f : TkrFrame) : Bool :=
  let slot := s.rd (Reg.ACC_TOKCFG.SLOT i)
  let tail := leBytes 4 f.id ++ leBytes 1 f.flags
  let m := if f.button then 2#8 :: (leBytes 4 (s.rd Reg.ACC_VID.VID) ++ tail ++ leBytes 4 f.cnt)
    else 1#8 :: (s.acc.nonce ++ leBytes 4 (s.rd Reg.ACC_VID.VID) ++ tail)
  s.cryReady && decide (s.rd (Reg.CRY_SLOT.STATE slot) ≠ 0) && bitOf (s.rd (Reg.CRY_SLOT.MODES slot)) 2 && decide ((cmac (s.kennel slot).key m).take 8 = f.mac)

/-- TKR_STROBE (R337): stamped while a challenge waits for its replies. -/
def execTkrStrobe (s : State) : Res :=
  .next (if s.accBusy ∧ s.acc.challengeEnd.isSome then { s with acc := { s.acc with strobes := s.acc.strobes ++ [s.now] } } else s)

/-- TKR_FRAME_RECEIVED (R337, R343): the bytes that follow the last strobe. -/
def State.tkrFrame (s : State) (f : List Byte) : State :=
  match s.acc.strobes.getLast? with
  | none => s
  | some x => { s with acc := { s.acc with frames := s.acc.frames ++ [(x, f)] } }

def execTkrFrameReceived (f : List Byte) (s : State) : Res := .next (if s.accBusy then s.tkrFrame f else s)

/-- The last decoded frame of token i (R350, R358). -/
def State.tokFlags (s : State) (i flags : Nat) : State := (s.wr (Reg.ACC_TOKSTAT.FLAGS i) flags).tokReport i

/-- An acceptance of token i (R347, R357, R358). -/
def State.tokAccept (s : State) (i : Nat) : State := ((s.count Reg.ACC_CNT.ACCEPT 1).count (Reg.ACC_TOKSTAT.NACC i) 1).levelZero

/-- BUTTON_FRAME (R346): accepted, a duplicate, or a failure; ignored while OFF or locked out. -/
def State.buttonFrame (s : State) (f : List Byte) : State :=
  match parseTkr f with
  | none => s
  | some x =>
    if !x.button ∨ s.accSt = 0 ∨ s.accSt = 4 then s
    else
      match s.tokenOf x.id with
      | none => s.accFailure 6
      | some i =>
        let s1 := s.tokFlags i x.flags
        if !s.tkrVerifies i x ∨ x.cnt < s.rd (Reg.ACC_TOKCNT.LASTCNT i) then s1.accFailure 6
        else if x.cnt = s.rd (Reg.ACC_TOKCNT.LASTCNT i) then s1
        else ((s1.wr (Reg.ACC_TOKCNT.LASTCNT i) x.cnt).tokAccept i).startSession i 1 0 s.now

def execButtonFrame (f : List Byte) (s : State) : Res := .next (s.buttonFrame f)

/-! ### Slots and the end of a round (R339, R343, R344) -/

/-- `ACC_LASTDEV` after a classification (R343). -/
def State.lastDev (s : State) (dev : Int) (tok : Nat) (valid : Bool) : State :=
  ((s.wr Reg.ACC_LASTDEV.DEV (fieldOfInt 16 (clampInt (-32768) 32767 dev))).wr Reg.ACC_LASTDEV.TOKEN tok).wr Reg.ACC_LASTDEV.VALID (b2n valid)

/-- The mean of the deviations, rounded half up (R339). -/
def calMean (ds : List Int) : Int := (2 * ds.foldl (fun a d => a + d) 0 + 16) / 32

/-- A calibration's sixteen challenges are over (R339). -/
def State.calEnd (s : State) (r : AccReq) : State :=
  let ds := s.acc.devs
  let cal := calMean ds
  if ds.length ≠ 16 then s.accFinish St.retryLater 2
  else if ds.foldl max (ds.headD 0) - ds.foldl min (ds.headD 0) > 4 then s.accFinish St.retryLater 14
  else if cal.natAbs > 4000 then s.accFinish St.invalid 15
  else
    let s1 := ((s.wr (Reg.ACC_TOKCFG.CAL r.token) (fieldOfInt 16 cal)).wr (Reg.ACC_TOKCFG.CALOK r.token) 1).tokReport r.token
    (s1.event 0x0C81 s.now r.token (fieldOfInt 32 cal)).accFinish St.ok 1

/-- A round is over (R344). -/
def State.roundEnd (s : State) (r : AccReq) : State :=
  let a := s.acc
  match a.accepted with
  | some (tok, _, _) => (s.startSession tok 0 r.mask s.now).accFinish St.ok 1
  | none =>
    if a.fails ≠ 0 then s.accFinish St.authFail a.lastFail
    else (s.count Reg.ACC_CNT1.NOREPLY 1).accFinish St.retryLater 2

/-- The challenge's last slot is classified: the next challenge of the round or calibration, or its end (R339, R344). -/
def State.challengeDone (s : State) : State :=
  let a := s.acc
  match a.cur with
  | none => s
  | some r =>
    let next := fun (a : Access) => ({ s with acc := { a with challengeEnd := none } } : State)
    if r.mode = 3 then (if a.calLeft = 0 then s.calEnd r else next { a with calLeft := a.calLeft - 1 })
    else if a.accepted.isSome then s.roundEnd r
    else if a.inRepeat then (if a.repeats = [] then s.roundEnd r else next a)
    else
      let rep := (List.range 8).filter (fun i => s.tokCal i)
      if r.mode = 1 ∧ a.discards ≠ 0 ∧ rep ≠ [] then next { a with inRepeat := true, repeats := rep } else s.roundEnd r

/-- Slot k is classified: the next slot, or the end of the challenge. A round that a lockout has ended stays ended. -/
def State.slotDone (s : State) : State :=
  let a := s.acc
  if a.cur.isNone then s
  else if a.k + 1 < a.slots then { s with acc := { a with k := a.k + 1 } }
  else s.challengeDone

/-- REPLY_SLOT_END (R343): the slot whose span has ended is classified; a reply of a registered token waits for its verification. -/
def State.replySlotEnd (s : State) : State :=
  let a := s.acc
  match a.challengeEnd with
  | none => s
  | some e =>
    let lo := e + 30000 + a.k * 800000
    if s.accBusy = false ∨ a.verify.isSome ∨ s.now < lo + 800000 then s
    else
      let xs := a.strobes.filter (fun x => decide (lo ≤ x) && decide (x < lo + 800000))
      let discard := fun (s : State) =>
        ((({ s with acc := { s.acc with discards := s.acc.discards + 1 } } : State).count Reg.ACC_CNT1.COLL 1).lastDev 0 0 false).slotDone
      match xs with
      | [] => s.slotDone
      | [x] =>
        match (a.frames.filter (fun p => decide (p.1 = x))).map (fun p => parseTkr p.2) with
        | [some f] =>
          if f.button then s.slotDone
          else
            match s.tokenOf f.id with
            | none => ((s.lastDev 0 0 false).accFailure 5).slotDone
            | some i => { s with acc := { a with verify := some { k := a.k, token := i, flags := f.flags, stamp := x, good := s.tkrVerifies i f } } }
        | _ => discard s
      | _ => discard s

def execReplySlotEnd (s : State) : Res := .next s.replySlotEnd

/-- dev of a reply (R343): its strobe against E, the slot, and the token's offset. -/
def State.devOf (s : State) (e : Nat) (v : AccReply) : Int :=
  (v.stamp : Int) - (e + 40000 + v.k * 800000 : Nat) - signedOf 16 (s.rd (Reg.ACC_TOKCFG.CAL v.token))

/-- A verified reply of a round (R343). -/
def State.judgeReply (s : State) (e : Nat) (v : AccReply) : State :=
  let dev := s.devOf e v
  let s1 := (s.lastDev dev v.token (s.tokCal v.token)).tokFlags v.token v.flags
  if !v.good then s1.accFailure 3
  else if !s.tokCal v.token then s1
  else if dev.natAbs > s.rd Reg.ACC_CFG.WIN then s1.accFailure 4
  else
    let keep := match s1.acc.accepted with
      | some (t, d, f) => if t ≤ v.token then (t, d, f) else (v.token, dev, v.flags)
      | none => (v.token, dev, v.flags)
    (({ s1 with acc := { s1.acc with accepted := some keep } } : State).tokAccept v.token)

/-- A verified reply of a calibration (R339). -/
def State.judgeCal (s : State) (e tok : Nat) (v : AccReply) : State :=
  let s1 := (s.lastDev ((v.stamp : Int) - (e + 40000 : Nat)) v.token false).tokFlags v.token v.flags
  if !v.good then s1.accFailure 3
  else if v.token ≠ tok then s1
  else { s1 with acc := { s1.acc with devs := s1.acc.devs ++ [(v.stamp : Int) - (e + 40000 : Nat)] } }

/-- REPLY_VERIFIED (R343, R344). -/
def State.replyVerified (s : State) : State :=
  match s.acc.verify, s.acc.cur, s.acc.challengeEnd with
  | some v, some r, some e =>
    let s1 : State := { s with acc := { s.acc with verify := none } }
    (if r.mode = 3 then s1.judgeCal e r.token v else s1.judgeReply e v).slotDone
  | _, _, _ => s

def execReplyVerified (s : State) : Res := .next s.replyVerified

/-! ### DEGRADED, disabling, supply, reset, PARK (R348, R352 to R355, R437) -/

/-- The running request and those that wait end; nothing that was accepted in the round is honoured (R353, R354, R437). -/
def State.accAbort (s : State) (status reason : Nat) : State :=
  ((({ s with acc := { s.acc with accepted := none } } : State).accFinish status reason).accFlush status reason)

/-- Entry into DEGRADED (R353). -/
def State.accDegraded (s : State) : State := s.accAbort St.degradedTime 9

/-- Die V enters UV, OV or GNDSHIFT (R437). -/
def State.accSupply (s : State) : State := s.accAbort St.retryLater 7

/-- The engine stops (R354): requests end ABORTED_DISABLED, and the session REVOKED. -/
def State.accStop (s : State) : State := (s.accAbort St.aborted 11).endSession 4 s.now

/-- The engine is put out of use (R352, R354). -/
def State.accDisable (s : State) : State := s.accStop.accGo 0

/-- A commit that changes a field, or FUNC_RESET (R354). -/
def State.accRestart (s : State) : State := if s.accSt = 0 then s else s.accStop.accRest

/-- The engine may be in use: enabled, and the part not retired (R352, R405). -/
def State.accEnabled (s : State) : Bool := s.flag Reg.ACC_CFG.ENABLE && decide (s.otp.life ≠ 2)

/-- A boundary or a wake brings the engine out of OFF (R352). -/
def State.accEnter (s : State) : State :=
  if s.accSt = 0 ∧ s.accEnabled then
    let s1 := (s.accRest).lockReport s.now
    (List.range 8).foldl (fun s i => s.tokReport i) (s1.accUnit 1 s.acc.session s.now)
  else s

/-- FUNC_RESET of the engine (R308, R354). -/
def State.accFuncReset (s : State) (t : Nat) : State :=
  if s.accSt = 0 then s.complete t St.configMismatch else s.accRestart.complete t St.ok

/-- The request of a tag is taken out (R305, R354); its completion is the caller's. -/
def State.accDropTag (s : State) (t : Nat) : State :=
  let s1 : State := { s with acc := { s.acc with queue := s.acc.queue.filter (fun r => decide (r.tag ≠ some t)) } }
  match s1.acc.cur with
  | none => s1
  | some r =>
    if r.tag = some t then
      ({ s1 with acc := { s1.acc with cur := some { r with tag := none }, accepted := none } } : State).accFinish St.aborted 11
    else s1

/-- The request of a tag ends at the drain limit (R305, R354). -/
def State.accDrain (s : State) (t : Nat) : State :=
  match s.acc.cur with
  | some r =>
    if r.tag = some t then ({ s with acc := { s.acc with accepted := none } } : State).accFinish St.aborted 11
    else (s.accDropTag t).complete t St.aborted 11 s.now
  | none => (s.accDropTag t).complete t St.aborted 11 s.now

/-- The stop of the host interface (R307, R354): the host's requests are aborted without a completion. -/
def State.accHostStop (s : State) : State :=
  let tags := (s.acc.cur.toList ++ s.acc.queue).filterMap (fun r => r.tag)
  tags.foldl (fun s t => s.accDropTag t) s

/-- A start of die L (R348, R355): a round is gone without completion, the session with it; a running lockout and the failures go on. -/
def State.accBoot (s : State) : State :=
  ({ s with acc := { s.acc.idle with queue := [], word := 0, session := 0, sending := false, drivers := 0 } } : State).accGo 0

/-- The candle domain takes the lockout at PARK entry (R348). -/
def State.accPark (s : State) : State :=
  { s with acc := { s.acc with parkLeft := s.acc.lockEnd - s.now,
                               parkAges := s.acc.history.map (fun h => (((s.now : Int) - h.1).toNat, h.2)) } }

/-- At a wake the lockout goes on, N candle seconds having aged it by 0.9 N (R348); failures past 60 s are of no effect any more. -/
def State.accWake (s : State) (secs : Nat) : State :=
  let aged := secs * 180000000
  let left := s.acc.parkLeft - aged
  let ages := (s.acc.parkAges.map (fun p => (p.1 + aged, p.2))).filter (fun p => decide (p.1 ≤ 12000000000))
  { s with acc := { s.acc with lockEnd := if left = 0 then 0 else s.now + left, parkLeft := 0, parkAges := [],
                               history := ages.map (fun p => ((s.now : Int) - (p.1 : Nat), p.2)) } }

/-- After a loss of the candle supply an active lockout starts again at its full length, at the level that MRAM holds (R348). -/
def State.accCandleLost (s : State) : State :=
  ({ s with acc := { s.acc with parkLeft := if s.acc.mramLock then 60000000000 * 2 ^ s.acc.lockLevel else 0, parkAges := [], history := [] } } : State).wr
    Reg.ACC_STAT.LEVEL s.acc.mramLevel

end Sys2Proof.Machine
end

