-- ==== Sys2Proof/Machine/Fault.lean ====
section
/-! DEFINITION. The fault collector (R359 to R378): delivery of raises, records and their states, recovery, notices, the fault operations, injection, and what starts and commits leave of the records. -/

namespace Sys2Proof.Machine

def FltRec.blank : Nat → FltRec := fun _ => {}
def State.fltRec (s : State) (r : Nat) : FltRec := SMap.get FltRec.blank s.flt.recs r
def State.setFltRec (s : State) (r : Nat) (x : FltRec) : State := { s with flt := { s.flt with recs := SMap.set FltRec.blank s.flt.recs r x } }

/-- The record whose span holds a source identifier (R362). -/
def State.recordOf (s : State) (src : Nat) : Option Nat :=
  (List.range 256).find? (fun r => decide (s.rd (Reg.FLT_BIND.BASE r) ≤ src) && decide (src < s.rd (Reg.FLT_BIND.BASE r) + s.rd (Reg.FLT_BIND.SPAN r)))

/-- Content of a record's entry (R369). -/
def State.fltValue (s : State) (r : Nat) : Nat :=
  s.fltSt r + 4 * s.rd (Reg.FLT_RSTAT.INJ r) + 256 * s.rd (Reg.FLT_RSTAT.KIND r) + 65536 * ((s.fltRec r).src % 65536)
    + 2 ^ 32 * s.rd (Reg.FLT_RSTAT.RCNT r) + 2 ^ 40 * s.rd (Reg.FLT_RSTAT.NRET r)

/-- The entry of record r follows each change, stamped with it (R369). -/
def State.reportFlt (s : State) (r t : Nat) : State :=
  match s.lastSent (0x100 + r) with
  | some u => if u.value = w64 (s.fltValue r : Nat) then s else s.unitL (0x100 + r) (s.fltValue r : Nat) t 0x0FF0
  | none => s.unitL (0x100 + r) (s.fltValue r : Nat) t 0x0FF0

/-- RCNT and the LATCHED state go to MRAM at each change (R371). -/
def State.fltMram (s : State) (r : Nat) : State :=
  { s with flt := { s.flt with mram := SMap.set (fun _ => (0, false)) s.flt.mram r (s.rd (Reg.FLT_RSTAT.RCNT r), decide (s.fltSt r = 3)) } }

/-- A notice enters the queue and signals vector 32; a full queue discards it (R368). -/
def State.notice (s : State) (n : Notice) : State :=
  if s.flt.notices.length < 256 then ({ s with flt := { s.flt with notices := s.flt.notices ++ [n] } } : State).msix 32
  else s.count Reg.FLT_LOST.NOTICE 1

/-- A notice of record r under reaction bit b (R367). -/
def State.noticeIf (s : State) (r b : Nat) (n : Notice) : State := if bitOf (s.rd (Reg.FLT_BIND.REACT r)) b then s.notice n else s

/-- A stamp put into its place among the retained ones, of which the n latest stay (R364). -/
def retain (n t : Nat) (l : List Nat) : List Nat :=
  let m := insertBy (fun a b => decide (a ≤ b)) t l
  m.drop (m.length - n)

/-- The retained stamps make the record severe (R364). -/
def severeBy (n win : Nat) (l : List Nat) : Bool :=
  decide (l.length = n) && decide (l.foldl max 0 - l.foldl min (l.headD 0) ≤ win * 2000000)

/-- The greatest retained stamp, or 0. -/
def FltRec.last (x : FltRec) : Nat := x.stamps.foldl max 0

/-- Record r recovers when its quiet period has passed (R365). -/
def State.recoverAt (s : State) (r : Nat) : State :=
  let x := s.fltRec r
  let e := x.last + s.rd (Reg.FLT_COUNT.QUIET r) * 20000000
  let st := s.fltSt r
  if s.fltBound r && (decide (st = 1) || decide (st = 2)) && decide (s.rd (Reg.FLT_COUNT.QUIET r) ≠ 0) && decide (e + 400 ≤ s.now) then
    let s1 := if st = 2 then s.count (Reg.FLT_RSTAT.RCNT r) 1 else s
    let s2 := (((s1.wr (Reg.FLT_RSTAT.STATE r) 0).wr (Reg.FLT_RSTAT.NRET r) 0).setFltRec r { x with stamps := [] }).fltMram r
    (s2.reportFlt r e).noticeIf r 2 { stamp := e, src := 0, kind := 0, event := 3, record := r, inj := false }
  else s

/-- A raise in record r makes it severe (R363, R364): LATCHED where RCNT has reached RLIM, else SEVERE. -/
def State.severe (s : State) (r : Nat) (x : Raise) : State :=
  let lim := s.rd (Reg.FLT_COUNT.RLIM r)
  let latch := decide (lim ≠ 0) && decide (lim ≤ s.rd (Reg.FLT_RSTAT.RCNT r))
  ((s.wr (Reg.FLT_RSTAT.STATE r) (if latch then 3 else 2)).fltMram r).noticeIf r 1
    { stamp := x.stamp, src := x.src, kind := x.kind, event := if latch then 2 else 1, record := r, inj := x.inj }

/-- A raise counts in record r (R362 to R364, R367, R369). -/
def State.raiseIn (s0 : State) (r : Nat) (x : Raise) : State :=
  let s := s0.recoverAt r
  let n := s.rd (Reg.FLT_COUNT.N r)
  let l := retain n x.stamp (s.fltRec r).stamps
  let s1 := (s.setFltRec r { stamps := l, src := x.src }).wr (Reg.FLT_RSTAT.KIND r) x.kind
  let s2 := (s1.wr (Reg.FLT_RSTAT.INJ r) (b2n x.inj)).wr (Reg.FLT_RSTAT.NRET r) l.length
  let s3 := s2.noticeIf r 0 { stamp := x.stamp, src := x.src, kind := x.kind, event := 0, record := r, inj := x.inj }
  let s4 := if s.fltSt r ≤ 1 then (if severeBy n (s.rd (Reg.FLT_COUNT.WIN r)) l then s3.severe r x else s3.wr (Reg.FLT_RSTAT.STATE r) 1) else s3
  s4.reportFlt r x.stamp

/-- One raise is processed (R362). -/
def State.processRaise (s : State) (x : Raise) : State :=
  let s1 := s.count Reg.FLT_RAISECNT.N 1
  match s.recordOf x.src with
  | some r => s1.raiseIn r x
  | none =>
    let s2 := s1.count Reg.FLT_UNBCNT.N 1
    if s.flag Reg.FLT_CFG.UNBHOST then
      s2.notice { stamp := x.stamp, src := x.src, kind := x.kind, event := 0, record := 0xFFFF, inj := x.inj }
    else s2

/-! ### Delivery (R361) -/

/-- The count of the raises that a die dropped follows the kept ones (R361). -/
def State.deliverDropped (s : State) (d : Die) : State :=
  let l := s.link d
  if raisesIn l.up = 0 ∧ l.dropped ≠ 0 then (s.count Reg.FLT_LOST.DIE l.dropped).setLink d { l with dropped := 0 } else s

/-- The raises of die L that came before raise x, which arrives now, are processed: those of earlier ticks, and of this tick those with a lower stamp or source (R18, R361). -/
def State.raisesBefore (s : State) (x : Raise) : State :=
  let p := fun (y : Raise) => decide (y.stamp < s.now) || y.before x
  (s.flt.fromL.filter p).foldl State.processRaise { s with flt := { s.flt with fromL := s.flt.fromL.filter (fun y => !p y) } }

/-- A raise is processed after those that came before it. -/
def State.takeRaise (s : State) (x : Raise) : State := (s.raisesBefore x).processRaise x

/-- A raise of die d that is its oldest message is delivered and processed; one that arrives more than 400 ticks after its stamp is late (R16, R35, R361). -/
def State.raiseFromDie (s : State) (d : Die) : State :=
  if !s.linkCarries d then s
  else
    match (s.link d).up with
    | .raise x :: ms =>
      let s1 := s.setLink d { s.link d with up := ms }
      let s2 := if x.stamp + 400 < s.now then s1.linkFault d else s1
      (s2.takeRaise x).deliverDropped d
    | _ => s.deliverDropped d

/-- The oldest raise of die L is processed. -/
def State.raiseFromL (s : State) : State :=
  match s.flt.fromL with
  | [] => s
  | x :: xs => ({ s with flt := { s.flt with fromL := xs } } : State).processRaise x

/-- Raises of die L of earlier ticks, which the collector has taken by now (R361). -/
def State.raisesDue (s : State) : State :=
  let p := fun (y : Raise) => decide (y.stamp < s.now)
  (s.flt.fromL.filter p).foldl State.processRaise { s with flt := { s.flt with fromL := s.flt.fromL.filter (fun y => !p y) } }

/-- FAULT_RECOVERY (R365). -/
def execFaultRecovery (r : Nat) (s : State) : Res := .next (s.raisesDue.recoverAt r)

/-- FAULT_RAISE (R361, R362). -/
def execFaultRaise (p : Path) (s : State) : Res :=
  .next (match p with
    | .die d => s.raiseFromDie d
    | .dieL => s.raiseFromL
    | .host => s)

/-! ### Operations (R370 to R373) -/

/-- FAULT_CLEAR of record r (R370): after the raises and the recovery of earlier ticks, before the raises of this one. -/
def State.faultClearAt (s0 : State) (r : Nat) : State :=
  let s := s0.raisesDue.recoverAt r
  let s1 := ((s.wr (Reg.FLT_RSTAT.STATE r) 0).wr (Reg.FLT_RSTAT.RCNT r) 0).wr (Reg.FLT_RSTAT.NRET r) 0
  let s2 := ((s1.setFltRec r { s.fltRec r with stamps := [] }).fltMram r).reportFlt r s.now
  (s2.noticeIf r 2 { stamp := s.now, src := 0, kind := 0, event := 4, record := r, inj := false }).event 0x0F7F s.now r

/-- FLT_CTL_CLR (R370); an unused record has nothing to clear. -/
def execFltCtlClr (r : Nat) (s : State) : Res := .next (if s.started && s.fltBound r then s.faultClearAt r else s)

/-- FAULT_READ (R370). -/
def State.faultRead (s : State) (t : Nat) : State :=
  match s.opReady t 0x50 with
  | none => s
  | some o =>
    let r := o.fld 16 2
    let s0 := s.begin t
    if s.fltBound r then
      s0.complete t St.ok 0 (s.fltRec r).last
        (leBytes 8 (s.fltValue r) ++ leBytes 2 (s.rd (Reg.FLT_COUNT.N r)) ++ leBytes 2 (s.rd (Reg.FLT_RSTAT.NRET r)))
    else s0.complete t St.invalid

def execFaultRead (t : Nat) (s : State) : Res := .next (s.faultRead t)

/-- The 16 bytes of a notice (R368). -/
def Notice.bytes (n : Notice) : List Byte :=
  leBytes 8 n.stamp ++ leBytes 2 n.src ++ leBytes 1 n.kind ++ leBytes 1 n.event ++ leBytes 2 n.record ++ leBytes 1 (b2n n.inj) ++ [0#8]

/-- FAULT_NOTICES (R370). -/
def State.faultNotices (s : State) (t : Nat) : State :=
  match s.opReady t 0x51 with
  | none => s
  | some _ =>
    let got := s.flt.notices.take 2
    let rest := s.flt.notices.drop 2
    let s0 : State := { s.begin t with flt := { s.flt with notices := rest } }
    s0.complete t St.ok 0 0
      ((got.flatMap Notice.bytes ++ List.replicate 32 0#8).take 32 ++ leBytes 1 got.length ++ leBytes 2 rest.length
        ++ leBytes 2 (s.rd Reg.FLT_LOST.NOTICE))

def execFaultNotices (t : Nat) (s : State) : Res := .next (s.faultNotices t)

/-- FAULT_CLEAR (R370). -/
def State.faultClear (s : State) (t : Nat) : State :=
  match s.opReady t 0x52 with
  | none => s
  | some o =>
    let s0 := s.begin t
    if s.fltBound (o.fld 16 2) then (s0.faultClearAt (o.fld 16 2)).complete t St.ok 0 s.now else s0.complete t St.invalid

def execFaultClear (t : Nat) (s : State) : Res := .next (s.faultClear t)

/-- A kind that a rule uses (R360, R412, R429). -/
def kindUsed (k : Nat) : Bool :=
  (decide (1 ≤ k) && decide (k ≤ 0x1E)) || (decide (0x20 ≤ k) && decide (k ≤ 0x25)) || (decide (0x30 ≤ k) && decide (k ≤ 0x35))
    || (decide (0x40 ≤ k) && decide (k ≤ 0x45)) || (decide (0x50 ≤ k) && decide (k ≤ 0x53))

/-- A class that R14 defines. -/
def classDefined (src : Nat) : Bool := decide (1 ≤ src / 256) && decide (src / 256 ≤ 0x10)

/-- FAULT_INJECT (R372, R373): the raise is processed at this tick with its INJECTED flag, and the frame is an inject break. -/
def State.faultInject (s : State) (t : Nat) : State :=
  match s.opReady t 0x53 with
  | none => s
  | some o =>
    let src := o.fld 16 2
    let kind := o.fld 18 1
    let s0 := s.begin t
    if !classDefined src || !kindUsed kind then s0.complete t St.invalid
    else if !s.flag Reg.FLT_STAT.TEST then s0.complete t St.configMismatch
    else
      let s1 := s0.takeRaise { src := src, kind := kind, stamp := s.now, inj := true }
      let s2 := s1.record { code := raiseCode src kind, flags := 1, tick := s.now, p1 := src }
      (s2.breakNow 6).complete t St.ok 0 s.now

def execFaultInject (t : Nat) (s : State) : Res := .next (s.faultInject t)

/-! ### Starts and commits (R371, R377) -/

/-- A record as a start of die L leaves it (R371): QUIET without stamps, or LATCHED, with its RCNT. -/
def State.fltRestart (s : State) (r : Nat) : State :=
  let m := SMap.get (fun _ => (0, false)) s.flt.mram r
  ((s.setWord (Reg.FLT_RSTAT.STATE r).off 0#32).wr (Reg.FLT_RSTAT.RCNT r) m.1).wr (Reg.FLT_RSTAT.STATE r) (if m.2 then 3 else 0)

/-- A start of die L (R368, R371, R377). -/
def State.fltBoot (s : State) : State :=
  let s1 := ((s.wr Reg.FLT_RAISECNT.N 0).wr Reg.FLT_UNBCNT.N 0).setWord Reg.FLT_LOST.NOTICE.off 0#32
  (List.range 256).foldl (fun s r => s.fltRestart r) { s1 with flt := { s1.flt with recs := [], notices := [], fromL := [] } }

/-- A record whose words a new image changes (R371): QUIET, RCNT 0, KIND and SRC 0; its entry enters NEVER with the commit (R67). -/
def State.fltReset (s : State) (r : Nat) : State :=
  ((s.setWord (Reg.FLT_RSTAT.STATE r).off 0#32).setFltRec r {}).fltMram r

end Sys2Proof.Machine
end

