-- ==== Sys2Proof/Machine/HostCmd.lean ====
section
/-! DEFINITION. The host interface (R286 to R312): start and stop, the link, the doorbell page, acceptance of descriptors, moderation and MSI-X, and the operations on rings, functions and receive buffers. -/

namespace Sys2Proof.Machine

/-! ### Tags that functions hold (R305, R307) -/

/-- The optional tag `o`, gone where `p` holds of it. -/
def forgetOpt (p : Nat → Bool) (o : Option Nat) : Option Nat :=
  match o with
  | some t => if p t then none else some t
  | none => none

/-- A tag that must stay in place as a mark, no longer an operation's where `p` holds of it. -/
def forgetMark (p : Nat → Bool) (o : Option Nat) : Option Nat := o.map (fun t => if p t then noTag else t)

/-- Units no longer report the firmware clears of tags that `p` names; the clears act all the same. -/
def State.forgetClears (s : State) (p : Nat → Bool) : State :=
  let k := fun (l : List Nat) => l.filter (fun t => !p t)
  let s1 := (s.ch.map (fun x => x.1)).foldl (fun s u => s.setChan u { s.chan u with clearTags := k (s.chan u).clearTags }) s
  let s2 := (s.mu.map (fun x => x.1)).foldl (fun s u => s.setMotor u { s.motor u with clearTags := k (s.motor u).clearTags }) s1
  let s3 := (s.vl.map (fun x => x.1)).foldl (fun s u => s.setValve u { s.valve u with clearTags := k (s.valve u).clearTags }) s2
  let s4 := (s.vb.map (fun x => x.1)).foldl (fun s u => s.setBank u { s.bank u with clearTags := k (s.bank u).clearTags }) s3
  (s.ld.map (fun x => x.1)).foldl (fun s u => s.setSink u { s.sink u with clearTags := k (s.sink u).clearTags }) s4

/-- The clears, function resets and ring removals of the tags that `p` names go on without reporting. -/
def State.forgetUnits (s : State) (p : Nat → Bool) : State :=
  let s1 := s.forgetClears p
  let s2 := (List.range 12).foldl (fun s c => s.setCanC c { s.canC c with resetTag := forgetMark p (s.canC c).resetTag }) s1
  let s3 := (List.range 10).foldl (fun s n => s.setLinC n { s.linC n with resetTag := forgetMark p (s.linC n).resetTag }) s2
  (List.range 32).foldl (fun s q => s.setSq q { s.sq q with remTag := forgetMark p (s.sq q).remTag }) s3

/-- The updates, immediate words, service requests, commit, stalled operations and posted buffers of the tags that `p` names: they go on without reporting, or are gone. -/
def State.forgetQueues (s : State) (p : Nat → Bool) : State :=
  let u := fun (x : Upd) => { x with tag := forgetOpt p x.tag }
  let m := fun (x : DownMsg) => match x with
    | .immediate w t => DownMsg.immediate { w with tag := forgetOpt p w.tag } t
    | y => y
  let link := fun (l : DieLink) => { l with down := l.down.map m }
  { s with
    linkP0 := link s.linkP0, linkP1 := link s.linkP1, linkV := link s.linkV
    led := { s.led with fromHost := (s.led.fromHost.map u).filter (fun x => x.tag.isSome), intake := s.led.intake.map u, future := s.led.future.map u }
    rfx := { s.rfx with reqs := s.rfx.reqs.map (fun r => { r with tag := forgetOpt p r.tag }) }
    cry := { s.cry with resetTag := forgetMark p s.cry.resetTag }
    cfg := { s.cfg with op := s.cfg.op.map (fun o => { o with tag := forgetOpt p o.tag }) }
    pow := { s.pow with stalls := s.pow.stalls.filter (fun x => match x.2 with
      | .op t => !p t
      | .write _ _ _ => true
      | .clear _ => true
      | .read _ => true) }
    host := { s.host with rx := s.host.rx.filter (fun x => !p x.tag) } }

/-- What is on its way goes on without reporting to the tags that `p` names: updates in the intake (those not yet there are gone), immediate words, core service, the commit in SWAP, ring removals and function resets; stalled operations and posted buffers of such tags are gone. -/
def State.forgetTags (s : State) (p : Nat → Bool) : State := (s.forgetUnits p).forgetQueues p

/-! ### Stop (R307) and the link (R289) -/

/-- The host interface stops (R307): every ring is released, every tag is free, operations run to their functions' abort points without a word to host memory, posted buffers are dropped. -/
def State.hostStop (s : State) : State :=
  let s1 := (List.range 12).foldl (fun s c => s.canHostStop c) s
  let s2 := (List.range 10).foldl (fun s n => s.linHostStop n) s1
  let s3 := (s2.cryHostStop.accHostStop).forgetTags (fun _ => true)
  { s3.wr Reg.HOST_CTL.EN 0 with
    host := { s3.host with sqs := [], cqs := [], ops := [], rr := 31, turn := 0, fetchOut := 0, rx := [], heldCpl := [], heldMsix := [] } }

/-- PCIE_LINK_DOWN (R289, R307): the interface stops and fault 0x0A00 is raised; configuration space and MSI-X table return to their reset values. -/
def State.linkDown (s : State) : State :=
  if s.started && s.host.linkUp then
    let s1 := s.hostStop
    let s2 : State := { s1 with host := { s1.host with linkUp := false, bme := false, d3 := false, msix := [], enWait := none } }
    (s2.raiseFlag Reg.HOST_ERR.LINKDOWN).raiseL 0x0A00 0x18 s.now
  else s

def execPcieLinkDown (s : State) : Res := .next s.linkDown

/-! ### Start (R312) -/

/-- A ring geometry within R290: 4 to 12, the base aligned to the ring and to 4 KiB. -/
def ringOk (log2 base : Nat) : Bool := decide (4 ≤ log2) && decide (log2 ≤ 12) && decide (base % max (64 * 2 ^ log2) 4096 = 0)

/-- An MSI-X vector of a CQ: 0 to 31, or 0xFF for none. -/
def vectorOk (v : Nat) : Bool := decide (v < 32) || decide (v = 255)

/-- Every field of the HOST block is in range (R312). -/
def State.setupOk (s : State) : Bool :=
  decide (1 ≤ s.rd Reg.HOST_CTL.DBPER) && decide (s.rd Reg.HOST_CTL.DBPER ≤ 64) && decide (s.rd64 Reg.HOST_DBADDR.ADDR % 4096 = 0)
    && ringOk (s.rd Reg.HOST_RING0.SQ0LOG) (s.rd64 Reg.HOST_SQ0BASE.ADDR) && ringOk (s.rd Reg.HOST_RING0.CQ0LOG) (s.rd64 Reg.HOST_CQ0BASE.ADDR)
    && vectorOk (s.rd Reg.HOST_RING0.CQ0VEC) && decide (1 ≤ s.rd Reg.HOST_RING0.ICOUNT) && decide (1 ≤ s.rd Reg.HOST_DRAIN.TMO)

/-- The interface starts on the ring-0 registers, or reports a field out of range (R312); notices that were queued meanwhile signal vector 32 (R288, R368). -/
def State.hostStart (s : State) : State :=
  if !s.setupOk then s.hostErr Reg.HOST_ERR.SETUP
  else
    let sq : Sq := { st := .active, base := s.rd64 Reg.HOST_SQ0BASE.ADDR, log2 := s.rd Reg.HOST_RING0.SQ0LOG, cq := 0, weight := 4 }
    let cq : Cq := { active := true, base := s.rd64 Reg.HOST_CQ0BASE.ADDR, log2 := s.rd Reg.HOST_RING0.CQ0LOG, vec := s.rd Reg.HOST_RING0.CQ0VEC,
                     icount := s.rd Reg.HOST_RING0.ICOUNT, itime := s.rd Reg.HOST_RING0.ITIME }
    let s1 := ((s.raiseFlag Reg.HOST_CTL.EN).setSq 0 sq).setCq 0 cq
    if s1.flt.notices = [] then s1 else s1.msix 32

/-- A write of EN = 1 with its DBPER (R307, R312): while the link is down it waits for the link; while EN is 1 it only sets DBPER. -/
def State.hostEnable (s : State) (dbper : Nat) : State :=
  if !s.started then s
  else if !s.host.linkUp then { s with host := { s.host with enWait := some dbper } }
  else
    let s1 := s.wr Reg.HOST_CTL.DBPER dbper
    if s.flag Reg.HOST_CTL.EN then s1 else s1.hostStart

def execHostCtlEnSet (dbper : Nat) (s : State) : Res := .next (s.hostEnable dbper)

/-- HOST_CTL_EN_CLEAR (R307). -/
def State.hostDisable (s : State) (dbper : Nat) : State :=
  if !s.started then s
  else
    let s1 : State := { s.wr Reg.HOST_CTL.DBPER dbper with host := { s.host with enWait := none } }
    if s.flag Reg.HOST_CTL.EN then s1.hostStop else s1

def execHostCtlEnClear (dbper : Nat) (s : State) : Res := .next (s.hostDisable dbper)

/-- PCIE_LINK_UP (R307): an EN write made while the link was down takes effect. -/
def State.pcieUp (s : State) : State :=
  if s.started && !s.host.linkUp then
    let s1 : State := { s with host := { s.host with linkUp := true, enWait := none } }
    match s.host.enWait with
    | none => s1
    | some d => s1.hostEnable d
  else s

def execPcieLinkUp (s : State) : Res := .next s.pcieUp

/-! ### MSI-X and bus mastering (R288, R289, R299) -/

/-- MSIX_VECTOR_UNMASK (R288): a pending message is sent; it stays pending while the interface is stopped. -/
def State.msixUnmask (s : State) (v : Nat) : State :=
  if v < 33 ∧ s.host.linkUp then
    let e := SMap.get MsixVec.blank s.host.msix v
    let send := e.pending && s.hostUp
    let s1 : State := { s with host := { s.host with msix := SMap.set MsixVec.blank s.host.msix v { e with masked := false, pending := e.pending && !send } } }
    if send then s1.msix v else s1
  else s

def execMsixVectorUnmask (v : Nat) (s : State) : Res := .next (s.msixUnmask v)

/-- A held completion is written now. -/
def State.writeHeld (s : State) (c : Cpl) : State := (s.writeCpl c).releaseDrained c.sq

/-- Requests that were held back go out in their order: completions, then messages (R289). -/
def State.sendHeld (s : State) : State :=
  let s1 : State := { s with host := { s.host with heldCpl := [], heldMsix := [] } }
  let s2 := s.host.heldCpl.foldl State.writeHeld s1
  s.host.heldMsix.foldl (fun s v => s.msix v) s2

/-- BUS_MASTER_ENABLE_CHANGE (R289). -/
def State.busMasterChange (s : State) (bme d3 : Bool) : State :=
  if s.host.linkUp then
    let s1 : State := { s with host := { s.host with bme := bme, d3 := d3 } }
    if s1.busMaster then s1.sendHeld else s1
  else s

def execBusMasterEnableChange (bme d3 : Bool) (s : State) : Res := .next (s.busMasterChange bme d3)

/-- CQ_MODERATION_TIMER (R299). -/
def State.cqTimer (s : State) (q : Nat) : State :=
  let c := s.cq q
  if s.hostUp ∧ c.active ∧ c.itime ≠ 0 ∧ 0 < c.unsig ∧ c.vec ≠ 255 ∧ c.firstUnsig + c.itime * 200 ≤ s.now then
    (s.setCq q { c with unsig := 0 }).msix c.vec
  else s

def execCqModerationTimer (q : Nat) (s : State) : Res := .next (s.cqTimer q)

/-! ### The doorbell page (R291) -/

/-- DOORBELL_FETCH (R291): a read starts at a tick that is a multiple of DBPER µs. -/
def State.doorbellFetch (s : State) : State :=
  if s.hostUp ∧ s.busMaster ∧ s.rd Reg.HOST_CTL.DBPER ≠ 0 ∧ s.now % (s.rd Reg.HOST_CTL.DBPER * 200) = 0 then
    { s with host := { s.host with fetchOut := s.host.fetchOut + 1 } }
  else s

def execDoorbellFetch (s : State) : Res := .next s.doorbellFetch

/-- The TAIL word of SQ q (R291, R306): a word out of the rule puts the ring into ERROR. -/
def State.tailWord (s : State) (q w : Nat) : State :=
  let r := s.sq q
  if r.st = .absent ∨ r.err then s
  else if 65536 ≤ w ∨ (w + 65536 - r.consumed) % 65536 > 2 ^ r.log2 then s.ringError q
  else s.setSq q { r with tail := w }

/-- The HEAD word of CQ q (R291): a count beyond what the device has written is ignored. -/
def State.headWord (s : State) (q w : Nat) : State :=
  let c := s.cq q
  if c.active ∧ w < 65536 ∧ (c.produced + 65536 - w) % 65536 ≤ (c.produced + 65536 - c.head) % 65536 then s.setCq q { c with head := w }
  else s

/-- The doorbell page has been read: HEAD words, then TAIL words. -/
def State.doorbellPage (s : State) (b : List Byte) : State :=
  let s1 := (List.range 32).foldl (fun s q => s.headWord q (byteField b (0x80 + 4 * q) 4)) s
  (List.range 32).foldl (fun s q => s.tailWord q (byteField b (4 * q) 4)) s1

/-- A doorbell or descriptor read failed and is counted (R291, R312). -/
def State.fetchFailed (s : State) (x : ReadResult) : State := (s.readFailed x).count Reg.HOST_CNT1.FETCHERR 1

/-- DOORBELL_DATA (R291): a failed read is discarded. -/
def State.doorbellData (s : State) (x : ReadResult) : State :=
  if s.hostUp ∧ 0 < s.host.fetchOut then
    let s1 : State := { s with host := { s.host with fetchOut := s.host.fetchOut - 1 } }
    match readBytes x 256 with
    | some b => s1.doorbellPage b
    | none => s1.fetchFailed x
  else s

def execDoorbellData (x : ReadResult) (s : State) : Res := .next (s.doorbellData x)

/-! ### Descriptors (R293 to R295, R298, R306) -/

/-- The body bytes of an operation (R300 and the owning chapters), as ranges from-to; none for an unknown opcode. -/
def bodyRanges (op : Nat) : Option (List (Nat × Nat)) :=
  match op with
  | 0x00 => some []
  | 0x01 => some [(16, 21), (24, 31)]
  | 0x02 => some [(16, 17), (20, 21)]
  | 0x03 => some [(16, 17)]
  | 0x10 => some [(16, 18), (20, 20), (24, 27), (32, 39), (40, 49)]
  | 0x11 => some [(16, 18), (20, 20), (40, 49)]
  | 0x12 => some [(16, 18), (32, 35)]
  | 0x18 => some [(16, 17)]
  | 0x19 => some [(16, 17)]
  | 0x20 => some [(16, 18), (20, 31), (32, 63)]
  | 0x21 => some [(16, 17)]
  | 0x22 => some [(16, 16)]
  | 0x23 => some [(16, 17)]
  | 0x24 => some [(16, 17), (24, 31)]
  | 0x28 => some [(16, 17)]
  | 0x29 => some [(16, 16), (24, 31)]
  | 0x2C => some [(24, 33)]
  | 0x30 => some [(16, 49)]
  | 0x31 => some [(20, 31)]
  | 0x32 => some [(16, 22), (24, 55)]
  | 0x33 => some [(16, 16)]
  | 0x34 => some [(16, 16)]
  | 0x35 => some [(16, 16)]
  | 0x40 => some [(16, 18)]
  | 0x41 => some [(16, 17), (20, 23)]
  | 0x42 => some [(16, 16)]
  | 0x43 => some [(16, 17)]
  | 0x50 => some [(16, 17)]
  | 0x51 => some []
  | 0x52 => some [(16, 17)]
  | 0x53 => some [(16, 18)]
  | 0x58 => some [(16, 21), (24, 31)]
  | 0x59 => some [(16, 16), (20, 31)]
  | 0x5A => some []
  | 0x60 => some [(20, 35)]
  | 0x61 => some [(16, 16)]
  | 0x62 => some [(16, 16)]
  | 0x63 => some []
  | 0x64 => some [(20, 23)]
  | 0x65 => some [(16, 17)]
  | 0x66 => some [(16, 17), (24, 31)]
  | 0x67 => some []
  | 0x68 => some []
  | 0x70 => some [(16, 16)]
  | 0x71 => some []
  | 0x72 => some [(20, 23)]
  | _ => none

/-- A descriptor of a known opcode whose reserved bytes are 0 (R293, R294). -/
def descOk (d : List Byte) : Bool :=
  match bodyRanges (byteField d 0 1) with
  | none => false
  | some rs =>
    decide (byteField d 2 1 < 2) && decide (byteField d 3 5 = 0) &&
      ((List.range 48).all (fun i => rs.any (fun r => decide (r.1 ≤ 16 + i) && decide (16 + i ≤ r.2)) || decide (byteField d (16 + i) 1 = 0)))

/-- Operations of SQ q are in flight. -/
def State.sqBusy (s : State) (q : Nat) : Bool := s.host.ops.any (fun p => decide (p.2.sq = q))

/-- SQ q has been served: its turn counts down, or begins (R295). -/
def State.served (s : State) (q : Nat) : State :=
  let t := if q = s.host.rr ∧ s.host.turn > 0 then s.host.turn - 1 else (s.sq q).weight - 1
  { s with host := { s.host with rr := q, turn := t } }

/-- The turn passes on without a descriptor. -/
def State.turnPasses (s : State) (q : Nat) : State := { s with host := { s.host with rr := q, turn := 0 } }

/-- The posted buffers of a ring complete unwritten in posting order (R305). -/
def State.returnRingPosts (s : State) (q : Nat) : State :=
  s.returnPosts (s.host.rx.filter (fun p => match s.op p.tag with
    | some o => decide (o.sq = q)
    | none => false))

/-- A draining ring has consumed up to FINAL: its posted buffers come back, and with nothing left it is released (R305). -/
def State.drainCheck (s : State) (q : Nat) : State :=
  if (s.sq q).st = .draining ∧ (s.sq q).consumed = (s.sq q).final then (s.returnRingPosts q).releaseDrained q else s

/-- A descriptor is consumed: counted, with a slot of its CQ reserved (R298). -/
def State.consume (s : State) (q : Nat) : State :=
  let r := s.sq q
  let s1 := s.setSq q { r with consumed := (r.consumed + 1) % 65536, fails := 0 }
  s1.setCq r.cq { s1.cq r.cq with reserved := (s1.cq r.cq).reserved + 1 }

/-- A consumed descriptor is refused, or accepted with its tag in flight; one that is malformed completes at once (R294). -/
def State.acceptDesc (s : State) (q : Nat) (d : List Byte) : State :=
  let t := byteField d 1 1
  match s.op t with
  | some _ =>
    (s.count Reg.HOST_CNT1.TAGBUSY 1).issue
      { sq := q, tag := t, opcode := byteField d 0 1, ctx := byteField d 8 8, status := St.tagBusy, refused := true }
  | none =>
    let s1 : State := { (s.count Reg.HOST_CNT.ACCEPT 1).putOp t { sq := q, desc := d, order := s.host.seq, tick := s.now } with
                        host := { ((s.count Reg.HOST_CNT.ACCEPT 1).putOp t { sq := q, desc := d, order := s.host.seq, tick := s.now }).host with seq := s.host.seq + 1 } }
    if descOk d then s1 else s1.complete t St.invalid

/-- A failed read of the descriptors of ring q: the third in a row puts the ring into ERROR (R306). -/
def State.descFailed (s : State) (q : Nat) (x : ReadResult) : State :=
  let s1 := ((s.fetchFailed x).setSq q { s.sq q with fails := (s.sq q).fails + 1 }).turnPasses q
  if 2 ≤ (s.sq q).fails then s1.ringError q else s1

/-- DESCRIPTOR_ACCEPT (R294, R295): the next descriptor of the ring to serve arrives, not after the last boundary (R427).  One with FENCE waits for the earlier ones of its ring. -/
def State.descriptor (s : State) (q : Nat) (x : ReadResult) : State :=
  if s.hostUp ∧ s.busMaster ∧ s.pow.lastBound = none ∧ s.nextSq = some q then
    match readBytes x 64 with
    | none => s.descFailed q x
    | some d =>
      if byteField d 2 1 % 2 = 1 ∧ s.sqBusy q then s.turnPasses q
      else ((((s.served q).consume q).acceptDesc q d).drainCheck q)
  else s

def execDescriptorAccept (q : Nat) (x : ReadResult) (s : State) : Res := .next (s.descriptor q x)

/-! ### Ring operations (R300, R304, R305) -/

/-- NOP (R300). -/
def State.nop (s : State) (t : Nat) : State :=
  match s.opReady t 0x00 with
  | none => s
  | some o => s.complete t St.ok 0 o.tick

def execNop (t : Nat) (s : State) : Res := .next (s.nop t)

/-- RING_ADD of a submission ring (R304). -/
def State.addSq (s : State) (t q : Nat) (o : HostOp) : State :=
  if !(ringOk (o.fld 18 1) (o.fld 24 8)) || decide (o.fld 20 1 = 0) || decide (16 < o.fld 20 1) || decide (32 ≤ o.fld 19 1)
      || !(s.cq (o.fld 19 1)).active || decide (o.fld 21 1 ≠ 0) then s.complete t St.invalid
  else if (s.sq q).st ≠ .absent then s.complete t St.retryLater
  else (s.setSq q { st := .active, base := o.fld 24 8, log2 := o.fld 18 1, cq := o.fld 19 1, weight := o.fld 20 1 }).complete t St.ok 0 o.tick

/-- RING_ADD of a completion ring (R304). -/
def State.addCq (s : State) (t q : Nat) (o : HostOp) : State :=
  if !(ringOk (o.fld 18 1) (o.fld 24 8)) || !(vectorOk (o.fld 19 1)) || decide (o.fld 20 1 = 0) then s.complete t St.invalid
  else if (s.cq q).active then s.complete t St.retryLater
  else (s.setCq q { active := true, base := o.fld 24 8, log2 := o.fld 18 1, vec := o.fld 19 1, icount := o.fld 20 1, itime := o.fld 21 1 }).complete t St.ok 0 o.tick

/-- RING_ADD (R304). -/
def State.ringAdd (s : State) (t : Nat) : State :=
  match s.opReady t 0x01 with
  | none => s
  | some o =>
    let q := o.fld 17 1
    if q = 0 ∨ 32 ≤ q ∨ 2 ≤ o.fld 16 1 then s.complete t St.invalid
    else if o.fld 16 1 = 0 then s.addSq t q o
    else s.addCq t q o

def execRingAdd (t : Nat) (s : State) : Res := .next (s.ringAdd t)

/-- Removal of a submission ring begins (R305). -/
def State.removeSq (s : State) (t q : Nat) (o : HostOp) : State :=
  let r := s.sq q
  let final := o.fld 20 2
  if r.st ≠ .active ∨ q = o.sq ∨ (final + 65536 - r.consumed) % 65536 > 2 ^ r.log2 then s.complete t St.invalid
  else ((s.begin t).setSq q { r with st := .draining, final := final, remTag := some t, remTick := o.tick }).drainCheck q

/-- Removal of a completion ring (R305). -/
def State.removeCq (s : State) (t q : Nat) : State :=
  if !(s.cq q).active then s.complete t St.invalid
  else if (List.range 32).any (fun k => decide ((s.sq k).st ≠ .absent) && decide ((s.sq k).cq = q)) then s.complete t St.retryLater
  else (s.setCq q {}).complete t St.ok

/-- RING_REMOVE (R305). -/
def State.ringRemove (s : State) (t : Nat) : State :=
  match s.opReady t 0x02 with
  | none => s
  | some o =>
    let q := o.fld 17 1
    if q = 0 ∨ 32 ≤ q ∨ 2 ≤ o.fld 16 1 then s.complete t St.invalid
    else if o.fld 16 1 = 0 then s.removeSq t q o
    else if o.fld 20 2 ≠ 0 then s.complete t St.invalid
    else s.removeCq t q

def execRingRemove (t : Nat) (s : State) : Res := .next (s.ringRemove t)

/-- A CAN request leaves its slot at the drain limit; one past its start-of-frame stays and ends under R252. -/
def State.drainCan (s : State) (t c : Nat) : State :=
  match (s.canC c).slotOf t with
  | none => s.complete t St.aborted
  | some i => if (s.canC c).cur = some i then (s.canCancelTag c t).2 else s.canEnd c i 9 0

/-- A LIN request ends at the drain limit; a diagnostic frame in progress finishes first. -/
def State.drainLin (s : State) (t n : Nat) : State :=
  let x := s.linC n
  if x.diagOut = some t then s
  else
    let keep := fun (r : Nat × Option Nat) => decide (r.2 ≠ some t)
    (s.setLinC n { x with diag := x.diag.filter (fun d => decide (d.1 ≠ t)), req := x.req.filter keep }).complete t St.aborted

/-- An operation still in flight at the drain limit ends at its function's abort point (R305); a commit that is in SWAP is past its last one. -/
def State.drainOp (s : State) (t : Nat) (o : HostOp) : State :=
  let f := o.fld 16 1
  if !o.begun then s.complete t St.aborted
  else if o.opcode = 0x20 then s.drainCan t f
  else if o.opcode = 0x28 ∨ o.opcode = 0x29 then s.drainLin t f
  else if o.opcode = 0x61 ∨ o.opcode = 0x62 then s
  else if 0x30 ≤ o.opcode ∧ o.opcode < 0x40 then
    let r := s.cryDropTag t
    r.2.cryRefuse (some t) St.aborted 9 r.1
  else if 0x40 ≤ o.opcode ∧ o.opcode < 0x50 then s.accDrain t
  else (s.forgetTags (fun k => decide (k = t))).complete t St.aborted

/-- The operations in flight of ring q in the order of their acceptance. -/
def State.opsOf (s : State) (q : Nat) : List (Nat × HostOp) :=
  sortBy (fun a b => decide (a.2.order ≤ b.2.order)) (s.host.ops.filter (fun p => decide (p.2.sq = q)))

/-- RING_DRAIN_TIMEOUT (R305): TMO ms after the acceptance of the removal. -/
def State.drainTimeout (s : State) (q : Nat) : State :=
  let r := s.sq q
  if s.hostUp ∧ r.st = .draining ∧ !r.drained ∧ r.remTick + s.rd Reg.HOST_DRAIN.TMO * 200000 ≤ s.now then
    (((s.opsOf q).foldl (fun s p => s.drainOp p.1 p.2) (s.setSq q { r with drained := true }))).releaseDrained q
  else s

def execRingDrainTimeout (q : Nat) (s : State) : Res := .next (s.drainTimeout q)

/-! ### Functions and receive buffers (R303, R308) -/

/-- FUNC_RESET (R308). -/
def State.funcReset (s : State) (t : Nat) : State :=
  match s.opReady t 0x03 with
  | none => s
  | some o =>
    let f := o.fld 16 2
    let i := f % 256
    let s1 := s.begin t
    if f / 256 = 7 ∧ i < 12 then s1.canDisable i (some t)
    else if f / 256 = 8 ∧ i < 10 then s1.linDisable i (some t)
    else if f / 256 = 9 ∧ i < 4 then
      (if s.flag (Reg.ETH_PCFG.ENABLE i) then (s1.ethPortReset i).complete t St.ok else s1.complete t St.configMismatch)
    else if f = 0x0B00 then s1.cryFuncReset t
    else if f = 0x0C00 then s1.accFuncReset t
    else s1.complete t St.invalid

def execFuncReset (t : Nat) (s : State) : Res := .next (s.funcReset t)

/-- A unit that a receive buffer can be posted for, and whether it is enabled (R303): a CAN controller, a commander LIN channel, the internal Ethernet port. -/
def State.rxUnit (s : State) (kind unit : Nat) : Option Bool :=
  match kind with
  | 0 => if unit < 12 then some (decide (s.canSt unit ≠ 0)) else none
  | 1 => if unit < 10 then some (decide (s.linSt unit ≠ 0) && s.linCommander unit) else none
  | 2 => some (s.flag (Reg.ETH_PCFG.ENABLE 4))
  | _ => none

/-- RX_POST (R303); on a ring whose removal has consumed its last descriptor it comes back at once (R305). -/
def State.rxPost (s : State) (t : Nat) : State :=
  match s.opReady t 0x24 with
  | none => s
  | some o =>
    let k := o.fld 16 1
    let u := if k = 2 then 4 else o.fld 17 1
    match s.rxUnit k u with
    | none => s.complete t St.invalid
    | some false => s.complete t St.configMismatch
    | some true =>
      let s1 := s.begin t
      ({ s1 with host := { s1.host with rx := s1.host.rx ++ [{ tag := t, kind := k, unit := u, addr := o.fld 24 8 }] } } : State).drainCheck o.sq

def execRxPost (t : Nat) (s : State) : Res := .next (s.rxPost t)

end Sys2Proof.Machine
end

