-- ==== Sys2Proof/Machine/LedgerPath.lean ====
section
/-! DEFINITION. The paths into and out of the ledger: the intake (R35, R53, R54), expiry (R52), host writes (R41, R50, R301), host reads (R56 to R58), and the diagnostic latch (R68). -/

namespace Sys2Proof.Machine

/-! ### The intake (R54) -/

/-- An update takes a place in the intake. -/
def State.enterIntake (s : State) (u : Upd) : State :=
  let s1 : State := { s with led := { s.led with intake := s.led.intake ++ [u] } }
  s1.wr Reg.LEDG_INTAKE.PEAK (max (s.rd Reg.LEDG_INTAKE.PEAK) s1.led.intake.length)

/-- The intake is full: the path holds its update (R54). -/
def State.intakeFull (s : State) : Bool := decide (4096 ≤ s.led.intake.length)

/-- An update of die d arrives, where it is the oldest message on a link that carries messages (R16, R24); more than 400 ticks after its stamp it is a late message of the link (R35). -/
def State.arriveDie (s : State) (d : Die) : State :=
  match (s.link d).up with
  | .update u :: us =>
    if !s.linkCarries d then s
    else if s.intakeFull then s.raiseFlag Reg.LEDG_STAT.FULL
    else
      let late := decide (u.stamp + 400 < s.now)
      let s1 := s.setLink d { s.link d with up := us }
      (if late then s1.linkFault d else s1).enterIntake { u with late := late }
  | _ => s

/-- An update of a producer on die L arrives. -/
def State.arriveL (s : State) : State :=
  match s.led.fromL with
  | [] => s
  | u :: us =>
    if s.intakeFull then s.raiseFlag Reg.LEDG_STAT.FULL
    else ({ s with led := { s.led with fromL := us } } : State).enterIntake u

/-- The frames from the current one to frame TARGETF, modulo 2^32 (R11). -/
def State.framesAhead (s : State) (f : Nat) : Nat := (f + 2 ^ 32 - s.rd Reg.TIME_FRAME.F) % 2 ^ 32

/-- The stamp that a targeted write takes on its arrival at the ledger (R41, R301): B(target) - 1, or the status it completes with.  Before frames run no target can be reached. -/
def State.targetStamp (s : State) (f : Nat) : Nat ⊕ Nat :=
  let n := s.framesAhead f
  if !s.tb.framesOn then .inr St.retryLater
  else if n < 2 ^ 31 ∧ 1024 < n then .inr St.invalid
  else if 2 ^ 31 ≤ n ∨ s.bound + n * s.period ≤ s.now then .inr St.retryLater
  else .inl (s.bound + n * s.period - 1)

/-- A host write arrives at the ledger (R41, R301): an untargeted one is stamped now. -/
def State.arriveHost (s : State) : State :=
  match s.led.fromHost with
  | [] => s
  | u :: us =>
    if s.intakeFull then s.raiseFlag Reg.LEDG_STAT.FULL
    else
      let s1 : State := { s with led := { s.led with fromHost := us } }
      match u.tag.bind s.op with
      | none => s1
      | some o =>
        if u.targeted.isNone then s1.enterIntake { u with stamp := s.now }
        else
          match s.targetStamp (o.fld 24 4) with
          | .inr st => s1.completeOpt u.tag st
          | .inl b => s1.enterIntake { u with stamp := b }

/-- LEDGER_UPDATE_ARRIVAL (R54). -/
def execLedgerUpdateArrival (p : Path) (s : State) : Res :=
  .next (match p with
    | .die d => s.arriveDie d
    | .dieL => s.arriveL
    | .host => s.arriveHost)

/-- An update that came to the intake in time and is late now was delayed there (R54). -/
def State.intakeLate (s : State) (u : Upd) : State :=
  if s.lateStamp u.stamp && !u.late then (s.raiseFlag Reg.LEDG_STAT.LATE).raiseL 0x0E15 0x33 s.now else s

/-- What follows a commit: a host write completes with its stamp, UCOUNT and whether it was superseded (R300), and a door entry may end the session (R349). -/
def State.committed (s : State) (u : Upd) (accepted : Bool) : State :=
  let s1 := s.completeOpt u.tag St.ok 0 u.stamp (leBytes 4 (s.live u.idx).ucount ++ [BitVec.ofNat 8 (b2n (!accepted))])
  if accepted ∧ u.kind ≠ .invalid then s1.doorUpdate u.idx u.value u.stamp else s1

/-- LEDGER_INTAKE_COMMIT (R53, R54): at most one update in a tick; an update whose entry is no longer defined, or no longer fed by its producer's class, has no effect (R50).  One that waited while an activation changed its entry's record is committed under the new record (DESIGN CHOICE, log entry 8). -/
def State.intakeCommit (s : State) : State :=
  match s.led.intake with
  | [] => s
  | u :: us =>
    if s.led.commitAt = s.now then s
    else
      let s1 : State := { s with led := { s.led with intake := us, commitAt := s.now } }
      match s1.attr u.idx with
      | none => s1.completeOpt u.tag St.invalid
      | some a =>
        if a.owner ≠ u.own then s1.completeOpt u.tag St.configMismatch
        else
          let won := u.key.gt (s1.live u.idx).key
          ((s1.intakeLate u).commit u).committed u won

def execLedgerIntakeCommit (s : State) : Res := .next s.intakeCommit

/-- ENTRY_EXPIRY (R52). -/
def execEntryExpiry (idx : Nat) (s : State) : Res := .next (s.expire idx)

/-! ### Host writes (R50, R59, R301) -/

/-- Ledger operations go to the ledger in the order of their acceptance (R295). -/
def State.ledgerTurn (s : State) (o : HostOp) : Bool :=
  s.host.ops.all (fun p => p.2.begun || decide (o.order ≤ p.2.order) || (decide (p.2.opcode ≠ 0x10) && decide (p.2.opcode ≠ 0x11)))

/-- A host write that passed its checks is on its way to the ledger (R41, R48). -/
def State.sendHost (s : State) (t : Nat) (o : HostOp) (bytes : List Byte) : State :=
  let u : Upd := { idx := o.fld 16 3, value := BitVec.ofNat 64 (o.fld 32 8), stamp := 0, src := 0x1100 + o.sq, own := .host,
                   targeted := if bitOf (o.fld 20 1) 0 then some (o.sq, o.order) else none, bytes := bytes, tag := some t }
  let s1 := s.begin t
  { s1 with led := { s1.led with fromHost := s1.led.fromHost ++ [u] } }

/-- The value of a host write fits the entry (R50, R301): WIDTH and KIND, or for a blob entry VALUE 0 and LEN within the record. -/
def hostValueOk (a : Attr) (o : HostOp) : Bool :=
  if a.kind = 3 then decide (o.fld 32 8 = 0) && decide (1 ≤ o.fld 48 2) && decide (o.fld 48 2 ≤ a.bloblen * 8)
  else valueFits a (BitVec.ofNat 64 (o.fld 32 8))

/-- LEDGER_WRITE (R50, R301), in the precedence of R12. -/
def State.ledgerWrite (s : State) (t : Nat) (x : ReadResult) : State :=
  match s.opReady t 0x10 with
  | none => s
  | some o =>
    if !s.ledgerTurn o then s
    else
      match s.attr (o.fld 16 3) with
      | none => s.complete t St.invalid
      | some a =>
        if !hostValueOk a o then s.complete t St.invalid
        else if a.owner ≠ .host then s.complete t St.configMismatch
        else if a.kind = 3 then
          (match readBytes x (o.fld 48 2) with
           | none => s.dmaError t x
           | some b => s.sendHost t o b)
        else s.sendHost t o []

def execLedgerWrite (t : Nat) (x : ReadResult) (s : State) : Res := .next (s.ledgerWrite t x)

/-! ### Host reads (R56 to R58, R301) -/

/-- A read is served from entry e at tick k with frame number f: 32 bytes of the entry, F, and the bytes of a blob copied. -/
def State.serveRead (s : State) (t : Nat) (o : HostOp) (a : Attr) (e : Entry) (k f : Nat) : State :=
  let n := if a.kind = 3 then min e.bytes.length (o.fld 48 2) else 0
  let st := if e.stateAt k = .fresh then St.ok else St.stale
  s.complete t st 0 k (entryBytes a e k ++ leBytes 4 f ++ leBytes 2 n) (if n = 0 then [] else [(o.fld 40 8, e.bytes.take n)])

/-- A SNAP read is served from the sealed snapshot (R58). -/
def State.serveSnap (s : State) (t : Nat) (o : HostOp) (a : Attr) : State :=
  s.serveRead t o a (s.snap (o.fld 16 3)) s.led.snapTick s.led.snapFrame

/-- LEDGER_READ (R58): once every earlier write has reached the ledger; a SNAP read before the seal of the frame waits for it, and one before the first frame is served from the empty snapshot with evaluation tick 0 (DESIGN CHOICE, log entry 9). -/
def State.ledgerRead (s : State) (t : Nat) : State :=
  match s.opReady t 0x11 with
  | none => s
  | some o =>
    if !s.ledgerTurn o || decide (s.led.fromHost ≠ []) then s
    else
      match s.attr (o.fld 16 3) with
      | none => s.complete t St.invalid
      | some a =>
        if bitOf (o.fld 20 1) 0 then
          (if s.tb.framesOn ∧ !s.tb.sealed then s.begin t else s.serveSnap t o a)
        else
          let s1 := s.expire (o.fld 16 3)
          s1.serveRead t o a (s1.live (o.fld 16 3)) s.now (s.rd Reg.TIME_FRAME.F)

def execLedgerRead (t : Nat) (s : State) : Res := .next (s.ledgerRead t)

/-- SNAP_READ_AT_SEAL (R58): a read that waited is served from the snapshot sealed meanwhile; an entry a commit removed meanwhile is undefined. -/
def State.snapRead (s : State) (t : Nat) : State :=
  match s.op t with
  | none => s
  | some o =>
    if o.opcode = 0x11 ∧ o.begun ∧ s.tb.sealed then
      (match s.attr (o.fld 16 3) with
       | none => s.complete t St.invalid
       | some a => s.serveSnap t o a)
    else s

def execSnapReadAtSeal (t : Nat) (s : State) : Res := .next (s.snapRead t)

/-! ### Offending accesses (R471) and the diagnostic latch (R68) -/

/-- An offending access of kind k (1 SIZE, 2 UNMAPPED, 3 LOCKED) at an offset: the first one that finds every bit clear is captured (R8, R471). -/
def State.accErr (s : State) (off k : Nat) : State :=
  let s1 := if s.rd ⟨Reg.SYS_ACCERR.SIZE.off, 0, 3⟩ = 0 then (s.wr Reg.SYS_ACCADDR.OFS (off / 4 * 4)).wr Reg.SYS_ACCADDR.KIND k else s
  s1.raiseFlag ⟨Reg.SYS_ACCERR.SIZE.off, k - 1, 1⟩

/-- LEDGER_PEEKIDX write (R68): the entry is latched as a live read of this tick. -/
def State.peek (s : State) (v : W32) : State :=
  let i := v.toNat % 2 ^ 17
  let s1 := (s.wr Reg.LEDG_PEEKIDX.IDX i).wr64 Reg.LEDG_PEEKT.T s.now
  let put := fun (s : State) (b : List Byte) =>
    (List.range 8).foldl (fun s k => s.setWord (Reg.LEDG_PEEK0.W.off + 4 * k) (BitVec.ofNat 32 (byteField b (4 * k) 4))) s
  match s.attr i with
  | none => put (s1.accErr Reg.LEDG_PEEKIDX.IDX.off 2) []
  | some a =>
    let s2 := s1.expire i
    put s2 (entryBytes a (s2.live i) s.now)

def execLedgPeekidxWrite (value : W32) (s : State) : Res := .next (if s.started then s.peek value else s)

end Sys2Proof.Machine
end

