-- ==== Sys2Proof/Machine/Degrade.lean ====
section
/-! DEFINITION. The commands that take the time base into DEGRADED and out of it (R29 to R31), with what the buses and the access engine do then (R258, R259, R274, R282, R353). -/

namespace Sys2Proof.Machine

/-- What follows a change of the time base from state `was`. -/
def State.timeFollow (s : State) (was : TbSt) : State :=
  let s1 := s.busesFollow was
  if s.tbSt = .degraded ∧ was ≠ .degraded then s1.accDegraded else s1

/-- CRYSTAL_FAIL (R30, R31). -/
def execCrystalFail (s : State) : Res := .next (s.crystalFail.timeFollow s.tbSt)

/-- STARTING_TIMEOUT (R29). -/
def execStartingTimeout (s : State) : Res := .next (s.startingTimeout.timeFollow s.tbSt)

/-- DEGRADED_RETURN (R31). -/
def execDegradedReturn (s : State) : Res := .next (s.degradedReturn.timeFollow s.tbSt)

end Sys2Proof.Machine
end

