-- ==== Sys2Proof/Machine/Supply.lean ====
section
/-! DEFINITION. Abnormal supply of a die (R435 to R438): entry into and exit from UV, OV and GNDSHIFT, and what each unit of the die does then. -/

namespace Sys2Proof.Machine

/-! ### What the units do (R437, R438) -/

/-- The tick of the tenth of a run of samples (R435). -/
def State.tenth (s : State) (d : Die) (run : Nat) : Nat := (s.ana d).lastSample - (run - 10) * 200

/-- The switch of channel u is held off from tick t (R438). -/
def State.holdOff (s : State) (u t : Nat) : State :=
  (s.setChan u { s.chan u with heldOff := true, heldSince := t }).gate u t

/-- A motor unit at the entry of its die into UV or GNDSHIFT (R437): what moves or settles ends BLOCKED in IDLE with POS uncertain; a word that waited for a reversal is then refused. -/
def State.motorHeldOff (s : State) (m t : Nat) : State :=
  if busyState (s.mSt m) then
    (((s.endMotions m MRes.blocked t).unsure m).mEnter m .idle t).pinchLeft m t
  else s

/-- A motor unit at the entry of its die into OV (R437): a motion in RUN ends BLOCKED into SETTLE, one that waits in SETTLE ends BLOCKED, and PINCH completes. -/
def State.motorOv (s : State) (m t : Nat) : State :=
  match s.mSt m with
  | .run => s.endRun m MRes.blocked t
  | .settle => s.endMotions m MRes.blocked t
  | _ => s

/-- The units of a die when it enters UV or GNDSHIFT. -/
def State.unitsHeldOff (s : State) (d : Die) (t : Nat) : State :=
  match d with
  | .v => (s.valvesHeldOff t).accSupply
  | _ => ((motorsOf d).filter (fun m => s.mEnabled m)).foldl (fun s m => s.motorHeldOff m t)
           (((chansOf d).filter (fun u => s.chEnabled u)).foldl (fun s u => s.holdOff u t) s)

/-- The units of a die when it enters OV. -/
def State.unitsOv (s : State) (d : Die) (t : Nat) : State :=
  match d with
  | .v => (s.valvesHeldOff t).accSupply
  | _ => ((motorsOf d).filter (fun m => s.mEnabled m)).foldl (fun s m => s.motorOv m t) s

/-- Channel u resumes its applied command at tick t, the hold-off having ended at e (R438): a lamp that was held off for 10 ms or more has a new inrush window. -/
def State.resume (s : State) (u e t : Nat) : State :=
  let c := s.chan u
  let s1 := s.setChan u { c with heldOff := false }
  if s.flag (Reg.CH_CFG.LAMP u) && decide (c.heldSince + 2000000 ≤ e) then (s1.openWindow u t).enter u .inrush t
  else (s1.gate u t).reportChan u t

/-- The conducting channels of a list resume in order, 4 ticks apart from tick t on; the others are free of the hold-off (R438). -/
def State.resumeAll (s : State) (e : Nat) : List Nat → Nat → State
  | [], _ => s
  | u :: us, t =>
    if s.chConducts u then (s.resume u e t).resumeAll e us (t + 4)
    else (s.setChan u { s.chan u with heldOff := false }).resumeAll e us t

/-! ### Entries and exits (R435, R436) -/

/-- The die enters UV or GNDSHIFT at tick t: the entry counts, and for UV its lowest sample starts anew (R436). -/
def State.enterHeld (s : State) (d : Die) (st : SupSt) (t : Nat) : State :=
  let x := (s.ana d).sup
  let s1 := s.setSup d { x with entriesUv := satAdd 8 x.entriesUv 1, lowest := if st = .uv then min 255 (x.last / 10) else x.lowest }
  let s2 := s1.supEnter d st t
  if holdsOff x.st then s2 else s2.unitsHeldOff d t

/-- The die enters OV at tick t. -/
def State.enterOv (s : State) (d : Die) (t : Nat) : State :=
  let x := (s.ana d).sup
  ((s.setSup d { x with entriesOv := satAdd 8 x.entriesOv 1 }).supEnter d .ov t).unitsOv d t

/-- The switches of die d are free again at tick t (R437, R438). -/
def State.release (s : State) (d : Die) (t : Nat) : State :=
  if d = .v then s.boostFollow t else s.resumeAll t ((chansOf d).filter (fun u => s.chEnabled u)) t

/-- The die leaves UV, OV or GNDSHIFT at tick t and takes the state that the table gives for that tick (R435). -/
def State.leaveSup (s : State) (d : Die) (t : Nat) : State :=
  let x := (s.ana d).sup
  let was := holdsOff x.st
  if 10 ≤ x.gsRun then s.enterHeld d .gndshift t
  else if 10 ≤ x.uvRun then s.enterHeld d .uv t
  else if 10 ≤ x.ovRun then
    let s1 := s.enterOv d t
    if was ∧ d ≠ .v then s1.release d t else s1
  else
    let s1 := s.supEnter d (byVf (s.ana d).vf) t
    if was ∨ d = .v then s1.release d t else s1

/-- GNDSHIFT_ENTRY (R435): ten samples of ground shift above 0.8 V; the highest state of the table. -/
def execGndshiftEntry (d : Die) (s : State) : Res :=
  let a := s.ana d
  .next (if a.ready && decide (a.sup.st ≠ .gndshift) && decide (10 ≤ a.sup.gsRun) then s.enterHeld d .gndshift (s.tenth d a.sup.gsRun) else s)

/-- SUPPLY_UV_ENTRY (R435): ten samples below 4.0 V. -/
def execSupplyUvEntry (d : Die) (s : State) : Res :=
  let a := s.ana d
  .next (if a.ready && !holdsOff a.sup.st && decide (10 ≤ a.sup.uvRun) then s.enterHeld d .uv (s.tenth d a.sup.uvRun) else s)

/-- SUPPLY_OV_ENTRY (R435): ten samples above 40.0 V. -/
def execSupplyOvEntry (d : Die) (s : State) : Res :=
  let a := s.ana d
  .next (if a.ready && !holdsOff a.sup.st && decide (a.sup.st ≠ .ov) && decide (10 ≤ a.sup.ovRun) then s.enterOv d (s.tenth d a.sup.ovRun) else s)

/-- An exit condition that has held since `since` for 200,000 ticks ends the state (R435). -/
def State.supplyExit (s : State) (d : Die) (st : SupSt) (since : Option Nat) : State :=
  match since with
  | some k => if (s.ana d).ready && decide ((s.ana d).sup.st = st) && decide (k + 200000 ≤ s.dieNow d) then s.leaveSup d (k + 200000) else s
  | none => s

/-- SUPPLY_UV_EXIT, SUPPLY_OV_EXIT and GNDSHIFT_EXIT (R435, R438). -/
def execSupplyUvExit (d : Die) (s : State) : Res := .next (s.supplyExit d .uv (s.ana d).sup.uvOk)
def execSupplyOvExit (d : Die) (s : State) : Res := .next (s.supplyExit d .ov (s.ana d).sup.ovOk)
def execGndshiftExit (d : Die) (s : State) : Res := .next (s.supplyExit d .gndshift (s.ana d).sup.gsOk)

end Sys2Proof.Machine
end

