-- ==== Sys2Proof/Machine/Params.lean ====
section
/-! DEFINITION. What parameters do when they are taken: the RWL fields of a die and of die L (R396, R400), and what a new image does to the units of a die (R92, R111, R140, R166, R182, R192) and to the entries of the ledger (R67). -/

namespace Sys2Proof.Machine

/-! ### RWL fields (R7, R396) -/

/-- The bits of a word that are RWL fields. -/
def rwlMask (off : Nat) : W32 :=
  match regRow off with
  | some r => BitVec.ofNat 32 r.rwl
  | none => 0#32

/-- A word whose RWL fields come from `new` and whose other bits from `old`. -/
def mixRwl (off : Nat) (old new : W32) : W32 := (old &&& ~~~(rwlMask off)) ||| (new &&& rwlMask off)

/-- The die whose unit a register word belongs to; none for die L and for what all power dies share (R15, R473). -/
def regDie (off : Nat) : Option Die :=
  if 0x08000 ≤ off ∧ off < 0x08C00 then some (chanDie ((off - 0x08000) / 64))
  else if 0x09000 ≤ off ∧ off < 0x09400 then some (chanDie (48 + (off - 0x09000) / 64))
  else if 0x09800 ≤ off ∧ off < 0x09880 then some (chanDie (48 + (off - 0x09800) / 4 % 16))
  else if 0x0A000 ≤ off ∧ off < 0x0A380 then some (motorDie ((off - 0x0A000) / 64))
  else if 0x0B000 ≤ off ∧ off < 0x0D000 then some .v
  else if 0x0D000 ≤ off ∧ off < 0x0DA00 then some (inputDie ((off - 0x0D000) / 16))
  else if 0x0E000 ≤ off ∧ off < 0x0E500 then some (inputDie ((off - 0x0E000) / 8))
  else if 0x0E800 ≤ off ∧ off < 0x0EA80 then some (inputDie ((off - 0x0E800) / 4))
  else none

/-- The RWL fields of the words that `sel` selects take their values from the image's registers `regs`, an unlisted register its reset value (R396). -/
def State.takeRegs (s : State) (regs : SMap W32) (sel : Nat → Bool) : State :=
  (((s.regs.map (fun p => p.1)) ++ regs.map (fun p => p.1)).filter sel).foldl
    (fun s off => s.setWord off (mixRwl off (s.word off) (SMap.get resetWord regs off))) s

/-! ### Entries whose attribute record changed (R67) -/

/-- Entries whose record differs from the one they had in `o` enter NEVER, as do those the image keeps there (R118, R189); what the new image does not define is gone (R67).  Updates of such an entry that still wait are committed under the new record (DESIGN CHOICE, log entry 8). -/
def State.dropEntries (s o : State) : State :=
  let gone := fun (i : Nat) => decide (s.attr i ≠ o.attr i) || s.unfed i
  let l := s.led
  { s with led := { l with live := l.live.filter (fun p => !gone p.1), base := l.base.filter (fun p => !gone p.1),
                           future := l.future.filter (fun u => !gone u.idx), sent := l.sent.filter (fun p => !gone p.1) } }

/-- No resend remains for an entry that is not defined. -/
def State.dropSent (s : State) : State :=
  { s with led := { s.led with sent := s.led.sent.filter (fun p => decide (s.attr p.1 ≠ none)) } }

/-! ### What a new image does to a unit -/

/-- One of the words differs between two states. -/
def wordsDiffer (o s : State) (offs : List Nat) : Bool := offs.any (fun k => decide (o.word k ≠ s.word k))

/-- The conductor node of a channel that joins the wick model while its die runs (R90). -/
def State.wickJoin (s : State) (o : State) (u : Nat) : State :=
  let g := s.rd (Reg.CH_CFG.BGRP u)
  let tamb : Rat := signedOf 8 (s.rd (Reg.HSW_BGB.TAMB g))
  let tb : Rat := if o.groupActive g then s.tbOf (chanDie u) g else tamb
  s.setChan u { s.chan u with tc := if tb < tamb then tamb else tb }

/-- A commit that changes OLEN, VTH or TPER abandons the open-load test, and one with OLEN = 0 clears both flags and their runs (R111, R112). -/
def State.commitOpenLoad (s o : State) (u : Nat) : State :=
  let test := decide (o.rd (Reg.CH_CFG.OLEN u) ≠ s.rd (Reg.CH_CFG.OLEN u))
    || (if u < 48 then wordsDiffer o s [(Reg.CH_OL.VTH u).off] else wordsDiffer o s [(Reg.PDRV_OL.VTH (u - 48)).off])
  let s1 := if test then s.setChan u { s.chan u with olStart := none } else s
  if s.flag (Reg.CH_CFG.OLEN u) then s1
  else ((s1.setChan u { s1.chan u with olStart := none, olRun := 0, notOlRun := 0, sbRun := 0, notSbRun := 0 }).wr (Reg.CH_STAT.OLFLAG u) 0).wr
    (Reg.CH_STAT.SBFLAG u) 0

/-- A changed FREQ or PHASE: the grid that was in force at boundary tick t stays until the first period start of the new one (R75). -/
def State.commitGrid (s o : State) (u t : Nat) : State :=
  if wordsDiffer o s [(Reg.CH_PWM.FREQ u).off] then
    s.setChan u { s.chan u with gridFreq := (o.gridOf u t).1, gridPhase := (o.gridOf u t).2, gridAt := t }
  else s

/-- Channel u at the boundary where a new image becomes active (R92); `o` is the state under the old parameters. -/
def State.commitChan (o : State) (t : Nat) (s : State) (u : Nat) : State :=
  let off := fun (s : State) => (s.setCmd u 0).wr (Reg.CH_STAT.LIMPSRC u) 0
  if o.chEnabled u && !s.chEnabled u then (off (s.enter u .off t)).commitOpenLoad o u
  else if !s.chEnabled u then s
  else if !o.chEnabled u then
    let c := s.chan u
    let s1 := ((off (s.setChan u { offSince := t, emberAt := c.emberAt, tc := c.tc })).wr (Reg.CH_STAT.RETRYLEFT u) (s.rd (Reg.CH_RETRY.MAX u))).wr
      (Reg.CH_STAT.TRIPPED u) 0
    ((if s1.wickIn u && !o.wickIn u then s1.wickJoin o u else s1).commitOpenLoad o u).enter u .off t
  else
    let s1 := if wordsDiffer o s [(Reg.CH_RETRY.MAX u).off] then
        (s.wr (Reg.CH_STAT.RETRYLEFT u) (if s.chSt u = .lockedOff then 0 else s.rd (Reg.CH_RETRY.MAX u))).wr (Reg.CH_STAT.TRIPPED u) 0
      else s
    (((if s1.wickIn u && !o.wickIn u then s1.wickJoin o u else s1).commitOpenLoad o u).commitGrid o u t).reportChan u t

/-- Motor unit m (R140). -/
def State.commitMotorUnit (o : State) (t : Nat) (s : State) (m : Nat) : State :=
  let b := (Reg.BRG_CFG.ENABLE m).off
  let changed := wordsDiffer o s ((List.range 10).map (fun i => b + 4 * i))
  if !o.mEnabled m && !s.mEnabled m then s
  else if !o.mEnabled m then ((s.setMotor m {}).setMWord m 0).commitMotor m t
  else if changed then s.commitMotor m t
  else s

/-- A valve bank and its channels (R166). -/
def State.commitBankUnits (o : State) (t : Nat) (s : State) (b : Nat) : State :=
  let offs := (Reg.VLV_BCFG.ENABLE b).off :: (List.range 8).flatMap (fun p => [(Reg.VLV_PROFA.IPEAK b p).off, (Reg.VLV_PROFB.IHOLD b p).off])
  let s1 := if wordsDiffer o s offs then s.commitBank b t else s
  (valvesOf b).foldl (fun s n =>
    if o.vEnabled n && !s.vEnabled n then s.commitValveOff n t
    else if !o.vEnabled n && s.vEnabled n then (s.setValve n { emberAt := (s.valve n).emberAt }).vRest n t
    else s) s1

/-- LED sink n (R182): a sink in use goes on with its period to the next start; a sink that comes into use is OFF. -/
def State.commitSink (o : State) (t : Nat) (s : State) (n : Nat) : State :=
  if o.lEnabled n then
    let s1 := if o.ledPeriod = s.ledPeriod then s else s.setSink n { s.sink n with oldPer := o.ledGrid n t, gridAt := t }
    s1.commitLed n t (!s.lEnabled n)
  else if s.lEnabled n then (s.blankLed n).reportLed n t
  else s

/-- Input n (R192). -/
def State.commitInput (o : State) (t : Nat) (s : State) (n : Nat) : State :=
  let b := (Reg.INP_CFG.ENABLE n).off
  if s.iEnabled n && wordsDiffer o s [b, b + 4, b + 8] then s.startInput n t else s

/-- Bundle nodes of groups that come into use start at `TAMB` on both power dies (R90). -/
def State.groupsFrom (s o : State) : State :=
  ((List.range 16).filter (fun g => s.groupActive g && !o.groupActive g)).foldl (fun s g =>
    [Die.p0, Die.p1].foldl (fun s d =>
      s.setAna d { s.ana d with tb := SMap.set (fun _ => 0) (s.ana d).tb g (signedOf 8 (s.rd (Reg.HSW_BGB.TAMB g)) : Int) }) s) s

/-- The die takes the RWL fields `regs` at tick t while it runs (R400): fields and units.  The entries follow the active image (R67). -/
def State.dieTakes (s : State) (d : Die) (regs : SMap W32) (t : Nat) : State :=
  let s1 := s.takeRegs regs (fun k => decide (regDie k = some d))
  let s2 := s1.groupsFrom s
  let s3 := match d with
    | .v => ((List.range 48).foldl (State.commitSink s t) ((List.range 6).foldl (State.commitBankUnits s t) s2)).boostFollow t
    | _ => (inputsOf d).foldl (State.commitInput s t) ((motorsOf d).foldl (State.commitMotorUnit s t) ((chansOf d).foldl (State.commitChan s t) s2))
  s3.showWetLoad

/-- The die starts on the RWL fields `regs` at tick t: its units leave their park states (R92, R141, R167, R182, R192). -/
def State.dieStarts (s : State) (d : Die) (regs : SMap W32) (t : Nat) : State :=
  let s1 := s.takeRegs regs (fun k => decide (regDie k = some d))
  let s2 := match d with
    | .v => (s1.startValves t).startLeds t
    | _ => ((inputsOf d).filter (fun n => s1.iEnabled n)).foldl (fun s n => s.startInput n t)
        (((motorsOf d).filter (fun m => s1.mEnabled m)).foldl (fun s m => s.startMotor m t)
          (((chansOf d).filter (fun u => s1.chEnabled u)).foldl (fun s u => s.startChan u t) s1))
  (s2.setAna d { s2.ana d with params := true }).showWetLoad

end Sys2Proof.Machine
end

