-- ==== Sys2Proof/Machine/Verya.lean ====
section
/-! DEFINITION. Verya (R407 to R411): lanterns sent and received, the state of each peer, and the entries that report it. -/

namespace Sys2Proof.Machine

/-! ### Banks as Verya sees them -/

/-- A bank is ACTIVE. -/
def State.hasBank (s : State) : Bool := s.flag Reg.CFG_STAT.AVALID

/-- The number of the ACTIVE bank. -/
def State.activeBank (s : State) : Nat := s.rd Reg.CFG_STAT.ACTIVE

/-- Lanterns are sent and received (R407). -/
def State.veryaOn (s : State) : Bool := s.flag Reg.CFG_VERYA.VEN && s.hasBank

/-- Entry i of the expected-peer list. -/
def State.peer (s : State) (i : Nat) : Option PeerRec := s.img.peers[i]?

/-- The latest kept lantern of a node (R409). -/
def State.seenOf (s : State) (node : Nat) : Option LanternSeen := SMap.get (fun _ => none) s.cfg.seen node

/-! ### Entries (R410) -/

/-- Content of the summary entry. -/
def State.peerSummary (s : State) : Nat :=
  let is := List.range s.img.peers.length
  b2n (is.any (fun i => decide (s.rd (Reg.CFG_PEER.STATE i) = 3)))
    + 2 * b2n (is.any (fun i => decide (s.rd (Reg.CFG_PEER.STATE i) = 0) && s.flag (Reg.CFG_PEER.REQ i)))
    + 4 * b2n (is.any (fun i => decide (s.rd (Reg.CFG_PEER.STATE i) = 2)))
    + 256 * s.img.peers.length

/-- The entry of peer i is sent. -/
def State.peerReport (s : State) (i t : Nat) : State :=
  s.unitL (0x3C10 + i) ((s.rd (Reg.CFG_PEER.STATE i) + 4 * s.rd (Reg.CFG_PEER.NODE i) + 65536 * s.rd (Reg.CFG_PEER.GEN i) : Nat)) t (0x0F20 + i)

/-- The summary is sent when it differs from the one last sent. -/
def State.summaryReport (s : State) (t : Nat) : State :=
  if (s.lastSent 0x3C00).any (fun u => decide (u.value = w64 (s.peerSummary : Nat))) then s
  else s.unitL 0x3C00 (s.peerSummary : Nat) t 0x0F00

/-! ### States of a peer (R409) -/

/-- The state a lantern gives an entry: 1 MATCH, 2 NEXT, 3 MISMATCH. -/
def PeerRec.classify (p : PeerRec) (l : LanternSeen) : Nat :=
  if (l.gen = p.gen1 ∧ l.version = p.ver1 ∧ l.digest = p.dig1) ∨ (p.gen2 ≠ 0 ∧ l.gen = p.gen2 ∧ l.version = p.ver2 ∧ l.digest = p.dig2) then 1
  else if p.nextok ∧ l.gen = max p.gen1 p.gen2 + 1 then 2
  else 3

/-- Entry i enters a state at tick t; entry into MISMATCH, and into SILENT where the peer is required, raises (R409, R412). -/
def State.peerEnter (s : State) (i st gen t : Nat) : State :=
  let was := s.rd (Reg.CFG_PEER.STATE i)
  let s1 := ((s.wr (Reg.CFG_PEER.STATE i) st).wr (Reg.CFG_PEER.GEN i) gen)
  let s2 := if was = st ∧ s.rd (Reg.CFG_PEER.GEN i) = gen then s1 else (s1.peerReport i t).summaryReport t
  if st = 3 ∧ was ≠ 3 then s2.raiseL (0x0F20 + i) 0x42 t
  else if st = 0 ∧ was ≠ 0 ∧ s.flag (Reg.CFG_PEER.REQ i) then s2.raiseL (0x0F20 + i) 0x43 t
  else s2

/-- The list at activation or wake (R409): every entry SILENT until its first lantern, which a required one reports (R411). -/
def State.peersStart (s : State) : State :=
  let s0 := (List.range 32).foldl (fun s i => s.setWord (Reg.CFG_PEER.STATE i).off 0#32) s
  let s1 := (List.range 32).foldl (fun s i =>
    match s.peer i with
    | none => s
    | some p =>
      let s1 := (s.wr (Reg.CFG_PEER.REQ i) (b2n p.required)).wr (Reg.CFG_PEER.NODE i) p.node
      let s2 := s1.peerReport i s.now
      if p.required then s2.raiseL (0x0F20 + i) 0x43 s.now else s2) s0
  if s.hasBank then s1.summaryReport s.now else s1

/-! ### Sending (R407) -/

/-- LANTERN_DUE (R407): at each multiple of 200,000,000 ticks one lantern is queued. -/
def State.lanternDue (s : State) : State :=
  let t := s.now / 200000000 * 200000000
  if s.started && s.veryaOn && decide (s.cfg.lanternTick < t) then
    { s with cfg := { s.cfg with lanternsDue := s.cfg.lanternsDue + 1, lanternTick := t } }
  else s

def execLanternDue (s : State) : Res := .next s.lanternDue

/-- Bytes 0 to 15 of the lantern. -/
def State.lanternHead (s : State) : List Byte :=
  let k := s.activeBank
  [BitVec.ofNat 8 (1 + 16 * k + 32 * s.otp.life), BitVec.ofNat 8 (s.rd (Reg.CFG_BVER.NODE k))] ++ leBytes 2 (s.rd (Reg.CFG_BGEN.GEN k))
    ++ leBytes 3 (s.rd (Reg.CFG_BVER.VERSION k)) ++ [BitVec.ofNat 8 s.cfg.lanternCount] ++ leBytes 8 (s.rd64 (Reg.CFG_BSDIG.SDIG k))

/-- The MAC of a lantern (R407). -/
def State.lanternMac (s : State) (head : List Byte) : List Byte :=
  (cmac (s.kennel (s.rd Reg.CFG_VERYA.VSLOT)).key (0x56#8 :: head)).take 8

/-- The slot of the lantern MAC can be used. -/
def State.lanternKey (s : State) : Bool := s.cryReady && decide (s.rd (Reg.CRY_SLOT.STATE (s.rd Reg.CFG_VERYA.VSLOT)) ≠ 0)

/-- A lantern goes to the CAN controllers of `CANMASK`, in slot 47, and to Ethernet (R407). -/
def State.lanternSend (s : State) (bytes : List Byte) : State :=
  let f : CanFrame := { id := s.rd Reg.CFG_VID.LID + s.rd (Reg.CFG_BVER.NODE s.activeBank), ide := false, rtr := false, fdf := true, brs := false,
                        esi := false, dlc := 12, data := bytes }
  let s1 := ((List.range 12).filter (fun c => bitOf (s.rd Reg.CFG_VERYA.CANMASK) c)).foldl (fun s c => s.canQueue c 47 { frame := f }) s
  match s.img.lanternEth with
  | [dmac, dip, port, vid, pcp, pdu] =>
    if s.flag Reg.CFG_VERYA.ETHEN then
      (s1.ethPorts 4 { dst := dmac, src := s.ethMac, tag := none, rest := [] } vid).foldl (fun s p =>
        s.ethBuild 2048 { bus := 2, channel := p, key := pdu, len := 24, dmac := dmac, dip := dip, sport := port, dport := port, vid := vid, pcp := pcp }
          { bytes := bytes }) s1
    else s1
  | _ => s1

/-- One queued lantern is built at the seal (R407); while its MAC cannot be computed it is not sent. -/
def State.lanternBuild (s : State) : State :=
  let h := s.lanternHead
  let s1 : State := { s with cfg := { s.cfg with lanternsDue := s.cfg.lanternsDue - 1, lanternCount := (s.cfg.lanternCount + 1) % 256 } }
  if s.flag Reg.CFG_VERYA.VAUTH then (if s.lanternKey then s1.lanternSend (h ++ s.lanternMac h) else s1)
  else s1.lanternSend (h ++ List.replicate 8 0#8)

/-- The queued lanterns are built (R407). -/
def State.lanternsBuild (s : State) : State :=
  if s.veryaOn then (List.range s.cfg.lanternsDue).foldl (fun s _ => s.lanternBuild) s
  else { s with cfg := { s.cfg with lanternsDue := 0 } }

/-! ### Receiving (R409) -/

/-- The bytes of a received lantern, where it matches a form of R409. -/
def State.lanternBytes (s : State) (x : LanternRx) : Option (List Byte) :=
  if !s.veryaOn then none
  else
    match x with
    | .can c f =>
      if bitOf (s.rd Reg.CFG_VERYA.CANMASK) c ∧ c < 12 ∧ f.fdf ∧ !f.ide ∧ f.data.length = 24
        ∧ s.rd Reg.CFG_VID.LID ≤ f.id ∧ f.id ≤ s.rd Reg.CFG_VID.LID + 63 then some f.data else none
    | .eth _ port pdu payload =>
      if s.flag Reg.CFG_VERYA.ETHEN ∧ s.img.lanternEth[2]? = some port ∧ s.img.lanternEth[5]? = some pdu then some payload else none

/-- The lantern is kept: the 24 bytes of R407 (an Ethernet PDU of another length is discarded: DESIGN CHOICE, log entry 45), version 1 of the format, and its MAC with `VAUTH` = 1. -/
def State.lanternGood (s : State) (b : List Byte) : Bool :=
  decide (b.length = 24) && decide (byteField b 0 1 % 16 = 1)
    && (!s.flag Reg.CFG_VERYA.VAUTH || (s.lanternKey && decide (s.lanternMac (b.take 16) = b.drop 16)))

/-- PEER_SILENT (R409): no kept lantern of the node for `VSILENT` s. -/
def State.peerSilent (s : State) (i : Nat) : State :=
  match s.peer i with
  | none => s
  | some p =>
    match s.seenOf p.node with
    | none => s
    | some l =>
      let t := l.stamp + s.rd Reg.CFG_VID.VSILENT * 200000000
      if s.started && decide (t ≤ s.now) && decide (s.rd (Reg.CFG_PEER.STATE i) ≠ 0) then s.peerEnter i 0 (s.rd (Reg.CFG_PEER.GEN i)) t else s

def execPeerSilent (i : Nat) (s : State) : Res := .next (s.peerSilent i)

/-- LANTERN_RECEIVED (R409): a silence of the node that ended only now comes first. -/
def State.lanternReceived (s : State) (x : LanternRx) : State :=
  match s.lanternBytes x with
  | none => s
  | some b =>
    let s1 := s.count Reg.CFG_VCNT.RX 1
    if !s.lanternGood b then s1.count Reg.CFG_VCNT.BAD 1
    else
      let node := byteField b 1 1 % 64
      let l : LanternSeen := { stamp := s.now, gen := byteField b 2 2, version := byteField b 4 3, digest := byteField b 8 8 }
      let s2 : State := { s1 with cfg := { s1.cfg with seen := SMap.set (fun _ => none) s1.cfg.seen node (some l) } }
      if node = s.rd (Reg.CFG_BVER.NODE s.activeBank) then s1.raiseL 0x0F40 0x44 s.now
      else
        match (List.range s.img.peers.length).find? (fun i => (s.peer i).any (fun p => decide (p.node = node))) with
        | none => s2.raiseL 0x0F40 0x44 s.now
        | some i =>
          match s.peer i with
          | none => s2
          | some p =>
            let s3 := s1.peerSilent i
            ({ s3 with cfg := { s3.cfg with seen := s2.cfg.seen } } : State).peerEnter i (p.classify l) l.gen s.now

def execLanternReceived (x : LanternRx) (s : State) : Res := .next (s.lanternReceived x)

end Sys2Proof.Machine
end

