-- ==== Sys2Proof/Machine/Activate.lean ====
section
/-! DEFINITION. A new image becomes active on die L (R400): registers, ledger and blob slots, frame length and anchor, programs, fault records, buses, engines and peers.  The dies take their own parameters at their boundary. -/

namespace Sys2Proof.Machine

/-! ### Blob slots (R59, R67) -/

/-- Bytes of the blob area that an image's slots take. -/
def Tables.blobBytes (t : Tables) : Nat :=
  t.attrs.foldl (fun n p => match p.2 with
    | some a => if a.kind = 3 then n + 3 * slotBytes a else n
    | none => n) 0

/-- A blob entry that stays keeps its version in the slot that takes the place of its old one. -/
def rebase (old new : Tables) (i : Nat) (e : Entry) : Entry :=
  let z := fun (_ : Nat) => (0 : Nat)
  let len := e.value.toNat / 2 ^ 32 % 2048
  if len = 0 then e
  else { e with value := blobDesc (e.value.toNat % 2 ^ 21 - SMap.get z old.blobBase i + SMap.get z new.blobBase i) len }

/-- Blob slots are reassigned (R67), for the versions of waiting updates of a later snapshot too. -/
def State.rebaseBlobs (s : State) (old : Tables) : State :=
  let blob := fun (i : Nat) => (s.attr i).any (fun a => decide (a.kind = 3))
  let f := fun (p : Nat × Entry) => if blob p.1 then (p.1, rebase old s.img p.1 p.2) else p
  let g := fun (u : Upd) => if blob u.idx then { u with value := (rebase old s.img u.idx { value := u.value }).value } else u
  ({ s with led := { s.led with live := s.led.live.map f, base := s.led.base.map f, snap := s.led.snap.map f, future := s.led.future.map g }
     } : State).wr Reg.LEDG_BLOB.USED s.img.blobBytes

/-! ### Programs and fault records (R201, R214, R217, R371) -/

/-- The registers that show the program records (R217). -/
def State.showPrograms (s : State) : State :=
  (List.range 256).foldl (fun s p =>
    let q := s.img.progAt p
    ((((s.wr (Reg.RFX_PROG.VALID p) (b2n (s.prog p).isSome)).wr (Reg.RFX_PROG.PRIM p) q.prim).wr (Reg.RFX_PROG.ORDER p) q.order).wr
      (Reg.RFX_PROG.STATE p) q.stateLen).wr (Reg.RFX_PROGBUD.BUDGET p) q.budget) s

/-- Fault records whose words changed start anew, and their entries enter NEVER (R371). -/
def State.commitFaults (s o : State) : State :=
  (List.range 256).foldl (fun s r =>
    if wordsDiffer o s [(Reg.FLT_BIND.SPAN r).off, (Reg.FLT_COUNT.N r).off] then
      let s1 := s.fltReset r
      let k := fun (p : Nat × Entry) => decide (p.1 ≠ 0x100 + r)
      { s1 with led := { s1.led with live := s1.led.live.filter k, base := s1.led.base.filter k,
                                     future := s1.led.future.filter (fun u => decide (u.idx ≠ 0x100 + r)),
                                     sent := SMap.del (0x100 + r) s1.led.sent } }
    else s) s

/-! ### Buses and engines (R260, R269, R273, R282, R327, R328, R352, R354) -/

/-- Controller c (R253, R258, R260). -/
def State.commitCan (o s : State) (c : Nat) : State :=
  let was := o.flag (Reg.CAN_CFG.ENABLE c)
  let b := (Reg.CAN_NBT.NBRP c).off
  if was && !s.flag (Reg.CAN_CFG.ENABLE c) then s.canDisable c none
  else if !s.flag (Reg.CAN_CFG.ENABLE c) then s
  else if !was then s.canEnable c
  else
    let s1 := if decide (o.rd (Reg.CAN_CFG.FDEN c) ≠ s.rd (Reg.CAN_CFG.FDEN c)) || [b, b + 4, b + 8, b + 12].any (fun k => decide (o.word k &&& rwlMask k ≠ s.word k &&& rwlMask k))
      then s.canRetime c else s
    if o.rd (Reg.CAN_CFG.DEGRESTR c) ≠ s.rd (Reg.CAN_CFG.DEGRESTR c) ∧ s.tbSt = .degraded then s1.canSource c 1 (s.flag (Reg.CAN_CFG.DEGRESTR c)) else s1

/-- LIN channel n (R269, R273, R274): a changed running table starts anew at the end of its slot. -/
def State.commitLin (o s : State) (n : Nat) : State :=
  let was := o.flag (Reg.LIN_CFG.ENABLE n)
  let tb := s.rd (Reg.LIN_STAT.SCHED n)
  if was && !s.flag (Reg.LIN_CFG.ENABLE n) then s.linDisable n none
  else if !s.flag (Reg.LIN_CFG.ENABLE n) then s
  else if !was then s.linEnable n
  else
    let s1 := s.linShowDegr n
    if o.linTable n tb ≠ s.linTable n tb then s1.setLinC n { s1.linC n with anew := true, resolving := none, resolveNext := 0 } else s1

/-- Ethernet port p (R276, R277, R282, R283): one that is put out of use stops, one that comes into use reports, and a changed interface or PLCA setting shows. -/
def State.commitEth (o s : State) (p : Nat) : State :=
  if !s.flag (Reg.ETH_PCFG.ENABLE p) then (if o.flag (Reg.ETH_PCFG.ENABLE p) then s.ethPortReset p else s)
  else if !o.flag (Reg.ETH_PCFG.ENABLE p) then s.ethOpen p
  else if o.rd (Reg.ETH_PCFG.MODE p) ≠ s.rd (Reg.ETH_PCFG.MODE p) ∧ p < 2 then s.ethPortReset p
  else s.ethShow p

/-- The cipher engine (R327, R328). -/
def State.commitCry (o s : State) : State :=
  if o.flag Reg.CRY_CFG.ENABLE && !s.flag Reg.CRY_CFG.ENABLE then s.cryDisable
  else if !o.flag Reg.CRY_CFG.ENABLE && s.flag Reg.CRY_CFG.ENABLE then (if s.crySt = 0 then s.cryUp else s)
  else s

/-- The words of the access engine that an image sets (R357). -/
def accWords : List Nat :=
  [Reg.ACC_CFG.ENABLE.off, Reg.ACC_VID.VID.off] ++ (List.range 4).map (fun k => (Reg.ACC_DOOR.IDX k).off) ++ (List.range 8).map (fun k => (Reg.ACC_LF.EN k).off)

/-- The access engine (R352, R354). -/
def State.commitAcc (o s : State) : State :=
  if o.flag Reg.ACC_CFG.ENABLE && !s.flag Reg.ACC_CFG.ENABLE then s.accDisable
  else if s.accSt = 0 then s.accEnter
  else if wordsDiffer o s accWords then s.accRestart
  else s

/-- The firmware requests that a commit ends on controller c: it is disabled (R260) or enters RESTRICTED (R258). -/
def State.commitCanFw (o s : State) (c : Nat) : List (Nat × Nat × Nat) :=
  if !o.flag (Reg.CAN_CFG.ENABLE c) then []
  else if !s.flag (Reg.CAN_CFG.ENABLE c) then (if (s.canC c).cur = none then s.canWaiting 9 c else [])
  else if !o.flag (Reg.CAN_CFG.DEGRESTR c) && s.canRestricts c && decide (s.tbSt = .degraded) then s.canWaiting 6 c
  else []

/-- Every unit of die L meets its new parameters; the CAN requests that end at once do so in the order of their arrival (R250). -/
def State.commitUnitsL (s o : State) : State :=
  let s1 := s.commitFaults o
  let s2 := (List.range 12).foldl (State.commitCan o) (s1.canEndAll ((List.range 12).flatMap (State.commitCanFw o s1)))
  let s3 := (List.range 10).foldl (State.commitLin o) s2
  let s4 := (List.range 5).foldl (State.commitEth o) s3
  State.commitAcc o (State.commitCry o s4)

/-! ### Activation (R36, R44, R400) -/

/-- The boundary becomes the anchor (R44); the frames since are none yet, and HOLD is 1 unless a late update has broken the frame that begins already (R476). -/
def State.anchorHere (s : State) : State :=
  let bad := s.tb.broken.contains s.tb.run
  let s1 := (s.wr Reg.TIME_DETANCHOR.F (s.rd Reg.TIME_FRAME.F)).wr Reg.TIME_DETNOW.HOLD (b2n (!bad))
  { s1 with tb := { s1.tb with anchorSet := true, anchorBroken := bad } }

/-- Boundary b, at which frame `tb.run` begins, becomes T0 of the new frame length (R36), and cyclic triggers count from it (R63). -/
def State.newT0 (s o : State) (b : Nat) : State :=
  { s with tb := { s.tb with t0 := b, run0 := s.tb.run, prevP := o.period, imgRun := s.tb.run } }

/-- Lanterns that fall due from now on are queued (R407). -/
def State.lanternFrom (s o : State) : State :=
  if o.veryaOn then s else { s with cfg := { s.cfg with lanternTick := s.now / 200000000 * 200000000 } }

/-- What die L takes from a new image at tick b, before any unit acts on it. -/
def State.loadImage (s : State) (regs : SMap W32) (img : Tables) : State :=
  let s1 := s.takeRegs regs (fun k => decide (regDie k = none))
  let s2 := ({ s1 with img := { img with regs := regs } } : State).showPrograms
  let s3 := if s2.flag Reg.TIME_DISC.ASEN then s2 else s2.wr Reg.TIME_RATE.CORR 0
  (s3.keepBlocks s.img).showWetLoad

/-- The operation completes, is recorded and is no longer in SWAP (R400, R403, R412, R414). -/
def State.swapDone (s : State) (op : CfgOp) (oldVersion b : Nat) : State :=
  let s1 := s.event (if op.opcode = 0x62 then 0x0F84 else 0x0F80) b oldVersion op.img.version (op.bank + (if op.force ∧ op.opcode = 0x61 then 2 ^ 31 else 0))
  let s2 := ((((s1.wr Reg.CFG_LAST.STATUS 0).wr Reg.CFG_LAST.REASON 0).wr Reg.CFG_LAST.STEP 4).wr Reg.CFG_LAST.OPC op.opcode).wr Reg.CFG_STAT.STEP 0
  ({ s2 with cfg := { s2.cfg with op := none } } : State).completeOpt op.tag St.ok 0 b

/-- The image of `op` becomes active at boundary b (R400). -/
def State.activate (s : State) (op : CfgOp) (b : Nat) : State :=
  let s1 := s.loadImage op.regs op.img
  let s2 := ((s1.dropEntries s).rebaseBlobs s.img).dropSent
  let s3 := ((s2.newT0 s b).commitUnitsL s).lanternFrom s
  (s3.anchorHere.peersStart).swapDone op s.img.version b

end Sys2Proof.Machine
end

