-- ==== Sys2Proof/Machine/Recorder.lean ====
section
/-! DEFINITION. The event recorder (R379 to R393): committing, merging and write-back of records, operating seconds, starts of die L and the replay of the candle latch, and the reading operations. -/

namespace Sys2Proof.Machine

/-- An empty slot (R379). -/
def EvRec.blank : Nat → EvRec := fun _ => {}
def State.evSlot (s : State) (k : Nat) : EvRec := SMap.get EvRec.blank s.evr.slots k
def State.setEvSlot (s : State) (k : Nat) (r : EvRec) : State := { s with evr := { s.evr with slots := SMap.set EvRec.blank s.evr.slots k r } }

/-- The slot of record n (R387). -/
def slotOf (n : Nat) : Nat := n % 8192

/-- The 32 bytes of a record (R379). -/
def EvRec.bytes (r : EvRec) : List Byte :=
  leBytes 2 r.code ++ leBytes 2 r.rep ++ leBytes 4 r.opsec ++ leBytes 3 r.pcyc ++ leBytes 1 r.flags ++ leBytes 8 r.tick
    ++ leBytes 4 r.p1 ++ leBytes 4 r.p2 ++ leBytes 4 r.p3

/-- How far behind the ceiling's oldest number the record in slot k lies (R387). -/
def slotAge (ceil k : Nat) : Nat := (k + 8192 - ceil % 8192) % 8192

/-- The number of the oldest record held; with no record, the next number (R387). -/
def oldestOf (slots : SMap EvRec) (ceil wcnt : Nat) : Nat :=
  match slots.map (fun p => slotAge ceil p.1) with
  | [] => wcnt
  | a :: as => (ceil + 2 ^ 32 - 8192 + as.foldl min a) % 2 ^ 32

/-- The MRAM ceiling of the count is reached (R387): word 0 of the 64 slots that the raise covers is zeroed, and the ceiling rises by 64. -/
def State.raiseCeil (s : State) : State :=
  let c := s.evr.wcntCeil
  if s.rd Reg.EVR_WCNT.N = c then
    let ks := (List.range 64).map (fun i => slotOf (c + i))
    let s1 := ks.foldl (fun s k => s.setEvSlot k {}) s
    { s1 with evr := { s1.evr with wcntCeil := (c + 64) % 2 ^ 32, mramRep := s1.evr.mramRep.filter (fun p => !ks.contains p.1) } }
  else s

/-- `EVR_OLDEST` follows the slots. -/
def State.showOldest (s : State) : State := s.wr Reg.EVR_OLDEST.N (oldestOf s.evr.slots s.evr.wcntCeil (s.rd Reg.EVR_WCNT.N))

/-- A new record in the next slot (R379, R387). -/
def State.newRecord (s : State) (e : Evt) : State :=
  let n := s.rd Reg.EVR_WCNT.N
  let k := slotOf n
  let r : EvRec := { code := e.code, flags := e.flags, tick := e.tick, p1 := e.p1, p2 := e.p2, p3 := e.p3,
                     opsec := s.rd Reg.EVR_OPSEC.N, pcyc := s.rd Reg.EVR_PCYC.N }
  let s1 := (s.setEvSlot k r).wr Reg.EVR_WCNT.N (n + 1)
  let s2 : State := { s1 with evr := { s1.evr with mramRep := SMap.del k s1.evr.mramRep, wbTick := SMap.del k s1.evr.wbTick } }
  s2.raiseCeil.showOldest

/-- Event e merges into record r (R383). -/
def State.merges (s : State) (e : Evt) (r : EvRec) : Bool :=
  decide (s.rd Reg.EVR_CFG.MWIN ≠ 0) && decide (r.code ≠ 0) && decide (r.code = e.code) && decide (r.flags = e.flags) && decide (r.p1 = e.p1)
    && decide (r.pcyc = s.rd Reg.EVR_PCYC.N) && decide (s.rd Reg.EVR_OPSEC.N - r.opsec < s.rd Reg.EVR_CFG.MWIN) && decide (r.rep < 0xFFFF)

/-- The slots of the 16 newest records, newest first. -/
def State.newest (s : State) : List Nat := (List.range 16).map (fun i => slotOf (s.rd Reg.EVR_WCNT.N + 2 ^ 32 - 1 - i))

/-- One event is committed: merged into the newest record that qualifies, or a record of its own (R383). -/
def State.commitEvent (s : State) (e : Evt) : State :=
  match s.newest.find? (fun k => s.merges e (s.evSlot k)) with
  | none => s.newRecord e
  | some k =>
    let r := s.evSlot k
    let s1 := (s.setEvSlot k { r with rep := r.rep + 1 }).count Reg.EVR_MERGECNT.N 1
    if s1.evr.mramRep.any (fun p => decide (p.1 = k)) then s1
    else { s1 with evr := { s1.evr with mramRep := SMap.put k r.rep s1.evr.mramRep } }

/-- EVENT_RECORD (R387, R388): the recorder commits the oldest event of its queue; the first record after discards is one of their count. -/
def State.eventRecord (s : State) : State :=
  if !s.started then s
  else if s.evr.discards ≠ 0 then
    ({ s with evr := { s.evr with discards := 0 } } : State).newRecord { code := 0x0FE1, tick := s.now, p1 := s.evr.discards % 2 ^ 32 }
  else
    match s.evr.queue with
    | [] => s
    | e :: q => ({ s with evr := { s.evr with queue := q } } : State).commitEvent e

def execEventRecord (s : State) : Res := .next s.eventRecord

/-- REPEAT_WRITEBACK (R384): word 0 of the record in slot n goes to MRAM where it lags, at most once per 20,000,000 ticks. -/
def State.repeatWriteback (s : State) (n : Nat) : State :=
  let last := SMap.get (fun _ => 0) s.evr.wbTick n
  if s.started && s.evr.mramRep.any (fun p => decide (p.1 = n)) && (decide (last = 0) || decide (last + 20000000 ≤ s.now)) then
    { s with evr := { s.evr with mramRep := SMap.del n s.evr.mramRep, wbTick := SMap.set (fun _ => 0) s.evr.wbTick n s.now } }
  else s

def execRepeatWriteback (n : Nat) (s : State) : Res := .next (s.repeatWriteback n)

/-- The MRAM ceiling of the operating seconds rises by 64 where the count has reached it (R381). -/
def State.opsecCeil (s : State) : State :=
  if s.evr.opsecCeil ≤ s.rd Reg.EVR_OPSEC.N then { s with evr := { s.evr with opsecCeil := satAdd 32 s.evr.opsecCeil 64 } } else s

/-- OPSEC_TICK (R381): once per 200,000,000 ticks. -/
def State.opsecTick (s : State) : State :=
  let e := s.evr.opsecAt + 200000000
  if s.started && decide (e ≤ s.now) then
    ({ s.count Reg.EVR_OPSEC.N 1 with evr := { s.evr with opsecAt := e } } : State).opsecCeil
  else s

def execOpsecTick (s : State) : Res := .next s.opsecTick

/-! ### Starts and PARK (R381, R384, R386, R387, R389) -/

/-- The count that the recorder resumes at (R387): the first empty slot of the 64 below the ceiling, or the lowest of them. -/
def State.resumeAt (s : State) : Nat :=
  let b := s.evr.wcntCeil + 2 ^ 32 - 64
  (b + ((List.range 64).find? (fun i => decide ((s.evSlot (slotOf (b + i))).code = 0))).getD 0) % 2 ^ 32

/-- A start of die L (R381, R387, R389): the queue is gone, REPEAT counts are as MRAM holds them, and the counts resume. -/
def State.evrBoot (s : State) : State :=
  let s1 := s.evr.mramRep.foldl (fun s p => s.setEvSlot p.1 { s.evSlot p.1 with rep := p.2 }) s
  let s2 : State := { s1 with evr := { s1.evr with mramRep := [], wbTick := [], queue := [], discards := 0, opsecAt := s.now } }
  ((s2.wr Reg.EVR_WCNT.N s2.resumeAt).showOldest.wr Reg.EVR_OPSEC.N s2.evr.opsecCeil).opsecCeil

/-- A time epoch starts (R381). -/
def State.evrEpoch (s : State) : State := s.count Reg.EVR_PCYC.N 1

/-- Candle seconds since the last PARK entry or power-on (R385). -/
def Power.candleSec (p : Power) : Nat := min (p.candle / 200000000) 0xFFFFFFFF

/-- The record that an entry of the candle latch becomes (R379, R386): bit 63 of TICK set, FLAGS CANDLE. -/
def CandleEnt.event (c : CandleEnt) : Evt := { code := c.code, flags := 2, tick := c.sec + 2 ^ 63, p1 := c.p1, p2 := c.p2, p3 := c.p3 }

/-- The candle latch is replayed in order of entry, its overflow count last (R386). -/
def State.replay (s : State) : State :=
  let s1 := s.pow.latch.foldl (fun s c => s.newRecord c.event) s
  let s2 := if s.pow.overflow = 0 then s1
    else (s1.newRecord { code := 0x0FE0, flags := 2, tick := s.pow.candleSec + 2 ^ 63, p1 := s.pow.overflow % 2 ^ 32 }).count Reg.EVR_LOST.CANDLE s.pow.overflow
  { s2 with pow := { s2.pow with latch := [], overflow := 0 } }

/-- PARK entry writes every REPEAT count back (R384). -/
def State.evrPark (s : State) : State := { s with evr := { s.evr with mramRep := [] } }

/-! ### Operations (R390, R391) -/

/-- EVR_READ (R390). -/
def State.evrRead (s : State) (t : Nat) : State :=
  match s.opReady t 0x58 with
  | none => s
  | some o =>
    let first := o.fld 16 4
    let count := o.fld 20 2
    let w := s.rd Reg.EVR_WCNT.N
    let old := s.rd Reg.EVR_OLDEST.N
    let s0 := s.begin t
    if count = 0 ∨ 256 < count ∨ frameLater first w then s0.complete t St.invalid
    else
      let gap := frameLater old first
      let b := if gap then old else first
      let n := min count ((w + 2 ^ 32 - b) % 2 ^ 32)
      let bytes := (List.range n).flatMap (fun i => (s.evSlot (slotOf (b + i))).bytes)
      s0.complete t St.ok (b2n gap) s.now (leBytes 4 b ++ leBytes 4 n ++ leBytes 4 w ++ leBytes 4 old)
        (if n = 0 then [] else [(o.fld 24 8, bytes)])

def execEvrRead (t : Nat) (s : State) : Res := .next (s.evrRead t)

/-- EVR_MARK (R390). -/
def State.evrMark (s : State) (t : Nat) : State :=
  match s.opReady t 0x59 with
  | none => s
  | some o =>
    let s0 := s.begin t
    if s.evr.queue.length < 64 then
      (s0.record { code := 0x1100 + o.fld 16 1, flags := 4, tick := s.now, p1 := o.fld 20 4, p2 := o.fld 24 4, p3 := o.fld 28 4 }).complete t St.ok 0 s.now
    else s0.complete t St.retryLater 0 s.now

def execEvrMark (t : Nat) (s : State) : Res := .next (s.evrMark t)

/-- EVR_CLEAR (R391): in MANUFACTURE every slot is emptied, the count returns to 0, and record 0x0FE3 is written. -/
def State.evrClear (s : State) (t : Nat) : State :=
  match s.opReady t 0x5A with
  | none => s
  | some _ =>
    let s0 := s.begin t
    if s.otp.life ≠ 0 then s0.complete t St.configMismatch
    else
      let s1 : State := { s0 with evr := { s0.evr with slots := [], mramRep := [], wbTick := [], wcntCeil := 64 } }
      ((s1.wr Reg.EVR_WCNT.N 0).newRecord { code := 0x0FE3, tick := s.now }).complete t St.ok 0 s.now

def execEvrClear (t : Nat) (s : State) : Res := .next (s.evrClear t)

end Sys2Proof.Machine
end

