-- ==== Sys2Proof/Machine/PowerCore.lean ====
section
/-! DEFINITION. Power states while die L runs (R415, R418, R424 to R427, R432): the POWER entry, votes, sleeping dies, limp, quiescence, and what die L does at the last boundary. -/

namespace Sys2Proof.Machine

/-! ### The power state (R415, R432) -/

/-- Power states by their code (R415). -/
abbrev Pw.park : Nat := 0
abbrev Pw.waking : Nat := 1
abbrev Pw.run : Nat := 2
abbrev Pw.limp : Nat := 3
abbrev Pw.shutdown : Nat := 4

/-- The power state. -/
def State.power (s : State) : Nat := s.rd Reg.PWR_STAT.STATE

/-- Content of the POWER entry (R432). -/
def State.powerValue (s : State) : Nat := s.power + 256 * s.pow.src + 2 ^ 18 * s.pow.attempt

/-- The power state changes at tick t; die L reports it while it runs. -/
def State.powerGo (s : State) (st t : Nat) : State :=
  let s1 := s.wr Reg.PWR_STAT.STATE st
  if s1.started then s1.unitL 0x10 (s1.powerValue : Nat) t 0x0D00 else s1

/-- RUN, or LIMP while a die is in limp (R415). -/
def State.runState (s : State) : Nat := if allDies.any (fun d => s.inLimp d) then Pw.limp else Pw.run

/-! ### Votes (R424, R431, R434) -/

/-- The host vote, set or withdrawn. -/
def State.voteHost (s : State) (park : Bool) : State := s.wr Reg.PWR_STAT.VOTEH (b2n park)

/-- PWR_CTL_VOTE_PARK and PWR_CTL_VOTE_WITHDRAW (R424). -/
def execPwrCtlVotePark (s : State) : Res := .next (if s.started then s.voteHost true else s)
def execPwrCtlVoteWithdraw (s : State) : Res := .next (if s.started then s.voteHost false else s)

/-- PWR_VOTE (R431). -/
def State.pwrVote (s : State) (t : Nat) : State :=
  match s.opReady t 0x70 with
  | none => s
  | some o =>
    if o.fld 16 1 = 1 then (s.voteHost true).complete t St.ok 0 s.now
    else if o.fld 16 1 = 2 then (s.voteHost false).complete t St.ok 0 s.now
    else s.complete t St.invalid

def execPwrVote (t : Nat) (s : State) : Res := .next (s.pwrVote t)

/-- PWR_TIMER (R431). -/
def State.pwrTimer (s : State) (t : Nat) : State :=
  match s.opReady t 0x72 with
  | none => s
  | some o => (s.wr Reg.PWR_TIMER.SEC (o.fld 20 4)).complete t St.ok

def execPwrTimer (t : Nat) (s : State) : Res := .next (s.pwrTimer t)

/-- The PARKVOTE entry asks for park; one in NEVER does not (R424). -/
def State.programVote (s : State) : Bool := decide ((s.live 0x11).state ≠ .never) && decide ((s.live 0x11).value.toNat = 1)

/-- Every counted vote asks for park (R424); `p` is the PARKVOTE entry's. -/
def State.votesPark (s : State) (p : Bool) : Bool :=
  let v := s.rd Reg.PWR_CFG.VOTE
  decide (v ≠ 0) && (!bitOf v 0 || p) && (!bitOf v 1 || s.flag Reg.PWR_STAT.VOTEH)

/-- `PWR_STAT.VOTEP` follows the entry. -/
def State.showVote (s : State) : State := s.wr Reg.PWR_STAT.VOTEP (b2n s.programVote)

/-! ### Quiescence (R425) -/

/-- No valve channel, motor unit or access round is at work. -/
def State.quiescent (s : State) : Bool :=
  !(List.range 24).any (fun n => [ValveSt.wait, .peak, .hold, .release].contains (s.vSt n))
    && !(List.range 14).any (fun m => [MotorSt.run, .pinch, .settle].contains (s.mSt m))
    && !s.accBusy

/-- The tick at or after which the last boundary no longer waits for quiescence (R425). -/
def State.parkLimit (s : State) : Nat := s.pow.shutdownAt + s.rd Reg.PWR_CFG.SDTMO * 2000000

/-- At the staging close before boundary b: the frame that ends there is the last (R425, R427).  The vote counted is that of a staged write, if the frame has one. -/
def State.parksAt (s : State) (b : Nat) : Bool :=
  let p := match (s.led.staged.find? (fun x => decide (x.1 = 0x11))) with
    | some (_, v, _) => decide (v.toNat = 1)
    | none => s.programVote
  decide (s.power = Pw.shutdown) && s.votesPark p && (s.quiescent || decide (s.parkLimit ≤ b))

/-! ### Sleep (R418) -/

/-- A unit, input or transceiver of die d is in use. -/
def State.dieUsed (s : State) (d : Die) : Bool :=
  (chansOf d).any (fun u => s.chEnabled u) || (motorsOf d).any (fun m => s.mEnabled m) || (inputsOf d).any (fun n => s.iEnabled n) ||
    (match d with
     | .p0 => (List.range 8).any (fun c => s.flag (Reg.CAN_CFG.ENABLE c))
     | .p1 => (List.range 10).any (fun n => s.flag (Reg.LIN_CFG.ENABLE n))
     | .v => (List.range 24).any (fun n => s.vEnabled n) || (List.range 6).any (fun b => s.bEnabled b) || (List.range 48).any (fun n => s.lEnabled n)
        || s.flag Reg.VLV_BST.BSTEN || s.flag Reg.ACC_CFG.ENABLE)

/-- The main domain of d goes to sleep at a boundary where it may; not while a commit is in SWAP, whose parameters are an access (R418). -/
def State.sleepDie (s : State) (d : Die) : State :=
  if s.domReady d && bitOf (s.rd Reg.PWR_CFG.SLP) (dieNum d) && !s.dieUsed d && s.cfg.op.isNone then
    let s1 := (s.wr Reg.PWR_STAT.DOM (clearBitOf (s.rd Reg.PWR_STAT.DOM) (dieNum d))).wr Reg.PWR_STAT.SLP (setBitOf (s.rd Reg.PWR_STAT.SLP) (dieNum d))
    let s2 : State := { s1 with pow := { s1.pow with demanded := s1.pow.demanded.filter (fun k => decide (k ≠ dieNum d)) } }
    s2.setAna d {}
  else s

def State.sleepAll (s : State) : State := allDies.foldl (fun s d => s.sleepDie d) s

/-! ### Limp (R25, R26, R415) -/

/-- The ticks after its last boundary at which a die applies limp: 100 ms, as early as 98 ms when the lock bit was 0 meanwhile (R25). -/
def State.limpAfter (s : State) (d : Die) : Nat := if (s.link d).unlockedSince || !s.locked d then 19600000 else 20000000

/-- LIMP_ENTRY (R25). -/
def State.limpEntry (s : State) (d : Die) : State :=
  let t := s.dieNow d
  let l := s.link d
  if (s.ana d).ready && (s.ana d).params && !l.limp && decide (l.lastBoundary + s.limpAfter d ≤ t) then
    let s1 := ((s.setLink d { l with limp := true }).limpUnits d t).raiseD d (0x0D01 + dieNum d) 0x20 t
    if s1.started ∧ s1.power = Pw.run then s1.powerGo Pw.limp s1.now else s1
  else s

def execLimpEntry (d : Die) (s : State) : Res := .next (s.limpEntry d)

/-- The power state after a die left limp (R415). -/
def State.limpLeft (s : State) (t : Nat) : State :=
  if s.power = Pw.limp ∧ s.runState = Pw.run then s.powerGo Pw.run t else s

/-! ### Shutdown at a boundary (R425, R427) -/

/-- A CAN request is past its start-of-frame. -/
def State.canInFlight (s : State) (t : Nat) (o : HostOp) : Bool :=
  let x := s.canC (o.fld 16 1)
  decide (o.opcode = 0x20) && o.begun && x.cur.isSome && decide (x.cur = x.slotOf t)

/-- No CAN frame is past its start-of-frame and no LIN frame in progress (R260, R273). -/
def State.busesIdle (s : State) : Bool :=
  (List.range 12).all (fun c => (s.canC c).cur.isNone) && (List.range 10).all (fun n => !(s.linC n).ending || (s.linC n).hdr.isNone)

/-- The frames in progress are cut off. -/
def State.busesCut (s : State) : State :=
  let s1 := (List.range 12).foldl (fun s c => s.setCanC c { s.canC c with cur := none, after := .none }) s
  (List.range 10).foldl (fun s n => s.setLinC n { s.linC n with hdr := none, ending := false }) s1

/-- A ring operation at the last boundary (R427): it completes ABORTED_DISABLED, a CAN frame past its start-of-frame at its end (R260). -/
def State.parkOp (s : State) (t : Nat) (o : HostOp) : State :=
  if s.canInFlight t o then s else
  if o.opcode = 0x61 ∨ o.opcode = 0x62 then (s.forgetTags (fun k => decide (k = t))).complete t St.aborted else s.drainOp t o

/-- Every event still queued becomes a record. -/
def State.flushEvents (s : State) : State := (List.range 66).foldl (fun s _ => s.eventRecord) s

/-- Step 2 of the park sequence on die L (R427); the host interface stops once no frame is in progress. -/
def State.parkL (s : State) (b : Nat) : State :=
  let ops := sortBy (fun x y => decide (x.2.order ≤ y.2.order)) s.host.ops
  let s1 := ops.foldl (fun s p => s.parkOp p.1 p.2) s
  let s2 := s1.canDisableAll (List.range 12)
  let s3 := (List.range 10).foldl (fun s n => s.linDisable n none) s2
  let s4 := (List.range 4).foldl (fun s p => if s.flag (Reg.ETH_PCFG.ENABLE p) then s.ethPortReset p else s) s3
  let s5 := ((s4.ethStop 4).cryDisable.accDisable).event 0x0D84 b (b % 2 ^ 32)
  let s6 := (List.range 256).foldl (fun s r => s.fltMram r) s5.flushEvents
  let s7 := if s6.busesIdle then s6.evrPark.hostStop else s6.evrPark
  { s7.wr Reg.RFX_STAT.ENGINE 0 with tb := { s7.tb with framesOn := false }, rfx := { s7.rfx with placed := [], todo := [] } }

/-- The last boundary b (R425 to R427): reached without quiescence it was forced, which SHUTDOWN_TIMEOUT reports. -/
def State.lastBoundary (s : State) (b : Nat) (forced : Bool) : State :=
  let s1 := s.parkL b
  { s1 with pow := { s1.pow with lastBound := some b, forcedDue := forced } }

/-- SHUTDOWN_TIMEOUT (R425): the shutdown was forced. -/
def State.shutdownTimeout (s : State) : State :=
  if s.started ∧ s.pow.forcedDue then
    let s1 := ((s.raiseFlag Reg.PWR_ERR.FORCED).raiseL 0x0D00 0x24 s.now).event 0x0D85 s.now
    { s1 with pow := { s1.pow with forcedDue := false } }
  else s

def execShutdownTimeout (s : State) : Res := .next s.shutdownTimeout

/-- Votes at boundary b (R424, R425): SHUTDOWN begins, or a withdrawn vote ends it. -/
def State.voteBoundary (s : State) (b : Nat) : State :=
  let s1 := s.showVote
  let go := s1.votesPark s1.programVote
  if go ∧ (s1.power = Pw.run ∨ s1.power = Pw.limp) then
    let v := s1.rd ⟨Reg.PWR_STAT.VOTEP.off, 12, 2⟩
    (({ s1 with pow := { s1.pow with shutdownAt := b } } : State).event 0x0D83 b v).powerGo Pw.shutdown b
  else if !go ∧ s1.power = Pw.shutdown then (s1.event 0x0D86 b).powerGo s1.runState b
  else s1

end Sys2Proof.Machine
end

