-- ==== Sys2Proof/Machine/Frames.lean ====
section
/-! DEFINITION. The frame cycle (R20 to R26, R36 to R39, R43, R44): frame 0, the boundary and the seal on die L, the staging close, and a die's own boundary. -/

namespace Sys2Proof.Machine

/-! ### RUN is reached (R420, R423, R429) -/

/-- Faults that wait for the next RUN (R429). -/
def State.runFaults (s : State) (t : Nat) : State :=
  let s1 := if s.pow.wakeFailed then s.raiseL 0x0D00 0x21 t else s
  let s2 := ((List.range 3).filter (fun r => bitOf s.pow.railLost r)).foldl (fun s r => s.raiseL (0x0D10 + r) 0x22 t) s1
  let s3 := if s.pow.parkFailed then s2.raiseL 0x0D00 0x25 t else s2
  { s3 with pow := { s3.pow with wakeFailed := false, parkFailed := false, railLost := 0, ball := false } }

/-- P1 of the wake record (R430): the source bits, and for a wake by an input the source identifier of the lowest-numbered one in the upper half (R194). -/
def State.wakeNames (s : State) : Nat :=
  s.pow.src + (match s.pow.wakeInput with
    | some n => if bitOf s.pow.src 0 then 65536 * inputSrc n else 0
    | none => 0)

/-- WAKING ends at frame 0 (R415, R423): a wake is counted and recorded; after a device reset there is none. -/
def State.enterRun (s : State) (t : Nat) : State :=
  let s1 := if s.pow.waking then
      ((s.event 0x0D80 t s.wakeNames s.pow.attempt (s.rd Reg.PWR_PARKT.SEC)).count Reg.PWR_CNT.WAKES 1).wr Reg.PWR_WAKE.ATTEMPT s.pow.attempt else s
  let s2 := s1.runFaults t
  ({ s2 with pow := { s2.pow with waking := false } } : State).powerGo s2.runState t

/-! ### Frame 0 (R36) -/

/-- Every die whose main domain is ready has confirmed the active parameters (R36). -/
def State.diesConfirmed (s : State) : Bool :=
  allDies.all (fun d => !s.domReady d || SMap.get (fun _ => false) s.tb.dieConfirmed (dieNum d))

/-- Breaks that the frame which begins at b has from its first tick (R40, R43). -/
def State.frameBreaks (s : State) (b : Nat) : State :=
  let s1 := if s.tbSt = .degraded ∧ !s.returnDue b then s.breakNow 2 else s
  if allDies.all (fun d => s1.locked d) then s1 else s1.breakNow 5

/-- The next frame of the count begins at b as frame number f. -/
def State.beginFrame (s : State) (b f : Nat) : State :=
  let s1 := (s.wr Reg.TIME_FRAME.F f).wr64 Reg.TIME_BOUND.B b
  { s1 with tb := { s1.tb with framesOn := true, run := s1.tb.run + 1, sealed := false, closed := false },
            led := { s1.led with staged := [] } }

/-- The frames from here on have no anchor: no bank is ACTIVE (R396). -/
def State.noAnchor (s : State) : State :=
  ({ s with tb := { s.tb with anchorSet := false, anchorBroken := true } } : State).wr Reg.TIME_DETNOW.HOLD 0

/-- Frame 0 begins at tick b. -/
def State.frameZero (s : State) (b : Nat) : State :=
  let s1 := (s.beginFrame b 0).wr Reg.RFX_STAT.ENGINE 1
  let s2 : State := { s1 with tb := { s1.tb with t0 := b, run0 := s1.tb.run, prevP := 0, imgRun := s1.tb.run }, led := { s1.led with changed := [] } }
  let s3 := if s2.hasBank then s2.anchorHere else s2.noAnchor
  ((s3.engineBoundary false b 0).frameBreaks b).enterRun b

/-- FRAME_ZERO_START (R36): the first tick that is a multiple of 2,000 once the time base has left STARTING and the dies have confirmed. -/
def State.frameZeroStart (s : State) : State :=
  if s.started && !s.tb.framesOn && decide (s.tbSt ≠ .starting) && decide (s.now % 2000 = 0) && decide (s.power = Pw.waking) && s.diesConfirmed then
    s.frameZero s.now
  else s

def execFrameZeroStart (s : State) : Res := .next s.frameZeroStart

/-! ### The boundary on die L (R20, R21, R37, R44) -/

/-- The current frame completes: a broken one ends HOLD; a clean one after a broken anchor makes the boundary it began at the anchor (R44). -/
def State.frameDone (s : State) : State :=
  if s.tb.broken.contains s.tb.run then s.wr Reg.TIME_DETNOW.HOLD 0
  else if s.tb.anchorSet ∧ s.tb.anchorBroken ∧ s.tb.anchorAfter < s.tb.run then
    let s1 := (s.wr Reg.TIME_DETANCHOR.F (s.rd Reg.TIME_FRAME.F)).wr Reg.TIME_DETNOW.HOLD 1
    { s1 with tb := { s1.tb with anchorBroken := false } }
  else s

/-- A staged write is committed at boundary b (R21); a door entry may end the session (R349). -/
def State.stagedCommit (b : Nat) (s : State) (x : Nat × W64 × Nat × List Byte) : State :=
  (s.commitStaged b x.1 x.2.1 x.2.2.1 x.2.2.2).doorUpdate x.1 x.2.1 b

/-- The staged writes of the frame that ends at b are committed in ascending entry order (R21), and the access engine meets its CMD word (R351). -/
def State.commitStagedAll (s : State) (b : Nat) : State :=
  let s1 := s.led.staged.foldl (State.stagedCommit b) s
  match s.led.staged.find? (fun x => decide (x.1 = 0x3000)) with
  | some x => s1.accCmd x.2.1.toNat
  | none => s1

/-- A commit whose selector is written becomes active at b (R400). -/
def State.activateDue (s : State) (b : Nat) : Bool × State :=
  match s.cfg.op with
  | some op => if op.selected then (true, s.activate op b) else (false, s)
  | none => (false, s)

/-- A frame begins at boundary b. -/
def State.nextFrame (s : State) (b : Nat) : State :=
  let f := (s.rd Reg.TIME_FRAME.F + 1) % 2 ^ 32
  let a := (s.beginFrame b f).activateDue b
  (((a.2.engineBoundary a.1 b f).frameBreaks b).sleepAll).voteBoundary b

/-- The frame cycle ends at b (R427). -/
def State.endFrames (s : State) (b : Nat) : State :=
  let s1 := (s.activateDue b).2
  s1.lastBoundary b (!s1.quiescent)

/-- FRAME_BOUNDARY (R20, R37). -/
def State.frameBoundary (s : State) : State :=
  let b := s.bound + s.period
  if s.started && s.tb.framesOn && s.tb.closed && decide (b ≤ s.now) then
    let s1 := s.showUsedAll.frameDone.commitStagedAll b
    if s1.pow.parkSent then s1.endFrames b else s1.nextFrame b
  else s

def execFrameBoundary (s : State) : Res := .next s.frameBoundary

/-! ### The seal (R20, R38, R63, R203) -/

/-- Encode record r falls due in the frame that is sealed (R63). -/
def State.encDue (s : State) (r : EncRec) : Bool × Bool :=
  (decide (r.cyclic ≠ 0) && decide ((s.tb.run - s.tb.imgRun) % r.cyclic = 0), r.change && r.sigs.any (fun g => s.led.changed.contains g.entry))

/-- A built PDU goes to its bus. -/
def State.encSend (s : State) (k : Nat) (r : EncRec) (p : TxPdu) (byChange : Bool) : State :=
  match r.bus with
  | 0 => s.canBuild k r p
  | 1 => s.linBuild r p byChange
  | _ => s.ethBuild k r p

/-- Encode record k at the seal. -/
def State.encStep (s : State) (x : EncRec × Nat) : State :=
  let due := s.encDue x.1
  if due.1 || due.2 then
    match s.buildRec x.2 x.1 with
    | (none, s1) => s1
    | (some p, s1) => s1.encSend x.2 x.1 p due.2
  else s

/-- The snapshot of the frame is complete (R20, R38), and the updates that belong to the next one meet the ledger under construction. -/
def State.takeSnap (s : State) : State :=
  let s1 : State := { s with
    led := { s.led with snap := s.led.base, snapTick := s.bound, snapFrame := s.rd Reg.TIME_FRAME.F, future := [] },
    tb := { s.tb with sealed := true } }
  s.led.future.foldl (fun s u =>
    match s.attr u.idx with
    | none => s
    | some a => s.commitBase a u) s1

/-- SNAPSHOT_SEAL (R20, R63, R203): `ready` tells which cores report themselves ready. -/
def State.snapshotSeal (s : State) (ready : List Bool) : State :=
  if s.started && s.tb.framesOn && !s.tb.sealed && decide (s.bound + 400 ≤ s.now) then
    let s1 := s.takeSnap
    let s2 := s1.img.enc.zipIdx.foldl State.encStep s1
    (({ s2 with led := { s2.led with changed := [] } } : State).lanternsBuild).startPrograms ready
  else s

def execSnapshotSeal (ready : List Bool) (s : State) : Res := .next (s.snapshotSeal ready)

/-! ### The staging close (R21, R37, R205, R400, R427) -/

/-- A die that takes part in the frame cycle: its main domain is ready or sleeps (R418). -/
def State.listens (s : State) (d : Die) : Bool := s.domReady d || s.asleep d

/-- Bank k enters a state (R397). -/
def State.setBankSt (s : State) (k st : Nat) : State := s.wr (if k = 0 then Reg.CFG_STAT.STATEA else Reg.CFG_STAT.STATEB) st

/-- The state of bank k (R397). -/
def State.bankSt (s : State) (k : Nat) : Nat := s.rd (if k = 0 then Reg.CFG_STAT.STATEA else Reg.CFG_STAT.STATEB)

/-- The bank selector is written (R400): the bank of the operation becomes ACTIVE, the old one PREVIOUS. -/
def State.selectBank (s : State) (op : CfgOp) : State :=
  let s1 := if s.hasBank then s.setBankSt s.activeBank 4 else s
  let s2 := ((s1.setBankSt op.bank 3).wr Reg.CFG_STAT.ACTIVE op.bank).wr Reg.CFG_STAT.AVALID 1
  { s2 with cfg := { s2.cfg with op := some { op with selected := true } } }

/-- The selector is written at the staging close once every die has acknowledged (R400). -/
def State.selectDue (s : State) : Bool × State :=
  match s.cfg.op with
  | some op => if op.waits = [] ∧ !op.selected then (true, s.selectBank op) else (false, s)
  | none => (false, s)

/-- The staged writes of the frame whose targets die d owns. -/
def State.stagedFor (s : State) (d : Die) : List DieWrite :=
  (s.led.staged.filter (fun x => decide (cmdDie x.1 = some d))).map (fun x => { idx := x.1, value := x.2.1 })

/-- The engine is or stays HALTED at boundary b, as far as its programs under the image that will be active decide (R213, R400). -/
def State.staysHalted (s : State) (b : Nat) : Bool :=
  match s.cfg.op with
  | some op => decide (((s.loadImage op.regs op.img).engineBoundary true b 0).engine = 2)
  | none => true

/-- Die L sends die d its staged writes and, behind them, its close message (R37); in HALTED only the activation message of a commit (R213). -/
def State.closeDie (b : Nat) (act park : Bool) (s : State) (d : Die) : State :=
  if !s.listens d then s
  else
    let ws := if s.engine = 1 then s.stagedFor d else []
    let c : CloseMsg := { f1 := (s.rd Reg.TIME_FRAME.F + 1) % 2 ^ 32, count := ws.length, bound := b, act := act,
                          only := decide (s.engine = 2) && act && s.staysHalted b, park := park }
    if s.engine = 1 ∨ act then (ws.foldl (fun s w => s.sendDown d (.staged w b)) s).sendDown d (.close c) else s

/-- STAGING_CLOSE (R37). -/
def State.stagingClose (s : State) : State :=
  let b := s.bound + s.period
  if s.started && s.tb.framesOn && s.tb.sealed && !s.tb.closed && decide (b ≤ s.now + 2000) then
    let park := s.parksAt b
    let s1 := if s.engine = 1 then s.closeCores else s
    let s2 : State := { s1 with tb := { s1.tb with closed := true }, pow := { s1.pow with parkSent := park } }
    let a := s2.selectDue
    allDies.foldl (State.closeDie b a.1 park) a.2
  else s

def execStagingClose (s : State) : Res := .next s.stagingClose

/-! ### A die's link (R35, R37) -/

/-- A staged write or close message for boundary b arrives more than 400 ticks after its sending (R16, R35). -/
def State.downLate (s : State) (d : Die) (b : Nat) : State := if b < s.now + 1600 then s.linkFault d else s

/-- The writes that die d holds for boundary b. -/
def DieLink.writesFor (l : DieLink) (b : Nat) : List DieWrite := (l.held.filter (fun x => decide (x.2 = b))).map (fun x => x.1)

/-- The held writes of boundary b become late writes of the next boundary. -/
def DieLink.makeLate (l : DieLink) (b : Nat) : DieLink :=
  { l with late := l.late ++ l.writesFor b, held := l.held.filter (fun x => decide (x.2 ≠ b)),
           short := l.short.filter (fun c => decide (c.bound ≠ b)) }

/-- A staged write comes to die d; one that completes the set of an earlier boundary makes that set late (R37). -/
def State.holdWrite (s : State) (d : Die) (w : DieWrite) (b : Nat) : State :=
  let l : DieLink := { s.link d with held := (s.link d).held ++ [(w, b)] }
  s.setLink d (if l.short.any (fun c => decide (c.bound = b) && decide ((l.writesFor b).length = c.count)) then l.makeLate b else l)

/-- STAGED_WRITE_ARRIVAL (R37). -/
def State.stagedArrives (s : State) (d : Die) : State :=
  match s.popDown d with
  | some (.staged w b, s1) => (s1.downLate d b).holdWrite d w b
  | _ => s

def execStagedWriteArrival (d : Die) (s : State) : Res := .next (s.stagedArrives d)

/-- A close message that comes after its boundary (R35): its writes are late, and a park flag acts at the tick of its arrival. -/
def State.closeLate (s : State) (d : Die) (c : CloseMsg) : State :=
  let l := s.link d
  let l1 : DieLink := if (l.writesFor c.bound).length = c.count then l.makeLate c.bound else { l with short := l.short ++ [c] }
  let l2 : DieLink := { l1 with lateAct := if c.act then some c.bound else l1.lateAct,
                                close := if c.park then some { c with bound := s.dieNow d, count := 0, act := false } else l1.close }
  (s.setLink d l2).breakNow 4

/-- FRAME_CLOSE_MESSAGE (R37). -/
def State.closeArrives (s : State) (d : Die) : State :=
  match s.popDown d with
  | some (.close c, s1) =>
    let s2 := s1.downLate d c.bound
    if c.bound < s2.dieNow d then s2.closeLate d c else s2.setLink d { s2.link d with close := some c }
  | _ => s

def execFrameCloseMessage (d : Die) (s : State) : Res := .next (s.closeArrives d)

/-! ### A die's boundary (R26, R35, R37, R73, R86, R400, R427) -/

/-- Words applied at tick t in their order. -/
def State.applyWrites (s : State) (ws : List DieWrite) (t : Nat) : State := ws.foldl (fun s w => s.applyWrite w t) s

/-- Die d leaves limp at boundary t (R26). -/
def State.leaveLimp (s : State) (d : Die) (t : Nat) : State :=
  if s.inLimp d then ((s.setLink d { s.link d with limp := false }).unlimpUnits d t).limpLeft t else s

/-- The words that die L resends (R439) and the late writes (R35) come before the boundary's own. -/
def State.applyLate (s : State) (d : Die) (t : Nat) : State :=
  let l := s.link d
  (s.setLink d { l with resend := [], late := [] }).applyWrites (l.resend ++ l.late) t

/-- The writes of the frame that ends at the boundary: the whole set or none of it (R37).  A late-apply break found here breaks the frame that die L is in at that moment (DESIGN CHOICE, log entry 13). -/
def State.applyOwn (s : State) (d : Die) (c : CloseMsg) : State :=
  let l := s.link d
  if (l.writesFor c.bound).length = c.count then
    (s.setLink d { l with held := l.held.filter (fun x => decide (x.2 ≠ c.bound)) }).applyWrites (l.writesFor c.bound) c.bound
  else (s.setLink d { l with short := l.short ++ [c] }).breakNow 4

/-- The die takes its pending parameters at boundary t (R400). -/
def State.takePending (s : State) (d : Die) (t : Nat) : State :=
  match (s.link d).params with
  | none => s
  | some regs => (s.setLink d { s.link d with params := none, lateAct := none }).dieTakes d regs t

/-- Frames in which the die still ran on the old parameters after boundary b0 are late-apply breaks (R400). -/
def State.lateActBreak (s : State) (b0 t : Nat) : State :=
  let n := s.frameOfStamp b0 - 1
  s.detBreak 4 (s.frameValue n) ((List.range (s.frameOfStamp t - 1)).drop n)

/-- Parameters at a boundary that carries the activate flag, or that is the first after a late one (R400). -/
def State.paramsAt (s : State) (d : Die) (act : Bool) (t : Nat) : State :=
  match (s.link d).lateAct with
  | some b0 => (s.lateActBreak b0 t).takePending d t
  | none => if act then s.takePending d t else s

/-- The sides of unit m that changed start their edges k ticks later than the boundary (R120). -/
def State.slotMotor (s : State) (o : Motor) (m k : Nat) : State :=
  let x := s.motor m
  let go := fun (h g : HbSide) => if h.cmd = g.cmd then g else { g with onAt := g.onAt + k, offAt := g.offAt + k }
  s.setMotor m { x with a := go o.a x.a, b := go o.b x.b }

/-- Gate edges of a boundary start 4 ticks apart: HS channels, PD channels, then motor units, each in ascending order (R73, R120, R142); `o` is the state before. -/
def State.edgeSlots (s o : State) (d : Die) (t : Nat) : State :=
  let us := (chansOf d).filter (fun u => decide ((o.chan u).on ≠ (s.chan u).on))
  let s1 := us.zipIdx.foldl (fun s x => s.setChan x.1 { s.chan x.1 with edge := t + 4 * x.2 }) s
  let ms := (motorsOf d).filter (fun m => decide ((o.motor m).a.cmd ≠ (s.motor m).a.cmd) || decide ((o.motor m).b.cmd ≠ (s.motor m).b.cmd))
  ms.zipIdx.foldl (fun s x => s.slotMotor (o.motor x.1) x.1 (4 * (us.length + x.2))) s1

/-- Sequencers stopped by an overrun go on (R138, R156, R335). -/
def State.seqsGo (s : State) (d : Die) : State :=
  match d with
  | .v =>
    let s1 := (List.range 6).foldl (fun s b => s.setBank b { s.bank b with seq := { (s.bank b).seq with stopped := false } }) s
    { s1 with acc := { s1.acc with lf := { s1.acc.lf with stopped := false } } }
  | _ => s.setSeq (dieNum d) { s.seq (dieNum d) with stopped := false }

/-- Every unit of the die enters its park state (R416, R427); a valve channel that is not quiescent takes its limp state OFF (R167). -/
def State.parkUnits (s : State) (d : Die) (t : Nat) : State :=
  match d with
  | .v =>
    let vs := (List.range 24).filter (fun n => s.vEnabled n)
    let s1 := if vs.any (fun n => decide (s.vSt n ≠ .idle)) then vs.foldl (fun s n => (s.limpOff n t).showLimp n t) s else s
    let s2 := ((List.range 48).filter (fun n => s.lEnabled n)).foldl State.blankLed s1
    { s2.wr Reg.VLV_BSTSTAT.READY 0 with bst := {} }
  | _ => ((motorsOf d).filter (fun m => s.mEnabled m)).foldl (fun s m => s.mEnter m .idle t)
      (((chansOf d).filter (fun u => s.chEnabled u)).foldl (fun s u => s.enter u .off t) s)

/-- The die has reached the boundary of close message c. -/
def State.boundaryReached (s : State) (d : Die) (c : CloseMsg) : State :=
  s.setLink d { s.link d with lastBoundary := c.bound, unlockedSince := !s.locked d }

/-- The applied words that clear PHOLD at this boundary (R134). -/
def State.pholdAll (s : State) (d : Die) (t : Nat) : State := ((motorsOf d).filter (fun m => s.mEnabled m)).foldl (fun s m => s.pholdCheck m t) s

/-- A boundary of a die whose main domain runs (R26, R37, R86, R123, R134, R400). -/
def State.boundaryAwake (s : State) (d : Die) (c : CloseMsg) : State :=
  let t := c.bound
  let s0 := s.stepBefore d t
  let s1 := ((((s0.leaveLimp d t).applyLate d t).actClears d t).applyOwn d c).pholdAll d t
  let s2 := (s1.paramsAt d c.act t).edgeSlots s0 d t
  let s3 := (s2.seqsGo d).boundaryReached d c
  if c.park then (s3.parkUnits d t).edgeSlots s3 d t else s3

/-- An activation that is no boundary (R400): a die in limp applies the limp states of the new image. -/
def State.activateOnly (s : State) (d : Die) (c : CloseMsg) : State :=
  let s1 := s.paramsAt d c.act c.bound
  if s1.inLimp d then s1.limpUnits d c.bound else s1

/-- DIE_BOUNDARY_APPLY (R37): a sleeping die has nothing to apply (R418). -/
def State.dieBoundary (s : State) (d : Die) : State :=
  match (s.link d).close with
  | none => s
  | some c =>
    if s.dieNow d < c.bound then s
    else
      let s1 := s.setLink d { s.link d with close := none }
      if !s1.domReady d then (if c.only then s1 else (s1.setLink d { s1.link d with params := none }).boundaryReached d c)
      else if c.only then s1.activateOnly d c
      else s1.boundaryAwake d c

def execDieBoundaryApply (d : Die) (s : State) : Res := .next (s.dieBoundary d)

end Sys2Proof.Machine
end

