-- ==== Sys2Proof/Machine/Layout.lean ====
section
/-! DEFINITION. The image (R394, R395): its header, its section table, and its sections as registers and tables.  The packing of the records of DECODE, ENCODE, CODE and LINSCHED is left open by the spec and is a constant of `Config`. -/

namespace Sys2Proof.Config

open Sys2Proof.Machine

/-- The DECODE section as records; none where it cannot be read (R395: the tables of R60 give no field widths). -/
opaque decodeSection : List Byte → Option (List DecRec)

/-- The ENCODE section as records (R63, R64, R325: no field widths). -/
opaque encodeSection : List Byte → Option (List EncRec)

/-- The CODE section as program records by index and code words by address (R199, R201, R206: no field widths). -/
opaque codeSection : List Byte → Option (SMap (Option Prog) × SMap W32)

/-- The LINSCHED section as the tables of each channel (R268, R270: no field widths). -/
opaque linSection : List Byte → Option (SMap LinChan)

end Sys2Proof.Config

namespace Sys2Proof.Machine

/-! ### Bytes of a bank -/

/-- The bytes of bank k; MRAM that nothing wrote reads 0 (log entry 3). -/
def State.bankBytes (s : State) (k : Nat) : SMap Byte := if k = 0 then s.cfg.bytesA else s.cfg.bytesB

/-- `n` bytes of a bank from `off` on. -/
def bankSlice (m : SMap Byte) (off n : Nat) : List Byte := (List.range n).map (fun i => SMap.get (fun _ => 0#8) m (off + i))

/-- A little-endian field of a bank. -/
def bankField (m : SMap Byte) (off n : Nat) : Nat := leNat (bankSlice m off n)

/-! ### The header (R394) -/

def imgNode (m : SMap Byte) : Nat := bankField m 9 1 % 64
def imgGen (m : SMap Byte) : Nat := bankField m 10 2
def imgVersion (m : SMap Byte) : Nat := bankField m 12 4
def imgLen (m : SMap Byte) : Nat := bankField m 16 4
def imgNsect (m : SMap Byte) : Nat := bankField m 20 2
def imgDigest (m : SMap Byte) : List Byte := bankSlice m 32 32
def imgTag (m : SMap Byte) : List Byte := bankSlice m 64 16

/-- The short digest as a number (R394). -/
def imgShort (m : SMap Byte) : Nat := bankField m 32 8

/-- A row of the section table: TYPE, a zero field, OFFSET and LENGTH. -/
structure SectRow where
  type : Nat
  zero : Nat
  off : Nat
  len : Nat
  deriving DecidableEq, Repr

/-- Row i of the section table. -/
def sectRow (m : SMap Byte) (i : Nat) : SectRow :=
  let b := 128 + 12 * i
  { type := bankField m b 2, zero := bankField m (b + 2) 2, off := bankField m (b + 4) 4, len := bankField m (b + 8) 4 }

/-- The rows in use. -/
def sectRows (m : SMap Byte) : List SectRow := (List.range (min (imgNsect m) 64)).map (sectRow m)

/-- A section lies at or above byte 1,024 and within LEN, and its type is one of the table's (R395). -/
def sectOk (len : Nat) (r : SectRow) : Bool :=
  decide (1 ≤ r.type) && decide (r.type ≤ 8) && decide (r.zero = 0) && decide (1024 ≤ r.off) && decide (r.off + r.len ≤ len)

/-- Two sections differ in type and do not overlap. -/
def sectApart (a b : SectRow) : Bool := decide (a.type ≠ b.type) && (decide (a.off + a.len ≤ b.off) || decide (b.off + b.len ≤ a.off))

/-- Every two members of a list are apart. -/
def allApart {α : Type} (r : α → α → Bool) : List α → Bool
  | [] => true
  | x :: xs => xs.all (r x) && allApart r xs

/-- The section table is as R395 requires. -/
def sectionsOk (m : SMap Byte) : Bool :=
  let rs := sectRows m
  rs.all (sectOk (imgLen m)) && allApart sectApart rs && rs.any (fun r => decide (r.type = 1))
    && ((List.range 64).drop (imgNsect m)).all (fun i => decide (bankField m (128 + 12 * i) 12 = 0))

/-- The header checks of VERIFY (R399). -/
def State.headerOk (s : State) (m : SMap Byte) : Bool :=
  decide (bankField m 0 4 = 0x31425A4E) && decide (bankField m 4 2 = 1) && decide (bankField m 6 2 = s.rd Reg.SYS_ID.PART)
    && decide (bankField m 8 1 = s.rd Reg.SYS_ID.STEP) && decide (4096 ≤ imgLen m) && decide (imgLen m ≤ 2097152) && decide (imgLen m % 4 = 0)
    && decide (1 ≤ imgNsect m) && decide (imgNsect m ≤ 64) && sectionsOk m

/-- The bytes that DIGEST covers: bytes 32 to 79 read as 0. -/
def digestInput (m : SMap Byte) : List Byte := bankSlice m 0 32 ++ List.replicate 48 0#8 ++ bankSlice m 80 (imgLen m - 80)

/-- SHA-256 of the image equals DIGEST (R399). -/
def digestOk (m : SMap Byte) : Bool := decide (sha256 (digestInput m) = imgDigest m)

/-! ### Sections (R395) -/

/-- The bytes of the section with a type, if the image has it. -/
def sectBytes (m : SMap Byte) (t : Nat) : Option (List Byte) :=
  ((sectRows m).find? (fun r => decide (r.type = t))).map (fun r => bankSlice m r.off r.len)

/-- The bytes of an optional section. -/
def sectionOf (m : SMap Byte) (t : Nat) : List Byte := (sectBytes m t).getD []

/-- Records of n bytes laid end to end; none where bytes remain.  `k` bounds their number. -/
def recordsOf (n : Nat) : Nat → List Byte → Option (List (List Byte))
  | _, [] => some []
  | 0, _ => none
  | k + 1, b => if b.length < n then none else (recordsOf n k (b.drop n)).map (fun r => b.take n :: r)

/-- The REGS section as pairs of offset and value. -/
def regPairs (b : List Byte) : Option (List (Nat × Nat)) :=
  (recordsOf 8 b.length b).map (fun rs => rs.map (fun r => (byteField r 0 4, byteField r 4 4)))

/-- The register words of an image. -/
def regsOf (ps : List (Nat × Nat)) : SMap W32 := ps.foldl (fun m p => SMap.set resetWord m p.1 (BitVec.ofNat 32 p.2)) []

/-- Each pair names a register with RWL fields, once, and sets no other bit (R395). -/
def regPairsOk (ps : List (Nat × Nat)) : Bool :=
  ps.all (fun p => decide (rwlMask p.1 ≠ 0#32) && decide (BitVec.ofNat 32 p.2 &&& ~~~(rwlMask p.1) = 0#32))
    && allApart (fun a b => decide (a.1 ≠ b.1)) ps

/-- The owner class that a code names (R49). -/
def ownerOf : Nat → Owner
  | 0 => .unit
  | 1 => .decode
  | 2 => .program
  | _ => .host

/-- An attribute record: FRESHINT, KIND, WIDTH, OWNER and BLOBLEN, each in whole bytes (R49, R395); none where a field is out of range. -/
def attrOf (r : List Byte) : Option Attr :=
  let kind := byteField r 4 1
  let width := byteField r 5 1
  let own := byteField r 6 1
  let len := byteField r 7 1
  if 3 < kind ∨ 3 < own ∨ (kind = 3 ∧ (len < 2 ∨ 128 < len)) ∨ (kind ≠ 3 ∧ (width < 1 ∨ 64 < width)) then none
  else some { freshint := byteField r 0 4, kind := kind, width := if kind = 3 then 64 else width, owner := ownerOf own, bloblen := if kind = 3 then len else 2 }

/-- Every member of a list is some. -/
def allSome {α : Type} : List (Option α) → Option (List α)
  | [] => some []
  | none :: _ => none
  | some x :: l => (allSome l).map (fun r => x :: r)

/-- The ATTR section: record k is that of entry 0x04000 + k (log entry 41). -/
def attrsOf (b : List Byte) : Option (List Attr) :=
  match recordsOf 8 b.length b with
  | none => none
  | some rs => if 0x1C000 < rs.length then none else allSome (rs.map attrOf)

/-- The attribute map. -/
def attrMap (as : List Attr) : SMap (Option Attr) := as.zipIdx.map (fun x => (0x4000 + x.2, some x.1))

/-- Where the three slots of each blob entry begin (R59): in index order from the start of the blob area. -/
def blobBases : Nat → List (Attr × Nat) → SMap Nat
  | _, [] => []
  | ofs, (a, k) :: l =>
    if a.kind = 3 then (if ofs = 0 then blobBases (3 * slotBytes a) l else (0x4000 + k, ofs) :: blobBases (ofs + 3 * slotBytes a) l)
    else blobBases ofs l

/-- The VLAN section: VID, member mask and untagged mask (R278, R395). -/
def vlanOf (b : List Byte) : Option (List VlanRec) :=
  (recordsOf 4 b.length b).map (fun rs => rs.map (fun r => { vid := byteField r 0 2, members := byteField r 2 1, untagged := byteField r 3 1 }))

/-- An entry of the expected-peer list (R408). -/
def peerOf (r : List Byte) : PeerRec :=
  { node := byteField r 0 1, required := bitOf (byteField r 1 1) 0, nextok := bitOf (byteField r 1 1) 1,
    gen1 := byteField r 8 2, ver1 := byteField r 12 4, dig1 := byteField r 16 8, gen2 := byteField r 24 2, ver2 := byteField r 28 4, dig2 := byteField r 32 8 }

/-- The expected-peer list. -/
def peersOf (b : List Byte) : Option (List PeerRec) := (recordsOf 40 b.length (b.drop 20)).map (fun rs => rs.map peerOf)

/-- The lantern addressing: MAC, IPv4 address, UDP port, VID, PCP and PDU identifier (R408). -/
def lanternAddr (b : List Byte) : List Nat :=
  if b.length < 20 then [] else [byteField b 0 6, byteField b 6 4, byteField b 10 2, byteField b 12 2, byteField b 14 1, byteField b 16 4]

/-- An optional section read by `f`; an absent one gives `z`. -/
def readSect {α : Type} (m : SMap Byte) (t : Nat) (z : α) (f : List Byte → Option α) : Option α :=
  match sectBytes m t with
  | none => some z
  | some b => f b

/-- The tables of the image in a bank; none where a section cannot be read. -/
def tablesOf (m : SMap Byte) : Option Tables := do
  let as ← readSect m 2 [] attrsOf
  let dec ← readSect m 3 [] Config.decodeSection
  let enc ← readSect m 4 [] Config.encodeSection
  let code ← readSect m 5 ([], []) Config.codeSection
  let lin ← readSect m 6 [] Config.linSection
  let vlan ← readSect m 7 [] vlanOf
  let peers ← readSect m 8 [] peersOf
  return { gen := imgGen m, version := imgVersion m, digest := imgDigest m, attrs := attrMap as, blobBase := blobBases 0 as.zipIdx,
           dec := dec, enc := enc, progs := code.1, code := code.2, lin := lin, vlan := vlan, peers := peers,
           lanternEth := lanternAddr (sectionOf m 8) }

/-- The registers and tables of the image in a bank. -/
def imageOf (m : SMap Byte) : Option (List (Nat × Nat) × Tables) :=
  match regPairs (sectionOf m 1), tablesOf m with
  | some ps, some t => some (ps, t)
  | _, _ => none

/-- The state as it is under the parameters of an image, for its checks. -/
def State.candidate (s : State) (regs : SMap W32) (t : Tables) : State := ({ s with img := { t with regs := regs } } : State).takeRegs regs (fun _ => true)

end Sys2Proof.Machine
end

