-- ==== Sys2Proof/Machine/Limits.lean ====
section
/-! DEFINITION. The commit-time limits of every chapter (R39, R49 to R413, R475), as tests on the state under an image's parameters. -/

namespace Sys2Proof.Machine

/-- `v` lies within a range. -/
def within (lo hi v : Nat) : Bool := decide (lo ≤ v) && decide (v ≤ hi)

/-! ### Switch channels (R69, R70, R79, R80, R83, R87, R93, R100, R109, R113) -/

/-- The ISHORT range of a channel, its digitizer limit for IOVL and ILIM in units of 50 mA (none for a PD channel), and the highest FREQ of a lamp (R69, R93, R109). -/
def chanLimits (u : Nat) : Nat × Nat × Option Nat × Nat :=
  if u < 8 then (40, 240, some 640, 500)
  else if u < 24 then (20, 120, some 320, 1000)
  else if u < 48 then (8, 48, some 120, 2000)
  else (20, 240, none, 500)

/-- A current in units of 50 mA lies within the full scale of a channel (R69, R78). -/
def State.chanScale (s : State) (u i : Nat) : Bool :=
  match (chanLimits u).2.2.1 with
  | some f => decide (i ≤ f)
  | none => decide (i * s.rd (Reg.PDRV_SENSE.RSH (u - 48)) ≤ (if s.flag (Reg.PDRV_SENSE.GAIN (u - 48)) then 100000 else 400000))

/-- Fields of a PD channel of its own (R70, R79, R81, R83). -/
def State.pdLimits (s : State) (n : Nat) : Bool :=
  within 50 500 (s.rd (Reg.PDRV_SENSE.RSH n)) && within 10 250 (s.rd (Reg.PDRV_SENSE.VDSTH n)) && within 5 100 (s.rd (Reg.PDRV_SENSE.VDSBLK n))
    && (!s.flag (Reg.PDRV_CFG.TSEN n) || decide (s.rd (Reg.PDRV_TS.SETV n) < s.rd (Reg.PDRV_TS.RELV n)))
    && decide (s.rd (Reg.PDRV_OC.ISHORT n) * s.rd (Reg.PDRV_SENSE.RSH n) ≤ (if s.flag (Reg.PDRV_SENSE.GAIN n) then 20000 else 80000))

/-- The inrush fields of a lamp channel (R100, R109). -/
def State.lampLimits (s : State) (u : Nat) : Bool :=
  let tw := s.rd (Reg.CH_INRUSH.TWIN u)
  let il := s.rd (Reg.CH_INRUSH.ILIM u)
  within 1 255 tw && decide (s.rd (Reg.CH_INRUSH.SOFT u) + 1 ≤ 10 * tw) && decide (s.rd (Reg.CH_OC.IOVL u) ≤ il)
    && decide (il * 50 < s.rd (Reg.CH_OC.ISHORT u) * 250) && s.chanScale u il && decide (s.rd (Reg.CH_PWM.FREQ u) ≤ (chanLimits u).2.2.2)

/-- The wick fields of a channel in the model (R87). -/
def State.wickRangeOk (s : State) (u : Nat) : Bool :=
  let cpm := s.rd (Reg.CH_WICK0.CPM u)
  let rcb := s.rd (Reg.CH_WICK1.RCB u)
  let g := s.rd (Reg.CH_CFG.BGRP u)
  decide (s.rd (Reg.CH_WICK0.RPM u) ≠ 0) && decide (cpm ≠ 0) && decide (rcb ≠ 0) && decide (1000 ≤ cpm * rcb)
    && decide (1000 ≤ s.rd (Reg.HSW_BGA.CB g) * s.rd (Reg.HSW_BGA.RBA g))
    && decide (signedOf 8 (s.rd (Reg.HSW_BGB.TAMB g)) < (s.rd (Reg.CH_WICK1.TLIM u) : Int) - s.rd (Reg.CH_WICK1.THYST u))

/-- The open-load fields (R113). -/
def State.olLimits (s : State) (u : Nat) : Bool :=
  if u < 48 then within 50 450 (s.rd (Reg.CH_OL.VTH u)) && within 1 255 (s.rd (Reg.CH_OL.TPER u))
  else within 50 450 (s.rd (Reg.PDRV_OL.VTH (u - 48))) && within 1 255 (s.rd (Reg.PDRV_OL.TPER (u - 48)))

/-- The limits of channel u, which hold only while it is enabled (R93). -/
def State.chanOk (s : State) (u : Nat) : Bool :=
  let l := chanLimits u
  let io := s.rd (Reg.CH_OC.IOVL u)
  let is := s.rd (Reg.CH_OC.ISHORT u)
  !s.chEnabled u ||
    (decide (s.rd (Reg.CH_CFG.LIMP u) ≠ 3) && within l.1 l.2.1 is && decide (io * 50 < is * 250) && s.chanScale u io
      && within 1 1000 (s.rd (Reg.CH_OC.TOVL u)) && within 1 255 (s.rd (Reg.CH_RETRY.DELAY u)) && within 1 255 (s.rd (Reg.CH_RETRY.REFILL u))
      && within 100 2000 (s.rd (Reg.CH_PWM.FREQ u)) && within 1 50 (s.rd (Reg.CH_WICK1.THYST u))
      && (decide (u < 48) || s.pdLimits (u - 48))
      && (!s.flag (Reg.CH_CFG.LAMP u) || s.lampLimits u)
      && (!s.flag (Reg.CH_CFG.WICKEN u) || s.wickRangeOk u)
      && (!s.flag (Reg.CH_CFG.OLEN u) || s.olLimits u))

/-- What all channels share (R94, R103). -/
def State.switchOk (s : State) : Bool :=
  (List.range 64).all (fun u => s.chanOk u) && within 600 3600 (s.rd Reg.HSW_COMPREF.VREF)
    && (List.range 16).all (fun g => decide (-40 ≤ signedOf 8 (s.rd (Reg.HSW_BGB.TAMB g))) && decide (signedOf 8 (s.rd (Reg.HSW_BGB.TAMB g)) ≤ 125))

/-! ### Bridges (R116, R117, R124, R126, R127, R133, R135, R136) -/

/-- Fields of a pre-driven unit, or of an integrated one. -/
def State.motorKindOk (s : State) (m : Nat) : Bool :=
  let is := s.rd (Reg.BRG_OC.ISHORT m)
  if m < 6 then
    within 20 240 is && within 50 500 (s.rd (Reg.BRG_SENSE.RSH m)) && within 10 250 (s.rd (Reg.BRG_SENSE.VDSTH m)) && within 5 100 (s.rd (Reg.BRG_SENSE.VDSBLK m))
      && decide (is * s.rd (Reg.BRG_SENSE.RSH m) ≤ (if s.flag (Reg.BRG_SENSE.GAIN m) then 20000 else 80000))
  else within 16 32 is && decide (s.rd (Reg.BRG_CFG.SIDEA m) ≠ s.rd (Reg.BRG_CFG.SIDEB m))

/-- The pinch fields (R133). -/
def State.pinchOk (s : State) (m : Nat) : Bool :=
  !s.flag (Reg.BRG_CFG.PINCHEN m) ||
    ((decide (s.rd (Reg.BRG_PINCH.PINCHI m) ≠ 0) || decide (s.rd (Reg.BRG_PINCH.PINCHP m) ≠ 0))
      && decide (signedOf 16 (s.rd (Reg.BRG_PZONE.PZLO m)) ≤ signedOf 16 (s.rd (Reg.BRG_PZONE.PZHI m))))

/-- The limits of motor unit m. -/
def State.motorOk (s : State) (m : Nat) : Bool :=
  decide (s.rd (Reg.BRG_CFG.BRKMODE m) ≠ 3) && decide (s.rd (Reg.BRG_CFG.CLMODE m) ≠ 3) && decide (s.rd (Reg.BRG_CFG.PARKIN m) ≤ 79)
    && within 10 250 (s.rd (Reg.BRG_PWM.FREQ m)) && within 20 400 (s.rd (Reg.BRG_PWM.DT m)) && within 5 255 (s.rd (Reg.BRG_OC.TOFF m))
    && decide (s.rd (Reg.BRG_OC.ILIM m) * 50 < s.rd (Reg.BRG_OC.ISHORT m) * 250)
    && within 1 255 (s.rd (Reg.BRG_TIME.TSTALL m)) && within 1 255 (s.rd (Reg.BRG_TIME.TRUN m)) && within 1 255 (s.rd (Reg.BRG_TIME.TBRAKE m))
    && within 1 65535 (s.rd (Reg.BRG_PINCH.REVCNT m)) && within 1 15 (s.rd (Reg.BRG_TRIP.TRIPLIM m))
    && (!s.flag (Reg.BRG_CFG.BEMFEN m) || decide (s.rd (Reg.BRG_BEMF.BEMFPER m) ≠ 0))
    && s.pinchOk m && s.motorKindOk m

/-! ### Valve banks (R166, R169 to R171) -/

/-- A profile in use. -/
def State.profileOk (s : State) (b p : Nat) : Bool :=
  let ip := s.rd (Reg.VLV_PROFA.IPEAK b p)
  let tp := s.rd (Reg.VLV_PROFA.TPEAK b p)
  decide (ip = 0) ||
    (within 10 400 ip && within 1 31 (s.rd (Reg.VLV_PROFA.TOFF b p)) && within 1 255 tp && within 1 tp (s.rd (Reg.VLV_PROFA.TRISE b p))
      && decide (s.rd (Reg.VLV_PROFB.IHOLD b p) ≤ 150) && within 1 31 (s.rd (Reg.VLV_PROFB.TOFFH b p)) && within 1 255 (s.rd (Reg.VLV_PROFB.TREL b p))
      && (!s.flag (Reg.VLV_PROFA.SRC b p) || s.flag Reg.VLV_BST.BSTEN))

/-- A valve channel. -/
def State.valveOk (s : State) (n : Nat) : Bool :=
  let b := valveBank n
  let p := s.rd (Reg.VLV_CFG.LIMPPROF n)
  decide (s.rd (Reg.VLV_CFG.LIMP n) ≠ 3) && within 1 15 (s.rd (Reg.VLV_CFG.TRIPLIM n)) && (!s.vEnabled n || s.bEnabled b)
    && (decide (s.rd (Reg.VLV_CFG.LIMP n) ≠ 2) || (decide (s.rd (Reg.VLV_PROFA.IPEAK b p) ≠ 0) && decide (s.rd (Reg.VLV_PROFB.IHOLD b p) ≠ 0)))

/-- The valve banks and the boost controller. -/
def State.valvesOk (s : State) : Bool :=
  (List.range 24).all (fun n => s.valveOk n)
    && (List.range 6).all (fun b => decide (s.rd (Reg.VLV_BCFG.LEASH b) ≤ 200) && within 1 15 (s.rd (Reg.VLV_BCFG.TRIPLIM b))
        && (List.range 8).all (fun p => s.profileOk b p))
    && within 120 480 (s.rd Reg.VLV_BST.VSET) && within 80 (s.rd Reg.VLV_BST.VSET) (s.rd Reg.VLV_BSTRDY.VRDY)

/-! ### LED sinks and inputs (R173, R182, R186, R187, R193, R198) -/

def State.ledsOk (s : State) : Bool :=
  (List.range 48).all (fun n => decide (s.rd (Reg.LED_CFG.LIMP n) ≠ 3)) && within 1 250 (s.rd Reg.LED_GCFG.FREQ) && within 20 200 (s.rd Reg.LED_DIAG.VSHORT)

/-- An input, while it is enabled (R186). -/
def State.inputOk (s : State) (n : Nat) : Bool :=
  !s.iEnabled n ||
    (within 1 20 (s.rd (Reg.INP_CFG.IWET n)) && within 5 360 (s.rd (Reg.INP_THR.VTHL n)) && within 5 360 (s.rd (Reg.INP_THR.VTHH n))
      && decide (s.rd (Reg.INP_THR.VTHL n) + 2 ≤ s.rd (Reg.INP_THR.VTHH n)) && (!s.flag (Reg.INP_CFG.MODE n) || decide (s.rd (Reg.INP_PULSE.PER n) ≠ 0))
      && within 1 20 (s.rd (Reg.INP_PULSE.PWET n)) && (decide (n < 40) || !s.flag (Reg.INP_CFG.WAKEEN n)) && decide (s.rd (Reg.INP_CFG.WAKEDIR n) ≠ 3))

/-- The wetting load of a die is at most 200 mA (R187). -/
def State.wetOk (s : State) (d : Die) : Bool :=
  decide (((inputsOf d).filter (fun n => s.iEnabled n)).foldl (fun a n =>
    let i : Rat := (s.rd (Reg.INP_CFG.IWET n) : Nat)
    a + (if s.flag (Reg.INP_CFG.MODE n) then i / (10 * s.rd (Reg.INP_PULSE.PER n) : Nat) else i)) (0 : Rat) ≤ 200)

def State.inputsOk (s : State) : Bool :=
  (List.range 160).all (fun n => s.inputOk n) && s.wetOk .p0 && s.wetOk .p1 && within 1 25 (s.rd Reg.INP_PARK.PPER)

/-! ### The reflex engine (R39, R49, R50, R199, R201, R202, R206) -/

/-- The programs of the image with their indices. -/
def State.progList (s : State) : List (Nat × Prog) := s.img.progs.filterMap (fun x => x.2.map (fun p => (x.1, p)))

/-- The placement for the cores in service puts no load above capacity on any core (R202); with no core in service there is none. -/
def State.placementOk (s : State) : Bool :=
  match s.place s.inService with
  | some pl => pl.all (fun x => decide (s.img.loadOf x.2 ≤ s.capacity))
  | none => decide (s.inService = [])

/-- A declared target is defined and belongs to frame programs (R49, R50). -/
def State.targetOk (s : State) (i : Nat) : Bool := (s.attr i).any (fun a => decide (a.owner = .program))

/-- An index that an instruction of a frame program names in its word is defined (R49, R222). -/
def State.codeRefOk (s : State) (w : Nat) : Bool :=
  !([0x30, 0x31, 0x35].contains (w / 2 ^ 26)) || (s.attr (bits w 0 17)).isSome

/-- The code of a program refers to no undefined index. -/
def State.codeOk (s : State) (q : Prog) : Bool :=
  (List.range q.words).all (fun i => s.codeRefOk (SMap.get (fun _ => 0#32) s.img.code (q.first + i)).toNat)

/-- The program words of the image lie in their ranges (R217, R475); the budget of a program whose word is not VALID may be 0 (DESIGN CHOICE, log entry 30). -/
def State.progRegsOk (s : State) (p : Nat) : Bool :=
  decide (s.img1 (Reg.RFX_PROG.STATE p) ≤ 64) && decide (s.img1 (Reg.RFX_PROGBUD.BUDGET p) ≤ s.capacity)
    && (!s.imgFlag (Reg.RFX_PROG.VALID p) || decide (1 ≤ s.img1 (Reg.RFX_PROGBUD.BUDGET p)))

def State.reflexOk (s : State) : Bool :=
  let ps := s.progList
  let targets : List Nat := ps.flatMap (fun x => x.2.targets)
  within 50 90 (s.rd Reg.RFX_CFG.LOADMAX) && decide (ps.length ≤ 256) && ps.all (fun x => decide (x.1 < 256))
    && ps.all (fun x => within 1 s.capacity x.2.budget && decide (x.2.stateLen ≤ 64))
    && decide ((ps.foldl (fun a x => a + x.2.words) 0) * 4 ≤ 262144) && decide ((ps.foldl (fun a x => a + x.2.stateLen) 0) * 64 ≤ 524288)
    && allApart (fun a b => decide (a.2.prim ≠ b.2.prim) || decide (a.2.order ≠ b.2.order)) ps
    && decide (targets.length ≤ 8192) && decide targets.Nodup && targets.all (fun i => s.targetOk i) && ps.all (fun x => s.codeOk x.2)
    && (List.range 256).all (fun p => s.progRegsOk p) && s.placementOk

/-! ### CAN (R239 to R241, R246, R263, R265) -/

/-- The CAN clocks of a nominal and of a data bit (R240). -/
def State.nomClocks (s : State) (c : Nat) : Nat := s.rd (Reg.CAN_NBT.NBRP c) * (1 + s.rd (Reg.CAN_NBT.NTSEG1 c) + s.rd (Reg.CAN_NBT2.NTSEG2 c))
def State.dataClocks (s : State) (c : Nat) : Nat := s.rd (Reg.CAN_DBT.DBRP c) * (1 + s.rd (Reg.CAN_DBT.DTSEG1 c) + s.rd (Reg.CAN_DBT.DTSEG2 c))

/-- Bit timing (R239 to R241): rates are 80,000,000 over the clocks of a bit. -/
def State.canTimingOk (s : State) (c : Nat) : Bool :=
  let n := s.nomClocks c
  let d := s.dataClocks c
  decide (80000000 % n = 0) && decide (80000000 % d = 0) && within 10000 1000000 (80000000 / n)
    && (!s.flag (Reg.CAN_CFG.FDEN c) || (decide (80000000 / n ≤ 80000000 / d) && decide (80000000 / d ≤ 8000000)))
    && (decide (8 ≤ c) || decide (80000000 / d ≤ 5000000)) && (decide (80000000 / d ≤ 1000000) || s.flag (Reg.CAN_TDC.TDCEN c))

def State.canOk (s : State) (c : Nat) : Bool :=
  decide (s.rd (Reg.CAN_CFG.RXHOST c) ≠ 3) && within 1 512 (s.rd (Reg.CAN_NBT.NBRP c)) && within 2 256 (s.rd (Reg.CAN_NBT.NTSEG1 c))
    && within 2 128 (s.rd (Reg.CAN_NBT2.NTSEG2 c)) && within 1 128 (s.rd (Reg.CAN_NBT2.NSJW c)) && within 1 32 (s.rd (Reg.CAN_DBT.DBRP c))
    && within 1 32 (s.rd (Reg.CAN_DBT.DTSEG1 c)) && within 1 16 (s.rd (Reg.CAN_DBT.DTSEG2 c)) && within 1 16 (s.rd (Reg.CAN_DBT.DSJW c))
    && decide (s.rd (Reg.CAN_NBT2.NSJW c) ≤ s.rd (Reg.CAN_NBT2.NTSEG2 c)) && decide (s.rd (Reg.CAN_DBT.DSJW c) ≤ s.rd (Reg.CAN_DBT.DTSEG2 c))
    && s.canTimingOk c && decide (s.rd (Reg.CAN_SWCFG.SWDLC c) ≤ 8)
    && (decide (c < 2) || (!s.flag (Reg.CAN_SWCFG.SWEN c) && !s.flag (Reg.CAN_SWCFG.WUPEN c)))
    && decide ((s.img.enc.filter (fun r => decide (r.bus = 0) && decide (r.channel = c))).length ≤ 47)

/-! ### LIN and Ethernet (R267, R268, R277, R278, R285) -/

/-- A slot is no shorter than 1.4 × (34 + 10 × (N + 1)) bit lengths (R268). -/
def State.slotOk (s : State) (n : Nat) (x : LinSlot) : Bool :=
  within 1 255 x.ms && decide (7 * (34 + 10 * (x.dlen + 1)) * s.linBit n ≤ x.ms * 1000000)

def State.linOk (s : State) (n : Nat) : Bool :=
  let c := SMap.get (fun _ => ({} : LinChan)) s.img.lin n
  within 1000 20000 (s.rd (Reg.LIN_CFG.RATE n)) && decide (c.tables.length ≤ 16)
    && c.tables.all (fun t => decide (t.length ≤ 64) && t.all (fun x => s.slotOk n x))

def State.ethOk (s : State) : Bool :=
  (List.range 5).all (fun p => within 1 4094 (s.rd (Reg.ETH_PCFG.PVID p)))
    && [0, 1].all (fun p => decide (s.rd (Reg.ETH_PCFG.MODE p) ≠ 3))
    && [2, 3].all (fun p => !s.flag (Reg.ETH_PCFG.ENABLE p) || !s.flag (Reg.ETH_PLCA.EN p)
        || (decide (s.rd (Reg.ETH_PLCA.NODEID p) ≠ 255) && (decide (s.rd (Reg.ETH_PLCA.NODEID p) ≠ 0) || decide (s.rd (Reg.ETH_PLCA.NCNT p) ≠ 0))))
    && within 10 65535 (s.rd Reg.ETH_AGE.SEC) && decide (s.img.vlan.length ≤ 64)

/-! ### Ledger, PDUs and blobs (R49, R59, R60, R63, R64, R325) -/

/-- The kennel slot permits CMAC (R325, R407). -/
def State.permitsCmac (s : State) (i : Nat) : Bool := decide (i < 64) && bitOf (s.rd (Reg.CRY_SLOT.MODES i)) 2

def State.securedOk (s : State) (x : Option (Nat × Nat)) : Bool :=
  match x with
  | none => true
  | some (slot, n) => s.permitsCmac slot && [4, 8, 16].contains n

/-- Every signal names a defined entry (R49). -/
def State.sigsOk (s : State) (l : List SigRec) : Bool := l.all (fun g => (s.attr g.entry).isSome)

/-- The decode and encode tables. -/
def State.pdusOk (s : State) : Bool :=
  let key := fun (r : DecRec) => (r.bus, r.channel, r.key, r.vid, r.port)
  let names := s.img.dec.flatMap (fun r => r.sigs.map (fun g => g.entry))
  decide (s.img.dec.length ≤ 4096) && decide ((s.img.dec.foldl (fun a r => a + r.sigs.length) 0) ≤ 32768)
    && s.img.dec.all (fun r => decide (r.sigs.length ≤ 512) && decide (r.agew.length ≤ 4) && s.securedOk r.secured && s.sigsOk r.sigs)
    && allApart (fun a b => decide (key a ≠ key b)) s.img.dec
    && names.all (fun i => decide (names.count i ≤ 4))
    && decide (s.img.enc.length ≤ 2048) && decide ((s.img.enc.foldl (fun a r => a + r.sigs.length) 0) ≤ 16384)
    && s.img.enc.all (fun r => decide (r.agew.length ≤ 4) && s.securedOk r.secured && s.sigsOk r.sigs)

/-! ### Access, faults, Verya and power (R340, R349, R362, R407, R408, R414, R434) -/

def State.accessOk (s : State) : Bool :=
  within 2 5 (s.rd Reg.ACC_CFG.WIN) && (List.range 8).all (fun k => within 10 120 (s.rd (Reg.ACC_LF.IPK k)))
    && (List.range 4).all (fun k => !s.flag (Reg.ACC_DOOR.EN k) || (s.attr (s.rd (Reg.ACC_DOOR.IDX k))).any (fun a => decide (a.kind = 2)))

/-- A bound fault record and its span (R362, R378). -/
def State.recordOk (s : State) (r : Nat) : Bool :=
  let b := s.rd (Reg.FLT_BIND.BASE r)
  let n := s.rd (Reg.FLT_BIND.SPAN r)
  decide (n = 0) || (decide (b % 256 + n ≤ 256) && within 1 0x10 (b / 256) && decide (s.rd (Reg.FLT_COUNT.N r) ≠ 0) && decide (s.rd (Reg.FLT_COUNT.WIN r) ≠ 0))

/-- The spans of bound records, ascending, do not overlap. -/
def spansApart : List (Nat × Nat) → Bool
  | (a, n) :: (b, k) :: l => decide (a + n ≤ b) && spansApart ((b, k) :: l)
  | _ => true

def State.faultsOk (s : State) : Bool :=
  let spans := ((List.range 256).map (fun r => (s.rd (Reg.FLT_BIND.BASE r), s.rd (Reg.FLT_BIND.SPAN r)))).filter (fun x => decide (x.2 ≠ 0))
  (List.range 256).all (fun r => s.recordOk r) && spansApart (sortBy (fun a b => decide (a.1 ≤ b.1)) spans)

/-- The expected-peer list (R408). -/
def peersOk (node gen : Nat) (ps : List PeerRec) : Bool :=
  let pair := fun (g : Nat) => decide (g = 0) || decide (g = gen) || decide (g + 1 = gen)
  decide (ps.length ≤ 32) && ps.all (fun p => decide (p.node < 64) && decide (p.node ≠ node) && pair p.gen1 && pair p.gen2)
    && allApart (fun a b => decide (a.node ≠ b.node)) ps

def State.veryaOk (s : State) : Bool :=
  within 2 255 (s.rd Reg.CFG_VID.VSILENT) && decide (s.rd Reg.CFG_VID.LID + 63 ≤ 0x7FF)
    && (List.range 12).all (fun c => !bitOf (s.rd Reg.CFG_VERYA.CANMASK) c || (s.flag (Reg.CAN_CFG.FDEN c) && s.flag (Reg.CAN_CFG.ENABLE c)))
    && (!s.flag Reg.CFG_VERYA.VAUTH || s.permitsCmac (s.rd Reg.CFG_VERYA.VSLOT))

/-- Every commit-time limit, on the state under the image's parameters. -/
def State.limitsOk (s : State) : Bool :=
  within 50000 2000000 s.period && s.switchOk && (List.range 14).all (fun m => s.motorOk m) && s.valvesOk && s.ledsOk && s.inputsOk
    && s.reflexOk && (List.range 12).all (fun c => s.canOk c) && (List.range 10).all (fun n => s.linOk n) && s.ethOk
    && decide (s.img.blobBytes ≤ 2097152) && s.pdusOk && s.accessOk && s.faultsOk && s.veryaOk && within 1 255 (s.rd Reg.PWR_CFG.SDTMO)

/-- The limits of the header's own fields (R394). -/
def headLimits (m : SMap Byte) : Bool :=
  decide (bankField m 9 1 < 64) && decide (1 ≤ imgGen m) && within 1 16777215 (imgVersion m)

end Sys2Proof.Machine
end

