-- ==== Sys2Proof/Machine/Start.lean ====
section
/-! DEFINITION. What a die starts on at wake (R90, R92, R141, R439): the wick nodes that the candle domain retained, the words sent again after a reset of the die, and parameters taken. -/

namespace Sys2Proof.Config

/-- How far above the model a wick node starts at a wake, in 1/256 K, by power cycle and node (R90: no more than 1 K); kept within 256 where it is used. -/
opaque wickWake : Nat → Nat → Nat

end Sys2Proof.Config

namespace Sys2Proof.Machine

/-! ### Wick nodes at a wake (R90) -/

/-- Conductor nodes by channel and bundle nodes by group. -/
structure WickNodes where
  tc : SMap Rat
  tb : SMap Rat
  deriving DecidableEq, Repr

/-- No node. -/
def zeroNode : Nat → Rat := fun _ => 0

/-- `TAMB` of a group. -/
def State.ambient (s : State) (g : Nat) : Rat := signedOf 8 (s.img1 (Reg.HSW_BGB.TAMB g))

/-- Channel u of the active image is in the wick model. -/
def State.imgWick (s : State) (u : Nat) : Bool := s.imgFlag (Reg.CH_CFG.ENABLE u) && s.imgFlag (Reg.CH_CFG.WICKEN u)

/-- The channels and the bundle groups that the active image has in the wick model. -/
def State.imgChans (s : State) : List Nat := (List.range 64).filter (fun u => s.imgWick u)
def State.imgGroups (s : State) : List Nat := (List.range 16).filter (fun g => s.imgGroup g)

/-- One step of the model at zero current in every channel (R87, R90). -/
def State.restStep (s : State) (x : WickNodes) : WickNodes :=
  let grp := fun u => s.img1 (Reg.CH_CFG.BGRP u)
  let q := fun u => wickQ (s.img1 (Reg.CH_WICK1.RCB u)) (SMap.get zeroNode x.tc u) (SMap.get zeroNode x.tb (grp u))
  let sum := fun g => (s.imgChans.filter (fun u => decide (grp u = g))).foldl (fun a u => a + q u) 0
  { tc := s.imgChans.foldl (fun m u => SMap.set zeroNode m u
      (wickTc (s.img1 (Reg.CH_WICK0.RPM u)) (s.img1 (Reg.CH_WICK0.CPM u)) 0 (q u) (SMap.get zeroNode x.tc u))) []
    tb := s.imgGroups.foldl (fun m g => SMap.set zeroNode m g
      (wickTb (s.img1 (Reg.HSW_BGA.CB g)) (s.img1 (Reg.HSW_BGA.RBA g)) (s.ambient g) (sum g) (SMap.get zeroNode x.tb g))) [] }

/-- The model after n steps at zero current. -/
def State.restSteps (s : State) : Nat → WickNodes → WickNodes
  | 0, x => x
  | n + 1, x => s.restSteps n (s.restStep x)

/-- A retained node in °C; one that was not retained is at `TAMB`. -/
def retained (m : SMap Int) (k : Nat) (amb : Rat) : Rat :=
  match m.find? (fun p => decide (p.1 = k)) with
  | some p => p.2
  | none => amb

/-- The retained nodes. -/
def State.retainedNodes (s : State) : WickNodes :=
  { tc := s.imgChans.foldl (fun m u => SMap.set zeroNode m u (retained s.pow.wickTc u (s.ambient (s.img1 (Reg.CH_CFG.BGRP u))))) []
    tb := s.imgGroups.foldl (fun m g => SMap.set zeroNode m g (retained s.pow.wickTb g (s.ambient g))) [] }

/-- The park time N in seconds (R90). -/
def State.parkSeconds (s : State) : Nat := 9 * s.pow.candleSec / 10

/-- What a node starts at: what the model reaches, and at most 1 K above. -/
def State.wakeNode (s : State) (x : Rat) (k : Nat) : Rat := x + (min 256 (Config.wickWake (s.rd Reg.EVR_PCYC.N) k) : Nat) / 256

/-- The wick nodes of die d at its start: `tc` of each of its channels in the model, `tb` of each bundle group of the image, which both power dies hold (R88, R90). -/
def State.setNodes (s : State) (d : Die) (tc tb : Nat → Rat) : State :=
  let s1 := ((chansOf d).filter (fun u => s.imgWick u)).foldl (fun s u => s.setChan u { s.chan u with tc := tc u }) s
  s1.setAna d { s1.ana d with tb := s.imgGroups.foldl (fun m g => SMap.set zeroNode m g (tb g)) [] }

/-- The wick nodes of die d at its start (R90): `TAMB`, or after a park what the model reaches from the retained values. -/
def State.startNodes (s : State) (d : Die) : State :=
  if d = .v then s
  else if !s.pow.wickFor.contains (dieNum d) ∨ 65535 ≤ s.parkSeconds then
    s.setNodes d (fun u => s.ambient (s.img1 (Reg.CH_CFG.BGRP u))) s.ambient
  else
    let x := s.restSteps (s.parkSeconds * 10000) s.retainedNodes
    s.setNodes d (fun u => s.wakeNode (SMap.get zeroNode x.tc u) u) (fun g => s.wakeNode (SMap.get zeroNode x.tb g) (64 + g))

/-! ### Words sent again after a reset of the die (R439) -/

/-- Motor units and valve channels take a word as their previous applied one. -/
def State.prevWord (s : State) (w : DieWrite) : State :=
  let v := w.value.toNat % 2 ^ 32
  match cmdUnit w.idx with
  | some (.motor m) => s.setMotor m { s.motor m with word := v }
  | some (.valve n) => s.setValve n { s.valve n with word := v }
  | _ => s

/-- A word that the unit applies at the next boundary: one of a channel or an LED sink. -/
def appliesAgain (w : DieWrite) : Bool :=
  match cmdUnit w.idx with
  | some (.chan _) => true
  | some (.led _) => true
  | _ => false

/-- The words that die L sent again reach the units of die d. -/
def State.wordsAgain (s : State) (d : Die) : State :=
  let ws := (s.link d).resend
  let s1 := ws.foldl (fun s w => s.prevWord w) s
  s1.setLink d { s1.link d with resend := ws.filter appliesAgain }

/-! ### Parameters (R36, R92) -/

/-- The tick at which die d acts; before its first marker that of die L. -/
def State.dieTick (s : State) (d : Die) : Nat := if s.dieNow d = 0 then s.now else s.dieNow d

/-- The die starts on its parameters: units, wick nodes and supply state. -/
def State.dieBegins (s : State) (d : Die) (regs : SMap W32) (t : Nat) : State :=
  let s1 := (s.dieStarts d regs t).startNodes d
  let s2 : State := { s1 with pow := { s1.pow with wickFor := s1.pow.wickFor.filter (fun k => decide (k ≠ dieNum d)) } }
  ((s2.wordsAgain d).setLink d { (s2.wordsAgain d).link d with lastBoundary := t, unlockedSince := !s.locked d }).supEnter d .normal t

/-- Parameters that a die takes at once (R36, R92): a die without any starts on them; another one confirms those it holds, and takes them where they differ. -/
def State.takeParams (s : State) (d : Die) (regs : SMap W32) : State :=
  if !(s.ana d).params then s.dieBegins d regs (s.dieTick d)
  else if (s.takeRegs regs (fun k => decide (regDie k = some d))).regs = s.regs then s
  else s.dieTakes d regs (s.dieTick d)

end Sys2Proof.Machine
end

