-- ==== Sys2Proof/Machine/Banks.lean ====
section
/-! DEFINITION. The configuration banks (R397 to R406): the operations of R398, a commit up to its swap, the parameters on their way to the dies, and what a start of die L does with the banks. -/

namespace Sys2Proof.Machine

/-! ### Banks (R397, R414) -/

/-- The bank that is not ACTIVE. -/
def State.spareBank (s : State) : Nat := 1 - s.activeBank

/-- The step that bank k entered last (R397). -/
def State.bankStep (s : State) (k : Nat) : Nat := if k = 0 then s.cfg.stepA else s.cfg.stepB

/-- Bank k enters a step. -/
def State.setBankStep (s : State) (k n : Nat) : State :=
  { s with cfg := if k = 0 then { s.cfg with stepA := n } else { s.cfg with stepB := n } }

/-- The registers that describe the image of bank k show no image. -/
def State.bankBlank (s : State) (k : Nat) : State :=
  ((s.setWord (Reg.CFG_BVER.VERSION k).off 0#32).setWord (Reg.CFG_BGEN.GEN k).off 0#32).wr64 (Reg.CFG_BSDIG.SDIG k) 0

/-- The registers that describe the image of bank k show the image it holds. -/
def State.bankShow (s : State) (k : Nat) : State :=
  let m := s.bankBytes k
  (((s.wr (Reg.CFG_BVER.VERSION k) (imgVersion m)).wr (Reg.CFG_BVER.NODE k) (imgNode m)).wr (Reg.CFG_BGEN.GEN k) (imgGen m)).wr64 (Reg.CFG_BSDIG.SDIG k) (imgShort m)

/-- Bank k becomes INVALID. -/
def State.bankInvalid (s : State) (k : Nat) : State := (s.setBankSt k 5).bankBlank k

/-- Bytes written into bank k from `off` on. -/
def bankPut (m : SMap Byte) (off : Nat) (bs : List Byte) : SMap Byte :=
  bs.zipIdx.foldl (fun m x => SMap.set (fun _ => 0#8) m (off + x.2) x.1) m

/-- The canonical form of a bank's MRAM bytes (R394): offsets strictly rising, no entry equal to what an unlisted byte reads as. -/
abbrev Memory.wf (m : SMap Byte) : Bool := SMap.wf (fun _ => 0#8) m

/-- The bytes of bank k replaced. -/
def State.setBankBytes (s : State) (k : Nat) (m : SMap Byte) : State :=
  { s with cfg := if k = 0 then { s.cfg with bytesA := m } else { s.cfg with bytesB := m } }

/-! ### Ends of the operations of R398 -/

/-- `CFG_LAST` after an operation of R398. -/
def State.cfgLast (s : State) (status reason step opc : Nat) : State :=
  (((s.wr Reg.CFG_LAST.STATUS status).wr Reg.CFG_LAST.REASON reason).wr Reg.CFG_LAST.STEP step).wr Reg.CFG_LAST.OPC opc

/-- An operation of R398 completes. -/
def State.cfgDone (s : State) (t opc status : Nat) (reason : Nat := 0) (step : Nat := 0) : State :=
  (s.cfgLast status reason step opc).complete t status reason

/-- What a configuration operation meets before it runs, in the precedence of R12 (R401, R404, R405): a malformed body, a retired part, what its own condition `own` answers, another operation that runs; and the state after its own effect. -/
def State.cfgOp (s : State) (t opc : Nat) (good : Bool) (own : Option (Nat × Nat)) (f : State) : State :=
  if !good then s.cfgDone t opc St.invalid
  else if s.otp.life = 2 then s.cfgDone t opc St.configMismatch 10
  else
    match own with
    | some (status, reason) => s.cfgDone t opc status reason
    | none => if s.cfg.op.isSome then s.cfgDone t opc St.retryLater 8 else f

/-- A condition that refuses an operation with a status and a reason. -/
def refuseIf (c : Bool) (status reason : Nat) : Option (Nat × Nat) := if c then some (status, reason) else none

/-! ### CFG_WRITE (R398) -/

/-- The bytes of a CFG_WRITE are in MRAM. -/
def State.cfgStore (s : State) (t off : Nat) (bs : List Byte) : State :=
  let k := s.spareBank
  let s1 := (((s.setBankBytes k (bankPut (s.bankBytes k) off bs)).setBankSt k 1).setBankStep k 1).bankBlank k
  s1.cfgDone t 0x60 St.ok 0 1

/-- CFG_WRITE (R398): offset and length are multiples of 4 within the bank. -/
def State.cfgWrite (s : State) (t : Nat) (x : ReadResult) : State :=
  match s.opReady t 0x60 with
  | none => s
  | some o =>
    let off := o.fld 20 4
    let len := o.fld 32 4
    let good := decide (off % 4 = 0) && decide (4 ≤ len) && decide (len ≤ 65536) && decide (len % 4 = 0) && decide (off + len ≤ 2097152)
    s.cfgOp t 0x60 good none
      (match readBytes x len with
       | none => ((s.readFailed x).hostErr Reg.HOST_ERR.DMAERR).cfgDone t 0x60 St.invalid
       | some bs => s.cfgStore t off bs)

def execCfgWrite (t : Nat) (x : ReadResult) (s : State) : Res := .next (s.cfgWrite t x)

/-! ### The checks of a commit (R399, R411) -/

/-- The LIMITS check: the image can be read, and keeps every commit-time limit. -/
def State.limitsPass (s : State) (m : SMap Byte) : Bool :=
  match imageOf m with
  | none => false
  | some (ps, t) => headLimits m && regPairsOk ps && peersOk (imgNode m) (imgGen m) t.peers && (s.candidate (regsOf ps) t).limitsOk

/-- The latest kept lantern of a node that came within `VSILENT` s. -/
def State.recentLantern (s : State) (node : Nat) : Option LanternSeen :=
  (s.seenOf node).filter (fun l => decide (s.now < l.stamp + s.rd Reg.CFG_VID.VSILENT * 200000000))

/-- The peer check (R411): no REQUIRED entry is found MISMATCH. -/
def State.peersPass (s : State) (m : SMap Byte) : Bool :=
  (((tablesOf m).map (fun t => t.peers)).getD []).all (fun p =>
    !p.required || (s.recentLantern p.node).all (fun l => decide (p.classify l ≠ 3)))

/-- A TAG is asked for: `AUTHEN` in the active image, or FIELD. -/
def State.tagAsked (s : State) : Bool := (s.hasBank && s.flag Reg.CFG_AUTH.AUTHEN) || decide (s.otp.life = 1)

/-- TAG verifies under the slot `ASLOT`, READY with CMAC permitted (R399); the engine is READY. -/
def State.tagOk (s : State) (m : SMap Byte) : Bool :=
  let i := s.rd Reg.CFG_AUTH.ASLOT
  s.cryReady && decide (s.rd (Reg.CRY_SLOT.STATE i) = 1) && bitOf (s.rd (Reg.CRY_SLOT.MODES i)) 2
    && decide ((cmac (s.kennel i).key (imgDigest m)).take 16 = imgTag m)

/-- The checks from MINVER on: the step, status and reason of the first that fails. -/
def State.checkFrom (s : State) (m : SMap Byte) (force : Bool) : Option (Nat × Nat × Nat) :=
  if imgVersion m < s.otp.minver then some (2, St.configMismatch, 3)
  else if !force && !s.peersPass m then some (2, St.configMismatch, 4)
  else if !digestOk m then some (3, St.invalid, 5)
  else if s.tagAsked && !s.tagOk m then some (3, St.authFail, 6)
  else none

/-- Every check of VERIFY and DIGEST in order. -/
def State.checkAll (s : State) (m : SMap Byte) (force : Bool) : Option (Nat × Nat × Nat) :=
  if !s.headerOk m then some (2, St.invalid, 1)
  else if !s.limitsPass m then some (2, St.configMismatch, 2)
  else s.checkFrom m force

/-! ### SWAP (R400) -/

/-- A commit or rollback on bank k fails (R399, R403): a commit leaves its bank INVALID, a rollback leaves both as they were. -/
def State.cfgFail (s : State) (opc k step status reason : Nat) : State :=
  let s1 := if opc = 0x61 then (s.setBankStep k step).bankInvalid k else s
  let s2 := ((s1.raiseL 0x0F00 0x40 s1.now).event 0x0F81 s1.now step status reason).wr Reg.CFG_STAT.STEP 0
  { s2 with cfg := { s2.cfg with op := none } }

/-- The parameters go to die d; a sleeping die wakes for an image that uses it (R418). -/
def State.sendParams (regs : SMap W32) (img : Tables) (s : State) (d : Die) : State :=
  let s1 := s.sendDown d (.params regs true)
  if (s.candidate regs img).dieUsed d && s.asleep d then s1.demandWake d else s1

/-- SWAP begins on bank k, whose image passed its checks. -/
def State.startSwap (s : State) (t opc k : Nat) (force : Bool) (regs : SMap W32) (img : Tables) : State :=
  let s1 := (((s.begin t).setBankStep k 4).bankShow k).wr Reg.CFG_STAT.STEP 4
  let s2 := if opc = 0x61 then s1.setBankSt k 2 else s1
  let op : CfgOp := { tag := some t, opcode := opc, force := force, bank := k, regs := regs, img := img, waits := [0, 1, 2], sentAt := s.now }
  allDies.foldl (State.sendParams regs img) { s2 with cfg := { s2.cfg with op := some op } }

/-- The checks of an operation on bank k, and its SWAP or its failure. -/
def State.runCommit (s : State) (t opc k : Nat) (force : Bool) (bad : Option (Nat × Nat × Nat)) : State :=
  match bad, imageOf (s.bankBytes k) with
  | some (step, status, reason), _ => ((s.cfgFail opc k step status reason).cfgDone t opc status reason step)
  | none, none => ((s.cfgFail opc k 2 St.configMismatch 2).cfgDone t opc St.configMismatch 2 2)
  | none, some (ps, img) => s.startSwap t opc k force (regsOf ps) img

/-- CFG_COMMIT (R399). -/
def State.cfgCommit (s : State) (t : Nat) : State :=
  match s.opReady t 0x61 with
  | none => s
  | some o =>
    let k := s.spareBank
    let force := bitOf (o.fld 16 1) 0
    s.cfgOp t 0x61 true (refuseIf (decide (s.bankSt k ≠ 1)) St.configMismatch 9)
      (s.runCommit t 0x61 k force (s.checkAll (s.bankBytes k) force))

def execCfgCommit (t : Nat) (s : State) : Res := .next (s.cfgCommit t)

/-- CFG_ROLLBACK (R403): the checks from MINVER on, on the PREVIOUS bank. -/
def State.cfgRollback (s : State) (t : Nat) : State :=
  match s.opReady t 0x62 with
  | none => s
  | some o =>
    let k := s.spareBank
    let force := bitOf (o.fld 16 1) 0
    s.cfgOp t 0x62 true (refuseIf (decide (s.bankSt k ≠ 4)) St.configMismatch 9)
      (s.runCommit t 0x62 k force (s.checkFrom (s.bankBytes k) force))

def execCfgRollback (t : Nat) (s : State) : Res := .next (s.cfgRollback t)

/-- SWAP_TIMEOUT (R399): an acknowledgement is missing 20 ms after the parameters were sent. -/
def State.swapTimeout (s : State) : State :=
  match s.cfg.op with
  | none => s
  | some op =>
    if s.started ∧ op.waits ≠ [] ∧ !op.selected ∧ op.sentAt + 4000000 ≤ s.now then
      ((s.cfgFail op.opcode op.bank 4 St.domainFail 7).cfgLast St.domainFail 7 4 op.opcode).completeOpt op.tag St.domainFail 7
    else s

def execSwapTimeout (s : State) : Res := .next s.swapTimeout

/-! ### Parameters at a die (R92, R400) -/

/-- An acknowledgement leaves die d. -/
def State.ack (s : State) (d : Die) (swap : Bool) : State := s.setLink d { s.link d with up := (s.link d).up ++ [.ack swap] }

/-- DIE_PARAMS_RECEIVED (R92, R400): parameters of a swap are held pending, active ones are taken; the link endpoint of a sleeping die acknowledges what no unit of it needs (R418). -/
def State.dieParamsReceived (s : State) (d : Die) : State :=
  match s.popDown d with
  | some (.params regs swap, s1) =>
    if swap then
      (if s1.domReady d then (s1.setLink d { s1.link d with params := some regs }).ack d true
       else if s1.asleep d then s1.ack d true else s)
    else if s1.domReady d then (s1.takeParams d regs).ack d false
    else s
  | _ => s

def execDieParamsReceived (d : Die) (s : State) : Res := .next (s.dieParamsReceived d)

/-- DIE_PARAM_ACK (R36, R399): the acknowledgement is the oldest message of the die. -/
def State.dieParamAck (s : State) (d : Die) : State :=
  match (s.link d).up with
  | .ack swap :: ms =>
    let s1 := s.setLink d { s.link d with up := ms }
    if !s.linkCarries d then s
    else if swap then
      { s1 with cfg := { s1.cfg with op := s1.cfg.op.map (fun op => { op with waits := op.waits.filter (fun k => decide (k ≠ dieNum d)) }) } }
    else { s1 with tb := { s1.tb with dieConfirmed := SMap.set (fun _ => false) s1.tb.dieConfirmed (dieNum d) true } }
  | _ => s

def execDieParamAck (d : Die) (s : State) : Res := .next (s.dieParamAck d)

/-! ### CFG_STATUS (R398) -/

/-- `CFG_OTP` and `CFG_OTP2`. -/
def State.otpWord (s : State) : Nat := s.otp.minver % 2 ^ 24 + 2 ^ 24 * s.otp.raises
def State.otp2Word (s : State) : Nat := s.otp.debug + 256 * s.otp.life

/-- The result of CFG_STATUS. -/
def State.cfgResult (s : State) : List Byte :=
  leBytes 4 (s.word Reg.CFG_STAT.ACTIVE.off).toNat ++ leBytes 4 (s.word Reg.CFG_LAST.STATUS.off).toNat ++ leBytes 4 s.otpWord ++ leBytes 2 s.otp2Word
    ++ leBytes 3 (s.rd (Reg.CFG_BVER.VERSION 0)) ++ leBytes 3 (s.rd (Reg.CFG_BVER.VERSION 1))
    ++ leBytes 2 (s.rd (Reg.CFG_BGEN.GEN 0)) ++ leBytes 2 (s.rd (Reg.CFG_BGEN.GEN 1))
    ++ leBytes 8 (s.rd64 (Reg.CFG_BSDIG.SDIG 0)) ++ leBytes 8 (s.rd64 (Reg.CFG_BSDIG.SDIG 1))

/-- CFG_STATUS (R398): always served, in every lifecycle (R401, R405). -/
def State.cfgStatus (s : State) (t : Nat) : State :=
  match s.opReady t 0x63 with
  | none => s
  | some _ => (s.cfgLast St.ok 0 0 0x63).complete t St.ok 0 s.now s.cfgResult

def execCfgStatus (t : Nat) (s : State) : Res := .next (s.cfgStatus t)

/-! ### Limited-change settings and lifecycle (R404 to R406) -/

/-- MINVER rises to v (R404). -/
def State.raiseMin (s : State) (t v : Nat) : State :=
  let s1 : State := { s with otp := { s.otp with minver := v, raises := s.otp.raises + 1 } }
  let k := s1.spareBank
  let s2 := if s1.bankSt k = 4 ∧ s1.rd (Reg.CFG_BVER.VERSION k) < v then s1.bankInvalid k else s1
  (s2.event 0x0F85 s.now s.otp.minver v (s.otp.raises + 1)).cfgDone t 0x64 St.ok

/-- CFG_RAISEMIN (R404): above the current minimum and at most the VERSION of the ACTIVE bank. -/
def State.cfgRaisemin (s : State) (t : Nat) : State :=
  match s.opReady t 0x64 with
  | none => s
  | some o =>
    let v := o.fld 20 4
    let good := s.hasBank && decide (s.otp.minver < v) && decide (v ≤ s.rd (Reg.CFG_BVER.VERSION s.activeBank))
    s.cfgOp t 0x64 good (refuseIf (decide (255 ≤ s.otp.raises)) St.limitReached 0) (s.raiseMin t v)

def execCfgRaisemin (t : Nat) (s : State) : Res := .next (s.cfgRaisemin t)

/-- The lifecycle advances by one state (R405): test mode ends in FIELD; RETIRED raises the level-2 alarm and stops the access engine. -/
def State.lifeNext (s : State) (t : Nat) : State :=
  let l := s.otp.life
  let s1 := ({ s with otp := { s.otp with life := l + 1 } } : State).event 0x0F88 s.now l (l + 1)
  if l = 0 then (s1.wr Reg.CFG_STAT.TEST 0).cfgDone t 0x65 St.ok
  else ((s1.cfgDone t 0x65 St.ok).accDisable).alarm 2 6

/-- LIFECYCLE (R405). -/
def State.lifecycle (s : State) (t : Nat) : State :=
  match s.opReady t 0x65 with
  | none => s
  | some o =>
    s.cfgOp t 0x65 (decide (o.fld 16 1 = s.otp.life + 1) && decide (o.fld 17 1 = 0xA5))
      (refuseIf (decide (s.otp.life = 0) && !(s.hasBank && s.flag Reg.CFG_AUTH.AUTHEN)) St.configMismatch 10) (s.lifeNext t)

def execLifecycle (t : Nat) (s : State) : Res := .next (s.lifecycle t)

/-- Provisionings of a root slot (R404). -/
def State.provOf (s : State) (r : Nat) : Nat := SMap.get (fun _ => 0) s.otp.prov r

/-- A root key is provisioned (R404): the count, then the key, then VALID; its derived slots become EMPTY. -/
def State.provision (s : State) (t r : Nat) (key : List Byte) : State :=
  let n := s.provOf r + 1
  let s1 : State := { s with otp := { s.otp with prov := SMap.set (fun _ => 0) s.otp.prov r n } }
  let s2 := ({ s1 with cry := { s1.cry with roots := SMap.set (fun _ => []) s1.cry.roots r key } } : State).wr (Reg.CRY_ROOT.VALID r) 1
  let s3 := ((List.range 64).filter (fun i => decide (s.rd (Reg.CRY_SLOT.STATE i) ≠ 0) && decide (s.rd (Reg.CRY_SLOT.ROOT i) = r))).foldl (fun s i => s.emptySlot i) s2
  (s3.event 0x0F86 s.now r n).cfgDone t 0x66 St.ok

/-- The root key that 60 bytes hold (R406): in clear, or under a kennel slot with ROOT as its associated data; none where the tag fails. -/
def State.unwrapRoot (s : State) (r kslot : Nat) (b : List Byte) : Option (List Byte) :=
  let key := (b.drop 12).take 32
  if kslot = 0xFF then some key
  else
    let k := (s.kennel kslot).key
    if gcmTag k (b.take 12) [BitVec.ofNat 8 r] key 16 = (b.drop 44).take 16 then some (gcmCrypt k (b.take 12) key) else none

/-- ROOT_PROVISION with its data (R404, R406). -/
def State.provisionWith (s : State) (t r kslot : Nat) (b : List Byte) : State :=
  if kslot ≠ 0xFF ∧ !s.cryReady then s.cfgDone t 0x66 St.retryLater 8
  else
    match s.unwrapRoot r kslot b with
    | none => s.cfgDone t 0x66 St.authFail
    | some key => s.provision t r key

/-- ROOT_PROVISION (R406): 60 bytes at BUFADDR. -/
def State.rootProvision (s : State) (t : Nat) (x : ReadResult) : State :=
  match s.opReady t 0x66 with
  | none => s
  | some o =>
    let r := o.fld 16 1
    let k := o.fld 17 1
    let slotOk := decide (k = 0xFF) || (decide (k < 64) && decide (s.rd (Reg.CRY_SLOT.STATE k) = 1) && bitOf (s.rd (Reg.CRY_SLOT.MODES k)) 4)
    let own := (refuseIf (decide (k = 0xFF) && decide (s.otp.life ≠ 0)) St.configMismatch 10).or (refuseIf (decide (4 ≤ s.provOf r)) St.limitReached 0)
    s.cfgOp t 0x66 (decide (r ≤ 3) && slotOk) own
      (match readBytes x 60 with
       | none => ((s.readFailed x).hostErr Reg.HOST_ERR.DMAERR).cfgDone t 0x66 St.invalid
       | some b => s.provisionWith t r k b)

def execRootProvision (t : Nat) (x : ReadResult) (s : State) : Res := .next (s.rootProvision t x)

/-- DEBUG_UNLOCK (R404): the count, then the alarm, then the access. -/
def State.debugUnlock (s : State) (t : Nat) : State :=
  match s.opReady t 0x67 with
  | none => s
  | some _ =>
    let s1 : State := { s with otp := { s.otp with debug := s.otp.debug + 1 } }
    s.cfgOp t 0x67 true (refuseIf (decide (16 ≤ s.otp.debug)) St.limitReached 0)
      ((((s1.alarm 1 4).wr Reg.CFG_STAT.DBG 1).event 0x0F87 s.now (s.otp.debug + 1)).cfgDone t 0x67 St.ok)

def execDebugUnlock (t : Nat) (s : State) : Res := .next (s.debugUnlock t)

/-- TEST_MODE (R404). -/
def State.testMode (s : State) (t : Nat) : State :=
  match s.opReady t 0x68 with
  | none => s
  | some _ =>
    if s.otp.life ≠ 0 then s.cfgDone t 0x68 St.configMismatch 10
    else ((s.wr Reg.CFG_STAT.TEST 1).event 0x0F89 s.now).cfgDone t 0x68 St.ok

def execTestMode (t : Nat) (s : State) : Res := .next (s.testMode t)

/-! ### A start of die L (R402, R403) -/

/-- A bank found WRITING or VERIFIED becomes INVALID (R402). -/
def State.bankInterrupted (s : State) (k : Nat) : State :=
  if s.bankSt k = 1 ∨ s.bankSt k = 2 then
    (((s.raiseL 0x0F00 0x41 s.now).event 0x0F82 s.now k (s.bankStep k)).bankInvalid k)
  else s

/-- The digest check of the ACTIVE bank (R403): where it fails, the PREVIOUS bank becomes ACTIVE if it may, else none is. -/
def State.bankCheck (s : State) : State :=
  let k := s.activeBank
  if !s.hasBank || digestOk (s.bankBytes k) then s
  else
    let j := 1 - k
    let good := decide (s.bankSt j = 4) && digestOk (s.bankBytes j) && decide (s.otp.minver ≤ imgVersion (s.bankBytes j))
    let s1 := s.setBankSt k 4
    let s2 := if good then (s1.setBankSt j 3).wr Reg.CFG_STAT.ACTIVE j else s1.wr Reg.CFG_STAT.AVALID 0
    (s2.raiseL 0x0F00 0x45 s.now).event 0x0F83 s.now k (if good then j else 0xFF)

/-- The registers of the ACTIVE bank's image; with none ACTIVE every RWL field has its reset value (R396). -/
def State.activeRegs (s : State) : SMap W32 :=
  if s.hasBank then ((imageOf (s.bankBytes s.activeBank)).map (fun x => regsOf x.1)).getD [] else []

/-- The tables of the ACTIVE bank's image. -/
def State.activeTables (s : State) : Tables :=
  if s.hasBank then ((imageOf (s.bankBytes s.activeBank)).map (fun x => x.2)).getD {} else {}

/-- The banks at a start of die L (R402, R403). -/
def State.banksBoot (s : State) : State :=
  let s1 := ((s.wr Reg.CFG_STAT.STEP 0).bankInterrupted 0).bankInterrupted 1
  ({ s1 with cfg := { s1.cfg with op := none, seen := [] } } : State).bankCheck

end Sys2Proof.Machine
end

