-- ==== Sys2Proof/Machine/RegBus.lean ====
section
/-! DEFINITION. BAR0 (R5 to R8, R396, R470 to R473): what a read returns, what a write does, and the latches of the 64-bit registers. -/

namespace Sys2Proof.Machine

/-! ### Reads (R5, R6, R7) -/

/-- A number with bit i set where `f i` holds, for i below n. -/
def mapBits (n : Nat) (f : Nat → Bool) : Nat := (List.range n).foldl (fun a i => if f i then a + 2 ^ i else a) 0

/-- A word with one field replaced. -/
def putField (x lo w v : Nat) : Nat := insertField x lo w v

/-- `CAN_PEND` of controller c (R264): firmware requests, encoder slots, consecutive bus-off count. -/
def State.canPend (s : State) (c : Nat) : Nat :=
  let used := (s.canC c).slots.filter (fun p => p.2.isSome)
  (used.filter (fun p => decide (48 ≤ p.1))).length + 256 * (used.filter (fun p => decide (p.1 < 47))).length + 65536 * min 15 (s.canC c).cons

/-- `HOST_STAT` (R312). -/
def State.hostStat (s : State) : Nat :=
  b2n s.hostUp + 2 * b2n ((List.range 32).any (fun q => s.sqWaiting q && decide (s.cqFree (s.sq q).cq = 0))) + 65536 * s.host.ops.length

/-- `FLT_STAT` (R378): records SEVERE or LATCHED, the ball and its sources, test mode, notices. -/
def State.fltStat (s : State) : Nat :=
  ((List.range 256).filter (fun r => decide (2 ≤ s.fltSt r))).length + 512 * b2n (decide (s.ballSources ≠ 0) || s.flt.ball) + 1024 * s.ballSources
    + 8192 * s.rd Reg.CFG_STAT.TEST + 65536 * s.flt.notices.length

/-- The words that show the state of a unit or a queue as it is, rather than what was stored in them: the word at `off`, `x` being what is stored. -/
def State.shown (s : State) (off x : Nat) : Nat :=
  match off with
  | 0x00000 => putField x 24 1 (b2n Config.gradeE)
  | 0x01000 => putField x 14 1 (b2n s.pow.ball)
  | 0x0101C => putField x 0 7 (0x58 + s.pow.straps)
  | 0x02008 => s.now % 2 ^ 32
  | 0x0200C => s.now / 2 ^ 32 % 2 ^ 32
  | 0x04000 => s.img.attrs.length + ((List.range 0x4000).filter (fun i => (s.fixedAttr i).isSome)).length
  | 0x04020 => putField x 0 13 s.led.intake.length
  | 0x08C84 => mapBits 32 (fun u => decide (s.chSt u = .lockedOff))
  | 0x08C88 => mapBits 32 (fun u => decide (s.chSt (32 + u) = .lockedOff))
  | 0x0A408 => mapBits 14 (fun m => decide (s.mSt m = .locked))
  | 0x10004 =>
    if s.started then putField (putField x 8 8 (mapBits 8 (fun c => decide (s.coreSt c ≤ 1)))) 16 8 (mapBits 8 (fun c => decide (s.coreSt c = 4))) else x
  | 0x10008 => if s.started then s.img.progIds.length + 512 * s.capacity else x
  | 0x1C028 => s.hostStat
  | 0x1C030 => mapBits 32 (fun q => decide ((s.sq q).st ≠ .absent))
  | 0x1C034 => mapBits 32 (fun q => (s.cq q).active)
  | 0x1C038 => mapBits 32 (fun q => (s.sq q).err)
  | 0x1D008 => putField (putField x 4 6 s.cryHost) 12 5 (min 16 s.cryInternal)
  | 0x1E008 => putField (putField x 3 3 (s.acc.queue.filter (fun r => r.tag.isSome)).length) 10 3 s.acc.history.length
  | 0x1E00C => s.lockRem
  | 0x1F004 => s.fltStat
  | 0x20004 => s.evr.queue.length + 256 * s.pow.latch.length
  | 0x21040 => s.otpWord
  | 0x21044 => s.otp2Word
  | 0x21048 => if s.otp.life = 0 then x else putField x 0 1 1
  | _ => x

/-- The words of arrays that are shown so. -/
def State.shownArr (s : State) (off x : Nat) : Nat :=
  if 0x14000 ≤ off ∧ off < 0x17000 ∧ (off - 0x14000) % 1024 = 0x2C then s.canPend ((off - 0x14000) / 1024)
  else if 0x1C100 ≤ off ∧ off < 0x1C180 then (s.sq ((off - 0x1C100) / 4)).consumed
  else if 0x1D040 ≤ off ∧ off < 0x1D050 then putField x 8 3 (s.provOf ((off - 0x1D040) / 4))
  else if 0x1F020 ≤ off ∧ off < 0x1F040 then mapBits 32 (fun j => decide (2 ≤ s.fltSt ((off - 0x1F020) * 8 + j)))
  else s.shown off x

/-- What word `off` of BAR0 shows now (R6, R7): 0 where no register is, 0 for write-only fields, which hold nothing. -/
def State.wordNow (s : State) (off : Nat) : W32 :=
  match regRow off with
  | none => 0#32
  | some _ => BitVec.ofNat 32 (s.shownArr off (s.word off).toNat)

/-- What a 32-bit BAR0 read of word `off` returns (R5, R472): the current word, or for the high word of a 64-bit register the value latched by the last read of its low word, 0 before the first. -/
def State.readWord (s : State) (off : Nat) : W32 :=
  match regRow off with
  | none => 0#32
  | some r => if r.wide = 2 then SMap.get (fun _ => 0#32) s.latches.high (off - 4) else s.wordNow off

/-- What a BAR0 read of `size` bytes at `off` returns (R5): a narrow read takes the addressed bytes of the containing word. -/
def State.readBytesAt (s : State) (off size : Nat) : List Byte :=
  ((leBytes 4 (s.readWord (off / 4 * 4)).toNat).drop (off % 4)).take size

/-! ### Writes (R7, R396) -/

/-- RWL fields take written values: in MANUFACTURE with no bank ACTIVE. -/
def State.rwlOpen (s : State) : Bool := !s.hasBank && decide (s.otp.life = 0)

/-- The image in force holds the RWL fields of word `off` as written (R396), and the entries follow it (R49, R67), as do the frame programs (R201, R214). -/
def State.imageTakes (s : State) (off : Nat) (v : W32) : State :=
  let regs := SMap.set resetWord s.img.regs off (mixRwl off (SMap.get resetWord s.img.regs off) v)
  let t : Tables := { s.img with regs := regs }
  let t1 := if 0x11000 ≤ off ∧ off < 0x12000 then t.withProgRegs regs ((off - 0x11000) / 16) else t
  ((({ s with img := t1 } : State).keepBlocks s.img).dropEntries s).dropSent

/-- RWL fields of word `off` take effect at once (R396): the unit that owns them meets them as it would a new image. -/
def State.writeRwl (s0 : State) (off : Nat) (v : W32) : State :=
  let regs := SMap.set resetWord s0.regs off (mixRwl off (s0.word off) v)
  let s := s0.imageTakes off v
  match regDie off with
  | some d =>
    if (s.ana d).params then s.dieTakes d regs (s.dieNow d) else s.takeRegs regs (fun k => decide (k = off))
  | none =>
    let s1 := s.takeRegs regs (fun k => decide (regDie k = none))
    let s2 := if s1.flag Reg.TIME_DISC.ASEN then s1 else s1.wr Reg.TIME_RATE.CORR 0
    let s3 := if s.tb.framesOn ∧ s.period ≠ s2.period then s2.newT0 s s.bound else s2
    (s3.showWetLoad).commitUnitsL s

/-- The fields of word `off` that are RW or W1C; a bit that hardware set in this tick stays set (R8). -/
def State.writeFields (s : State) (off : Nat) (r : RegRow) (v : W32) : State :=
  let x := s.word off
  let rw := BitVec.ofNat 32 r.rw
  let now := SMap.get (fun _ => 0#32) s.hwSet off
  s.setWord off (((x &&& ~~~rw) ||| (v &&& rw)) &&& ~~~(v &&& BitVec.ofNat 32 r.w1c &&& ~~~now))

/-- A word with RWL or OTP fields (R7): taken while it is open, else discarded and reported. -/
def State.writeLocked (s : State) (off : Nat) (r : RegRow) (v : W32) : State :=
  if r.otp ≠ 0 ∨ (r.rwl ≠ 0 ∧ !s.rwlOpen) then s.accErr off 3
  else if r.rwl ≠ 0 then s.writeRwl off v
  else s

/-- The state that a command leaves, where it goes on. -/
def afterCmd (s : State) : Res → State
  | .next t => t
  | _ => s

/-- A write to a register with behaviour of its own, as the command of that behaviour: the control registers of units, controllers and channels. -/
def State.writeUnitCtl (s : State) (off v : Nat) : Option State :=
  if 0x08000 ≤ off ∧ off < 0x08C00 ∧ off % 64 = 0x38 then some (if bitOf v 0 then s.clearWrite (chanSrc ((off - 0x08000) / 64)) else s)
  else if 0x09000 ≤ off ∧ off < 0x09400 ∧ off % 64 = 0x38 then some (if bitOf v 0 then s.clearWrite (chanSrc (48 + (off - 0x09000) / 64)) else s)
  else if 0x0A000 ≤ off ∧ off < 0x0A380 ∧ off % 64 = 0x3C then some (if bitOf v 0 then s.clearWrite (motorSrc ((off - 0x0A000) / 64)) else s)
  else if 0x0B000 ≤ off ∧ off < 0x0B600 ∧ off % 64 = 0x20 then some (if bitOf v 0 then s.clearWrite (valveSrc ((off - 0x0B000) / 64)) else s)
  else if 0x0B600 ≤ off ∧ off < 0x0B900 ∧ (off - 0x0B600) % 128 = 0x0C then some (if bitOf v 0 then s.clearWrite (0x0420 + (off - 0x0B600) / 128) else s)
  else if 0x0C000 ≤ off ∧ off < 0x0C300 ∧ off % 16 = 0x0C then some (if bitOf v 0 then s.clearWrite (ledSrc ((off - 0x0C000) / 16)) else s)
  else none

/-- The CAN and LIN control registers. -/
def State.writeBusCtl (s : State) (off v : Nat) : Option State :=
  if 0x14000 ≤ off ∧ off < 0x17000 ∧ (off - 0x14000) % 1024 = 0x28 then
    let c := (off - 0x14000) / 1024
    let s1 := if bitOf v 0 then afterCmd s (execCanCtlRecover c s) else s
    some (if bits v 1 2 = 1 then afterCmd s1 (execCanCtlRestrSet c s1) else if bits v 1 2 = 2 then afterCmd s1 (execCanCtlRestrClear c s1) else s1)
  else if 0x18000 ≤ off ∧ off < 0x18280 ∧ off % 64 = 0x14 then
    let n := (off - 0x18000) / 64
    let s1 := if bitOf v 4 then afterCmd s (execLinCtlSreq n (bits v 0 4) s) else s
    let s2 := if bitOf v 5 then afterCmd s1 (execLinCtlSleep n s1) else s1
    some (if bitOf v 6 then afterCmd s2 (execLinCtlWake n s2) else s2)
  else none

/-- The remaining registers with behaviour of their own. -/
def State.writeOwn (s : State) (off v : Nat) : Option State :=
  match off with
  | 0x01020 => some (if bits v 0 2 = 1 then s.voteHost true else if bits v 0 2 = 2 then s.voteHost false else s)
  | 0x04040 => some (s.peek (BitVec.ofNat 32 v))
  | 0x1000C =>
    some (if bits v 4 2 = 1 then s.svcRemove (bits v 0 3) none else if bits v 4 2 = 2 then s.svcReturn (bits v 0 3) none else s)
  | 0x1C000 => some (if bitOf v 0 then s.hostEnable (bits v 8 7) else s.hostDisable (bits v 8 7))
  | 0x1F040 => some (if bitOf v 8 then afterCmd s (execFltCtlClr (bits v 0 8) s) else s)
  | _ => match s.writeUnitCtl off v with
    | some t => some t
    | none => s.writeBusCtl off v

/-- The low word of a writable 64-bit register is held for the high word's write (R472). -/
def State.holdLowWord (s : State) (off : Nat) (v : W32) : State :=
  { s with latches := { s.latches with low := SMap.set (fun _ => none) s.latches.low off (some v) } }

/-- A 64-bit register takes both words: the low word held since the last write of the high word, else its current one (R472). -/
def State.writeHigh (s : State) (off : Nat) (v : W32) : State :=
  let lo := (SMap.get (fun _ => none) s.latches.low (off - 4)).getD (s.word (off - 4))
  let s1 := (s.setWord (off - 4) lo).setWord off v
  { s1 with latches := { s1.latches with low := SMap.set (fun _ => none) s1.latches.low (off - 4) none } }

/-- A 32-bit write that reaches the register at `off`. -/
def State.writeReg (s : State) (off : Nat) (v : W32) : State :=
  match regRow off with
  | none => s.accErr off 2
  | some r =>
    match s.writeOwn off v.toNat with
    | some t => t
    | none =>
      if r.wide = 1 ∧ r.rw ≠ 0 then s.holdLowWord off v
      else if r.wide = 2 ∧ r.rw ≠ 0 then s.writeHigh off v
      else (s.writeFields off r v).writeLocked off r v

/-- A BAR0 write of `size` bytes (R5, R6, R418): narrower ones are discarded, and one to a unit's register of a die that is not ready stalls.  A narrow write to an offset that no register occupies sets SIZE and not UNMAPPED, and a 32-bit write at an offset that is not word-aligned is discarded as a narrow one is (DESIGN CHOICE, log entries 14 and 15). -/
def State.busWrite (s : State) (off size : Nat) (v : W32) : State :=
  if !s.started ∨ 0x100000 ≤ off then s
  else if size ≠ 4 ∨ off % 4 ≠ 0 then s.accErr off 1
  else
    match regDie off, regRow off with
    | some d, some _ => if s.domReady d then s.writeReg off v else s.stall d (.write off size v)
    | _, _ => s.writeReg off v

/-- REGISTER_WRITE (R7). -/
def execRegisterWrite (off size : Nat) (value : W32) (s : State) : Res := .next (s.busWrite off size value)

/-- WRITE_64_HIGH_WORD (R472): `off` is the offset of the high word. -/
def execWrite64HighWord (off : Nat) (value : W32) (s : State) : Res :=
  .next (match regRow off with
    | some r => if r.wide = 2 then s.busWrite off 4 value else s
    | none => s)

/-- A 32-bit read of the low word of a 64-bit register at `off` returns it and latches the high word (R5, R472). -/
def State.latchHigh (s : State) (off : Nat) : State :=
  ({ s with latches := { s.latches with high := SMap.set (fun _ => 0#32) s.latches.high off (s.wordNow (off + 4)) } } : State).emit
    (.readData off (s.wordNow off))

/-- A 32-bit read of the low word of a 64-bit register; one of a unit of a die that is not ready stalls (R418). -/
def State.readLow (s : State) (off : Nat) : State :=
  match regRow off with
  | none => s
  | some r =>
    if !s.started ∨ r.wide ≠ 1 then s
    else
      match regDie off with
      | some d => if s.domReady d then s.latchHigh off else s.stall d (.read off)
      | none => s.latchHigh off

/-- READ_64_LOW_WORD (R472). -/
def execRead64LowWord (off : Nat) (s : State) : Res := .next (s.readLow off)

/-! ### Completion timeouts (R286, R291, R302, R306) -/

/-- The read of host memory that the operation of tag `t` waits for times out: the operation starts with a failed read (R302). -/
def State.operationTimeout (s : State) (t : Nat) : State :=
  match (s.op t).map HostOp.opcode with
  | some 0x10 => s.ledgerWrite t .timeout
  | some 0x20 => s.canTx t .timeout
  | some 0x2C => s.ethTx t .timeout
  | some 0x30 => s.cipherOp t .timeout .timeout
  | some 0x31 => s.hashOp t .timeout
  | some 0x60 => s.cfgWrite t .timeout
  | some 0x66 => s.rootProvision t .timeout
  | _ => s

/-- PCIE_COMPLETION_TIMEOUT: the read that waits for its completion fails with a timeout. -/
def State.completionTimeout (s : State) : ReadKind → State
  | .doorbell => s.doorbellData .timeout
  | .descriptor q => s.descriptor q .timeout
  | .operation t => s.operationTimeout t

def execPcieCompletionTimeout (x : ReadKind) (s : State) : Res := .next (s.completionTimeout x)

end Sys2Proof.Machine
end

