-- ==== Sys2Proof/Machine/Boot.lean ====
section
/-! DEFINITION. Die L and the power dies off and on: what a die that loses its supply or its domain keeps, what die L loses when it stops (R261, R310, R389), the time epoch (R27, R28), and a start of die L up to its waiting for frame 0 (R36, R423, steps 3 to 5). -/

namespace Sys2Proof.Machine

/-! ### A power die without its main domain (R416, R439) -/

/-- The word `off` of a die that is off, `v` being what it held: RWL fields stay with the image, a motor's position with the candle domain (R141), all else is at its reset value. -/
def offWord (off : Nat) (v : W32) : W32 :=
  let x := mixRwl off (resetWord off) v
  if 0x0A000 ≤ off ∧ off < 0x0A380 ∧ off % 64 = 0x30 then v
  else if 0x0A000 ≤ off ∧ off < 0x0A380 ∧ off % 64 = 0x28 then (x &&& ~~~16#32) ||| (v &&& 16#32)
  else x

/-- The die of an HB pair's or an integrated half-bridge's ember latch, by its key (R115, R128). -/
def hbDie (k : Nat) : Die := if k < 6 then motorDie k else motorDie (min 13 (k - 6))

/-- What the units of die d held is lost. -/
def State.unitsLost (s : State) (d : Die) : State :=
  match d with
  | .v => { s with vl := [], vb := [], bst := {}, ld := [], ledArr := {}, cel := s.cel.filter (fun p => decide (p.1 < 10)),
                   acc := { s.acc with off := 255, lf := {} } }
  | _ => { s with ch := s.ch.filter (fun p => decide (chanDie p.1 ≠ d)), mu := s.mu.filter (fun p => decide (motorDie p.1 ≠ d)),
                  hbEmber := s.hbEmber.filter (fun p => decide (hbDie p.1 ≠ d)), brgSeq := SMap.del (dieNum d) s.brgSeq,
                  cel := SMap.del (8 + dieNum d) s.cel, ppTo0 := [], ppTo1 := [] }

/-- Die d has no main domain and no island any more. -/
def State.dieOff (s : State) (d : Die) : State :=
  let k := dieNum d
  let s1 := s.regs.foldl (fun s p => if regDie p.1 = some d then s.setWord p.1 (offWord p.1 p.2) else s) s
  let s2 := (((s1.unitsLost d).setLink d {}).setAna d {}).setIsl d {}
  let s3 := ((s2.wr Reg.PWR_STAT.DOM (clearBitOf (s2.rd Reg.PWR_STAT.DOM) k)).wr Reg.PWR_STAT.SLP (clearBitOf (s2.rd Reg.PWR_STAT.SLP) k)).setLocked d false
  { s3 with led := { s3.led with sent := s3.led.sent.filter (fun p => decide (entryDie p.1 ≠ some d)) },
            tb := { s3.tb with dieConfirmed := SMap.del k s3.tb.dieConfirmed } }

/-- Every power die is off. -/
def State.diesOff (s : State) : State := allDies.foldl State.dieOff s

/-- The motors of die d have lost their positions. -/
def State.posLost (s : State) (d : Die) : State :=
  (motorsOf d).foldl (fun s m => (s.wr (Reg.BRG_POS.POS m) 0).wr (Reg.BRG_STAT.POSUNC m) 1) s

/-! ### Die L stops -/

/-- The bits of a register word of die L that outlive its stop: what the candle domain, a power die, OTP or MRAM holds, and with `same` what the time base holds while the epoch goes on (R28, R45). -/
def keepMask (same : Bool) (off : Nat) : W32 :=
  let all := 0xFFFFFFFF#32
  if off = 0x01000 then 0x777#32
  else if off = 0x01008 ∨ off = 0x0100C ∨ off = 0x01010 ∨ off = 0x01018 then all
  else if off = 0x0EC04 ∨ off = 0x0EC08 then all
  else if off = 0x02000 ∨ off = 0x02028 ∨ off = 0x02030 ∨ off = 0x02034 ∨ (0x02040 ≤ off ∧ off ≤ 0x02058) then (if same then all else 0#32)
  else if (0x08C00 ≤ off ∧ off < 0x09000) ∨ (0x0A400 ≤ off ∧ off < 0x0A500) ∨ (0x0EA80 ≤ off ∧ off < 0x0F000) then (if same then all else 0#32)
  else if off = 0x14114 ∨ off = 0x14514 then all
  else if off = 0x1D00C ∨ off = 0x1D010 ∨ off = 0x1D014 ∨ (0x1D040 ≤ off ∧ off < 0x1D050) ∨ (0x1D100 ≤ off ∧ off < 0x1D300) then all
  else if off = 0x1D008 then 0x300000#32
  else if off = 0x1E008 then 0x300#32
  else if 0x1E100 ≤ off ∧ off < 0x1E180 then all
  else if 0x1FC00 ≤ off ∧ off < 0x20000 then all
  else if 0x20008 ≤ off ∧ off ≤ 0x20014 then all
  else if off = 0x21000 then 0xFF#32
  else if off = 0x21004 ∨ (0x21010 ≤ off ∧ off < 0x21030) then all
  else 0#32

/-- A register word of die L after it has stopped: RWL fields stay, the bits of `keepMask` stay, all else is at its reset value. -/
def stopWord (same : Bool) (off : Nat) (v : W32) : W32 :=
  let m := rwlMask off ||| keepMask same off
  (resetWord off &&& ~~~m) ||| (v &&& m)

/-- The registers of die L when it stops or starts. -/
def State.stopRegs (s : State) (same : Bool) : State :=
  s.regs.foldl (fun s p => if regDie p.1 = none then s.setWord p.1 (stopWord same p.1 p.2) else s) s

/-- A die's link when die L stops: what was on its way from die L is gone. -/
def DieLink.cut (l : DieLink) : DieLink :=
  { l with down := [], params := none, lateAct := none,
           up := l.up.filter (fun m => match m with
             | .ack _ => false
             | _ => true) }

/-- Die L stops (R28, R261, R310, R389, R419): its queues, ledger, rings, buses and cores are gone; the dies go on with what they hold (R24). -/
def State.stopL (s : State) : State :=
  let s1 := s.stopRegs true
  { s1 with
    now := 0, tb := { s1.tb with framesOn := false }, latches := {}, host := {}, can := [], lin := [], eth := {}, rfx := {}
    led := { sent := s1.led.sent.filter (fun p => decide (entryDie p.1 ≠ none)) }
    cel := s1.cel.filter (fun p => decide (8 ≤ p.1))
    linkP0 := s1.linkP0.cut, linkP1 := s1.linkP1.cut, linkV := s1.linkV.cut
    pow := { s1.pow with stalls := [], stallAt := [], parkSent := false, shutdownAt := 0 } }

/-! ### The epoch (R27, R28) -/

/-- A new time epoch (R27): the counter at 1, the time base STARTING, and every island's link delay measured (R33). -/
def State.newEpoch (s : State) : State :=
  let s1 : State := { s.stopRegs false with now := 1, tb := { startTick := 1 }, islP0 := {}, islP1 := {}, islV := {}, pow := { s.pow with epoch := true } }
  (allDies.foldl State.measureDelay s1).evrEpoch

/-- P0's counter as it reaches die L: what it was when it left, a link delay ago (R28). -/
def State.copyOfP0 (s : State) : Nat := s.islP0.count - s.islP0.delay

/-- The epoch goes on from the counter of P0, to which die L adds the link delay (R28); the time base keeps its state. -/
def State.sameEpoch (s : State) : State :=
  { s with now := max 1 (s.copyOfP0 + s.islP0.delay),
           tb := { s.tb with framesOn := false, dieConfirmed := [], sealed := false, closed := false, markersSent := 0, anchorSet := false, anchorBroken := false } }

/-- Why die L starts: a wake or rail loss, or a device reset with the P1 of its record (R389). -/
def State.startRecord (s : State) (why : Nat) : State :=
  if why = 0 then s.replay else s.newRecord { code := 0x0FE2, tick := s.now, p1 := why }

/-- The recorder, the kennel and the banks at a start (R371, R381, R386, R387, R402, R403). -/
def State.startStores (s : State) (why : Nat) : State := ((s.evrBoot.startRecord why).fltBoot.cryBoot).banksBoot

/-- Every bus, the access engine and the cores start on the active image (R209, R261, R348, R355); `secs` seconds have aged a lockout in a new epoch. -/
def State.startUnits (s : State) (fresh : Bool) (secs : Nat) (pass : List Bool) : State :=
  let s1 := (List.range 12).foldl (State.canReset fresh) s
  let s2 := ((List.range 10).foldl State.linReset s1).ethReset
  let s3 := if fresh then s2.accBoot.accWake secs else s2.accBoot
  let s4 := (s3.accEnter.engineStart pass).peersStart
  { s4 with cfg := { s4.cfg with lanternsDue := 0, lanternCount := 0, lanternTick := s4.now / 200000000 * 200000000 } }

/-! ### What die L reports at its start (R415, R418, R423, R434) -/

/-- Main domain d has failed: `DFAIL`, fault kind 0x23 on the die, and its event. -/
def State.domainFail (s : State) (d : Die) : State :=
  let k := dieNum d
  ((s.raiseFlag ⟨Reg.PWR_ERR.DFAIL.off, Reg.PWR_ERR.DFAIL.lo + k, 1⟩).raiseL (0x0D01 + k) 0x23 s.now).event 0x0D89 s.now (1 + k)

/-- Domains that failed before die L ran. -/
def State.domainsFailed (s : State) : State :=
  let ds := allDies.filter (fun d => bitOf s.pow.dieFailed (dieNum d))
  ds.foldl State.domainFail { s with pow := { s.pow with dieFailed := 0 } }

/-- The power registers take the candle domain's values (R434). -/
def State.startPower (s : State) : State :=
  let s1 := if s.pow.waking then s.setWord Reg.PWR_WAKE.SRC.off (BitVec.ofNat 32 (s.pow.src % 1024)) else s
  let s2 := ((s1.wr Reg.PWR_ERR.REGFAIL (b2n s.pow.wakeFailed)).wr Reg.PWR_ERR.PARKREG (b2n s.pow.parkFailed)).wr Reg.PWR_ERR.RAIL s.pow.railLost
  (s2.domainsFailed).powerGo Pw.waking s2.now

/-- The active parameters go to die d, if its main domain is ready (R36, R423). -/
def State.sendActive (s : State) (d : Die) : State := if s.domReady d then s.sendDown d (.params s.activeRegs false) else s

/-- The time epoch goes on when die L starts (R27, R28): it has begun since the last PARK or power-on, and P0 is powered. -/
def State.epochGoesOn (s : State) : Bool := s.pow.epoch && (s.domReady .p0 || s.asleep .p0)

/-- Die L starts: epoch, stores, image, units, reports, parameters (R28, R36, R423). -/
def State.boot (s : State) (why secs : Nat) (pass : List Bool) : State :=
  let fresh := !s.epochGoesOn
  let s1 := if fresh then s.newEpoch else s.sameEpoch
  let s2 := s1.startStores why
  let s3 := s2.loadImage s2.activeRegs s2.activeTables
  let s4 := (s3.wr Reg.LEDG_BLOB.USED s3.img.blobBytes).startUnits fresh secs pass
  allDies.foldl State.sendActive s4.startPower

/-! ### Device reset (R26, R28, R36, R309, R425, R427) -/

/-- A device reset; after the last boundary it abandons what is left of the park sequence on die L.  `why` is 1 for RESET_N, 2 for the MGP. -/
def State.deviceReset (s : State) (why : Nat) (pass : List Bool) : State :=
  if !s.started then s
  else if s.pow.lastBound.isSome then
    let s1 := s.busesCut.hostStop
    { s1 with pow := { s1.pow with forcedDue := false }, evr := { s1.evr with queue := [], discards := 0 } }
  else s.accPark.stopL.boot why 0 pass

/-- DEVICE_RESET (R28). -/
def execDeviceReset (mgp : Bool) (pass : List Bool) (s : State) : Res := .next (s.deviceReset (if mgp then 2 else 1) pass)

/-- The management port is served: RUN, LIMP or SHUTDOWN (R422). -/
def State.mgpServed (s : State) : Bool := s.started && decide (Pw.run ≤ s.power)

/-- MGP_RESET (R422): 0x0A with 0x5A; any other data byte is NACKed. -/
def execMgpReset (data : Nat) (pass : List Bool) (s : State) : Res :=
  .next (if s.mgpServed && decide (data = 0x5A) then s.deviceReset 2 pass else s)

/-- MGP_STATUS (R422). -/
def execMgpStatus (s : State) : Res :=
  .next (if s.mgpServed then s.emit (.mgp (leBytes 2 ((s.readWord Reg.PWR_STAT.STATE.off).toNat % 65536) ++ leBytes 2 (s.rd Reg.PWR_WAKE.SRC))) else s)

/-- MGP_DEBUG (R404, R422): the access that an unlock grants reads and writes nothing that the spec describes; without one it is NACKed. -/
def execMgpDebug (_cmd : Nat) (s : State) : Res := .next s

/-- PWR_STATUS (R431): eight words in offset order. -/
def State.pwrStatus (s : State) (t : Nat) : State :=
  match s.opReady t 0x71 with
  | none => s
  | some _ => s.complete t St.ok 0 0 ((List.range 8).flatMap (fun i => leBytes 4 (s.readWord (0x01000 + 4 * i)).toNat))

def execPwrStatus (t : Nat) (s : State) : Res := .next (s.pwrStatus t)

end Sys2Proof.Machine
end

