-- ==== Sys2Proof/Machine/Celper.lean ====
section
/-! DEFINITION. The Celper machines (R218 to R236): issue, cost, skip, loops, the multiplier and program errors; the instructions themselves are in the files that follow. -/

namespace Sys2Proof.Machine

/-! ### Words (R221, R222) -/

/-- The formats of R221, by the fields they hold. -/
def encR (op d a b : Nat) : Nat := op * 2 ^ 26 + d * 2 ^ 21 + a * 2 ^ 16 + b * 2 ^ 11
def encI (op d a imm : Nat) : Nat := op * 2 ^ 26 + d * 2 ^ 21 + a * 2 ^ 16 + imm
def encX (op d index : Nat) : Nat := op * 2 ^ 26 + d * 2 ^ 21 + index
def encJ (op off : Nat) : Nat := op * 2 ^ 26 + off
def encC (op a b cond off : Nat) : Nat := op * 2 ^ 26 + a * 2 ^ 21 + b * 2 ^ 16 + cond * 2 ^ 13 + off
def encCI (op a cond imm : Nat) : Nat := op * 2 ^ 26 + a * 2 ^ 21 + cond * 2 ^ 18 + imm
def encLP (op a n : Nat) : Nat := op * 2 ^ 26 + a * 2 ^ 21 + n
def encLPI (op cnt n : Nat) : Nat := op * 2 ^ 26 + cnt * 2 ^ 14 + n
def encZ (op low : Nat) : Nat := op * 2 ^ 26 + low

/-- The reserved bits of a word with opcode `op`, none where R222 does not list the opcode. -/
def reservedBits (op : Nat) : Option (Nat × Nat) :=
  if 0x01 ≤ op ∧ op ≤ 0x0A then some (0, 11)
  else if op = 0x0C ∨ op = 0x0D then some (0, 26)
  else if 0x10 ≤ op ∧ op ≤ 0x16 ∨ op = 0x18 then some (0, 0)
  else if op = 0x17 then some (16, 5)
  else if 0x20 ≤ op ∧ op ≤ 0x22 then some (0, 11)
  else if op = 0x23 then some (16, 5)
  else if op = 0x24 then some (21, 5)
  else if op = 0x28 ∨ op = 0x29 ∨ op = 0x2C then some (0, 0)
  else if op = 0x2E then some (16, 5)
  else if op = 0x2F then some (21, 5)
  else if op = 0x30 ∨ op = 0x31 ∨ op = 0x35 then some (17, 4)
  else if op = 0x32 ∨ op = 0x33 ∨ op = 0x36 then some (0, 16)
  else if op = 0x34 then some (0, 11)
  else if op = 0x38 ∨ op = 0x39 then some (0, 0)
  else if op = 0x3A then some (0, 16)
  else if op = 0x3B then some (0, 13)
  else if op = 0x3C then some (16, 2)
  else if op = 0x3D then some (4, 22)
  else if op = 0x3E then some (16, 5)
  else if op = 0x3F then some (0, 0)
  else none

/-- The further reserved field of MUL, MULU, MAC and JR: d (R222). -/
def reservedD (op : Nat) : Bool := (decide (0x20 ≤ op) && decide (op ≤ 0x22)) || decide (op = 0x3A)

/-- The opcodes of Celper/S alone, and of Celper/L alone (R222). -/
def onlyS (op : Nat) : Bool := decide (op = 0x2C) || decide (op = 0x2E) || decide (op = 0x2F)
def onlyL (op : Nat) : Bool := (decide (0x30 ≤ op) && decide (op ≤ 0x36)) || (decide (0x3B ≤ op) && decide (op ≤ 0x3D))

/-- The execution errors of R235. -/
abbrev Ex.illegal : Nat := 0x10
abbrev Ex.reserved : Nat := 0x11
abbrev Ex.register : Nat := 0x12
abbrev Ex.special : Nat := 0x13
abbrev Ex.loopdepth : Nat := 0x14
abbrev Ex.loopnest : Nat := 0x15
abbrev Ex.memory : Nat := 0x16
abbrev Ex.code : Nat := 0x17

/-- What is wrong with a word of a frame program as a word, 0 if nothing (R222, R223). -/
def wordError (w : Nat) : Nat :=
  let op := w / 2 ^ 26
  match reservedBits op with
  | none => Ex.illegal
  | some (lo, n) => if onlyS op then Ex.illegal else if bits w lo n ≠ 0 ∨ (reservedD op ∧ bits w 21 5 ≠ 0) then Ex.reserved else 0

/-- The issue cycles that a word of a frame program is charged (R224); a word that is no instruction is charged 1. -/
def wordCost (w : Nat) : Nat :=
  let op := w / 2 ^ 26
  if op = 0x31 ∨ op = 0x33 then 4
  else if op = 0x30 ∨ op = 0x32 ∨ op = 0x34 ∨ op = 0x35 ∨ op = 0x36 then 2
  else if op = 0x38 ∨ op = 0x39 ∨ op = 0x3A then 2
  else 1

/-! ### Machine state (R219, R220, R229) -/

/-- A general register; g0 reads 0. -/
def Cel.g (x : Cel) (r : Nat) : W32 := if r = 0 then 0#32 else SMap.get (fun _ => 0#32) x.regs r

/-- A general register is written; writes to g0 are discarded. -/
def Cel.setG (x : Cel) (r : Nat) (v : W32) : Cel := if r = 0 then x else { x with regs := SMap.set (fun _ => 0#32) x.regs r v }

/-- MH:ML with its low or its high word replaced. -/
def accLow (a : W64) (v : W32) : W64 := BitVec.ofNat 64 (a.toNat / 2 ^ 32 * 2 ^ 32 + v.toNat)
def accHigh (a : W64) (v : W32) : W64 := BitVec.ofNat 64 (a.toNat % 2 ^ 32 + v.toNat * 2 ^ 32)

/-- A product takes effect (R229). -/
def CelProd.into (p : CelProd) (a : W64) : W64 := if p.adds then a + p.value else p.value

/-- The products due at issue cycle c take effect, in the order of their issue. -/
def Cel.deliver (x : Cel) (c : Nat) : Cel :=
  { x with acc := (x.prods.filter (fun p => decide (p.due ≤ c))).foldl (fun a p => p.into a) x.acc, prods := x.prods.filter (fun p => !decide (p.due ≤ c)) }

/-- The machine's kind (R218): a reflex core runs Celper/L. -/
def CoreId.isL : CoreId → Bool
  | .reflex _ => true
  | _ => false

/-- Loop levels the machine has (R218). -/
def maxDepth (k : CoreId) : Nat := if CoreId.isL k then 4 else 2

/-- A machine the device has. -/
def CoreId.exists : CoreId → Bool
  | .reflex c => decide (c < 8)
  | .bridge d => decide (d < 2)
  | .bank b => decide (b < 6)
  | .lf => true

/-- A code address lies inside the code that machine k runs (R219, R235): the span of its program, or the addresses there are. -/
def State.inCode (s : State) (k : CoreId) (pc : Int) : Bool :=
  if CoreId.isL k then
    let p := s.img.progAt (s.celAt (celIdx k)).prog
    decide ((p.first : Int) ≤ pc) && decide (pc < (p.first + p.words : Nat))
  else decide (0 ≤ pc) && decide (pc < 65536)

/-- The word of a frame program at its program counter. -/
def State.codeWord (s : State) (c : Nat) : Nat := (SMap.get (fun _ => 0#32) s.img.code (s.celAt c).pc).toNat

/-! ### The next address (R225 to R228) -/

/-- Where an instruction sends its machine. -/
inductive CelNext where
  | seq
  | branch (t : Int)
  | jump (t : Int)
  | skip
  | push (l : CelLoop)
  | stop
  | error (code : Nat)
  deriving DecidableEq, Repr

/-- The end check of the innermost level, and the address that follows in sequence (R227). -/
def Cel.after (x : Cel) : Cel :=
  match x.loops with
  | [] => { x with pc := x.pc + 1 }
  | l :: ls =>
    if x.pc = l.le then
      if 1 < l.lc.toNat then { x with pc := l.ls, loops := { l with lc := l.lc - 1 } :: ls } else { x with pc := l.le + 1, loops := ls }
    else { x with pc := x.pc + 1 }

/-- The levels that a taken branch to t leaves standing (R228). -/
def popTo (t : Nat) : List CelLoop → List CelLoop
  | [] => []
  | l :: ls => if l.ls ≤ t ∧ t ≤ l.le then l :: ls else popTo t ls

/-- The machine at its next address. -/
def Cel.goTo (x : Cel) (n : CelNext) : Cel :=
  match n with
  | .seq => x.after
  | .branch t => { x with pc := t.toNat, loops := popTo t.toNat x.loops }
  | .jump t => { x with pc := t.toNat }
  | .skip => { x.after with skip := true }
  | .push l => { x with pc := x.pc + 1, loops := l :: x.loops }
  | .stop => x
  | .error _ => x

/-- The address a machine would go to lies outside its code. -/
def State.leaves (s : State) (k : CoreId) (x : Cel) (n : CelNext) : Bool :=
  match n with
  | .branch t => !s.inCode k t
  | .jump t => !s.inCode k t
  | .stop => false
  | .error _ => false
  | _ => !s.inCode k (x.goTo n).pc

/-! ### Ends and errors of a run (R204, R234 to R236) -/

/-- The first program error of a run (R235): a raise and an event with program, code, address and frame. -/
def State.progError (s : State) (c code addr : Nat) : State :=
  let x := s.celAt c
  if x.erred then s
  else
    (s.setCel c { x with erred := true }).faultL (coreSrc c) 0x52 s.now (x.prog + 256 * code + 65536 * addr) (s.rd Reg.TIME_FRAME.F)

/-- A sequencer's machine with an overrun or an execution error (R138, R164, R236, R335). -/
def State.seqError (s : State) (k : CoreId) : State :=
  match k with
  | .bridge d => s.bridgeOverrunAt (dieOfNum d) (s.dieNow (dieOfNum d))
  | .bank b => s.bankOverrunAt b s.vNow
  | .lf => s.lfOverrun
  | .reflex _ => s

/-- An execution error of machine k (R235): a frame program ends without write-back and its core goes on; a sequencer overruns. -/
def State.celFault (s : State) (k : CoreId) (code : Nat) : State :=
  match k with
  | .reflex c => ((s.progError c code (s.celAt c).pc).chargeRun c false).dispatchCore c
  | _ => (s.seqHalt (celIdx k)).seqError k

/-- The end of a run or of a control step (R200, R236): a sequencer shows the most cycles a step has taken. -/
def State.celEnd (s : State) (k : CoreId) : State :=
  let n := (s.celAt (celIdx k)).cyc
  match k with
  | .reflex c => s.endRunOf c
  | .bridge d => (s.seqHalt (8 + d)).wr (Reg.BRG_SEQ.PEAK d) (max (min n 65535) (s.rd (Reg.BRG_SEQ.PEAK d)))
  | .bank b => (s.seqHalt (10 + b)).wr (Reg.VLV_SEQ.PEAK b) (max (min n 65535) (s.rd (Reg.VLV_SEQ.PEAK b)))
  | .lf => s.seqHalt 16

/-! ### Issue (R223 to R225, R229) -/

/-- What an instruction does: the state with its effects outside the machine, the machine, where it goes, and the load or store error it makes (R234, 0 for none). -/
structure CelAct where
  s : State
  x : Cel
  next : CelNext := .seq
  soft : Nat := 0

/-- The instruction that machine `k` has at its program counter is charged, and acts (R223 to R229): `x` has the products due and the charge. -/
def State.celPerform (s : State) (k : CoreId) (x : Cel) (a : CelAct) : State :=
  let i := celIdx k
  match a.next with
  | .error code => (s.setCel i x).celFault k code
  | .stop => (a.s.setCel i { a.x with prods := [] }).celEnd k
  | n =>
    if s.leaves k a.x n then (s.setCel i x).celFault k Ex.code
    else
      let s1 := a.s.setCel i (a.x.goTo n)
      match k with
      | .reflex c => if a.soft = 0 then s1 else s1.progError c a.soft x.pc
      | _ => s1

/-- A skipped instruction (R225): one cycle, no effect, no check but that the run stays inside its code. -/
def State.celSkipped (s : State) (k : CoreId) (x : Cel) : State :=
  s.celPerform k x { s := s, x := { x with skip := false } }

/-- The budget of the run on machine k would be exceeded by n more cycles (R204); a sequencer has no budget. -/
def State.exceeds (s : State) (k : CoreId) (n : Nat) : Bool :=
  let x := s.celAt (celIdx k)
  CoreId.isL k && decide ((s.img.progAt x.prog).budget < x.cyc + n)

/-- The run on core c is aborted for its budget, and the core goes on (R204). -/
def State.budgetOut (s : State) (k : CoreId) : State :=
  match k with
  | .reflex c =>
    let s1 := (s.abortRun c 1 0).dispatchCore c
    s1.setCel c { s1.celAt c with stopAt := some s.now }
  | _ => s

/-- One instruction is issued on machine k: `word` is its encoding, `cost` its charge, `need` the registers it names, and `act` what it does. A frame program issues only what its code holds; a sequencer's code is the commands themselves (R236). -/
def State.celIssue (s : State) (k : CoreId) (word : Nat) (good : Bool) (need : List Nat) (cost : Cel → Nat) (act : State → Cel → CelAct) : State :=
  let i := celIdx k
  let x0 := s.celAt i
  let w := if CoreId.isL k then s.codeWord i else word
  let e := if CoreId.isL k then wordError w else if onlyL (word / 2 ^ 26) then Ex.illegal else 0
  if !CoreId.exists k || !x0.running || !good || (e = 0 && decide (w ≠ word)) then s
  else
    let n := if x0.skip then 1 else if e ≠ 0 ∧ CoreId.isL k then wordCost w else cost x0
    if s.exceeds k n then s.budgetOut k
    else
      let x := { x0.deliver (x0.cyc + 1) with cyc := x0.cyc + n, stopAt := none }
      if x0.skip then s.celSkipped k x
      else if e ≠ 0 then s.celPerform k x0 { s := s, x := x0, next := .error e }
      else if !CoreId.isL k && need.any (fun r => decide (16 ≤ r)) then s.celPerform k x0 { s := s, x := x0, next := .error Ex.register }
      else s.celPerform k x0 (act s x)

/-- BUDGET_ABORT (R204): the next instruction of the run on core c would exceed its budget. -/
def State.budgetAbort (s : State) (c : Nat) : State :=
  let x := s.celAt c
  if c < 8 ∧ x.running ∧ s.exceeds (.reflex c) (if x.skip then 1 else wordCost (s.codeWord c)) then s.budgetOut (.reflex c) else s

def execBudgetAbort (c : Nat) (s : State) : Res := .next (s.budgetAbort c)

end Sys2Proof.Machine
end

