-- ==== Sys2Proof/Machine/CelperAlu.lean ====
section
/-! DEFINITION. Celper instructions that compute in registers (R222, R223, R229): arithmetic and logic, immediates, the multiplier, and the special registers. -/

namespace Sys2Proof.Machine

/-- One issue cycle (R224). -/
def oneCycle : Cel → Nat := fun _ => 1

/-- Sign and zero extension of a 16-bit immediate (R221). -/
def sx16 (imm : BitVec 16) : W32 := imm.signExtend 32
def zx16 (imm : BitVec 16) : W32 := imm.setWidth 32

/-- An instruction of format R that writes f(g[a], g[b]) to g[d] (R222). -/
def State.celR (s : State) (k : CoreId) (op d a b : Nat) (f : W32 → W32 → W32) : State :=
  s.celIssue k (encR op d a b) (decide (d < 32) && decide (a < 32) && decide (b < 32)) [d, a, b] oneCycle
    (fun s x => { s := s, x := x.setG d (f (x.g a) (x.g b)) })

/-- An instruction of format I that writes f(g[a], imm) to g[d] (R222). -/
def State.celI (s : State) (k : CoreId) (op d a : Nat) (imm : BitVec 16) (f : W32 → W32) : State :=
  s.celIssue k (encI op d a imm.toNat) (decide (d < 32) && decide (a < 32)) [d, a] oneCycle (fun s x => { s := s, x := x.setG d (f (x.g a)) })

/-- A shift by an immediate (R222, R223): above 31 it is an execution error. -/
def State.celShift (s : State) (k : CoreId) (op d a : Nat) (imm : BitVec 16) (f : W32 → Nat → W32) : State :=
  s.celIssue k (encI op d a imm.toNat) (decide (d < 32) && decide (a < 32)) [d, a] oneCycle
    (fun s x => { s := s, x := x.setG d (f (x.g a) imm.toNat), next := if 31 < imm.toNat then .error Ex.reserved else .seq })

/-- The shift amount of a register (R222): its low five bits. -/
def shamt (b : W32) : Nat := b.toNat % 32

/-- 1 if the condition holds, else 0. -/
def bit32 (c : Bool) : W32 := if c then 1#32 else 0#32

/-! ### Arithmetic and logic -/

/-- ADD (R222): g[d] = g[a] + g[b]. -/
def execAdd (k : CoreId) (d a b : Nat) (s : State) : Res := .next (s.celR k 0x01 d a b (fun x y => x + y))

/-- SUB (R222): g[d] = g[a] − g[b]. -/
def execSub (k : CoreId) (d a b : Nat) (s : State) : Res := .next (s.celR k 0x02 d a b (fun x y => x - y))

/-- AND (R222): g[d] = g[a] & g[b]. -/
def execAndI (k : CoreId) (d a b : Nat) (s : State) : Res := .next (s.celR k 0x03 d a b (fun x y => x &&& y))

/-- OR (R222): g[d] = g[a] | g[b]. -/
def execOrI (k : CoreId) (d a b : Nat) (s : State) : Res := .next (s.celR k 0x04 d a b (fun x y => x ||| y))

/-- XOR (R222): g[d] = g[a] ^ g[b]. -/
def execXorI (k : CoreId) (d a b : Nat) (s : State) : Res := .next (s.celR k 0x05 d a b (fun x y => x ^^^ y))

/-- SLL (R222): g[d] = g[a] shifted left by g[b][4:0]. -/
def execSll (k : CoreId) (d a b : Nat) (s : State) : Res := .next (s.celR k 0x06 d a b (fun x y => x <<< shamt y))

/-- SRL (R222): g[d] = g[a] shifted right by g[b][4:0], logically. -/
def execSrl (k : CoreId) (d a b : Nat) (s : State) : Res := .next (s.celR k 0x07 d a b (fun x y => x >>> shamt y))

/-- SRA (R222): g[d] = g[a] shifted right by g[b][4:0], arithmetically. -/
def execSra (k : CoreId) (d a b : Nat) (s : State) : Res := .next (s.celR k 0x08 d a b (fun x y => x.sshiftRight (shamt y)))

/-- SLT (R222): g[d] = 1 if g[a] < g[b] signed, else 0. -/
def execSlt (k : CoreId) (d a b : Nat) (s : State) : Res := .next (s.celR k 0x09 d a b (fun x y => bit32 (decide (x.toInt < y.toInt))))

/-- SLTU (R222): g[d] = 1 if g[a] < g[b] unsigned, else 0. -/
def execSltu (k : CoreId) (d a b : Nat) (s : State) : Res := .next (s.celR k 0x0A d a b (fun x y => bit32 (decide (x.toNat < y.toNat))))

/-! ### Immediates -/

/-- ADDI (R222): g[d] = g[a] + sx(imm). -/
def execAddi (k : CoreId) (d a : Nat) (imm : BitVec 16) (s : State) : Res := .next (s.celI k 0x10 d a imm (fun x => x + sx16 imm))

/-- ANDI (R222): g[d] = g[a] & zx(imm). -/
def execAndi (k : CoreId) (d a : Nat) (imm : BitVec 16) (s : State) : Res := .next (s.celI k 0x11 d a imm (fun x => x &&& zx16 imm))

/-- ORI (R222): g[d] = g[a] | zx(imm). -/
def execOri (k : CoreId) (d a : Nat) (imm : BitVec 16) (s : State) : Res := .next (s.celI k 0x12 d a imm (fun x => x ||| zx16 imm))

/-- XORI (R222): g[d] = g[a] ^ zx(imm). -/
def execXori (k : CoreId) (d a : Nat) (imm : BitVec 16) (s : State) : Res := .next (s.celI k 0x13 d a imm (fun x => x ^^^ zx16 imm))

/-- SLTI (R222): g[d] = 1 if g[a] < sx(imm) signed, else 0. -/
def execSlti (k : CoreId) (d a : Nat) (imm : BitVec 16) (s : State) : Res := .next (s.celI k 0x18 d a imm (fun x => bit32 (decide (x.toInt < (sx16 imm).toInt))))

/-- SLLI (R222): shift by imm. -/
def execSlli (k : CoreId) (d a : Nat) (imm : BitVec 16) (s : State) : Res := .next (s.celShift k 0x14 d a imm (fun x n => x <<< n))

/-- SRLI (R222): shift by imm. -/
def execSrli (k : CoreId) (d a : Nat) (imm : BitVec 16) (s : State) : Res := .next (s.celShift k 0x15 d a imm (fun x n => x >>> n))

/-- SRAI (R222): shift by imm. -/
def execSrai (k : CoreId) (d a : Nat) (imm : BitVec 16) (s : State) : Res := .next (s.celShift k 0x16 d a imm (fun x n => x.sshiftRight n))

/-- LUI (R222): g[d] = imm << 16. -/
def execLui (k : CoreId) (d : Nat) (imm : BitVec 16) (s : State) : Res := .next (s.celI k 0x17 d 0 imm (fun _ => zx16 imm <<< 16))

/-! ### The multiplier (R229) -/

/-- A multiplication issued in cycle c, whose product takes effect at the start of cycle c + 3. -/
def State.celMul (s : State) (k : CoreId) (op a b : Nat) (adds : Bool) (f : W32 → W32 → W64) : State :=
  s.celIssue k (encR op 0 a b) (decide (a < 32) && decide (b < 32)) [a, b] oneCycle
    (fun s x => { s := s, x := { x with prods := x.prods ++ [{ due := x.cyc + 3, adds := adds, value := f (x.g a) (x.g b) }] } })

/-- MUL (R222): signed. -/
def execMul (k : CoreId) (a b : Nat) (s : State) : Res := .next (s.celMul k 0x20 a b false (fun x y => BitVec.ofInt 64 (x.toInt * y.toInt)))

/-- MULU (R222): unsigned. -/
def execMulu (k : CoreId) (a b : Nat) (s : State) : Res := .next (s.celMul k 0x21 a b false (fun x y => BitVec.ofNat 64 (x.toNat * y.toNat)))

/-- MAC (R222): signed, added to MH:ML as it stands when the product takes effect. -/
def execMac (k : CoreId) (a b : Nat) (s : State) : Res := .next (s.celMul k 0x22 a b true (fun x y => BitVec.ofInt 64 (x.toInt * y.toInt)))

/-- MULTIPLIER_RESULT (R229): the products due by the next issue cycle take effect. -/
def State.celProducts (s : State) (k : CoreId) : State :=
  let x := s.celAt (celIdx k)
  if CoreId.exists k && x.running then s.setCel (celIdx k) (x.deliver (x.cyc + 1)) else s

def execMultiplierResult (k : CoreId) (s : State) : Res := .next (s.celProducts k)

/-! ### Special registers (R220) -/

/-- The value of special register `sp`, none where the number or the profile does not have it. -/
def State.special (s : State) (k : CoreId) (x : Cel) (sp : Nat) : Option W32 :=
  match sp with
  | 0 => some (BitVec.ofNat 32 x.acc.toNat)
  | 1 => some (BitVec.ofNat 32 (x.acc.toNat / 2 ^ 32))
  | 2 => some ((x.loops.head?.map (fun l => l.lc)).getD 0#32)
  | 3 => some (BitVec.ofNat 32 ((x.loops.head?.map (fun l => l.ls)).getD 0))
  | 4 => some (BitVec.ofNat 32 ((x.loops.head?.map (fun l => l.le)).getD 0))
  | 5 => some (BitVec.ofNat 32 x.loops.length)
  | 6 => if CoreId.isL k then some x.lstat else none
  | 7 => if CoreId.isL k then some (s.word Reg.TIME_FRAME.F.off) else none
  | 8 => if CoreId.isL k then some (BitVec.ofNat 32 x.prog) else none
  | _ => none

/-- MFS (R220, R222): g[d] = special sp. -/
def State.celMfs (s : State) (k : CoreId) (d sp : Nat) : State :=
  s.celIssue k (encI 0x23 d 0 sp) (decide (d < 32) && decide (sp < 65536)) [d] oneCycle
    (fun s x => match s.special k x sp with
      | some v => { s := s, x := x.setG d v }
      | none => { s := s, x := x, next := .error Ex.special })

def execMfs (k : CoreId) (d sp : Nat) (s : State) : Res := .next (s.celMfs k d sp)

/-- A special register written: ML, MH, and LC while a loop is active; none where the write is an execution error (R220, R227). -/
def Cel.setSpecial (x : Cel) (sp : Nat) (v : W32) : Option Cel :=
  match sp, x.loops with
  | 0, _ => some { x with acc := accLow x.acc v }
  | 1, _ => some { x with acc := accHigh x.acc v }
  | 2, l :: ls => some { x with loops := { l with lc := v } :: ls }
  | _, _ => none

/-- MTS (R220, R222): special sp = g[a]. -/
def State.celMts (s : State) (k : CoreId) (sp a : Nat) : State :=
  s.celIssue k (encI 0x24 0 a sp) (decide (a < 32) && decide (sp < 65536)) [a] oneCycle
    (fun s x => match x.setSpecial sp (x.g a) with
      | some y => { s := s, x := y }
      | none => { s := s, x := x, next := .error Ex.special })

def execMts (k : CoreId) (sp a : Nat) (s : State) : Res := .next (s.celMts k sp a)

end Sys2Proof.Machine
end

