-- ==== Sys2Proof/Machine/CelperMem.lean ====
section
/-! DEFINITION. Celper instructions that load and store (R222, R223, R230 to R234, R236): local data memory, sequencer ports, and the ledger. -/

namespace Sys2Proof.Machine

/-! ### Local data memory (R199, R223) -/

/-- The local address g[a] + sx(imm) of an instruction, none where it is an execution error: outside 0x0000 to 0xFFFF, or not a multiple of 4. -/
def localAddr (base : W32) (imm : BitVec 16) : Option Nat :=
  let n := (base + sx16 imm).toNat
  if n < 65536 ∧ n % 4 = 0 then some n else none

/-- LDW (R222): g[d] = word at g[a] + sx(imm). -/
def State.celLdw (s : State) (k : CoreId) (d a : Nat) (imm : BitVec 16) : State :=
  s.celIssue k (encI 0x28 d a imm.toNat) (decide (d < 32) && decide (a < 32)) [d, a] oneCycle
    (fun s x => match localAddr (x.g a) imm with
      | some n => { s := s, x := x.setG d (SMap.get (fun _ => 0#32) x.mem (n / 4)) }
      | none => { s := s, x := x, next := .error Ex.memory })

def execLdw (k : CoreId) (d a : Nat) (imm : BitVec 16) (s : State) : Res := .next (s.celLdw k d a imm)

/-- STW (R222): word at g[a] + sx(imm) = g[d]. -/
def State.celStw (s : State) (k : CoreId) (d a : Nat) (imm : BitVec 16) : State :=
  s.celIssue k (encI 0x29 d a imm.toNat) (decide (d < 32) && decide (a < 32)) [d, a] oneCycle
    (fun s x => match localAddr (x.g a) imm with
      | some n => { s := s, x := { x with mem := SMap.set (fun _ => 0#32) x.mem (n / 4) (x.g d) } }
      | none => { s := s, x := x, next := .error Ex.memory })

def execStw (k : CoreId) (d a : Nat) (imm : BitVec 16) (s : State) : Res := .next (s.celStw k d a imm)

/-! ### Sequencer ports (R236) -/

/-- PRD (R222, R236): g[d] = sequencer port; what the hardware behind a port shows is not given, a free value. -/
def State.celPrd (s : State) (k : CoreId) (d port : Nat) : State :=
  s.celIssue k (encI 0x2E d 0 port) (decide (d < 32) && decide (port < 65536)) [d] oneCycle
    (fun s x => { s := s.takeFree.2, x := x.setG d (s.takeFree.1.setWidth 32) })

def execPrd (k : CoreId) (d port : Nat) (s : State) : Res := .next (s.celPrd k d port)

/-- PWR (R222, R236): sequencer port = g[a]. -/
def State.celPwr (s : State) (k : CoreId) (a port : Nat) : State :=
  s.celIssue k (encI 0x2F 0 a port) (decide (a < 32) && decide (port < 65536)) [a] oneCycle
    (fun s x => { s := s, x := { x with ports := SMap.set (fun _ => 0#32) x.ports (port % 256) (x.g a) } })

def execPwr (k : CoreId) (a port : Nat) (s : State) : Res := .next (s.celPwr k a port)

/-! ### Ledger loads (R230 to R232) -/

/-- LSTAT after a load of a defined entry (R220, R230). -/
def State.lstatOf (s : State) (a : Attr) (i : Nat) : W32 :=
  BitVec.ofNat 32 ((s.snapState i).code + 4 * a.kind + 65536 * (s.snap i).source)

/-- The load of VALUE [31:0] of entry i into g[d] (R230, R234). -/
def State.loadV (s : State) (x : Cel) (d i : Nat) : CelAct :=
  match s.attr i with
  | none => { s := s, x := { x.setG d 0#32 with lstat := 0#32 }, soft := 1 }
  | some a => { s := s, x := { x.setG d ((s.snap i).value.setWidth 32) with lstat := s.lstatOf a i } }

/-- The age that a load reports (R22, R231): B(F) − STAMP, saturating; all ones for a NEVER entry. -/
def State.ageOf (s : State) (i : Nat) : Nat := if s.snapState i = .never then 0xFFFFFFFF else min (s.led.snapTick - (s.snap i).stamp) 0xFFFFFFFF

/-- The load of an entry into g[d] to g[d + 3] (R231, R234). -/
def State.loadE (s : State) (x : Cel) (d i : Nat) : CelAct :=
  if d % 4 ≠ 0 ∨ d = 0 ∨ 28 < d then { s := s, x := x, next := .error Ex.register }
  else
    match s.attr i with
    | none => { s := s, x := { (((x.setG d 0#32).setG (d + 1) 0#32).setG (d + 2) 0#32).setG (d + 3) 0#32 with lstat := 0#32 }, soft := 1 }
    | some a =>
      let e := s.snap i
      let y := ((x.setG d (e.value.setWidth 32)).setG (d + 1) ((e.value >>> 32).setWidth 32)).setG (d + 2) (BitVec.ofNat 32 (s.ageOf i))
      { s := s, x := { y.setG (d + 3) (BitVec.ofNat 32 ((s.snapState i).code + 4 * a.kind + 65536 * (e.ucount % 65536))) with lstat := s.lstatOf a i } }

/-- Two and four issue cycles (R224). -/
def twoCycles : Cel → Nat := fun _ => 2
def fourCycles : Cel → Nat := fun _ => 4

/-- LDV (R222, R230). -/
def State.celLdv (s : State) (k : CoreId) (d index : Nat) : State :=
  s.celIssue k (encX 0x30 d index) (decide (d < 32) && decide (index < 131072)) [d] twoCycles (fun s x => s.loadV x d index)
def execLdv (k : CoreId) (d index : Nat) (s : State) : Res := .next (s.celLdv k d index)

/-- LDE (R222, R231). -/
def State.celLde (s : State) (k : CoreId) (d index : Nat) : State :=
  s.celIssue k (encX 0x31 d index) (decide (d < 32) && decide (index < 131072)) [d] fourCycles (fun s x => s.loadE x d index)
def execLde (k : CoreId) (d index : Nat) (s : State) : Res := .next (s.celLde k d index)

/-- LDVX (R222, R230): the index is in g[a]. -/
def State.celLdvx (s : State) (k : CoreId) (d a : Nat) : State :=
  s.celIssue k (encR 0x32 d a 0) (decide (d < 32) && decide (a < 32)) [d, a] twoCycles (fun s x => s.loadV x d (x.g a).toNat)
def execLdvx (k : CoreId) (d a : Nat) (s : State) : Res := .next (s.celLdvx k d a)

/-- LDEX (R222, R231): the index is in g[a]. -/
def State.celLdex (s : State) (k : CoreId) (d a : Nat) : State :=
  s.celIssue k (encR 0x33 d a 0) (decide (d < 32) && decide (a < 32)) [d, a] fourCycles (fun s x => s.loadE x d (x.g a).toNat)
def execLdex (k : CoreId) (d a : Nat) (s : State) : Res := .next (s.celLdex k d a)

/-- The load of a blob word (R232, R234): entry i, byte offset `off`. -/
def State.loadB (s : State) (x : Cel) (d i off : Nat) : CelAct :=
  match s.attr i with
  | none => { s := s, x := { x.setG d 0#32 with lstat := 0#32 }, soft := 1 }
  | some a =>
    if a.kind ≠ 3 ∨ off % 4 ≠ 0 then { s := s, x := { x.setG d 0#32 with lstat := s.lstatOf a i }, soft := 2 }
    else { s := s, x := { x.setG d (BitVec.ofNat 32 (byteField (s.snap i).bytes off 4)) with lstat := s.lstatOf a i } }

/-- LDB (R222, R232): the entry whose index is g[a], at byte offset g[b]. -/
def State.celLdb (s : State) (k : CoreId) (d a b : Nat) : State :=
  s.celIssue k (encR 0x34 d a b) (decide (d < 32) && decide (a < 32) && decide (b < 32)) [d, a, b] twoCycles
    (fun s x => s.loadB x d (x.g a).toNat (x.g b).toNat)
def execLdb (k : CoreId) (d a b : Nat) (s : State) : Res := .next (s.celLdb k d a b)

/-! ### Staged writes (R39, R233) -/

/-- The VALUE that a store of g[d] stages for an attribute record (R233). -/
def stagedValue (a : Attr) (x : Cel) (d : Nat) : W64 :=
  if a.kind = 2 then (if x.g d = 0#32 then 0#64 else 1#64)
  else if 32 < a.width then BitVec.ofNat 64 ((x.g d).toNat + 2 ^ 32 * (x.g (d + 1)).toNat)
  else if a.kind = 1 then (x.g d).signExtend 64
  else (x.g d).setWidth 64

/-- The store of g[d] to entry i (R233, R234): staged, or a store error. -/
def State.storeE (s : State) (x : Cel) (d i : Nat) : CelAct :=
  match s.attr i with
  | none => { s := s, x := x, soft := 3 }
  | some a =>
    if a.kind < 2 ∧ 32 < a.width ∧ d = 31 then { s := s, x := x, next := .error Ex.register }
    else if a.kind = 3 ∨ !((s.img.progAt x.prog).targets.contains i) then { s := s, x := x, soft := 4 }
    else
      let v := stagedValue a x d
      if !valueFits a v then { s := s, x := x, soft := 5 }
      else { s := { s with led := { s.led with staged := SMap.put i (v, 0x1000 + x.prog, []) s.led.staged } }, x := x }

/-- STE (R222, R233). -/
def State.celSte (s : State) (k : CoreId) (d index : Nat) : State :=
  s.celIssue k (encX 0x35 d index) (decide (d < 32) && decide (index < 131072)) [d] twoCycles (fun s x => s.storeE x d index)
def execSte (k : CoreId) (d index : Nat) (s : State) : Res := .next (s.celSte k d index)

/-- STEX (R222, R233): the index is in g[a]. -/
def State.celStex (s : State) (k : CoreId) (d a : Nat) : State :=
  s.celIssue k (encR 0x36 d a 0) (decide (d < 32) && decide (a < 32)) [d, a] twoCycles (fun s x => s.storeE x d (x.g a).toNat)
def execStex (k : CoreId) (d a : Nat) (s : State) : Res := .next (s.celStex k d a)

end Sys2Proof.Machine
end

