-- ==== Sys2Proof/Machine/CelperFlow.lean ====
section
/-! DEFINITION. Celper instructions that direct the run (R222, R225 to R228): NOP and END, branches, skips and loops. -/

namespace Sys2Proof.Machine

/-- NOP (R222). -/
def State.celNop (s : State) (k : CoreId) : State := s.celIssue k (encZ 0x0C 0) true [] oneCycle (fun s x => { s := s, x := x })
def execNopInstruction (k : CoreId) (s : State) : Res := .next (s.celNop k)

/-- END (R200, R222, R236): end of a run, or of a control step. -/
def State.celEndOp (s : State) (k : CoreId) : State := s.celIssue k (encZ 0x0D 0) true [] oneCycle (fun s x => { s := s, x := x, next := .stop })
def execEndI (k : CoreId) (s : State) : Res := .next (s.celEndOp k)

/-! ### Conditions and branches (R221, R226, R228) -/

/-- A condition code (R221): 0 EQ, 1 NE, 2 LT, 3 GE, 4 LTU, 5 GEU; none for the reserved codes. -/
def condHolds (c : Nat) (x y : W32) : Option Bool :=
  match c with
  | 0 => some (decide (x = y))
  | 1 => some (decide (x ≠ y))
  | 2 => some (decide (x.toInt < y.toInt))
  | 3 => some (decide (y.toInt ≤ x.toInt))
  | 4 => some (decide (x.toNat < y.toNat))
  | 5 => some (decide (y.toNat ≤ x.toNat))
  | _ => none

/-- BC (R222, R226): taken it is charged 2 cycles, else 1 (R224). -/
def State.celBc (s : State) (k : CoreId) (a b cond : Nat) (off : BitVec 13) : State :=
  s.celIssue k (encC 0x2C a b cond off.toNat) (decide (a < 32) && decide (b < 32) && decide (cond < 8)) [a, b]
    (fun x => if condHolds cond (x.g a) (x.g b) = some true then 2 else 1)
    (fun s x => match condHolds cond (x.g a) (x.g b) with
      | some true => { s := s, x := x, next := .branch ((x.pc : Int) + 1 + off.toInt) }
      | some false => { s := s, x := x }
      | none => { s := s, x := x, next := .error Ex.reserved })
def execBc (k : CoreId) (a b cond : Nat) (off : BitVec 13) (s : State) : Res := .next (s.celBc k a b cond off)

/-- BR (R222, R228). -/
def State.celBr (s : State) (k : CoreId) (off : BitVec 26) : State :=
  s.celIssue k (encJ 0x38 off.toNat) true [] twoCycles (fun s x => { s := s, x := x, next := .branch ((x.pc : Int) + 1 + off.toInt) })
def execBr (k : CoreId) (off : BitVec 26) (s : State) : Res := .next (s.celBr k off)

/-- BL (R222, R228): the link register is g31, or g15 on a sequencer. -/
def State.celBl (s : State) (k : CoreId) (off : BitVec 26) : State :=
  s.celIssue k (encJ 0x39 off.toNat) true [] twoCycles
    (fun s x => { s := s, x := x.setG (if CoreId.isL k then 31 else 15) (BitVec.ofNat 32 (x.pc + 1)), next := .jump ((x.pc : Int) + 1 + off.toInt) })
def execBl (k : CoreId) (off : BitVec 26) (s : State) : Res := .next (s.celBl k off)

/-- JR (R222, R228). -/
def State.celJr (s : State) (k : CoreId) (a : Nat) : State :=
  s.celIssue k (encR 0x3A 0 a 0) (decide (a < 32)) [a] twoCycles (fun s x => { s := s, x := x, next := .jump ((x.g a).toNat : Int) })
def execJr (k : CoreId) (a : Nat) (s : State) : Res := .next (s.celJr k a)

/-! ### Skips (R225) -/

/-- A condition decides whether the next instruction is skipped. -/
def CelAct.skipIf (s : State) (x : Cel) (c : Option Bool) : CelAct :=
  match c with
  | some true => { s := s, x := x, next := .skip }
  | some false => { s := s, x := x }
  | none => { s := s, x := x, next := .error Ex.reserved }

/-- SK (R222, R225). -/
def State.celSk (s : State) (k : CoreId) (a b cond : Nat) : State :=
  s.celIssue k (encC 0x3B a b cond 0) (decide (a < 32) && decide (b < 32) && decide (cond < 8)) [a, b] oneCycle
    (fun s x => CelAct.skipIf s x (condHolds cond (x.g a) (x.g b)))
def execSk (k : CoreId) (a b cond : Nat) (s : State) : Res := .next (s.celSk k a b cond)

/-- SKI (R222, R225). -/
def State.celSki (s : State) (k : CoreId) (a cond : Nat) (imm : BitVec 16) : State :=
  s.celIssue k (encCI 0x3C a cond imm.toNat) (decide (a < 32) && decide (cond < 8)) [a] oneCycle
    (fun s x => CelAct.skipIf s x (condHolds cond (x.g a) (sx16 imm)))
def execSki (k : CoreId) (a cond : Nat) (imm : BitVec 16) (s : State) : Res := .next (s.celSki k a cond imm)

/-- SKST (R222, R225): skip next if bit LSTAT.STATE of mask is 1. -/
def State.celSkst (s : State) (k : CoreId) (mask : BitVec 4) : State :=
  s.celIssue k (encZ 0x3D mask.toNat) true [] oneCycle (fun s x => CelAct.skipIf s x (some (bitOf mask.toNat (x.lstat.toNat % 4))))
def execSkst (k : CoreId) (mask : BitVec 4) (s : State) : Res := .next (s.celSkst k mask)

/-! ### Loops (R227) -/

/-- A loop instruction with `count` over the next n + 1 words (R227). -/
def State.celLoopAct (s : State) (k : CoreId) (x : Cel) (count : W32) (n : Nat) : CelAct :=
  let le := x.pc + 1 + n
  let nested := match x.loops with
    | [] => true
    | l :: _ => decide (le < l.le)
  if count ≠ 0#32 ∧ maxDepth k ≤ x.loops.length then { s := s, x := x, next := .error Ex.loopdepth }
  else if !nested ∨ !s.inCode k (le : Int) then { s := s, x := x, next := .error Ex.loopnest }
  else if count = 0#32 then { s := s, x := x, next := .jump ((le : Int) + 1) }
  else { s := s, x := x, next := .push { ls := x.pc + 1, le := le, lc := count } }

/-- LOOP (R222, R227): g[a] times. -/
def State.celLoop (s : State) (k : CoreId) (a : Nat) (n : BitVec 16) : State :=
  s.celIssue k (encLP 0x3E a n.toNat) (decide (a < 32)) [a] oneCycle (fun s x => s.celLoopAct k x (x.g a) n.toNat)
def execLoop (k : CoreId) (a : Nat) (n : BitVec 16) (s : State) : Res := .next (s.celLoop k a n)

/-- LOOPI (R222, R227): cnt times. -/
def State.celLoopi (s : State) (k : CoreId) (cnt : BitVec 12) (n : BitVec 14) : State :=
  s.celIssue k (encLPI 0x3F cnt.toNat n.toNat) true [] oneCycle (fun s x => s.celLoopAct k x (cnt.setWidth 32) n.toNat)
def execLoopi (k : CoreId) (cnt : BitVec 12) (n : BitVec 14) (s : State) : Res := .next (s.celLoopi k cnt n)

end Sys2Proof.Machine
end

