-- ==== Sys2Proof/Machine/Wake.lean ====
section
/-! DEFINITION. The candle domain (R385, R386, R417 to R427, R439, R440, R444): wake sources, the rails on the regulator request bus, main domains and their failures, PARK entry, and losses of supply. -/

namespace Sys2Proof.Machine

/-! ### The candle latch (R385, R386) -/

/-- An event for the candle latch; one that finds it full advances the overflow count. -/
def State.latchEvent (s : State) (code : Nat) (p1 : Nat := 0) (p2 : Nat := 0) : State :=
  let p := s.pow
  if p.latch.length < 16 then { s with pow := { p with latch := p.latch ++ [{ code := code, p1 := p1, p2 := p2, p3 := 0, sec := p.candleSec }] } }
  else { s with pow := { p with overflow := p.overflow + 1 } }

/-! ### Wake sources (R421, R426, R440) -/

/-- Source bits of two events that come together. -/
def orBits (x y : Nat) : Nat := (x ||| y) % 1024

/-- A wake source: in PARK it asks for a wake, from the last boundary to PARK entry it latches one, else it has no effect. -/
def State.wakeBy (s : State) (src : Nat) : State :=
  if !s.pow.supplied then s
  else if s.power = Pw.park then { s with pow := { s.pow with heldSrc := orBits s.pow.heldSrc src } }
  else if s.pow.lastBound.isSome then { s with pow := { s.pow with latched := orBits s.pow.latched src } }
  else s

/-- The device waits for a wake: in PARK, or on its way there with its last boundary behind it. -/
def State.wakeable (s : State) : Bool := s.pow.supplied && (decide (s.power = Pw.park) || s.pow.lastBound.isSome)

/-- WAKING begins (R421, R423): the main domains are switched on, and the rails are to be requested from rail 0 on. -/
def State.startWake (s : State) (src attempt : Nat) : State :=
  let c := s.pow.candle
  let s1 := ((s.setWord Reg.PWR_PARKT.SEC.off (BitVec.ofNat 32 s.pow.candleSec)).setWord Reg.PWR_TIMER.SEC.off 0#32).wr Reg.PWR_STAT.STATE Pw.waking
  { s1 with pow := { s1.pow with
      waking := true, src := src, attempt := attempt, heldSrc := 0, latched := 0, retryAt := none, goal := .on, rail := 0, sends := 0, railsOn := []
      dieFailed := 0, demanded := [], lost := [], onAt := [(0, some c), (1, some c), (2, some c)] } }

/-- A wake that an event has asked for. -/
def State.wakeStart (s : State) : State := if s.pow.supplied ∧ s.power = Pw.park ∧ s.pow.heldSrc ≠ 0 then s.startWake s.pow.heldSrc 0 else s

/-- WAKE_START (R421), where VBAT at P0 permits it (R440). -/
def execWakeStart (s : State) : Res := .next s.wakeStart

/-- WAKE_VOLTAGE_OK (R440): a held wake starts with its event's source bits. -/
def execWakeVoltageOk (s : State) : Res := .next s.wakeStart

/-- POWER_ON (R421): VBAT comes to a device without candle supply; the straps give the management port its address (R422). -/
def State.powerOn (s : State) (a1 a0 : Bool) : State :=
  if s.pow.supplied then s
  else ({ s with pow := { s.pow with supplied := true, candle := 0, straps := 2 * b2n a1 + b2n a0 } } : State).startWake 0x80 0

def execPowerOn (a1 a0 : Bool) (s : State) : Res := .next (s.powerOn a1 a0)

/-- TKR_WAKE (R421): TKR_WAKE_N low for at least 100 µs. -/
def execTkrWake (ticks : Nat) (s : State) : Res := .next (if 20000 ≤ ticks then s.wakeBy 0x08 else s)

/-- TAMPER (R329, R421): TAMPER_N low for at least 10 µs, in every power state. -/
def State.tamper (s : State) : State :=
  if !s.pow.supplied then s
  else
    let s1 := s.alarm 2 5
    (if s.power = Pw.park then s1.latchEvent 0x0D8A else s1).wakeBy 0x10

def execTamper (ticks : Nat) (s : State) : Res := .next (if 2000 ≤ ticks then s.tamper else s)

/-- MGP_ADDRESS_MATCH (R422): 0b10110 and the straps. -/
def execMgpAddressMatch (addr : Nat) (s : State) : Res := .next (if addr = 0x58 + s.pow.straps then s.wakeBy 0x20 else s)

/-- The park timers have run out (R421): the one-shot one, or a period of the other. -/
def State.timerDue (s : State) : Bool :=
  let n := s.pow.candleSec
  let one := s.rd Reg.PWR_TIMER.SEC
  let per := s.rd Reg.PWR_CFG.TMRWAKE
  (decide (one ≠ 0) && decide (one ≤ n)) || (decide (per ≠ 0) && decide (per ≤ n) && decide (n % per = 0))

/-- PARK_TIMER_WAKE (R421): the timers count from PARK entry. -/
def execParkTimerWake (s : State) : Res := .next (if s.power = Pw.park ∧ s.timerDue then s.wakeBy 0x40 else s)

/-! ### Polling (R193, R194) -/

/-- A poll of input n, which adds n to the inputs that ask for a wake. -/
def pollOne (vins : List Nat) (x : List Nat × State) (n : Nat) : List Nat × State :=
  if x.2.polled n then
    let r := x.2.pollInput n (vins.getD n 0)
    (if r.1 then x.1 ++ [n] else x.1, r.2)
  else x

/-- Input n sets its bit of `INP_WAKEMAP0` or `INP_WAKEMAP1`. -/
def State.wakeMap (s : State) (n : Nat) : State :=
  if n < 32 then s.raiseFlag ⟨Reg.INP_WAKEMAP0.MAP.off, n, 1⟩ else s.raiseFlag ⟨Reg.INP_WAKEMAP1.MAP.off, n - 32, 1⟩

/-- PARK_POLL (R193): `vins` is the voltage in mV at each of IN0 to IN39. -/
def State.parkPoll (s : State) (vins : List Nat) : State :=
  let per := s.rd Reg.INP_PARK.PPER * 2000000
  if s.pow.supplied ∧ s.power = Pw.park ∧ s.pow.lastPoll + per ≤ s.pow.candle then
    let r := (List.range 40).foldl (pollOne vins) ([], { s with pow := { s.pow with lastPoll := s.pow.candle } })
    match r.1 with
    | [] => r.2
    | n :: ns =>
      let s1 := (n :: ns).foldl State.wakeMap r.2
      ({ s1 with pow := { s1.pow with wakeInput := if bitOf s1.pow.heldSrc 0 then s1.pow.wakeInput else some n } } : State).wakeBy 0x01
  else s

def execParkPoll (vins : List Nat) (s : State) : Res := .next (s.parkPoll vins)

/-! ### CAN wake-up (R262, R263, R426) -/

/-- A byte of the data mask `CAN_SWDATA`. -/
def State.swMask (s : State) (c i : Nat) : Nat :=
  if i < 4 then bits (s.rd (Reg.CAN_SWDATA0.MASK c)) (8 * i) 8 else bits (s.rd (Reg.CAN_SWDATA1.MASK c)) (8 * (i - 4)) 8

/-- A classical frame is the wake-up frame of controller c. -/
def State.swMatch (s : State) (c : Nat) (f : CanFrame) : Bool :=
  let m := s.rd (Reg.CAN_SWIDM.SWIDM c)
  decide (f.ide = s.flag (Reg.CAN_SWCFG.SWIDE c)) && decide (f.id &&& m = s.rd (Reg.CAN_SWID.SWID c) &&& m)
    && (!s.flag (Reg.CAN_SWCFG.SWDATAEN c) || (decide (f.dlc = s.rd (Reg.CAN_SWCFG.SWDLC c))
        && f.data.zipIdx.any (fun x => decide (x.1.toNat &&& s.swMask c x.2 ≠ 0))))

/-- Controller c has woken the device: its bit of `CAN_SWSTAT` and its source. -/
def State.canWoke (s : State) (c : Nat) (f : Fld) : State :=
  ((s.raiseFlag f).wr (Reg.CAN_SWSTAT.ERRCNT c) (min 63 (s.canC c).swErr)).wakeBy (2 * 2 ^ c)

/-- A frame under selective wake-up: the error counter, and a match or an overflow. -/
def State.swFrame (s : State) (c : Nat) (f : CanFrame) (good : Bool) : State :=
  let x := s.canC c
  if f.fdf ∧ s.flag (Reg.CAN_SWCFG.SWFDP c) then s
  else if !good ∨ f.fdf then
    let s1 := s.setCanC c { x with swErr := x.swErr + 1 }
    if 31 < x.swErr + 1 then s1.canWoke c (Reg.CAN_SWSTAT.FDERR c) else s1
  else
    let s1 := s.setCanC c { x with swErr := x.swErr - 1 }
    if s.swMatch c f then s1.canWoke c (Reg.CAN_SWSTAT.WUF c) else s1

/-- CAN_WAKE_FRAME (R262); before PARK entry with `WUPEN` any valid frame latches a wake (R426). -/
def State.canWakeFrame (s : State) (c : Nat) (f : CanFrame) (good : Bool) : State :=
  if 2 ≤ c ∨ !s.wakeable then s
  else
    let s1 := if s.flag (Reg.CAN_SWCFG.SWEN c) then s.swFrame c f good else s
    if good ∧ s.power ≠ Pw.park ∧ s.flag (Reg.CAN_SWCFG.WUPEN c) then s1.wakeBy (2 * 2 ^ c) else s1

def execCanWakeFrame (c : Nat) (f : CanFrame) (good : Bool) (s : State) : Res := .next (s.canWakeFrame c f good)

/-- CAN_WAKE_PATTERN (R263). -/
def State.canWakePattern (s : State) (c : Nat) : State :=
  if c < 2 ∧ s.wakeable ∧ !s.flag (Reg.CAN_SWCFG.SWEN c) ∧ s.flag (Reg.CAN_SWCFG.WUPEN c) then s.canWoke c (Reg.CAN_SWSTAT.WUP c) else s

def execCanWakePattern (c : Nat) (s : State) : Res := .next (s.canWakePattern c)

/-! ### PARK (R90, R141, R193, R348, R385, R427) -/

/-- A whole number of °C, rounded up. -/
def ceilDeg (x : Rat) : Int := x.ceil

/-- The candle domain takes the wick nodes and the input references, and its count starts anew (R427, step 3). -/
def State.candleTakes (s : State) : State :=
  let d : Die := if (s.ana .p0).params then .p0 else .p1
  let tc := ((List.range 64).filter (fun u => s.wickIn u)).map (fun u => (u, ceilDeg (s.chan u).tc))
  let tb := ((List.range 16).filter (fun g => s.groupActive g)).map (fun g => (g, ceilDeg (s.tbOf d g)))
  let s1 := (List.range 160).foldl State.parkInput s
  { s1 with pow := { s1.pow with candle := 0, lastPoll := 0, wickTc := tc, wickTb := tb, wickFor := [0, 1], wakeInput := none } }

/-- Steps 3 and 4 of the park sequence (R427): the candle domain has what it retains, the main domains are off, and rails 2, 1 and 0 are to be requested off. -/
def State.parkTake (s : State) : State :=
  let s1 := (((s.shutdownTimeout).flushEvents.evrPark).hostStop.accPark).candleTakes
  let s2 := s1.diesOff.stopL
  { s2 with pow := { s2.pow with goal := .off, rail := 2, sends := 0, parking := true, epoch := false, onAt := [], demanded := [], lost := [] } }

/-- Every unit of the dies has reached its park state, 200 ticks after the last boundary, and no frame is in progress on a bus (R260, R273, R427). -/
def State.parkDue (s : State) : Bool :=
  !s.pow.parking && s.busesIdle && decide (s.pow.goal = .rest) &&
    (match s.pow.lastBound with
     | some b => decide (b + 200 ≤ s.now)
     | none => false)

/-- PARK begins: the frame-error counters of the selective wake-up start at 0 (R262). -/
def State.toPark (s : State) : State :=
  [0, 1].foldl (fun s c => s.setCanC c { s.canC c with swErr := 0 }) (s.wr Reg.PWR_STAT.STATE Pw.park)

/-- PARK_ENTRY (R415, R427): a latched wake starts at once. -/
def State.parkEntry (s : State) : State :=
  if s.pow.parking ∧ s.pow.goal = .rest then
    let s1 := s.toPark
    let s2 : State := { s1 with pow := { s1.pow with parking := false, lastBound := none } }
    if s2.pow.latched ≠ 0 then s2.startWake 0x200 0 else s2
  else s

def execParkEntry (s : State) : Res := .next s.parkEntry

/-! ### The regulator request bus (R419, R420) -/

/-- Parity over the bits of a number below 2^16. -/
def parity16 (x : Nat) : Nat := ((List.range 16).filter (fun i => bitOf x i)).length % 2

/-- A request word (R419). -/
def rqbWord (rail on seq : Nat) : Nat :=
  let w := 0x6000 + 1024 * rail + 512 * on + 32 * seq
  w + parity16 w

/-- What the candle domain asks of the rail in progress. -/
def Power.railOn (p : Power) : Nat := if p.goal = .off then 0 else 1

/-- The word of the request in progress. -/
def Power.word (p : Power) : Nat := rqbWord p.rail p.railOn p.seqno

/-- A new request under the next sequence number. -/
def State.rqbNew (s : State) : State :=
  let p : Power := { s.pow with seqno := (s.pow.seqno + 1) % 16, sentAt := s.pow.candle, sends := 1 }
  ({ s with pow := p } : State).emit (.rqb p.word)

/-- RQB_REQUEST (R419, R427): the next rail of the sequence, or the first one of a park. -/
def State.rqbRequest (s : State) : State :=
  if s.parkDue then s.parkTake.rqbNew
  else if s.pow.goal ≠ .rest ∧ s.pow.sends = 0 then s.rqbNew
  else s

def execRqbRequest (s : State) : Res := .next s.rqbRequest

/-- A status acknowledges the request in progress (R419). -/
def Power.acked (p : Power) (st : Nat) : Bool :=
  decide (bits st 6 2 = p.rail) && decide (bits st 0 4 = p.seqno) && decide (bits st 5 1 = p.railOn) && decide (bits st 4 1 = p.railOn)

/-- The rail in progress is done: the next one follows, in order on or in reverse order off. -/
def Power.railDone (p : Power) : Power :=
  if p.goal = .on then
    { p with railsOn := p.railsOn ++ [p.rail], sends := 0, rail := p.rail + 1, goal := if p.rail = 2 then .rest else .on }
  else
    { p with railsOn := p.railsOn.filter (fun r => decide (r ≠ p.rail)), sends := 0, rail := p.rail - 1, goal := if p.rail = 0 then .rest else .off }

/-- RQB_STATUS_READ (R419): from 100 µs after the request on. -/
def State.rqbStatus (s : State) (st : Byte) : State :=
  let p := s.pow
  if p.goal ≠ .rest ∧ p.sends ≠ 0 ∧ p.sentAt + 20000 ≤ p.candle ∧ p.acked st.toNat then { s with pow := p.railDone } else s

def execRqbStatusRead (status : Byte) (s : State) : Res := .next (s.rqbStatus status)

/-- The time after its first sending at which a request is sent for the n+1-th time (R420). -/
def resendAt (n : Nat) : Nat := if n = 1 then 200000 else if n = 2 then 800000 else 3200000

/-- RQB_RETRY (R420): the same word again, up to three times. -/
def State.rqbRetry (s : State) : State :=
  let p := s.pow
  if p.goal ≠ .rest ∧ 1 ≤ p.sends ∧ p.sends ≤ 3 ∧ p.sentAt + resendAt p.sends ≤ p.candle then
    ({ s with pow := { p with sends := p.sends + 1 } } : State).emit (.rqb p.word)
  else s

def execRqbRetry (s : State) : Res := .next s.rqbRetry

/-- A rail is requested off once, without waiting for an answer (R420). -/
def State.rqbOffOnce (s : State) (rail : Nat) : State :=
  let n := (s.pow.seqno + 1) % 16
  ({ s with pow := { s.pow with seqno := n } } : State).emit (.rqb (rqbWord rail 0 n))

/-- What both failures have in common (R367, R429, R434). -/
def State.regFailed (s : State) : State :=
  { s.count Reg.PWR_CNT.REGFAILS 1 with pow := { s.pow with ball := true, goal := .rest, sends := 0 } }

/-- WAKE_REG_FAIL (R420). -/
def State.wakeRegFail (s : State) : State :=
  let p := s.pow
  let s1 := ((p.railsOn.reverse.foldl State.rqbOffOnce s).regFailed).latchEvent 0x0D81 p.rail p.attempt
  let s2 := if 8 ≤ p.attempt then s1.latchEvent 0x0D82 else s1
  let s3 := if (s.ana .p0).params || (s.ana .p1).params then s2.candleTakes else s2
  let s4 := s3.diesOff.toPark
  { s4 with pow := { s4.pow with wakeFailed := true, waking := false, epoch := false, railsOn := [], onAt := [], lost := []
                                 retryAt := if 8 ≤ p.attempt then none else some (s4.pow.candle + 200000000) } }

/-- PARK_REG_FAIL (R420): the device enters PARK anyway. -/
def State.parkRegFail (s : State) : State :=
  let s1 := (s.regFailed).latchEvent 0x0D87 s.pow.rail
  { s1 with pow := { s1.pow with parkFailed := true } }

/-- REG_FAIL (R420): no acknowledgement 32 ms after the first sending. -/
def State.regFail (s : State) : State :=
  if s.pow.sends ≠ 0 ∧ s.pow.sentAt + 6400000 ≤ s.pow.candle then
    match s.pow.goal with
    | .on => s.wakeRegFail
    | .off => s.parkRegFail
    | .rest => s
  else s

def execRegFail (s : State) : Res := .next s.regFail

/-- WAKE_RETRY (R420, R421): 1 s after the failure, with the sources of the wake and RETRY. -/
def State.wakeRetry (s : State) : State :=
  match s.pow.retryAt with
  | none => s
  | some t => if s.power = Pw.park ∧ t ≤ s.pow.candle then s.startWake (orBits s.pow.src 0x100) (s.pow.attempt + 1) else s

def execWakeRetry (s : State) : Res := .next s.wakeRetry

/-! ### Die L and the domains come up (R417, R418, R423, R439) -/

/-- DIE_L_READY (R423): the three rails are on. -/
def State.dieLReady (s : State) (pass : List Bool) : State :=
  if s.pow.supplied ∧ s.power = Pw.waking ∧ s.now = 0 ∧ s.pow.goal = .rest ∧ s.pow.railsOn.length = 3 then
    s.boot 0 (if s.pow.waking then s.pow.candleSec else 0) pass
  else s

def execDieLReady (pass : List Bool) (s : State) : Res := .next (s.dieLReady pass)

/-- When the main domain of d was switched on; none while it is not to come up. -/
def State.domainOn (s : State) (d : Die) : Option Nat := SMap.get (fun _ => none) s.pow.onAt (dieNum d)

/-- The main domain of d may become ready: it was switched on, or an access has woken it. -/
def State.domainComing (s : State) (d : Die) : Bool :=
  !s.domReady d && (s.pow.demanded.contains (dieNum d) || (s.domainOn d).any (fun k => decide (k ≤ s.pow.candle)))

/-- The commands of die d that die L sends again: the current value of each of its CMD entries that has one (R439). -/
def State.commandsOf (s : State) (d : Die) : List DieWrite :=
  (s.led.live.filter (fun p => decide (cmdDie p.1 = some d) && decide (p.2.state ≠ .never))).map (fun p => { idx := p.1, value := p.2.value })

/-- A die that comes back after a reset gets its commands (R439). -/
def State.resendCommands (s : State) (d : Die) : State :=
  if s.pow.lost.contains (dieNum d) then
    let s1 := s.setLink d { s.link d with resend := s.commandsOf d }
    { s1 with pow := { s1.pow with lost := s1.pow.lost.filter (fun k => decide (k ≠ dieNum d)) } }
  else s

/-- The parameters of a commit in SWAP go to a die that has come up meanwhile (R399, R418). -/
def State.sendSwap (s : State) (d : Die) : State :=
  match s.cfg.op with
  | some op => s.sendDown d (.params op.regs true)
  | none => s

/-- An access that stalled goes on; a ring operation is then carried out by its own command. -/
def State.goesOn (s : State) (x : Stalled) : State :=
  match x with
  | .op _ => s
  | .write off size v => s.busWrite off size v
  | .clear src => s.clearWrite src
  | .read off => s.readLow off

/-- No access stalls on die d any more. -/
def State.unstall (s : State) (d : Die) : State :=
  { s with pow := { s.pow with stalls := s.pow.stalls.filter (fun x => decide (x.1 ≠ dieNum d)), stallAt := SMap.del (dieNum d) s.pow.stallAt } }

/-- The accesses that stall on die d. -/
def State.stallsOf (s : State) (d : Die) : List Stalled := (s.pow.stalls.filter (fun x => decide (x.1 = dieNum d))).map (fun x => x.2)

/-- The main domain of d is ready. -/
def State.domainUp (s : State) (d : Die) : State :=
  let k := dieNum d
  let s1 := (s.wr Reg.PWR_STAT.DOM (setBitOf (s.rd Reg.PWR_STAT.DOM) k)).wr Reg.PWR_STAT.SLP (clearBitOf (s.rd Reg.PWR_STAT.SLP) k)
  ({ s1 with pow := { s1.pow with onAt := SMap.set (fun _ => none) s1.pow.onAt k none, demanded := s1.pow.demanded.filter (fun j => decide (j ≠ k)) } } : State).setAna
    d { ready := true }

/-- DOMAIN_READY (R417, R418): die L, if it runs, sends the parameters, and what stalled goes on. -/
def State.domainReady (s : State) (d : Die) : State :=
  if s.domainComing d then
    let s1 := s.domainUp d
    let s2 := if s1.started then ((s1.sendActive d).sendSwap d).resendCommands d else s1
    (s.stallsOf d).foldl State.goesOn (s2.unstall d)
  else s

def execDomainReady (d : Die) (s : State) : Res := .next (s.domainReady d)

/-- DOMAIN_START_TIMEOUT (R423): not ready 1 ms after it was switched on; the next try comes a second later. -/
def State.domainStartTimeout (s : State) (d : Die) : State :=
  match s.domainOn d with
  | none => s
  | some k =>
    if !s.domReady d && decide (k + 200000 ≤ s.pow.candle) then
      let s1 := if s.started then s.domainFail d else { s with pow := { s.pow with dieFailed := setBitOf s.pow.dieFailed (dieNum d) } }
      { s1 with pow := { s1.pow with onAt := SMap.set (fun _ => none) s1.pow.onAt (dieNum d) (some (k + 200000000)) } }
    else s

def execDomainStartTimeout (d : Die) (s : State) : Res := .next (s.domainStartTimeout d)

/-- A stalled access ends without its die: a ring operation with DOMAIN_FAIL; a read returns 0 and a write is discarded. -/
def State.stallFails (s : State) (x : Stalled) : State :=
  match x with
  | .op t => s.complete t St.domainFail
  | .read off => s.emit (.readData off 0#32)
  | .write _ _ _ => s
  | .clear _ => s

/-- DOMAIN_STALL_TIMEOUT (R418): 8,000 ticks after the first access. -/
def State.domainStallTimeout (s : State) (d : Die) : State :=
  match SMap.get (fun _ => none) s.pow.stallAt (dieNum d) with
  | none => s
  | some k =>
    if k + 8000 ≤ s.now then ((s.stallsOf d).foldl State.stallFails (s.unstall d)).domainFail d else s

def execDomainStallTimeout (d : Die) (s : State) : Res := .next (s.domainStallTimeout d)

/-! ### Losses of supply (R419, R439, R444) -/

/-- RAIL_LOSS (R419): a rail below its threshold for 10 µs while die L runs. -/
def State.railLoss (s : State) (rail : Nat) : State :=
  let s1 := (s.accPark.stopL.latchEvent 0x0D88 rail).wr Reg.PWR_STAT.STATE Pw.waking
  { s1 with pow := { s1.pow with railLost := setBitOf s1.pow.railLost rail, goal := .on, rail := 0, sends := 0, railsOn := [],
                                 attempt := if s1.pow.waking then s1.pow.attempt else 0 } }

def execRailLoss (rail ticks : Nat) (s : State) : Res :=
  .next (if s.started ∧ s.pow.lastBound = none ∧ 2000 ≤ ticks ∧ rail < 3 then s.railLoss rail else s)

/-- POWER_DIE_RESET (R439): VBAT of a die below 3.0 V. -/
def State.powerDieReset (s : State) (d : Die) : State :=
  let k := dieNum d
  let s1 := if s.started then s.lossOfLock d else s
  let s2 := (s1.dieOff d).posLost d
  { s2 with pow := { s2.pow with lost := k :: s2.pow.lost.filter (fun j => decide (j ≠ k)), onAt := SMap.set (fun _ => none) s2.pow.onAt k (some s2.pow.candle) } }

def execPowerDieReset (d : Die) (vbat : Nat) (s : State) : Res :=
  .next (if vbat < 300 ∧ (s.domReady d ∨ s.asleep d) then s.powerDieReset d else s)

/-- The registers whose values the candle domain held. -/
def candleWords : List Nat :=
  [Reg.PWR_STAT.STATE.off, Reg.PWR_WAKE.SRC.off, Reg.PWR_PARKT.SEC.off, Reg.PWR_TIMER.SEC.off, Reg.PWR_CNT.WAKES.off,
   Reg.INP_WAKEMAP0.MAP.off, Reg.INP_WAKEMAP1.MAP.off, (Reg.CAN_SWSTAT.WUF 0).off, (Reg.CAN_SWSTAT.WUF 1).off]

/-- CANDLE_RESET (R444): the candle supply below 2.5 V; what it retained is lost, and every die is off. -/
def State.candleReset (s : State) : State :=
  let s1 := (s.accCandleLost.diesOff).stopL
  let s2 := candleWords.foldl (fun s k => s.setWord k (resetWord k)) (allDies.foldl State.posLost s1)
  { s2 with pow := {}, inp := [] }

def execCandleReset (mv : Nat) (s : State) : Res := .next (if s.pow.supplied ∧ mv < 2500 then s.candleReset else s)

end Sys2Proof.Machine
end

