-- ==== Sys2Proof/Machine/Dispatch.lean ====
section
/-! DEFINITION. One arm for each command: the call of its meaning. -/

namespace Sys2Proof.Machine

/-- The effect of a command on everything but the queue. -/
def exec (i : Instr) (s : State) : Host.Outcome State Fault Refusal :=
  match i with
  | .registerWrite off size value => Sys2Proof.Machine.execRegisterWrite off size value s
  | .read64LowWord off => Sys2Proof.Machine.execRead64LowWord off s
  | .write64HighWord off value => Sys2Proof.Machine.execWrite64HighWord off value s
  | .ledgPeekidxWrite value => Sys2Proof.Machine.execLedgPeekidxWrite value s
  | .hswCtlClear n => Sys2Proof.Machine.execHswCtlClear n s
  | .pdrvCtlClear n => Sys2Proof.Machine.execPdrvCtlClear n s
  | .brgCtlClear m => Sys2Proof.Machine.execBrgCtlClear m s
  | .vlvCtlClear n => Sys2Proof.Machine.execVlvCtlClear n s
  | .vlvBctlClear b => Sys2Proof.Machine.execVlvBctlClear b s
  | .ledCtlClear n => Sys2Proof.Machine.execLedCtlClear n s
  | .canCtlRecover c => Sys2Proof.Machine.execCanCtlRecover c s
  | .canCtlRestrSet c => Sys2Proof.Machine.execCanCtlRestrSet c s
  | .canCtlRestrClear c => Sys2Proof.Machine.execCanCtlRestrClear c s
  | .linCtlSreq n table => Sys2Proof.Machine.execLinCtlSreq n table s
  | .linCtlSleep n => Sys2Proof.Machine.execLinCtlSleep n s
  | .linCtlWake n => Sys2Proof.Machine.execLinCtlWake n s
  | .rfxSvcRemove c => Sys2Proof.Machine.execRfxSvcRemove c s
  | .rfxSvcReturn c => Sys2Proof.Machine.execRfxSvcReturn c s
  | .hostCtlEnSet dbper => Sys2Proof.Machine.execHostCtlEnSet dbper s
  | .hostCtlEnClear dbper => Sys2Proof.Machine.execHostCtlEnClear dbper s
  | .fltCtlClr r => Sys2Proof.Machine.execFltCtlClr r s
  | .msixVectorUnmask v => Sys2Proof.Machine.execMsixVectorUnmask v s
  | .deviceReset mgp pass => Sys2Proof.Machine.execDeviceReset mgp pass s
  | .asSyncReceived gptp corr => Sys2Proof.Machine.execAsSyncReceived gptp corr s
  | .timeMarkerReceived d err => Sys2Proof.Machine.execTimeMarkerReceived d err s
  | .islandRelock d => Sys2Proof.Machine.execIslandRelock d s
  | .markerLoss d => Sys2Proof.Machine.execMarkerLoss d s
  | .ledgerUpdateArrival p => Sys2Proof.Machine.execLedgerUpdateArrival p s
  | .entryExpiry idx => Sys2Proof.Machine.execEntryExpiry idx s
  | .snapshotSeal ready => Sys2Proof.Machine.execSnapshotSeal ready s
  | .snapReadAtSeal t => Sys2Proof.Machine.execSnapReadAtSeal t s
  | .stagedWriteArrival d => Sys2Proof.Machine.execStagedWriteArrival d s
  | .frameCloseMessage d => Sys2Proof.Machine.execFrameCloseMessage d s
  | .dieBoundaryApply d => Sys2Proof.Machine.execDieBoundaryApply d s
  | .limpEntry d => Sys2Proof.Machine.execLimpEntry d s
  | .pwmPeriodStart u => Sys2Proof.Machine.execPwmPeriodStart u s
  | .pwmOnTimeEnd u => Sys2Proof.Machine.execPwmOnTimeEnd u s
  | .senseSample d x => Sys2Proof.Machine.execSenseSample d x s
  | .sensingWindowEnd d => Sys2Proof.Machine.execSensingWindowEnd d s
  | .overloadTrip u => Sys2Proof.Machine.execOverloadTrip u s
  | .shortComparatorTrip u cur => Sys2Proof.Machine.execShortComparatorTrip u cur s
  | .vdsTrip u vds => Sys2Proof.Machine.execVdsTrip u vds s
  | .emberSet u tj ts => Sys2Proof.Machine.execEmberSet u tj ts s
  | .emberRelease u tj ts => Sys2Proof.Machine.execEmberRelease u tj ts s
  | .snuffEnd u => Sys2Proof.Machine.execSnuffEnd u s
  | .retryDue u => Sys2Proof.Machine.execRetryDue u s
  | .retryRefill u => Sys2Proof.Machine.execRetryRefill u s
  | .wickStep d => Sys2Proof.Machine.execWickStep d s
  | .bundleNodeMessage d => Sys2Proof.Machine.execBundleNodeMessage d s
  | .bundleMessageTimeout d => Sys2Proof.Machine.execBundleMessageTimeout d s
  | .periodicFeedback u x => Sys2Proof.Machine.execPeriodicFeedback u x s
  | .entryResend idx => Sys2Proof.Machine.execEntryResend idx s
  | .inrushWindowEnd u => Sys2Proof.Machine.execInrushWindowEnd u s
  | .softStartCarrier u => Sys2Proof.Machine.execSoftStartCarrier u s
  | .droopDetected d => Sys2Proof.Machine.execDroopDetected d s
  | .droopNotice d => Sys2Proof.Machine.execDroopNotice d s
  | .droopEndNotice d => Sys2Proof.Machine.execDroopEndNotice d s
  | .droopCap d => Sys2Proof.Machine.execDroopCap d s
  | .droopFreezeEnd d => Sys2Proof.Machine.execDroopFreezeEnd d s
  | .openLoadTestStart u => Sys2Proof.Machine.execOpenLoadTestStart u s
  | .openLoadTestEnd u => Sys2Proof.Machine.execOpenLoadTestEnd u s
  | .bridgeControlStep d => Sys2Proof.Machine.execBridgeControlStep d s
  | .rippleEdge m => Sys2Proof.Machine.execRippleEdge m s
  | .motorStall m => Sys2Proof.Machine.execMotorStall m s
  | .motorRunLimit m => Sys2Proof.Machine.execMotorRunLimit m s
  | .motorStartBlankingEnd m => Sys2Proof.Machine.execMotorStartBlankingEnd m s
  | .pulseEnd m => Sys2Proof.Machine.execPulseEnd m s
  | .pinchBrakeEnd m => Sys2Proof.Machine.execPinchBrakeEnd m s
  | .reversalComplete m => Sys2Proof.Machine.execReversalComplete m s
  | .motorSettleEnd m => Sys2Proof.Machine.execMotorSettleEnd m s
  | .bridgeTrip m x => Sys2Proof.Machine.execBridgeTrip m x s
  | .motorTrippedEnd m => Sys2Proof.Machine.execMotorTrippedEnd m s
  | .currentChop m cur => Sys2Proof.Machine.execCurrentChop m cur s
  | .chopOffEnd m => Sys2Proof.Machine.execChopOffEnd m s
  | .bemfMeasureStart m => Sys2Proof.Machine.execBemfMeasureStart m s
  | .bemfMeasureEnd m => Sys2Proof.Machine.execBemfMeasureEnd m s
  | .bridgeSeqOverrun d => Sys2Proof.Machine.execBridgeSeqOverrun d s
  | .valveControlStep b => Sys2Proof.Machine.execValveControlStep b s
  | .peakEnd n => Sys2Proof.Machine.execPeakEnd n s
  | .peakFail n => Sys2Proof.Machine.execPeakFail n s
  | .releaseTimeout n => Sys2Proof.Machine.execReleaseTimeout n s
  | .leashExpiry n => Sys2Proof.Machine.execLeashExpiry n s
  | .holdLow n => Sys2Proof.Machine.execHoldLow n s
  | .valveTrip n cur => Sys2Proof.Machine.execValveTrip n cur s
  | .valveTrippedEnd n => Sys2Proof.Machine.execValveTrippedEnd n s
  | .bankTrip b cur => Sys2Proof.Machine.execBankTrip b cur s
  | .bankTrippedEnd b => Sys2Proof.Machine.execBankTrippedEnd b s
  | .bankSeqOverrun b => Sys2Proof.Machine.execBankSeqOverrun b s
  | .ledPeriodStart n => Sys2Proof.Machine.execLedPeriodStart n s
  | .ledOpen n => Sys2Proof.Machine.execLedOpen n s
  | .ledOpenClear n => Sys2Proof.Machine.execLedOpenClear n s
  | .ledShort n => Sys2Proof.Machine.execLedShort n s
  | .ledFoldbackStep tj => Sys2Proof.Machine.execLedFoldbackStep tj s
  | .inputRawEdge n vin => Sys2Proof.Machine.execInputRawEdge n vin s
  | .pulsedWettingRead n vin => Sys2Proof.Machine.execPulsedWettingRead n vin s
  | .debounceAccept n => Sys2Proof.Machine.execDebounceAccept n s
  | .inputChatter n => Sys2Proof.Machine.execInputChatter n s
  | .lowbatSuspensionEnd n => Sys2Proof.Machine.execLowbatSuspensionEnd n s
  | .parkPoll vins => Sys2Proof.Machine.execParkPoll vins s
  | .budgetAbort c => Sys2Proof.Machine.execBudgetAbort c s
  | .coreFailure c cause => Sys2Proof.Machine.execCoreFailure c cause s
  | .coreSelfTestEnd c pass => Sys2Proof.Machine.execCoreSelfTestEnd c pass s
  | .immediateApply d => Sys2Proof.Machine.execImmediateApply d s
  | .add k d a b => Sys2Proof.Machine.execAdd k d a b s
  | .sub k d a b => Sys2Proof.Machine.execSub k d a b s
  | .andI k d a b => Sys2Proof.Machine.execAndI k d a b s
  | .orI k d a b => Sys2Proof.Machine.execOrI k d a b s
  | .xorI k d a b => Sys2Proof.Machine.execXorI k d a b s
  | .sll k d a b => Sys2Proof.Machine.execSll k d a b s
  | .srl k d a b => Sys2Proof.Machine.execSrl k d a b s
  | .sra k d a b => Sys2Proof.Machine.execSra k d a b s
  | .slt k d a b => Sys2Proof.Machine.execSlt k d a b s
  | .sltu k d a b => Sys2Proof.Machine.execSltu k d a b s
  | .nopInstruction k => Sys2Proof.Machine.execNopInstruction k s
  | .endI k => Sys2Proof.Machine.execEndI k s
  | .addi k d a imm => Sys2Proof.Machine.execAddi k d a imm s
  | .andi k d a imm => Sys2Proof.Machine.execAndi k d a imm s
  | .ori k d a imm => Sys2Proof.Machine.execOri k d a imm s
  | .xori k d a imm => Sys2Proof.Machine.execXori k d a imm s
  | .slli k d a imm => Sys2Proof.Machine.execSlli k d a imm s
  | .srli k d a imm => Sys2Proof.Machine.execSrli k d a imm s
  | .srai k d a imm => Sys2Proof.Machine.execSrai k d a imm s
  | .lui k d imm => Sys2Proof.Machine.execLui k d imm s
  | .slti k d a imm => Sys2Proof.Machine.execSlti k d a imm s
  | .mul k a b => Sys2Proof.Machine.execMul k a b s
  | .mulu k a b => Sys2Proof.Machine.execMulu k a b s
  | .mac k a b => Sys2Proof.Machine.execMac k a b s
  | .multiplierResult k => Sys2Proof.Machine.execMultiplierResult k s
  | .mfs k d sp => Sys2Proof.Machine.execMfs k d sp s
  | .mts k sp a => Sys2Proof.Machine.execMts k sp a s
  | .ldw k d a imm => Sys2Proof.Machine.execLdw k d a imm s
  | .stw k d a imm => Sys2Proof.Machine.execStw k d a imm s
  | .bc k a b cond off => Sys2Proof.Machine.execBc k a b cond off s
  | .prd k d port => Sys2Proof.Machine.execPrd k d port s
  | .pwr k a port => Sys2Proof.Machine.execPwr k a port s
  | .ldv k d index => Sys2Proof.Machine.execLdv k d index s
  | .lde k d index => Sys2Proof.Machine.execLde k d index s
  | .ldvx k d a => Sys2Proof.Machine.execLdvx k d a s
  | .ldex k d a => Sys2Proof.Machine.execLdex k d a s
  | .ldb k d a b => Sys2Proof.Machine.execLdb k d a b s
  | .ste k d index => Sys2Proof.Machine.execSte k d index s
  | .stex k d a => Sys2Proof.Machine.execStex k d a s
  | .br k off => Sys2Proof.Machine.execBr k off s
  | .bl k off => Sys2Proof.Machine.execBl k off s
  | .jr k a => Sys2Proof.Machine.execJr k a s
  | .sk k a b cond => Sys2Proof.Machine.execSk k a b cond s
  | .ski k a cond imm => Sys2Proof.Machine.execSki k a cond imm s
  | .skst k mask => Sys2Proof.Machine.execSkst k mask s
  | .loop k a n => Sys2Proof.Machine.execLoop k a n s
  | .loopi k cnt n => Sys2Proof.Machine.execLoopi k cnt n s
  | .canFrameReceived c f => Sys2Proof.Machine.execCanFrameReceived c f s
  | .canTxStart c => Sys2Proof.Machine.execCanTxStart c s
  | .canFrameSent c tdcv => Sys2Proof.Machine.execCanFrameSent c tdcv s
  | .canArbitrationLost c => Sys2Proof.Machine.execCanArbitrationLost c s
  | .canError c kinds tec rec => Sys2Proof.Machine.execCanError c kinds tec rec s
  | .busoffHoldEnd c => Sys2Proof.Machine.execBusoffHoldEnd c s
  | .busoffRecoveryDone c => Sys2Proof.Machine.execBusoffRecoveryDone c s
  | .canSyncDone c => Sys2Proof.Machine.execCanSyncDone c s
  | .busoffCountReset c => Sys2Proof.Machine.execBusoffCountReset c s
  | .canWakeFrame c f good => Sys2Proof.Machine.execCanWakeFrame c f good s
  | .canWakePattern c => Sys2Proof.Machine.execCanWakePattern c s
  | .linSlotStart n => Sys2Proof.Machine.execLinSlotStart n s
  | .linHeaderReceived n pid head => Sys2Proof.Machine.execLinHeaderReceived n pid head s
  | .linFrameReceived n f => Sys2Proof.Machine.execLinFrameReceived n f s
  | .linBusIdleTimeout n => Sys2Proof.Machine.execLinBusIdleTimeout n s
  | .linWakeRetry n => Sys2Proof.Machine.execLinWakeRetry n s
  | .linRemoteWake n ticks => Sys2Proof.Machine.execLinRemoteWake n ticks s
  | .linScheduleRestart n => Sys2Proof.Machine.execLinScheduleRestart n s
  | .ethFrameReceived p f => Sys2Proof.Machine.execEthFrameReceived p f s
  | .ethFrameTxStart p => Sys2Proof.Machine.execEthFrameTxStart p s
  | .ethLinkChange p link speed plca => Sys2Proof.Machine.execEthLinkChange p link speed plca s
  | .pdelayReqReceived p seq => Sys2Proof.Machine.execPdelayReqReceived p seq s
  | .doorbellData x => Sys2Proof.Machine.execDoorbellData x s
  | .descriptorAccept q x => Sys2Proof.Machine.execDescriptorAccept q x s
  | .cqModerationTimer q => Sys2Proof.Machine.execCqModerationTimer q s
  | .ringDrainTimeout q => Sys2Proof.Machine.execRingDrainTimeout q s
  | .nop t => Sys2Proof.Machine.execNop t s
  | .ringAdd t => Sys2Proof.Machine.execRingAdd t s
  | .ringRemove t => Sys2Proof.Machine.execRingRemove t s
  | .funcReset t => Sys2Proof.Machine.execFuncReset t s
  | .ledgerWrite t x => Sys2Proof.Machine.execLedgerWrite t x s
  | .ledgerRead t => Sys2Proof.Machine.execLedgerRead t s
  | .immediateWrite t => Sys2Proof.Machine.execImmediateWrite t s
  | .unitClear t => Sys2Proof.Machine.execUnitClear t s
  | .coreService t => Sys2Proof.Machine.execCoreService t s
  | .canTx t x => Sys2Proof.Machine.execCanTx t x s
  | .canCancel t => Sys2Proof.Machine.execCanCancel t s
  | .canRecover t => Sys2Proof.Machine.execCanRecover t s
  | .canMode t => Sys2Proof.Machine.execCanMode t s
  | .rxPost t => Sys2Proof.Machine.execRxPost t s
  | .linSched t => Sys2Proof.Machine.execLinSched t s
  | .linDiag t => Sys2Proof.Machine.execLinDiag t s
  | .ethTx t x => Sys2Proof.Machine.execEthTx t x s
  | .cipher t x aux => Sys2Proof.Machine.execCipher t x aux s
  | .hash t x => Sys2Proof.Machine.execHash t x s
  | .derive t => Sys2Proof.Machine.execDerive t s
  | .slotRetire t => Sys2Proof.Machine.execSlotRetire t s
  | .slotClear t => Sys2Proof.Machine.execSlotClear t s
  | .alarm t => Sys2Proof.Machine.execAlarm t s
  | .cipherRequestStart k => Sys2Proof.Machine.execCipherRequestStart k s
  | .nonceCeilingWritten k => Sys2Proof.Machine.execNonceCeilingWritten k s
  | .cipherRequestEnd k => Sys2Proof.Machine.execCipherRequestEnd k s
  | .cipherAlarm a => Sys2Proof.Machine.execCipherAlarm a s
  | .challenge t => Sys2Proof.Machine.execChallenge t s
  | .tokenRegister t => Sys2Proof.Machine.execTokenRegister t s
  | .tokenRemove t => Sys2Proof.Machine.execTokenRemove t s
  | .calibrate t => Sys2Proof.Machine.execCalibrate t s
  | .lfDriverShort k cur => Sys2Proof.Machine.execLfDriverShort k cur s
  | .lfDriverOpen k peak => Sys2Proof.Machine.execLfDriverOpen k peak s
  | .tkrFrameReceived f => Sys2Proof.Machine.execTkrFrameReceived f s
  | .buttonFrame f => Sys2Proof.Machine.execButtonFrame f s
  | .faultRaise p => Sys2Proof.Machine.execFaultRaise p s
  | .faultRecovery r => Sys2Proof.Machine.execFaultRecovery r s
  | .faultRead t => Sys2Proof.Machine.execFaultRead t s
  | .faultNotices t => Sys2Proof.Machine.execFaultNotices t s
  | .faultClear t => Sys2Proof.Machine.execFaultClear t s
  | .faultInject t => Sys2Proof.Machine.execFaultInject t s
  | .repeatWriteback n => Sys2Proof.Machine.execRepeatWriteback n s
  | .evrRead t => Sys2Proof.Machine.execEvrRead t s
  | .evrMark t => Sys2Proof.Machine.execEvrMark t s
  | .evrClear t => Sys2Proof.Machine.execEvrClear t s
  | .cfgWrite t x => Sys2Proof.Machine.execCfgWrite t x s
  | .cfgCommit t => Sys2Proof.Machine.execCfgCommit t s
  | .cfgRollback t => Sys2Proof.Machine.execCfgRollback t s
  | .cfgStatus t => Sys2Proof.Machine.execCfgStatus t s
  | .cfgRaisemin t => Sys2Proof.Machine.execCfgRaisemin t s
  | .lifecycle t => Sys2Proof.Machine.execLifecycle t s
  | .rootProvision t x => Sys2Proof.Machine.execRootProvision t x s
  | .debugUnlock t => Sys2Proof.Machine.execDebugUnlock t s
  | .testMode t => Sys2Proof.Machine.execTestMode t s
  | .dieParamsReceived d => Sys2Proof.Machine.execDieParamsReceived d s
  | .dieParamAck d => Sys2Proof.Machine.execDieParamAck d s
  | .lanternReceived x => Sys2Proof.Machine.execLanternReceived x s
  | .peerSilent k => Sys2Proof.Machine.execPeerSilent k s
  | .pwrVote t => Sys2Proof.Machine.execPwrVote t s
  | .pwrStatus t => Sys2Proof.Machine.execPwrStatus t s
  | .pwrTimer t => Sys2Proof.Machine.execPwrTimer t s
  | .tkrWake ticks => Sys2Proof.Machine.execTkrWake ticks s
  | .tamper ticks => Sys2Proof.Machine.execTamper ticks s
  | .mgpAddressMatch addr => Sys2Proof.Machine.execMgpAddressMatch addr s
  | .mgpReset data pass => Sys2Proof.Machine.execMgpReset data pass s
  | .mgpDebug cmd => Sys2Proof.Machine.execMgpDebug cmd s
  | .powerOn a1 a0 => Sys2Proof.Machine.execPowerOn a1 a0 s
  | .rqbStatusRead status => Sys2Proof.Machine.execRqbStatusRead status s
  | .dieLReady pass => Sys2Proof.Machine.execDieLReady pass s
  | .domainReady d => Sys2Proof.Machine.execDomainReady d s
  | .domainStartTimeout d => Sys2Proof.Machine.execDomainStartTimeout d s
  | .domainDemandWake d => Sys2Proof.Machine.execDomainDemandWake d s
  | .domainStallTimeout d => Sys2Proof.Machine.execDomainStallTimeout d s
  | .railLoss rail ticks => Sys2Proof.Machine.execRailLoss rail ticks s
  | .supplyUvEntry d => Sys2Proof.Machine.execSupplyUvEntry d s
  | .supplyUvExit d => Sys2Proof.Machine.execSupplyUvExit d s
  | .supplyOvEntry d => Sys2Proof.Machine.execSupplyOvEntry d s
  | .supplyOvExit d => Sys2Proof.Machine.execSupplyOvExit d s
  | .gndshiftEntry d => Sys2Proof.Machine.execGndshiftEntry d s
  | .gndshiftExit d => Sys2Proof.Machine.execGndshiftExit d s
  | .powerDieReset d vbat => Sys2Proof.Machine.execPowerDieReset d vbat s
  | .candleReset mv => Sys2Proof.Machine.execCandleReset mv s
  | .droopRecordLimit d => Sys2Proof.Machine.execDroopRecordLimit d s
  | .valveCurrentTargetReached n cur => Sys2Proof.Machine.execValveCurrentTargetReached n cur s
  | .valveOffTimeEnd n => Sys2Proof.Machine.execValveOffTimeEnd n s
  | .linResponseTimeout n => Sys2Proof.Machine.execLinResponseTimeout n s
  | .ethFrameTxEnd p => Sys2Proof.Machine.execEthFrameTxEnd p s
  | .forwardingDatabaseAgeing mac vid => Sys2Proof.Machine.execForwardingDatabaseAgeing mac vid s
  | .pcieCompletionTimeout x => Sys2Proof.Machine.execPcieCompletionTimeout x s
  | .busMasterEnableChange bme d3 => Sys2Proof.Machine.execBusMasterEnableChange bme d3 s
  | .pwrCtlVotePark => Sys2Proof.Machine.execPwrCtlVotePark s
  | .pwrCtlVoteWithdraw => Sys2Proof.Machine.execPwrCtlVoteWithdraw s
  | .pcieLinkDown => Sys2Proof.Machine.execPcieLinkDown s
  | .crystalStable => Sys2Proof.Machine.execCrystalStable s
  | .crystalFail => Sys2Proof.Machine.execCrystalFail s
  | .startingTimeout => Sys2Proof.Machine.execStartingTimeout s
  | .degradedReturn => Sys2Proof.Machine.execDegradedReturn s
  | .asConverged => Sys2Proof.Machine.execAsConverged s
  | .asSyncLoss => Sys2Proof.Machine.execAsSyncLoss s
  | .timeMarkerSend => Sys2Proof.Machine.execTimeMarkerSend s
  | .ledgerIntakeCommit => Sys2Proof.Machine.execLedgerIntakeCommit s
  | .frameZeroStart => Sys2Proof.Machine.execFrameZeroStart s
  | .frameBoundary => Sys2Proof.Machine.execFrameBoundary s
  | .stagingClose => Sys2Proof.Machine.execStagingClose s
  | .boostReady => Sys2Proof.Machine.execBoostReady s
  | .boostReadyLoss => Sys2Proof.Machine.execBoostReadyLoss s
  | .boostNotReady => Sys2Proof.Machine.execBoostNotReady s
  | .boostOvp => Sys2Proof.Machine.execBoostOvp s
  | .lfControlStep => Sys2Proof.Machine.execLfControlStep s
  | .lfSeqOverrun => Sys2Proof.Machine.execLfSeqOverrun s
  | .doorbellFetch => Sys2Proof.Machine.execDoorbellFetch s
  | .cipherStartDone => Sys2Proof.Machine.execCipherStartDone s
  | .eraseComplete => Sys2Proof.Machine.execEraseComplete s
  | .challengeStart => Sys2Proof.Machine.execChallengeStart s
  | .challengeEnd => Sys2Proof.Machine.execChallengeEnd s
  | .tkrStrobe => Sys2Proof.Machine.execTkrStrobe s
  | .replySlotEnd => Sys2Proof.Machine.execReplySlotEnd s
  | .replyVerified => Sys2Proof.Machine.execReplyVerified s
  | .lockoutEnd => Sys2Proof.Machine.execLockoutEnd s
  | .sessionTimeout => Sys2Proof.Machine.execSessionTimeout s
  | .eventRecord => Sys2Proof.Machine.execEventRecord s
  | .opsecTick => Sys2Proof.Machine.execOpsecTick s
  | .swapTimeout => Sys2Proof.Machine.execSwapTimeout s
  | .lanternDue => Sys2Proof.Machine.execLanternDue s
  | .wakeStart => Sys2Proof.Machine.execWakeStart s
  | .mgpStatus => Sys2Proof.Machine.execMgpStatus s
  | .parkTimerWake => Sys2Proof.Machine.execParkTimerWake s
  | .wakeRetry => Sys2Proof.Machine.execWakeRetry s
  | .rqbRequest => Sys2Proof.Machine.execRqbRequest s
  | .rqbRetry => Sys2Proof.Machine.execRqbRetry s
  | .regFail => Sys2Proof.Machine.execRegFail s
  | .shutdownTimeout => Sys2Proof.Machine.execShutdownTimeout s
  | .parkEntry => Sys2Proof.Machine.execParkEntry s
  | .wakeVoltageOk => Sys2Proof.Machine.execWakeVoltageOk s
  | .boostOvpEnd => Sys2Proof.Machine.execBoostOvpEnd s
  | .pcieLinkUp => Sys2Proof.Machine.execPcieLinkUp s

end Sys2Proof.Machine
end

