-- ==== Sys2Proof/Safety.lean ====
section
/-! DEFINITION. What counts as a safe state and a safe step, in the terms the statements use. -/

namespace Sys2Proof.Safety

open Sys2Proof.Machine

/-- A step goes on: it answers a next state. -/
def Completes (s : State) : Prop := ∃ t, step s = .next t

/-- The register file has its canonical form. -/
def RegsCanonical (s : State) : Prop := SMap.wf resetWord s.regs = true

/-- The counts are within their limits (R404, R405): 255 raises of MINVER, 16 debug unlocks, three lifecycle states, four provisionings of a root slot. -/
def OtpLegal (s : State) : Prop := s.otp.raises ≤ 255 ∧ s.otp.debug ≤ 16 ∧ s.otp.life ≤ 2 ∧ ∀ r, s.provOf r ≤ 4

/-- What one command may do to the counts (R404, R405): nothing, or one step of one of them below its limit. -/
def OtpMove (s : State) (o : Otp) : Prop :=
  o = s.otp
  ∨ (∃ v, s.otp.minver < v ∧ s.otp.raises < 255 ∧ o = { s.otp with minver := v, raises := s.otp.raises + 1 })
  ∨ (s.otp.life < 2 ∧ o = { s.otp with life := s.otp.life + 1 })
  ∨ (∃ r, s.provOf r < 4 ∧ o = { s.otp with prov := SMap.set (fun _ => 0) s.otp.prov r (s.provOf r + 1) })
  ∨ (s.otp.debug < 16 ∧ o = { s.otp with debug := s.otp.debug + 1 })

/-- Machine `k` runs, skips nothing, and has `word`, an instruction of `n` cycles that names the registers `need`, to issue: a frame program holds it at its address and has the budget for it; a sequencer has 16 registers and not the instructions of die L alone (R204, R220, R222, R236). -/
def issues (s : State) (k : CoreId) (word : Nat) (need : List Nat) (n : Nat) : Bool :=
  let x := s.celAt (celIdx k)
  CoreId.exists k && x.running && !x.skip
    && (if CoreId.isL k then decide (s.codeWord (celIdx k) = word) && decide (wordError word = 0) && !s.exceeds k n
        else !onlyL (word / 2 ^ 26) && need.all (fun r => decide (r < 16)))

/-- The machine as the instruction finds it: its cycles charged, and the products due in it delivered (R204, R223). -/
def issued (s : State) (k : CoreId) (n : Nat) : Cel :=
  let x := s.celAt (celIdx k)
  { x.deliver (x.cyc + 1) with cyc := x.cyc + n, stopAt := none }

/-- The machine takes the state `x`, and goes on at the next instruction (R226, R227). -/
def goOn (s : State) (k : CoreId) (x : Cel) : State := s.setCel (celIdx k) (x.goTo .seq)

end Sys2Proof.Safety
end

