-- ==== Sys2Proof/Certificates/Slice0/Obligations.lean ====
section
/-! DEFINITION. The statements for the provers. In the clauses of one command, the hypotheses are conditions on the state and the operands alone, and the conclusion is the whole next state. -/

open Sys2Proof Sys2Proof.Machine Sys2Proof.Safety

/-- A 32-bit write to a register without behaviour of its own replaces its RW bits, clears the W1C bits written as 1 that hardware did not set in the same tick, and changes nothing else; a read of the low word of a 64-bit register returns it and latches the high word as it is then; the write of the high word makes a 64-bit register take both words; LEDG_PEEKIDX names a defined entry and fills PEEK0 to PEEK7 from it at the current tick, after its expiry is settled. -/
def Obligations.RegisterCommands : Prop :=
    (∀ (s : State) (off : Nat) (v : W32) (r : RegRow), s.started = true → off < 0x100000 → off % 4 = 0 → regDie off = none → regRow off = some r →
      s.writeOwn off v.toNat = none → r.wide = 0 → r.rwl = 0 → r.otp = 0 →
      exec (.registerWrite off 4 v) s = .next (s.setWord off (((s.word off &&& ~~~(BitVec.ofNat 32 r.rw)) ||| (v &&& BitVec.ofNat 32 r.rw)) &&& ~~~(v &&& BitVec.ofNat 32 r.w1c &&& ~~~SMap.get (fun _ => 0#32) s.hwSet off)))) ∧
    (∀ (s : State) (off : Nat) (r : RegRow), s.started = true → regRow off = some r → r.wide = 1 → regDie off = none →
      exec (.read64LowWord off) s = .next (({ s with latches := { s.latches with high := SMap.set (fun _ => 0#32) s.latches.high off (s.wordNow (off + 4)) } } : State).emit (.readData off (s.wordNow off)))) ∧
    (∀ (s : State) (off : Nat) (v lo : W32) (r : RegRow), s.started = true → off < 0x100000 → off % 4 = 0 → regDie off = none → regRow off = some r →
      s.writeOwn off v.toNat = none → r.wide = 2 → r.rw ≠ 0 → SMap.get (fun _ => none) s.latches.low (off - 4) = some lo →
      exec (.write64HighWord off v) s = .next ({ (s.setWord (off - 4) lo).setWord off v with latches := { s.latches with low := SMap.set (fun _ => none) s.latches.low (off - 4) none } })) ∧
    (∀ (s : State) (v : W32) (a : Attr), s.started = true → s.attr (v.toNat % 2 ^ 17) = some a →
      exec (.ledgPeekidxWrite v) s = .next (let s1 := ((s.wr Reg.LEDG_PEEKIDX.IDX (v.toNat % 2 ^ 17)).wr64 Reg.LEDG_PEEKT.T s.now).expire (v.toNat % 2 ^ 17)
      (List.range 8).foldl (fun q k => q.setWord (Reg.LEDG_PEEK0.W.off + 4 * k) (BitVec.ofNat 32 (byteField (entryBytes a (s1.live (v.toNat % 2 ^ 17)) s.now) (4 * k) 4))) s1))

/-- A write of 1 to CLEAR of a channel, motor, valve channel, valve bank or LED sink that is enabled, on a die whose main domain is ready, records the request on that unit and changes nothing else; UNIT_CLEAR does the same with its tag, which is released when the clear acts. -/
def Obligations.ClearCommands : Prop :=
    (∀ (s : State) (n : Nat), n < 48 → s.domReady (chanDie n) = true → s.chEnabled n = true →
      exec (.hswCtlClear n) s = .next (s.setChan n { s.chan n with clear := true })) ∧
    (∀ (s : State) (n : Nat), n < 16 → s.domReady (chanDie (48 + n)) = true → s.chEnabled (48 + n) = true →
      exec (.pdrvCtlClear n) s = .next (s.setChan (48 + n) { s.chan (48 + n) with clear := true })) ∧
    (∀ (s : State) (m : Nat), m < 14 → s.domReady (motorDie m) = true → s.mEnabled m = true →
      exec (.brgCtlClear m) s = .next (s.setMotor m { s.motor m with clear := true })) ∧
    (∀ (s : State) (n : Nat), n < 24 → s.domReady .v = true → s.vEnabled n = true →
      exec (.vlvCtlClear n) s = .next (s.setValve n { s.valve n with clear := true })) ∧
    (∀ (s : State) (b : Nat), b < 6 → s.domReady .v = true → s.bEnabled b = true →
      exec (.vlvBctlClear b) s = .next (s.setBank b { s.bank b with clear := true })) ∧
    (∀ (s : State) (n : Nat), n < 48 → s.domReady .v = true → s.lEnabled n = true →
      exec (.ledCtlClear n) s = .next (s.setSink n { s.sink n with clear := true })) ∧
    (∀ (s : State) (t n : Nat) (o : HostOp), s.opReady t 0x18 = some o → o.fld 16 2 = 0x0100 + n → n < 48 → s.domReady (chanDie n) = true →
      s.chEnabled n = true →
      exec (.unitClear t) s = .next ((s.begin t).setChan n { s.chan n with clear := true, clearTags := (s.chan n).clearTags ++ [t] }))

/-- An update that is the oldest message of a link that carries messages, or the first of the queue of die L, enters the intake, a late one with the link fault; the first of the intake commits, at most one in a tick; a FRESH entry past its deadline becomes STALE; LEDGER_WRITE of an entry the host owns sends an update with source 0x1100 plus the ring; LEDGER_READ serves the live entry after its expiry is settled, and one that waits for the seal is served from the snapshot once it is sealed. -/
def Obligations.LedgerCommands : Prop :=
    (∀ (s : State) (d : Die) (u : Upd) (us : List UpMsg), (s.link d).up = .update u :: us → s.linkCarries d = true → s.intakeFull = false →
      s.now ≤ u.stamp + 400 →
      exec (.ledgerUpdateArrival (.die d)) s = .next ((s.setLink d { s.link d with up := us }).enterIntake { u with late := false })) ∧
    (∀ (s : State) (d : Die) (u : Upd) (us : List UpMsg), (s.link d).up = .update u :: us → s.linkCarries d = true → s.intakeFull = false →
      u.stamp + 400 < s.now →
      exec (.ledgerUpdateArrival (.die d)) s = .next (((s.setLink d { s.link d with up := us }).linkFault d).enterIntake { u with late := true })) ∧
    (∀ (s : State) (u : Upd) (us : List Upd), s.led.fromL = u :: us → s.intakeFull = false →
      exec (.ledgerUpdateArrival .dieL) s = .next (({ s with led := { s.led with fromL := us } } : State).enterIntake u)) ∧
    (∀ (s : State) (i : Nat), (s.live i).state = .fresh → (s.live i).deadline ≠ 0 → (s.live i).deadline ≤ s.now →
      exec (.entryExpiry i) s = .next ({ s.count Reg.LEDG_EXPCNT.N 1 with led := { s.led with live := SMap.set Entry.blank s.led.live i { s.live i with state := .stale } } })) ∧
    (∀ (s : State) (t : Nat) (o : HostOp) (a : Attr), s.op t = some o → o.opcode = 0x11 → o.begun = true → s.tb.sealed = true →
      s.attr (o.fld 16 3) = some a → exec (.snapReadAtSeal t) s = .next (s.serveRead t o a (s.snap (o.fld 16 3)) s.led.snapTick s.led.snapFrame)) ∧
    (∀ (s : State) (t : Nat) (x : ReadResult) (o : HostOp) (a : Attr), s.opReady t 0x10 = some o → s.ledgerTurn o = true →
      s.attr (o.fld 16 3) = some a → hostValueOk a o = true → a.owner = .host → a.kind ≠ 3 → exec (.ledgerWrite t x) s = .next (s.sendHost t o [])) ∧
    (∀ (s : State) (t : Nat) (o : HostOp) (a : Attr), s.opReady t 0x11 = some o → s.ledgerTurn o = true → s.led.fromHost = [] →
      s.attr (o.fld 16 3) = some a → bitOf (o.fld 20 1) 0 = false →
      exec (.ledgerRead t) s = .next ((s.expire (o.fld 16 3)).serveRead t o a ((s.expire (o.fld 16 3)).live (o.fld 16 3)) s.now (s.rd Reg.TIME_FRAME.F))) ∧
    (∀ (s : State) (u : Upd) (us : List Upd) (a : Attr), s.led.intake = u :: us → s.led.commitAt ≠ s.now → s.attr u.idx = some a → a.owner = u.own →
      exec (.ledgerIntakeCommit) s = .next (let s1 : State := { s with led := { s.led with intake := us, commitAt := s.now } }
      ((s1.intakeLate u).commit u).committed u (u.key.gt (s.live u.idx).key)))

/-- A stable crystal ends STARTING; a Sync on the selected port in use sets TIME_ASOFS and ASSYNC, counts toward convergence and with ASEN takes the rate correction within its limit; ASSYNC and 16 good Syncs in a row lead from CRYSTAL to SYNCED, and their loss clears ASSYNC, raises 0x0E20 and ends SYNCED; a marker within half a tick brings a die nearer to lock and one outside takes the lock, 64 in a row lock it, and a die without markers for 3,200 ticks of its own counter runs free, loses lock and reports its link; die L sends a marker to each die every 200 ticks. -/
def Obligations.TimeCommands : Prop :=
    (∀ (s : State) (g c : Int) (t0 : Nat) (g0 : Int), s.started = true → s.asPortUp = true → s.tb.lastSync = some (t0, g0) →
      exec (.asSyncReceived g c) s = .next (let s1 := (s.wr64 Reg.TIME_ASOFS.OFS (fieldOfInt 64 (g - 5 * s.now))).raiseFlag Reg.TIME_STATE.ASSYNC
      let s2 := if s.flag Reg.TIME_DISC.ASEN then s1.wr Reg.TIME_RATE.CORR (fieldOfInt 24 (clampInt (-s.slewLimit) s.slewLimit c)) else s1
      { s2 with tb := { s2.tb with lastSync := some (s.now, g), syncCount := if rateGood t0 g0 s.now g then s.tb.syncCount + 1 else 0 } })) ∧
    (∀ (s : State) (d : Die) (err : Int) (m : Nat) (s1 : State), s.popDown d = some (.marker m, s1) → err.natAbs ≤ 500 →
      ((s1.isl d).atMarker s.now).slew = false →
      exec (.timeMarkerReceived d err) s = .next (let i := (s1.isl d).atMarker s.now
      (s1.setIsl d { i with relock := i.relock + 1, lastMarker := i.count }).checkDelay d)) ∧
    (∀ (s : State) (d : Die) (err : Int) (m : Nat) (s1 : State), s.popDown d = some (.marker m, s1) → 500 < err.natAbs →
      exec (.timeMarkerReceived d err) s = .next (let i := (s1.isl d).atMarker s.now
      ((s1.setIsl d { i with relock := 0, lastMarker := i.count }).checkDelay d).lossOfLock d)) ∧
    (∀ (s : State) (d : Die), s.locked d = false → 64 ≤ (s.isl d).relock → exec (.islandRelock d) s = .next (s.setLocked d true)) ∧
    (∀ (s : State) (d : Die), (s.isl d).lost = false → (s.isl d).lastMarker ≠ 0 → (s.isl d).lastMarker + 3200 ≤ (s.isl d).count →
      exec (.markerLoss d) s = .next (((s.setIsl d { s.isl d with lost := true, slew := false, relock := 0, part := 0 }).lossOfLock d).linkFault d)) ∧
    (∀ (s : State), s.started = true → s.flag Reg.TIME_STATE.XTALOK = false → s.tbSt = .starting → s.now ≤ s.tb.startTick + 2000000 →
      exec (.crystalStable) s = .next ((({ s.raiseFlag Reg.TIME_STATE.XTALOK with tb := { s.tb with crystalSince := some s.now } } : State).wr Reg.TIME_XTAL.STARTT ((s.now - s.tb.startTick) / 1000)).setTb .crystal)) ∧
    (∀ (s : State), s.tbSt = .crystal → s.started = true → s.flag Reg.TIME_DISC.ASEN = true → s.flag Reg.TIME_STATE.ASSYNC = true →
      16 ≤ s.tb.syncCount → exec (.asConverged) s = .next (s.setTb .synced)) ∧
    (∀ (s : State), s.flag Reg.TIME_STATE.ASSYNC = true →
      exec (.asSyncLoss) s = .next (let s2 := ({ s.wr Reg.TIME_STATE.ASSYNC 0 with tb := { s.tb with syncCount := 0, lastSync := none } } : State).faultL 0x0E20 0x34 s.now
      if s.tbSt = .synced then s2.setTb .crystal else s2)) ∧
    (∀ (s : State), s.started = true → s.now % 200 = 0 → s.tb.markersSent ≠ s.now →
      exec (.timeMarkerSend) s = .next ({ s with
        linkP0 := { s.linkP0 with down := s.linkP0.down ++ [.marker s.now] }, linkP1 := { s.linkP1 with down := s.linkP1.down ++ [.marker s.now] },
        linkV := { s.linkV with down := s.linkV.down ++ [.marker s.now] }, tb := { s.tb with markersSent := s.now } }))

/-- EN set while the link is up and the setup is good starts ring 0 and completion ring 0; EN cleared stops the interface; a link that comes up lets an enable that waited for it act; one that goes down stops the interface, sets LINKDOWN and raises 0x18; a pending vector that is unmasked is sent; a doorbell fetch is one outstanding read, whose 256 bytes give the ring tails and heads; a fetch that times out counts as a read that failed; a descriptor read in turn is accepted; a moderation time or a drain limit that passes signals or ends what waits; completions held back go out when bus mastering returns. -/
def Obligations.HostInterfaceCommands : Prop :=
    (∀ (s : State) (d : Nat), s.started = true → s.host.linkUp = true → s.flag Reg.HOST_CTL.EN = false →
      exec (.hostCtlEnSet d) s = .next ((s.wr Reg.HOST_CTL.DBPER d).hostStart)) ∧
    (∀ (s : State) (d : Nat), s.started = true → s.flag Reg.HOST_CTL.EN = true →
      exec (.hostCtlEnClear d) s = .next (({ s.wr Reg.HOST_CTL.DBPER d with host := { s.host with enWait := none } } : State).hostStop)) ∧
    (∀ (s : State) (v : Nat), v < 33 → s.hostUp = true → (SMap.get MsixVec.blank s.host.msix v).pending = true →
      exec (.msixVectorUnmask v) s = .next (({ s with host := { s.host with msix := SMap.set MsixVec.blank s.host.msix v { SMap.get MsixVec.blank s.host.msix v with masked := false, pending := false } } } : State).msix v)) ∧
    (∀ (s : State), s.started = true → s.host.linkUp = false →
      exec (.pcieLinkUp) s = .next (let s1 : State := { s with host := { s.host with linkUp := true, enWait := none } }
      match s.host.enWait with
      | none => s1
      | some d => s1.hostEnable d)) ∧
    (∀ (s : State), s.started = true → s.host.linkUp = true →
      exec (.pcieLinkDown) s = .next ((({ s.hostStop with host := { s.hostStop.host with linkUp := false, bme := false, d3 := false, msix := [], enWait := none } } : State).raiseFlag Reg.HOST_ERR.LINKDOWN).raiseL 0x0A00 0x18 s.now)) ∧
    (∀ (s : State), s.host.linkUp = true →
      exec (.busMasterEnableChange true false) s = .next (({ s with host := { s.host with bme := true, d3 := false } } : State).sendHeld)) ∧
    (∀ (s : State) (d3 : Bool), s.host.linkUp = true →
      exec (.busMasterEnableChange false d3) s = .next ({ s with host := { s.host with bme := false, d3 := d3 } })) ∧
    (∀ (s : State), s.hostUp = true → s.busMaster = true → s.rd Reg.HOST_CTL.DBPER ≠ 0 → s.now % (s.rd Reg.HOST_CTL.DBPER * 200) = 0 →
      exec (.doorbellFetch) s = .next ({ s with host := { s.host with fetchOut := s.host.fetchOut + 1 } })) ∧
    (∀ (s : State) (x : ReadResult) (b : List Byte), s.hostUp = true → 0 < s.host.fetchOut → readBytes x 256 = some b →
      exec (.doorbellData x) s = .next (({ s with host := { s.host with fetchOut := s.host.fetchOut - 1 } } : State).doorbellPage b)) ∧
    (∀ (s : State) (q : Nat) (x : ReadResult) (d : List Byte), s.hostUp = true → s.busMaster = true → s.pow.lastBound = none → s.nextSq = some q →
      readBytes x 64 = some d → byteField d 2 1 % 2 = 0 →
      exec (.descriptorAccept q x) s = .next ((((s.served q).consume q).acceptDesc q d).drainCheck q)) ∧
    (∀ (s : State), s.hostUp = true → 0 < s.host.fetchOut →
      exec (.pcieCompletionTimeout .doorbell) s = .next (({ s with host := { s.host with fetchOut := s.host.fetchOut - 1 } } : State).fetchFailed .timeout)) ∧
    (∀ (s : State) (q : Nat), s.hostUp = true → (s.cq q).active = true → (s.cq q).itime ≠ 0 → 0 < (s.cq q).unsig → (s.cq q).vec ≠ 255 →
      (s.cq q).firstUnsig + (s.cq q).itime * 200 ≤ s.now →
      exec (.cqModerationTimer q) s = .next ((s.setCq q { s.cq q with unsig := 0 }).msix (s.cq q).vec)) ∧
    (∀ (s : State) (q : Nat), s.hostUp = true → (s.sq q).st = .draining → (s.sq q).drained = false →
      (s.sq q).remTick + s.rd Reg.HOST_DRAIN.TMO * 200000 ≤ s.now →
      exec (.ringDrainTimeout q) s = .next (((s.opsOf q).foldl (fun s p => s.drainOp p.1 p.2) (s.setSq q { s.sq q with drained := true })).releaseDrained q))

/-- NOP completes OK with the tick of its acceptance; RING_ADD of a good submission ring makes it active; RING_REMOVE of an active one starts its drain; RX_POST to an enabled unit joins the posted list and stays in flight; FUNC_RESET of an enabled Ethernet port resets it and completes OK. -/
def Obligations.RingOperations : Prop :=
    (∀ (s : State) (t : Nat) (o : HostOp), s.opReady t 0 = some o → exec (.nop t) s = .next (s.complete t St.ok 0 o.tick)) ∧
    (∀ (s : State) (t : Nat) (o : HostOp), s.opReady t 1 = some o → o.fld 16 1 = 0 → o.fld 17 1 ≠ 0 → o.fld 17 1 < 32 →
      ringOk (o.fld 18 1) (o.fld 24 8) = true → 1 ≤ o.fld 20 1 → o.fld 20 1 ≤ 16 → o.fld 19 1 < 32 → (s.cq (o.fld 19 1)).active = true →
      o.fld 21 1 = 0 → (s.sq (o.fld 17 1)).st = .absent →
      exec (.ringAdd t) s = .next ((s.setSq (o.fld 17 1) { st := .active, base := o.fld 24 8, log2 := o.fld 18 1, cq := o.fld 19 1, weight := o.fld 20 1 }).complete t St.ok 0 o.tick)) ∧
    (∀ (s : State) (t : Nat) (o : HostOp), s.opReady t 2 = some o → o.fld 16 1 = 0 → o.fld 17 1 ≠ 0 → o.fld 17 1 < 32 →
      (s.sq (o.fld 17 1)).st = .active → o.fld 17 1 ≠ o.sq →
      (o.fld 20 2 + 65536 - (s.sq (o.fld 17 1)).consumed) % 65536 ≤ 2 ^ (s.sq (o.fld 17 1)).log2 →
      exec (.ringRemove t) s = .next (((s.begin t).setSq (o.fld 17 1) { s.sq (o.fld 17 1) with st := .draining, final := o.fld 20 2, remTag := some t, remTick := o.tick }).drainCheck (o.fld 17 1))) ∧
    (∀ (s : State) (t i : Nat) (o : HostOp), s.opReady t 3 = some o → o.fld 16 2 = 0x0900 + i → i < 4 → s.flag (Reg.ETH_PCFG.ENABLE i) = true →
      exec (.funcReset t) s = .next (((s.begin t).ethPortReset i).complete t St.ok)) ∧
    (∀ (s : State) (t : Nat) (o : HostOp), s.opReady t 0x24 = some o → o.fld 16 1 = 0 → o.fld 17 1 < 12 → s.canSt (o.fld 17 1) ≠ 0 →
      exec (.rxPost t) s = .next (let s1 := s.begin t
      ({ s1 with host := { s1.host with rx := s1.host.rx ++ [{ tag := t, kind := 0, unit := o.fld 17 1, addr := o.fld 24 8 }] } } : State).drainCheck o.sq))

/-- Frame 0 starts at the first microsecond boundary at which the dies are confirmed and the time base has left STARTING; the snapshot of a frame seals 2 us after its boundary and starts the frame programs; staging closes 10 us before the next boundary with one message to each die; at a boundary that is not the last the frame is done, the host's staged writes commit and the next frame begins; a staged write is held for its boundary, and the close message that comes in time for the boundary; a die applies the set of a boundary that its close message names when its own counter reaches it. -/
def Obligations.FrameCommands : Prop :=
    (∀ (s : State), s.started = true → s.tb.framesOn = false → s.tbSt ≠ .starting → s.now % 2000 = 0 → s.power = Pw.waking → s.diesConfirmed = true →
      exec (.frameZeroStart) s = .next (s.frameZero s.now)) ∧
    (∀ (s : State) (r : List Bool), s.started = true → s.tb.framesOn = true → s.tb.sealed = false → s.bound + 400 ≤ s.now →
      exec (.snapshotSeal r) s = .next (let s1 := s.takeSnap
      let s2 := s1.img.enc.zipIdx.foldl State.encStep s1
      (({ s2 with led := { s2.led with changed := [] } } : State).lanternsBuild).startPrograms r)) ∧
    (∀ (s : State), s.started = true → s.tb.framesOn = true → s.tb.sealed = true → s.tb.closed = false → s.bound + s.period ≤ s.now + 2000 →
      s.engine = 1 →
      exec (.stagingClose) s = .next (let s2 : State := { s.closeCores with tb := { s.closeCores.tb with closed := true }, pow := { s.closeCores.pow with parkSent := s.parksAt (s.bound + s.period) } }
      allDies.foldl (State.closeDie (s.bound + s.period) s2.selectDue.1 (s.parksAt (s.bound + s.period))) s2.selectDue.2)) ∧
    (∀ (s : State), s.started = true → s.tb.framesOn = true → s.tb.closed = true → s.bound + s.period ≤ s.now →
      (s.showUsedAll.frameDone.commitStagedAll (s.bound + s.period)).pow.parkSent = false →
      exec (.frameBoundary) s = .next ((s.showUsedAll.frameDone.commitStagedAll (s.bound + s.period)).nextFrame (s.bound + s.period))) ∧
    (∀ (s : State) (d : Die) (w : DieWrite) (b : Nat) (s1 : State), s.popDown d = some (.staged w b, s1) → s1.now + 1600 ≤ b →
      exec (.stagedWriteArrival d) s = .next (s1.holdWrite d w b)) ∧
    (∀ (s : State) (d : Die) (c : CloseMsg) (s1 : State), s.popDown d = some (.close c, s1) → s1.now + 1600 ≤ c.bound → s1.dieNow d ≤ c.bound →
      exec (.frameCloseMessage d) s = .next (s1.setLink d { s1.link d with close := some c })) ∧
    (∀ (s : State) (d : Die) (c : CloseMsg), (s.link d).close = some c → c.bound ≤ s.dieNow d → s.domReady d = true → c.only = false →
      exec (.dieBoundaryApply d) s = .next ((s.setLink d { s.link d with close := none }).boundaryAwake d c))

/-- A crystal failure clears XTALOK, counts, and takes a CRYSTAL or SYNCED time base to DEGRADED; STARTING that lasts 10 ms ends in DEGRADED with STARTT 0xFFFF; DEGRADED is left for CRYSTAL at a frame boundary where the return is due; the buses and the access engine follow each change. An access to a sleeping die demands its wake and stalls. -/
def Obligations.DegradedCommands : Prop :=
    (∀ (s : State), s.flag Reg.TIME_STATE.XTALOK = true → s.tbSt = .crystal ∨ s.tbSt = .synced →
      exec (.crystalFail) s = .next ((({ (s.wr Reg.TIME_STATE.XTALOK 0).count Reg.TIME_XTAL.FAILS 1 with tb := { s.tb with crystalSince := none } } : State).setTb .degraded).timeFollow s.tbSt)) ∧
    (∀ (s : State), s.started = true → s.tbSt = .starting → s.tb.startTick + 2000000 ≤ s.now →
      exec (.startingTimeout) s = .next (((s.wr Reg.TIME_XTAL.STARTT 0xFFFF).setTb .degraded).timeFollow .starting)) ∧
    (∀ (s : State), s.tb.framesOn = true → s.returnDue s.bound = true → s.bound ≤ s.now →
      exec (.degradedReturn) s = .next ((s.setTb .crystal).timeFollow s.tbSt)) ∧
    (∀ (s : State) (d : Die), s.started = true → s.asleep d = true → s.domReady d = false →
      exec (.domainDemandWake d) s = .next (let s2 := (s.stallFrom d).wr Reg.PWR_STAT.SLP (clearBitOf (s.rd Reg.PWR_STAT.SLP) (dieNum d))
      { s2 with pow := { s2.pow with demanded := dieNum d :: s2.pow.demanded } }))

/-- PWR_VOTE and PWR_CTL set and clear VOTEH; PWR_STATUS returns the eight words from 0x01000; PWR_TIMER writes the wake timer; a device reset stops die L and boots it again with its cause, and one that comes after the last boundary cuts the bus frames, stops the host interface and drops the events and reports that wait; a die without frame boundaries for its limp time enters limp, gives its units their limp states, raises 0x20 and takes a RUN device to LIMP. -/
def Obligations.VoteAndResetCommands : Prop :=
    (∀ (s : State) (t : Nat) (o : HostOp), s.opReady t 0x70 = some o → o.fld 16 1 = 1 →
      exec (.pwrVote t) s = .next ((s.voteHost true).complete t St.ok 0 s.now)) ∧
    (∀ (s : State) (t : Nat) (o : HostOp), s.opReady t 0x70 = some o → o.fld 16 1 = 2 →
      exec (.pwrVote t) s = .next ((s.voteHost false).complete t St.ok 0 s.now)) ∧
    (∀ (s : State) (t : Nat) (o : HostOp), s.opReady t 0x71 = some o →
      exec (.pwrStatus t) s = .next (s.complete t St.ok 0 0 ((List.range 8).flatMap (fun i => leBytes 4 (s.readWord (0x01000 + 4 * i)).toNat)))) ∧
    (∀ (s : State) (t : Nat) (o : HostOp), s.opReady t 0x72 = some o →
      exec (.pwrTimer t) s = .next ((s.wr Reg.PWR_TIMER.SEC (o.fld 20 4)).complete t St.ok)) ∧
    (∀ (s : State), s.started = true → exec (.pwrCtlVotePark) s = .next (s.wr Reg.PWR_STAT.VOTEH 1)) ∧
    (∀ (s : State), s.started = true → exec (.pwrCtlVoteWithdraw) s = .next (s.wr Reg.PWR_STAT.VOTEH 0)) ∧
    (∀ (s : State) (mgp : Bool) (pass : List Bool), s.started = true → s.pow.lastBound = none →
      exec (.deviceReset mgp pass) s = .next (s.accPark.stopL.boot (if mgp then 2 else 1) 0 pass)) ∧
    (∀ (s : State) (mgp : Bool) (pass : List Bool), s.started = true → s.pow.lastBound.isSome = true →
      exec (.deviceReset mgp pass) s = .next ({ s.busesCut.hostStop with pow := { s.busesCut.hostStop.pow with forcedDue := false }, evr := { s.busesCut.hostStop.evr with queue := [], discards := 0 } })) ∧
    (∀ (s : State) (d : Die), (s.ana d).ready = true → (s.ana d).params = true → (s.link d).limp = false →
      (s.link d).lastBoundary + s.limpAfter d ≤ s.dieNow d →
      exec (.limpEntry d) s = .next (let s1 := ((s.setLink d { s.link d with limp := true }).limpUnits d (s.dieNow d)).raiseD d (0x0D01 + dieNum d) 0x20 (s.dieNow d)
      if s1.started ∧ s1.power = Pw.run then s1.powerGo Pw.limp s1.now else s1))

/-- The first supply reads the MGP straps and starts a wake with POR; TKR_WAKE, TAMPER and a matching MGP address ask for a wake in PARK and latch one from the last boundary to PARK entry, and TAMPER alarms; a park timer that is due asks in PARK, an input poll does where an input meets its wake condition, and a CAN frame or pattern that a controller waits for asks or latches; a source that asks starts the wake: the candle seconds are shown, the wake timer is cleared, WAKING begins with that source, and the rails are to be requested from rail 0; DIE_L_READY with the three rails on boots die L; a failed start is tried again with RETRY. -/
def Obligations.WakeCommands : Prop :=
    (∀ (s : State) (k : Nat), 20000 ≤ k → s.pow.supplied = true → s.power = Pw.park →
      exec (.tkrWake k) s = .next ({ s with pow := { s.pow with heldSrc := orBits s.pow.heldSrc 0x08 } })) ∧
    (∀ (s : State) (k : Nat), 20000 ≤ k → s.pow.supplied = true → s.power ≠ Pw.park → s.pow.lastBound.isSome = true →
      exec (.tkrWake k) s = .next ({ s with pow := { s.pow with latched := orBits s.pow.latched 0x08 } })) ∧
    (∀ (s : State) (k : Nat), 2000 ≤ k → s.pow.supplied = true →
      exec (.tamper k) s = .next ((if s.power = Pw.park then (s.alarm 2 5).latchEvent 0x0D8A else s.alarm 2 5).wakeBy 0x10)) ∧
    (∀ (s : State) (a : Nat), a = 0x58 + s.pow.straps → s.pow.supplied = true → s.power = Pw.park →
      exec (.mgpAddressMatch a) s = .next ({ s with pow := { s.pow with heldSrc := orBits s.pow.heldSrc 0x20 } })) ∧
    (∀ (s : State) (a : Nat), a = 0x58 + s.pow.straps → s.pow.supplied = true → s.power ≠ Pw.park → s.pow.lastBound.isSome = true →
      exec (.mgpAddressMatch a) s = .next ({ s with pow := { s.pow with latched := orBits s.pow.latched 0x20 } })) ∧
    (∀ (s : State), s.timerDue = true → s.pow.supplied = true → s.power = Pw.park →
      exec (.parkTimerWake) s = .next ({ s with pow := { s.pow with heldSrc := orBits s.pow.heldSrc 0x40 } })) ∧
    (∀ (s : State) (v : List Nat), s.pow.supplied = true → s.power = Pw.park → s.pow.lastPoll + s.rd Reg.INP_PARK.PPER * 2000000 ≤ s.pow.candle →
      exec (.parkPoll v) s = .next (let r := (List.range 40).foldl (pollOne v) ([], { s with pow := { s.pow with lastPoll := s.pow.candle } })
      match r.1 with
      | [] => r.2
      | n :: ns =>
        let s1 := (n :: ns).foldl State.wakeMap r.2
        ({ s1 with pow := { s1.pow with wakeInput := if bitOf s1.pow.heldSrc 0 then s1.pow.wakeInput else some n } } : State).wakeBy 0x01)) ∧
    (∀ (s : State) (c : Nat) (f : CanFrame) (g : Bool), c < 2 → s.wakeable = true →
      exec (.canWakeFrame c f g) s = .next (let s1 := if s.flag (Reg.CAN_SWCFG.SWEN c) then s.swFrame c f g else s
      if g ∧ s.power ≠ Pw.park ∧ s.flag (Reg.CAN_SWCFG.WUPEN c) then s1.wakeBy (2 * 2 ^ c) else s1)) ∧
    (∀ (s : State) (c : Nat), c < 2 → s.wakeable = true → s.flag (Reg.CAN_SWCFG.SWEN c) = false → s.flag (Reg.CAN_SWCFG.WUPEN c) = true →
      exec (.canWakePattern c) s = .next (((s.raiseFlag (Reg.CAN_SWSTAT.WUP c)).wr (Reg.CAN_SWSTAT.ERRCNT c) (min 63 (s.canC c).swErr)).wakeBy (2 * 2 ^ c))) ∧
    (∀ (s : State), s.pow.supplied = true → s.power = Pw.park → s.pow.heldSrc ≠ 0 →
      exec (.wakeStart) s = .next (let s1 := ((s.setWord Reg.PWR_PARKT.SEC.off (BitVec.ofNat 32 s.pow.candleSec)).setWord Reg.PWR_TIMER.SEC.off 0#32).wr Reg.PWR_STAT.STATE Pw.waking
      { s1 with pow := { s1.pow with
          waking := true, src := s.pow.heldSrc, attempt := 0, heldSrc := 0, latched := 0, retryAt := none, goal := .on, rail := 0, sends := 0, railsOn := []
          dieFailed := 0, demanded := [], lost := [], onAt := [(0, some s.pow.candle), (1, some s.pow.candle), (2, some s.pow.candle)] } })) ∧
    (∀ (s : State), s.pow.supplied = true → s.power = Pw.park → s.pow.heldSrc ≠ 0 →
      exec (.wakeVoltageOk) s = .next (let s1 := ((s.setWord Reg.PWR_PARKT.SEC.off (BitVec.ofNat 32 s.pow.candleSec)).setWord Reg.PWR_TIMER.SEC.off 0#32).wr Reg.PWR_STAT.STATE Pw.waking
      { s1 with pow := { s1.pow with
          waking := true, src := s.pow.heldSrc, attempt := 0, heldSrc := 0, latched := 0, retryAt := none, goal := .on, rail := 0, sends := 0, railsOn := []
          dieFailed := 0, demanded := [], lost := [], onAt := [(0, some s.pow.candle), (1, some s.pow.candle), (2, some s.pow.candle)] } })) ∧
    (∀ (s : State) (a1 a0 : Bool), s.pow.supplied = false →
      exec (.powerOn a1 a0) s = .next (({ s with pow := { s.pow with supplied := true, candle := 0, straps := 2 * b2n a1 + b2n a0 } } : State).startWake 0x80 0)) ∧
    (∀ (s : State) (pass : List Bool), s.pow.supplied = true → s.power = Pw.waking → s.now = 0 → s.pow.goal = .rest → s.pow.railsOn.length = 3 →
      exec (.dieLReady pass) s = .next (s.boot 0 (if s.pow.waking then s.pow.candleSec else 0) pass)) ∧
    (∀ (s : State) (k : Nat), s.pow.retryAt = some k → s.power = Pw.park → k ≤ s.pow.candle →
      exec (.wakeRetry) s = .next (let s1 := ((s.setWord Reg.PWR_PARKT.SEC.off (BitVec.ofNat 32 s.pow.candleSec)).setWord Reg.PWR_TIMER.SEC.off 0#32).wr Reg.PWR_STAT.STATE Pw.waking
      { s1 with pow := { s1.pow with
          waking := true, src := orBits s.pow.src 0x100, attempt := s.pow.attempt + 1, heldSrc := 0, latched := 0, retryAt := none, goal := .on, rail := 0, sends := 0, railsOn := []
          dieFailed := 0, demanded := [], lost := [], onAt := [(0, some s.pow.candle), (1, some s.pow.candle), (2, some s.pow.candle)] } }))

/-- A rail request is sent under the next sequence number, repeated at its times and ended by its acknowledgement; without one 32 ms after the first sending the wake fails, or the park with its event, and PARKFAIL stays for the next start; a main domain that becomes ready is shown, gets its parameters and lets what stalled on it go on, and one that does not within 1 ms or 40 us fails; a shutdown report is made; PARK is entered when the rails are off, and a latched wake starts at once; a lost rail stops die L and asks for the rails again; a power die reset takes the die and its positions; a candle reset takes all that the candle domain held; the management port resets, and reads the status. -/
def Obligations.RailAndDomainCommands : Prop :=
    (∀ (s : State), s.parkDue = false → s.pow.goal ≠ .rest → s.pow.sends = 0 →
      exec (.rqbRequest) s = .next (let p : Power := { s.pow with seqno := (s.pow.seqno + 1) % 16, sentAt := s.pow.candle, sends := 1 }
      ({ s with pow := p } : State).emit (.rqb p.word))) ∧
    (∀ (s : State), s.pow.goal ≠ .rest → 1 ≤ s.pow.sends → s.pow.sends ≤ 3 → s.pow.sentAt + resendAt s.pow.sends ≤ s.pow.candle →
      exec (.rqbRetry) s = .next (({ s with pow := { s.pow with sends := s.pow.sends + 1 } } : State).emit (.rqb s.pow.word))) ∧
    (∀ (s : State) (st : Byte), s.pow.goal ≠ .rest → s.pow.sends ≠ 0 → s.pow.sentAt + 20000 ≤ s.pow.candle → s.pow.acked st.toNat = true →
      exec (.rqbStatusRead st) s = .next ({ s with pow := s.pow.railDone })) ∧
    (∀ (s : State), s.pow.sends ≠ 0 → s.pow.sentAt + 6400000 ≤ s.pow.candle → s.pow.goal = .on →
      exec (.regFail) s = .next (let s1 := ((s.pow.railsOn.reverse.foldl State.rqbOffOnce s).regFailed).latchEvent 0x0D81 s.pow.rail s.pow.attempt
      let s2 := if 8 ≤ s.pow.attempt then s1.latchEvent 0x0D82 else s1
      let s3 := if (s.ana .p0).params || (s.ana .p1).params then s2.candleTakes else s2
      let s4 := s3.diesOff.toPark
      { s4 with pow := { s4.pow with wakeFailed := true, waking := false, epoch := false, railsOn := [], onAt := [], lost := []
                                     retryAt := if 8 ≤ s.pow.attempt then none else some (s4.pow.candle + 200000000) } })) ∧
    (∀ (s : State), s.pow.sends ≠ 0 → s.pow.sentAt + 6400000 ≤ s.pow.candle → s.pow.goal = .off →
      exec (.regFail) s = .next (let s1 := (s.regFailed).latchEvent 0x0D87 s.pow.rail
      { s1 with pow := { s1.pow with parkFailed := true } })) ∧
    (∀ (s : State) (d : Die), s.domainComing d = true → s.started = true →
      exec (.domainReady d) s = .next ((s.stallsOf d).foldl State.goesOn ((((s.domainUp d).sendActive d).sendSwap d).resendCommands d |>.unstall d))) ∧
    (∀ (s : State) (d : Die) (k : Nat), s.domainOn d = some k → s.domReady d = false → k + 200000 ≤ s.pow.candle → s.started = true →
      exec (.domainStartTimeout d) s = .next ({ s.domainFail d with pow := { (s.domainFail d).pow with onAt := SMap.set (fun _ => none) (s.domainFail d).pow.onAt (dieNum d) (some (k + 200000000)) } })) ∧
    (∀ (s : State) (d : Die) (k : Nat), SMap.get (fun _ => none) s.pow.stallAt (dieNum d) = some k → k + 8000 ≤ s.now →
      exec (.domainStallTimeout d) s = .next (((s.stallsOf d).foldl State.stallFails (s.unstall d)).domainFail d)) ∧
    (∀ (s : State) (r k : Nat), s.started = true → s.pow.lastBound = none → 2000 ≤ k → r < 3 →
      exec (.railLoss r k) s = .next (let s1 := (s.accPark.stopL.latchEvent 0x0D88 r).wr Reg.PWR_STAT.STATE Pw.waking
      { s1 with pow := { s1.pow with railLost := setBitOf s1.pow.railLost r, goal := .on, rail := 0, sends := 0, railsOn := [],
                                     attempt := if s1.pow.waking then s1.pow.attempt else 0 } })) ∧
    (∀ (s : State), s.pow.parking = true → s.pow.goal = .rest →
      exec (.parkEntry) s = .next (let s2 : State := { s.toPark with pow := { s.toPark.pow with parking := false, lastBound := none } }
      if s2.pow.latched ≠ 0 then s2.startWake 0x200 0 else s2)) ∧
    (∀ (s : State), s.started = true → s.pow.forcedDue = true →
      exec (.shutdownTimeout) s = .next (let s1 := ((s.raiseFlag Reg.PWR_ERR.FORCED).raiseL 0x0D00 0x24 s.now).event 0x0D85 s.now
      { s1 with pow := { s1.pow with forcedDue := false } })) ∧
    (∀ (s : State) (d : Die) (v : Nat), v < 300 → s.domReady d = true ∨ s.asleep d = true →
      exec (.powerDieReset d v) s = .next (let s1 := if s.started then s.lossOfLock d else s
      let s2 := (s1.dieOff d).posLost d
      { s2 with pow := { s2.pow with lost := dieNum d :: s2.pow.lost.filter (fun j => decide (j ≠ dieNum d)),
                                     onAt := SMap.set (fun _ => none) s2.pow.onAt (dieNum d) (some s2.pow.candle) } })) ∧
    (∀ (s : State) (mv : Nat), s.pow.supplied = true → mv < 2500 →
      exec (.candleReset mv) s = .next (let s1 := candleWords.foldl (fun s k => s.setWord k (resetWord k)) (allDies.foldl State.posLost ((s.accCandleLost.diesOff).stopL))
      { s1 with pow := {}, inp := [] })) ∧
    (∀ (s : State) (pass : List Bool), s.mgpServed = true → exec (.mgpReset 0x5A pass) s = .next (s.deviceReset 2 pass)) ∧
    (∀ (s : State), s.mgpServed = true →
      exec (.mgpStatus) s = .next (s.emit (.mgp (leBytes 2 ((s.readWord Reg.PWR_STAT.STATE.off).toNat % 65536) ++ leBytes 2 (s.rd Reg.PWR_WAKE.SRC))))) ∧
    (∀ (s : State) (c : Nat), exec (.mgpDebug c) s = .next s)

/-- A ready die enters UV, OV or GNDSHIFT, unless it is in that state or in one higher in the table, when ten samples in a row meet its condition, as of the tenth; it leaves when the condition of the exit has held for 1 ms. -/
def Obligations.SupplyCommands : Prop :=
    (∀ (s : State) (d : Die), (s.ana d).ready = true → holdsOff (s.ana d).sup.st = false → 10 ≤ (s.ana d).sup.uvRun →
      exec (.supplyUvEntry d) s = .next (s.enterHeld d .uv (s.tenth d (s.ana d).sup.uvRun))) ∧
    (∀ (s : State) (d : Die) (k : Nat), (s.ana d).sup.uvOk = some k → (s.ana d).ready = true → (s.ana d).sup.st = .uv → k + 200000 ≤ s.dieNow d →
      exec (.supplyUvExit d) s = .next (s.leaveSup d (k + 200000))) ∧
    (∀ (s : State) (d : Die), (s.ana d).ready = true → holdsOff (s.ana d).sup.st = false → (s.ana d).sup.st ≠ .ov → 10 ≤ (s.ana d).sup.ovRun →
      exec (.supplyOvEntry d) s = .next (s.enterOv d (s.tenth d (s.ana d).sup.ovRun))) ∧
    (∀ (s : State) (d : Die) (k : Nat), (s.ana d).sup.ovOk = some k → (s.ana d).ready = true → (s.ana d).sup.st = .ov → k + 200000 ≤ s.dieNow d →
      exec (.supplyOvExit d) s = .next (s.leaveSup d (k + 200000))) ∧
    (∀ (s : State) (d : Die), (s.ana d).ready = true → (s.ana d).sup.st ≠ .gndshift → 10 ≤ (s.ana d).sup.gsRun →
      exec (.gndshiftEntry d) s = .next (s.enterHeld d .gndshift (s.tenth d (s.ana d).sup.gsRun))) ∧
    (∀ (s : State) (d : Die) (k : Nat), (s.ana d).sup.gsOk = some k → (s.ana d).ready = true → (s.ana d).sup.st = .gndshift →
      k + 200000 ≤ s.dieNow d → exec (.gndshiftExit d) s = .next (s.leaveSup d (k + 200000)))

/-- An enabled channel that conducts at tick t, or did until its trip of that tick, is protected at that tick: the full overload filter with the stamp of its last sample; the short comparator at a current above ISHORT by more than the bound of its free error; the drain-source comparator of a PD channel after the blanking, while the gate is on, at a voltage above VDSTH by more than its bound. A junction of 180 C or above sets a channel's ember latch: a conducting channel trips, a snuffed one notes the cause, one in RETRY_WAIT enters EMBER, any other reports; at 150 C or below, 1 ms later, the latch releases, and EMBER goes to RETRY_WAIT while held or delayed, else turns on. The array latch sets with its raise and takes its lit and fading sinks to THERMAL; its release takes each as its timeline has it. A snuffed channel decides 10,000 ticks after its trip stamp; a retry turns on when its delay has run and no wick hold stands; the retry count refills after REFILL of conduction. -/
def Obligations.ChannelTripCommands : Prop :=
    (∀ (s : State) (u : Nat), s.chEnabled u = true → s.chConducts u = true → s.rd (Reg.CH_OC.TOVL u) * 10 ≤ (s.chan u).ovlRun →
      (s.chan u).ovlRun ≠ 0 → exec (.overloadTrip u) s = .next (s.protect u Cause.ovl (s.chan u).ovlStamp)) ∧
    (∀ (s : State) (u cur : Nat), s.chEnabled u = true → s.protects u (s.chNow u) = true → s.rd (Reg.CH_OC.ISHORT u) * 270000 < cur * 1000 →
      exec (.shortComparatorTrip u cur) s = .next (s.protect u Cause.short (s.chNow u))) ∧
    (∀ (s : State) (u v : Nat), 48 ≤ u → s.chEnabled u = true → s.protects u (s.chNow u) = true →
      (if s.trippedAt u (s.chNow u) then (s.chan u).wasOn else (s.chan u).on) = true →
      (s.chan u).edge + s.rd (Reg.PDRV_SENSE.VDSBLK (u - 48)) * 20 ≤ s.chNow u →
      s.rd (Reg.PDRV_SENSE.VDSTH (u - 48)) * 20 + s.rd (Reg.PDRV_SENSE.VDSTH (u - 48)) * 2 + 30 < v →
      exec (.vdsTrip u v) s = .next (s.protect u Cause.vds (s.chNow u))) ∧
    (∀ (s : State) (u : Nat) (tj : Int) (ts : Nat), s.chEnabled u = true → s.flag (Reg.CH_STAT.EMBER u) = false → 2880 ≤ tj →
      exec (.emberSet (.chan u) tj ts) s = .next (let t := s.chNow u
      let s1 := (s.wr (Reg.CH_STAT.EMBER u) 1).setChan u { s.chan u with emberAt := some t }
      if s.protects u t then s1.protect u Cause.ember t
      else match s.chSt u with
        | .snuffed => (s1.noteCause u Cause.ember t).reportChan u t
        | .retryWait => s1.enter u .ember t
        | _ => s1.reportChan u t)) ∧
    (∀ (s : State) (tj : Int) (ts : Nat), s.flag Reg.LED_GSTAT.EMBER = false → 2880 ≤ tj →
      exec (.emberSet .array tj ts) s = .next (let t := s.vNow
      let s0 : State := { s with ledArr := { s.ledArr with emberAt := some t } }
      let s1 := (s0.wr Reg.LED_GSTAT.EMBER 1).raiseD .v 0x0530 0x04 t
      ((List.range 48).filter (fun n => s.lEnabled n && (decide (s.lSt n = .lit) || decide (s.lSt n = .fading)))).foldl (fun s n => s.ledEnter n .thermal t) s1)) ∧
    (∀ (s : State) (u : Nat) (tj : Int) (ts e : Nat), s.chEnabled u = true → s.flag (Reg.CH_STAT.EMBER u) = true → (s.chan u).emberAt = some e →
      e + 200000 ≤ s.chNow u → tj ≤ 2400 → s.rd (Reg.PDRV_TS.RELV (u - 48)) ≤ ts ∨ u < 48 →
      exec (.emberRelease (.chan u) tj ts) s = .next (let t := s.chNow u
      let s1 := (s.wr (Reg.CH_STAT.EMBER u) 0).setChan u { s.chan u with emberAt := none }
      match s.chSt u with
      | .ember => if s.flag (Reg.CH_STAT.WHOLD u) || !s.delayElapsed u t then s1.enter u .retryWait t else s1.turnOn u t
      | _ => s1.reportChan u t)) ∧
    (∀ (s : State) (tj : Int) (ts e : Nat), s.ledArr.emberAt = some e → e + 200000 ≤ s.vNow → tj ≤ 2400 →
      exec (.emberRelease .array tj ts) s = .next (let t := s.vNow
      let s0 : State := { s with ledArr := { s.ledArr with emberAt := none } }
      ((List.range 48).filter (fun n => s.lEnabled n && decide (s.lSt n = .thermal))).foldl (fun s n =>
        let x := s.ledPos n t
        let s1 := if s.fadeOver n t then (s.setSink n { s.sink n with fade := none }).setLedPos n x else s.setLedPos n x
        s1.ledEnter n (s1.ledRunSt n) t) (s0.wr Reg.LED_GSTAT.EMBER 0))) ∧
    (∀ (s : State) (u : Nat), s.chEnabled u = true → s.chSt u = .snuffed → s.rd64 (Reg.CH_TRIPT.T u) + 10000 ≤ s.chNow u →
      exec (.snuffEnd u) s = .next (s.decideTrip u (s.rd64 (Reg.CH_TRIPT.T u) + 10000))) ∧
    (∀ (s : State) (u : Nat), s.chEnabled u = true → s.chSt u = .retryWait → s.delayElapsed u (s.chNow u) = true →
      s.flag (Reg.CH_STAT.WHOLD u) = false → exec (.retryDue u) s = .next (s.turnOn u (s.chNow u))) ∧
    (∀ (s : State) (u c : Nat), (s.chan u).condSince = some c → s.chEnabled u = true → s.chConducts u = true →
      c + s.rd (Reg.CH_RETRY.REFILL u) * 20000000 ≤ s.chNow u →
      exec (.retryRefill u) s = .next (let e := c + s.rd (Reg.CH_RETRY.REFILL u) * 20000000
      (((s.wr (Reg.CH_STAT.RETRYLEFT u) (s.rd (Reg.CH_RETRY.MAX u))).wr (Reg.CH_STAT.TRIPPED u) 0).setChan u { s.chan u with condSince := some e }).reportChan u e))

/-- At each multiple of 20,000 ticks a power die takes its wick step, after the wait of the step before and the window that ends there: each channel in the model steps, and the sums and bundle nodes go to the other die. A bundle message that comes in time completes the step, one for a later step is kept for it, a late one becomes the last sums; without one for 1,000 ticks the last sums are used and LOST sets. An inrush window that is not suspended ends at its end; at each start of the soft-start ramp the carrier is taken and the gate follows. The seventh low sample in a row is a droop: open-load tests stop; unless an earlier notice owns it the die freezes V_c, suspends its windows and sends its notice as owner, with cause and affected channel. A notice is ignored where this die's own droop is the earlier, takes that droop over where it is not, else starts the other die's; an end notice, or the cap of 1,000,000 ticks, ends the suspension; the freeze ends at its tick; a droop of 65,535 us is recorded. An open-load test starts on its grid in OFF, outside a droop, in a NORMAL supply, and after 240,000 ticks gives its result. -/
def Obligations.LampCommands : Prop :=
    (∀ (s : State) (d : Die), d ≠ .v → (s.ana d).ready = true → (s.ana d).params = true → s.dieNow d % 20000 = 0 → (s.ana d).wickTick ≠ s.dieNow d →
      exec (.wickStep d) s = .next (let t := s.dieNow d
      let s0 := (s.bundleTimeout d).windowEnd d
      let sums := s0.dieSums d
      let s1 := s0.setAna d { s0.ana d with wickTick := t, wickWait := true, ownSums := sums }
      let m := PpMsg.bundle (t / 20000) sums ((List.range 16).map (fun g => s0.tbOf d g)) t
      let s2 := if d = .p0 then { s1 with ppTo1 := s1.ppTo1 ++ [m] } else { s1 with ppTo0 := s1.ppTo0 ++ [m] }
      (((chansOf d).filter (fun u => s0.wickIn u)).foldl (fun s u => s.wickChan u t) s2).bundleEarly d)) ∧
    (∀ (s : State) (d : Die) (k : Nat) (sums tbs : List Rat) (sent : Nat) (q : List PpMsg), d ≠ .v → s.ppQueue d = .bundle k sums tbs sent :: q →
      exec (.bundleNodeMessage d) s = .next (let s1 := (s.setPpQueue d q).ppLate d sent
      let a := s1.ana d
      if a.wickWait ∧ a.wickTick / 20000 = k ∧ s1.dieNow d ≤ a.wickTick + 1000 then
        (if a.ppLost then s1.bundleResume d tbs else s1).bundleCompute d sums
      else if a.wickTick / 20000 < k then s1.setAna d { a with early := some (k, sums, tbs) }
      else s1.setAna d { a with otherSums := sums })) ∧
    (∀ (s : State) (d : Die), d ≠ .v → (s.ana d).wickWait = true → (s.ana d).wickTick + 1000 ≤ s.dieNow d →
      exec (.bundleMessageTimeout d) s = .next (((s.setAna d { s.ana d with ppLost := true }).raiseFlag Reg.HSW_LINK.LOST).bundleCompute d (s.ana d).otherSums)) ∧
    (∀ (s : State) (u : Nat), s.chEnabled u = true → s.chSt u = .inrush → (s.chan u).winSusp = 0 → (s.chan u).winEnd ≤ s.chNow u →
      exec (.inrushWindowEnd u) s = .next (s.enter u (s.appliedSt u) (s.chan u).winEnd)) ∧
    (∀ (s : State) (u : Nat), s.chEnabled u = true → s.chSt u = .inrush → 1 ≤ (s.chan u).winSoft → (s.chan u).tOn ≤ s.chNow u →
      (s.chNow u - (s.chan u).tOn) % 20000 = 0 → (s.chNow u - (s.chan u).tOn) / 20000 ≤ (s.chan u).winSoft →
      exec (.softStartCarrier u) s = .next (let s1 := if (s.chNow u - (s.chan u).tOn) / 20000 < (s.chan u).winSoft then s.takeCarrier u (s.chNow u) else s
      s1.gate u (s.chNow u))) ∧
    (∀ (s : State) (d : Die), d ≠ .v → 7 ≤ (s.ana d).droop.run → (s.ana d).droop.detected = false →
      exec (.droopDetected d) s = .next (let a := s.ana d
      let r := a.droop
      let det := r.stamp + 1200
      let s2 := (chansOf d).foldl (fun s u => s.setChan u { s.chan u with olStart := none }) s
      let first := match a.noticed with
        | some st => noticeOwns d r.stamp st
        | none => false
      if first then s2.setAna d { a with droop := { r with detected := true, detTick := det } }
      else
        let s1 := ((s.suspendable d det).filter (fun u => decide ((s.chan u).winSusp = 0))).foldl (fun s u => s.setChan u { s.chan u with winSusp := 1 }) s2
        let own := { r with detected := true, detTick := det, owner := true, cause := s.causeChan d r.stamp det, affected := s.affectedChan d }
        let s3 := s1.setAna d { freezeOf a (s.dieNow d) r.vfAt det with droop := own, ownLast := some r.stamp }
        let m := PpMsg.droop r.stamp det (s.dieNow d)
        if d = .p0 then { s3 with ppTo1 := s3.ppTo1 ++ [m] } else { s3 with ppTo0 := s3.ppTo0 ++ [m] })) ∧
    (∀ (s : State) (d : Die) (st det sent : Nat) (q : List PpMsg), d ≠ .v → s.ppQueue d = .droop st det sent :: q →
      exec (.droopNotice d) s = .next (let s1 := (s.setPpQueue d q).ppLate d sent
      let a := { s1.ana d with noticed := some st }
      let r := a.droop
      let same := match a.ownLast with
        | some own => sameDroop own st
        | none => false
      let mine := match a.ownLast with
        | some own => !noticeOwns d own st
        | none => false
      if same && mine then s1.setAna d a
      else if same && r.detected && r.owner then
        let a1 := { a with droop := { r with owner := false }, other := some (st, det), frozen := vcBefore a st,
                           freezeFrom := if a.freezeFrom < st then a.freezeFrom else s1.dieNow d, freezeEnd := det + 400000 }
        (s1.setAna d a1).resuspend d det
      else
        let s2 := (s1.suspendable d det).foldl (fun s u => if (s.chan u).winSusp = 0 then s.setChan u { s.chan u with winSusp := 2 } else s) s1
        s2.setAna d { freezeOf a (s1.dieNow d) (vcBefore a st) det with other := some (st, det) })) ∧
    (∀ (s : State) (d : Die) (st e sent : Nat) (q : List PpMsg), d ≠ .v → s.ppQueue d = .droopEnd st e sent :: q →
      exec (.droopEndNotice d) s = .next (let s1 := (s.setPpQueue d q).ppLate d sent
      match (s1.ana d).other with
      | some (st', _) => if st' = st then (s1.extendWindows d 2 e).setAna d { s1.ana d with other := none } else s1
      | none => s1)) ∧
    (∀ (s : State) (d : Die),
      exec (.droopCap d) s = .next (let a := s.ana d
      let s1 := if a.droop.detected && a.droop.owner && !a.droop.capped && decide (a.droop.stamp + 1000000 ≤ s.dieNow d) then
          ((s.extendWindows d 1 1000000).droopEndSend d a.droop.stamp 1000000).setAna d { a with droop := { a.droop with capped := true } }
        else s
      match (s1.ana d).other with
      | some (st, _) => if st + 1000000 ≤ s.dieNow d then (s1.extendWindows d 2 1000000).setAna d { s1.ana d with other := none } else s1
      | none => s1)) ∧
    (∀ (s : State) (d : Die), (s.ana d).freezeEnd ≠ 0 → (s.ana d).freezeEnd ≤ s.dieNow d →
      exec (.droopFreezeEnd d) s = .next (s.setAna d { s.ana d with freezeEnd := 0 })) ∧
    (∀ (s : State) (d : Die), (s.ana d).droop.detected = true → (s.ana d).droop.owner = true → (s.ana d).droop.recorded = false →
      (s.ana d).droop.stamp + 13107000 ≤ s.dieNow d → exec (.droopRecordLimit d) s = .next (s.droopRecord d 13107000)) ∧
    (∀ (s : State) (u : Nat), s.chEnabled u = true → s.flag (Reg.CH_CFG.OLEN u) = true → s.chSt u = .off →
      s.rd (if u < 48 then Reg.HSW_OL.TPER u else Reg.PDRV_OL.TPER (u - 48)) ≠ 0 →
      s.chNow u % (s.rd (if u < 48 then Reg.HSW_OL.TPER u else Reg.PDRV_OL.TPER (u - 48)) * 2000000) = 0 → (s.chan u).offSince + 400000 ≤ s.chNow u →
      (s.ana (chanDie u)).droop.detected = false → (s.chan u).olStart = none → (s.ana (chanDie u)).sup.st = .normal →
      exec (.openLoadTestStart u) s = .next (s.setChan u { s.chan u with olStart := some (s.chNow u), olN1 := 0, olS1 := 0, olN2 := 0, olS2 := 0 })) ∧
    (∀ (s : State) (u b : Nat), (s.chan u).olStart = some b → s.chEnabled u = true → b + 240000 ≤ s.chNow u →
      exec (.openLoadTestEnd u) s = .next (let c := s.chan u
      let th : Int := s.rd (if u < 48 then Reg.HSW_OL.VTH u else Reg.PDRV_OL.VTH (u - 48)) * 10
      let sb := meanAbove c.olS1 c.olN1 (th + clampInt (-50) 50 (Config.olError u (2 * b)))
      let ol := !sb && meanAbove c.olS2 c.olN2 (th + clampInt (-50) 50 (Config.olError u (2 * b + 1)))
      s.olResult u (b + 240000) sb ol))

/-- A ready die takes a sample set once at each microsecond of its counter, a window that ends there being closed first: its supply voltage and ground shift, then its channels, motors, and on die V its valves, banks, sinks and boost rail. A sensing window ends every 50 us. Every 1 ms an enabled unit sends what it feeds back: junction and case temperatures, bundle temperatures, motor, valve and bank currents, the boost rail, a measured sink voltage, an input voltage of 12 bits over 0 to 45 V. A unit entry that is fed every 10 ms and has not been updated for 2,000,000 ticks is sent again with its stamp advanced by as much, by its die, or by die L where no die feeds it. -/
def Obligations.SensingCommands : Prop :=
    (∀ (s : State) (d : Die) (x : Samples), (s.ana d).ready = true → s.dieNow d % 200 = 0 → (s.ana d).lastSample ≠ s.dieNow d →
      exec (.senseSample d x) s = .next (let t := s.dieNow d
      let s1 := (if s.windowDue d t then s.windowAt d t else s).vbatSample d t x
      let s2 := (x.chans.filter (fun y => decide (chanDie y.u = d))).foldl (fun s y => s.chanSample t y) s1
      let s3 := (x.motors.filter (fun y => decide (motorDie y.m = d))).foldl (fun s y => s.motorSample t y) s2
      if d = .v then
        let s4 := x.valves.foldl (fun s y => s.valveSample t y) s3
        let s5 := x.banks.foldl (fun s y => s.bankSample y) s4
        (x.leds.foldl (fun s y => s.ledSample t y) s5).boostSample t x.rail
      else s3)) ∧
    (∀ (s : State) (d : Die), (s.ana d).ready = true → s.dieNow d % 10000 = 0 → (s.ana d).lastWindow ≠ s.dieNow d →
      exec (.sensingWindowEnd d) s = .next (s.windowAt d (s.dieNow d))) ∧
    (∀ (s : State) (u : Nat) (x : Int), s.chEnabled u = true → s.fbTick (chanDie u) = true →
      exec (.periodicFeedback (.chanTj u) x) s = .next ((s.wr (Reg.CH_MEAS1.TJ u) (fieldOfInt 16 x)).unitD (chanDie u) (chanEntry u + 4) x (s.dieNow (chanDie u)) (chanSrc u))) ∧
    (∀ (s : State) (u : Nat) (x : Int), s.wickIn u = true → s.fbTick (chanDie u) = true →
      exec (.periodicFeedback (.chanTc u) x) s = .next (s.unitD (chanDie u) (chanEntry u + 5) (signedOf 16 (s.rd (Reg.CH_MEAS1.TC u))) (s.dieNow (chanDie u)) (chanSrc u))) ∧
    (∀ (s : State) (g : Nat) (x : Int), g < 16 → s.groupActive g = true → s.fbTick .p0 = true →
      exec (.periodicFeedback (.bundle g) x) s = .next (s.unitD .p0 (0x700 + g) (signedOf 16 (s.rd (Reg.HSW_BGB.TB g))) (s.dieNow .p0) (0x0130 + g))) ∧
    (∀ (s : State) (m : Nat) (x : Int), s.mEnabled m = true → s.fbTick (motorDie m) = true →
      exec (.periodicFeedback (.motorCur m) x) s = .next (s.unitD (motorDie m) (motorEntry m + 3) (s.motor m).cur (s.dieNow (motorDie m)) (motorSrc m))) ∧
    (∀ (s : State) (n : Nat) (x : Int), s.vEnabled n = true → s.fbTick .v = true →
      exec (.periodicFeedback (.valveCur n) x) s = .next (s.unitD .v (valveEntry n + 2) (s.valve n).cur s.vNow (valveSrc n))) ∧
    (∀ (s : State) (b : Nat) (x : Int), s.bEnabled b = true → s.fbTick .v = true →
      exec (.periodicFeedback (.bankCur b) x) s = .next (s.unitD .v (bankEntry b + 1) (s.bank b).cur s.vNow (bankSrc b))) ∧
    (∀ (s : State) (x : Int), s.fbTick .v = true → exec (.periodicFeedback .boost x) s = .next (s.reportBoost s.vNow)) ∧
    (∀ (s : State) (n : Nat) (x : Int), s.lEnabled n = true → s.fbTick .v = true → (s.sink n).measured = true →
      exec (.periodicFeedback (.ledVsink n) x) s = .next ((s.setSink n { s.sink n with measured := false }).unitD .v (ledEntry n + 2) (s.rd (Reg.LED_MEAS.VSINK n) : Nat) s.vNow (ledSrc n))) ∧
    (∀ (s : State) (n : Nat) (x : Int), s.iEnabled n = true → s.flag (Reg.INP_CFG.ADCEN n) = true → s.fbTick (inputDie n) = true →
      exec (.periodicFeedback (.inputVin n) x) s = .next (let v := (adc12 45000 (max 0 x)).toNat
      (s.wr (Reg.INP_MEAS.VIN n) v).unitD (inputDie n) (inputEntry n + 2) (v : Nat) (s.dieNow (inputDie n)) (inputSrc n))) ∧
    (∀ (s : State) (i : Nat) (a : Attr) (u : Upd) (d : Die), s.attr i = some a → s.lastSent i = some u → a.owner = .unit → a.freshint = 80000 →
      s.resendHeld i = false → entryDie i = some d → u.stamp + 2000000 ≤ s.dieNow d → (s.ana d).ready = true →
      exec (.entryResend i) s = .next (s.sendD d { u with value := s.resendValue i u, stamp := u.stamp + 2000000 })) ∧
    (∀ (s : State) (i : Nat) (a : Attr) (u : Upd), s.attr i = some a → s.lastSent i = some u → a.owner = .unit → a.freshint = 80000 →
      s.resendHeld i = false → entryDie i = none → u.stamp + 2000000 ≤ s.now →
      exec (.entryResend i) s = .next (s.sendL { u with value := s.resendValue i u, stamp := u.stamp + 2000000 }))

/-- A lit, fading or thermal sink's period start takes its position at that tick; a fade that is over ends, into LIT with its report (in THERMAL with a report alone); a sink not in THERMAL takes its duty, its on-time, and the brightness values in force. Sixteen low or good samples set or clear OPEN, sixteen short ones trip a lit or fading sink to SHORTED. Each 10 ms the array's foldback moves one step, the first with its raise. A voltage at an input's pin is read at once by a CONT input and only kept for a PULSED one, which reads at the end of its pulse. A level that is due is accepted, after those of lower inputs of the die due in that tick. Chatter that came is shown and reported with its tick. The low-battery suspension ends 2,000 ticks after the battery came back; a first acceptance still due counts from there, else the level is sent again and a change that waited starts its run. -/
def Obligations.LedAndInputCommands : Prop :=
    (∀ (s : State) (n : Nat), s.lEnabled n = true → (s.ana .v).ready = true → s.ledStarts n s.vNow = true →
      s.lSt n = .lit ∨ s.lSt n = .fading ∨ s.lSt n = .thermal →
      exec (.ledPeriodStart n) s = .next (let t := s.vNow
      let x := s.ledPos n t
      let s1 := s.setLedPos n x
      let s2 := if s.fadeOver n t then s1.setSink n { s1.sink n with fade := none } else s1
      if s.lSt n = .thermal then (if s.fadeOver n t then s2.reportLed n t else s2)
      else
        let k := s2.sink n
        let d := s2.curveDuty k.curve x
        let e := if d = 4095 then t + s.ledPeriod else t + s.ledPeriod * d / 4096
        let s3 := (s2.setSink n { k with
          onUntil := e, edge := if t ≤ k.onUntil ∧ k.edge < t then k.edge else t,
          glob := s.rd Reg.LED_GCFG.GLOBAL, lev := s.rd (Reg.LED_CFG.LEVEL n) }).wr (Reg.LED_MEAS.DUTY n) d
        if s.fadeOver n t then s3.ledEnter n .lit t else s3)) ∧
    (∀ (s : State) (n : Nat), s.lEnabled n = true → s.flag (Reg.LED_STAT.OPEN n) = false → 16 ≤ (s.sink n).openRun →
      exec (.ledOpen n) s = .next (((s.wr (Reg.LED_STAT.OPEN n) 1).faultD .v (ledSrc n) 0x08 s.vNow).reportLed n s.vNow)) ∧
    (∀ (s : State) (n : Nat), s.lEnabled n = true → s.flag (Reg.LED_STAT.OPEN n) = true → 16 ≤ (s.sink n).okRun →
      exec (.ledOpenClear n) s = .next ((s.wr (Reg.LED_STAT.OPEN n) 0).reportLed n s.vNow)) ∧
    (∀ (s : State) (n : Nat), s.lEnabled n = true → s.lSt n = .lit ∨ s.lSt n = .fading → 16 ≤ (s.sink n).shortRun →
      exec (.ledShort n) s = .next (((s.raiseFlag (Reg.LED_STAT.SHORT n)).faultD .v (ledSrc n) 0x01 (s.sink n).shortStamp).ledEnter n .shorted s.vNow)) ∧
    (∀ (s : State) (tj : Int), (s.ana .v).ready = true → s.vNow % 2000000 = 0 → s.ledArr.lastFold ≠ s.vNow →
      exec (.ledFoldbackStep tj) s = .next (let n := foldStep (s.rd Reg.LED_GSTAT.FOLD) tj
      let s1 : State := { (s.wr Reg.LED_GSTAT.FOLD n).wr Reg.LED_GSTAT.TJ (fieldOfInt 16 tj) with ledArr := { s.ledArr with lastFold := s.vNow } }
      if s.rd Reg.LED_GSTAT.FOLD = 0 ∧ n = 1 then s1.faultD .v 0x0530 0x10 s.vNow else s1)) ∧
    (∀ (s : State) (n v : Nat), n < 160 →
      exec (.inputRawEdge n v) s = .next (let s1 := s.setInput n { s.input n with pin := v }
      if s.iRuns n && !s.flag (Reg.INP_CFG.MODE n) then s1.rawAt n v (s.iNow n) else s1)) ∧
    (∀ (s : State) (n v : Nat), s.iRuns n = true → s.flag (Reg.INP_CFG.MODE n) = true → s.iNow n % (s.rd (Reg.INP_PULSE.PER n) * 20000) = 2000 →
      exec (.pulsedWettingRead n v) s = .next (let s1 := (s.setInput n { s.input n with pin := v }).rawAt n v (s.iNow n)
      s1.setInput n { s1.input n with lastRead := s.iNow n })) ∧
    (∀ (s : State) (n t : Nat), s.acceptDue n = some t →
      exec (.debounceAccept n) s = .next ((((inputsOf (inputDie n)).filter (fun m => decide (m < n) && decide (s.acceptDue m = some t))).foldl State.acceptOne s).acceptOne n)) ∧
    (∀ (s : State) (n t : Nat), (s.input n).chatAt = some t →
      exec (.inputChatter n) s = .next (((s.setInput n { s.input n with chatAt := none }).raiseFlag (Reg.INP_STAT.CHAT n)).faultD (inputDie n) (inputSrc n) 0x11 t t)) ∧
    (∀ (s : State) (n k : Nat), (s.input n).lowOk = some k → s.iRuns n = true → s.flag (Reg.INP_STAT.LOWBAT n) = true → k + 2000 ≤ s.iNow n →
      exec (.lowbatSuspensionEnd n) s = .next (let x := s.input n
      let t := k + 2000
      let s1 := (s.setInput n { x with lowOk := none, holdFrom := if x.accepted then x.holdFrom else t }).wr (Reg.INP_STAT.LOWBAT n) 0
      if x.accepted then
        let s2 := s1.sendLevel n t
        if s.inverted n x.raw ≠ s.level n then s2.beginRun n t else s2
      else s1))

/-- A PWM period of a conducting channel starts on its grid: it takes its pattern and gates; one of a running or reversing unit that neither chops nor measures gates it; an on-time ends. A counted ripple edge moves POS by one in the drive direction, ends its interval and counts towards a reversal; one too soon is dropped. At a control step a stalled motion that is no pulse ends STALL and a pulse that has run ends DONE; a stalled reversal, or one of REVCNT edges, ends the pinch; a run ends RUNLIMIT after TRUN. A pinch that has braked for 2,000,000 ticks drives back. Blanking ends with the intervals so far dropped. Settling ends at rest, or in the waiting motion where boundaries still arrive, else it waits. A current above ILIM turns the driving switch off for TOFF, and the pattern then resumes. A back-EMF measurement starts at a period start when due, all switches off, and after 20,000 ticks reports its mean, from which a stall is judged. -/
def Obligations.MotorCommands : Prop :=
    (∀ (s : State) (m : Nat), s.mEnabled m = true → s.mSt m = .run ∨ (s.mSt m = .pinch ∧ (s.motor m).pinchDrive = true) → (s.motor m).chopUntil = 0 →
      (s.motor m).bemfStart = none → s.mNow m % motorPeriod (s.rd (Reg.BRG_PWM.FREQ m)) = 0 →
      exec (.pwmPeriodStart (.motor m)) s = .next (s.motorGate m (s.mNow m))) ∧
    (∀ (s : State) (u : Nat), s.chEnabled u = true → s.chConducts u = true → cmdOp (s.chan u).cmd = 2 →
      pwmStarts (s.gridOf u (s.chNow u)).1 (s.gridOf u (s.chNow u)).2 (s.chNow u) = true →
      exec (.pwmPeriodStart (.chan u)) s = .next ((s.takePattern u (s.chNow u)).gate u (s.chNow u))) ∧
    (∀ (s : State) (u : Nat), s.chEnabled u = true → (s.chan u).on = true → (s.chan u).onUntil ≠ 0 → (s.chan u).onUntil ≤ s.chNow u →
      exec (.pwmOnTimeEnd (.chan u)) s = .next (s.setChan u { s.chan u with on := false, onUntil := 0 })) ∧
    (∀ (s : State) (m : Nat), s.mEnabled m = true → (s.motor m).on = true → (s.motor m).onUntil ≠ 0 → (s.motor m).onUntil ≤ s.mNow m →
      exec (.pwmOnTimeEnd (.motor m)) s = .next ((s.setMotor m { s.motor m with on := false, onUntil := 0 }).driveOut m (s.motor m).onUntil)) ∧
    (∀ (s : State) (m e : Nat), (s.motor m).edgeAt = some e → s.mEnabled m = true → s.flag (Reg.BRG_CFG.RIPEN m) = true → busyState (s.mSt m) = true →
      exec (.rippleEdge m) s = .next (let x := s.motor m
      if s.edgeCounts m e then
        let p := if s.rd (Reg.BRG_STAT.DIR m) = 0 then s.pos m + 1 else s.pos m - 1
        let new := if x.blankDone && decide (s.mSt m = .run) then (x.interval e).toList else []
        let x1 := { x with edgeAt := none, lastEdge := some e, posAt := e, posDirty := true, ivStart := some e, ivOff := 0, intSum := 0, intN := 0,
                           ints := (new ++ x.ints).take 32, newInts := x.newInts + new.length,
                           revEdges := if s.mSt m = .pinch ∧ x.pinchDrive then x.revEdges + 1 else x.revEdges }
        (s.setMotor m x1).wr (Reg.BRG_POS.POS m) (fieldOfInt 32 p)
      else s.setMotor m { x with edgeAt := none })) ∧
    (∀ (s : State) (m : Nat) (mo : Motion), s.mSt m = .run → (s.motor m).motion = some mo → s.mEnabled m = true → s.stepAt m (s.mNow m) = true →
      mo.op ≠ 5 → (s.motor m).blankEnd ≤ s.mNow m → s.stalled m (s.mNow m) = true →
      exec (.motorStall m) s = .next ((s.endRun m MRes.stall (s.mNow m)).raiseFlag (Reg.BRG_CAUSE.STALL m))) ∧
    (∀ (s : State) (m : Nat), s.mSt m = .pinch → s.mEnabled m = true → s.stepAt m (s.mNow m) = true → (s.motor m).pinchDrive = true →
      max ((s.motor m).lastEdge.getD 0) (s.motor m).pinchTick + s.rd (Reg.BRG_TIME.TSTALL m) * 200000 ≤ s.mNow m →
      exec (.motorStall m) s = .next ((s.raiseFlag (Reg.BRG_CAUSE.STALL m)).pinchDone m (s.mNow m))) ∧
    (∀ (s : State) (m : Nat), s.mSt m = .run → s.mEnabled m = true → (s.motor m).runStart + s.rd (Reg.BRG_TIME.TRUN m) * 20000000 ≤ s.mNow m →
      exec (.motorRunLimit m) s = .next ((s.endRun m MRes.runlimit ((s.motor m).runStart + s.rd (Reg.BRG_TIME.TRUN m) * 20000000)).raiseFlag (Reg.BRG_CAUSE.RUNLIMIT m))) ∧
    (∀ (s : State) (m : Nat), s.mSt m = .pinch → s.mEnabled m = true → (s.motor m).pinchDrive = true →
      (s.motor m).pinchTick + s.rd (Reg.BRG_TIME.TRUN m) * 20000000 ≤ s.mNow m →
      exec (.motorRunLimit m) s = .next ((s.raiseFlag (Reg.BRG_CAUSE.RUNLIMIT m)).pinchDone m ((s.motor m).pinchTick + s.rd (Reg.BRG_TIME.TRUN m) * 20000000))) ∧
    (∀ (s : State) (m : Nat), s.mEnabled m = true → s.mSt m = .run → (s.motor m).blankDone = false → (s.motor m).blankEnd ≤ s.mNow m →
      exec (.motorStartBlankingEnd m) s = .next (s.setMotor m { s.motor m with blankDone := true, ints := [], newInts := 0 })) ∧
    (∀ (s : State) (m : Nat) (mo : Motion), (s.motor m).motion = some mo → s.mEnabled m = true → s.stepAt m (s.mNow m) = true → s.mSt m = .run →
      mo.op = 5 → (s.motor m).pulseEnd ≤ s.mNow m → exec (.pulseEnd m) s = .next (s.endRun m MRes.done (s.mNow m))) ∧
    (∀ (s : State) (m : Nat), s.mEnabled m = true → s.mSt m = .pinch → (s.motor m).pinchDrive = false → (s.motor m).pinchTick + 2000000 ≤ s.mNow m →
      exec (.pinchBrakeEnd m) s = .next (let e := (s.motor m).pinchTick + 2000000
      ((s.setMotor m { s.motor m with pinchDrive := true, pinchTick := e, revEdges := 0, ivStart := none, on := true, onUntil := 0 }).wr (Reg.BRG_STAT.DIR m) (s.motor m).pinchDir).driveOut m e)) ∧
    (∀ (s : State) (m : Nat), s.mEnabled m = true → s.stepAt m (s.mNow m) = true → s.mSt m = .pinch → (s.motor m).pinchDrive = true →
      s.rd (Reg.BRG_PINCH.REVCNT m) ≤ (s.motor m).revEdges → exec (.reversalComplete m) s = .next (s.pinchDone m (s.mNow m))) ∧
    (∀ (s : State) (m : Nat), s.mEnabled m = true → s.mSt m = .settle → (s.motor m).settleEnd ≤ s.mNow m → (s.motor m).waiting = none →
      exec (.motorSettleEnd m) s = .next (s.mRest m (s.motor m).settleEnd)) ∧
    (∀ (s : State) (m : Nat) (mo : Motion), s.mEnabled m = true → s.mSt m = .settle → (s.motor m).settleEnd ≤ s.mNow m →
      (s.motor m).waiting = some mo →
      exec (.motorSettleEnd m) s = .next (if s.boundariesArrive (motorDie m) then s.startMotion m mo (max (s.motor m).settleEnd (s.link (motorDie m)).lastBoundary) else s)) ∧
    (∀ (s : State) (m cur : Nat), s.mEnabled m = true → s.mSt m = .run ∨ (s.mSt m = .pinch ∧ (s.motor m).pinchDrive = true) →
      s.rd (Reg.BRG_CFG.CLMODE m) = 1 ∨ s.rd (Reg.BRG_CFG.CLMODE m) = 2 → (s.motor m).on = true → s.rd (Reg.BRG_OC.ILIM m) * 50 < cur →
      exec (.currentChop m cur) s = .next ((s.setMotor m { s.motor m with on := false, chopUntil := s.mNow m + s.rd (Reg.BRG_OC.TOFF m) * 200 }).driveOut m (s.mNow m))) ∧
    (∀ (s : State) (m : Nat), (s.motor m).chopUntil ≠ 0 → (s.motor m).chopUntil ≤ s.mNow m →
      exec (.chopOffEnd m) s = .next ((s.setMotor m { s.motor m with chopUntil := 0 }).motorGate m (s.mNow m))) ∧
    (∀ (s : State) (m : Nat), s.mEnabled m = true → s.flag (Reg.BRG_CFG.BEMFEN m) = true → s.mSt m = .run → (s.motor m).bemfStart = none →
      s.rd (Reg.BRG_BEMF.BEMFPER m) ≠ 0 → (s.motor m).bemfLast + s.rd (Reg.BRG_BEMF.BEMFPER m) * 200000 ≤ s.mNow m →
      s.mNow m % motorPeriod (s.rd (Reg.BRG_PWM.FREQ m)) = 0 →
      exec (.bemfMeasureStart m) s = .next ((s.setMotor m { s.motor m with bemfStart := some (s.mNow m), bemfN := 0, bemfSum := 0, on := false, onUntil := 0, bemfLast := (s.motor m).bemfLast + s.rd (Reg.BRG_BEMF.BEMFPER m) * 200000 }).driveOut m (s.mNow m))) ∧
    (∀ (s : State) (m b : Nat), (s.motor m).bemfStart = some b → s.mEnabled m = true → b + 20000 ≤ s.mNow m →
      exec (.bemfMeasureEnd m) s = .next (let x := s.motor m
      let v := if x.bemfN = 0 then 0 else x.bemfSum / (x.bemfN : Int)
      let low := decide (v.natAbs < s.rd (Reg.BRG_BEMF.BEMFMIN m) * 10)
      let x1 := { x with bemfStart := none, ivOff := if x.ivStart.isSome then x.ivOff + 20000 else 0, bemfLowSince := if low then (match x.bemfLowSince with
        | some k => some k
        | none => some (b + 20000)) else none }
      (((s.setMotor m x1).wr (Reg.BRG_MEAS.BEMF m) (fieldOfInt 16 (v / 10))).unitD (motorDie m) (motorEntry m + 4) v (b + 20000) (motorSrc m)).motorGate m (s.mNow m)))

/-- The control step of a power die is due every 2,000 ticks while its sequencer runs: where the last one has finished, the step runs the sequencer and decides for each unit. Where it has not, that is an overrun: the sequencer stops and counts it and its cycles, and each moving unit ends OVERRUN, settles braking, is unsure of its position, and reports. A driving, braking or limping unit whose comparators assert, at currents beyond the bounds of their free errors for one, trips: causes, trip run, fault, its motions end, and it is unsure of its position where it moved. 2,000,000 ticks later it locks with its fault at its trip limit, else it rests. -/
def Obligations.BridgeProtectionCommands : Prop :=
    (∀ (s : State) (d : Die), d ≠ .v → (s.ana d).ready = true → (s.seq (dieNum d)).stopped = false → s.dieNow d % 2000 = 0 →
      (s.seq (dieNum d)).last < s.dieNow d → (s.celAt (8 + dieNum d)).running = false →
      exec (.bridgeControlStep d) s = .next ((motorsOf d).foldl (fun s1 m => s1.motorStep m (s.dieNow d)) ((s.setSeq (dieNum d) { s.seq (dieNum d) with last := s.dieNow d }).seqStart (8 + dieNum d)))) ∧
    (∀ (s : State) (d : Die), d ≠ .v → (s.ana d).ready = true → (s.seq (dieNum d)).stopped = false → s.dieNow d % 2000 = 0 →
      (s.seq (dieNum d)).last < s.dieNow d → (s.celAt (8 + dieNum d)).running = true →
      exec (.bridgeControlStep d) s = .next (let t := s.dieNow d
      let k := dieNum d
      let s1 := ((s.setSeq k { s.seq k with stopped := true, last := t }).seqHalt (8 + k)).count (Reg.BRG_SEQ.OVRCNT k) 1
      let s2 := s1.wr (Reg.BRG_SEQ.PEAK k) (max (min (s.celAt (8 + k)).cyc 65535) (s.rd (Reg.BRG_SEQ.PEAK k)))
      ((motorsOf d).filter (fun m => s.mEnabled m && busyState (s.mSt m))).foldl (fun s m =>
        let x := s.motor m
        let s3 := if x.motion.isNone && x.waiting.isNone then s.motorResult m MRes.overrun false t else s.endMotions m MRes.overrun t
        ((((s3.settle m t true).unsure m |>.raiseFlag (Reg.BRG_CAUSE.OVERRUN m)).raiseD d (motorSrc m) 0x0A t).reportMotor m t).pinchLeft m t) s2)) ∧
    (∀ (s : State) (m : Nat) (x : BridgeSense), s.mEnabled m = true → busyState (s.mSt m) = true ∨ s.mSt m = .brake ∨ s.mSt m = .limp →
      s.rd (Reg.BRG_OC.ISHORT m) * 270000 < x.cur * 1000 →
      exec (.bridgeTrip m x) s = .next (let t := s.mNow m
      let c := s.bridgeCauses m t x
      let s1 := s.raiseBits (Reg.BRG_CAUSE.SHORT m).off (BitVec.ofNat 32 c)
      let s2 := (s1.wr (Reg.BRG_STAT.TRIPRUN m) (satAdd 4 (s.rd (Reg.BRG_STAT.TRIPRUN m)) 1)).faultD (motorDie m) (motorSrc m) (if c % 2 = 1 then 0x01 else 0x03) t c
      let s3 := s2.endMotions m MRes.trip t
      let s4 := if s.mMoving m then s3.unsure m else s3
      ((s4.setMotor m { s4.motor m with tripTick := t }).mEnter m .tripped t).pinchLeft m t)) ∧
    (∀ (s : State) (m : Nat), s.mEnabled m = true → s.mSt m = .tripped → (s.motor m).tripTick + 2000000 ≤ s.mNow m →
      exec (.motorTrippedEnd m) s = .next (let e := (s.motor m).tripTick + 2000000
      if s.rd (Reg.BRG_TRIP.TRIPLIM m) ≤ s.rd (Reg.BRG_STAT.TRIPRUN m) then
        ((s.raiseFlag (Reg.BRG_CAUSE.LOCK m)).mEnter m .locked e).faultD (motorDie m) (motorSrc m) 0x06 e
      else s.mRest m e)) ∧
    (∀ (s : State) (d : Die), d ≠ .v → (s.ana d).ready = true → (s.seq (dieNum d)).stopped = false → s.dieNow d % 2000 = 0 →
      (s.seq (dieNum d)).last < s.dieNow d → (s.celAt (8 + dieNum d)).running = true →
      exec (.bridgeSeqOverrun d) s = .next (let t := s.dieNow d
      let k := dieNum d
      let s1 := ((s.setSeq k { s.seq k with stopped := true, last := t }).seqHalt (8 + k)).count (Reg.BRG_SEQ.OVRCNT k) 1
      let s2 := s1.wr (Reg.BRG_SEQ.PEAK k) (max (min (s.celAt (8 + k)).cyc 65535) (s.rd (Reg.BRG_SEQ.PEAK k)))
      ((motorsOf d).filter (fun m => s.mEnabled m && busyState (s.mSt m))).foldl (fun s m =>
        let x := s.motor m
        let s3 := if x.motion.isNone && x.waiting.isNone then s.motorResult m MRes.overrun false t else s.endMotions m MRes.overrun t
        ((((s3.settle m t true).unsure m |>.raiseFlag (Reg.BRG_CAUSE.OVERRUN m)).raiseD d (motorSrc m) 0x0A t).reportMotor m t).pinchLeft m t) s2))

/-- The control step of a bank is due every 5 us of its die while its sequencer runs. Where the last step has finished: leashes left over end, the sequencer starts, each channel takes its phase ends and then its word, and requests start their peaks in their order; where it has not, peaks go to HOLD and requests are rejected, both OVERRUN, and the sequencer stops. At a step a peak that never reached its current fails, one that has run its time ends in HOLD with ACTUATED or in RELEASE with PULSED, and a release still above 20 mA after its time trips with CLAMP. A request past its leash is dropped, as BOOSTWAIT where it waits for a rail that is not ready, else as CONFLICT. HOLDLOW is reported after 200 low steps. A channel or a bank trips above the highest limit its free error allows, the bank with all its channels, and 2,000,000 ticks later locks at its trip limit or rests. In PEAK and HOLD the low side turns off at the current target and on again after the off-time. -/
def Obligations.ValveCommands : Prop :=
    (∀ (s : State) (b : Nat), s.bankDue b s.vNow = true → (s.celAt (10 + b)).running = false →
      exec (.valveControlStep b) s = .next (let t := s.vNow
      let q := (s.bank b).seq
      let cs := s.bankChans b
      let s0 := cs.foldl (fun s n => s.leashAt n q.last) s
      let s1 := (s0.setBank b { s0.bank b with seq := { q with last := t } }).seqStart (10 + b)
      let s2 := cs.foldl (fun s n => ((((s.holdStep n t).peakFailAt n t).peakEndAt n t).releaseTimeoutAt n t).releaseEndAt n t) s1
      let s3 := cs.foldl (fun s n => s.takeWord n t) s2
      (s3.reqOrder b).foldl (fun s n => s.startPeak n t) s3)) ∧
    (∀ (s : State) (b : Nat), s.bankDue b s.vNow = true → (s.celAt (10 + b)).running = true →
      exec (.valveControlStep b) s = .next (let t := s.vNow
      let s1 := (((s.setBank b { s.bank b with seq := { stopped := true, last := t } }).seqHalt (10 + b)).count (Reg.VLV_SEQ.OVRCNT b) 1).raiseD .v (bankSrc b) 0x0A t
      let s2 := s1.wr (Reg.VLV_SEQ.PEAK b) (max (min (s.celAt (10 + b)).cyc 65535) (s.rd (Reg.VLV_SEQ.PEAK b)))
      (s.bankChans b).foldl (fun s n =>
        match s.vSt n with
        | .peak => ((s.raiseFlag (Reg.VLV_CAUSE.OVERRUN n)).toHold n t).valveResult n VRes.overrun t
        | _ => if (s.valve n).req.isSome then (s.raiseFlag (Reg.VLV_CAUSE.OVERRUN n)).dropReq n VRes.overrun t else s) s2)) ∧
    (∀ (s : State) (n : Nat), s.vLive n = true → s.bankSteps (valveBank n) s.vNow = true → s.vSt n = .peak →
      (s.valve n).peakStart + profTpeak (s.valve n).profA ≤ s.vNow → (s.valve n).op = 1 →
      exec (.peakEnd n) s = .next ((s.toHold n s.vNow).valveResult n VRes.actuated s.vNow)) ∧
    (∀ (s : State) (n : Nat), s.vLive n = true → s.bankSteps (valveBank n) s.vNow = true → s.vSt n = .peak →
      (s.valve n).peakStart + profTpeak (s.valve n).profA ≤ s.vNow → (s.valve n).op ≠ 1 →
      exec (.peakEnd n) s = .next (s.toRelease n VRes.pulsed s.vNow)) ∧
    (∀ (s : State) (n : Nat), s.vLive n = true → s.bankSteps (valveBank n) s.vNow = true → s.vSt n = .peak → (s.valve n).reached = false →
      (s.valve n).peakStart + profTrise (s.valve n).profA ≤ s.vNow →
      exec (.peakFail n) s = .next ((((s.raiseFlag (Reg.VLV_CAUSE.PEAKFAIL n)).raiseD .v (valveSrc n) 0x0B s.vNow).valveResult n VRes.peakfail s.vNow).toRelease n 0 s.vNow)) ∧
    (∀ (s : State) (n : Nat), s.vLive n = true → s.bankSteps (valveBank n) s.vNow = true → s.vSt n = .release → 20 < (s.valve n).last →
      (s.valve n).relStart + profTrel (s.valve n).profB ≤ s.vNow → exec (.releaseTimeout n) s = .next (s.valveTripAt n 3 s.vNow)) ∧
    (∀ (s : State) (n : Nat) (r : ValveReq), s.vEnabled n = true → (s.valve n).req = some r → r.leash = true →
      r.stamp + s.rd (Reg.VLV_BCFG.LEASH (valveBank n)) * 2000 ≤ (s.bank (valveBank n)).seq.last →
      exec (.leashExpiry n) s = .next (let b := valveBank n
      (s.count (Reg.VLV_BCNT.CONFLICT b) 1).dropReq n
        (if s.flag Reg.VLV_BSTSTAT.READY = false ∧ profSrc (s.profA b r.prof) = 1 then VRes.boostwait else VRes.conflict) (s.bank b).seq.last)) ∧
    (∀ (s : State) (n : Nat), s.vEnabled n = true → s.vSt n = .hold → s.flag (Reg.VLV_STAT.HOLDLOW n) = false → 200 ≤ (s.valve n).lowRun →
      exec (.holdLow n) s = .next ((((s.wr (Reg.VLV_STAT.HOLDLOW n) 1).raiseFlag (Reg.VLV_CAUSE.HOLDLOW n)).raiseD .v (valveSrc n) 0x0C s.vNow).reportValve n s.vNow)) ∧
    (∀ (s : State) (n cur : Nat), s.vEnabled n = true → (s.valve n).lowSide = true → 6600 < cur →
      exec (.valveTrip n cur) s = .next (s.valveTripAt n 0 s.vNow)) ∧
    (∀ (s : State) (n : Nat), s.vLive n = true → s.vSt n = .tripped → s.rd64 (Reg.VLV_TRIPT.T n) + 2000000 ≤ s.vNow →
      exec (.valveTrippedEnd n) s = .next (let e := s.rd64 (Reg.VLV_TRIPT.T n) + 2000000
      if s.rd (Reg.VLV_CFG.TRIPLIM n) ≤ s.rd (Reg.VLV_STAT.TRIPRUN n) then
        ((s.raiseFlag (Reg.VLV_CAUSE.LOCK n)).vEnter n .locked e).faultD .v (valveSrc n) 0x06 e
      else s.vRest n e)) ∧
    (∀ (s : State) (b cur : Nat), s.bEnabled b = true → s.bSt b = .vbat ∨ s.bSt b = .boost → s.supplyBlocks .v = false → 13200 < cur →
      exec (.bankTrip b cur) s = .next (let t := s.vNow
      let s1 := (s.raiseFlag (Reg.VLV_BCAUSE.SHORT b)).wr64 (Reg.VLV_BTRIPT.T b) t
      let s2 := (s1.wr (Reg.VLV_BSTAT.TRIPRUN b) (satAdd 4 (s.rd (Reg.VLV_BSTAT.TRIPRUN b)) 1)).faultD .v (bankSrc b) 0x01 t 1
      (s2.bankDrop b VRes.trip t).bEnter b .tripped t)) ∧
    (∀ (s : State) (b : Nat), s.bEnabled b = true → s.bSt b = .tripped → s.rd64 (Reg.VLV_BTRIPT.T b) + 2000000 ≤ s.vNow →
      exec (.bankTrippedEnd b) s = .next (let e := s.rd64 (Reg.VLV_BTRIPT.T b) + 2000000
      if s.rd (Reg.VLV_BCFG.TRIPLIM b) ≤ s.rd (Reg.VLV_BSTAT.TRIPRUN b) then
        ((s.raiseFlag (Reg.VLV_BCAUSE.LOCK b)).bEnter b .locked e).faultD .v (bankSrc b) 0x06 e
      else s.bRest b e)) ∧
    (∀ (s : State) (b : Nat), s.bankDue b s.vNow = true → (s.celAt (10 + b)).running = true →
      exec (.bankSeqOverrun b) s = .next (let t := s.vNow
      let s1 := (((s.setBank b { s.bank b with seq := { stopped := true, last := t } }).seqHalt (10 + b)).count (Reg.VLV_SEQ.OVRCNT b) 1).raiseD .v (bankSrc b) 0x0A t
      let s2 := s1.wr (Reg.VLV_SEQ.PEAK b) (max (min (s.celAt (10 + b)).cyc 65535) (s.rd (Reg.VLV_SEQ.PEAK b)))
      (s.bankChans b).foldl (fun s n =>
        match s.vSt n with
        | .peak => ((s.raiseFlag (Reg.VLV_CAUSE.OVERRUN n)).toHold n t).valveResult n VRes.overrun t
        | _ => if (s.valve n).req.isSome then (s.raiseFlag (Reg.VLV_CAUSE.OVERRUN n)).dropReq n VRes.overrun t else s) s2)) ∧
    (∀ (s : State) (n cur : Nat), s.vEnabled n = true → s.vSt n = .peak ∨ s.vSt n = .hold → (s.valve n).lowSide = true → (s.vTarget n).1 ≤ cur →
      exec (.valveCurrentTargetReached n cur) s = .next (s.setValve n { s.valve n with lowSide := false, recirc := true, offEnd := s.vNow + (s.vTarget n).2 })) ∧
    (∀ (s : State) (n : Nat), s.vEnabled n = true → s.vSt n = .peak ∨ s.vSt n = .hold → (s.valve n).recirc = true → (s.valve n).offEnd ≤ s.vNow →
      exec (.valveOffTimeEnd n) s = .next (s.setValve n { s.valve n with lowSide := true, recirc := false, offEnd := 0 }))

/-- With the controller enabled and die V running, READY sets when the rail has been at or above VRDY for 2,000 ticks, as of then but not before the enable; it clears, which counts a loss, when the rail is 1 V below VRDY; each 20 ms without READY set NOTREADY with fault 0x0E; above VSET + 4 V or above 52 V the converter stops with OVP and 0x0F, and below VSET it runs again where it may. -/
def Obligations.BoostCommands : Prop :=
    (∀ (s : State) (k : Nat), s.bst.since = some k → s.flag Reg.VLV_BST.BSTEN = true → (s.ana .v).ready = true →
      s.flag Reg.VLV_BSTSTAT.READY = false → max (k + 2000) s.bst.enAt ≤ s.vNow →
      exec (.boostReady) s = .next ((s.wr Reg.VLV_BSTSTAT.READY 1).reportBoost (max (k + 2000) s.bst.enAt))) ∧
    (∀ (s : State), s.flag Reg.VLV_BSTSTAT.READY = true → s.bst.rail + 1000 < s.rd Reg.VLV_BSTRDY.VRDY * 100 →
      exec (.boostReadyLoss) s = .next (({ (s.wr Reg.VLV_BSTSTAT.READY 0).count Reg.VLV_BSTCNT.LOSS 1 with bst := { s.bst with since := none, notReady := s.vNow } } : State).reportBoost s.vNow)) ∧
    (∀ (s : State), s.flag Reg.VLV_BST.BSTEN = true → (s.ana .v).ready = true → s.flag Reg.VLV_BSTSTAT.READY = false →
      s.bst.notReady + 4000000 ≤ s.vNow →
      exec (.boostNotReady) s = .next (let s1 := (s.raiseFlag Reg.VLV_BSTCAUSE.NOTREADY).faultD .v 0x0430 0x0E (s.bst.notReady + 4000000)
      { s1 with bst := { s.bst with notReady := s.bst.notReady + 4000000 } })) ∧
    (∀ (s : State), s.flag Reg.VLV_BST.BSTEN = true → s.bst.ovp = false → s.rd Reg.VLV_BST.VSET * 100 + 4000 < s.bst.rail ∨ 52000 < s.bst.rail →
      exec (.boostOvp) s = .next (let s1 := ((s.raiseFlag Reg.VLV_BSTCAUSE.OVP).wr Reg.VLV_BSTSTAT.RUN 0).raiseD .v 0x0430 0x0F s.vNow
      { s1 with bst := { s.bst with ovp := true } })) ∧
    (∀ (s : State), s.bst.ovp = true → s.bst.rail < s.rd Reg.VLV_BST.VSET * 100 →
      exec (.boostOvpEnd) s = .next ({ s.wr Reg.VLV_BSTSTAT.RUN (b2n s.boostMay) with bst := { s.bst with ovp := false } }))

/-- An error-active or error-passive controller with no frame in progress sends the ready frame that wins arbitration, with its data at that tick and its ESI, and keeps it in flight. A frame sent is counted, TEC falls by one, the level follows, and the request ends SENT; a frame that loses arbitration fails LOST. An error sets its bits, a protocol exception nothing else; the counters take values ISO 11898-1 allows, the error flag of the state is sent, and above 255 the controller is bus-off, else its frame fails ERROR. CAN_TX with a frame no rule refuses takes a free firmware slot, ONESHOT as asked; a refused one completes with its reason. A cancel acts from the tick after its arrival and completes OK with what it found; CAN_RECOVER completes with STARTED or NOEFFECT; CAN_MODE sets or clears the firmware source and completes OK. -/
def Obligations.CanTransmitCommands : Prop :=
    (∀ (s : State) (c i : Nat) (f : CanTx), c < 12 → s.canSt c = 2 ∨ s.canSt c = 3 → (s.canC c).cur = none → (s.canC c).after = .none →
      canBest (s.canReadySlots c) = some (i, f) →
      exec (.canTxStart c) s = .next ((s.setCanC c { s.canC c with cur := some i }).canSay c (.canFrame c { f.frame with data := TxPdu.at { bytes := f.frame.data, ages := f.ages } s.now, esi := decide (s.canSt c = 3) }))) ∧
    (∀ (s : State) (c v i : Nat) (f : CanTx), (s.canC c).cur = some i → (s.canC c).slot i = some f → s.canMute c = false →
      exec (.canFrameSent c v) s = .next (let s2 := (s.count (Reg.CAN_CNT.TXOK c) 1).canMeasured c (some v)
      let s3 := (s2.canCounters c (s.rd (Reg.CAN_STAT.TEC c) - 1) (s.rd (Reg.CAN_STAT.REC c))).canLevel c
      ((s3.setCanC c { s3.canC c with cur := none }).canEnd c i 1 s.now).canAfterFrame c)) ∧
    (∀ (s : State) (c i : Nat), (s.canC c).cur = some i → exec (.canArbitrationLost c) s = .next (s.canFailed c i 3)) ∧
    (∀ (s : State) (c k tec rec : Nat) (v : Option Nat), c < 12 → s.canSt c = 2 ∨ s.canSt c = 3 ∨ s.canSt c = 6 → k % 64 ≠ 0 →
      s.canKinds c k % 32 = 0 → exec (.canError c ⟨k, v⟩ tec rec) s = .next (s.canErrBits c (s.canKinds c k))) ∧
    (∀ (s : State) (c k tec rec : Nat) (v : Option Nat), c < 12 → s.canSt c = 2 ∨ s.canSt c = 3 ∨ s.canSt c = 6 → k % 64 ≠ 0 →
      s.canKinds c k % 32 ≠ 0 → s.canStepOk c tec rec = true →
      exec (.canError c ⟨k, v⟩ tec rec) s = .next (let s2 := (((s.canErrBits c (s.canKinds c k)).canMeasured c v).canFlag c).canCounters c tec rec
      let x := s2.canC c
      if s2.canSt c ≠ 6 ∧ 255 < s2.rd (Reg.CAN_STAT.TEC c) ∧ x.after = .none then s2.canBusoff c x.cur
      else
        let s3 := s2.canLevel c
        match x.cur with
        | none => s3
        | some i => s3.canFailed c i 4)) ∧
    (∀ (s : State) (t i : Nat) (x : ReadResult) (o : HostOp), s.opReady t 0x20 = some o → o.fld 16 1 < 12 →
      dlcLen (bitOf (o.fld 17 1) 2) (o.fld 18 1) ≤ 32 ∨ bitOf (o.fld 17 1) 1 = true ∨ readBytes x (dlcLen (bitOf (o.fld 17 1) 2) (o.fld 18 1)) ≠ none →
      s.canRefusal (o.fld 16 1) (canReqFrame o ((readBytes x (dlcLen (bitOf (o.fld 17 1) 2) (o.fld 18 1))).getD [])) = none →
      (s.canC (o.fld 16 1)).freeFw = some i →
      exec (.canTx t x) s = .next (let c := o.fld 16 1
      (s.begin t).setCanC c { (s.canC c).setSlot i (some { frame := canReqFrame o ((readBytes x (dlcLen (bitOf (o.fld 17 1) 2) (o.fld 18 1))).getD []), seq := (s.canC c).seq, tag := some t, oneshot := bitOf (o.fld 17 1) 4 }) with seq := (s.canC c).seq + 1 })) ∧
    (∀ (s : State) (t r : Nat) (x : ReadResult) (o : HostOp), s.opReady t 0x20 = some o → o.fld 16 1 < 12 →
      dlcLen (bitOf (o.fld 17 1) 2) (o.fld 18 1) ≤ 32 ∨ bitOf (o.fld 17 1) 1 = true ∨ readBytes x (dlcLen (bitOf (o.fld 17 1) 2) (o.fld 18 1)) ≠ none →
      s.canRefusal (o.fld 16 1) (canReqFrame o ((readBytes x (dlcLen (bitOf (o.fld 17 1) 2) (o.fld 18 1))).getD [])) = some r →
      exec (.canTx t x) s = .next (s.complete t (canStatus r) r)) ∧
    (∀ (s : State) (t : Nat) (o : HostOp), s.opReady t 0x21 = some o → o.fld 16 1 < 12 → o.tick < s.now →
      exec (.canCancel t) s = .next ((s.canCancelTag (o.fld 16 1) (o.fld 17 1)).2.complete t St.ok (s.canCancelTag (o.fld 16 1) (o.fld 17 1)).1)) ∧
    (∀ (s : State) (t : Nat) (o : HostOp), s.opReady t 0x22 = some o → o.fld 16 1 < 12 →
      exec (.canRecover t) s = .next (if s.canSt (o.fld 16 1) = 4 then (s.canRecoverStart (o.fld 16 1)).complete t St.ok 15 else s.complete t St.ok 16)) ∧
    (∀ (s : State) (t : Nat) (o : HostOp), s.opReady t 0x23 = some o → o.fld 16 1 < 12 → o.fld 17 1 = 1 ∨ o.fld 17 1 = 2 →
      exec (.canMode t) s = .next ((s.canSource (o.fld 16 1) 0 (decide (o.fld 17 1 = 1))).complete t St.ok))

/-- A controller that runs and has no frame of its own in progress takes every valid frame it supports: it acknowledges it unless RESTRICTED, counts it, decodes it by the record of its identifier where there is one, and gives it to firmware with RXHOST 2, or with RXHOST 1 where no record took it. Bus-off is left on request, or with RECOV = 0 after BOHOLD unless the limit of consecutive bus-offs stands; recovery ends with both counters 0; a synchronised or recovered controller joins in the state its sources and counters give. 1 s error-active clears the count of consecutive bus-offs. CAN_CTL sets and clears the firmware source. -/
def Obligations.CanStateCommands : Prop :=
    (∀ (s : State) (c : Nat), c < 12 → s.canSt c = 4 → exec (.canCtlRecover c) s = .next (s.canRecoverStart c)) ∧
    (∀ (s : State) (c : Nat), c < 12 → exec (.canCtlRestrSet c) s = .next (s.canSource c 0 true)) ∧
    (∀ (s : State) (c : Nat), c < 12 → exec (.canCtlRestrClear c) s = .next (s.canSource c 0 false)) ∧
    (∀ (s : State) (c : Nat) (f : CanFrame), c < 12 → s.canSt c = 2 ∨ s.canSt c = 3 ∨ s.canSt c = 6 → (s.canC c).cur = none → canValid f = true →
      f.fdf = false ∨ s.flag (Reg.CAN_CFG.FDEN c) = true →
      exec (.canFrameReceived c f) s = .next (let k := if f.rtr then none else s.decRec 0 c (f.id + 2 ^ 31 * b2n f.ide) 0 0
      let s0 := if s.canSt c = 6 then s else s.canSay c (.canAck c)
      let s1 := (s0.count (Reg.CAN_CNT.RXOK c) 1).canRxCount c
      let s2 : State := match k with
        | none => s1
        | some k => s1.receiveRec k f.data s.now (canSrc c)
      if s.rd (Reg.CAN_CFG.RXHOST c) = 2 ∨ (s.rd (Reg.CAN_CFG.RXHOST c) = 1 ∧ k = none) then s2.fillPost 0 c (canEntry c f s.now k.isSome) [] s.now (s2.canDrop c)
      else s2)) ∧
    (∀ (s : State) (c : Nat), c < 12 → s.canSt c = 4 → s.flag (Reg.CAN_CFG.RECOV c) = false → (s.canC c).limit = false →
      (s.canC c).boAt + s.rd (Reg.CAN_CFG.BOHOLD c) * 2000000 ≤ s.now → exec (.busoffHoldEnd c) s = .next (s.canRecoverStart c)) ∧
    (∀ (s : State) (c : Nat), c < 12 → s.canSt c = 5 →
      exec (.busoffRecoveryDone c) s = .next (((s.wr (Reg.CAN_STAT.TEC c) 0).wr (Reg.CAN_STAT.REC c) 0).canJoin c)) ∧
    (∀ (s : State) (c : Nat), c < 12 → s.canSt c = 1 → exec (.canSyncDone c) s = .next (s.canJoin c)) ∧
    (∀ (s : State) (c : Nat), c < 12 → s.canSt c = 2 → (s.canC c).eaAt + 200000000 ≤ s.now →
      exec (.busoffCountReset c) s = .next (s.setCanC c { s.canC c with cons := 0 }))

/-- A commander takes its next slot when the last has ended, the frame in it being over by then. A request for a schedule table that has slots waits for the end of the slot; one that waits is replaced and completes RETRY_LATER. A diagnostic request waits, up to four, for the next diagnostic slot. A commander's sleep request is noted; a wake request sends the wake-up signal and the channel is ACTIVE. A signal without an answer is repeated 150 ms later, up to twice, and then 1.5 s after that anew. A dominant pulse of 250 us to 5 ms wakes a sleeping channel, a commander restarting its table 100 ms later. A responder sleeps after 4 s without traffic. At the restart the current table begins anew. -/
def Obligations.LinScheduleCommands : Prop :=
    (∀ (s : State) (n tb : Nat), n < 10 → s.linSt n ≠ 0 → s.linCommander n = true → (s.linTable n tb).length ≠ 0 →
      exec (.linCtlSreq n tb) s = .next (let s1 : State := match (s.linC n).req with
        | some (_, t) => s.completeOpt t St.retryLater
        | none => s
      s1.setLinC n { s1.linC n with req := some (tb, none) })) ∧
    (∀ (s : State) (t : Nat) (o : HostOp), s.opReady t 0x28 = some o → o.fld 16 1 < 10 → s.linSt (o.fld 16 1) ≠ 0 →
      (s.linC (o.fld 16 1)).ending = false → s.linCommander (o.fld 16 1) = true → (s.linTable (o.fld 16 1) (o.fld 17 1)).length ≠ 0 →
      exec (.linSched t) s = .next ((s.begin t).linRequest (o.fld 16 1) (o.fld 17 1) (some t))) ∧
    (∀ (s : State) (t : Nat) (o : HostOp), s.opReady t 0x29 = some o → o.fld 16 1 < 10 → s.linSt (o.fld 16 1) = 2 →
      (s.linC (o.fld 16 1)).ending = false → s.linCommander (o.fld 16 1) = true → (s.linC (o.fld 16 1)).diag.length < 4 →
      exec (.linDiag t) s = .next ((s.begin t).setLinC (o.fld 16 1) { s.linC (o.fld 16 1) with diag := (s.linC (o.fld 16 1)).diag ++ [(t, (o.desc.drop 24).take 8)] })) ∧
    (∀ (s : State) (n : Nat), n < 10 → s.linSt n = 2 → s.linCommander n = true →
      exec (.linCtlSleep n) s = .next (s.setLinC n { s.linC n with sleepReq := true })) ∧
    (∀ (s : State) (n : Nat), n < 10 → s.linSt n ≠ 0 → (s.linC n).ending = false →
      exec (.linCtlWake n) s = .next ((s.linWakeSignal n s.now 1).linGo n 2 s.now)) ∧
    (∀ (s : State) (n : Nat), n < 10 → s.linSt n = 2 → s.linCommander n = true → (s.linC n).restartAt = none → (s.linC n).ending = false →
      (s.linC n).slotEnd ≤ s.now → exec (.linSlotStart n) s = .next ((s.linResponseTimeout n).linSlotNext n)) ∧
    (∀ (s : State) (n e : Nat), (s.linC n).wakeEnd = some e → n < 10 → s.linSt n ≠ 0 →
      (if (s.linC n).wakeTries < 3 then e + 30000000 else e + 330000000) ≤ s.now →
      exec (.linWakeRetry n) s = .next (if (s.linC n).wakeTries < 3 then s.linWakeSignal n (e + 30000000) ((s.linC n).wakeTries + 1) else s.linWakeSignal n (e + 330000000) 1)) ∧
    (∀ (s : State) (n k : Nat), n < 10 → s.linSt n = 1 → 50000 ≤ k → k ≤ 1000000 →
      exec (.linRemoteWake n k) s = .next ((s.setLinC n { s.linC n with lastBus := s.now, restartAt := if s.linCommander n then some (s.now + 20000000) else none }).linGo n 2 s.now)) ∧
    (∀ (s : State) (n : Nat), n < 10 → s.linSt n = 2 → s.linCommander n = false → (s.linC n).lastBus + 800000000 ≤ s.now →
      exec (.linBusIdleTimeout n) s = .next (s.linGo n 1 s.now)) ∧
    (∀ (s : State) (n k : Nat), (s.linC n).restartAt = some k → n < 10 → k ≤ s.now →
      exec (.linScheduleRestart n) s = .next (s.setLinC n { s.linC n with restartAt := none, anew := true, slotEnd := k, hdr := none, publishing := false }))

/-- A responder that runs and sees a header of legal length is active; with a parity error it counts one; a header of a frame it knows starts that frame at the break field, and the channel publishes its latest build where the frame is its own, an event-triggered one only where it has changed. The response to the frame of the header, within its maximum length, ends the frame: with errors counted, or delivered, or, published by this channel, counted as sent; a collision of an event-triggered frame resolves. Without a complete response by the maximum length the frame is over, with a response error unless it is event-triggered. -/
def Obligations.LinFrameCommands : Prop :=
    (∀ (s : State) (n p ago : Nat) (ok : Bool), n < 10 → s.linSt n = 2 → s.linCommander n = false → (s.linC n).ending = false →
      s.linHeaderLen n ago = true →
      exec (.linHeaderReceived n p ⟨ok, ago⟩) s = .next (let s1 := s.setLinC n { s.linC n with lastBus := s.now, wakeEnd := none, wakeTries := 0, hdr := none, publishing := false }
      match s.linRespFrame n (p % 64) with
      | none => if ok then s1 else s1.linErrs n 16 false
      | some f =>
        if !ok then s1.linErrs n 16 (s.linFrameOf n f.id).isSome
        else
          let t := s.now - ago
          let s2 := s1.setLinC n { s1.linC n with hdr := some (f.id, t) }
          if f.publish then (if f.kind = .eventTriggered then s2.linPublishEvent n f t else s2.linPublish n f t) else s2)) ∧
    (∀ (s : State) (n id t : Nat) (r : LinFrame) (f : LinSlot), (s.linC n).hdr = some (id, t) → s.linExpected n id = some f → n < 10 → s.linSt n = 2 →
      r.pid = linPid id → s.now ≤ t + s.linFrameMax n f.dlen →
      exec (.linFrameReceived n r) s = .next (if f.kind = .eventTriggered ∧ r.collision then (s.linCollision n f).linFrameOver n
      else
        let own := (s.linC n).publishing && s.txMute .p1 && decide (r.err % 2 = 0)
        let bad := r.err % 16 - (if bitOf r.err 2 then 4 else 0) + (if r.data.length < f.dlen then 4 else 0) + b2n own
        if bad ≠ 0 then (s.linErrs n bad (s.linFrameOf n id).isSome).linFrameOver n
        else if (s.linC n).publishing then (s.linSent n f).linFrameOver n
        else (s.linGot n id f r.data).linFrameOver n)) ∧
    (∀ (s : State) (n id t : Nat) (f : LinSlot), (s.linC n).hdr = some (id, t) → s.linExpected n id = some f → n < 10 →
      t + s.linFrameMax n f.dlen ≤ s.now →
      exec (.linResponseTimeout n) s = .next ((if f.kind = .eventTriggered then s else s.linErrs n 4 (s.linFrameOf n id).isSome).linFrameOver n))

/-- A frame received on a port that is up is forwarded. A port that is up, has no frame in progress and may start one (PLCA leaves it its turn) sends the first frame of its highest class, with age words at that tick where it is a build; a frame sent is counted and the builds that waited enter the queue. What the PHY of an enabled port reports is kept and shown, in a speed the port can have. A peer delay request is answered on its port with its receive stamp and a transmit stamp left open. An entry of the forwarding database that has aged is forgotten. ETH_TX forwards a frame from the enabled internal port and completes OK with its stamp, or RETRY_LATER where a queue was full. -/
def Obligations.EthernetCommands : Prop :=
    (∀ (s : State) (p : Nat) (f : List Byte), p < 4 → s.ethUp p = true → exec (.ethFrameReceived p f) s = .next ((s.ethForward p f).1)) ∧
    (∀ (s : State) (p : Nat) (x : EthTx), p < 4 → s.ethUp p = true → (s.ethP p).sending = none → s.plcaMay p = true →
      ethPick (s.ethP p).queue = some x →
      exec (.ethFrameTxStart p) s = .next (let s1 := s.setEthP p { s.ethP p with queue := (s.ethP p).queue.erase x, sending := some x, burst := if s.inBurst p then (s.ethP p).burst + 1 else 0 }
      match x.enc with
      | none => s1.emit (.ethFrame p x.bytes)
      | some _ => s1.takeFree.2.emit (.ethFrame p (encFinish x.bytes (x.pdu.at s.now) s1.takeFree.1)))) ∧
    (∀ (s : State) (p : Nat) (x : EthTx), (s.ethP p).sending = some x →
      exec (.ethFrameTxEnd p) s = .next ((s.ethP p).waiting.foldl (fun s t => (s.ethQueue p t).1) ((s.count (Reg.ETH_PCNT1.TXOK p) 1).setEthP p { s.ethP p with sending := none, waiting := [], lastEnd := some s.now }))) ∧
    (∀ (s : State) (p v w : Nat) (l q : Bool), p < 4 → s.flag (Reg.ETH_PCFG.ENABLE p) = true → s.ethSpeed p v = some w →
      exec (.ethLinkChange p l v q) s = .next ((s.setEthP p { s.ethP p with phy := l, phySpeed := w, phyPlca := q }).ethShow p)) ∧
    (∀ (s : State) (p q : Nat), p < 4 → s.ethUp p = true →
      exec (.pdelayReqReceived p q) s = .next ({ s with fresh := s.fresh + 1 } |>.emit (.pdelayResp p q s.now (s.now + (Config.freeWord s.fresh).toNat)))) ∧
    (∀ (s : State) (m v : Nat),
      exec (.forwardingDatabaseAgeing m v) s = .next ({ s with eth := { s.eth with fdb := s.eth.fdb.filter (fun r => !(decide (r.mac = m) && decide (r.vid = v) && decide (r.tick + s.rd Reg.ETH_AGE.SEC * 200000000 ≤ s.now))) } })) ∧
    (∀ (s : State) (t : Nat) (x : ReadResult) (o : HostOp) (f : List Byte), s.opReady t 0x2C = some o → 60 ≤ o.fld 32 2 → o.fld 32 2 ≤ 1518 →
      readBytes x (o.fld 32 2) = some f → s.flag (Reg.ETH_PCFG.ENABLE 4) = true →
      exec (.ethTx t x) s = .next (if (s.ethForward 4 f).2 then (s.ethForward 4 f).1.complete t St.retryLater 0 0 else (s.ethForward 4 f).1.complete t St.ok 0 s.now))

/-- A well formed CIPHER, HASH, DERIVE, SLOT_RETIRE or SLOT_CLEAR operation on an engine that is READY with fewer than 48 host requests begins and joins the queue with its host data; ALARM of level 1 or 2 completes OK and raises the alarm. A free unit takes the next request: a hash or an encode record runs, a cipher of an EMPTY slot ends INVALID_REQUEST reason 3, a decryption on a permitted slot runs, and a derivation over a valid root empties the slot, takes the new epoch and runs; a slot operation is carried out. A draw whose ceiling is written takes its nonce and moves the counter on. A request that ends frees its unit. An alarm source starts an erase; the erase, and the start of the engine, end in READY. -/
def Obligations.CipherEngineCommands : Prop :=
    (∀ (s : State) (t : Nat) (o : HostOp) (x aux : ReadResult) (bs as : List Byte), s.opReady t 0x30 = some o → s.crySt = 2 → s.cryHost < 48 →
      cipherOk o = true → readBytes x (o.fld 20 4) = some bs → readBytes aux (auxLen o) = some as →
      exec (.cipher t x aux) s = .next ({ (s.begin t) with
        cry := { (s.begin t).cry with
          queue := (s.begin t).cry.queue ++ [{ id := (s.begin t).cry.nextId, tag := some t, opcode := o.opcode, desc := o.desc, input := bs, aux := as }],
          nextId := (s.begin t).cry.nextId + 1 } })) ∧
    (∀ (s : State) (t : Nat) (o : HostOp) (x : ReadResult) (bs : List Byte), s.opReady t 0x31 = some o → s.crySt = 2 → s.cryHost < 48 →
      o.fld 20 4 ≤ 16777215 → readBytes x (o.fld 20 4) = some bs →
      exec (.hash t x) s = .next ({ (s.begin t) with
        cry := { (s.begin t).cry with
          queue := (s.begin t).cry.queue ++ [{ id := (s.begin t).cry.nextId, tag := some t, opcode := o.opcode, desc := o.desc, input := bs, aux := [] }],
          nextId := (s.begin t).cry.nextId + 1 } })) ∧
    (∀ (s : State) (t : Nat) (o : HostOp), s.opReady t 0x32 = some o → s.crySt = 2 → s.cryHost < 48 → o.fld 16 1 < 64 → o.fld 17 1 < 4 →
      o.fld 18 1 < 2 → o.fld 19 1 ≠ 0 → o.fld 19 1 < 32 → o.fld 20 2 ≠ 0 → o.fld 22 1 ≠ 0 → o.fld 22 1 ≤ 32 →
      exec (.derive t) s = .next ({ (s.begin t) with
        cry := { (s.begin t).cry with
          queue := (s.begin t).cry.queue ++ [{ id := (s.begin t).cry.nextId, tag := some t, opcode := o.opcode, desc := o.desc, input := [], aux := [] }],
          nextId := (s.begin t).cry.nextId + 1 } })) ∧
    (∀ (s : State) (t : Nat) (o : HostOp), s.opReady t 0x33 = some o → s.crySt = 2 → s.cryHost < 48 → o.fld 16 1 < 64 →
      exec (.slotRetire t) s = .next ({ (s.begin t) with
        cry := { (s.begin t).cry with
          queue := (s.begin t).cry.queue ++ [{ id := (s.begin t).cry.nextId, tag := some t, opcode := o.opcode, desc := o.desc, input := [], aux := [] }],
          nextId := (s.begin t).cry.nextId + 1 } })) ∧
    (∀ (s : State) (t : Nat) (o : HostOp), s.opReady t 0x34 = some o → s.crySt = 2 → s.cryHost < 48 → o.fld 16 1 < 64 →
      exec (.slotClear t) s = .next ({ (s.begin t) with
        cry := { (s.begin t).cry with
          queue := (s.begin t).cry.queue ++ [{ id := (s.begin t).cry.nextId, tag := some t, opcode := o.opcode, desc := o.desc, input := [], aux := [] }],
          nextId := (s.begin t).cry.nextId + 1 } })) ∧
    (∀ (s : State) (t : Nat) (o : HostOp), s.opReady t 0x35 = some o → o.fld 16 1 = 1 ∨ o.fld 16 1 = 2 →
      exec (.alarm t) s = .next ((s.complete t St.ok 0 s.now).alarm (o.fld 16 1) (o.fld 16 1 - 1))) ∧
    (∀ (s : State) (k : Nat) (r : CryReq), s.cryNext k = some r → k < 3 → s.crySt = 2 → (s.cryU k).cur = none → r.opcode = 0x31 →
      exec (.cipherRequestStart k) s = .next ((({ s with cry := { s.cry with queue := s.cry.queue.erase r } } : State).setCryU k { s.cryU k with cur := none }).setCryU k { (({ s with cry := { s.cry with queue := s.cry.queue.erase r } } : State).setCryU k { s.cryU k with cur := none }).cryU k with cur := some r })) ∧
    (∀ (s : State) (k : Nat) (r : CryReq), s.cryNext k = some r → k < 3 → s.crySt = 2 → (s.cryU k).cur = none → r.internal = false → r.opcode = 0x30 →
      s.rd (Reg.CRY_SLOT.STATE (r.fld 16 1)) = 0 →
      exec (.cipherRequestStart k) s = .next ((({ s with cry := { s.cry with queue := s.cry.queue.erase r } } : State).setCryU k { s.cryU k with cur := none }).cryDone r St.invalid 3 [] [])) ∧
    (∀ (s : State) (k : Nat) (r : CryReq), s.cryNext k = some r → k < 3 → s.crySt = 2 → (s.cryU k).cur = none → r.internal = false → r.opcode = 0x30 →
      s.rd (Reg.CRY_SLOT.STATE (r.fld 16 1)) ≠ 0 → bitOf (s.rd (Reg.CRY_SLOT.MODES (r.fld 16 1))) (r.fld 17 1) = true → r.draws = false →
      exec (.cipherRequestStart k) s = .next ((({ s with cry := { s.cry with queue := s.cry.queue.erase r } } : State).setCryU k { s.cryU k with cur := none }).setCryU k { (({ s with cry := { s.cry with queue := s.cry.queue.erase r } } : State).setCryU k { s.cryU k with cur := none }).cryU k with cur := some r })) ∧
    (∀ (s : State) (k : Nat) (r : CryReq), s.cryNext k = some r → k < 3 → s.crySt = 2 → (s.cryU k).cur = none → r.internal = false → r.opcode = 0x32 →
      s.flag (Reg.CRY_ROOT.VALID (r.fld 17 1)) = true → s.rd (Reg.CRY_SLOT.EPOCH (r.fld 16 1)) ≠ 65535 →
      s.rd (Reg.CRY_SLOT.EPOCH (r.fld 16 1)) < r.fld 20 2 →
      (({ s with cry := { s.cry with queue := s.cry.queue.erase r } } : State).setCryU k { s.cryU k with cur := none }).slotTwin r = false →
      exec (.cipherRequestStart k) s = .next ((((({ s with cry := { s.cry with queue := s.cry.queue.erase r } } : State).setCryU k { s.cryU k with cur := none }).emptySlot (r.fld 16 1)).wr (Reg.CRY_SLOT.EPOCH (r.fld 16 1)) (r.fld 20 2)).setCryU k { (({ s with cry := { s.cry with queue := s.cry.queue.erase r } } : State).setCryU k { s.cryU k with cur := none }).cryU k with cur := some r })) ∧
    (∀ (s : State) (k : Nat) (r : CryReq), s.cryNext k = some r → k < 3 → s.crySt = 2 → (s.cryU k).cur = none → r.internal = false →
      r.opcode = 0x33 ∨ r.opcode = 0x34 →
      exec (.cipherRequestStart k) s = .next ((({ s with cry := { s.cry with queue := s.cry.queue.erase r } } : State).setCryU k { s.cryU k with cur := none }).slotOp r)) ∧
    (∀ (s : State) (k : Nat) (r : CryReq), (s.cryU k).cur = some r → k < 2 → r.waitCeil = true →
      s.cryRunning.all (fun q => !(q.waitCeil && decide (q.fld 16 1 = r.fld 16 1)) || decide (r.id ≤ q.id)) = true →
      s.rd (Reg.CRY_NONCE.N (r.fld 16 1)) = (s.kennel (r.fld 16 1)).ceil →
      exec (.nonceCeilingWritten k) s = .next (((s.setKennel (r.fld 16 1) { s.kennel (r.fld 16 1) with ceil := (s.kennel (r.fld 16 1)).ceil + 4096 }).wr (Reg.CRY_NONCE.N (r.fld 16 1)) (s.rd (Reg.CRY_NONCE.N (r.fld 16 1)) + 1)).setCryU k
        { s.cryU k with cur := some { r with waitCeil := false, nonce := some (s.rd (Reg.CRY_NONCE.N (r.fld 16 1))) } })) ∧
    (∀ (s : State) (k : Nat) (r : CryReq), (s.cryU k).cur = some r → k < 3 → s.crySt = 2 → r.waitCeil = false →
      exec (.cipherRequestEnd k) s = .next ((s.setCryU k { cur := (s.cryU k).susp, susp := none }).cryFinish r)) ∧
    (∀ (s : State) (a : AlarmSrc), s.started = true → exec (.cipherAlarm a) s = .next (s.alarm (AlarmSrc.code a).1 (AlarmSrc.code a).2)) ∧
    (∀ (s : State), s.crySt = 3 → s.rd Reg.CRY_STAT.ERASEPEND = 1 →
      exec (.eraseComplete) s = .next (({ ((((List.range 64).foldl (fun s i => s.emptySlot i) s).wr Reg.CRY_STAT.ERASEPEND 0).faultL 0x0B00 0x1B s.now 1 s.cry.eraseSrc) with
      cry := { ((((List.range 64).foldl (fun s i => s.emptySlot i) s).wr Reg.CRY_STAT.ERASEPEND 0).faultL 0x0B00 0x1B s.now 1 s.cry.eraseSrc).cry with eraseSrc := 0 } } : State).cryUp)) ∧
    (∀ (s : State), s.crySt = 1 →
      exec (.cipherStartDone) s = .next (({ (((List.range 64).foldl (fun s i => s.slotKey i) s).wr Reg.CRY_STAT.STATE 2) with cry := { ((((List.range 64).foldl (fun s i => s.slotKey i) s).wr Reg.CRY_STAT.STATE 2)).cry with resetTag := none } } : State).completeOpt s.cry.resetTag St.ok))

/-- A CHALLENGE or CALIBRATE operation that passes the checks with room in the queue begins and waits; a token is registered in a free record, and removed from a used one that no session uses, while no round runs, with its record reported and its event. A driven LF driver above 1.5 A is turned off with its fault, one below a quarter of its current is marked open. A frame joins the strobe before it; a button frame of no known token is a failure, a genuine one with a newer counter stores it, counts and starts a session. An LF control step that is due runs the sequencer, or, where the last has not finished, is an overrun that ends the round INTERNAL. A challenge starts for the first waiting request, as an addressed repeat, or for a calibration; its end arms the reply slots; strobes are stamped; a slot with no strobe is empty, one with several is discarded, one whose frame names a token goes to verification; a verified reply is judged by its round. The lockout ends, and the session 30 s after its start, as of that tick. -/
def Obligations.AccessEngineCommands : Prop :=
    (∀ (s : State) (t : Nat) (o : HostOp), s.opReady t 0x40 = some o → o.fld 16 1 = 1 ∨ o.fld 16 1 = 2 →
      s.accCheck { tag := some t, mode := o.fld 16 1, token := o.fld 17 1, mask := o.fld 18 1 } = none →
      (s.acc.queue.filter (fun q => q.tag.isSome)).length < 4 →
      exec (.challenge t) s = .next ({ (s.begin t) with acc := { (s.begin t).acc with queue := (s.begin t).acc.queue ++ [{ tag := some t, mode := o.fld 16 1, token := o.fld 17 1, mask := o.fld 18 1 }] } })) ∧
    (∀ (s : State) (t : Nat) (o : HostOp), s.opReady t 0x43 = some o →
      s.accCheck { tag := some t, mode := 3, token := o.fld 16 1, mask := o.fld 17 1 } = none → s.accSt = 1 →
      (s.acc.queue.filter (fun q => q.tag.isSome)).length < 4 →
      exec (.calibrate t) s = .next ({ (s.begin t) with acc := { (s.begin t).acc with queue := (s.begin t).acc.queue ++ [{ tag := some t, mode := 3, token := o.fld 16 1, mask := o.fld 17 1 }] } })) ∧
    (∀ (s : State) (t : Nat) (o : HostOp), s.opReady t 0x41 = some o → o.fld 16 1 < 8 → s.tokReg (o.fld 16 1) = false → o.fld 20 4 ≠ 0xFFFFFFFF →
      s.tokenOf (o.fld 20 4) = none → s.slotPermits (o.fld 17 1) 2 = true → s.accBusy = false →
      exec (.tokenRegister t) s = .next (((((((s.tokZero (o.fld 16 1)).wr (Reg.ACC_TOKID.ID (o.fld 16 1)) (o.fld 20 4)).wr (Reg.ACC_TOKCFG.SLOT (o.fld 16 1)) (o.fld 17 1)).wr (Reg.ACC_TOKCFG.REG (o.fld 16 1)) 1).tokReport (o.fld 16 1)).event 0x0C80 s.now (o.fld 16 1) 0x41 (o.fld 20 4)).complete t St.ok)) ∧
    (∀ (s : State) (t : Nat) (o : HostOp), s.opReady t 0x42 = some o → s.tokReg (o.fld 16 1) = true → s.accBusy = false →
      bits s.acc.session 1 3 ≠ o.fld 16 1 →
      exec (.tokenRemove t) s = .next ((((s.tokZero (o.fld 16 1)).tokReport (o.fld 16 1)).event 0x0C80 s.now (o.fld 16 1) 0x42 (s.rd (Reg.ACC_TOKID.ID (o.fld 16 1)))).complete t St.ok)) ∧
    (∀ (s : State) (k cur : Nat), k < 8 → s.lfDriven k = true → 1500 < cur →
      exec (.lfDriverShort k cur) s = .next ((({ s with acc := { s.acc with off := setBitOf s.acc.off k } } : State).raiseFlag ⟨Reg.ACC_LFSTAT.SHORT.off, k, 1⟩).faultD .v (0x0C20 + k) 0x01 (s.dieNow .v))) ∧
    (∀ (s : State) (k peak : Nat), k < 8 → s.lfDriven k = true → bitOf s.acc.opens k = false → 4 * peak < s.rd (Reg.ACC_LF.IPK k) * 10 →
      exec (.lfDriverOpen k peak) s = .next ((({ s with acc := { s.acc with opens := setBitOf s.acc.opens k } } : State).raiseFlag ⟨Reg.ACC_LFSTAT.OPEN.off, 8 + k, 1⟩).faultD .v (0x0C20 + k) 0x08 (s.dieNow .v))) ∧
    (∀ (s : State) (f : List Byte) (x : Nat), s.accBusy = true → s.acc.strobes.getLast? = some x →
      exec (.tkrFrameReceived f) s = .next ({ s with acc := { s.acc with frames := s.acc.frames ++ [(x, f)] } })) ∧
    (∀ (s : State) (f : List Byte) (x : TkrFrame), parseTkr f = some x → x.button = true → s.accSt ≠ 0 → s.accSt ≠ 4 → s.tokenOf x.id = none →
      exec (.buttonFrame f) s = .next (s.accFailure 6)) ∧
    (∀ (s : State) (f : List Byte) (x : TkrFrame) (i : Nat), parseTkr f = some x → x.button = true → s.accSt ≠ 0 → s.accSt ≠ 4 →
      s.tokenOf x.id = some i → s.tkrVerifies i x = true → s.rd (Reg.ACC_TOKCNT.LASTCNT i) < x.cnt →
      exec (.buttonFrame f) s = .next (((((s.tokFlags i x.flags).wr (Reg.ACC_TOKCNT.LASTCNT i) x.cnt).tokAccept i).startSession i 1 0 s.now))) ∧
    (∀ (s : State), s.lfDue = true → (s.celAt 16).running = false →
      exec (.lfControlStep) s = .next (({ s with acc := { s.acc with lf := { s.acc.lf with last := s.dieNow .v } } } : State).seqStart 16)) ∧
    (∀ (s : State), s.lfDue = true → (s.celAt 16).running = true →
      exec (.lfControlStep) s = .next ((({ s with acc := { s.acc with sending := false, drivers := 0 } } : State).seqHalt 16).accFinish St.internal 16)) ∧
    (∀ (s : State), s.lfDue = true → (s.celAt 16).running = true →
      exec (.lfSeqOverrun) s = .next ((({ s with acc := { s.acc with sending := false, drivers := 0 } } : State).seqHalt 16).accFinish St.internal 16)) ∧
    (∀ (s : State), s.acc.sending = false → s.acc.challengeEnd = none → s.lfMay = true → s.acc.cur = none → s.accSt = 1 →
      exec (.challengeStart) s = .next s.serveNext) ∧
    (∀ (s : State) (r : AccReq) (i : Nat) (rest : List Nat), s.acc.sending = false → s.acc.challengeEnd = none → s.lfMay = true → s.acc.cur = some r →
      r.mode ≠ 3 → s.acc.repeats = i :: rest →
      exec (.challengeStart) s = .next (({ s with acc := { s.acc with repeats := rest } } : State).sendChallenge true i r.mask)) ∧
    (∀ (s : State) (r : AccReq), s.acc.sending = false → s.acc.challengeEnd = none → s.lfMay = true → s.acc.cur = some r → r.mode = 3 →
      exec (.challengeStart) s = .next (s.sendChallenge true r.token r.mask)) ∧
    (∀ (s : State) (r : AccReq), s.acc.sending = true → s.acc.endAt ≤ s.dieNow .v → s.acc.cur = some r →
      exec (.challengeEnd) s = .next (({ s with acc := { s.acc with sending := false, drivers := 0, challengeEnd := some s.acc.endAt } } : State).seqHalt 16)) ∧
    (∀ (s : State) (e : Nat), s.accBusy = true → s.acc.challengeEnd = some e →
      exec (.tkrStrobe) s = .next ({ s with acc := { s.acc with strobes := s.acc.strobes ++ [s.now] } })) ∧
    (∀ (s : State) (e : Nat), s.acc.challengeEnd = some e → s.accBusy = true → s.acc.verify = none → (e + 30000 + s.acc.k * 800000) + 800000 ≤ s.now →
      s.acc.strobes.filter (fun x => decide ((e + 30000 + s.acc.k * 800000) ≤ x) && decide (x < (e + 30000 + s.acc.k * 800000) + 800000)) = [] →
      exec (.replySlotEnd) s = .next s.slotDone) ∧
    (∀ (s : State) (e x y : Nat) (zs : List Nat), s.acc.challengeEnd = some e → s.accBusy = true → s.acc.verify = none →
      (e + 30000 + s.acc.k * 800000) + 800000 ≤ s.now →
      s.acc.strobes.filter (fun x => decide ((e + 30000 + s.acc.k * 800000) ≤ x) && decide (x < (e + 30000 + s.acc.k * 800000) + 800000)) = x :: y :: zs →
      exec (.replySlotEnd) s = .next (((({ s with acc := { s.acc with discards := s.acc.discards + 1 } } : State).count Reg.ACC_CNT1.COLL 1).lastDev 0 0 false).slotDone)) ∧
    (∀ (s : State) (e x : Nat) (f : TkrFrame) (i : Nat), s.acc.challengeEnd = some e → s.accBusy = true → s.acc.verify = none →
      (e + 30000 + s.acc.k * 800000) + 800000 ≤ s.now →
      s.acc.strobes.filter (fun x => decide ((e + 30000 + s.acc.k * 800000) ≤ x) && decide (x < (e + 30000 + s.acc.k * 800000) + 800000)) = [x] →
      (s.acc.frames.filter (fun p => decide (p.1 = x))).map (fun p => parseTkr p.2) = [some f] → f.button = false → s.tokenOf f.id = some i →
      exec (.replySlotEnd) s = .next ({ s with acc := { s.acc with verify := some { k := s.acc.k, token := i, flags := f.flags, stamp := x, good := s.tkrVerifies i f } } })) ∧
    (∀ (s : State) (v : AccReply) (r : AccReq) (e : Nat), s.acc.verify = some v → s.acc.cur = some r → s.acc.challengeEnd = some e → r.mode ≠ 3 →
      exec (.replyVerified) s = .next ((({ s with acc := { s.acc with verify := none } } : State).judgeReply e v).slotDone)) ∧
    (∀ (s : State) (v : AccReply) (r : AccReq) (e : Nat), s.acc.verify = some v → s.acc.cur = some r → s.acc.challengeEnd = some e → r.mode = 3 →
      exec (.replyVerified) s = .next ((({ s with acc := { s.acc with verify := none } } : State).judgeCal e r.token v).slotDone)) ∧
    (∀ (s : State), s.accSt = 4 → s.acc.lockEnd ≤ s.now →
      exec (.lockoutEnd) s = .next (((s.accGo 1).event 0x0C82 s.acc.lockEnd (s.rd Reg.ACC_STAT.LEVEL)).lockReport s.acc.lockEnd)) ∧
    (∀ (s : State), s.sessionOn = true → s.rd64 Reg.ACC_SESST.T + 6000000000 ≤ s.now →
      exec (.sessionTimeout) s = .next (s.closeSession 2 (s.rd64 Reg.ACC_SESST.T + 6000000000)))

/-- A raise at the front of a die's link that carries is delivered, with a link fault where it comes more than 400 ticks after its stamp, and processed after those before it, and the count of dropped ones follows; one of die L is processed in its order. After the raises that are due, an ACTIVE or SEVERE record bound to sources whose QUIET ticks and 400 more have passed returns to CLEAR and is reported and notified, a SEVERE one counted. FLT_CTL.CLR clears a bound record; FAULT_READ answers a bound record's value, count and returns, FAULT_NOTICES hands over up to two notices with the number still waiting and lost, FAULT_CLEAR clears, and FAULT_INJECT of a defined source and kind under TEST processes an injected raise, records it and breaks the frame. -/
def Obligations.FaultCommands : Prop :=
    (∀ (s : State) (r : Nat), s.started = true → s.fltBound r = true → exec (.fltCtlClr r) s = .next (s.faultClearAt r)) ∧
    (∀ (s : State) (d : Die) (x : Raise) (xs : List UpMsg), s.linkCarries d = true → (s.link d).up = .raise x :: xs →
      exec (.faultRaise (.die d)) s = .next (let s1 := s.setLink d { s.link d with up := xs }
      let s2 := if x.stamp + 400 < s.now then s1.linkFault d else s1
      (s2.takeRaise x).deliverDropped d)) ∧
    (∀ (s : State) (x : Raise) (xs : List Raise), s.flt.fromL = x :: xs →
      exec (.faultRaise .dieL) s = .next (({ s with flt := { s.flt with fromL := xs } } : State).processRaise x)) ∧
    (∀ (s : State) (r : Nat), s.raisesDue.fltBound r = true → s.raisesDue.fltSt r = 1 ∨ s.raisesDue.fltSt r = 2 →
      s.raisesDue.rd (Reg.FLT_COUNT.QUIET r) ≠ 0 →
      (s.raisesDue.fltRec r).last + s.raisesDue.rd (Reg.FLT_COUNT.QUIET r) * 20000000 + 400 ≤ s.raisesDue.now →
      exec (.faultRecovery r) s = .next (let q := s.raisesDue
      let e := (q.fltRec r).last + q.rd (Reg.FLT_COUNT.QUIET r) * 20000000
      let s1 := if q.fltSt r = 2 then q.count (Reg.FLT_RSTAT.RCNT r) 1 else q
      let s2 := (((s1.wr (Reg.FLT_RSTAT.STATE r) 0).wr (Reg.FLT_RSTAT.NRET r) 0).setFltRec r { q.fltRec r with stamps := [] }).fltMram r
      (s2.reportFlt r e).noticeIf r 2 { stamp := e, src := 0, kind := 0, event := 3, record := r, inj := false })) ∧
    (∀ (s : State) (t : Nat) (o : HostOp), s.opReady t 0x50 = some o → s.fltBound (o.fld 16 2) = true →
      exec (.faultRead t) s = .next ((s.begin t).complete t St.ok 0 (s.fltRec (o.fld 16 2)).last
        (leBytes 8 (s.fltValue (o.fld 16 2)) ++ leBytes 2 (s.rd (Reg.FLT_COUNT.N (o.fld 16 2))) ++ leBytes 2 (s.rd (Reg.FLT_RSTAT.NRET (o.fld 16 2)))))) ∧
    (∀ (s : State) (t : Nat) (o : HostOp), s.opReady t 0x51 = some o →
      exec (.faultNotices t) s = .next (({ s.begin t with flt := { s.flt with notices := s.flt.notices.drop 2 } } : State).complete t St.ok 0 0
        (((s.flt.notices.take 2).flatMap Notice.bytes ++ List.replicate 32 0#8).take 32 ++ leBytes 1 (s.flt.notices.take 2).length
          ++ leBytes 2 (s.flt.notices.drop 2).length ++ leBytes 2 (s.rd Reg.FLT_LOST.NOTICE)))) ∧
    (∀ (s : State) (t : Nat) (o : HostOp), s.opReady t 0x52 = some o → s.fltBound (o.fld 16 2) = true →
      exec (.faultClear t) s = .next (((s.begin t).faultClearAt (o.fld 16 2)).complete t St.ok 0 s.now)) ∧
    (∀ (s : State) (t : Nat) (o : HostOp), s.opReady t 0x53 = some o → classDefined (o.fld 16 2) = true → kindUsed (o.fld 18 1) = true →
      s.flag Reg.FLT_STAT.TEST = true →
      exec (.faultInject t) s = .next (((((s.begin t).takeRaise { src := o.fld 16 2, kind := o.fld 18 1, stamp := s.now, inj := true }).record
        { code := raiseCode (o.fld 16 2) (o.fld 18 1), flags := 1, tick := s.now, p1 := o.fld 16 2 }).breakNow 6).complete t St.ok 0 s.now))

/-- The oldest queued event becomes a record, and first a record of the number discarded where any were; a repeat count that waits is written back at most once in 100 ms; EVR_READ of 1 to 256 records from a number that exists answers them, their first number and the counts; EVR_MARK records an event of the program's code where the queue has room; EVR_CLEAR, in the life cycle state MANUFACTURE, empties the recorder and records it; the operating seconds count each second. -/
def Obligations.RecorderCommands : Prop :=
    (∀ (s : State) (n : Nat), s.started = true → s.evr.mramRep.any (fun p => decide (p.1 = n)) = true →
      SMap.get (fun _ => 0) s.evr.wbTick n = 0 ∨ SMap.get (fun _ => 0) s.evr.wbTick n + 20000000 ≤ s.now →
      exec (.repeatWriteback n) s = .next ({ s with evr := { s.evr with mramRep := SMap.del n s.evr.mramRep, wbTick := SMap.set (fun _ => 0) s.evr.wbTick n s.now } })) ∧
    (∀ (s : State) (t : Nat) (o : HostOp), s.opReady t 0x58 = some o → o.fld 20 2 ≠ 0 → o.fld 20 2 ≤ 256 →
      frameLater (o.fld 16 4) (s.rd Reg.EVR_WCNT.N) = false → frameLater (s.rd Reg.EVR_OLDEST.N) (o.fld 16 4) = false →
      (min (o.fld 20 2) (((s.rd Reg.EVR_WCNT.N) + 2 ^ 32 - (o.fld 16 4)) % 2 ^ 32)) ≠ 0 →
      exec (.evrRead t) s = .next ((s.begin t).complete t St.ok 0 s.now (leBytes 4 (o.fld 16 4) ++ leBytes 4 (min (o.fld 20 2) (((s.rd Reg.EVR_WCNT.N) + 2 ^ 32 - (o.fld 16 4)) % 2 ^ 32)) ++ leBytes 4 (s.rd Reg.EVR_WCNT.N) ++ leBytes 4 (s.rd Reg.EVR_OLDEST.N))
        [(o.fld 24 8, (List.range (min (o.fld 20 2) (((s.rd Reg.EVR_WCNT.N) + 2 ^ 32 - (o.fld 16 4)) % 2 ^ 32))).flatMap (fun i => (s.evSlot (slotOf ((o.fld 16 4) + i))).bytes))])) ∧
    (∀ (s : State) (t : Nat) (o : HostOp), s.opReady t 0x59 = some o → s.evr.queue.length < 64 →
      exec (.evrMark t) s = .next (((s.begin t).record { code := 0x1100 + o.fld 16 1, flags := 4, tick := s.now, p1 := o.fld 20 4, p2 := o.fld 24 4, p3 := o.fld 28 4 }).complete t St.ok 0 s.now)) ∧
    (∀ (s : State) (t : Nat) (o : HostOp), s.opReady t 0x5A = some o → s.otp.life = 0 →
      exec (.evrClear t) s = .next (((({ s.begin t with evr := { (s.begin t).evr with slots := [], mramRep := [], wbTick := [], wcntCeil := 64 } } : State).wr Reg.EVR_WCNT.N 0).newRecord
        { code := 0x0FE3, tick := s.now }).complete t St.ok 0 s.now)) ∧
    (∀ (s : State) (e : Evt) (q : List Evt), s.started = true → s.evr.discards = 0 → s.evr.queue = e :: q →
      exec (.eventRecord) s = .next (({ s with evr := { s.evr with queue := q } } : State).commitEvent e)) ∧
    (∀ (s : State), s.started = true → s.evr.discards ≠ 0 →
      exec (.eventRecord) s = .next (({ s with evr := { s.evr with discards := 0 } } : State).newRecord { code := 0x0FE1, tick := s.now, p1 := s.evr.discards % 2 ^ 32 })) ∧
    (∀ (s : State), s.started = true → s.evr.opsecAt + 200000000 ≤ s.now →
      exec (.opsecTick) s = .next (({ s.count Reg.EVR_OPSEC.N 1 with evr := { s.evr with opsecAt := s.evr.opsecAt + 200000000 } } : State).opsecCeil))

/-- A removal of a core in service where the rest can take its programs, and a return of one that is out, waits for its boundary with the core LEAVING or JOINING; a return of a LEAVING core keeps it in service and withdraws the removal; CORE_SERVICE asks for the same and acknowledges in its operation. A returning core whose self-test passes is marked tested; one whose self-test fails is FAILED and its request completes INTERNAL. A declared failure aborts or skips the core's programs, breaks the frame, clears what was placed on it, records the cause and raises 0x51. An immediate write of a command entry of a unit whose die is ready and not in limp commits the value and sends it, and the die applies at its grid tick what arrived before it. -/
def Obligations.ReflexCoreCommands : Prop :=
    (∀ (s : State) (c : Nat), c < 8 → s.started = true → s.coreSt c = 0 → s.place (s.remaining c) ≠ none →
      exec (.rfxSvcRemove c) s = .next ((s.setCore c 1).svcAdd { core := c, op := 1, tick := s.now })) ∧
    (∀ (s : State) (c : Nat), c < 8 → s.started = true → s.coreSt c = 2 →
      exec (.rfxSvcReturn c) s = .next ((s.setCore c 3).svcAdd { core := c, op := 2, tick := s.now, origin := 2 })) ∧
    (∀ (s : State) (c : Nat), c < 8 → s.started = true → s.coreSt c = 1 →
      exec (.rfxSvcReturn c) s = .next (((s.setCore c 0).svcDone c 2 none St.ok 0).svcWithdraw c 1)) ∧
    (∀ (s : State) (c cause : Nat), c < 8 → s.started = true → s.coreSt c ≤ 1 → 1 ≤ cause → cause ≤ 3 → (cause = 1 → s.notStopped c = true) →
      exec (.coreFailure c cause) s = .next (let s0 := if cause = 1 then s.undispatch c else s
      let s1 := if (s0.celAt c).running then (s0.abortRun c 3 (s0.todoOf c).length).skipRest c else (s0.skipRest c).breakNow 0
      let s2 := (s1.setCore c 4).wr (Reg.RFX_CORE.FAILCAUSE c) cause
      ((s2.wr (Reg.RFX_CORE.NPLACED c) 0).wr (Reg.RFX_CORELOAD.CYC c) 0).faultL (coreSrc c) 0x51 s.now cause (s.rd Reg.TIME_FRAME.F))) ∧
    (∀ (s : State) (c : Nat) (r : SvcReq), s.rfx.reqs.find? (fun r => decide (r.core = c) && decide (r.op = 2) && !r.tested) = some r →
      s.coreSt c = 3 → r.tick + 10000 ≤ s.now →
      exec (.coreSelfTestEnd c true) s = .next ({ s with rfx := { s.rfx with reqs := s.rfx.reqs.map (fun q => if q.core = c then { q with tested := true } else q) } })) ∧
    (∀ (s : State) (c : Nat) (r : SvcReq), s.rfx.reqs.find? (fun r => decide (r.core = c) && decide (r.op = 2) && !r.tested) = some r →
      s.coreSt c = 3 → r.tick + 10000 ≤ s.now →
      exec (.coreSelfTestEnd c false) s = .next (((({ s with rfx := { s.rfx with reqs := s.rfx.reqs.filter (fun q => !(decide (q.core = c) && decide (q.op = 2))) } } : State).setCore c 4).wr (Reg.RFX_CORE.FAILCAUSE c) 4).svcDone
        c 2 r.tag St.internal 0)) ∧
    (∀ (s : State) (d : Die), s.dieNow d ≠ 0 → s.dieNow d % 200 = 0 →
      exec (.immediateApply d) s = .next ((takeImmediates (s.dieNow d) (s.link d).down).1.foldl (fun q w => q.immediateAt (s.dieNow d) w) (s.setLink d { s.link d with down := (takeImmediates (s.dieNow d) (s.link d).down).2 }))) ∧
    (∀ (s : State) (t : Nat) (o : HostOp) (k : CmdUnit), s.opReady t 0x12 = some o → s.attr (o.fld 16 3) ≠ none → cmdUnit (o.fld 16 3) = some k →
      s.flag Reg.RFX_CFG.IMMEN = true → s.domReady k.die = true → s.inLimp k.die = false →
      exec (.immediateWrite t) s = .next (((s.begin t).commit { idx := o.fld 16 3, value := BitVec.ofNat 64 (o.fld 32 4), stamp := s.now, src := 0x1100 + o.sq, own := .program }).sendDown k.die
        (.immediate { idx := o.fld 16 3, value := BitVec.ofNat 64 (o.fld 32 4), tag := some t } s.now))) ∧
    (∀ (s : State) (t : Nat) (o : HostOp), s.opReady t 0x19 = some o → o.fld 16 1 < 8 → o.fld 17 1 = 1 →
      exec (.coreService t) s = .next ((s.begin t).svcRemove (o.fld 16 1) (some t))) ∧
    (∀ (s : State) (t : Nat) (o : HostOp), s.opReady t 0x19 = some o → o.fld 16 1 < 8 → o.fld 17 1 = 2 →
      exec (.coreService t) s = .next ((s.begin t).svcReturn (o.fld 16 1) (some t)))

/-- While no commit runs and the device is not RETIRED: CFG_WRITE of aligned bytes within the bank stores them in the spare bank, CFG_COMMIT and CFG_ROLLBACK of a bank in the state they need run the commit with what its checks find, CFG_RAISEMIN to a version above the minimum and not above the active one raises it, LIFECYCLE with its key moves to the next state, ROOT_PROVISION through a slot that may, or in MANUFACTURE in the clear, and not too often, writes a root key, and DEBUG_UNLOCK, up to 16 times, counts the unlock, alarms and opens debug. CFG_STATUS answers the banks' state; TEST_MODE, in MANUFACTURE, sets TEST. A ready die takes its parameters, or holds them for a swap, and acknowledges; die L takes the acknowledgement; a swap that is not acknowledged in 20 ms ends DOMAIN_FAIL. -/
def Obligations.ConfigurationCommands : Prop :=
    (∀ (s : State) (t : Nat) (o : HostOp) (x : ReadResult) (bs : List Byte), s.opReady t 0x60 = some o → s.otp.life ≠ 2 → s.cfg.op = none →
      o.fld 20 4 % 4 = 0 → 4 ≤ o.fld 32 4 → o.fld 32 4 ≤ 65536 → o.fld 32 4 % 4 = 0 → o.fld 20 4 + o.fld 32 4 ≤ 2097152 →
      readBytes x (o.fld 32 4) = some bs → exec (.cfgWrite t x) s = .next (s.cfgStore t (o.fld 20 4) bs)) ∧
    (∀ (s : State) (t : Nat) (o : HostOp), s.opReady t 0x61 = some o → s.otp.life ≠ 2 → s.cfg.op = none → s.bankSt s.spareBank = 1 →
      exec (.cfgCommit t) s = .next (s.runCommit t 0x61 s.spareBank (bitOf (o.fld 16 1) 0) (s.checkAll (s.bankBytes s.spareBank) (bitOf (o.fld 16 1) 0)))) ∧
    (∀ (s : State) (t : Nat) (o : HostOp), s.opReady t 0x62 = some o → s.otp.life ≠ 2 → s.cfg.op = none → s.bankSt s.spareBank = 4 →
      exec (.cfgRollback t) s = .next (s.runCommit t 0x62 s.spareBank (bitOf (o.fld 16 1) 0) (s.checkFrom (s.bankBytes s.spareBank) (bitOf (o.fld 16 1) 0)))) ∧
    (∀ (s : State) (t : Nat) (o : HostOp), s.opReady t 0x63 = some o →
      exec (.cfgStatus t) s = .next ((s.cfgLast St.ok 0 0 0x63).complete t St.ok 0 s.now s.cfgResult)) ∧
    (∀ (s : State) (t : Nat) (o : HostOp), s.opReady t 0x64 = some o → s.otp.life ≠ 2 → s.cfg.op = none → s.hasBank = true →
      s.otp.minver < o.fld 20 4 → o.fld 20 4 ≤ s.rd (Reg.CFG_BVER.VERSION s.activeBank) → s.otp.raises < 255 →
      exec (.cfgRaisemin t) s = .next (s.raiseMin t (o.fld 20 4))) ∧
    (∀ (s : State) (t : Nat) (o : HostOp), s.opReady t 0x65 = some o → s.otp.life ≠ 2 → s.cfg.op = none → o.fld 16 1 = s.otp.life + 1 →
      o.fld 17 1 = 0xA5 → s.otp.life ≠ 0 ∨ (s.hasBank = true ∧ s.flag Reg.CFG_AUTH.AUTHEN = true) → exec (.lifecycle t) s = .next (s.lifeNext t)) ∧
    (∀ (s : State) (t : Nat) (o : HostOp) (x : ReadResult) (b : List Byte), s.opReady t 0x66 = some o → s.otp.life ≠ 2 → s.cfg.op = none →
      o.fld 16 1 ≤ 3 →
      o.fld 17 1 = 0xFF ∨ (o.fld 17 1 < 64 ∧ s.rd (Reg.CRY_SLOT.STATE (o.fld 17 1)) = 1 ∧ bitOf (s.rd (Reg.CRY_SLOT.MODES (o.fld 17 1))) 4 = true) →
      o.fld 17 1 ≠ 0xFF ∨ s.otp.life = 0 → s.provOf (o.fld 16 1) < 4 → readBytes x 60 = some b →
      exec (.rootProvision t x) s = .next (s.provisionWith t (o.fld 16 1) (o.fld 17 1) b)) ∧
    (∀ (s : State) (t : Nat) (o : HostOp), s.opReady t 0x67 = some o → s.otp.life ≠ 2 → s.cfg.op = none → s.otp.debug < 16 →
      exec (.debugUnlock t) s = .next ((((({ s with otp := { s.otp with debug := s.otp.debug + 1 } } : State).alarm 1 4).wr Reg.CFG_STAT.DBG 1).event 0x0F87 s.now (s.otp.debug + 1)).cfgDone t 0x67 St.ok)) ∧
    (∀ (s : State) (t : Nat) (o : HostOp), s.opReady t 0x68 = some o → s.otp.life = 0 →
      exec (.testMode t) s = .next (((s.wr Reg.CFG_STAT.TEST 1).event 0x0F89 s.now).cfgDone t 0x68 St.ok)) ∧
    (∀ (s : State) (d : Die) (regs : SMap W32) (s1 : State), s.popDown d = some (.params regs true, s1) → s1.domReady d = true →
      exec (.dieParamsReceived d) s = .next ((s1.setLink d { s1.link d with params := some regs }).ack d true)) ∧
    (∀ (s : State) (d : Die) (regs : SMap W32) (s1 : State), s.popDown d = some (.params regs false, s1) → s1.domReady d = true →
      exec (.dieParamsReceived d) s = .next ((s1.takeParams d regs).ack d false)) ∧
    (∀ (s : State) (d : Die) (ms : List UpMsg), (s.link d).up = .ack false :: ms → s.linkCarries d = true →
      exec (.dieParamAck d) s = .next ({ (s.setLink d { s.link d with up := ms }) with
        tb := { ((s.setLink d { s.link d with up := ms })).tb with dieConfirmed := SMap.set (fun _ => false) ((s.setLink d { s.link d with up := ms })).tb.dieConfirmed (dieNum d) true } })) ∧
    (∀ (s : State) (d : Die) (ms : List UpMsg), (s.link d).up = .ack true :: ms → s.linkCarries d = true →
      exec (.dieParamAck d) s = .next ({ (s.setLink d { s.link d with up := ms }) with
        cfg := { ((s.setLink d { s.link d with up := ms })).cfg with op := ((s.setLink d { s.link d with up := ms })).cfg.op.map (fun op => { op with waits := op.waits.filter (fun k => decide (k ≠ dieNum d)) }) } })) ∧
    (∀ (s : State) (op : CfgOp), s.cfg.op = some op → s.started = true → op.waits ≠ [] → op.selected = false → op.sentAt + 4000000 ≤ s.now →
      exec (.swapTimeout) s = .next (((s.cfgFail op.opcode op.bank 4 St.domainFail 7).cfgLast St.domainFail 7 4 op.opcode).completeOpt op.tag St.domainFail 7))

/-- With Verya on and die L running one lantern falls due each second. A received one is counted, and counted BAD where it is not good; a good one of this device's own node raises 0x44; one of another node is kept, and raises 0x44 where no peer has that node; a peer of the node, after a silence that ended before, enters the state that the lantern gives it. A peer whose last lantern is VSILENT seconds old becomes SILENT as of then, unless it is. -/
def Obligations.LanternCommands : Prop :=
    (∀ (s : State) (x : LanternRx) (b : List Byte), s.lanternBytes x = some b → s.lanternGood b = false →
      exec (.lanternReceived x) s = .next ((s.count Reg.CFG_VCNT.RX 1).count Reg.CFG_VCNT.BAD 1)) ∧
    (∀ (s : State) (x : LanternRx) (b : List Byte), s.lanternBytes x = some b → s.lanternGood b = true →
      byteField b 1 1 % 64 = s.rd (Reg.CFG_BVER.NODE s.activeBank) →
      exec (.lanternReceived x) s = .next ((s.count Reg.CFG_VCNT.RX 1).raiseL 0x0F40 0x44 s.now)) ∧
    (∀ (s : State) (x : LanternRx) (b : List Byte), s.lanternBytes x = some b → s.lanternGood b = true →
      byteField b 1 1 % 64 ≠ s.rd (Reg.CFG_BVER.NODE s.activeBank) →
      (List.range s.img.peers.length).find? (fun i => (s.peer i).any (fun p => decide (p.node = byteField b 1 1 % 64))) = none →
      exec (.lanternReceived x) s = .next (({ (s.count Reg.CFG_VCNT.RX 1) with cfg := { (s.count Reg.CFG_VCNT.RX 1).cfg with seen := SMap.set (fun _ => none) (s.count Reg.CFG_VCNT.RX 1).cfg.seen (byteField b 1 1 % 64) (some { stamp := s.now, gen := byteField b 2 2, version := byteField b 4 3, digest := byteField b 8 8 }) } } : State).raiseL 0x0F40 0x44 s.now)) ∧
    (∀ (s : State) (x : LanternRx) (b : List Byte) (i : Nat) (p : PeerRec), s.lanternBytes x = some b → s.lanternGood b = true →
      byteField b 1 1 % 64 ≠ s.rd (Reg.CFG_BVER.NODE s.activeBank) →
      (List.range s.img.peers.length).find? (fun i => (s.peer i).any (fun p => decide (p.node = byteField b 1 1 % 64))) = some i →
      s.peer i = some p →
      exec (.lanternReceived x) s = .next (let l : LanternSeen := { stamp := s.now, gen := byteField b 2 2, version := byteField b 4 3, digest := byteField b 8 8 }
      let s3 := ((s.count Reg.CFG_VCNT.RX 1).peerSilent i)
      ({ s3 with cfg := { s3.cfg with seen := SMap.set (fun _ => none) (s.count Reg.CFG_VCNT.RX 1).cfg.seen (byteField b 1 1 % 64) (some l) } } : State).peerEnter i (p.classify l) l.gen s.now)) ∧
    (∀ (s : State) (i : Nat) (p : PeerRec) (l : LanternSeen), s.peer i = some p → s.seenOf p.node = some l → s.started = true →
      l.stamp + s.rd Reg.CFG_VID.VSILENT * 200000000 ≤ s.now → s.rd (Reg.CFG_PEER.STATE i) ≠ 0 →
      exec (.peerSilent i) s = .next (s.peerEnter i 0 (s.rd (Reg.CFG_PEER.GEN i)) (l.stamp + s.rd Reg.CFG_VID.VSILENT * 200000000))) ∧
    (∀ (s : State), s.started = true → s.veryaOn = true → s.cfg.lanternTick < s.now / 200000000 * 200000000 →
      exec (.lanternDue) s = .next ({ s with cfg := { s.cfg with lanternsDue := s.cfg.lanternsDue + 1, lanternTick := s.now / 200000000 * 200000000 } }))

/-- A machine that issues the instruction at its address, within its budget and with registers it has, goes on in sequence with g[d] holding the result over the registers as they stand once the products due are in MH:ML; MUL, MULU and MAC queue a product that is due three cycles on, MULTIPLIER_RESULT delivers the products due, MFS and MTS move the special registers of the machine. -/
def Obligations.CelperArithmeticResults : Prop :=
    (∀ (s : State) (k : CoreId) (d a b : Nat), issues s k (encR 0x01 d a b) [d, a, b] 1 = true → d < 32 → a < 32 → b < 32 →
      s.leaves k ((issued s k 1).setG d ((issued s k 1).g a + (issued s k 1).g b)) .seq = false →
      exec (.add k d a b) s = .next (goOn s k ((issued s k 1).setG d ((issued s k 1).g a + (issued s k 1).g b)))) ∧
    (∀ (s : State) (k : CoreId) (d a b : Nat), issues s k (encR 0x02 d a b) [d, a, b] 1 = true → d < 32 → a < 32 → b < 32 →
      s.leaves k ((issued s k 1).setG d ((issued s k 1).g a - (issued s k 1).g b)) .seq = false →
      exec (.sub k d a b) s = .next (goOn s k ((issued s k 1).setG d ((issued s k 1).g a - (issued s k 1).g b)))) ∧
    (∀ (s : State) (k : CoreId) (d a b : Nat), issues s k (encR 0x03 d a b) [d, a, b] 1 = true → d < 32 → a < 32 → b < 32 →
      s.leaves k ((issued s k 1).setG d ((issued s k 1).g a &&& (issued s k 1).g b)) .seq = false →
      exec (.andI k d a b) s = .next (goOn s k ((issued s k 1).setG d ((issued s k 1).g a &&& (issued s k 1).g b)))) ∧
    (∀ (s : State) (k : CoreId) (d a b : Nat), issues s k (encR 0x04 d a b) [d, a, b] 1 = true → d < 32 → a < 32 → b < 32 →
      s.leaves k ((issued s k 1).setG d ((issued s k 1).g a ||| (issued s k 1).g b)) .seq = false →
      exec (.orI k d a b) s = .next (goOn s k ((issued s k 1).setG d ((issued s k 1).g a ||| (issued s k 1).g b)))) ∧
    (∀ (s : State) (k : CoreId) (d a b : Nat), issues s k (encR 0x05 d a b) [d, a, b] 1 = true → d < 32 → a < 32 → b < 32 →
      s.leaves k ((issued s k 1).setG d ((issued s k 1).g a ^^^ (issued s k 1).g b)) .seq = false →
      exec (.xorI k d a b) s = .next (goOn s k ((issued s k 1).setG d ((issued s k 1).g a ^^^ (issued s k 1).g b)))) ∧
    (∀ (s : State) (k : CoreId) (d a b : Nat), issues s k (encR 0x06 d a b) [d, a, b] 1 = true → d < 32 → a < 32 → b < 32 →
      s.leaves k ((issued s k 1).setG d (((issued s k 1).g a) <<< shamt ((issued s k 1).g b))) .seq = false →
      exec (.sll k d a b) s = .next (goOn s k ((issued s k 1).setG d (((issued s k 1).g a) <<< shamt ((issued s k 1).g b))))) ∧
    (∀ (s : State) (k : CoreId) (d a b : Nat), issues s k (encR 0x07 d a b) [d, a, b] 1 = true → d < 32 → a < 32 → b < 32 →
      s.leaves k ((issued s k 1).setG d (((issued s k 1).g a) >>> shamt ((issued s k 1).g b))) .seq = false →
      exec (.srl k d a b) s = .next (goOn s k ((issued s k 1).setG d (((issued s k 1).g a) >>> shamt ((issued s k 1).g b))))) ∧
    (∀ (s : State) (k : CoreId) (d a b : Nat), issues s k (encR 0x08 d a b) [d, a, b] 1 = true → d < 32 → a < 32 → b < 32 →
      s.leaves k ((issued s k 1).setG d (((issued s k 1).g a).sshiftRight (shamt ((issued s k 1).g b)))) .seq = false →
      exec (.sra k d a b) s = .next (goOn s k ((issued s k 1).setG d (((issued s k 1).g a).sshiftRight (shamt ((issued s k 1).g b)))))) ∧
    (∀ (s : State) (k : CoreId) (d a b : Nat), issues s k (encR 0x09 d a b) [d, a, b] 1 = true → d < 32 → a < 32 → b < 32 →
      s.leaves k ((issued s k 1).setG d (bit32 (decide (((issued s k 1).g a).toInt < ((issued s k 1).g b).toInt)))) .seq = false →
      exec (.slt k d a b) s = .next (goOn s k ((issued s k 1).setG d (bit32 (decide (((issued s k 1).g a).toInt < ((issued s k 1).g b).toInt)))))) ∧
    (∀ (s : State) (k : CoreId) (d a b : Nat), issues s k (encR 0x0A d a b) [d, a, b] 1 = true → d < 32 → a < 32 → b < 32 →
      s.leaves k ((issued s k 1).setG d (bit32 (decide (((issued s k 1).g a).toNat < ((issued s k 1).g b).toNat)))) .seq = false →
      exec (.sltu k d a b) s = .next (goOn s k ((issued s k 1).setG d (bit32 (decide (((issued s k 1).g a).toNat < ((issued s k 1).g b).toNat)))))) ∧
    (∀ (s : State) (k : CoreId) (d a : Nat) (imm : BitVec 16), issues s k (encI 0x10 d a imm.toNat) [d, a] 1 = true → d < 32 → a < 32 →
      s.leaves k ((issued s k 1).setG d ((issued s k 1).g a + sx16 imm)) .seq = false →
      exec (.addi k d a imm) s = .next (goOn s k ((issued s k 1).setG d ((issued s k 1).g a + sx16 imm)))) ∧
    (∀ (s : State) (k : CoreId) (d a : Nat) (imm : BitVec 16), issues s k (encI 0x11 d a imm.toNat) [d, a] 1 = true → d < 32 → a < 32 →
      s.leaves k ((issued s k 1).setG d ((issued s k 1).g a &&& zx16 imm)) .seq = false →
      exec (.andi k d a imm) s = .next (goOn s k ((issued s k 1).setG d ((issued s k 1).g a &&& zx16 imm)))) ∧
    (∀ (s : State) (k : CoreId) (d a : Nat) (imm : BitVec 16), issues s k (encI 0x12 d a imm.toNat) [d, a] 1 = true → d < 32 → a < 32 →
      s.leaves k ((issued s k 1).setG d ((issued s k 1).g a ||| zx16 imm)) .seq = false →
      exec (.ori k d a imm) s = .next (goOn s k ((issued s k 1).setG d ((issued s k 1).g a ||| zx16 imm)))) ∧
    (∀ (s : State) (k : CoreId) (d a : Nat) (imm : BitVec 16), issues s k (encI 0x13 d a imm.toNat) [d, a] 1 = true → d < 32 → a < 32 →
      s.leaves k ((issued s k 1).setG d ((issued s k 1).g a ^^^ zx16 imm)) .seq = false →
      exec (.xori k d a imm) s = .next (goOn s k ((issued s k 1).setG d ((issued s k 1).g a ^^^ zx16 imm)))) ∧
    (∀ (s : State) (k : CoreId) (d a : Nat) (imm : BitVec 16), issues s k (encI 0x18 d a imm.toNat) [d, a] 1 = true → d < 32 → a < 32 →
      s.leaves k ((issued s k 1).setG d (bit32 (decide (((issued s k 1).g a).toInt < (sx16 imm).toInt)))) .seq = false →
      exec (.slti k d a imm) s = .next (goOn s k ((issued s k 1).setG d (bit32 (decide (((issued s k 1).g a).toInt < (sx16 imm).toInt)))))) ∧
    (∀ (s : State) (k : CoreId) (d : Nat) (imm : BitVec 16), issues s k (encI 0x17 d 0 imm.toNat) [d, 0] 1 = true → d < 32 →
      s.leaves k ((issued s k 1).setG d (zx16 imm <<< 16)) .seq = false →
      exec (.lui k d imm) s = .next (goOn s k ((issued s k 1).setG d (zx16 imm <<< 16)))) ∧
    (∀ (s : State) (k : CoreId) (d a : Nat) (imm : BitVec 16), issues s k (encI 0x14 d a imm.toNat) [d, a] 1 = true → d < 32 → a < 32 →
      imm.toNat ≤ 31 → s.leaves k ((issued s k 1).setG d (((issued s k 1).g a) <<< imm.toNat)) .seq = false →
      exec (.slli k d a imm) s = .next (goOn s k ((issued s k 1).setG d (((issued s k 1).g a) <<< imm.toNat)))) ∧
    (∀ (s : State) (k : CoreId) (d a : Nat) (imm : BitVec 16), issues s k (encI 0x15 d a imm.toNat) [d, a] 1 = true → d < 32 → a < 32 →
      imm.toNat ≤ 31 → s.leaves k ((issued s k 1).setG d (((issued s k 1).g a) >>> imm.toNat)) .seq = false →
      exec (.srli k d a imm) s = .next (goOn s k ((issued s k 1).setG d (((issued s k 1).g a) >>> imm.toNat)))) ∧
    (∀ (s : State) (k : CoreId) (d a : Nat) (imm : BitVec 16), issues s k (encI 0x16 d a imm.toNat) [d, a] 1 = true → d < 32 → a < 32 →
      imm.toNat ≤ 31 → s.leaves k ((issued s k 1).setG d (((issued s k 1).g a).sshiftRight imm.toNat)) .seq = false →
      exec (.srai k d a imm) s = .next (goOn s k ((issued s k 1).setG d (((issued s k 1).g a).sshiftRight imm.toNat)))) ∧
    (∀ (s : State) (k : CoreId) (a b : Nat), issues s k (encR 0x20 0 a b) [a, b] 1 = true → a < 32 → b < 32 →
      s.leaves k { (issued s k 1) with prods := (issued s k 1).prods ++ [{ due := (issued s k 1).cyc + 3, adds := false, value := BitVec.ofInt 64 (((issued s k 1).g a).toInt * ((issued s k 1).g b).toInt) }] } .seq = false →
      exec (.mul k a b) s = .next (goOn s k { (issued s k 1) with prods := (issued s k 1).prods ++ [{ due := (issued s k 1).cyc + 3, adds := false, value := BitVec.ofInt 64 (((issued s k 1).g a).toInt * ((issued s k 1).g b).toInt) }] })) ∧
    (∀ (s : State) (k : CoreId) (a b : Nat), issues s k (encR 0x21 0 a b) [a, b] 1 = true → a < 32 → b < 32 →
      s.leaves k { (issued s k 1) with prods := (issued s k 1).prods ++ [{ due := (issued s k 1).cyc + 3, adds := false, value := BitVec.ofNat 64 (((issued s k 1).g a).toNat * ((issued s k 1).g b).toNat) }] } .seq = false →
      exec (.mulu k a b) s = .next (goOn s k { (issued s k 1) with prods := (issued s k 1).prods ++ [{ due := (issued s k 1).cyc + 3, adds := false, value := BitVec.ofNat 64 (((issued s k 1).g a).toNat * ((issued s k 1).g b).toNat) }] })) ∧
    (∀ (s : State) (k : CoreId) (a b : Nat), issues s k (encR 0x22 0 a b) [a, b] 1 = true → a < 32 → b < 32 →
      s.leaves k { (issued s k 1) with prods := (issued s k 1).prods ++ [{ due := (issued s k 1).cyc + 3, adds := true, value := BitVec.ofInt 64 (((issued s k 1).g a).toInt * ((issued s k 1).g b).toInt) }] } .seq = false →
      exec (.mac k a b) s = .next (goOn s k { (issued s k 1) with prods := (issued s k 1).prods ++ [{ due := (issued s k 1).cyc + 3, adds := true, value := BitVec.ofInt 64 (((issued s k 1).g a).toInt * ((issued s k 1).g b).toInt) }] })) ∧
    (∀ (s : State) (k : CoreId), CoreId.exists k = true → (s.celAt (celIdx k)).running = true →
      exec (.multiplierResult k) s = .next (s.setCel (celIdx k) ((s.celAt (celIdx k)).deliver ((s.celAt (celIdx k)).cyc + 1)))) ∧
    (∀ (s : State) (k : CoreId) (d sp : Nat) (v : W32), issues s k (encI 0x23 d 0 sp) [d] 1 = true → d < 32 → sp < 65536 →
      s.special k (issued s k 1) sp = some v → s.leaves k ((issued s k 1).setG d v) .seq = false →
      exec (.mfs k d sp) s = .next (goOn s k ((issued s k 1).setG d v))) ∧
    (∀ (s : State) (k : CoreId) (sp a : Nat) (y : Cel), issues s k (encI 0x24 0 a sp) [a] 1 = true → a < 32 → sp < 65536 →
      (issued s k 1).setSpecial sp ((issued s k 1).g a) = some y → s.leaves k y .seq = false → exec (.mts k sp a) s = .next (goOn s k y))

/-- A machine that issues the instruction goes on in sequence: LDW and STW move a word of its memory at an aligned address of its 64 KiB, PRD takes a value the spec leaves to the port and PWR sets the port, and on a core of die L the loads take the value, the whole entry or four bytes of its block from the frame's snapshot and set LSTAT, and STE and STEX stage the value of an entry that the program may write. -/
def Obligations.CelperMemoryAndLedgerResults : Prop :=
    (∀ (s : State) (k : CoreId) (d a n : Nat) (imm : BitVec 16), issues s k (encI 0x28 d a imm.toNat) [d, a] 1 = true → d < 32 → a < 32 →
      localAddr ((issued s k 1).g a) imm = some n →
      s.leaves k ((issued s k 1).setG d (SMap.get (fun _ => 0#32) (issued s k 1).mem (n / 4))) .seq = false →
      exec (.ldw k d a imm) s = .next (goOn s k ((issued s k 1).setG d (SMap.get (fun _ => 0#32) (issued s k 1).mem (n / 4))))) ∧
    (∀ (s : State) (k : CoreId) (d a n : Nat) (imm : BitVec 16), issues s k (encI 0x29 d a imm.toNat) [d, a] 1 = true → d < 32 → a < 32 →
      localAddr ((issued s k 1).g a) imm = some n →
      s.leaves k { (issued s k 1) with mem := SMap.set (fun _ => 0#32) (issued s k 1).mem (n / 4) ((issued s k 1).g d) } .seq = false →
      exec (.stw k d a imm) s = .next (goOn s k { (issued s k 1) with mem := SMap.set (fun _ => 0#32) (issued s k 1).mem (n / 4) ((issued s k 1).g d) })) ∧
    (∀ (s : State) (k : CoreId) (d port : Nat), issues s k (encI 0x2E d 0 port) [d] 1 = true → d < 32 → port < 65536 →
      s.leaves k (issued s k 1) .seq = false → exec (.prd k d port) s = .next (goOn s.takeFree.2 k ((issued s k 1).setG d (s.takeFree.1.setWidth 32)))) ∧
    (∀ (s : State) (k : CoreId) (a port : Nat), issues s k (encI 0x2F 0 a port) [a] 1 = true → a < 32 → port < 65536 →
      s.leaves k { (issued s k 1) with ports := SMap.set (fun _ => 0#32) (issued s k 1).ports (port % 256) ((issued s k 1).g a) } .seq = false →
      exec (.pwr k a port) s = .next (goOn s k { (issued s k 1) with ports := SMap.set (fun _ => 0#32) (issued s k 1).ports (port % 256) ((issued s k 1).g a) })) ∧
    (∀ (s : State) (k : CoreId) (d index : Nat) (w : Attr), issues s k (encX 0x30 d index) [d] 2 = true → d < 32 → index < 131072 →
      s.attr (index) = some w →
      s.leaves k { (issued s k 2).setG d ((s.snap index).value.setWidth 32) with lstat := s.lstatOf w index } .seq = false →
      exec (.ldv k d index) s = .next (goOn s k { (issued s k 2).setG d ((s.snap index).value.setWidth 32) with lstat := s.lstatOf w index })) ∧
    (∀ (s : State) (k : CoreId) (d a : Nat) (w : Attr), issues s k (encR 0x32 d a 0) [d, a] 2 = true → d < 32 → a < 32 →
      s.attr (((issued s k 2).g a).toNat) = some w →
      s.leaves k { (issued s k 2).setG d ((s.snap (((issued s k 2).g a).toNat)).value.setWidth 32) with lstat := s.lstatOf w (((issued s k 2).g a).toNat) } .seq = false →
      exec (.ldvx k d a) s = .next (goOn s k { (issued s k 2).setG d ((s.snap (((issued s k 2).g a).toNat)).value.setWidth 32) with lstat := s.lstatOf w (((issued s k 2).g a).toNat) })) ∧
    (∀ (s : State) (k : CoreId) (d index : Nat) (w : Attr), issues s k (encX 0x31 d index) [d] 4 = true → index < 131072 → d % 4 = 0 → d ≠ 0 →
      d ≤ 28 → s.attr (index) = some w →
      s.leaves k { ((((issued s k 4).setG d ((s.snap index).value.setWidth 32)).setG (d + 1) (((s.snap index).value >>> 32).setWidth 32)).setG (d + 2) (BitVec.ofNat 32 (s.ageOf index))).setG
        (d + 3) (BitVec.ofNat 32 ((s.snapState index).code + 4 * w.kind + 65536 * ((s.snap index).ucount % 65536))) with lstat := s.lstatOf w index } .seq = false →
      exec (.lde k d index) s = .next (goOn s k { ((((issued s k 4).setG d ((s.snap index).value.setWidth 32)).setG (d + 1) (((s.snap index).value >>> 32).setWidth 32)).setG (d + 2) (BitVec.ofNat 32 (s.ageOf index))).setG
        (d + 3) (BitVec.ofNat 32 ((s.snapState index).code + 4 * w.kind + 65536 * ((s.snap index).ucount % 65536))) with lstat := s.lstatOf w index })) ∧
    (∀ (s : State) (k : CoreId) (d a : Nat) (w : Attr), issues s k (encR 0x33 d a 0) [d, a] 4 = true → a < 32 → d % 4 = 0 → d ≠ 0 → d ≤ 28 →
      s.attr (((issued s k 4).g a).toNat) = some w →
      s.leaves k { ((((issued s k 4).setG d ((s.snap (((issued s k 4).g a).toNat)).value.setWidth 32)).setG (d + 1) (((s.snap (((issued s k 4).g a).toNat)).value >>> 32).setWidth 32)).setG (d + 2) (BitVec.ofNat 32 (s.ageOf (((issued s k 4).g a).toNat)))).setG
        (d + 3) (BitVec.ofNat 32 ((s.snapState (((issued s k 4).g a).toNat)).code + 4 * w.kind + 65536 * ((s.snap (((issued s k 4).g a).toNat)).ucount % 65536))) with lstat := s.lstatOf w (((issued s k 4).g a).toNat) } .seq = false →
      exec (.ldex k d a) s = .next (goOn s k { ((((issued s k 4).setG d ((s.snap (((issued s k 4).g a).toNat)).value.setWidth 32)).setG (d + 1) (((s.snap (((issued s k 4).g a).toNat)).value >>> 32).setWidth 32)).setG (d + 2) (BitVec.ofNat 32 (s.ageOf (((issued s k 4).g a).toNat)))).setG
        (d + 3) (BitVec.ofNat 32 ((s.snapState (((issued s k 4).g a).toNat)).code + 4 * w.kind + 65536 * ((s.snap (((issued s k 4).g a).toNat)).ucount % 65536))) with lstat := s.lstatOf w (((issued s k 4).g a).toNat) })) ∧
    (∀ (s : State) (k : CoreId) (d a b : Nat) (w : Attr), issues s k (encR 0x34 d a b) [d, a, b] 2 = true → d < 32 → a < 32 → b < 32 →
      s.attr (((issued s k 2).g a).toNat) = some w → w.kind = 3 → ((issued s k 2).g b).toNat % 4 = 0 →
      s.leaves k { (issued s k 2).setG d (BitVec.ofNat 32 (byteField (s.snap (((issued s k 2).g a).toNat)).bytes (((issued s k 2).g b).toNat) 4)) with lstat := s.lstatOf w (((issued s k 2).g a).toNat) } .seq = false →
      exec (.ldb k d a b) s = .next (goOn s k { (issued s k 2).setG d (BitVec.ofNat 32 (byteField (s.snap (((issued s k 2).g a).toNat)).bytes (((issued s k 2).g b).toNat) 4)) with lstat := s.lstatOf w (((issued s k 2).g a).toNat) })) ∧
    (∀ (s : State) (k : CoreId) (d index : Nat) (w : Attr), issues s k (encX 0x35 d index) [d] 2 = true → d < 32 → index < 131072 →
      s.attr (index) = some w → w.kind ≠ 3 → (s.img.progAt (issued s k 2).prog).targets.contains (index) = true →
      (w.kind < 2 → 32 < w.width → d ≠ 31) → valueFits w (stagedValue w (issued s k 2) d) = true → s.leaves k (issued s k 2) .seq = false →
      exec (.ste k d index) s = .next (goOn { s with led := { s.led with staged := SMap.put (index) (stagedValue w (issued s k 2) d, 0x1000 + (issued s k 2).prog, []) s.led.staged } } k (issued s k 2))) ∧
    (∀ (s : State) (k : CoreId) (d a : Nat) (w : Attr), issues s k (encR 0x36 d a 0) [d, a] 2 = true → d < 32 → a < 32 →
      s.attr (((issued s k 2).g a).toNat) = some w → w.kind ≠ 3 →
      (s.img.progAt (issued s k 2).prog).targets.contains (((issued s k 2).g a).toNat) = true → (w.kind < 2 → 32 < w.width → d ≠ 31) →
      valueFits w (stagedValue w (issued s k 2) d) = true → s.leaves k (issued s k 2) .seq = false →
      exec (.stex k d a) s = .next (goOn { s with led := { s.led with staged := SMap.put (((issued s k 2).g a).toNat) (stagedValue w (issued s k 2) d, 0x1000 + (issued s k 2).prog, []) s.led.staged } } k (issued s k 2)))

/-- A machine that issues NOP goes on; END ends its run; a conditional branch goes to its target if the condition holds and goes on otherwise, one cycle more if taken; BR, BL and JR go to their target, BL with the next address in the link register; a skip whose condition holds skips the next instruction; a loop with a count of zero goes behind its end, and another one pushes its level; a run that its next instruction would take over its budget is aborted and its core goes on. -/
def Obligations.CelperFlowResults : Prop :=
    (∀ (s : State) (k : CoreId), issues s k (encZ 0x0C 0) [] 1 = true → s.leaves k (issued s k 1) .seq = false →
      exec (.nopInstruction k) s = .next (goOn s k (issued s k 1))) ∧
    (∀ (s : State) (k : CoreId), issues s k (encZ 0x0D 0) [] 1 = true →
      exec (.endI k) s = .next ((s.setCel (celIdx k) { (issued s k 1) with prods := [] }).celEnd k)) ∧
    (∀ (s : State) (k : CoreId) (a b cond : Nat) (off : BitVec 13), issues s k (encC 0x2C a b cond off.toNat) [a, b] 2 = true → a < 32 → b < 32 →
      cond < 8 → condHolds cond ((s.celAt (celIdx k)).g a) ((s.celAt (celIdx k)).g b) = some true →
      s.leaves k (issued s k 2) (.branch (((issued s k 2).pc : Int) + 1 + off.toInt)) = false →
      exec (.bc k a b cond off) s = .next (s.setCel (celIdx k) ((issued s k 2).goTo (.branch (((issued s k 2).pc : Int) + 1 + off.toInt))))) ∧
    (∀ (s : State) (k : CoreId) (a b cond : Nat) (off : BitVec 13), issues s k (encC 0x2C a b cond off.toNat) [a, b] 1 = true → a < 32 → b < 32 →
      cond < 8 → condHolds cond ((s.celAt (celIdx k)).g a) ((s.celAt (celIdx k)).g b) = some false → s.leaves k (issued s k 1) .seq = false →
      exec (.bc k a b cond off) s = .next (goOn s k (issued s k 1))) ∧
    (∀ (s : State) (k : CoreId) (off : BitVec 26), issues s k (encJ 0x38 off.toNat) [] 2 = true →
      s.leaves k (issued s k 2) (.branch (((issued s k 2).pc : Int) + 1 + off.toInt)) = false →
      exec (.br k off) s = .next (s.setCel (celIdx k) ((issued s k 2).goTo (.branch (((issued s k 2).pc : Int) + 1 + off.toInt))))) ∧
    (∀ (s : State) (k : CoreId) (off : BitVec 26), issues s k (encJ 0x39 off.toNat) [] 2 = true →
      s.leaves k ((issued s k 2).setG (if CoreId.isL k then 31 else 15) (BitVec.ofNat 32 ((issued s k 2).pc + 1))) (.jump (((issued s k 2).pc : Int) + 1 + off.toInt)) = false →
      exec (.bl k off) s = .next (s.setCel (celIdx k) (((issued s k 2).setG (if CoreId.isL k then 31 else 15) (BitVec.ofNat 32 ((issued s k 2).pc + 1))).goTo (.jump (((issued s k 2).pc : Int) + 1 + off.toInt))))) ∧
    (∀ (s : State) (k : CoreId) (a : Nat), issues s k (encR 0x3A 0 a 0) [a] 2 = true → a < 32 →
      s.leaves k (issued s k 2) (.jump (((issued s k 2).g a).toNat : Int)) = false →
      exec (.jr k a) s = .next (s.setCel (celIdx k) ((issued s k 2).goTo (.jump (((issued s k 2).g a).toNat : Int))))) ∧
    (∀ (s : State) (k : CoreId) (a b cond : Nat), issues s k (encC 0x3B a b cond 0) [a, b] 1 = true → a < 32 → b < 32 → cond < 8 →
      condHolds cond ((issued s k 1).g a) ((issued s k 1).g b) = some true → s.leaves k (issued s k 1) (.skip) = false →
      exec (.sk k a b cond) s = .next (s.setCel (celIdx k) ((issued s k 1).goTo (.skip)))) ∧
    (∀ (s : State) (k : CoreId) (a b cond : Nat), issues s k (encC 0x3B a b cond 0) [a, b] 1 = true → a < 32 → b < 32 → cond < 8 →
      condHolds cond ((issued s k 1).g a) ((issued s k 1).g b) = some false → s.leaves k (issued s k 1) .seq = false →
      exec (.sk k a b cond) s = .next (goOn s k (issued s k 1))) ∧
    (∀ (s : State) (k : CoreId) (a cond : Nat) (imm : BitVec 16), issues s k (encCI 0x3C a cond imm.toNat) [a] 1 = true → a < 32 → cond < 8 →
      condHolds cond ((issued s k 1).g a) (sx16 imm) = some true → s.leaves k (issued s k 1) (.skip) = false →
      exec (.ski k a cond imm) s = .next (s.setCel (celIdx k) ((issued s k 1).goTo (.skip)))) ∧
    (∀ (s : State) (k : CoreId) (a cond : Nat) (imm : BitVec 16), issues s k (encCI 0x3C a cond imm.toNat) [a] 1 = true → a < 32 → cond < 8 →
      condHolds cond ((issued s k 1).g a) (sx16 imm) = some false → s.leaves k (issued s k 1) .seq = false →
      exec (.ski k a cond imm) s = .next (goOn s k (issued s k 1))) ∧
    (∀ (s : State) (k : CoreId) (mask : BitVec 4), issues s k (encZ 0x3D mask.toNat) [] 1 = true →
      bitOf mask.toNat ((issued s k 1).lstat.toNat % 4) = true → s.leaves k (issued s k 1) (.skip) = false →
      exec (.skst k mask) s = .next (s.setCel (celIdx k) ((issued s k 1).goTo (.skip)))) ∧
    (∀ (s : State) (k : CoreId) (mask : BitVec 4), issues s k (encZ 0x3D mask.toNat) [] 1 = true →
      bitOf mask.toNat ((issued s k 1).lstat.toNat % 4) = false → s.leaves k (issued s k 1) .seq = false →
      exec (.skst k mask) s = .next (goOn s k (issued s k 1))) ∧
    (∀ (s : State) (k : CoreId) (a : Nat) (n : BitVec 16), issues s k (encLP 0x3E a n.toNat) [a] 1 = true → a < 32 → (issued s k 1).g a ≠ 0#32 →
      (issued s k 1).loops = [] → s.inCode k (((issued s k 1).pc + 1 + n.toNat : Nat) : Int) = true →
      s.leaves k (issued s k 1) (.push { ls := (issued s k 1).pc + 1, le := (issued s k 1).pc + 1 + n.toNat, lc := (issued s k 1).g a }) = false →
      exec (.loop k a n) s = .next (s.setCel (celIdx k) ((issued s k 1).goTo (.push { ls := (issued s k 1).pc + 1, le := (issued s k 1).pc + 1 + n.toNat, lc := (issued s k 1).g a })))) ∧
    (∀ (s : State) (k : CoreId) (a : Nat) (n : BitVec 16), issues s k (encLP 0x3E a n.toNat) [a] 1 = true → a < 32 → (issued s k 1).g a = 0#32 →
      (issued s k 1).loops = [] → s.inCode k (((issued s k 1).pc + 1 + n.toNat : Nat) : Int) = true →
      s.leaves k (issued s k 1) (.jump ((((issued s k 1).pc + 1 + n.toNat : Nat) : Int) + 1)) = false →
      exec (.loop k a n) s = .next (s.setCel (celIdx k) ((issued s k 1).goTo (.jump ((((issued s k 1).pc + 1 + n.toNat : Nat) : Int) + 1))))) ∧
    (∀ (s : State) (k : CoreId) (cnt : BitVec 12) (n : BitVec 14), issues s k (encLPI 0x3F cnt.toNat n.toNat) [] 1 = true → cnt.setWidth 32 ≠ 0#32 →
      (issued s k 1).loops = [] → s.inCode k (((issued s k 1).pc + 1 + n.toNat : Nat) : Int) = true →
      s.leaves k (issued s k 1) (.push { ls := (issued s k 1).pc + 1, le := (issued s k 1).pc + 1 + n.toNat, lc := cnt.setWidth 32 }) = false →
      exec (.loopi k cnt n) s = .next (s.setCel (celIdx k) ((issued s k 1).goTo (.push { ls := (issued s k 1).pc + 1, le := (issued s k 1).pc + 1 + n.toNat, lc := cnt.setWidth 32 })))) ∧
    (∀ (s : State) (k : CoreId) (cnt : BitVec 12) (n : BitVec 14), issues s k (encLPI 0x3F cnt.toNat n.toNat) [] 1 = true → cnt.setWidth 32 = 0#32 →
      (issued s k 1).loops = [] → s.inCode k (((issued s k 1).pc + 1 + n.toNat : Nat) : Int) = true →
      s.leaves k (issued s k 1) (.jump ((((issued s k 1).pc + 1 + n.toNat : Nat) : Int) + 1)) = false →
      exec (.loopi k cnt n) s = .next (s.setCel (celIdx k) ((issued s k 1).goTo (.jump ((((issued s k 1).pc + 1 + n.toNat : Nat) : Int) + 1))))) ∧
    (∀ (s : State) (c : Nat), c < 8 → (s.celAt c).running = true →
      s.exceeds (.reflex c) (if (s.celAt c).skip then 1 else wordCost (s.codeWord c)) = true →
      exec (.budgetAbort c) s = .next (let s1 := (s.abortRun c 1 0).dispatchCore c
      s1.setCel c { s1.celAt c with stopAt := some s.now }))

/-- A step at a state whose queue begins with the command c is exec of c at the state with the rest of the queue. On an empty queue a step is one clock tick of every island (the model's choice, log entry 2: the spec's table has no row for a tick). -/
def Obligations.StepRunsFrontCommand : Prop :=
    (∀ (c : Instr) (rest : List Instr) (s : State), s.pending = c :: rest → step s = exec c { s with pending := rest }) ∧
    (∀ s : State, s.pending = [] → step s = .next s.clockTick)

/-- The rows of the table give no bits: decodeTableWord answers none on every word, and withFetchWord leaves the state as it is. -/
def Obligations.NoWordSpellsACommand : Prop :=
    ∀ (nbits w : Nat) (s : State), decodeTableWord nbits w = none ∧ s.withFetchWord nbits w = s

/-- In the state after reset every word that a register table lists reads the reset value that the table gives it; the queue of commands is empty, no operation is in flight and no bank byte is written. -/
def Obligations.ResetRegisterValues : Prop :=
    (∀ (off : Nat) (r : RegRow), regRow off = some r → State.reset.word off = BitVec.ofNat 32 r.reset) ∧
    State.reset.pending = [] ∧ State.reset.host.ops = [] ∧ State.reset.cfg.bytesA = [] ∧ State.reset.cfg.bytesB = []

/-- The one-time-programmable counts of the state after reset are within their limits, and its register file is in canonical form. -/
def Obligations.ResetIsSafe : Prop :=
    OtpLegal State.reset ∧ RegsCanonical State.reset

/-- For every command and every state exec answers a next state, not a fault and not a refusal, whose queue is that of the state before: a command whose condition is not met completes its operation as the rules say or changes nothing (log entry 1). -/
def Obligations.EveryCommandCompletes : Prop :=
    ∀ (c : Instr) (s : State), ∃ t, exec c s = .next t ∧ t.pending = s.pending

/-- Whatever the command and the state, if the counts are within their limits (255 raises of MINVER, 16 debug unlocks, three life cycle states, four provisionings of each root slot), a step that answers a next state leaves them within their limits, and it either changes none of them or moves one: MINVER to a higher value with RAISES + 1, the life cycle by one state, the count of one root slot by 1, or the debug count by 1. -/
def Obligations.OneTimeCountsOnlyAdvance : Prop :=
    ∀ s t : State, OtpLegal s → step s = .next t → OtpLegal t ∧ OtpMove s t.otp

/-- If the register file is in canonical form (offsets strictly rising, no word listed at its reset value), it is so after every step: equal register contents are equal data, and the read-back statements may assume it. -/
def Obligations.RegisterFileStaysCanonical : Prop :=
    ∀ s t : State, RegsCanonical s → step s = .next t → RegsCanonical t

/-- In a canonical register file, writing a field of at most 32 bits of its word makes that field read the value modulo its width; every field of another word and every field of the same word that shares no bit with it reads as before; nothing but the register file changes. -/
def Obligations.FieldWriteAndRead : Prop :=
    ∀ (s : State) (f : Fld) (v : Nat), RegsCanonical s → f.lo + f.w ≤ 32 →
      (s.wr f v).rd f = v % 2 ^ f.w ∧
      (∀ g : Fld, g.off ≠ f.off ∨ g.lo + g.w ≤ f.lo ∨ f.lo + f.w ≤ g.lo → (s.wr f v).rd g = s.rd g) ∧
      s.wr f v = { s with regs := (s.wr f v).regs }

/-- Storing a string of bytes at an offset of a bank memory in canonical form makes each of its bytes read back at its place, leaves every byte outside them as it was, and keeps the canonical form; so CFG_WRITE keeps that of both banks. -/
def Obligations.BankBytesWriteAndRead : Prop :=
    (∀ (m : SMap Byte) (off : Nat) (bs : List Byte), Memory.wf m = true →
      Memory.wf (bankPut m off bs) = true ∧
      (∀ (i : Nat) (b : Byte), bs[i]? = some b → SMap.get (fun _ => 0#8) (bankPut m off bs) (off + i) = b) ∧
      (∀ a : Nat, a < off ∨ off + bs.length ≤ a → SMap.get (fun _ => 0#8) (bankPut m off bs) a = SMap.get (fun _ => 0#8) m a)) ∧
    (∀ (s u : State) (t : Nat) (x : ReadResult), Memory.wf s.cfg.bytesA = true → Memory.wf s.cfg.bytesB = true → exec (.cfgWrite t x) s = .next u →
      Memory.wf u.cfg.bytesA = true ∧ Memory.wf u.cfg.bytesB = true)

/-- For two updates that carry a value and have different order keys, an entry that meets both at a tick ends the same in either order: value, state, stamp, deadline, source and count. (An INVALID update leaves VALUE alone by R51, so this is not claimed of it.) -/
def Obligations.LedgerOrderDoesNotMatter : Prop :=
    ∀ (e : Entry) (f t : Nat) (u v : Upd), u.kind ≠ .invalid → v.kind ≠ .invalid → u.key ≠ v.key →
      (e.apply f u t).apply f v t = (e.apply f v t).apply f u t

/-- An update of a defined entry that is not a blob, from the producer that owns the entry and not of one that the image keeps in NEVER, on time and with nothing to expire, whose order key is lower than or equal to that of the update that set the entry, leaves the live entry as it is but for UCOUNT, which advances by 1, and advances LEDG_UPDCNT and LEDG_SUPCNT. -/
def Obligations.SupersededUpdate : Prop :=
    ∀ (s : State) (a : Attr) (u : Upd), s.attr u.idx = some a → a.owner = u.own → s.unfed u.idx = false → a.kind ≠ 3 → s.lateStamp u.stamp = false → u.key.gt (s.live u.idx).key = false →
      (s.live u.idx).stateAt s.now = (s.live u.idx).state →
      (s.commit u).led.live = SMap.set Entry.blank s.led.live u.idx { s.live u.idx with ucount := ((s.live u.idx).ucount + 1) % 2 ^ 32 } ∧
      (s.commit u).regs = (((s.commitBase a u).count64 Reg.LEDG_UPDCNT.N).count Reg.LEDG_SUPCNT.N 1).regs

/-- Outside MANUFACTURE an accepted EVR_CLEAR completes CONFIG_MISMATCH. In MANUFACTURE it leaves every slot empty but the one of the record 0x0FE3 that it then writes, so that EVR_WCNT, set to 0, reads 1, and it keeps the operating seconds, the power-cycle count and the candle latch. -/
def Obligations.RecorderClear : Prop :=
    ∀ (s : State) (t : Nat) (o : HostOp), s.opReady t 0x5A = some o →
      (s.otp.life ≠ 0 → exec (.evrClear t) s = .next ((s.begin t).complete t St.configMismatch)) ∧
      (s.otp.life = 0 → RegsCanonical s → ∃ q, exec (.evrClear t) s = .next q ∧
        (∀ k, q.evSlot k = if k = 0 then { code := 0x0FE3, tick := s.now, opsec := s.rd Reg.EVR_OPSEC.N, pcyc := s.rd Reg.EVR_PCYC.N } else {}) ∧
        q.rd Reg.EVR_WCNT.N = 1 ∧ q.rd Reg.EVR_OPSEC.N = s.rd Reg.EVR_OPSEC.N ∧ q.rd Reg.EVR_PCYC.N = s.rd Reg.EVR_PCYC.N ∧ q.pow.latch = s.pow.latch)

/-- On a sequencer, a BC whose comparison holds has the effect of the BR with the sign-extended offset, in its target, its cycles and what it leaves of the loops; one whose comparison does not hold goes on at the next address. -/
def Obligations.CompareAndBranch : Prop :=
    ∀ (s : State) (k : CoreId) (a b cond : Nat) (off : BitVec 13), CoreId.isL k = false →
      (issues s k (encC 0x2C a b cond off.toNat) [a, b] 2 = true → condHolds cond ((s.celAt (celIdx k)).g a) ((s.celAt (celIdx k)).g b) = some true →
        exec (.bc k a b cond off) s = exec (.br k (off.signExtend 26)) s) ∧
      (issues s k (encC 0x2C a b cond off.toNat) [a, b] 1 = true → condHolds cond ((s.celAt (celIdx k)).g a) ((s.celAt (celIdx k)).g b) = some false →
        s.leaves k (issued s k 1) .seq = false → exec (.bc k a b cond off) s = .next (goOn s k (issued s k 1)))

/-- In the life cycle state RETIRED each of CFG_COMMIT, CFG_ROLLBACK, DEBUG_UNLOCK and TEST_MODE completes CONFIG_MISMATCH with reason 10, and has no other effect. So do CFG_WRITE, CFG_RAISEMIN, LIFECYCLE and ROOT_PROVISION whose body is well formed (the offset and length of CFG_WRITE within the bank and multiples of 4; a minimum above the current one and at most the ACTIVE bank's VERSION; the next state and its check byte; a root and a key slot that exist); each of these four whose body is not well formed completes INVALID_REQUEST, which R12 puts first, and has no other effect. -/
def Obligations.RetiredRefusesConfiguration : Prop :=
    ∀ (s : State) (t : Nat) (x : ReadResult) (o : HostOp), s.otp.life = 2 →
      (s.opReady t 0x61 = some o → exec (.cfgCommit t) s = .next (s.cfgDone t 0x61 St.configMismatch 10)) ∧
      (s.opReady t 0x62 = some o → exec (.cfgRollback t) s = .next (s.cfgDone t 0x62 St.configMismatch 10)) ∧
      (s.opReady t 0x67 = some o → exec (.debugUnlock t) s = .next (s.cfgDone t 0x67 St.configMismatch 10)) ∧
      (s.opReady t 0x68 = some o → exec (.testMode t) s = .next (s.cfgDone t 0x68 St.configMismatch 10)) ∧
      (s.opReady t 0x60 = some o → (o.fld 20 4 % 4 = 0 ∧ 4 ≤ o.fld 32 4 ∧ o.fld 32 4 ≤ 65536 ∧ o.fld 32 4 % 4 = 0 ∧ o.fld 20 4 + o.fld 32 4 ≤ 2097152) → exec (.cfgWrite t x) s = .next (s.cfgDone t 0x60 St.configMismatch 10)) ∧
      (s.opReady t 0x60 = some o → ¬(o.fld 20 4 % 4 = 0 ∧ 4 ≤ o.fld 32 4 ∧ o.fld 32 4 ≤ 65536 ∧ o.fld 32 4 % 4 = 0 ∧ o.fld 20 4 + o.fld 32 4 ≤ 2097152) → exec (.cfgWrite t x) s = .next (s.cfgDone t 0x60 St.invalid)) ∧
      (s.opReady t 0x64 = some o → (s.hasBank = true ∧ s.otp.minver < o.fld 20 4 ∧ o.fld 20 4 ≤ s.rd (Reg.CFG_BVER.VERSION s.activeBank)) → exec (.cfgRaisemin t) s = .next (s.cfgDone t 0x64 St.configMismatch 10)) ∧
      (s.opReady t 0x64 = some o → ¬(s.hasBank = true ∧ s.otp.minver < o.fld 20 4 ∧ o.fld 20 4 ≤ s.rd (Reg.CFG_BVER.VERSION s.activeBank)) → exec (.cfgRaisemin t) s = .next (s.cfgDone t 0x64 St.invalid)) ∧
      (s.opReady t 0x65 = some o → (o.fld 16 1 = s.otp.life + 1 ∧ o.fld 17 1 = 0xA5) → exec (.lifecycle t) s = .next (s.cfgDone t 0x65 St.configMismatch 10)) ∧
      (s.opReady t 0x65 = some o → ¬(o.fld 16 1 = s.otp.life + 1 ∧ o.fld 17 1 = 0xA5) → exec (.lifecycle t) s = .next (s.cfgDone t 0x65 St.invalid)) ∧
      (s.opReady t 0x66 = some o → (o.fld 16 1 ≤ 3 ∧ (o.fld 17 1 = 0xFF ∨ o.fld 17 1 < 64 ∧ s.rd (Reg.CRY_SLOT.STATE (o.fld 17 1)) = 1 ∧ bitOf (s.rd (Reg.CRY_SLOT.MODES (o.fld 17 1))) 4 = true)) → exec (.rootProvision t x) s = .next (s.cfgDone t 0x66 St.configMismatch 10)) ∧
      (s.opReady t 0x66 = some o → ¬(o.fld 16 1 ≤ 3 ∧ (o.fld 17 1 = 0xFF ∨ o.fld 17 1 < 64 ∧ s.rd (Reg.CRY_SLOT.STATE (o.fld 17 1)) = 1 ∧ bitOf (s.rd (Reg.CRY_SLOT.MODES (o.fld 17 1))) 4 = true)) → exec (.rootProvision t x) s = .next (s.cfgDone t 0x66 St.invalid))

/-- On a core of die L whose next instruction is to be skipped and fits the budget with one cycle, a MUL, LOOP, BR, END or STW (each whatever its operands) charges one cycle, clears the skip and goes on in sequence: no product, no level, no branch, no end and no store. -/
def Obligations.SkippedInstruction : Prop :=
    ∀ (s : State) (c a b d : Nat) (n imm : BitVec 16) (off : BitVec 26) (k : CoreId) (y : Cel), k = .reflex c → c < 8 →
      (s.celAt c).running = true → (s.celAt c).skip = true → s.exceeds k 1 = false → y = { issued s k 1 with skip := false } → s.leaves k y .seq = false →
      (a < 32 ∧ b < 32 → s.codeWord c = encR 0x20 0 a b → exec (.mul k a b) s = .next (goOn s k y)) ∧
      (a < 32 → s.codeWord c = encLP 0x3E a n.toNat → exec (.loop k a n) s = .next (goOn s k y)) ∧
      (s.codeWord c = encJ 0x38 off.toNat → exec (.br k off) s = .next (goOn s k y)) ∧
      (s.codeWord c = encZ 0x0D 0 → exec (.endI k) s = .next (goOn s k y)) ∧
      (d < 32 ∧ a < 32 → s.codeWord c = encI 0x29 d a imm.toNat → exec (.stw k d a imm) s = .next (goOn s k y))

/-- The effects in the other statements are made of named operations on registers, faults, events, links, units, requests and completions. Each leaves every part of the state alone but those it is named for: a register write the register file; a raise of die L the collector's queue, one of a die the links; an event the recorder's queue and the loss counter; a completion the host interface, what it sends and, at the end of a drained ring, the queue of raises. -/
def Obligations.OperationFrames : Prop :=
    (∀ (s : State) (f : Fld), s.raiseFlag f = { s with regs := (s.raiseFlag f).regs, hwSet := (s.raiseFlag f).hwSet }) ∧
    (∀ (s : State) (f : Fld) (v : Nat), s.wr f v = { s with regs := (s.wr f v).regs }) ∧
    (∀ (s : State) (f : Fld) (v : Nat), s.wr64 f v = { s with regs := (s.wr64 f v).regs }) ∧
    (∀ (s : State) (f : Fld) (n : Nat), s.count f n = { s with regs := (s.count f n).regs }) ∧
    (∀ (s : State) (x : Output), s.emit x = { s with out := (s.emit x).out }) ∧
    (∀ (s : State) (a b c : Nat), s.raiseL a b c = { s with flt := (s.raiseL a b c).flt }) ∧
    (∀ (s : State) (d : Die) (a b c : Nat), s.raiseD d a b c = { s with linkP0 := (s.raiseD d a b c).linkP0, linkP1 := (s.raiseD d a b c).linkP1, linkV := (s.raiseD d a b c).linkV }) ∧
    (∀ (s : State) (a b c d e : Nat), s.event a b c d e = { s with evr := (s.event a b c d e).evr, regs := (s.event a b c d e).regs }) ∧
    (∀ (s : State) (a b c d e : Nat), s.faultL a b c d e = { s with flt := (s.faultL a b c d e).flt, evr := (s.faultL a b c d e).evr, regs := (s.faultL a b c d e).regs }) ∧
    (∀ (s : State) (x : Die) (a b c d e : Nat), s.faultD x a b c d e = { s with linkP0 := (s.faultD x a b c d e).linkP0, linkP1 := (s.faultD x a b c d e).linkP1, linkV := (s.faultD x a b c d e).linkV, evr := (s.faultD x a b c d e).evr, regs := (s.faultD x a b c d e).regs }) ∧
    (∀ (s : State) (t : Nat), s.begin t = { s with host := (s.begin t).host }) ∧
    (∀ (s : State) (d : Die) (l : DieLink), s.setLink d l = { s with linkP0 := (s.setLink d l).linkP0, linkP1 := (s.setLink d l).linkP1, linkV := (s.setLink d l).linkV }) ∧
    (∀ (s : State) (d : Die) (a : DieAna), s.setAna d a = { s with anaP0 := (s.setAna d a).anaP0, anaP1 := (s.setAna d a).anaP1, anaV := (s.setAna d a).anaV }) ∧
    (∀ (s : State) (n : Nat) (x : Chan), s.setChan n x = { s with ch := (s.setChan n x).ch }) ∧
    (∀ (s : State) (n : Nat) (x : Motor), s.setMotor n x = { s with mu := (s.setMotor n x).mu }) ∧
    (∀ (s : State) (n : Nat) (x : Valve), s.setValve n x = { s with vl := (s.setValve n x).vl }) ∧
    (∀ (s : State) (n : Nat) (x : Bank), s.setBank n x = { s with vb := (s.setBank n x).vb }) ∧
    (∀ (s : State) (n : Nat) (x : LedSink), s.setSink n x = { s with ld := (s.setSink n x).ld }) ∧
    (∀ (s : State) (n : Nat) (x : Input), s.setInput n x = { s with inp := (s.setInput n x).inp }) ∧
    (∀ (s : State) (n : Nat) (x : CanCtl), s.setCanC n x = { s with can := (s.setCanC n x).can }) ∧
    (∀ (s : State) (n : Nat) (x : LinCh), s.setLinC n x = { s with lin := (s.setLinC n x).lin }) ∧
    (∀ (s : State) (n : Nat) (x : EthPort), s.setEthP n x = { s with eth := (s.setEthP n x).eth }) ∧
    (∀ (s : State) (n : Nat) (x : CryUnit), s.setCryU n x = { s with cry := (s.setCryU n x).cry }) ∧
    (∀ (s : State) (n : Nat) (x : FltRec), s.setFltRec n x = { s with flt := (s.setFltRec n x).flt }) ∧
    (∀ (s : State) (n : Nat) (x : Cel), s.setCel n x = { s with cel := (s.setCel n x).cel }) ∧
    (∀ (s : State) (t a b c : Nat) (r : List Byte) (w : List (Nat × List Byte)), s.complete t a b c r w = { s with host := (s.complete t a b c r w).host, out := (s.complete t a b c r w).out, flt := (s.complete t a b c r w).flt })

/-- A write to g0 leaves the machine as it is and g0 reads 0. -/
def Obligations.ZeroRegister : Prop :=
    (∀ (x : Cel) (v : W32), x.setG 0 v = x ∧ x.g 0 = 0#32)

/-- When a core takes a SLOT_RETIRE of a READY slot, the slot becomes RETIRED, the event is recorded and the request completes OK; when it takes a SLOT_CLEAR, the key and the record of the slot are zeroed whatever its state, it reads EMPTY with MODES, root, key length and N zero and its epoch kept, the event is recorded and the request completes OK. While a running request names the slot, the core does not take either. -/
def Obligations.SlotOperations : Prop :=
    (∀ (s : State) (k : Nat) (r : CryReq), s.cryNext k = some r → k < 2 → s.crySt = 2 → (s.cryU k).cur = none → r.internal = false →
      (r.opcode = 0x33 → s.rd (Reg.CRY_SLOT.STATE (r.fld 16 1)) = 1 → exec (.cipherRequestStart k) s =
        .next ((((({ s with cry := { s.cry with queue := s.cry.queue.erase r } } : State).setCryU k { s.cryU k with cur := none }).wr (Reg.CRY_SLOT.STATE (r.fld 16 1)) 2).slotEvent (r.fld 16 1) 0x33).cryDone r St.ok 0 [] [])) ∧
      (r.opcode = 0x34 → exec (.cipherRequestStart k) s = .next ((((({ s with cry := { s.cry with queue := s.cry.queue.erase r } } : State).setCryU k { s.cryU k with cur := none }).emptySlot (r.fld 16 1)).slotEvent (r.fld 16 1) 0x34).cryDone r St.ok 0 [] []))) ∧
    (∀ (s : State) (i : Nat), RegsCanonical s → i < 64 →
      (s.emptySlot i).cry.slots = SMap.set Kennel.blank s.cry.slots i {} ∧ (s.emptySlot i).rd (Reg.CRY_SLOT.STATE i) = 0 ∧
      (s.emptySlot i).rd (Reg.CRY_SLOT.MODES i) = 0 ∧ (s.emptySlot i).rd (Reg.CRY_SLOT.ROOT i) = 0 ∧ (s.emptySlot i).rd (Reg.CRY_SLOT.KEYLEN i) = 0 ∧
      (s.emptySlot i).rd (Reg.CRY_NONCE.N i) = 0 ∧ (s.emptySlot i).rd (Reg.CRY_SLOT.EPOCH i) = s.rd (Reg.CRY_SLOT.EPOCH i)) ∧
    (∀ (s : State) (k : Nat) (r : CryReq), k < 2 → r.opcode = 0x33 ∨ r.opcode = 0x34 → r.internal = false → s.cry.queue.find? (fun q => q.internal) = none →
      s.cry.queue.find? (fun q => !q.internal && decide (q.opcode ≠ 0x31)) = some r → s.slotBusy (r.fld 16 1) = true → exec (.cipherRequestStart k) s = .next s)
end

