-- ==== Sys2Proof/Laws/Map.lean ====
section
/-! SUPPORT. Sparse lists: what is read after a write, and that a write keeps the canonical form. -/

namespace Sys2Proof.Machine

variable {α : Type}

theorem SMap.sortedAbove_of_le {b c : Nat} (h : c ≤ b) (m : SMap α) (hm : SMap.sortedAbove b m = true) : SMap.sortedAbove c m = true := by
  cases m with
  | nil => rfl
  | cons p m => simp [SMap.sortedAbove] at hm ⊢; exact ⟨by omega, hm.2⟩

theorem SMap.sorted_of_above {b : Nat} (m : SMap α) (hm : SMap.sortedAbove b m = true) : SMap.sorted m = true := by
  cases m with
  | nil => rfl
  | cons p m => simp [SMap.sortedAbove] at hm; exact hm.2

theorem SMap.get_of_above (d : Nat → α) {b k : Nat} (h : k ≤ b) (m : SMap α) (hm : SMap.sortedAbove b m = true) : SMap.get d m k = d k := by
  cases m with
  | nil => rfl
  | cons p m => obtain ⟨k', v⟩ := p; simp [SMap.sortedAbove] at hm; simp only [SMap.get]; rw [if_neg (by omega), if_pos (by omega)]

@[simp] theorem SMap.get_put_self (d : Nat → α) (k : Nat) (v : α) (m : SMap α) : SMap.get d (SMap.put k v m) k = v := by
  induction m with
  | nil => simp [SMap.put, SMap.get]
  | cons p m ih =>
    obtain ⟨k', v'⟩ := p; simp only [SMap.put]; split
    · simp [SMap.get]
    · split
      · simp [SMap.get]
      · simp_all [SMap.get]

theorem SMap.get_put_ne (d : Nat → α) {k j : Nat} (h : j ≠ k) (v : α) (m : SMap α) : SMap.get d (SMap.put k v m) j = SMap.get d m j := by
  induction m with
  | nil => simp [SMap.put, SMap.get, h]
  | cons p m ih =>
    obtain ⟨k', v'⟩ := p; simp only [SMap.put]; split
    · subst_vars; simp [SMap.get, h]
    · split
      · simp only [SMap.get]; split
        · omega
        · split
          · rw [if_neg (by omega), if_pos (by omega)]
          · rfl
      · simp only [SMap.get, ih]

theorem SMap.get_del_self (d : Nat → α) (k : Nat) (m : SMap α) (hm : SMap.sorted m = true) : SMap.get d (SMap.del k m) k = d k := by
  induction m with
  | nil => rfl
  | cons p m ih =>
    obtain ⟨k', v'⟩ := p; simp only [SMap.sorted] at hm; simp only [SMap.del]; split
    · exact SMap.get_of_above d (by omega) m hm
    · split
      · simp only [SMap.get]; rw [if_neg (by omega), if_pos (by omega)]
      · simp only [SMap.get]; rw [if_neg (by omega), if_neg (by omega)]; exact ih (SMap.sorted_of_above m hm)

theorem SMap.get_del_ne (d : Nat → α) {k j : Nat} (h : j ≠ k) (m : SMap α) (hm : SMap.sorted m = true) :
    SMap.get d (SMap.del k m) j = SMap.get d m j := by
  induction m with
  | nil => rfl
  | cons p m ih =>
    obtain ⟨k', v'⟩ := p; simp only [SMap.sorted] at hm; simp only [SMap.del]; split
    · subst_vars; simp only [SMap.get]; rw [if_neg h]; split
      · exact SMap.get_of_above d (by omega) m hm
      · rfl
    · split
      · rfl
      · simp only [SMap.get, ih (SMap.sorted_of_above m hm)]

/-- A read after a write to the same key gives what was written. -/
theorem SMap.get_set_self [DecidableEq α] (d : Nat → α) (m : SMap α) (k : Nat) (v : α) (hm : SMap.wf d m = true) :
    SMap.get d (SMap.set d m k v) k = v := by
  simp only [SMap.wf, Bool.and_eq_true] at hm; unfold SMap.set; split
  · rw [SMap.get_del_self d k m hm.1]; exact Eq.symm ‹_›
  · simp

/-- A write leaves every other key alone. -/
theorem SMap.get_set_ne [DecidableEq α] (d : Nat → α) (m : SMap α) {k j : Nat} (h : j ≠ k) (v : α) (hm : SMap.wf d m = true) :
    SMap.get d (SMap.set d m k v) j = SMap.get d m j := by
  simp only [SMap.wf, Bool.and_eq_true] at hm; unfold SMap.set; split
  · exact SMap.get_del_ne d h m hm.1
  · exact SMap.get_put_ne d h v m

theorem SMap.put_above {b k : Nat} (h : b < k) (v : α) (m : SMap α) (hm : SMap.sortedAbove b m = true) : SMap.sortedAbove b (SMap.put k v m) = true := by
  induction m generalizing b with
  | nil => simp [SMap.put, SMap.sortedAbove, h]
  | cons p m ih =>
    obtain ⟨k', v'⟩ := p; simp [SMap.sortedAbove] at hm; simp only [SMap.put]; split
    · subst_vars; simp [SMap.sortedAbove, hm]
    · split
      · simp [SMap.sortedAbove, h, hm.2]; assumption
      · simp [SMap.sortedAbove, hm.1]; exact ih (by omega) hm.2

theorem SMap.del_above {b : Nat} (k : Nat) (m : SMap α) (hm : SMap.sortedAbove b m = true) : SMap.sortedAbove b (SMap.del k m) = true := by
  induction m generalizing b with
  | nil => rfl
  | cons p m ih =>
    obtain ⟨k', v'⟩ := p; simp [SMap.sortedAbove] at hm; simp only [SMap.del]; split
    · exact SMap.sortedAbove_of_le (Nat.le_of_lt hm.1) m hm.2
    · split
      · simp [SMap.sortedAbove, hm]
      · simp [SMap.sortedAbove, hm.1]; exact ih hm.2

theorem SMap.put_sorted (k : Nat) (v : α) (m : SMap α) (hm : SMap.sorted m = true) : SMap.sorted (SMap.put k v m) = true := by
  cases m with
  | nil => rfl
  | cons p m =>
    obtain ⟨k', v'⟩ := p; simp only [SMap.sorted] at hm; simp only [SMap.put]; split
    · subst_vars; exact hm
    · split
      · simp [SMap.sorted, SMap.sortedAbove, hm]; assumption
      · exact SMap.put_above (by omega) v m hm

theorem SMap.del_sorted (k : Nat) (m : SMap α) (hm : SMap.sorted m = true) : SMap.sorted (SMap.del k m) = true := by
  cases m with
  | nil => rfl
  | cons p m =>
    obtain ⟨k', v'⟩ := p; simp only [SMap.sorted] at hm; simp only [SMap.del]; split
    · exact SMap.sorted_of_above m hm
    · split
      · exact hm
      · exact SMap.del_above k m hm

theorem SMap.put_mem (k : Nat) (v : α) (m : SMap α) (p : Nat × α) (h : p ∈ SMap.put k v m) : p = (k, v) ∨ p ∈ m := by
  induction m with
  | nil => simpa [SMap.put] using h
  | cons q m ih =>
    obtain ⟨k', v'⟩ := q; simp only [SMap.put] at h; split at h
    · simp only [List.mem_cons] at h ⊢; exact h.imp_right .inr
    · split at h
      · simpa using h
      · simp only [List.mem_cons] at h ⊢
        obtain h | h := h
        · exact .inr (.inl h)
        · exact (ih h).imp_right .inr

theorem SMap.del_mem (k : Nat) (m : SMap α) (p : Nat × α) (h : p ∈ SMap.del k m) : p ∈ m := by
  induction m with
  | nil => simp [SMap.del] at h
  | cons q m ih =>
    obtain ⟨k', v'⟩ := q; simp only [SMap.del] at h; split at h
    · exact List.mem_cons_of_mem _ h
    · split at h
      · exact h
      · simp only [List.mem_cons] at h ⊢; exact h.imp_right ih

/-- A write keeps the canonical form. -/
theorem SMap.wf_set [DecidableEq α] (d : Nat → α) (m : SMap α) (k : Nat) (v : α) (hm : SMap.wf d m = true) : SMap.wf d (SMap.set d m k v) = true := by
  simp only [SMap.wf, Bool.and_eq_true, List.all_eq_true, decide_eq_true_eq] at hm ⊢; unfold SMap.set; split
  · exact ⟨SMap.del_sorted k m hm.1, fun p hp => hm.2 p (SMap.del_mem k m p hp)⟩
  · refine ⟨SMap.put_sorted k v m hm.1, fun p hp => ?_⟩
    obtain rfl | hp := SMap.put_mem k v m p hp
    · assumption
    · exact hm.2 p hp

@[simp] theorem SMap.wf_nil [DecidableEq α] (d : Nat → α) : SMap.wf d ([] : SMap α) = true := rfl

end Sys2Proof.Machine
end

