-- ==== Sys2Proof/Laws/CanonUnits.lean ====
section
/-! SUPPORT. The register file stays canonical under the operations of the units of the dies and what they share. -/

namespace Sys2Proof.Machine

/-- A fold of steps that keep the register file canonical keeps it canonical. -/
@[simp] theorem foldl_canon {α : Type} (f : State → α → State) (h : ∀ s x, SMap.wf resetWord s.regs = true → SMap.wf resetWord (f s x).regs = true) (l : List α)
    (s : State) (hc : SMap.wf resetWord s.regs = true) : SMap.wf resetWord (l.foldl f s).regs = true := by
  induction l generalizing s with
  | nil => exact hc
  | cons a l ih => exact ih _ (h s a hc)

@[simp] theorem State.setWord_canon (s : State) (off : Nat) (v : W32) (hc : SMap.wf resetWord s.regs = true) :
    SMap.wf resetWord (State.setWord s off v).regs = true := SMap.wf_set _ _ _ _ hc
@[simp] theorem State.wr_canon (s : State) (f : Fld) (v : Nat) (hc : SMap.wf resetWord s.regs = true) :
    SMap.wf resetWord (State.wr s f v).regs = true := by simp (maxDischargeDepth := 30) [State.wr, hc]
@[simp] theorem State.wr64_canon (s : State) (f : Fld) (v : Nat) (hc : SMap.wf resetWord s.regs = true) :
    SMap.wf resetWord (State.wr64 s f v).regs = true := by simp (maxDischargeDepth := 30) [State.wr64, hc]
@[simp] theorem State.count_canon (s : State) (f : Fld) (n : Nat) (hc : SMap.wf resetWord s.regs = true) :
    SMap.wf resetWord (State.count s f n).regs = true := by simp (maxDischargeDepth := 30) [State.count, hc]
@[simp] theorem State.raiseBits_canon (s : State) (off : Nat) (m : W32) (hc : SMap.wf resetWord s.regs = true) :
    SMap.wf resetWord (State.raiseBits s off m).regs = true := by simp (maxDischargeDepth := 30) [State.raiseBits, hc]
@[simp] theorem State.raiseFlag_canon (s : State) (f : Fld) (hc : SMap.wf resetWord s.regs = true) :
    SMap.wf resetWord (State.raiseFlag s f).regs = true := by simp (maxDischargeDepth := 30) [State.raiseFlag, hc]
@[simp] theorem State.count64_canon (s : State) (f : Fld) (hc : SMap.wf resetWord s.regs = true) :
    SMap.wf resetWord (State.count64 s f).regs = true := by simp (maxDischargeDepth := 30) [State.count64, hc]
@[simp] theorem State.setIsl_canon (s : State) (d : Die) (i : Island) (hc : SMap.wf resetWord s.regs = true) :
    SMap.wf resetWord (State.setIsl s d i).regs = true := by unfold State.setIsl; split <;> simp (maxDischargeDepth := 30) [hc]
@[simp] theorem State.setLink_canon (s : State) (d : Die) (l : DieLink) (hc : SMap.wf resetWord s.regs = true) :
    SMap.wf resetWord (State.setLink s d l).regs = true := by unfold State.setLink; split <;> simp (maxDischargeDepth := 30) [hc]
@[simp] theorem State.sendDown_canon (s : State) (d : Die) (m : DownMsg) (hc : SMap.wf resetWord s.regs = true) :
    SMap.wf resetWord (State.sendDown s d m).regs = true := by simp (maxDischargeDepth := 30) [State.sendDown, hc]
@[simp] theorem State.setLocked_canon (s : State) (d : Die) (b : Bool) (hc : SMap.wf resetWord s.regs = true) :
    SMap.wf resetWord (State.setLocked s d b).regs = true := by simp (maxDischargeDepth := 30) [State.setLocked, hc]
@[simp] theorem State.clockTick_canon (s : State) (hc : SMap.wf resetWord s.regs = true) :
    SMap.wf resetWord (State.clockTick s).regs = true := by simp (maxDischargeDepth := 30) [State.clockTick, hc]
@[simp] theorem State.takeFree_canon (s : State) (hc : SMap.wf resetWord s.regs = true) :
    SMap.wf resetWord (s.takeFree).2.regs = true := by simp (maxDischargeDepth := 30) [State.takeFree, hc]
@[simp] theorem State.emit_canon (s : State) (o : Output) (hc : SMap.wf resetWord s.regs = true) :
    SMap.wf resetWord (State.emit s o).regs = true := by simp (maxDischargeDepth := 30) [State.emit, hc]
@[simp] theorem State.setCel_canon (s : State) (i : Nat) (x : Cel) (hc : SMap.wf resetWord s.regs = true) :
    SMap.wf resetWord (State.setCel s i x).regs = true := by simp (maxDischargeDepth := 30) [State.setCel, hc]
@[simp] theorem State.seqStart_canon (s : State) (i : Nat) (hc : SMap.wf resetWord s.regs = true) :
    SMap.wf resetWord (State.seqStart s i).regs = true := by simp (maxDischargeDepth := 30) [State.seqStart, hc]
@[simp] theorem State.seqHalt_canon (s : State) (i : Nat) (hc : SMap.wf resetWord s.regs = true) :
    SMap.wf resetWord (State.seqHalt s i).regs = true := by simp (maxDischargeDepth := 30) [State.seqHalt, hc]
@[simp] theorem State.record_canon (s : State) (e : Evt) (hc : SMap.wf resetWord s.regs = true) :
    SMap.wf resetWord (State.record s e).regs = true := by simp (maxDischargeDepth := 30) [State.record, apply_ite State.regs, apply_ite (SMap.wf resetWord), hc]
@[simp] theorem State.event_canon (s : State) (code : Nat) (tick : Nat) (p1 : Nat) (p2 : Nat) (p3 : Nat) (hc : SMap.wf resetWord s.regs = true) :
    SMap.wf resetWord (State.event s code tick p1 p2 p3).regs = true := by simp (maxDischargeDepth := 30) [State.event, hc]
@[simp] theorem State.raiseL_canon (s : State) (src : Nat) (kind : Nat) (stamp : Nat) (hc : SMap.wf resetWord s.regs = true) :
    SMap.wf resetWord (State.raiseL s src kind stamp).regs = true := by simp (maxDischargeDepth := 30) [State.raiseL, hc]
@[simp] theorem State.raiseD_canon (s : State) (d : Die) (src : Nat) (kind : Nat) (stamp : Nat) (hc : SMap.wf resetWord s.regs = true) :
    SMap.wf resetWord (State.raiseD s d src kind stamp).regs = true := by simp (maxDischargeDepth := 30) [State.raiseD, apply_ite State.regs, apply_ite (SMap.wf resetWord), hc]
@[simp] theorem State.faultD_canon (s : State) (d : Die) (src : Nat) (kind : Nat) (stamp : Nat) (p2 : Nat) (p3 : Nat) (hc : SMap.wf resetWord s.regs = true) :
    SMap.wf resetWord (State.faultD s d src kind stamp p2 p3).regs = true := by simp (maxDischargeDepth := 30) [State.faultD, hc]
@[simp] theorem State.faultL_canon (s : State) (src : Nat) (kind : Nat) (stamp : Nat) (p2 : Nat) (p3 : Nat) (hc : SMap.wf resetWord s.regs = true) :
    SMap.wf resetWord (State.faultL s src kind stamp p2 p3).regs = true := by simp (maxDischargeDepth := 30) [State.faultL, hc]
@[simp] theorem State.msix_canon (s : State) (v : Nat) (hc : SMap.wf resetWord s.regs = true) :
    SMap.wf resetWord (State.msix s v).regs = true := by simp (maxDischargeDepth := 30) [State.msix, apply_ite State.regs, apply_ite (SMap.wf resetWord), hc]
@[simp] theorem State.hostErr_canon (s : State) (f : Fld) (hc : SMap.wf resetWord s.regs = true) :
    SMap.wf resetWord (State.hostErr s f).regs = true := by simp (maxDischargeDepth := 30) [State.hostErr, hc]
@[simp] theorem State.detBreak_canon (s : State) (bit : Nat) (first : Nat) (fs : List Nat) (hc : SMap.wf resetWord s.regs = true) :
    SMap.wf resetWord (State.detBreak s bit first fs).regs = true := by simp (maxDischargeDepth := 30) [State.detBreak, apply_ite State.regs, apply_ite (SMap.wf resetWord), hc]
@[simp] theorem State.breakNow_canon (s : State) (bit : Nat) (hc : SMap.wf resetWord s.regs = true) :
    SMap.wf resetWord (State.breakNow s bit).regs = true := by simp (maxDischargeDepth := 30) [State.breakNow, apply_ite State.regs, apply_ite (SMap.wf resetWord), hc]
@[simp] theorem State.commitBase_canon (s : State) (a : Attr) (u : Upd) (hc : SMap.wf resetWord s.regs = true) :
    SMap.wf resetWord (State.commitBase s a u).regs = true := by simp (maxDischargeDepth := 30) [State.commitBase, apply_ite State.regs, hc]
@[simp] theorem State.expire_canon (s : State) (i : Nat) (hc : SMap.wf resetWord s.regs = true) :
    SMap.wf resetWord (State.expire s i).regs = true := by simp (maxDischargeDepth := 30) [State.expire, apply_ite State.regs, apply_ite (SMap.wf resetWord), hc]
@[simp] theorem State.commitLive_canon (s : State) (a : Attr) (u : Upd) (hc : SMap.wf resetWord s.regs = true) :
    SMap.wf resetWord (State.commitLive s a u).regs = true := by simp (maxDischargeDepth := 30) [State.commitLive, apply_ite State.regs, apply_ite (SMap.wf resetWord), hc]
@[simp] theorem State.lateUpdate_canon (s : State) (t : Nat) (hc : SMap.wf resetWord s.regs = true) :
    SMap.wf resetWord (State.lateUpdate s t).regs = true := by simp (maxDischargeDepth := 30) [State.lateUpdate, hc]
@[simp] theorem State.commit_canon (s : State) (u0 : Upd) (hc : SMap.wf resetWord s.regs = true) :
    SMap.wf resetWord (State.commit s u0).regs = true := by unfold State.commit; split <;> simp (maxDischargeDepth := 30) [apply_ite State.regs, apply_ite (SMap.wf resetWord), hc]
@[simp] theorem State.commitStaged_canon (s : State) (b : Nat) (i : Nat) (v : W64) (src : Nat) (bytes : List Byte) (hc : SMap.wf resetWord s.regs = true) :
    SMap.wf resetWord (State.commitStaged s b i v src bytes).regs = true := by unfold State.commitStaged; split <;> simp (maxDischargeDepth := 30) [hc]
@[simp] theorem State.sendD_canon (s : State) (d : Die) (u : Upd) (hc : SMap.wf resetWord s.regs = true) :
    SMap.wf resetWord (State.sendD s d u).regs = true := by simp (maxDischargeDepth := 30) [State.sendD, hc]
@[simp] theorem State.sendL_canon (s : State) (u : Upd) (hc : SMap.wf resetWord s.regs = true) :
    SMap.wf resetWord (State.sendL s u).regs = true := by simp (maxDischargeDepth := 30) [State.sendL, hc]
@[simp] theorem State.amendD_canon (s : State) (d : Die) (u : Upd) (hc : SMap.wf resetWord s.regs = true) :
    SMap.wf resetWord (State.amendD s d u).regs = true := by simp (maxDischargeDepth := 30) [State.amendD, apply_ite State.regs, apply_ite (SMap.wf resetWord), hc]
@[simp] theorem State.unitD_canon (s : State) (d : Die) (idx : Nat) (v : Int) (stamp : Nat) (src : Nat) (hc : SMap.wf resetWord s.regs = true) :
    SMap.wf resetWord (State.unitD s d idx v stamp src).regs = true := by simp (maxDischargeDepth := 30) [State.unitD, hc]
@[simp] theorem State.unitL_canon (s : State) (idx : Nat) (v : Int) (stamp : Nat) (src : Nat) (hc : SMap.wf resetWord s.regs = true) :
    SMap.wf resetWord (State.unitL s idx v stamp src).regs = true := by simp (maxDischargeDepth := 30) [State.unitL, hc]
@[simp] theorem State.setSq_canon (s : State) (q : Nat) (x : Sq) (hc : SMap.wf resetWord s.regs = true) :
    SMap.wf resetWord (State.setSq s q x).regs = true := by simp (maxDischargeDepth := 30) [State.setSq, hc]
@[simp] theorem State.setCq_canon (s : State) (q : Nat) (x : Cq) (hc : SMap.wf resetWord s.regs = true) :
    SMap.wf resetWord (State.setCq s q x).regs = true := by simp (maxDischargeDepth := 30) [State.setCq, hc]
@[simp] theorem State.dropOp_canon (s : State) (t : Nat) (hc : SMap.wf resetWord s.regs = true) :
    SMap.wf resetWord (State.dropOp s t).regs = true := by simp (maxDischargeDepth := 30) [State.dropOp, hc]
@[simp] theorem State.putOp_canon (s : State) (t : Nat) (o : HostOp) (hc : SMap.wf resetWord s.regs = true) :
    SMap.wf resetWord (State.putOp s t o).regs = true := by simp (maxDischargeDepth := 30) [State.putOp, hc]
@[simp] theorem State.begin_canon (s : State) (t : Nat) (hc : SMap.wf resetWord s.regs = true) :
    SMap.wf resetWord (State.begin s t).regs = true := by unfold State.begin; split <;> simp (maxDischargeDepth := 30) [hc]
@[simp] theorem State.moderate_canon (s : State) (q : Nat) (hc : SMap.wf resetWord s.regs = true) :
    SMap.wf resetWord (State.moderate s q).regs = true := by simp (maxDischargeDepth := 30) [State.moderate, apply_ite State.regs, apply_ite (SMap.wf resetWord), hc]
@[simp] theorem State.writeCpl_canon (s : State) (c : Cpl) (hc : SMap.wf resetWord s.regs = true) :
    SMap.wf resetWord (State.writeCpl s c).regs = true := by simp +contextual (maxDischargeDepth := 30) [State.writeCpl, apply_ite State.regs, apply_ite (SMap.wf resetWord), hc]
@[simp] theorem State.releaseFrom_canon (n : Nat) (s : State) (q : Nat) (hc : SMap.wf resetWord s.regs = true) :
    SMap.wf resetWord (State.releaseFrom n s q).regs = true := by
  induction n generalizing s q with
  | zero => simp (maxDischargeDepth := 30) [State.releaseFrom, hc]
  | succ n ih =>
    unfold State.releaseFrom; dsimp only; split
    · split
      · simp (maxDischargeDepth := 30) [apply_ite State.regs, apply_ite (SMap.wf resetWord), hc]
      · simp (maxDischargeDepth := 30) [apply_ite State.regs, apply_ite (SMap.wf resetWord), ih, hc]
    · simp (maxDischargeDepth := 30) [hc]
@[simp] theorem State.releaseDrained_canon (s : State) (q : Nat) (hc : SMap.wf resetWord s.regs = true) :
    SMap.wf resetWord (State.releaseDrained s q).regs = true := by simp (maxDischargeDepth := 30) [State.releaseDrained, hc]
@[simp] theorem State.issue_canon (s : State) (c : Cpl) (hc : SMap.wf resetWord s.regs = true) :
    SMap.wf resetWord (State.issue s c).regs = true := by simp (maxDischargeDepth := 30) [State.issue, apply_ite State.regs, apply_ite (SMap.wf resetWord), hc]
@[simp] theorem State.complete_canon (s : State) (t : Nat) (status : Nat) (reason : Nat) (stamp : Nat) (result : List Byte) (writes : List (Nat × List Byte)) (hc : SMap.wf resetWord s.regs = true) :
    SMap.wf resetWord (State.complete s t status reason stamp result writes).regs = true := by
  unfold State.complete; (try dsimp only); repeat' split
  all_goals simp +contextual (maxDischargeDepth := 30) [hc, apply_ite State.regs, apply_ite (SMap.wf resetWord)]
@[simp] theorem State.completeOpt_canon (s : State) (t : Option Nat) (status : Nat) (reason : Nat) (stamp : Nat) (result : List Byte) (hc : SMap.wf resetWord s.regs = true) :
    SMap.wf resetWord (State.completeOpt s t status reason stamp result).regs = true := by unfold State.completeOpt; split <;> simp (maxDischargeDepth := 30) [hc]
@[simp] theorem State.readFailed_canon (s : State) (x : ReadResult) (hc : SMap.wf resetWord s.regs = true) :
    SMap.wf resetWord (State.readFailed s x).regs = true := by unfold State.readFailed; split <;> simp (maxDischargeDepth := 30) [hc]
@[simp] theorem State.dmaError_canon (s : State) (t : Nat) (x : ReadResult) (hc : SMap.wf resetWord s.regs = true) :
    SMap.wf resetWord (State.dmaError s t x).regs = true := by simp (maxDischargeDepth := 30) [State.dmaError, hc]
@[simp] theorem State.ringError_canon (s : State) (q : Nat) (hc : SMap.wf resetWord s.regs = true) :
    SMap.wf resetWord (State.ringError s q).regs = true := by simp (maxDischargeDepth := 30) [State.ringError, apply_ite State.regs, apply_ite (SMap.wf resetWord), hc]
@[simp] theorem State.setTb_canon (s : State) (n : TbSt) (hc : SMap.wf resetWord s.regs = true) :
    SMap.wf resetWord (State.setTb s n).regs = true := by simp (maxDischargeDepth := 30) [State.setTb, apply_ite State.regs, apply_ite (SMap.wf resetWord), hc]
@[simp] theorem State.crystalStable_canon (s : State) (hc : SMap.wf resetWord s.regs = true) :
    SMap.wf resetWord (State.crystalStable s).regs = true := by simp (maxDischargeDepth := 30) [State.crystalStable, apply_ite State.regs, apply_ite (SMap.wf resetWord), hc]
@[simp] theorem State.crystalFail_canon (s : State) (hc : SMap.wf resetWord s.regs = true) :
    SMap.wf resetWord (State.crystalFail s).regs = true := by
  unfold State.crystalFail; dsimp only; repeat' split
  all_goals simp (maxDischargeDepth := 30) [hc]
@[simp] theorem State.startingTimeout_canon (s : State) (hc : SMap.wf resetWord s.regs = true) :
    SMap.wf resetWord (State.startingTimeout s).regs = true := by simp (maxDischargeDepth := 30) [State.startingTimeout, apply_ite State.regs, apply_ite (SMap.wf resetWord), hc]
@[simp] theorem State.degradedReturn_canon (s : State) (hc : SMap.wf resetWord s.regs = true) :
    SMap.wf resetWord (State.degradedReturn s).regs = true := by simp (maxDischargeDepth := 30) [State.degradedReturn, apply_ite State.regs, apply_ite (SMap.wf resetWord), hc]
@[simp] theorem State.asSync_canon (s : State) (gptp : Int) (corr : Int) (hc : SMap.wf resetWord s.regs = true) :
    SMap.wf resetWord (State.asSync s gptp corr).regs = true := by simp (maxDischargeDepth := 30) [State.asSync, apply_ite State.regs, apply_ite (SMap.wf resetWord), hc]
@[simp] theorem State.asConverged_canon (s : State) (hc : SMap.wf resetWord s.regs = true) :
    SMap.wf resetWord (State.asConverged s).regs = true := by simp (maxDischargeDepth := 30) [State.asConverged, apply_ite State.regs, apply_ite (SMap.wf resetWord), hc]
@[simp] theorem State.asSyncLoss_canon (s : State) (hc : SMap.wf resetWord s.regs = true) :
    SMap.wf resetWord (State.asSyncLoss s).regs = true := by simp (maxDischargeDepth := 30) [State.asSyncLoss, apply_ite State.regs, apply_ite (SMap.wf resetWord), hc]
@[simp] theorem State.timeMarkerSend_canon (s : State) (hc : SMap.wf resetWord s.regs = true) :
    SMap.wf resetWord (State.timeMarkerSend s).regs = true := by simp +contextual (maxDischargeDepth := 30) [State.timeMarkerSend, apply_ite State.regs, apply_ite (SMap.wf resetWord), hc]
@[simp] theorem State.raiseAt_canon (s : State) (d : Die) (src : Nat) (kind : Nat) (hc : SMap.wf resetWord s.regs = true) :
    SMap.wf resetWord (State.raiseAt s d src kind).regs = true := by simp (maxDischargeDepth := 30) [State.raiseAt, apply_ite State.regs, apply_ite (SMap.wf resetWord), hc]
@[simp] theorem State.lossOfLock_canon (s : State) (d : Die) (hc : SMap.wf resetWord s.regs = true) :
    SMap.wf resetWord (State.lossOfLock s d).regs = true := by simp (maxDischargeDepth := 30) [State.lossOfLock, apply_ite State.regs, apply_ite (SMap.wf resetWord), hc]
@[simp] theorem State.linkFault_canon (s : State) (d : Die) (hc : SMap.wf resetWord s.regs = true) :
    SMap.wf resetWord (State.linkFault s d).regs = true := by simp (maxDischargeDepth := 30) [State.linkFault, hc]
theorem State.popDown_canon (s : State) (d : Die) (m : DownMsg) (t : State) (h : s.popDown d = some (m, t)) (hc : SMap.wf resetWord s.regs = true) :
    SMap.wf resetWord t.regs = true := by
  unfold State.popDown at h; split at h
  · cases h
  · cases h; simp [hc]
@[simp] theorem State.measureDelay_canon (s : State) (d : Die) (hc : SMap.wf resetWord s.regs = true) :
    SMap.wf resetWord (State.measureDelay s d).regs = true := by simp (maxDischargeDepth := 30) [State.measureDelay, hc]
@[simp] theorem State.checkDelay_canon (s : State) (d : Die) (hc : SMap.wf resetWord s.regs = true) :
    SMap.wf resetWord (State.checkDelay s d).regs = true := by simp (maxDischargeDepth := 30) [State.checkDelay, apply_ite State.regs, apply_ite (SMap.wf resetWord), hc]
@[simp] theorem State.markerReceived_canon (s : State) (d : Die) (err : Int) (hc : SMap.wf resetWord s.regs = true) :
    SMap.wf resetWord (State.markerReceived s d err).regs = true := by
  unfold State.markerReceived; split
  · rename_i h; have h := State.popDown_canon s d _ _ h hc; dsimp only; split <;> simp (maxDischargeDepth := 30) [h]
  · exact hc
@[simp] theorem State.islandRelock_canon (s : State) (d : Die) (hc : SMap.wf resetWord s.regs = true) :
    SMap.wf resetWord (State.islandRelock s d).regs = true := by simp (maxDischargeDepth := 30) [State.islandRelock, apply_ite State.regs, apply_ite (SMap.wf resetWord), hc]
@[simp] theorem State.markerLoss_canon (s : State) (d : Die) (hc : SMap.wf resetWord s.regs = true) :
    SMap.wf resetWord (State.markerLoss s d).regs = true := by simp (maxDischargeDepth := 30) [State.markerLoss, apply_ite State.regs, apply_ite (SMap.wf resetWord), hc]
@[simp] theorem State.setChan_canon (s : State) (u : Nat) (c : Chan) (hc : SMap.wf resetWord s.regs = true) :
    SMap.wf resetWord (State.setChan s u c).regs = true := by simp (maxDischargeDepth := 30) [State.setChan, hc]
@[simp] theorem State.setAna_canon (s : State) (d : Die) (a : DieAna) (hc : SMap.wf resetWord s.regs = true) :
    SMap.wf resetWord (State.setAna s d a).regs = true := by unfold State.setAna; split <;> simp (maxDischargeDepth := 30) [hc]
@[simp] theorem State.reportD_canon (s : State) (d : Die) (idx : Nat) (v : Int) (stamp : Nat) (src : Nat) (hc : SMap.wf resetWord s.regs = true) :
    SMap.wf resetWord (State.reportD s d idx v stamp src).regs = true := by unfold State.reportD; split <;> simp (maxDischargeDepth := 30) [apply_ite State.regs, apply_ite (SMap.wf resetWord), hc]
@[simp] theorem State.reportChan_canon (s : State) (u : Nat) (t : Nat) (hc : SMap.wf resetWord s.regs = true) :
    SMap.wf resetWord (State.reportChan s u t).regs = true := by simp (maxDischargeDepth := 30) [State.reportChan, hc]
@[simp] theorem State.takePattern_canon (s : State) (u : Nat) (t : Nat) (hc : SMap.wf resetWord s.regs = true) :
    SMap.wf resetWord (State.takePattern s u t).regs = true := by simp (maxDischargeDepth := 30) [State.takePattern, hc]
@[simp] theorem State.takeCarrier_canon (s : State) (u : Nat) (t : Nat) (hc : SMap.wf resetWord s.regs = true) :
    SMap.wf resetWord (State.takeCarrier s u t).regs = true := by simp (maxDischargeDepth := 30) [State.takeCarrier, hc]
@[simp] theorem State.gate_canon (s : State) (u : Nat) (t : Nat) (hc : SMap.wf resetWord s.regs = true) :
    SMap.wf resetWord (State.gate s u t).regs = true := by simp (maxDischargeDepth := 30) [State.gate, hc]
@[simp] theorem State.enter_canon (s : State) (u : Nat) (st : ChanSt) (t : Nat) (hc : SMap.wf resetWord s.regs = true) :
    SMap.wf resetWord (State.enter s u st t).regs = true := by simp (maxDischargeDepth := 30) [State.enter, apply_ite State.regs, apply_ite (SMap.wf resetWord), hc]
@[simp] theorem State.lockOff_canon (s : State) (u : Nat) (t : Nat) (hc : SMap.wf resetWord s.regs = true) :
    SMap.wf resetWord (State.lockOff s u t).regs = true := by simp (maxDischargeDepth := 30) [State.lockOff, hc]
@[simp] theorem State.openWindow_canon (s : State) (u : Nat) (t : Nat) (hc : SMap.wf resetWord s.regs = true) :
    SMap.wf resetWord (State.openWindow s u t).regs = true := by simp (maxDischargeDepth := 30) [State.openWindow, hc]
@[simp] theorem State.conduct_canon (s : State) (u : Nat) (t : Nat) (hc : SMap.wf resetWord s.regs = true) :
    SMap.wf resetWord (State.conduct s u t).regs = true := by simp (maxDischargeDepth := 30) [State.conduct, apply_ite State.regs, apply_ite (SMap.wf resetWord), hc]
@[simp] theorem State.turnOn_canon (s : State) (u : Nat) (t : Nat) (hc : SMap.wf resetWord s.regs = true) :
    SMap.wf resetWord (State.turnOn s u t).regs = true := by simp (maxDischargeDepth := 30) [State.turnOn, apply_ite State.regs, apply_ite (SMap.wf resetWord), hc]
@[simp] theorem State.decideTrip_canon (s : State) (u : Nat) (t : Nat) (hc : SMap.wf resetWord s.regs = true) :
    SMap.wf resetWord (State.decideTrip s u t).regs = true := by simp (maxDischargeDepth := 30) [State.decideTrip, apply_ite State.regs, apply_ite (SMap.wf resetWord), hc]
@[simp] theorem State.setCause_canon (s : State) (u : Nat) (c : Nat) (hc : SMap.wf resetWord s.regs = true) :
    SMap.wf resetWord (State.setCause s u c).regs = true := by simp (maxDischargeDepth := 30) [State.setCause, hc]
@[simp] theorem State.tripState_canon (s : State) (u : Nat) (m : Nat) (t : Nat) (hc : SMap.wf resetWord s.regs = true) :
    SMap.wf resetWord (State.tripState s u m t).regs = true := by simp (maxDischargeDepth := 30) [State.tripState, apply_ite State.regs, apply_ite (SMap.wf resetWord), hc]
@[simp] theorem State.trip_canon (s : State) (u : Nat) (c : Nat) (t : Nat) (hc : SMap.wf resetWord s.regs = true) :
    SMap.wf resetWord (State.trip s u c t).regs = true := by simp (maxDischargeDepth := 30) [State.trip, apply_ite State.regs, apply_ite (SMap.wf resetWord), hc]
@[simp] theorem State.amendTrip_canon (s : State) (d : Die) (src : Nat) (old : Nat) (new : Nat) (m : Nat) (t : Nat) (hc : SMap.wf resetWord s.regs = true) :
    SMap.wf resetWord (State.amendTrip s d src old new m t).regs = true := by simp (maxDischargeDepth := 30) [State.amendTrip, hc]
@[simp] theorem State.unlock_canon (s : State) (u : Nat) (t : Nat) (hc : SMap.wf resetWord s.regs = true) :
    SMap.wf resetWord (State.unlock s u t).regs = true := by simp (maxDischargeDepth := 30) [State.unlock, apply_ite State.regs, apply_ite (SMap.wf resetWord), hc]
@[simp] theorem State.noteCause_canon (s : State) (u : Nat) (c : Nat) (t : Nat) (hc : SMap.wf resetWord s.regs = true) :
    SMap.wf resetWord (State.noteCause s u c t).regs = true := by simp (maxDischargeDepth := 30) [State.noteCause, hc]
@[simp] theorem State.addCause_canon (s : State) (u : Nat) (c : Nat) (t : Nat) (hc : SMap.wf resetWord s.regs = true) :
    SMap.wf resetWord (State.addCause s u c t).regs = true := by simp (maxDischargeDepth := 30) [State.addCause, apply_ite State.regs, apply_ite (SMap.wf resetWord), hc]
@[simp] theorem State.protect_canon (s : State) (u : Nat) (c : Nat) (t : Nat) (hc : SMap.wf resetWord s.regs = true) :
    SMap.wf resetWord (State.protect s u c t).regs = true := by simp (maxDischargeDepth := 30) [State.protect, apply_ite State.regs, apply_ite (SMap.wf resetWord), hc]
@[simp] theorem State.shortTrip_canon (s : State) (u : Nat) (cur : Nat) (hc : SMap.wf resetWord s.regs = true) :
    SMap.wf resetWord (State.shortTrip s u cur).regs = true := by simp (maxDischargeDepth := 30) [State.shortTrip, apply_ite State.regs, apply_ite (SMap.wf resetWord), hc]
@[simp] theorem State.overloadTrip_canon (s : State) (u : Nat) (hc : SMap.wf resetWord s.regs = true) :
    SMap.wf resetWord (State.overloadTrip s u).regs = true := by simp (maxDischargeDepth := 30) [State.overloadTrip, apply_ite State.regs, apply_ite (SMap.wf resetWord), hc]
@[simp] theorem State.vdsTrip_canon (s : State) (u : Nat) (vds : Nat) (hc : SMap.wf resetWord s.regs = true) :
    SMap.wf resetWord (State.vdsTrip s u vds).regs = true := by simp (maxDischargeDepth := 30) [State.vdsTrip, apply_ite State.regs, apply_ite (SMap.wf resetWord), hc]
@[simp] theorem State.chanEmberSet_canon (s : State) (u : Nat) (tj : Int) (ts : Nat) (hc : SMap.wf resetWord s.regs = true) :
    SMap.wf resetWord (State.chanEmberSet s u tj ts).regs = true := by
  unfold State.chanEmberSet; dsimp only; repeat' split
  all_goals simp (maxDischargeDepth := 30) [hc]
@[simp] theorem State.chanEmberRelease_canon (s : State) (u : Nat) (tj : Int) (ts : Nat) (hc : SMap.wf resetWord s.regs = true) :
    SMap.wf resetWord (State.chanEmberRelease s u tj ts).regs = true := by
  unfold State.chanEmberRelease; dsimp only; repeat' split
  all_goals simp (maxDischargeDepth := 30) [hc]
@[simp] theorem State.snuffEnd_canon (s : State) (u : Nat) (hc : SMap.wf resetWord s.regs = true) :
    SMap.wf resetWord (State.snuffEnd s u).regs = true := by simp (maxDischargeDepth := 30) [State.snuffEnd, apply_ite State.regs, apply_ite (SMap.wf resetWord), hc]
@[simp] theorem State.retryDue_canon (s : State) (u : Nat) (hc : SMap.wf resetWord s.regs = true) :
    SMap.wf resetWord (State.retryDue s u).regs = true := by simp (maxDischargeDepth := 30) [State.retryDue, apply_ite State.regs, apply_ite (SMap.wf resetWord), hc]
@[simp] theorem State.retryRefill_canon (s : State) (u : Nat) (hc : SMap.wf resetWord s.regs = true) :
    SMap.wf resetWord (State.retryRefill s u).regs = true := by unfold State.retryRefill; split <;> simp (maxDischargeDepth := 30) [apply_ite State.regs, apply_ite (SMap.wf resetWord), hc]
@[simp] theorem State.setCmd_canon (s : State) (u : Nat) (w : Nat) (hc : SMap.wf resetWord s.regs = true) :
    SMap.wf resetWord (State.setCmd s u w).regs = true := by simp (maxDischargeDepth := 30) [State.setCmd, hc]
@[simp] theorem State.followCmd_canon (s : State) (u : Nat) (t : Nat) (old : Nat) (hc : SMap.wf resetWord s.regs = true) :
    SMap.wf resetWord (State.followCmd s u t old).regs = true := by simp (maxDischargeDepth := 30) [State.followCmd, apply_ite State.regs, apply_ite (SMap.wf resetWord), hc]
@[simp] theorem State.actOnCmd_canon (s : State) (u : Nat) (t : Nat) (old : Nat) (hc : SMap.wf resetWord s.regs = true) :
    SMap.wf resetWord (State.actOnCmd s u t old).regs = true := by unfold State.actOnCmd; split <;> simp (maxDischargeDepth := 30) [apply_ite State.regs, apply_ite (SMap.wf resetWord), hc]
@[simp] theorem State.applyChan_canon (s : State) (u : Nat) (w : Nat) (t : Nat) (hc : SMap.wf resetWord s.regs = true) :
    SMap.wf resetWord (State.applyChan s u w t).regs = true := by simp (maxDischargeDepth := 30) [State.applyChan, apply_ite State.regs, apply_ite (SMap.wf resetWord), hc]
@[simp] theorem State.clearChan_canon (s : State) (u : Nat) (t : Nat) (hc : SMap.wf resetWord s.regs = true) :
    SMap.wf resetWord (State.clearChan s u t).regs = true := by simp (maxDischargeDepth := 30) [State.clearChan, apply_ite State.regs, apply_ite (SMap.wf resetWord), hc]
@[simp] theorem State.requestChanClear_canon (s : State) (u : Nat) (tag : Option Nat) (hc : SMap.wf resetWord s.regs = true) :
    SMap.wf resetWord (State.requestChanClear s u tag).regs = true := by simp (maxDischargeDepth := 30) [State.requestChanClear, hc]
@[simp] theorem State.limpChan_canon (s : State) (u : Nat) (t : Nat) (hc : SMap.wf resetWord s.regs = true) :
    SMap.wf resetWord (State.limpChan s u t).regs = true := by unfold State.limpChan; split <;> simp (maxDischargeDepth := 30) [hc]
@[simp] theorem State.unlimpChan_canon (s : State) (u : Nat) (t : Nat) (hc : SMap.wf resetWord s.regs = true) :
    SMap.wf resetWord (State.unlimpChan s u t).regs = true := by simp (maxDischargeDepth := 30) [State.unlimpChan, apply_ite State.regs, apply_ite (SMap.wf resetWord), hc]
@[simp] theorem State.startChan_canon (s : State) (u : Nat) (t : Nat) (hc : SMap.wf resetWord s.regs = true) :
    SMap.wf resetWord (State.startChan s u t).regs = true := by simp (maxDischargeDepth := 30) [State.startChan, hc]
@[simp] theorem State.chanPeriodStart_canon (s : State) (u : Nat) (hc : SMap.wf resetWord s.regs = true) :
    SMap.wf resetWord (State.chanPeriodStart s u).regs = true := by simp (maxDischargeDepth := 30) [State.chanPeriodStart, apply_ite State.regs, apply_ite (SMap.wf resetWord), hc]
@[simp] theorem State.chanOnTimeEnd_canon (s : State) (u : Nat) (hc : SMap.wf resetWord s.regs = true) :
    SMap.wf resetWord (State.chanOnTimeEnd s u).regs = true := by simp (maxDischargeDepth := 30) [State.chanOnTimeEnd, apply_ite State.regs, apply_ite (SMap.wf resetWord), hc]
@[simp] theorem State.softStartCarrier_canon (s : State) (u : Nat) (hc : SMap.wf resetWord s.regs = true) :
    SMap.wf resetWord (State.softStartCarrier s u).regs = true := by simp (maxDischargeDepth := 30) [State.softStartCarrier, apply_ite State.regs, apply_ite (SMap.wf resetWord), hc]
@[simp] theorem State.inrushWindowEnd_canon (s : State) (u : Nat) (hc : SMap.wf resetWord s.regs = true) :
    SMap.wf resetWord (State.inrushWindowEnd s u).regs = true := by simp (maxDischargeDepth := 30) [State.inrushWindowEnd, apply_ite State.regs, apply_ite (SMap.wf resetWord), hc]
@[simp] theorem State.chanSample_canon (s : State) (t : Nat) (x : ChanSample) (hc : SMap.wf resetWord s.regs = true) :
    SMap.wf resetWord (State.chanSample s t x).regs = true := by simp (maxDischargeDepth := 30) [State.chanSample, apply_ite State.regs, apply_ite (SMap.wf resetWord), hc]
@[simp] theorem State.chanWindow_canon (s : State) (u : Nat) (w : Nat) (hc : SMap.wf resetWord s.regs = true) :
    SMap.wf resetWord (State.chanWindow s u w).regs = true := by simp (maxDischargeDepth := 30) [State.chanWindow, apply_ite State.regs, apply_ite (SMap.wf resetWord), hc]
@[simp] theorem State.wickLimits_canon (s : State) (u : Nat) (t : Nat) (n : Int) (hc : SMap.wf resetWord s.regs = true) :
    SMap.wf resetWord (State.wickLimits s u t n).regs = true := by simp (maxDischargeDepth := 30) [State.wickLimits, apply_ite State.regs, apply_ite (SMap.wf resetWord), hc]
@[simp] theorem State.wickChan_canon (s : State) (u : Nat) (t : Nat) (hc : SMap.wf resetWord s.regs = true) :
    SMap.wf resetWord (State.wickChan s u t).regs = true := by simp (maxDischargeDepth := 30) [State.wickChan, hc]
@[simp] theorem State.bundleCompute_canon (s : State) (d : Die) (other : List Rat) (hc : SMap.wf resetWord s.regs = true) :
    SMap.wf resetWord (State.bundleCompute s d other).regs = true := by simp +contextual (maxDischargeDepth := 30) [State.bundleCompute, apply_ite State.regs, apply_ite (SMap.wf resetWord), hc]
@[simp] theorem State.setPpQueue_canon (s : State) (d : Die) (q : List PpMsg) (hc : SMap.wf resetWord s.regs = true) :
    SMap.wf resetWord (State.setPpQueue s d q).regs = true := by simp (maxDischargeDepth := 30) [State.setPpQueue, apply_ite State.regs, hc]
@[simp] theorem State.ppLate_canon (s : State) (d : Die) (sent : Nat) (hc : SMap.wf resetWord s.regs = true) :
    SMap.wf resetWord (State.ppLate s d sent).regs = true := by simp (maxDischargeDepth := 30) [State.ppLate, apply_ite State.regs, apply_ite (SMap.wf resetWord), hc]
@[simp] theorem State.bundleResume_canon (s : State) (d : Die) (tbs : List Rat) (hc : SMap.wf resetWord s.regs = true) :
    SMap.wf resetWord (State.bundleResume s d tbs).regs = true := by simp (maxDischargeDepth := 30) [State.bundleResume, apply_ite State.regs, apply_ite (SMap.wf resetWord), hc]
@[simp] theorem State.bundleTake_canon (s : State) (d : Die) (sums : List Rat) (tbs : List Rat) (hc : SMap.wf resetWord s.regs = true) :
    SMap.wf resetWord (State.bundleTake s d sums tbs).regs = true := by simp (maxDischargeDepth := 30) [State.bundleTake, apply_ite State.regs, apply_ite (SMap.wf resetWord), hc]
@[simp] theorem State.bundleMessage_canon (s : State) (d : Die) (hc : SMap.wf resetWord s.regs = true) :
    SMap.wf resetWord (State.bundleMessage s d).regs = true := by unfold State.bundleMessage; split <;> simp (maxDischargeDepth := 30) [apply_ite State.regs, apply_ite (SMap.wf resetWord), hc]
@[simp] theorem State.bundleTimeout_canon (s : State) (d : Die) (hc : SMap.wf resetWord s.regs = true) :
    SMap.wf resetWord (State.bundleTimeout s d).regs = true := by simp (maxDischargeDepth := 30) [State.bundleTimeout, apply_ite State.regs, apply_ite (SMap.wf resetWord), hc]
@[simp] theorem State.extendWindows_canon (s : State) (d : Die) (k : Nat) (e : Nat) (hc : SMap.wf resetWord s.regs = true) :
    SMap.wf resetWord (State.extendWindows s d k e).regs = true := by simp +contextual (maxDischargeDepth := 30) [State.extendWindows, apply_ite State.regs, apply_ite (SMap.wf resetWord), hc]
@[simp] theorem State.droopRecord_canon (s : State) (d : Die) (dur : Nat) (hc : SMap.wf resetWord s.regs = true) :
    SMap.wf resetWord (State.droopRecord s d dur).regs = true := by simp (maxDischargeDepth := 30) [State.droopRecord, hc]
@[simp] theorem State.droopEndSend_canon (s : State) (d : Die) (stamp : Nat) (e : Nat) (hc : SMap.wf resetWord s.regs = true) :
    SMap.wf resetWord (State.droopEndSend s d stamp e).regs = true := by simp (maxDischargeDepth := 30) [State.droopEndSend, apply_ite State.regs, hc]
@[simp] theorem State.droopEnd_canon (s : State) (d : Die) (t : Nat) (hc : SMap.wf resetWord s.regs = true) :
    SMap.wf resetWord (State.droopEnd s d t).regs = true := by simp (maxDischargeDepth := 30) [State.droopEnd, apply_ite State.regs, apply_ite (SMap.wf resetWord), hc]
@[simp] theorem State.droopSample_canon (s : State) (d : Die) (v : Nat) (t : Nat) (hc : SMap.wf resetWord s.regs = true) :
    SMap.wf resetWord (State.droopSample s d v t).regs = true := by simp (maxDischargeDepth := 30) [State.droopSample, apply_ite State.regs, apply_ite (SMap.wf resetWord), hc]
@[simp] theorem State.droopDetected_canon (s : State) (d : Die) (hc : SMap.wf resetWord s.regs = true) :
    SMap.wf resetWord (State.droopDetected s d).regs = true := by simp +contextual (maxDischargeDepth := 30) [State.droopDetected, apply_ite State.regs, apply_ite (SMap.wf resetWord), hc]
@[simp] theorem State.resuspend_canon (s : State) (d : Die) (det : Nat) (hc : SMap.wf resetWord s.regs = true) :
    SMap.wf resetWord (State.resuspend s d det).regs = true := by simp +contextual (maxDischargeDepth := 30) [State.resuspend, apply_ite State.regs, apply_ite (SMap.wf resetWord), hc]
@[simp] theorem State.droopNotice_canon (s : State) (d : Die) (hc : SMap.wf resetWord s.regs = true) :
    SMap.wf resetWord (State.droopNotice s d).regs = true := by unfold State.droopNotice; split <;> simp +contextual (maxDischargeDepth := 30) [apply_ite State.regs, apply_ite (SMap.wf resetWord), hc]
@[simp] theorem State.droopEndNotice_canon (s : State) (d : Die) (hc : SMap.wf resetWord s.regs = true) :
    SMap.wf resetWord (State.droopEndNotice s d).regs = true := by
  unfold State.droopEndNotice; dsimp only; repeat' split
  all_goals simp (maxDischargeDepth := 30) [hc]
@[simp] theorem State.droopCap_canon (s : State) (d : Die) (hc : SMap.wf resetWord s.regs = true) :
    SMap.wf resetWord (State.droopCap s d).regs = true := by unfold State.droopCap; dsimp only; split <;> simp (maxDischargeDepth := 30) [apply_ite State.regs, apply_ite (SMap.wf resetWord), hc]
@[simp] theorem State.droopFreezeEnd_canon (s : State) (d : Die) (hc : SMap.wf resetWord s.regs = true) :
    SMap.wf resetWord (State.droopFreezeEnd s d).regs = true := by simp (maxDischargeDepth := 30) [State.droopFreezeEnd, apply_ite State.regs, apply_ite (SMap.wf resetWord), hc]
@[simp] theorem State.droopRecordLimit_canon (s : State) (d : Die) (hc : SMap.wf resetWord s.regs = true) :
    SMap.wf resetWord (State.droopRecordLimit s d).regs = true := by simp (maxDischargeDepth := 30) [State.droopRecordLimit, apply_ite State.regs, apply_ite (SMap.wf resetWord), hc]
@[simp] theorem State.olTestStart_canon (s : State) (u : Nat) (hc : SMap.wf resetWord s.regs = true) :
    SMap.wf resetWord (State.olTestStart s u).regs = true := by simp (maxDischargeDepth := 30) [State.olTestStart, apply_ite State.regs, apply_ite (SMap.wf resetWord), hc]
@[simp] theorem State.olResult_canon (s : State) (u : Nat) (t : Nat) (sb : Bool) (ol : Bool) (hc : SMap.wf resetWord s.regs = true) :
    SMap.wf resetWord (State.olResult s u t sb ol).regs = true := by simp (maxDischargeDepth := 30) [State.olResult, apply_ite State.regs, apply_ite (SMap.wf resetWord), hc]
@[simp] theorem State.olTestEnd_canon (s : State) (u : Nat) (hc : SMap.wf resetWord s.regs = true) :
    SMap.wf resetWord (State.olTestEnd s u).regs = true := by unfold State.olTestEnd; dsimp only; split <;> simp (maxDischargeDepth := 30) [apply_ite State.regs, apply_ite (SMap.wf resetWord), hc]
@[simp] theorem State.setMotor_canon (s : State) (m : Nat) (x : Motor) (hc : SMap.wf resetWord s.regs = true) :
    SMap.wf resetWord (State.setMotor s m x).regs = true := by simp (maxDischargeDepth := 30) [State.setMotor, hc]
@[simp] theorem State.reportMotor_canon (s : State) (m : Nat) (t : Nat) (hc : SMap.wf resetWord s.regs = true) :
    SMap.wf resetWord (State.reportMotor s m t).regs = true := by simp (maxDischargeDepth := 30) [State.reportMotor, hc]
@[simp] theorem State.motorResult_canon (s : State) (m : Nat) (reason : Nat) (drive : Bool) (t : Nat) (hc : SMap.wf resetWord s.regs = true) :
    SMap.wf resetWord (State.motorResult s m reason drive t).regs = true := by simp (maxDischargeDepth := 30) [State.motorResult, hc]
@[simp] theorem State.endMotion_canon (s : State) (m : Nat) (mo : Motion) (reason : Nat) (t : Nat) (hc : SMap.wf resetWord s.regs = true) :
    SMap.wf resetWord (State.endMotion s m mo reason t).regs = true := by simp (maxDischargeDepth := 30) [State.endMotion, apply_ite State.regs, apply_ite (SMap.wf resetWord), hc]
@[simp] theorem State.endMotions_canon (s : State) (m : Nat) (reason : Nat) (t : Nat) (waits : Nat) (hc : SMap.wf resetWord s.regs = true) :
    SMap.wf resetWord (State.endMotions s m reason t waits).regs = true := by
  unfold State.endMotions; dsimp only; repeat' split
  all_goals simp (maxDischargeDepth := 30) [hc]
@[simp] theorem State.driveOut_canon (s : State) (m : Nat) (t : Nat) (hc : SMap.wf resetWord s.regs = true) :
    SMap.wf resetWord (State.driveOut s m t).regs = true := by simp (maxDischargeDepth := 30) [State.driveOut, hc]
@[simp] theorem State.motorGate_canon (s : State) (m : Nat) (t : Nat) (hc : SMap.wf resetWord s.regs = true) :
    SMap.wf resetWord (State.motorGate s m t).regs = true := by simp (maxDischargeDepth := 30) [State.motorGate, hc]
@[simp] theorem State.mEnter_canon (s : State) (m : Nat) (st : MotorSt) (t : Nat) (hc : SMap.wf resetWord s.regs = true) :
    SMap.wf resetWord (State.mEnter s m st t).regs = true := by simp (maxDischargeDepth := 30) [State.mEnter, apply_ite State.regs, apply_ite (SMap.wf resetWord), hc]
@[simp] theorem State.unsure_canon (s : State) (m : Nat) (hc : SMap.wf resetWord s.regs = true) :
    SMap.wf resetWord (State.unsure s m).regs = true := by simp (maxDischargeDepth := 30) [State.unsure, hc]
@[simp] theorem State.startMotion_canon (s : State) (m : Nat) (mo : Motion) (t : Nat) (hc : SMap.wf resetWord s.regs = true) :
    SMap.wf resetWord (State.startMotion s m mo t).regs = true := by simp (maxDischargeDepth := 30) [State.startMotion, hc]
@[simp] theorem State.settle_canon (s : State) (m : Nat) (t : Nat) (low : Bool) (hc : SMap.wf resetWord s.regs = true) :
    SMap.wf resetWord (State.settle s m t low).regs = true := by simp (maxDischargeDepth := 30) [State.settle, apply_ite State.regs, apply_ite (SMap.wf resetWord), hc]
@[simp] theorem State.endRun_canon (s : State) (m : Nat) (reason : Nat) (t : Nat) (low : Bool) (hc : SMap.wf resetWord s.regs = true) :
    SMap.wf resetWord (State.endRun s m reason t low).regs = true := by simp (maxDischargeDepth := 30) [State.endRun, hc]
@[simp] theorem State.showEmber_canon (s : State) (m : Nat) (hc : SMap.wf resetWord s.regs = true) :
    SMap.wf resetWord (State.showEmber s m).regs = true := by simp (maxDischargeDepth := 30) [State.showEmber, hc]
@[simp] theorem State.mRest_canon (s : State) (m : Nat) (t : Nat) (hc : SMap.wf resetWord s.regs = true) :
    SMap.wf resetWord (State.mRest s m t).regs = true := by simp (maxDischargeDepth := 30) [State.mRest, apply_ite State.regs, apply_ite (SMap.wf resetWord), hc]
@[simp] theorem State.setMWord_canon (s : State) (m : Nat) (w : Nat) (hc : SMap.wf resetWord s.regs = true) :
    SMap.wf resetWord (State.setMWord s m w).regs = true := by simp (maxDischargeDepth := 30) [State.setMWord, hc]
@[simp] theorem State.takeMotion_canon (s : State) (m : Nat) (mo : Motion) (t : Nat) (hc : SMap.wf resetWord s.regs = true) :
    SMap.wf resetWord (State.takeMotion s m mo t).regs = true := by
  unfold State.takeMotion; dsimp only; repeat' split
  all_goals simp (maxDischargeDepth := 30) [hc]
@[simp] theorem State.endsAtOnce_canon (s : State) (m : Nat) (mo : Motion) (reason : Nat) (t : Nat) (hc : SMap.wf resetWord s.regs = true) :
    SMap.wf resetWord (State.endsAtOnce s m mo reason t).regs = true := by simp (maxDischargeDepth := 30) [State.endsAtOnce, apply_ite State.regs, apply_ite (SMap.wf resetWord), hc]
@[simp] theorem State.mMove_canon (s : State) (m : Nat) (mo : Motion) (t : Nat) (hc : SMap.wf resetWord s.regs = true) :
    SMap.wf resetWord (State.mMove s m mo t).regs = true := by simp (maxDischargeDepth := 30) [State.mMove, apply_ite State.regs, apply_ite (SMap.wf resetWord), hc]
@[simp] theorem State.mCoast_canon (s : State) (m : Nat) (t : Nat) (hc : SMap.wf resetWord s.regs = true) :
    SMap.wf resetWord (State.mCoast s m t).regs = true := by unfold State.mCoast; split <;> simp (maxDischargeDepth := 30) [apply_ite State.regs, apply_ite (SMap.wf resetWord), hc]
@[simp] theorem State.mBrake_canon (s : State) (m : Nat) (t : Nat) (hc : SMap.wf resetWord s.regs = true) :
    SMap.wf resetWord (State.mBrake s m t).regs = true := by unfold State.mBrake; split <;> simp (maxDischargeDepth := 30) [hc]
@[simp] theorem State.mSetPos_canon (s : State) (m : Nat) (arg : Nat) (t : Nat) (hc : SMap.wf resetWord s.regs = true) :
    SMap.wf resetWord (State.mSetPos s m arg t).regs = true := by simp (maxDischargeDepth := 30) [State.mSetPos, apply_ite State.regs, apply_ite (SMap.wf resetWord), hc]
@[simp] theorem State.mAct_canon (s : State) (m : Nat) (w : Nat) (t : Nat) (hc : SMap.wf resetWord s.regs = true) :
    SMap.wf resetWord (State.mAct s m w t).regs = true := by
  unfold State.mAct; (try dsimp only); repeat' split
  all_goals simp +contextual (maxDischargeDepth := 30) [hc, apply_ite State.regs, apply_ite (SMap.wf resetWord)]
@[simp] theorem State.pinchLeft_canon (s : State) (m : Nat) (t : Nat) (hc : SMap.wf resetWord s.regs = true) :
    SMap.wf resetWord (State.pinchLeft s m t).regs = true := by simp (maxDischargeDepth := 30) [State.pinchLeft, apply_ite State.regs, apply_ite (SMap.wf resetWord), hc]
@[simp] theorem State.pholdCheck_canon (s : State) (m : Nat) (t : Nat) (hc : SMap.wf resetWord s.regs = true) :
    SMap.wf resetWord (State.pholdCheck s m t).regs = true := by simp (maxDischargeDepth := 30) [State.pholdCheck, apply_ite State.regs, apply_ite (SMap.wf resetWord), hc]
@[simp] theorem State.applyMotor_canon (s : State) (m : Nat) (w : Nat) (t : Nat) (hc : SMap.wf resetWord s.regs = true) :
    SMap.wf resetWord (State.applyMotor s m w t).regs = true := by simp (maxDischargeDepth := 30) [State.applyMotor, apply_ite State.regs, apply_ite (SMap.wf resetWord), hc]
@[simp] theorem State.clearMotor_canon (s : State) (m : Nat) (t : Nat) (hc : SMap.wf resetWord s.regs = true) :
    SMap.wf resetWord (State.clearMotor s m t).regs = true := by simp (maxDischargeDepth := 30) [State.clearMotor, apply_ite State.regs, apply_ite (SMap.wf resetWord), hc]
@[simp] theorem State.requestMotorClear_canon (s : State) (m : Nat) (tag : Option Nat) (hc : SMap.wf resetWord s.regs = true) :
    SMap.wf resetWord (State.requestMotorClear s m tag).regs = true := by simp (maxDischargeDepth := 30) [State.requestMotorClear, hc]
@[simp] theorem State.limpMotor_canon (s : State) (m : Nat) (t : Nat) (hc : SMap.wf resetWord s.regs = true) :
    SMap.wf resetWord (State.limpMotor s m t).regs = true := by unfold State.limpMotor; split <;> simp (maxDischargeDepth := 30) [hc]
@[simp] theorem State.pinch_canon (s : State) (m : Nat) (t : Nat) (hc : SMap.wf resetWord s.regs = true) :
    SMap.wf resetWord (State.pinch s m t).regs = true := by simp (maxDischargeDepth := 30) [State.pinch, hc]
@[simp] theorem State.motorStep_canon (s : State) (m : Nat) (t : Nat) (hc : SMap.wf resetWord s.regs = true) :
    SMap.wf resetWord (State.motorStep s m t).regs = true := by
  unfold State.motorStep; dsimp only; repeat' split
  all_goals simp (maxDischargeDepth := 30) [hc]
@[simp] theorem State.setSeq_canon (s : State) (i : Nat) (q : Seq) (hc : SMap.wf resetWord s.regs = true) :
    SMap.wf resetWord (State.setSeq s i q).regs = true := by simp (maxDischargeDepth := 30) [State.setSeq, hc]
@[simp] theorem State.bridgeOverrunAt_canon (s : State) (d : Die) (t : Nat) (hc : SMap.wf resetWord s.regs = true) :
    SMap.wf resetWord (State.bridgeOverrunAt s d t).regs = true := by simp +contextual (maxDischargeDepth := 30) [State.bridgeOverrunAt, apply_ite State.regs, apply_ite (SMap.wf resetWord), hc]
@[simp] theorem State.bridgeStepAt_canon (s : State) (d : Die) (t : Nat) (hc : SMap.wf resetWord s.regs = true) :
    SMap.wf resetWord (State.bridgeStepAt s d t).regs = true := by simp +contextual (maxDischargeDepth := 30) [State.bridgeStepAt, apply_ite State.regs, apply_ite (SMap.wf resetWord), hc]
@[simp] theorem State.bridgeStep_canon (s : State) (d : Die) (hc : SMap.wf resetWord s.regs = true) :
    SMap.wf resetWord (State.bridgeStep s d).regs = true := by simp +contextual (maxDischargeDepth := 30) [State.bridgeStep, apply_ite State.regs, apply_ite (SMap.wf resetWord), hc]
@[simp] theorem State.bridgeOverrun_canon (s : State) (d : Die) (hc : SMap.wf resetWord s.regs = true) :
    SMap.wf resetWord (State.bridgeOverrun s d).regs = true := by simp +contextual (maxDischargeDepth := 30) [State.bridgeOverrun, apply_ite State.regs, apply_ite (SMap.wf resetWord), hc]
@[simp] theorem State.motorSample_canon (s : State) (t : Nat) (y : MotorSample) (hc : SMap.wf resetWord s.regs = true) :
    SMap.wf resetWord (State.motorSample s t y).regs = true := by simp (maxDischargeDepth := 30) [State.motorSample, apply_ite State.regs, apply_ite (SMap.wf resetWord), hc]
@[simp] theorem State.rippleEdge_canon (s : State) (m : Nat) (hc : SMap.wf resetWord s.regs = true) :
    SMap.wf resetWord (State.rippleEdge s m).regs = true := by unfold State.rippleEdge; dsimp only; split <;> simp (maxDischargeDepth := 30) [apply_ite State.regs, apply_ite (SMap.wf resetWord), hc]
@[simp] theorem State.motorWindow_canon (s : State) (m : Nat) (hc : SMap.wf resetWord s.regs = true) :
    SMap.wf resetWord (State.motorWindow s m).regs = true := by simp (maxDischargeDepth := 30) [State.motorWindow, apply_ite State.regs, apply_ite (SMap.wf resetWord), hc]
@[simp] theorem State.pinchDone_canon (s : State) (m : Nat) (t : Nat) (hc : SMap.wf resetWord s.regs = true) :
    SMap.wf resetWord (State.pinchDone s m t).regs = true := by simp (maxDischargeDepth := 30) [State.pinchDone, apply_ite State.regs, apply_ite (SMap.wf resetWord), hc]
@[simp] theorem State.motorStallAt_canon (s : State) (m : Nat) (t : Nat) (hc : SMap.wf resetWord s.regs = true) :
    SMap.wf resetWord (State.motorStallAt s m t).regs = true := by
  unfold State.motorStallAt; (try dsimp only); repeat' split
  all_goals simp +contextual (maxDischargeDepth := 30) [hc, apply_ite State.regs, apply_ite (SMap.wf resetWord)]
@[simp] theorem State.motorStall_canon (s : State) (m : Nat) (hc : SMap.wf resetWord s.regs = true) :
    SMap.wf resetWord (State.motorStall s m).regs = true := by simp (maxDischargeDepth := 30) [State.motorStall, hc]
@[simp] theorem State.motorRunLimit_canon (s : State) (m : Nat) (hc : SMap.wf resetWord s.regs = true) :
    SMap.wf resetWord (State.motorRunLimit s m).regs = true := by unfold State.motorRunLimit; split <;> simp (maxDischargeDepth := 30) [apply_ite State.regs, apply_ite (SMap.wf resetWord), hc]
@[simp] theorem State.blankingEnd_canon (s : State) (m : Nat) (hc : SMap.wf resetWord s.regs = true) :
    SMap.wf resetWord (State.blankingEnd s m).regs = true := by simp (maxDischargeDepth := 30) [State.blankingEnd, apply_ite State.regs, apply_ite (SMap.wf resetWord), hc]
@[simp] theorem State.pulseEndAt_canon (s : State) (m : Nat) (t : Nat) (hc : SMap.wf resetWord s.regs = true) :
    SMap.wf resetWord (State.pulseEndAt s m t).regs = true := by
  unfold State.pulseEndAt; (try dsimp only); repeat' split
  all_goals simp +contextual (maxDischargeDepth := 30) [hc, apply_ite State.regs, apply_ite (SMap.wf resetWord)]
@[simp] theorem State.pulseEnd_canon (s : State) (m : Nat) (hc : SMap.wf resetWord s.regs = true) :
    SMap.wf resetWord (State.pulseEnd s m).regs = true := by simp (maxDischargeDepth := 30) [State.pulseEnd, hc]
@[simp] theorem State.pinchBrakeEnd_canon (s : State) (m : Nat) (hc : SMap.wf resetWord s.regs = true) :
    SMap.wf resetWord (State.pinchBrakeEnd s m).regs = true := by simp (maxDischargeDepth := 30) [State.pinchBrakeEnd, apply_ite State.regs, apply_ite (SMap.wf resetWord), hc]
@[simp] theorem State.reversalAt_canon (s : State) (m : Nat) (t : Nat) (hc : SMap.wf resetWord s.regs = true) :
    SMap.wf resetWord (State.reversalAt s m t).regs = true := by simp (maxDischargeDepth := 30) [State.reversalAt, apply_ite State.regs, apply_ite (SMap.wf resetWord), hc]
@[simp] theorem State.reversalComplete_canon (s : State) (m : Nat) (hc : SMap.wf resetWord s.regs = true) :
    SMap.wf resetWord (State.reversalComplete s m).regs = true := by simp (maxDischargeDepth := 30) [State.reversalComplete, apply_ite State.regs, apply_ite (SMap.wf resetWord), hc]
@[simp] theorem State.stepBefore_canon (s : State) (d : Die) (t : Nat) (hc : SMap.wf resetWord s.regs = true) :
    SMap.wf resetWord (State.stepBefore s d t).regs = true := by simp +contextual (maxDischargeDepth := 30) [State.stepBefore, apply_ite State.regs, apply_ite (SMap.wf resetWord), hc]
@[simp] theorem State.settleEnd_canon (s : State) (m : Nat) (hc : SMap.wf resetWord s.regs = true) :
    SMap.wf resetWord (State.settleEnd s m).regs = true := by
  unfold State.settleEnd; dsimp only; repeat' split
  all_goals simp (maxDischargeDepth := 30) [hc]
@[simp] theorem State.bridgeTrip_canon (s : State) (m : Nat) (x : BridgeSense) (hc : SMap.wf resetWord s.regs = true) :
    SMap.wf resetWord (State.bridgeTrip s m x).regs = true := by simp (maxDischargeDepth := 30) [State.bridgeTrip, apply_ite State.regs, apply_ite (SMap.wf resetWord), hc]
@[simp] theorem State.motorTrippedEnd_canon (s : State) (m : Nat) (hc : SMap.wf resetWord s.regs = true) :
    SMap.wf resetWord (State.motorTrippedEnd s m).regs = true := by simp (maxDischargeDepth := 30) [State.motorTrippedEnd, apply_ite State.regs, apply_ite (SMap.wf resetWord), hc]
@[simp] theorem State.thermal_canon (s : State) (m : Nat) (t : Nat) (hc : SMap.wf resetWord s.regs = true) :
    SMap.wf resetWord (State.thermal s m t).regs = true := by unfold State.thermal; split <;> simp (maxDischargeDepth := 30) [apply_ite State.regs, apply_ite (SMap.wf resetWord), hc]
@[simp] theorem State.motorEmberSet_canon (s : State) (m : Nat) (side : Nat) (tj : Int) (hc : SMap.wf resetWord s.regs = true) :
    SMap.wf resetWord (State.motorEmberSet s m side tj).regs = true := by simp +contextual (maxDischargeDepth := 30) [State.motorEmberSet, apply_ite State.regs, apply_ite (SMap.wf resetWord), hc]
@[simp] theorem State.motorEmberRelease_canon (s : State) (m : Nat) (side : Nat) (tj : Int) (hc : SMap.wf resetWord s.regs = true) :
    SMap.wf resetWord (State.motorEmberRelease s m side tj).regs = true := by unfold State.motorEmberRelease; dsimp only; split <;> simp +contextual (maxDischargeDepth := 30) [apply_ite State.regs, apply_ite (SMap.wf resetWord), hc]
@[simp] theorem State.currentChop_canon (s : State) (m : Nat) (cur : Nat) (hc : SMap.wf resetWord s.regs = true) :
    SMap.wf resetWord (State.currentChop s m cur).regs = true := by simp (maxDischargeDepth := 30) [State.currentChop, apply_ite State.regs, apply_ite (SMap.wf resetWord), hc]
@[simp] theorem State.chopOffEnd_canon (s : State) (m : Nat) (hc : SMap.wf resetWord s.regs = true) :
    SMap.wf resetWord (State.chopOffEnd s m).regs = true := by simp (maxDischargeDepth := 30) [State.chopOffEnd, apply_ite State.regs, apply_ite (SMap.wf resetWord), hc]
@[simp] theorem State.motorPeriodStart_canon (s : State) (m : Nat) (hc : SMap.wf resetWord s.regs = true) :
    SMap.wf resetWord (State.motorPeriodStart s m).regs = true := by simp (maxDischargeDepth := 30) [State.motorPeriodStart, apply_ite State.regs, apply_ite (SMap.wf resetWord), hc]
@[simp] theorem State.motorOnTimeEnd_canon (s : State) (m : Nat) (hc : SMap.wf resetWord s.regs = true) :
    SMap.wf resetWord (State.motorOnTimeEnd s m).regs = true := by simp (maxDischargeDepth := 30) [State.motorOnTimeEnd, apply_ite State.regs, apply_ite (SMap.wf resetWord), hc]
@[simp] theorem State.bemfStart_canon (s : State) (m : Nat) (hc : SMap.wf resetWord s.regs = true) :
    SMap.wf resetWord (State.bemfStart s m).regs = true := by simp (maxDischargeDepth := 30) [State.bemfStart, apply_ite State.regs, apply_ite (SMap.wf resetWord), hc]
@[simp] theorem State.bemfEnd_canon (s : State) (m : Nat) (hc : SMap.wf resetWord s.regs = true) :
    SMap.wf resetWord (State.bemfEnd s m).regs = true := by unfold State.bemfEnd; dsimp only; split <;> simp (maxDischargeDepth := 30) [apply_ite State.regs, apply_ite (SMap.wf resetWord), hc]
@[simp] theorem State.startMotor_canon (s : State) (m : Nat) (t : Nat) (hc : SMap.wf resetWord s.regs = true) :
    SMap.wf resetWord (State.startMotor s m t).regs = true := by simp (maxDischargeDepth := 30) [State.startMotor, hc]
@[simp] theorem State.commitMotor_canon (s : State) (m : Nat) (t : Nat) (hc : SMap.wf resetWord s.regs = true) :
    SMap.wf resetWord (State.commitMotor s m t).regs = true := by simp (maxDischargeDepth := 30) [State.commitMotor, apply_ite State.regs, apply_ite (SMap.wf resetWord), hc]
@[simp] theorem State.setValve_canon (s : State) (n : Nat) (x : Valve) (hc : SMap.wf resetWord s.regs = true) :
    SMap.wf resetWord (State.setValve s n x).regs = true := by simp (maxDischargeDepth := 30) [State.setValve, hc]
@[simp] theorem State.setBank_canon (s : State) (b : Nat) (x : Bank) (hc : SMap.wf resetWord s.regs = true) :
    SMap.wf resetWord (State.setBank s b x).regs = true := by simp (maxDischargeDepth := 30) [State.setBank, hc]
@[simp] theorem State.reportValve_canon (s : State) (n : Nat) (t : Nat) (hc : SMap.wf resetWord s.regs = true) :
    SMap.wf resetWord (State.reportValve s n t).regs = true := by simp (maxDischargeDepth := 30) [State.reportValve, hc]
@[simp] theorem State.reportBank_canon (s : State) (b : Nat) (t : Nat) (hc : SMap.wf resetWord s.regs = true) :
    SMap.wf resetWord (State.reportBank s b t).regs = true := by simp (maxDischargeDepth := 30) [State.reportBank, hc]
@[simp] theorem State.bankFollow_canon (s : State) (b : Nat) (t : Nat) (hc : SMap.wf resetWord s.regs = true) :
    SMap.wf resetWord (State.bankFollow s b t).regs = true := by simp (maxDischargeDepth := 30) [State.bankFollow, hc]
@[simp] theorem State.valveResult_canon (s : State) (n : Nat) (reason : Nat) (t : Nat) (hc : SMap.wf resetWord s.regs = true) :
    SMap.wf resetWord (State.valveResult s n reason t).regs = true := by simp (maxDischargeDepth := 30) [State.valveResult, apply_ite State.regs, apply_ite (SMap.wf resetWord), hc]
@[simp] theorem State.vEnter_canon (s : State) (n : Nat) (st : ValveSt) (t : Nat) (hc : SMap.wf resetWord s.regs = true) :
    SMap.wf resetWord (State.vEnter s n st t).regs = true := by simp (maxDischargeDepth := 30) [State.vEnter, apply_ite State.regs, apply_ite (SMap.wf resetWord), hc]
@[simp] theorem State.vRest_canon (s : State) (n : Nat) (t : Nat) (hc : SMap.wf resetWord s.regs = true) :
    SMap.wf resetWord (State.vRest s n t).regs = true := by simp (maxDischargeDepth := 30) [State.vRest, hc]
@[simp] theorem State.holdRefresh_canon (s : State) (n : Nat) (hc : SMap.wf resetWord s.regs = true) :
    SMap.wf resetWord (State.holdRefresh s n).regs = true := by simp (maxDischargeDepth := 30) [State.holdRefresh, hc]
@[simp] theorem State.toHold_canon (s : State) (n : Nat) (t : Nat) (hc : SMap.wf resetWord s.regs = true) :
    SMap.wf resetWord (State.toHold s n t).regs = true := by simp (maxDischargeDepth := 30) [State.toHold, hc]
@[simp] theorem State.toRelease_canon (s : State) (n : Nat) (res : Nat) (t : Nat) (hc : SMap.wf resetWord s.regs = true) :
    SMap.wf resetWord (State.toRelease s n res t).regs = true := by simp (maxDischargeDepth := 30) [State.toRelease, hc]
@[simp] theorem State.reportEnergy_canon (s : State) (n : Nat) (t : Nat) (hc : SMap.wf resetWord s.regs = true) :
    SMap.wf resetWord (State.reportEnergy s n t).regs = true := by simp (maxDischargeDepth := 30) [State.reportEnergy, hc]
@[simp] theorem State.endRelease_canon (s : State) (n : Nat) (t : Nat) (hc : SMap.wf resetWord s.regs = true) :
    SMap.wf resetWord (State.endRelease s n t).regs = true := by simp (maxDischargeDepth := 30) [State.endRelease, apply_ite State.regs, apply_ite (SMap.wf resetWord), hc]
@[simp] theorem State.dropReq_canon (s : State) (n : Nat) (reason : Nat) (t : Nat) (hc : SMap.wf resetWord s.regs = true) :
    SMap.wf resetWord (State.dropReq s n reason t).regs = true := by unfold State.dropReq; split <;> simp (maxDischargeDepth := 30) [apply_ite State.regs, apply_ite (SMap.wf resetWord), hc]
@[simp] theorem State.valveTripAt_canon (s : State) (n : Nat) (c : Nat) (t : Nat) (hc : SMap.wf resetWord s.regs = true) :
    SMap.wf resetWord (State.valveTripAt s n c t).regs = true := by simp (maxDischargeDepth := 30) [State.valveTripAt, apply_ite State.regs, apply_ite (SMap.wf resetWord), hc]
@[simp] theorem State.valveTrip_canon (s : State) (n : Nat) (cur : Nat) (hc : SMap.wf resetWord s.regs = true) :
    SMap.wf resetWord (State.valveTrip s n cur).regs = true := by simp (maxDischargeDepth := 30) [State.valveTrip, apply_ite State.regs, apply_ite (SMap.wf resetWord), hc]
@[simp] theorem State.valveTrippedEnd_canon (s : State) (n : Nat) (hc : SMap.wf resetWord s.regs = true) :
    SMap.wf resetWord (State.valveTrippedEnd s n).regs = true := by simp (maxDischargeDepth := 30) [State.valveTrippedEnd, apply_ite State.regs, apply_ite (SMap.wf resetWord), hc]
@[simp] theorem State.bankDrop_canon (s : State) (b : Nat) (reason : Nat) (t : Nat) (hc : SMap.wf resetWord s.regs = true) :
    SMap.wf resetWord (State.bankDrop s b reason t).regs = true := by
  unfold State.bankDrop; (try dsimp only); repeat' split
  all_goals first
    | (simp +contextual (maxDischargeDepth := 30) [hc, apply_ite State.regs, apply_ite (SMap.wf resetWord)]; done)
    | (refine foldl_canon _ (fun s x hc => ?_) _ _ ?_ <;> (try dsimp only) <;> (repeat' split) <;>
        simp +contextual (maxDischargeDepth := 30) [hc])
@[simp] theorem State.bEnter_canon (s : State) (b : Nat) (st : BankSt) (t : Nat) (hc : SMap.wf resetWord s.regs = true) :
    SMap.wf resetWord (State.bEnter s b st t).regs = true := by simp (maxDischargeDepth := 30) [State.bEnter, hc]
@[simp] theorem State.bRest_canon (s : State) (b : Nat) (t : Nat) (hc : SMap.wf resetWord s.regs = true) :
    SMap.wf resetWord (State.bRest s b t).regs = true := by simp (maxDischargeDepth := 30) [State.bRest, hc]
@[simp] theorem State.bankTrip_canon (s : State) (b : Nat) (cur : Nat) (hc : SMap.wf resetWord s.regs = true) :
    SMap.wf resetWord (State.bankTrip s b cur).regs = true := by simp (maxDischargeDepth := 30) [State.bankTrip, apply_ite State.regs, apply_ite (SMap.wf resetWord), hc]
@[simp] theorem State.bankTrippedEnd_canon (s : State) (b : Nat) (hc : SMap.wf resetWord s.regs = true) :
    SMap.wf resetWord (State.bankTrippedEnd s b).regs = true := by simp (maxDischargeDepth := 30) [State.bankTrippedEnd, apply_ite State.regs, apply_ite (SMap.wf resetWord), hc]
@[simp] theorem State.valveEmberSet_canon (s : State) (n : Nat) (tj : Int) (hc : SMap.wf resetWord s.regs = true) :
    SMap.wf resetWord (State.valveEmberSet s n tj).regs = true := by
  unfold State.valveEmberSet; dsimp only; repeat' split
  all_goals simp (maxDischargeDepth := 30) [hc]
@[simp] theorem State.valveEmberRelease_canon (s : State) (n : Nat) (tj : Int) (hc : SMap.wf resetWord s.regs = true) :
    SMap.wf resetWord (State.valveEmberRelease s n tj).regs = true := by unfold State.valveEmberRelease; split <;> simp (maxDischargeDepth := 30) [apply_ite State.regs, apply_ite (SMap.wf resetWord), hc]
@[simp] theorem State.bankEmberSet_canon (s : State) (b : Nat) (tj : Int) (hc : SMap.wf resetWord s.regs = true) :
    SMap.wf resetWord (State.bankEmberSet s b tj).regs = true := by
  unfold State.bankEmberSet; dsimp only; repeat' split
  all_goals simp (maxDischargeDepth := 30) [hc]
@[simp] theorem State.bankEmberRelease_canon (s : State) (b : Nat) (tj : Int) (hc : SMap.wf resetWord s.regs = true) :
    SMap.wf resetWord (State.bankEmberRelease s b tj).regs = true := by unfold State.bankEmberRelease; split <;> simp (maxDischargeDepth := 30) [apply_ite State.regs, apply_ite (SMap.wf resetWord), hc]
@[simp] theorem State.applyValve_canon (s : State) (n : Nat) (w : Nat) (t : Nat) (hc : SMap.wf resetWord s.regs = true) :
    SMap.wf resetWord (State.applyValve s n w t).regs = true := by simp (maxDischargeDepth := 30) [State.applyValve, apply_ite State.regs, apply_ite (SMap.wf resetWord), hc]
@[simp] theorem State.makeReq_canon (s : State) (n : Nat) (r : ValveReq) (hc : SMap.wf resetWord s.regs = true) :
    SMap.wf resetWord (State.makeReq s n r).regs = true := by simp (maxDischargeDepth := 30) [State.makeReq, hc]
@[simp] theorem State.valveAct_canon (s : State) (n : Nat) (w : Nat) (stamp : Nat) (t : Nat) (hc : SMap.wf resetWord s.regs = true) :
    SMap.wf resetWord (State.valveAct s n w stamp t).regs = true := by
  unfold State.valveAct; dsimp only; repeat' split
  all_goals simp (maxDischargeDepth := 30) [hc]
@[simp] theorem State.takeWord_canon (s : State) (n : Nat) (t : Nat) (hc : SMap.wf resetWord s.regs = true) :
    SMap.wf resetWord (State.takeWord s n t).regs = true := by unfold State.takeWord; split <;> simp (maxDischargeDepth := 30) [apply_ite State.regs, apply_ite (SMap.wf resetWord), hc]
@[simp] theorem State.peakFailAt_canon (s : State) (n : Nat) (t : Nat) (hc : SMap.wf resetWord s.regs = true) :
    SMap.wf resetWord (State.peakFailAt s n t).regs = true := by simp (maxDischargeDepth := 30) [State.peakFailAt, apply_ite State.regs, apply_ite (SMap.wf resetWord), hc]
@[simp] theorem State.peakEndAt_canon (s : State) (n : Nat) (t : Nat) (hc : SMap.wf resetWord s.regs = true) :
    SMap.wf resetWord (State.peakEndAt s n t).regs = true := by simp (maxDischargeDepth := 30) [State.peakEndAt, apply_ite State.regs, apply_ite (SMap.wf resetWord), hc]
@[simp] theorem State.releaseEndAt_canon (s : State) (n : Nat) (t : Nat) (hc : SMap.wf resetWord s.regs = true) :
    SMap.wf resetWord (State.releaseEndAt s n t).regs = true := by simp (maxDischargeDepth := 30) [State.releaseEndAt, apply_ite State.regs, apply_ite (SMap.wf resetWord), hc]
@[simp] theorem State.releaseTimeoutAt_canon (s : State) (n : Nat) (t : Nat) (hc : SMap.wf resetWord s.regs = true) :
    SMap.wf resetWord (State.releaseTimeoutAt s n t).regs = true := by simp (maxDischargeDepth := 30) [State.releaseTimeoutAt, apply_ite State.regs, apply_ite (SMap.wf resetWord), hc]
@[simp] theorem State.startPeak_canon (s : State) (n : Nat) (t : Nat) (hc : SMap.wf resetWord s.regs = true) :
    SMap.wf resetWord (State.startPeak s n t).regs = true := by unfold State.startPeak; dsimp only; split <;> simp (maxDischargeDepth := 30) [apply_ite State.regs, apply_ite (SMap.wf resetWord), hc]
@[simp] theorem State.leashAt_canon (s : State) (n : Nat) (t : Nat) (hc : SMap.wf resetWord s.regs = true) :
    SMap.wf resetWord (State.leashAt s n t).regs = true := by unfold State.leashAt; split <;> simp (maxDischargeDepth := 30) [apply_ite State.regs, apply_ite (SMap.wf resetWord), hc]
@[simp] theorem State.holdStep_canon (s : State) (n : Nat) (t : Nat) (hc : SMap.wf resetWord s.regs = true) :
    SMap.wf resetWord (State.holdStep s n t).regs = true := by simp (maxDischargeDepth := 30) [State.holdStep, apply_ite State.regs, apply_ite (SMap.wf resetWord), hc]
@[simp] theorem State.bankOverrunAt_canon (s : State) (b : Nat) (t : Nat) (hc : SMap.wf resetWord s.regs = true) :
    SMap.wf resetWord (State.bankOverrunAt s b t).regs = true := by
  unfold State.bankOverrunAt; (try dsimp only); repeat' split
  all_goals first
    | (simp +contextual (maxDischargeDepth := 30) [hc, apply_ite State.regs, apply_ite (SMap.wf resetWord)]; done)
    | (refine foldl_canon _ (fun s x hc => ?_) _ _ ?_ <;> (try dsimp only) <;> (repeat' split) <;>
        simp +contextual (maxDischargeDepth := 30) [hc, apply_ite State.regs, apply_ite (SMap.wf resetWord)])
@[simp] theorem State.valveStepAt_canon (s : State) (b : Nat) (t : Nat) (hc : SMap.wf resetWord s.regs = true) :
    SMap.wf resetWord (State.valveStepAt s b t).regs = true := by simp +contextual (maxDischargeDepth := 30) [State.valveStepAt, apply_ite State.regs, apply_ite (SMap.wf resetWord), hc]
@[simp] theorem State.valveStep_canon (s : State) (b : Nat) (hc : SMap.wf resetWord s.regs = true) :
    SMap.wf resetWord (State.valveStep s b).regs = true := by simp +contextual (maxDischargeDepth := 30) [State.valveStep, apply_ite State.regs, apply_ite (SMap.wf resetWord), hc]
@[simp] theorem State.holdLow_canon (s : State) (n : Nat) (hc : SMap.wf resetWord s.regs = true) :
    SMap.wf resetWord (State.holdLow s n).regs = true := by simp (maxDischargeDepth := 30) [State.holdLow, apply_ite State.regs, apply_ite (SMap.wf resetWord), hc]
@[simp] theorem State.bankOverrun_canon (s : State) (b : Nat) (hc : SMap.wf resetWord s.regs = true) :
    SMap.wf resetWord (State.bankOverrun s b).regs = true := by
  unfold State.bankOverrun; (try dsimp only); repeat' split
  all_goals first
    | (simp +contextual (maxDischargeDepth := 30) [hc]; done)
    | (refine foldl_canon _ (fun s x hc => ?_) _ _ ?_ <;> (try dsimp only) <;> (repeat' split) <;>
        simp +contextual (maxDischargeDepth := 30) [hc])
@[simp] theorem State.targetReached_canon (s : State) (n : Nat) (cur : Nat) (hc : SMap.wf resetWord s.regs = true) :
    SMap.wf resetWord (State.targetReached s n cur).regs = true := by simp (maxDischargeDepth := 30) [State.targetReached, apply_ite State.regs, apply_ite (SMap.wf resetWord), hc]
@[simp] theorem State.offTimeEnd_canon (s : State) (n : Nat) (hc : SMap.wf resetWord s.regs = true) :
    SMap.wf resetWord (State.offTimeEnd s n).regs = true := by simp (maxDischargeDepth := 30) [State.offTimeEnd, apply_ite State.regs, apply_ite (SMap.wf resetWord), hc]
@[simp] theorem State.valveSample_canon (s : State) (t : Nat) (y : ValveSample) (hc : SMap.wf resetWord s.regs = true) :
    SMap.wf resetWord (State.valveSample s t y).regs = true := by
  unfold State.valveSample; dsimp only; repeat' split
  all_goals simp (maxDischargeDepth := 30) [hc]
@[simp] theorem State.bankSample_canon (s : State) (y : ValveSample) (hc : SMap.wf resetWord s.regs = true) :
    SMap.wf resetWord (State.bankSample s y).regs = true := by simp (maxDischargeDepth := 30) [State.bankSample, apply_ite State.regs, apply_ite (SMap.wf resetWord), hc]
@[simp] theorem State.valveWindow_canon (s : State) (n : Nat) (hc : SMap.wf resetWord s.regs = true) :
    SMap.wf resetWord (State.valveWindow s n).regs = true := by simp (maxDischargeDepth := 30) [State.valveWindow, apply_ite State.regs, apply_ite (SMap.wf resetWord), hc]
@[simp] theorem State.bankWindow_canon (s : State) (b : Nat) (hc : SMap.wf resetWord s.regs = true) :
    SMap.wf resetWord (State.bankWindow s b).regs = true := by simp (maxDischargeDepth := 30) [State.bankWindow, apply_ite State.regs, apply_ite (SMap.wf resetWord), hc]
@[simp] theorem State.reportBoost_canon (s : State) (t : Nat) (hc : SMap.wf resetWord s.regs = true) :
    SMap.wf resetWord (State.reportBoost s t).regs = true := by simp (maxDischargeDepth := 30) [State.reportBoost, hc]
@[simp] theorem State.boostSample_canon (s : State) (t : Nat) (rail : Nat) (hc : SMap.wf resetWord s.regs = true) :
    SMap.wf resetWord (State.boostSample s t rail).regs = true := by simp (maxDischargeDepth := 30) [State.boostSample, hc]
@[simp] theorem State.boostReady_canon (s : State) (hc : SMap.wf resetWord s.regs = true) :
    SMap.wf resetWord (State.boostReady s).regs = true := by unfold State.boostReady; split <;> simp (maxDischargeDepth := 30) [apply_ite State.regs, apply_ite (SMap.wf resetWord), hc]
@[simp] theorem State.boostReadyLoss_canon (s : State) (hc : SMap.wf resetWord s.regs = true) :
    SMap.wf resetWord (State.boostReadyLoss s).regs = true := by simp (maxDischargeDepth := 30) [State.boostReadyLoss, apply_ite State.regs, apply_ite (SMap.wf resetWord), hc]
@[simp] theorem State.boostNotReady_canon (s : State) (hc : SMap.wf resetWord s.regs = true) :
    SMap.wf resetWord (State.boostNotReady s).regs = true := by simp (maxDischargeDepth := 30) [State.boostNotReady, apply_ite State.regs, apply_ite (SMap.wf resetWord), hc]
@[simp] theorem State.boostOvp_canon (s : State) (hc : SMap.wf resetWord s.regs = true) :
    SMap.wf resetWord (State.boostOvp s).regs = true := by simp (maxDischargeDepth := 30) [State.boostOvp, apply_ite State.regs, apply_ite (SMap.wf resetWord), hc]
@[simp] theorem State.boostOvpEnd_canon (s : State) (hc : SMap.wf resetWord s.regs = true) :
    SMap.wf resetWord (State.boostOvpEnd s).regs = true := by simp (maxDischargeDepth := 30) [State.boostOvpEnd, apply_ite State.regs, apply_ite (SMap.wf resetWord), hc]
@[simp] theorem State.boostFollow_canon (s : State) (t : Nat) (hc : SMap.wf resetWord s.regs = true) :
    SMap.wf resetWord (State.boostFollow s t).regs = true := by simp (maxDischargeDepth := 30) [State.boostFollow, apply_ite State.regs, apply_ite (SMap.wf resetWord), hc]
@[simp] theorem State.clearValve_canon (s : State) (n : Nat) (t : Nat) (hc : SMap.wf resetWord s.regs = true) :
    SMap.wf resetWord (State.clearValve s n t).regs = true := by simp (maxDischargeDepth := 30) [State.clearValve, apply_ite State.regs, apply_ite (SMap.wf resetWord), hc]
@[simp] theorem State.clearBank_canon (s : State) (b : Nat) (t : Nat) (hc : SMap.wf resetWord s.regs = true) :
    SMap.wf resetWord (State.clearBank s b t).regs = true := by simp (maxDischargeDepth := 30) [State.clearBank, apply_ite State.regs, apply_ite (SMap.wf resetWord), hc]
@[simp] theorem State.requestValveClear_canon (s : State) (n : Nat) (tag : Option Nat) (hc : SMap.wf resetWord s.regs = true) :
    SMap.wf resetWord (State.requestValveClear s n tag).regs = true := by simp (maxDischargeDepth := 30) [State.requestValveClear, hc]
@[simp] theorem State.requestBankClear_canon (s : State) (b : Nat) (tag : Option Nat) (hc : SMap.wf resetWord s.regs = true) :
    SMap.wf resetWord (State.requestBankClear s b tag).regs = true := by simp (maxDischargeDepth := 30) [State.requestBankClear, hc]
@[simp] theorem State.limpOff_canon (s : State) (n : Nat) (t : Nat) (hc : SMap.wf resetWord s.regs = true) :
    SMap.wf resetWord (State.limpOff s n t).regs = true := by
  unfold State.limpOff; (try dsimp only); repeat' split
  all_goals simp +contextual (maxDischargeDepth := 30) [hc, apply_ite State.regs, apply_ite (SMap.wf resetWord)]
@[simp] theorem State.limpOn_canon (s : State) (n : Nat) (t : Nat) (hc : SMap.wf resetWord s.regs = true) :
    SMap.wf resetWord (State.limpOn s n t).regs = true := by simp (maxDischargeDepth := 30) [State.limpOn, apply_ite State.regs, apply_ite (SMap.wf resetWord), hc]
@[simp] theorem State.showLimp_canon (s : State) (n : Nat) (t : Nat) (hc : SMap.wf resetWord s.regs = true) :
    SMap.wf resetWord (State.showLimp s n t).regs = true := by simp (maxDischargeDepth := 30) [State.showLimp, hc]
@[simp] theorem State.limpValve_canon (s : State) (n : Nat) (t : Nat) (hc : SMap.wf resetWord s.regs = true) :
    SMap.wf resetWord (State.limpValve s n t).regs = true := by unfold State.limpValve; split <;> simp (maxDischargeDepth := 30) [apply_ite State.regs, apply_ite (SMap.wf resetWord), hc]
@[simp] theorem State.unlimpValve_canon (s : State) (n : Nat) (hc : SMap.wf resetWord s.regs = true) :
    SMap.wf resetWord (State.unlimpValve s n).regs = true := by simp (maxDischargeDepth := 30) [State.unlimpValve, hc]
@[simp] theorem State.commitBank_canon (s : State) (b : Nat) (t : Nat) (hc : SMap.wf resetWord s.regs = true) :
    SMap.wf resetWord (State.commitBank s b t).regs = true := by simp +contextual (maxDischargeDepth := 30) [State.commitBank, hc]
@[simp] theorem State.commitValveOff_canon (s : State) (n : Nat) (t : Nat) (hc : SMap.wf resetWord s.regs = true) :
    SMap.wf resetWord (State.commitValveOff s n t).regs = true := by unfold State.commitValveOff; split <;> simp (maxDischargeDepth := 30) [hc]
@[simp] theorem State.valvesHeldOff_canon (s : State) (t : Nat) (hc : SMap.wf resetWord s.regs = true) :
    SMap.wf resetWord (State.valvesHeldOff s t).regs = true := by
  unfold State.valvesHeldOff; dsimp only
  apply State.boostFollow_canon
  refine foldl_canon _ (fun s x hc => ?_) _ _ hc; (try dsimp only); repeat' split
  all_goals simp +contextual (maxDischargeDepth := 30) [hc]
@[simp] theorem State.startValves_canon (s : State) (t : Nat) (hc : SMap.wf resetWord s.regs = true) :
    SMap.wf resetWord (State.startValves s t).regs = true := by simp +contextual (maxDischargeDepth := 30) [State.startValves, hc]
@[simp] theorem State.setSink_canon (s : State) (n : Nat) (x : LedSink) (hc : SMap.wf resetWord s.regs = true) :
    SMap.wf resetWord (State.setSink s n x).regs = true := by simp (maxDischargeDepth := 30) [State.setSink, hc]
@[simp] theorem State.reportLed_canon (s : State) (n : Nat) (t : Nat) (hc : SMap.wf resetWord s.regs = true) :
    SMap.wf resetWord (State.reportLed s n t).regs = true := by simp (maxDischargeDepth := 30) [State.reportLed, hc]
@[simp] theorem State.ledMap_canon (s : State) (n : Nat) (b : Bool) (hc : SMap.wf resetWord s.regs = true) :
    SMap.wf resetWord (State.ledMap s n b).regs = true := by simp (maxDischargeDepth := 30) [State.ledMap, apply_ite State.regs, apply_ite (SMap.wf resetWord), hc]
@[simp] theorem State.ledEnter_canon (s : State) (n : Nat) (st : LedSt) (t : Nat) (hc : SMap.wf resetWord s.regs = true) :
    SMap.wf resetWord (State.ledEnter s n st t).regs = true := by simp (maxDischargeDepth := 30) [State.ledEnter, apply_ite State.regs, apply_ite (SMap.wf resetWord), hc]
@[simp] theorem State.setLedPos_canon (s : State) (n : Nat) (x : Nat) (hc : SMap.wf resetWord s.regs = true) :
    SMap.wf resetWord (State.setLedPos s n x).regs = true := by simp (maxDischargeDepth := 30) [State.setLedPos, hc]
@[simp] theorem State.ledSet_canon (s : State) (n : Nat) (pos : Nat) (curve : Nat) (t : Nat) (hc : SMap.wf resetWord s.regs = true) :
    SMap.wf resetWord (State.ledSet s n pos curve t).regs = true := by simp (maxDischargeDepth := 30) [State.ledSet, hc]
@[simp] theorem State.ledOff_canon (s : State) (n : Nat) (t : Nat) (hc : SMap.wf resetWord s.regs = true) :
    SMap.wf resetWord (State.ledOff s n t).regs = true := by simp (maxDischargeDepth := 30) [State.ledOff, hc]
@[simp] theorem State.ledAct_canon (s0 : State) (n : Nat) (w : Nat) (t : Nat) (hc : SMap.wf resetWord s0.regs = true) :
    SMap.wf resetWord (State.ledAct s0 n w t).regs = true := by unfold State.ledAct; dsimp only; split <;> simp (maxDischargeDepth := 30) [apply_ite State.regs, apply_ite (SMap.wf resetWord), hc]
@[simp] theorem State.applyLed_canon (s : State) (n : Nat) (w : Nat) (t : Nat) (hc : SMap.wf resetWord s.regs = true) :
    SMap.wf resetWord (State.applyLed s n w t).regs = true := by simp (maxDischargeDepth := 30) [State.applyLed, apply_ite State.regs, apply_ite (SMap.wf resetWord), hc]
@[simp] theorem State.clearLed_canon (s : State) (n : Nat) (t : Nat) (hc : SMap.wf resetWord s.regs = true) :
    SMap.wf resetWord (State.clearLed s n t).regs = true := by simp (maxDischargeDepth := 30) [State.clearLed, apply_ite State.regs, apply_ite (SMap.wf resetWord), hc]
@[simp] theorem State.requestLedClear_canon (s : State) (n : Nat) (tag : Option Nat) (hc : SMap.wf resetWord s.regs = true) :
    SMap.wf resetWord (State.requestLedClear s n tag).regs = true := by simp (maxDischargeDepth := 30) [State.requestLedClear, hc]
@[simp] theorem State.limpLed_canon (s : State) (n : Nat) (t : Nat) (hc : SMap.wf resetWord s.regs = true) :
    SMap.wf resetWord (State.limpLed s n t).regs = true := by
  unfold State.limpLed; dsimp only; repeat' split
  all_goals simp (maxDischargeDepth := 30) [hc]
@[simp] theorem State.unlimpLed_canon (s : State) (n : Nat) (hc : SMap.wf resetWord s.regs = true) :
    SMap.wf resetWord (State.unlimpLed s n).regs = true := by simp (maxDischargeDepth := 30) [State.unlimpLed, hc]
@[simp] theorem State.ledPeriodStart_canon (s : State) (n : Nat) (hc : SMap.wf resetWord s.regs = true) :
    SMap.wf resetWord (State.ledPeriodStart s n).regs = true := by simp (maxDischargeDepth := 30) [State.ledPeriodStart, apply_ite State.regs, apply_ite (SMap.wf resetWord), hc]
@[simp] theorem State.ledSample_canon (s : State) (t : Nat) (y : LedSample) (hc : SMap.wf resetWord s.regs = true) :
    SMap.wf resetWord (State.ledSample s t y).regs = true := by simp (maxDischargeDepth := 30) [State.ledSample, apply_ite State.regs, apply_ite (SMap.wf resetWord), hc]
@[simp] theorem State.ledOpen_canon (s : State) (n : Nat) (hc : SMap.wf resetWord s.regs = true) :
    SMap.wf resetWord (State.ledOpen s n).regs = true := by simp (maxDischargeDepth := 30) [State.ledOpen, apply_ite State.regs, apply_ite (SMap.wf resetWord), hc]
@[simp] theorem State.ledOpenClear_canon (s : State) (n : Nat) (hc : SMap.wf resetWord s.regs = true) :
    SMap.wf resetWord (State.ledOpenClear s n).regs = true := by simp (maxDischargeDepth := 30) [State.ledOpenClear, apply_ite State.regs, apply_ite (SMap.wf resetWord), hc]
@[simp] theorem State.ledShort_canon (s : State) (n : Nat) (hc : SMap.wf resetWord s.regs = true) :
    SMap.wf resetWord (State.ledShort s n).regs = true := by simp (maxDischargeDepth := 30) [State.ledShort, apply_ite State.regs, apply_ite (SMap.wf resetWord), hc]
@[simp] theorem State.foldback_canon (s : State) (tj : Int) (hc : SMap.wf resetWord s.regs = true) :
    SMap.wf resetWord (State.foldback s tj).regs = true := by simp (maxDischargeDepth := 30) [State.foldback, apply_ite State.regs, apply_ite (SMap.wf resetWord), hc]
@[simp] theorem State.arrayEmberSet_canon (s : State) (tj : Int) (hc : SMap.wf resetWord s.regs = true) :
    SMap.wf resetWord (State.arrayEmberSet s tj).regs = true := by simp +contextual (maxDischargeDepth := 30) [State.arrayEmberSet, apply_ite State.regs, apply_ite (SMap.wf resetWord), hc]
@[simp] theorem State.arrayEmberRelease_canon (s : State) (tj : Int) (hc : SMap.wf resetWord s.regs = true) :
    SMap.wf resetWord (State.arrayEmberRelease s tj).regs = true := by unfold State.arrayEmberRelease; split <;> simp +contextual (maxDischargeDepth := 30) [apply_ite State.regs, apply_ite (SMap.wf resetWord), hc]
@[simp] theorem State.blankLed_canon (s : State) (n : Nat) (hc : SMap.wf resetWord s.regs = true) :
    SMap.wf resetWord (State.blankLed s n).regs = true := by simp (maxDischargeDepth := 30) [State.blankLed, hc]
@[simp] theorem State.commitLed_canon (s : State) (n : Nat) (t : Nat) (turnedOff : Bool) (hc : SMap.wf resetWord s.regs = true) :
    SMap.wf resetWord (State.commitLed s n t turnedOff).regs = true := by simp (maxDischargeDepth := 30) [State.commitLed, apply_ite State.regs, apply_ite (SMap.wf resetWord), hc]
@[simp] theorem State.startLeds_canon (s : State) (t : Nat) (hc : SMap.wf resetWord s.regs = true) :
    SMap.wf resetWord (State.startLeds s t).regs = true := by simp +contextual (maxDischargeDepth := 30) [State.startLeds, hc]
@[simp] theorem State.setInput_canon (s : State) (n : Nat) (x : Input) (hc : SMap.wf resetWord s.regs = true) :
    SMap.wf resetWord (State.setInput s n x).regs = true := by simp (maxDischargeDepth := 30) [State.setInput, hc]
@[simp] theorem State.beginRun_canon (s : State) (n : Nat) (t : Nat) (hc : SMap.wf resetWord s.regs = true) :
    SMap.wf resetWord (State.beginRun s n t).regs = true := by simp (maxDischargeDepth := 30) [State.beginRun, hc]
@[simp] theorem State.restart_canon (s : State) (n : Nat) (t : Nat) (hc : SMap.wf resetWord s.regs = true) :
    SMap.wf resetWord (State.restart s n t).regs = true := by simp (maxDischargeDepth := 30) [State.restart, hc]
@[simp] theorem State.sendLevel_canon (s : State) (n : Nat) (t : Nat) (hc : SMap.wf resetWord s.regs = true) :
    SMap.wf resetWord (State.sendLevel s n t).regs = true := by simp (maxDischargeDepth := 30) [State.sendLevel, hc]
@[simp] theorem State.acceptLevel_canon (s : State) (n : Nat) (edge : Nat) (t : Nat) (hc : SMap.wf resetWord s.regs = true) :
    SMap.wf resetWord (State.acceptLevel s n edge t).regs = true := by simp (maxDischargeDepth := 30) [State.acceptLevel, hc]
@[simp] theorem State.latchWake_canon (s : State) (n : Nat) (was : Bool) (hc : SMap.wf resetWord s.regs = true) :
    SMap.wf resetWord (State.latchWake s n was).regs = true := by simp (maxDischargeDepth := 30) [State.latchWake, apply_ite State.regs, hc]
@[simp] theorem State.acceptOne_canon (s : State) (n : Nat) (hc : SMap.wf resetWord s.regs = true) :
    SMap.wf resetWord (State.acceptOne s n).regs = true := by
  unfold State.acceptOne; (try dsimp only); repeat' split
  all_goals simp +contextual (maxDischargeDepth := 30) [hc, apply_ite State.regs, apply_ite (SMap.wf resetWord)]
@[simp] theorem State.acceptBefore_canon (s : State) (n : Nat) (t : Nat) (hc : SMap.wf resetWord s.regs = true) :
    SMap.wf resetWord (State.acceptBefore s n t).regs = true := by
  unfold State.acceptBefore; (try dsimp only); repeat' split
  all_goals simp +contextual (maxDischargeDepth := 30) [hc, apply_ite State.regs, apply_ite (SMap.wf resetWord)]
@[simp] theorem State.rawAt_canon (s0 : State) (n : Nat) (v : Nat) (t : Nat) (hc : SMap.wf resetWord s0.regs = true) :
    SMap.wf resetWord (State.rawAt s0 n v t).regs = true := by simp (maxDischargeDepth := 30) [State.rawAt, apply_ite State.regs, apply_ite (SMap.wf resetWord), hc]
@[simp] theorem State.rawEdge_canon (s : State) (n : Nat) (v : Nat) (hc : SMap.wf resetWord s.regs = true) :
    SMap.wf resetWord (State.rawEdge s n v).regs = true := by simp (maxDischargeDepth := 30) [State.rawEdge, apply_ite State.regs, apply_ite (SMap.wf resetWord), hc]
@[simp] theorem State.pulsedRead_canon (s : State) (n : Nat) (v : Nat) (hc : SMap.wf resetWord s.regs = true) :
    SMap.wf resetWord (State.pulsedRead s n v).regs = true := by simp (maxDischargeDepth := 30) [State.pulsedRead, apply_ite State.regs, apply_ite (SMap.wf resetWord), hc]
@[simp] theorem State.debounceAccept_canon (s : State) (n : Nat) (hc : SMap.wf resetWord s.regs = true) :
    SMap.wf resetWord (State.debounceAccept s n).regs = true := by
  unfold State.debounceAccept; (try dsimp only); repeat' split
  all_goals simp +contextual (maxDischargeDepth := 30) [hc, apply_ite State.regs, apply_ite (SMap.wf resetWord)]
@[simp] theorem State.chatter_canon (s : State) (n : Nat) (hc : SMap.wf resetWord s.regs = true) :
    SMap.wf resetWord (State.chatter s n).regs = true := by unfold State.chatter; split <;> simp (maxDischargeDepth := 30) [hc]
@[simp] theorem State.lowbatSample_canon (s0 : State) (n : Nat) (t : Nat) (vbat : Nat) (hc : SMap.wf resetWord s0.regs = true) :
    SMap.wf resetWord (State.lowbatSample s0 n t vbat).regs = true := by simp (maxDischargeDepth := 30) [State.lowbatSample, apply_ite State.regs, apply_ite (SMap.wf resetWord), hc]
@[simp] theorem State.lowbatEnd_canon (s : State) (n : Nat) (hc : SMap.wf resetWord s.regs = true) :
    SMap.wf resetWord (State.lowbatEnd s n).regs = true := by unfold State.lowbatEnd; dsimp only; split <;> simp (maxDischargeDepth := 30) [apply_ite State.regs, apply_ite (SMap.wf resetWord), hc]
@[simp] theorem State.startInput_canon (s : State) (n : Nat) (t : Nat) (hc : SMap.wf resetWord s.regs = true) :
    SMap.wf resetWord (State.startInput s n t).regs = true := by simp (maxDischargeDepth := 30) [State.startInput, hc]
@[simp] theorem State.showWetLoad_canon (s : State) (hc : SMap.wf resetWord s.regs = true) :
    SMap.wf resetWord (State.showWetLoad s).regs = true := by simp (maxDischargeDepth := 30) [State.showWetLoad, hc]
@[simp] theorem State.parkInput_canon (s : State) (n : Nat) (hc : SMap.wf resetWord s.regs = true) :
    SMap.wf resetWord (State.parkInput s n).regs = true := by simp (maxDischargeDepth := 30) [State.parkInput, hc]
@[simp] theorem State.pollInput_canon (s : State) (n v : Nat) (hc : SMap.wf resetWord s.regs = true) :
    SMap.wf resetWord (s.pollInput n v).2.regs = true := by simp (maxDischargeDepth := 30) [State.pollInput, hc]
@[simp] theorem State.setSup_canon (s : State) (d : Die) (x : Supply) (hc : SMap.wf resetWord s.regs = true) :
    SMap.wf resetWord (State.setSup s d x).regs = true := by simp (maxDischargeDepth := 30) [State.setSup, hc]
@[simp] theorem State.supEnter_canon (s : State) (d : Die) (st : SupSt) (t : Nat) (hc : SMap.wf resetWord s.regs = true) :
    SMap.wf resetWord (State.supEnter s d st t).regs = true := by simp +contextual (maxDischargeDepth := 30) [State.supEnter, apply_ite State.regs, apply_ite (SMap.wf resetWord), hc]
@[simp] theorem State.supWindow_canon (s : State) (d : Die) (w : Nat) (hc : SMap.wf resetWord s.regs = true) :
    SMap.wf resetWord (State.supWindow s d w).regs = true := by simp (maxDischargeDepth := 30) [State.supWindow, apply_ite State.regs, apply_ite (SMap.wf resetWord), hc]
@[simp] theorem State.windowAt_canon (s : State) (d : Die) (w : Nat) (hc : SMap.wf resetWord s.regs = true) :
    SMap.wf resetWord (State.windowAt s d w).regs = true := by unfold State.windowAt; split <;> simp +contextual (maxDischargeDepth := 30) [hc]
@[simp] theorem State.windowEnd_canon (s : State) (d : Die) (hc : SMap.wf resetWord s.regs = true) :
    SMap.wf resetWord (State.windowEnd s d).regs = true := by simp (maxDischargeDepth := 30) [State.windowEnd, apply_ite State.regs, apply_ite (SMap.wf resetWord), hc]
@[simp] theorem State.bundleEarly_canon (s : State) (d : Die) (hc : SMap.wf resetWord s.regs = true) :
    SMap.wf resetWord (State.bundleEarly s d).regs = true := by
  unfold State.bundleEarly; (try dsimp only); repeat' split
  all_goals simp +contextual (maxDischargeDepth := 30) [hc, apply_ite State.regs, apply_ite (SMap.wf resetWord)]
@[simp] theorem State.wickStepAt_canon (s : State) (d : Die) (t : Nat) (hc : SMap.wf resetWord s.regs = true) :
    SMap.wf resetWord (State.wickStepAt s d t).regs = true := by simp +contextual (maxDischargeDepth := 30) [State.wickStepAt, apply_ite State.regs, apply_ite (SMap.wf resetWord), hc]
@[simp] theorem State.wickStep_canon (s : State) (d : Die) (hc : SMap.wf resetWord s.regs = true) :
    SMap.wf resetWord (State.wickStep s d).regs = true := by simp +contextual (maxDischargeDepth := 30) [State.wickStep, apply_ite State.regs, apply_ite (SMap.wf resetWord), hc]
@[simp] theorem State.vbatSample_canon (s : State) (d : Die) (t : Nat) (x : Samples) (hc : SMap.wf resetWord s.regs = true) :
    SMap.wf resetWord (State.vbatSample s d t x).regs = true := by simp +contextual (maxDischargeDepth := 30) [State.vbatSample, apply_ite State.regs, apply_ite (SMap.wf resetWord), hc]
@[simp] theorem State.senseSample_canon (s : State) (d : Die) (x : Samples) (hc : SMap.wf resetWord s.regs = true) :
    SMap.wf resetWord (State.senseSample s d x).regs = true := by simp +contextual (maxDischargeDepth := 30) [State.senseSample, apply_ite State.regs, apply_ite (SMap.wf resetWord), hc]
@[simp] theorem State.feedback_canon (s : State) (u : FbUnit) (x : Int) (hc : SMap.wf resetWord s.regs = true) :
    SMap.wf resetWord (State.feedback s u x).regs = true := by unfold State.feedback; split <;> simp (maxDischargeDepth := 30) [apply_ite State.regs, apply_ite (SMap.wf resetWord), hc]
@[simp] theorem State.resend_canon (s : State) (i : Nat) (hc : SMap.wf resetWord s.regs = true) :
    SMap.wf resetWord (State.resend s i).regs = true := by
  unfold State.resend; dsimp only; repeat' split
  all_goals simp (maxDischargeDepth := 30) [hc]

end Sys2Proof.Machine
end

