-- ==== Sys2Proof/Laws/CanonBuses.lean ====
section
/-! SUPPORT. The register file stays canonical under the operations of the buses. -/

namespace Sys2Proof.Machine

@[simp] theorem State.decodeErr_canon (s : State) (hc : SMap.wf resetWord s.regs = true) :
    SMap.wf resetWord (State.decodeErr s).regs = true := by simp (maxDischargeDepth := 30) [State.decodeErr, hc]
@[simp] theorem State.feedL_canon (s : State) (u : Upd) (hc : SMap.wf resetWord s.regs = true) :
    SMap.wf resetWord (State.feedL s u).regs = true := by simp (maxDischargeDepth := 30) [State.feedL, hc]
@[simp] theorem State.decodePay_canon (s : State) (r : DecRec) (p : List Byte) (rx : Nat) (src : Nat) (hc : SMap.wf resetWord s.regs = true) :
    SMap.wf resetWord (State.decodePay s r p rx src).regs = true := by simp +contextual (maxDischargeDepth := 30) [State.decodePay, apply_ite State.regs, apply_ite (SMap.wf resetWord), hc]
@[simp] theorem State.secFail_canon (s : State) (hc : SMap.wf resetWord s.regs = true) :
    SMap.wf resetWord (State.secFail s).regs = true := by simp (maxDischargeDepth := 30) [State.secFail, hc]
@[simp] theorem State.receiveRec_canon (s : State) (k : Nat) (p : List Byte) (rx : Nat) (src : Nat) (hc : SMap.wf resetWord s.regs = true) :
    SMap.wf resetWord (State.receiveRec s k p rx src).regs = true := by
  unfold State.receiveRec; dsimp only; repeat' split
  all_goals simp (maxDischargeDepth := 30) [hc]
@[simp] theorem State.receivePdu_canon (s : State) (bus : Nat) (ch : Nat) (key : Nat) (vid : Nat) (port : Nat) (p : List Byte) (rx : Nat) (src : Nat) (hc : SMap.wf resetWord s.regs = true) :
    SMap.wf resetWord (State.receivePdu s bus ch key vid port p rx src).regs = true := by unfold State.receivePdu; split <;> simp (maxDischargeDepth := 30) [hc]
@[simp] theorem State.verifyPdu_canon (s : State) (k : Nat) (p : List Byte) (rx : Nat) (src : Nat) (hc : SMap.wf resetWord s.regs = true) :
    SMap.wf resetWord (State.verifyPdu s k p rx src).regs = true := by
  unfold State.verifyPdu; dsimp only; repeat' split
  all_goals simp (maxDischargeDepth := 30) [hc]
@[simp] theorem State.drawFv_canon (s : State) (k : Nat) (n : Nat) (t : State) (h : s.drawFv k = some (n, t)) (hc : SMap.wf resetWord s.regs = true) :
    SMap.wf resetWord t.regs = true := by
  unfold State.drawFv at h; dsimp only at h; split at h
  · cases h
  · cases h; simp (maxDischargeDepth := 30) [apply_ite State.regs, apply_ite (SMap.wf resetWord), hc]
@[simp] theorem State.buildRec_canon (s : State) (k : Nat) (r : EncRec) (hc : SMap.wf resetWord s.regs = true) :
    SMap.wf resetWord (State.buildRec s k r).2.regs = true := by
  unfold State.buildRec; dsimp only; split
  · simp [hc]
  · split
    · simp [hc]
    · split
      · simp [hc]
      · split
        · simp [hc]
        · rename_i h; exact State.drawFv_canon _ _ _ _ h hc
@[simp] theorem State.setCanC_canon (s : State) (c : Nat) (x : CanCtl) (hc : SMap.wf resetWord s.regs = true) :
    SMap.wf resetWord (State.setCanC s c x).regs = true := by simp (maxDischargeDepth := 30) [State.setCanC, hc]
@[simp] theorem State.canReport_canon (s : State) (c : Nat) (hc : SMap.wf resetWord s.regs = true) :
    SMap.wf resetWord (State.canReport s c).regs = true := by simp (maxDischargeDepth := 30) [State.canReport, hc]
@[simp] theorem State.canGo_canon (s : State) (c : Nat) (st : Nat) (hc : SMap.wf resetWord s.regs = true) :
    SMap.wf resetWord (State.canGo s c st).regs = true := by simp (maxDischargeDepth := 30) [State.canGo, apply_ite State.regs, apply_ite (SMap.wf resetWord), hc]
@[simp] theorem State.canFault_canon (s : State) (c : Nat) (kind : Nat) (hc : SMap.wf resetWord s.regs = true) :
    SMap.wf resetWord (State.canFault s c kind).regs = true := by simp (maxDischargeDepth := 30) [State.canFault, hc]
@[simp] theorem State.canPassive_canon (s : State) (c : Nat) (hc : SMap.wf resetWord s.regs = true) :
    SMap.wf resetWord (State.canPassive s c).regs = true := by simp (maxDischargeDepth := 30) [State.canPassive, hc]
@[simp] theorem State.canEnd_canon (s : State) (c : Nat) (i : Nat) (reason : Nat) (stamp : Nat) (hc : SMap.wf resetWord s.regs = true) :
    SMap.wf resetWord (State.canEnd s c i reason stamp).regs = true := by unfold State.canEnd; split <;> simp (maxDischargeDepth := 30) [apply_ite State.regs, apply_ite (SMap.wf resetWord), hc]
@[simp] theorem State.canEndFw_canon (s : State) (c : Nat) (reason : Nat) (hc : SMap.wf resetWord s.regs = true) :
    SMap.wf resetWord (State.canEndFw s c reason).regs = true := by simp +contextual (maxDischargeDepth := 30) [State.canEndFw, hc]
@[simp] theorem State.canEndAll_canon (s : State) (l : List (Nat × Nat × Nat)) (hc : SMap.wf resetWord s.regs = true) :
    SMap.wf resetWord (State.canEndAll s l).regs = true := by simp +contextual (maxDischargeDepth := 30) [State.canEndAll, apply_ite State.regs, apply_ite (SMap.wf resetWord), hc]
@[simp] theorem State.canEmpty_canon (s : State) (c : Nat) (hc : SMap.wf resetWord s.regs = true) :
    SMap.wf resetWord (State.canEmpty s c).regs = true := by simp +contextual (maxDischargeDepth := 30) [State.canEmpty, hc]
@[simp] theorem State.canRestrict_canon (s : State) (c : Nat) (hc : SMap.wf resetWord s.regs = true) :
    SMap.wf resetWord (State.canRestrict s c).regs = true := by simp (maxDischargeDepth := 30) [State.canRestrict, hc]
@[simp] theorem State.canJoin_canon (s : State) (c : Nat) (hc : SMap.wf resetWord s.regs = true) :
    SMap.wf resetWord (State.canJoin s c).regs = true := by simp (maxDischargeDepth := 30) [State.canJoin, apply_ite State.regs, apply_ite (SMap.wf resetWord), hc]
@[simp] theorem State.canSource_canon (s : State) (c : Nat) (k : Nat) (b : Bool) (hc : SMap.wf resetWord s.regs = true) :
    SMap.wf resetWord (State.canSource s c k b).regs = true := by simp (maxDischargeDepth := 30) [State.canSource, apply_ite State.regs, apply_ite (SMap.wf resetWord), hc]
@[simp] theorem State.canMode_canon (s : State) (t : Nat) (hc : SMap.wf resetWord s.regs = true) :
    SMap.wf resetWord (State.canMode s t).regs = true := by unfold State.canMode; split <;> simp (maxDischargeDepth := 30) [apply_ite State.regs, apply_ite (SMap.wf resetWord), hc]
@[simp] theorem State.canEnable_canon (s : State) (c : Nat) (hc : SMap.wf resetWord s.regs = true) :
    SMap.wf resetWord (State.canEnable s c).regs = true := by simp (maxDischargeDepth := 30) [State.canEnable, hc]
@[simp] theorem State.returnPosts_canon (s : State) (ps : List RxPost) (hc : SMap.wf resetWord s.regs = true) :
    SMap.wf resetWord (State.returnPosts s ps).regs = true := by simp +contextual (maxDischargeDepth := 30) [State.returnPosts, hc]
@[simp] theorem State.canOff_canon (s : State) (c : Nat) (hc : SMap.wf resetWord s.regs = true) :
    SMap.wf resetWord (State.canOff s c).regs = true := by unfold State.canOff; dsimp only; split <;> simp (maxDischargeDepth := 30) [hc]
@[simp] theorem State.canStopNow_canon (s : State) (c : Nat) (hc : SMap.wf resetWord s.regs = true) :
    SMap.wf resetWord (State.canStopNow s c).regs = true := by simp (maxDischargeDepth := 30) [State.canStopNow, hc]
@[simp] theorem State.canDisable_canon (s : State) (c : Nat) (tag : Option Nat) (hc : SMap.wf resetWord s.regs = true) :
    SMap.wf resetWord (State.canDisable s c tag).regs = true := by
  unfold State.canDisable; dsimp only; repeat' split
  all_goals simp (maxDischargeDepth := 30) [hc]
@[simp] theorem State.canDisableAll_canon (s : State) (cs : List Nat) (hc : SMap.wf resetWord s.regs = true) :
    SMap.wf resetWord (State.canDisableAll s cs).regs = true := by simp +contextual (maxDischargeDepth := 30) [State.canDisableAll, apply_ite State.regs, apply_ite (SMap.wf resetWord), hc]
@[simp] theorem State.canResync_canon (s : State) (c : Nat) (hc : SMap.wf resetWord s.regs = true) :
    SMap.wf resetWord (State.canResync s c).regs = true := by simp (maxDischargeDepth := 30) [State.canResync, hc]
@[simp] theorem State.canRetime_canon (s : State) (c : Nat) (hc : SMap.wf resetWord s.regs = true) :
    SMap.wf resetWord (State.canRetime s c).regs = true := by simp (maxDischargeDepth := 30) [State.canRetime, apply_ite State.regs, apply_ite (SMap.wf resetWord), hc]
@[simp] theorem State.canAfterFrame_canon (s : State) (c : Nat) (hc : SMap.wf resetWord s.regs = true) :
    SMap.wf resetWord (State.canAfterFrame s c).regs = true := by unfold State.canAfterFrame; split <;> simp (maxDischargeDepth := 30) [hc]
@[simp] theorem State.canRecoverStart_canon (s : State) (c : Nat) (hc : SMap.wf resetWord s.regs = true) :
    SMap.wf resetWord (State.canRecoverStart s c).regs = true := by simp (maxDischargeDepth := 30) [State.canRecoverStart, hc]
@[simp] theorem State.canBusoff_canon (s : State) (c : Nat) (i : Option Nat) (hc : SMap.wf resetWord s.regs = true) :
    SMap.wf resetWord (State.canBusoff s c i).regs = true := by
  unfold State.canBusoff; extract_lets u s0 s1 s2 v s3 s4
  have h1 : SMap.wf resetWord s1.regs = true := by cases i <;> simp (maxDischargeDepth := 30) [s1, s0, u, hc]
  have h4 : SMap.wf resetWord s4.regs = true := by simp (maxDischargeDepth := 30) [s4, s3, s2, v, h1]
  repeat' split
  all_goals simp (maxDischargeDepth := 30) [h4]
@[simp] theorem State.canLevel_canon (s : State) (c : Nat) (hc : SMap.wf resetWord s.regs = true) :
    SMap.wf resetWord (State.canLevel s c).regs = true := by simp (maxDischargeDepth := 30) [State.canLevel, apply_ite State.regs, apply_ite (SMap.wf resetWord), hc]
@[simp] theorem State.canFailed_canon (s : State) (c : Nat) (i : Nat) (reason : Nat) (hc : SMap.wf resetWord s.regs = true) :
    SMap.wf resetWord (State.canFailed s c i reason).regs = true := by unfold State.canFailed; dsimp only; split <;> simp (maxDischargeDepth := 30) [apply_ite State.regs, apply_ite (SMap.wf resetWord), hc]
@[simp] theorem State.canErrBits_canon (s : State) (c : Nat) (kinds : Nat) (hc : SMap.wf resetWord s.regs = true) :
    SMap.wf resetWord (State.canErrBits s c kinds).regs = true := by simp +contextual (maxDischargeDepth := 30) [State.canErrBits, apply_ite State.regs, apply_ite (SMap.wf resetWord), hc]
@[simp] theorem State.canCounters_canon (s : State) (c : Nat) (tec : Nat) (rec : Nat) (hc : SMap.wf resetWord s.regs = true) :
    SMap.wf resetWord (State.canCounters s c tec rec).regs = true := by simp (maxDischargeDepth := 30) [State.canCounters, apply_ite State.regs, apply_ite (SMap.wf resetWord), hc]
@[simp] theorem State.canMeasured_canon (s : State) (c : Nat) (v : Option Nat) (hc : SMap.wf resetWord s.regs = true) :
    SMap.wf resetWord (State.canMeasured s c v).regs = true := by
  unfold State.canMeasured; (try dsimp only); repeat' split
  all_goals simp +contextual (maxDischargeDepth := 30) [hc, apply_ite State.regs, apply_ite (SMap.wf resetWord)]
@[simp] theorem State.canSay_canon (s : State) (c : Nat) (o : Output) (hc : SMap.wf resetWord s.regs = true) :
    SMap.wf resetWord (State.canSay s c o).regs = true := by simp (maxDischargeDepth := 30) [State.canSay, apply_ite State.regs, apply_ite (SMap.wf resetWord), hc]
@[simp] theorem State.canFlag_canon (s : State) (c : Nat) (hc : SMap.wf resetWord s.regs = true) :
    SMap.wf resetWord (State.canFlag s c).regs = true := by simp (maxDischargeDepth := 30) [State.canFlag, apply_ite State.regs, apply_ite (SMap.wf resetWord), hc]
@[simp] theorem State.canError_canon (s : State) (c : Nat) (kinds : Nat) (tec : Nat) (rec : Nat) (tdcv : Option Nat) (hc : SMap.wf resetWord s.regs = true) :
    SMap.wf resetWord (State.canError s c kinds tec rec tdcv).regs = true := by
  unfold State.canError; dsimp only; repeat' split
  all_goals simp (maxDischargeDepth := 30) [hc]
@[simp] theorem State.busoffHoldEnd_canon (s : State) (c : Nat) (hc : SMap.wf resetWord s.regs = true) :
    SMap.wf resetWord (State.busoffHoldEnd s c).regs = true := by simp (maxDischargeDepth := 30) [State.busoffHoldEnd, apply_ite State.regs, apply_ite (SMap.wf resetWord), hc]
@[simp] theorem State.busoffRecoveryDone_canon (s : State) (c : Nat) (hc : SMap.wf resetWord s.regs = true) :
    SMap.wf resetWord (State.busoffRecoveryDone s c).regs = true := by simp (maxDischargeDepth := 30) [State.busoffRecoveryDone, apply_ite State.regs, apply_ite (SMap.wf resetWord), hc]
@[simp] theorem State.canRecoverReq_canon (s : State) (c : Nat) (hc : SMap.wf resetWord s.regs = true) :
    SMap.wf resetWord (s.canRecoverReq c).2.regs = true := by unfold State.canRecoverReq; split <;> simp (maxDischargeDepth := 30) [hc]
@[simp] theorem State.canRecover_canon (s : State) (t : Nat) (hc : SMap.wf resetWord s.regs = true) :
    SMap.wf resetWord (State.canRecover s t).regs = true := by unfold State.canRecover; split <;> simp (maxDischargeDepth := 30) [apply_ite State.regs, apply_ite (SMap.wf resetWord), hc]
@[simp] theorem State.fillPost_canon (s : State) (kind unit : Nat) (bytes result : List Byte) (stamp : Nat) (drop : State)
    (hd : SMap.wf resetWord drop.regs = true) (hc : SMap.wf resetWord s.regs = true) :
    SMap.wf resetWord (State.fillPost s kind unit bytes result stamp drop).regs = true := by
  unfold State.fillPost; split <;> simp (maxDischargeDepth := 30) [hc, hd]
@[simp] theorem State.canDrop_canon (s : State) (c : Nat) (hc : SMap.wf resetWord s.regs = true) :
    SMap.wf resetWord (State.canDrop s c).regs = true := by simp (maxDischargeDepth := 30) [State.canDrop, apply_ite State.regs, apply_ite (SMap.wf resetWord), hc]
@[simp] theorem State.canRxCount_canon (s : State) (c : Nat) (hc : SMap.wf resetWord s.regs = true) :
    SMap.wf resetWord (State.canRxCount s c).regs = true := by simp (maxDischargeDepth := 30) [State.canRxCount, apply_ite State.regs, apply_ite (SMap.wf resetWord), hc]
@[simp] theorem State.canFrameReceived_canon (s : State) (c : Nat) (f : CanFrame) (hc : SMap.wf resetWord s.regs = true) :
    SMap.wf resetWord (State.canFrameReceived s c f).regs = true := by
  unfold State.canFrameReceived; (try dsimp only); repeat' split
  all_goals simp +contextual (maxDischargeDepth := 30) [hc]
@[simp] theorem State.canTxStart_canon (s : State) (c : Nat) (hc : SMap.wf resetWord s.regs = true) :
    SMap.wf resetWord (State.canTxStart s c).regs = true := by unfold State.canTxStart; split <;> simp (maxDischargeDepth := 30) [apply_ite State.regs, apply_ite (SMap.wf resetWord), hc]
@[simp] theorem State.canFrameSent_canon (s : State) (c : Nat) (tdcv : Nat) (hc : SMap.wf resetWord s.regs = true) :
    SMap.wf resetWord (State.canFrameSent s c tdcv).regs = true := by
  unfold State.canFrameSent; dsimp only; repeat' split
  all_goals simp (maxDischargeDepth := 30) [hc]
@[simp] theorem State.canArbitrationLost_canon (s : State) (c : Nat) (hc : SMap.wf resetWord s.regs = true) :
    SMap.wf resetWord (State.canArbitrationLost s c).regs = true := by
  simp (maxDischargeDepth := 30) [State.canArbitrationLost]; repeat' split
  all_goals simp_all
@[simp] theorem State.canQueue_canon (s : State) (c : Nat) (i : Nat) (f : CanTx) (hc : SMap.wf resetWord s.regs = true) :
    SMap.wf resetWord (State.canQueue s c i f).regs = true := by simp (maxDischargeDepth := 30) [State.canQueue, apply_ite State.regs, apply_ite (SMap.wf resetWord), hc]
@[simp] theorem State.canBuild_canon (s : State) (k : Nat) (r : EncRec) (p : TxPdu) (hc : SMap.wf resetWord s.regs = true) :
    SMap.wf resetWord (State.canBuild s k r p).regs = true := by simp (maxDischargeDepth := 30) [State.canBuild, apply_ite State.regs, apply_ite (SMap.wf resetWord), hc]
@[simp] theorem State.canTx_canon (s : State) (t : Nat) (x : ReadResult) (hc : SMap.wf resetWord s.regs = true) :
    SMap.wf resetWord (State.canTx s t x).regs = true := by
  unfold State.canTx; dsimp only; repeat' split
  all_goals simp (maxDischargeDepth := 30) [hc]
@[simp] theorem State.canCancelTag_canon (s : State) (c t : Nat) (hc : SMap.wf resetWord s.regs = true) :
    SMap.wf resetWord (s.canCancelTag c t).2.regs = true := by unfold State.canCancelTag; split; simp (maxDischargeDepth := 30) [hc]; split <;> simp (maxDischargeDepth := 30) [hc]
@[simp] theorem State.canCancel_canon (s : State) (t : Nat) (hc : SMap.wf resetWord s.regs = true) :
    SMap.wf resetWord (State.canCancel s t).regs = true := by unfold State.canCancel; split <;> simp (maxDischargeDepth := 30) [apply_ite State.regs, apply_ite (SMap.wf resetWord), hc]
@[simp] theorem State.canDegradedOne_canon (s : State) (c : Nat) (hc : SMap.wf resetWord s.regs = true) :
    SMap.wf resetWord (State.canDegradedOne s c).regs = true := by simp +contextual (maxDischargeDepth := 30) [State.canDegradedOne, apply_ite State.regs, apply_ite (SMap.wf resetWord), hc]
@[simp] theorem State.canFollow_canon (s : State) (degraded : Bool) (hc : SMap.wf resetWord s.regs = true) :
    SMap.wf resetWord (State.canFollow s degraded).regs = true := by
  simp (maxDischargeDepth := 30) [State.canFollow]; repeat' split
  all_goals simp_all [apply_ite State.regs, apply_ite (SMap.wf resetWord)]
@[simp] theorem State.canReset_canon (fresh : Bool) (s : State) (c : Nat) (hc : SMap.wf resetWord s.regs = true) :
    SMap.wf resetWord (State.canReset fresh s c).regs = true := by simp (maxDischargeDepth := 30) [State.canReset, apply_ite State.regs, apply_ite (SMap.wf resetWord), hc]
@[simp] theorem State.canHostStop_canon (s : State) (c : Nat) (hc : SMap.wf resetWord s.regs = true) :
    SMap.wf resetWord (State.canHostStop s c).regs = true := by simp (maxDischargeDepth := 30) [State.canHostStop, hc]
@[simp] theorem State.setLinC_canon (s : State) (n : Nat) (x : LinCh) (hc : SMap.wf resetWord s.regs = true) :
    SMap.wf resetWord (State.setLinC s n x).regs = true := by simp (maxDischargeDepth := 30) [State.setLinC, hc]
@[simp] theorem State.linReport_canon (s : State) (n : Nat) (t : Nat) (hc : SMap.wf resetWord s.regs = true) :
    SMap.wf resetWord (State.linReport s n t).regs = true := by simp (maxDischargeDepth := 30) [State.linReport, apply_ite State.regs, apply_ite (SMap.wf resetWord), hc]
@[simp] theorem State.linGo_canon (s : State) (n : Nat) (st : Nat) (t : Nat) (hc : SMap.wf resetWord s.regs = true) :
    SMap.wf resetWord (State.linGo s n st t).regs = true := by simp (maxDischargeDepth := 30) [State.linGo, hc]
@[simp] theorem State.linErrs_canon (s : State) (n : Nat) (kinds : Nat) (addressed : Bool) (hc : SMap.wf resetWord s.regs = true) :
    SMap.wf resetWord (State.linErrs s n kinds addressed).regs = true := by simp +contextual (maxDischargeDepth := 30) [State.linErrs, apply_ite State.regs, apply_ite (SMap.wf resetWord), hc]
@[simp] theorem State.linShowDegr_canon (s : State) (n : Nat) (hc : SMap.wf resetWord s.regs = true) :
    SMap.wf resetWord (State.linShowDegr s n).regs = true := by simp (maxDischargeDepth := 30) [State.linShowDegr, hc]
@[simp] theorem State.linEnable_canon (s : State) (n : Nat) (hc : SMap.wf resetWord s.regs = true) :
    SMap.wf resetWord (State.linEnable s n).regs = true := by simp (maxDischargeDepth := 30) [State.linEnable, hc]
@[simp] theorem State.linOff_canon (s : State) (n : Nat) (hc : SMap.wf resetWord s.regs = true) :
    SMap.wf resetWord (State.linOff s n).regs = true := by
  unfold State.linOff; dsimp only; repeat' split
  all_goals simp +contextual (maxDischargeDepth := 30) [hc]
@[simp] theorem State.linDisable_canon (s : State) (n : Nat) (tag : Option Nat) (hc : SMap.wf resetWord s.regs = true) :
    SMap.wf resetWord (State.linDisable s n tag).regs = true := by
  unfold State.linDisable; dsimp only; repeat' split
  all_goals simp (maxDischargeDepth := 30) [hc]
@[simp] theorem State.linFrameOver_canon (s : State) (n : Nat) (hc : SMap.wf resetWord s.regs = true) :
    SMap.wf resetWord (State.linFrameOver s n).regs = true := by simp (maxDischargeDepth := 30) [State.linFrameOver, apply_ite State.regs, apply_ite (SMap.wf resetWord), hc]
@[simp] theorem State.linReset_canon (s : State) (n : Nat) (hc : SMap.wf resetWord s.regs = true) :
    SMap.wf resetWord (State.linReset s n).regs = true := by simp (maxDischargeDepth := 30) [State.linReset, apply_ite State.regs, apply_ite (SMap.wf resetWord), hc]
@[simp] theorem State.linFollow_canon (s : State) (hc : SMap.wf resetWord s.regs = true) :
    SMap.wf resetWord (State.linFollow s).regs = true := by simp +contextual (maxDischargeDepth := 30) [State.linFollow, hc]
@[simp] theorem State.linSay_canon (s : State) (o : Output) (hc : SMap.wf resetWord s.regs = true) :
    SMap.wf resetWord (State.linSay s o).regs = true := by simp (maxDischargeDepth := 30) [State.linSay, apply_ite State.regs, apply_ite (SMap.wf resetWord), hc]
@[simp] theorem State.linHeader_canon (s : State) (n : Nat) (id : Nat) (t : Nat) (hc : SMap.wf resetWord s.regs = true) :
    SMap.wf resetWord (State.linHeader s n id t).regs = true := by simp (maxDischargeDepth := 30) [State.linHeader, hc]
@[simp] theorem State.linRespond_canon (s : State) (n : Nat) (id : Nat) (enhanced : Bool) (data : List Byte) (hc : SMap.wf resetWord s.regs = true) :
    SMap.wf resetWord (State.linRespond s n id enhanced data).regs = true := by simp (maxDischargeDepth := 30) [State.linRespond, hc]
@[simp] theorem State.linPublish_canon (s : State) (n : Nat) (f : LinSlot) (t : Nat) (hc : SMap.wf resetWord s.regs = true) :
    SMap.wf resetWord (State.linPublish s n f t).regs = true := by unfold State.linPublish; split <;> simp (maxDischargeDepth := 30) [hc]
@[simp] theorem State.linDiagSlot_canon (s : State) (n : Nat) (t : Nat) (hc : SMap.wf resetWord s.regs = true) :
    SMap.wf resetWord (State.linDiagSlot s n t).regs = true := by
  unfold State.linDiagSlot; dsimp only; repeat' split
  all_goals simp (maxDischargeDepth := 30) [hc]
@[simp] theorem State.linPublishEvent_canon (s : State) (n : Nat) (f : LinSlot) (t : Nat) (hc : SMap.wf resetWord s.regs = true) :
    SMap.wf resetWord (State.linPublishEvent s n f t).regs = true := by
  unfold State.linPublishEvent; (try dsimp only); repeat' split
  all_goals simp +contextual (maxDischargeDepth := 30) [hc, apply_ite State.regs, apply_ite (SMap.wf resetWord)]
@[simp] theorem State.linRun_canon (s : State) (n : Nat) (f : LinSlot) (t : Nat) (hc : SMap.wf resetWord s.regs = true) :
    SMap.wf resetWord (State.linRun s n f t).regs = true := by
  unfold State.linRun; dsimp only; repeat' split
  all_goals simp (maxDischargeDepth := 30) [hc]
@[simp] theorem State.linRequest_canon (s : State) (n : Nat) (tb : Nat) (tag : Option Nat) (hc : SMap.wf resetWord s.regs = true) :
    SMap.wf resetWord (State.linRequest s n tb tag).regs = true := by unfold State.linRequest; split <;> simp (maxDischargeDepth := 30) [hc]
@[simp] theorem State.linSched_canon (s : State) (t : Nat) (hc : SMap.wf resetWord s.regs = true) :
    SMap.wf resetWord (State.linSched s t).regs = true := by unfold State.linSched; split <;> simp (maxDischargeDepth := 30) [apply_ite State.regs, apply_ite (SMap.wf resetWord), hc]
@[simp] theorem State.linDiag_canon (s : State) (t : Nat) (hc : SMap.wf resetWord s.regs = true) :
    SMap.wf resetWord (State.linDiag s t).regs = true := by unfold State.linDiag; split <;> simp (maxDischargeDepth := 30) [apply_ite State.regs, apply_ite (SMap.wf resetWord), hc]
@[simp] theorem State.linHeaderReceived_canon (s : State) (n : Nat) (pid : Nat) (parityOk : Bool) (ago : Nat) (hc : SMap.wf resetWord s.regs = true) :
    SMap.wf resetWord (State.linHeaderReceived s n pid parityOk ago).regs = true := by
  unfold State.linHeaderReceived; dsimp only; repeat' split
  all_goals simp (maxDischargeDepth := 30) [hc]
@[simp] theorem State.linSent_canon (s : State) (n : Nat) (f : LinSlot) (hc : SMap.wf resetWord s.regs = true) :
    SMap.wf resetWord (State.linSent s n f).regs = true := by
  unfold State.linSent; dsimp only; repeat' split
  all_goals simp (maxDischargeDepth := 30) [hc]
@[simp] theorem State.linGot_canon (s : State) (n : Nat) (id : Nat) (f : LinSlot) (data : List Byte) (hc : SMap.wf resetWord s.regs = true) :
    SMap.wf resetWord (State.linGot s n id f data).regs = true := by simp (maxDischargeDepth := 30) [State.linGot, apply_ite State.regs, apply_ite (SMap.wf resetWord), hc]
@[simp] theorem State.linCollision_canon (s : State) (n : Nat) (f : LinSlot) (hc : SMap.wf resetWord s.regs = true) :
    SMap.wf resetWord (State.linCollision s n f).regs = true := by
  unfold State.linCollision; (try dsimp only); repeat' split
  all_goals simp +contextual (maxDischargeDepth := 30) [hc, apply_ite State.regs, apply_ite (SMap.wf resetWord)]
@[simp] theorem State.linFrameReceived_canon (s : State) (n : Nat) (r : LinFrame) (hc : SMap.wf resetWord s.regs = true) :
    SMap.wf resetWord (State.linFrameReceived s n r).regs = true := by
  unfold State.linFrameReceived; dsimp only; repeat' split
  all_goals simp (maxDischargeDepth := 30) [hc]
@[simp] theorem State.linResponseTimeout_canon (s : State) (n : Nat) (hc : SMap.wf resetWord s.regs = true) :
    SMap.wf resetWord (State.linResponseTimeout s n).regs = true := by
  simp (maxDischargeDepth := 30) [State.linResponseTimeout]; repeat' split
  all_goals simp_all
@[simp] theorem State.linSlotNext_canon (s : State) (n : Nat) (hc : SMap.wf resetWord s.regs = true) :
    SMap.wf resetWord (State.linSlotNext s n).regs = true := by
  unfold State.linSlotNext; dsimp only; repeat' split
  all_goals simp (maxDischargeDepth := 30) [hc]
@[simp] theorem State.linSlotStart_canon (s : State) (n : Nat) (hc : SMap.wf resetWord s.regs = true) :
    SMap.wf resetWord (State.linSlotStart s n).regs = true := by simp (maxDischargeDepth := 30) [State.linSlotStart, apply_ite State.regs, apply_ite (SMap.wf resetWord), hc]
@[simp] theorem State.linBuild_canon (s : State) (r : EncRec) (p : TxPdu) (byChange : Bool) (hc : SMap.wf resetWord s.regs = true) :
    SMap.wf resetWord (State.linBuild s r p byChange).regs = true := by simp (maxDischargeDepth := 30) [State.linBuild, apply_ite State.regs, apply_ite (SMap.wf resetWord), hc]
@[simp] theorem State.linWakeSignal_canon (s : State) (n : Nat) (t : Nat) (tries : Nat) (hc : SMap.wf resetWord s.regs = true) :
    SMap.wf resetWord (State.linWakeSignal s n t tries).regs = true := by simp (maxDischargeDepth := 30) [State.linWakeSignal, hc]
@[simp] theorem State.linWakeRetry_canon (s : State) (n : Nat) (hc : SMap.wf resetWord s.regs = true) :
    SMap.wf resetWord (State.linWakeRetry s n).regs = true := by unfold State.linWakeRetry; dsimp only; split <;> simp (maxDischargeDepth := 30) [apply_ite State.regs, apply_ite (SMap.wf resetWord), hc]
@[simp] theorem State.linRemoteWake_canon (s : State) (n : Nat) (ticks : Nat) (hc : SMap.wf resetWord s.regs = true) :
    SMap.wf resetWord (State.linRemoteWake s n ticks).regs = true := by simp (maxDischargeDepth := 30) [State.linRemoteWake, apply_ite State.regs, apply_ite (SMap.wf resetWord), hc]
@[simp] theorem State.linScheduleRestart_canon (s : State) (n : Nat) (hc : SMap.wf resetWord s.regs = true) :
    SMap.wf resetWord (State.linScheduleRestart s n).regs = true := by unfold State.linScheduleRestart; split <;> simp (maxDischargeDepth := 30) [apply_ite State.regs, apply_ite (SMap.wf resetWord), hc]
@[simp] theorem State.linBusIdleTimeout_canon (s : State) (n : Nat) (hc : SMap.wf resetWord s.regs = true) :
    SMap.wf resetWord (State.linBusIdleTimeout s n).regs = true := by simp (maxDischargeDepth := 30) [State.linBusIdleTimeout, apply_ite State.regs, apply_ite (SMap.wf resetWord), hc]
@[simp] theorem State.linHostStop_canon (s : State) (n : Nat) (hc : SMap.wf resetWord s.regs = true) :
    SMap.wf resetWord (State.linHostStop s n).regs = true := by simp (maxDischargeDepth := 30) [State.linHostStop, hc]
@[simp] theorem State.setEthP_canon (s : State) (p : Nat) (x : EthPort) (hc : SMap.wf resetWord s.regs = true) :
    SMap.wf resetWord (State.setEthP s p x).regs = true := by simp (maxDischargeDepth := 30) [State.setEthP, hc]
@[simp] theorem State.ethReport_canon (s : State) (p : Nat) (hc : SMap.wf resetWord s.regs = true) :
    SMap.wf resetWord (State.ethReport s p).regs = true := by simp (maxDischargeDepth := 30) [State.ethReport, hc]
@[simp] theorem State.ethLearn_canon (s : State) (mac : Nat) (vid : Nat) (p : Nat) (hc : SMap.wf resetWord s.regs = true) :
    SMap.wf resetWord (State.ethLearn s mac vid p).regs = true := by simp (maxDischargeDepth := 30) [State.ethLearn, apply_ite State.regs, hc]
@[simp] theorem State.ethAgeing_canon (s : State) (mac : Nat) (vid : Nat) (hc : SMap.wf resetWord s.regs = true) :
    SMap.wf resetWord (State.ethAgeing s mac vid).regs = true := by simp (maxDischargeDepth := 30) [State.ethAgeing, hc]
@[simp] theorem State.ethQueue_canon (s : State) (p : Nat) (t : EthTx) (hc : SMap.wf resetWord s.regs = true) :
    SMap.wf resetWord (s.ethQueue p t).1.regs = true := by unfold State.ethQueue; split <;> simp (maxDischargeDepth := 30) [hc]
@[simp] theorem State.ethToHost_canon (s : State) (bytes : List Byte) (hc : SMap.wf resetWord s.regs = true) :
    SMap.wf resetWord (State.ethToHost s bytes).regs = true := by simp (maxDischargeDepth := 30) [State.ethToHost, hc]
@[simp] theorem State.ethSend_canon (s : State) (p : Nat) (e : EthRx) (pcp vid : Nat) (hc : SMap.wf resetWord s.regs = true) :
    SMap.wf resetWord (s.ethSend p e pcp vid).1.regs = true := by
  unfold State.ethSend; dsimp only; repeat' split
  all_goals simp (maxDischargeDepth := 30) [hc]
@[simp] theorem State.ethSendAll_canon (s : State) (ps : List Nat) (e : EthRx) (pcp vid : Nat) (hc : SMap.wf resetWord s.regs = true) :
    SMap.wf resetWord (State.ethSendAll s ps e pcp vid).1.regs = true := by
  unfold State.ethSendAll
  suffices h : ∀ r : State × Bool, SMap.wf resetWord r.1.regs = true →
      SMap.wf resetWord (ps.foldl (fun r p => let x := r.1.ethSend p e pcp vid; (x.1, r.2 || x.2)) r).1.regs = true from h (s, false) hc
  induction ps with
  | nil => intro r h; exact h
  | cons a l ih =>
    intro r h
    rw [List.foldl_cons]
    exact ih _ (State.ethSend_canon r.1 a e pcp vid h)
@[simp] theorem State.container_canon (s : State) (p vid port n : Nat) (c : List Byte) (hc : SMap.wf resetWord s.regs = true) :
    SMap.wf resetWord (s.container p vid port n c).regs = true := by
  induction n generalizing s c with
  | zero => simp (maxDischargeDepth := 30) [State.container, hc]
  | succ n ih =>
    unfold State.container; split
    · simp (maxDischargeDepth := 30) [hc]
    · split
      · simp (maxDischargeDepth := 30) [hc]
      · simp (maxDischargeDepth := 30) [ih, hc]
@[simp] theorem State.ethOwn_canon (s : State) (p : Nat) (e : EthRx) (pcp : Nat) (vid : Nat) (hc : SMap.wf resetWord s.regs = true) :
    SMap.wf resetWord (State.ethOwn s p e pcp vid).regs = true := by
  simp (maxDischargeDepth := 30) [State.ethOwn]; repeat' split
  all_goals simp_all
@[simp] theorem State.ethRxDrop_canon (s : State) (p : Nat) (hc : SMap.wf resetWord s.regs = true) :
    SMap.wf resetWord (State.ethRxDrop s p).regs = true := by simp (maxDischargeDepth := 30) [State.ethRxDrop, hc]
@[simp] theorem State.ethForward_canon (s : State) (p : Nat) (f : List Byte) (hc : SMap.wf resetWord s.regs = true) :
    SMap.wf resetWord (s.ethForward p f).1.regs = true := by
  unfold State.ethForward; dsimp only; repeat' split
  all_goals simp (maxDischargeDepth := 30) [hc]
@[simp] theorem State.ethFrameReceived_canon (s : State) (p : Nat) (f : List Byte) (hc : SMap.wf resetWord s.regs = true) :
    SMap.wf resetWord (State.ethFrameReceived s p f).regs = true := by simp (maxDischargeDepth := 30) [State.ethFrameReceived, apply_ite State.regs, apply_ite (SMap.wf resetWord), hc]
@[simp] theorem State.ethTx_canon (s : State) (t : Nat) (x : ReadResult) (hc : SMap.wf resetWord s.regs = true) :
    SMap.wf resetWord (State.ethTx s t x).regs = true := by
  unfold State.ethTx; dsimp only; repeat' split
  all_goals simp (maxDischargeDepth := 30) [hc]
@[simp] theorem State.ethBuild_canon (s : State) (k : Nat) (r : EncRec) (p : TxPdu) (hc : SMap.wf resetWord s.regs = true) :
    SMap.wf resetWord (State.ethBuild s k r p).regs = true := by simp (maxDischargeDepth := 30) [State.ethBuild, apply_ite State.regs, apply_ite (SMap.wf resetWord), hc]
@[simp] theorem State.ethTxStart_canon (s : State) (p : Nat) (hc : SMap.wf resetWord s.regs = true) :
    SMap.wf resetWord (State.ethTxStart s p).regs = true := by
  unfold State.ethTxStart; dsimp only; repeat' split
  all_goals simp (maxDischargeDepth := 30) [hc]
@[simp] theorem State.ethTxEnd_canon (s : State) (p : Nat) (hc : SMap.wf resetWord s.regs = true) :
    SMap.wf resetWord (State.ethTxEnd s p).regs = true := by unfold State.ethTxEnd; dsimp only; split <;> simp +contextual (maxDischargeDepth := 30) [hc]
@[simp] theorem State.ethStop_canon (s : State) (p : Nat) (hc : SMap.wf resetWord s.regs = true) :
    SMap.wf resetWord (State.ethStop s p).regs = true := by simp (maxDischargeDepth := 30) [State.ethStop, hc]
@[simp] theorem State.ethLink_canon (s : State) (p : Nat) (link : Bool) (speed : Nat) (plca : Bool) (hc : SMap.wf resetWord s.regs = true) :
    SMap.wf resetWord (State.ethLink s p link speed plca).regs = true := by simp (maxDischargeDepth := 30) [State.ethLink, apply_ite State.regs, apply_ite (SMap.wf resetWord), hc]
@[simp] theorem State.ethShow_canon (s : State) (p : Nat) (hc : SMap.wf resetWord s.regs = true) :
    SMap.wf resetWord (State.ethShow s p).regs = true := by simp (maxDischargeDepth := 30) [State.ethShow, apply_ite State.regs, apply_ite (SMap.wf resetWord), hc]
@[simp] theorem State.ethLinkChange_canon (s : State) (p : Nat) (link : Bool) (speed : Nat) (plca : Bool) (hc : SMap.wf resetWord s.regs = true) :
    SMap.wf resetWord (State.ethLinkChange s p link speed plca).regs = true := by
  unfold State.ethLinkChange; (try dsimp only); repeat' split
  all_goals simp +contextual (maxDischargeDepth := 30) [hc, apply_ite State.regs, apply_ite (SMap.wf resetWord)]
@[simp] theorem State.ethFollow_canon (s : State) (hc : SMap.wf resetWord s.regs = true) :
    SMap.wf resetWord (State.ethFollow s).regs = true := by simp (maxDischargeDepth := 30) [State.ethFollow, apply_ite State.regs, apply_ite (SMap.wf resetWord), hc]
@[simp] theorem State.pdelayReq_canon (s : State) (p : Nat) (seq : Nat) (hc : SMap.wf resetWord s.regs = true) :
    SMap.wf resetWord (State.pdelayReq s p seq).regs = true := by simp (maxDischargeDepth := 30) [State.pdelayReq, apply_ite State.regs, apply_ite (SMap.wf resetWord), hc]
@[simp] theorem State.ethPortReset_canon (s : State) (p : Nat) (hc : SMap.wf resetWord s.regs = true) :
    SMap.wf resetWord (State.ethPortReset s p).regs = true := by simp (maxDischargeDepth := 30) [State.ethPortReset, hc]
@[simp] theorem State.ethOpen_canon (s : State) (p : Nat) (hc : SMap.wf resetWord s.regs = true) :
    SMap.wf resetWord (State.ethOpen s p).regs = true := by simp (maxDischargeDepth := 30) [State.ethOpen, hc]
@[simp] theorem State.ethReset_canon (s : State) (hc : SMap.wf resetWord s.regs = true) :
    SMap.wf resetWord (State.ethReset s).regs = true := by simp +contextual (maxDischargeDepth := 30) [State.ethReset, hc]
@[simp] theorem State.busesFollow_canon (s : State) (was : TbSt) (hc : SMap.wf resetWord s.regs = true) :
    SMap.wf resetWord (State.busesFollow s was).regs = true := by simp (maxDischargeDepth := 30) [State.busesFollow, apply_ite State.regs, apply_ite (SMap.wf resetWord), hc]

end Sys2Proof.Machine
end

