-- ==== Sys2Proof/Laws/CanonCore.lean ====
section
/-! SUPPORT. The register file stays canonical under the operations of the cipher engine, the collector and the rest of die L. -/

namespace Sys2Proof.Machine

@[simp] theorem State.setKennel_canon (s : State) (i : Nat) (k : Kennel) (hc : SMap.wf resetWord s.regs = true) :
    SMap.wf resetWord (State.setKennel s i k).regs = true := by simp (maxDischargeDepth := 30) [State.setKennel, hc]
@[simp] theorem State.setCryU_canon (s : State) (i : Nat) (u : CryUnit) (hc : SMap.wf resetWord s.regs = true) :
    SMap.wf resetWord (State.setCryU s i u).regs = true := by simp (maxDischargeDepth := 30) [State.setCryU, hc]
@[simp] theorem State.cryRefuse_canon (s : State) (t : Option Nat) (status : Nat) (reason : Nat) (writes : List (Nat × List Byte)) (hc : SMap.wf resetWord s.regs = true) :
    SMap.wf resetWord (State.cryRefuse s t status reason writes).regs = true := by unfold State.cryRefuse; dsimp only; split <;> simp (maxDischargeDepth := 30) [apply_ite State.regs, apply_ite (SMap.wf resetWord), hc]
@[simp] theorem State.cryAccept_canon (s : State) (t : Nat) (o : HostOp) (good : Bool) (input : List Byte) (aux : List Byte) (hc : SMap.wf resetWord s.regs = true) :
    SMap.wf resetWord (State.cryAccept s t o good input aux).regs = true := by simp (maxDischargeDepth := 30) [State.cryAccept, apply_ite State.regs, apply_ite (SMap.wf resetWord), hc]
@[simp] theorem State.cryReadFault_canon (s : State) (n : Nat) (x : ReadResult) (hc : SMap.wf resetWord s.regs = true) :
    SMap.wf resetWord (s.cryReadFault n x).2.regs = true := by unfold State.cryReadFault; split <;> simp (maxDischargeDepth := 30) [hc]
@[simp] theorem State.cipherOp_canon (s : State) (t : Nat) (x : ReadResult) (aux : ReadResult) (hc : SMap.wf resetWord s.regs = true) :
    SMap.wf resetWord (State.cipherOp s t x aux).regs = true := by unfold State.cipherOp; split <;> simp (maxDischargeDepth := 30) [apply_ite State.regs, apply_ite (SMap.wf resetWord), hc]
@[simp] theorem State.hashOp_canon (s : State) (t : Nat) (x : ReadResult) (hc : SMap.wf resetWord s.regs = true) :
    SMap.wf resetWord (State.hashOp s t x).regs = true := by unfold State.hashOp; split <;> simp (maxDischargeDepth := 30) [apply_ite State.regs, apply_ite (SMap.wf resetWord), hc]
@[simp] theorem State.deriveOp_canon (s : State) (t : Nat) (hc : SMap.wf resetWord s.regs = true) :
    SMap.wf resetWord (State.deriveOp s t).regs = true := by unfold State.deriveOp; split <;> simp (maxDischargeDepth := 30) [hc]
@[simp] theorem State.slotRetireOp_canon (s : State) (t : Nat) (hc : SMap.wf resetWord s.regs = true) :
    SMap.wf resetWord (State.slotRetireOp s t).regs = true := by unfold State.slotRetireOp; split <;> simp (maxDischargeDepth := 30) [hc]
@[simp] theorem State.slotClearOp_canon (s : State) (t : Nat) (hc : SMap.wf resetWord s.regs = true) :
    SMap.wf resetWord (State.slotClearOp s t).regs = true := by unfold State.slotClearOp; split <;> simp (maxDischargeDepth := 30) [hc]
@[simp] theorem State.cryDone_canon (s : State) (r : CryReq) (status : Nat) (reason : Nat) (result : List Byte) (writes : List (Nat × List Byte)) (hc : SMap.wf resetWord s.regs = true) :
    SMap.wf resetWord (State.cryDone s r status reason result writes).regs = true := by unfold State.cryDone; dsimp only; split <;> simp (maxDischargeDepth := 30) [apply_ite State.regs, apply_ite (SMap.wf resetWord), hc]
@[simp] theorem State.emptySlot_canon (s : State) (i : Nat) (hc : SMap.wf resetWord s.regs = true) :
    SMap.wf resetWord (State.emptySlot s i).regs = true := by simp (maxDischargeDepth := 30) [State.emptySlot, hc]
@[simp] theorem State.slotEvent_canon (s : State) (i : Nat) (opcode : Nat) (hc : SMap.wf resetWord s.regs = true) :
    SMap.wf resetWord (State.slotEvent s i opcode).regs = true := by simp (maxDischargeDepth := 30) [State.slotEvent, hc]
@[simp] theorem State.deriveStart_canon (s : State) (u : Nat) (r : CryReq) (hc : SMap.wf resetWord s.regs = true) :
    SMap.wf resetWord (State.deriveStart s u r).regs = true := by simp (maxDischargeDepth := 30) [State.deriveStart, apply_ite State.regs, apply_ite (SMap.wf resetWord), hc]
@[simp] theorem State.slotOp_canon (s : State) (r : CryReq) (hc : SMap.wf resetWord s.regs = true) :
    SMap.wf resetWord (State.slotOp s r).regs = true := by simp (maxDischargeDepth := 30) [State.slotOp, apply_ite State.regs, apply_ite (SMap.wf resetWord), hc]
@[simp] theorem State.cipherBegin_canon (s : State) (u : Nat) (r : CryReq) (hc : SMap.wf resetWord s.regs = true) :
    SMap.wf resetWord (State.cipherBegin s u r).regs = true := by simp (maxDischargeDepth := 30) [State.cipherBegin, apply_ite State.regs, apply_ite (SMap.wf resetWord), hc]
@[simp] theorem State.cryStart_canon (s : State) (u : Nat) (hc : SMap.wf resetWord s.regs = true) :
    SMap.wf resetWord (State.cryStart s u).regs = true := by unfold State.cryStart; split <;> simp (maxDischargeDepth := 30) [apply_ite State.regs, apply_ite (SMap.wf resetWord), hc]
@[simp] theorem State.ceilWritten_canon (s : State) (u : Nat) (hc : SMap.wf resetWord s.regs = true) :
    SMap.wf resetWord (State.ceilWritten s u).regs = true := by unfold State.ceilWritten; split <;> simp (maxDischargeDepth := 30) [apply_ite State.regs, apply_ite (SMap.wf resetWord), hc]
@[simp] theorem State.deriveEnd_canon (s : State) (r : CryReq) (hc : SMap.wf resetWord s.regs = true) :
    SMap.wf resetWord (State.deriveEnd s r).regs = true := by simp (maxDischargeDepth := 30) [State.deriveEnd, hc]
@[simp] theorem State.cryFinish_canon (s : State) (r : CryReq) (hc : SMap.wf resetWord s.regs = true) :
    SMap.wf resetWord (State.cryFinish s r).regs = true := by unfold State.cryFinish; split <;> simp (maxDischargeDepth := 30) [apply_ite State.regs, apply_ite (SMap.wf resetWord), hc]
@[simp] theorem State.cryEnd_canon (s : State) (u : Nat) (hc : SMap.wf resetWord s.regs = true) :
    SMap.wf resetWord (State.cryEnd s u).regs = true := by unfold State.cryEnd; split <;> simp (maxDischargeDepth := 30) [apply_ite State.regs, apply_ite (SMap.wf resetWord), hc]
@[simp] theorem State.cryAbort_canon (s : State) (ran : Bool) (r : CryReq) (hc : SMap.wf resetWord s.regs = true) :
    SMap.wf resetWord (State.cryAbort s ran r).regs = true := by simp (maxDischargeDepth := 30) [State.cryAbort, apply_ite State.regs, apply_ite (SMap.wf resetWord), hc]
@[simp] theorem State.cryAbortAll_canon (s : State) (hc : SMap.wf resetWord s.regs = true) :
    SMap.wf resetWord (State.cryAbortAll s).regs = true := by simp +contextual (maxDischargeDepth := 30) [State.cryAbortAll, hc]
@[simp] theorem State.cryUp_canon (s : State) (hc : SMap.wf resetWord s.regs = true) :
    SMap.wf resetWord (State.cryUp s).regs = true := by simp (maxDischargeDepth := 30) [State.cryUp, hc]
@[simp] theorem State.cryDisable_canon (s : State) (hc : SMap.wf resetWord s.regs = true) :
    SMap.wf resetWord (State.cryDisable s).regs = true := by unfold State.cryDisable; split <;> simp (maxDischargeDepth := 30) [hc]
@[simp] theorem State.cryFuncReset_canon (s : State) (t : Nat) (hc : SMap.wf resetWord s.regs = true) :
    SMap.wf resetWord (State.cryFuncReset s t).regs = true := by simp (maxDischargeDepth := 30) [State.cryFuncReset, apply_ite State.regs, apply_ite (SMap.wf resetWord), hc]
@[simp] theorem State.slotKey_canon (s : State) (i : Nat) (hc : SMap.wf resetWord s.regs = true) :
    SMap.wf resetWord (State.slotKey s i).regs = true := by simp (maxDischargeDepth := 30) [State.slotKey, apply_ite State.regs, apply_ite (SMap.wf resetWord), hc]
@[simp] theorem State.cryStartDone_canon (s : State) (hc : SMap.wf resetWord s.regs = true) :
    SMap.wf resetWord (State.cryStartDone s).regs = true := by simp +contextual (maxDischargeDepth := 30) [State.cryStartDone, apply_ite State.regs, apply_ite (SMap.wf resetWord), hc]
@[simp] theorem State.alarm_canon (s : State) (level : Nat) (bit : Nat) (hc : SMap.wf resetWord s.regs = true) :
    SMap.wf resetWord (State.alarm s level bit).regs = true := by simp (maxDischargeDepth := 30) [State.alarm, hc]
@[simp] theorem State.alarmOp_canon (s : State) (t : Nat) (hc : SMap.wf resetWord s.regs = true) :
    SMap.wf resetWord (State.alarmOp s t).regs = true := by unfold State.alarmOp; split <;> simp (maxDischargeDepth := 30) [apply_ite State.regs, apply_ite (SMap.wf resetWord), hc]
@[simp] theorem State.eraseRoot_canon (s : State) (r : Nat) (hc : SMap.wf resetWord s.regs = true) :
    SMap.wf resetWord (State.eraseRoot s r).regs = true := by simp (maxDischargeDepth := 30) [State.eraseRoot, hc]
@[simp] theorem State.eraseAll_canon (s : State) (hc : SMap.wf resetWord s.regs = true) :
    SMap.wf resetWord (State.eraseAll s).regs = true := by simp +contextual (maxDischargeDepth := 30) [State.eraseAll, apply_ite State.regs, apply_ite (SMap.wf resetWord), hc]
@[simp] theorem State.cryBoot_canon (s : State) (hc : SMap.wf resetWord s.regs = true) :
    SMap.wf resetWord (State.cryBoot s).regs = true := by simp +contextual (maxDischargeDepth := 30) [State.cryBoot, apply_ite State.regs, apply_ite (SMap.wf resetWord), hc]
@[simp] theorem State.cryDropTag_canon (s : State) (t : Nat) (hc : SMap.wf resetWord s.regs = true) :
    SMap.wf resetWord (s.cryDropTag t).2.regs = true := by simp (maxDischargeDepth := 30) [State.cryDropTag, hc]
@[simp] theorem State.cryHostStop_canon (s : State) (hc : SMap.wf resetWord s.regs = true) :
    SMap.wf resetWord (State.cryHostStop s).regs = true := by simp (maxDischargeDepth := 30) [State.cryHostStop, hc]
@[simp] theorem State.stallFrom_canon (s : State) (d : Die) (hc : SMap.wf resetWord s.regs = true) :
    SMap.wf resetWord (State.stallFrom s d).regs = true := by simp (maxDischargeDepth := 30) [State.stallFrom, apply_ite State.regs, hc]
@[simp] theorem State.demandWake_canon (s : State) (d : Die) (hc : SMap.wf resetWord s.regs = true) :
    SMap.wf resetWord (State.demandWake s d).regs = true := by simp (maxDischargeDepth := 30) [State.demandWake, apply_ite State.regs, apply_ite (SMap.wf resetWord), hc]
@[simp] theorem State.stall_canon (s : State) (d : Die) (x : Stalled) (hc : SMap.wf resetWord s.regs = true) :
    SMap.wf resetWord (State.stall s d x).regs = true := by simp (maxDischargeDepth := 30) [State.stall, apply_ite State.regs, hc]
@[simp] theorem State.applyUnit_canon (s : State) (k : CmdUnit) (w : Nat) (t : Nat) (hc : SMap.wf resetWord s.regs = true) :
    SMap.wf resetWord (State.applyUnit s k w t).regs = true := by unfold State.applyUnit; split <;> simp (maxDischargeDepth := 30) [hc]
@[simp] theorem State.applyWrite_canon (s : State) (w : DieWrite) (t : Nat) (hc : SMap.wf resetWord s.regs = true) :
    SMap.wf resetWord (State.applyWrite s w t).regs = true := by unfold State.applyWrite; split <;> simp (maxDischargeDepth := 30) [hc]
@[simp] theorem State.limpUnits_canon (s : State) (d : Die) (t : Nat) (hc : SMap.wf resetWord s.regs = true) :
    SMap.wf resetWord (State.limpUnits s d t).regs = true := by unfold State.limpUnits; split <;> simp +contextual (maxDischargeDepth := 30) [hc]
@[simp] theorem State.unlimpUnits_canon (s : State) (d : Die) (t : Nat) (hc : SMap.wf resetWord s.regs = true) :
    SMap.wf resetWord (State.unlimpUnits s d t).regs = true := by unfold State.unlimpUnits; split <;> simp +contextual (maxDischargeDepth := 30) [hc]
@[simp] theorem State.clearsDone_canon (s : State) (tags : List Nat) (t : Nat) (hc : SMap.wf resetWord s.regs = true) :
    SMap.wf resetWord (State.clearsDone s tags t).regs = true := by simp +contextual (maxDischargeDepth := 30) [State.clearsDone, hc]
@[simp] theorem State.actChanClear_canon (s : State) (u : Nat) (t : Nat) (hc : SMap.wf resetWord s.regs = true) :
    SMap.wf resetWord (State.actChanClear s u t).regs = true := by simp (maxDischargeDepth := 30) [State.actChanClear, apply_ite State.regs, apply_ite (SMap.wf resetWord), hc]
@[simp] theorem State.actMotorClear_canon (s : State) (m : Nat) (t : Nat) (hc : SMap.wf resetWord s.regs = true) :
    SMap.wf resetWord (State.actMotorClear s m t).regs = true := by simp (maxDischargeDepth := 30) [State.actMotorClear, apply_ite State.regs, apply_ite (SMap.wf resetWord), hc]
@[simp] theorem State.actValveClear_canon (s : State) (n : Nat) (t : Nat) (hc : SMap.wf resetWord s.regs = true) :
    SMap.wf resetWord (State.actValveClear s n t).regs = true := by simp (maxDischargeDepth := 30) [State.actValveClear, apply_ite State.regs, apply_ite (SMap.wf resetWord), hc]
@[simp] theorem State.actBankClear_canon (s : State) (b : Nat) (t : Nat) (hc : SMap.wf resetWord s.regs = true) :
    SMap.wf resetWord (State.actBankClear s b t).regs = true := by simp (maxDischargeDepth := 30) [State.actBankClear, apply_ite State.regs, apply_ite (SMap.wf resetWord), hc]
@[simp] theorem State.actLedClear_canon (s : State) (n : Nat) (t : Nat) (hc : SMap.wf resetWord s.regs = true) :
    SMap.wf resetWord (State.actLedClear s n t).regs = true := by simp (maxDischargeDepth := 30) [State.actLedClear, apply_ite State.regs, apply_ite (SMap.wf resetWord), hc]
@[simp] theorem State.actClears_canon (s : State) (d : Die) (t : Nat) (hc : SMap.wf resetWord s.regs = true) :
    SMap.wf resetWord (State.actClears s d t).regs = true := by unfold State.actClears; split <;> simp +contextual (maxDischargeDepth := 30) [hc]
@[simp] theorem State.unitClearOf_canon (s : State) (src : Nat) (t : Option Nat) (d : Die) (e : Bool) (u : State) (h : s.unitClearOf src t = some (d, e, u)) (hc : SMap.wf resetWord s.regs = true) :
    SMap.wf resetWord u.regs = true := by
  unfold State.unitClearOf at h; dsimp only at h
  repeat' split at h
  all_goals first
    | (cases h; simp (maxDischargeDepth := 30) [hc])
    | cases h
@[simp] theorem State.clearWrite_canon (s : State) (src : Nat) (hc : SMap.wf resetWord s.regs = true) :
    SMap.wf resetWord (State.clearWrite s src).regs = true := by
  unfold State.clearWrite; split
  · simp (maxDischargeDepth := 30) [hc]
  · rename_i h; have := State.unitClearOf_canon _ _ _ _ _ _ h
    split
    · simp (maxDischargeDepth := 30) [hc]
    · split <;> simp (maxDischargeDepth := 30) [this, hc]
@[simp] theorem State.unitClear_canon (s : State) (t : Nat) (hc : SMap.wf resetWord s.regs = true) :
    SMap.wf resetWord (State.unitClear s t).regs = true := by
  unfold State.unitClear; split
  · simp (maxDischargeDepth := 30) [hc]
  · split
    · simp (maxDischargeDepth := 30) [hc]
    · rename_i h; have := State.unitClearOf_canon _ _ _ _ _ _ h
      split
      · simp (maxDischargeDepth := 30) [hc]
      · split <;> simp (maxDischargeDepth := 30) [this, hc]
@[simp] theorem State.setCore_canon (s : State) (c : Nat) (st : Nat) (hc : SMap.wf resetWord s.regs = true) :
    SMap.wf resetWord (State.setCore s c st).regs = true := by simp (maxDischargeDepth := 30) [State.setCore, hc]
@[simp] theorem State.showPlacement_canon (s : State) (pl : List (Nat × List Nat)) (hc : SMap.wf resetWord s.regs = true) :
    SMap.wf resetWord (State.showPlacement s pl).regs = true := by simp +contextual (maxDischargeDepth := 30) [State.showPlacement, hc]
@[simp] theorem State.usePlacement_canon (s : State) (pl : List (Nat × List Nat)) (hc : SMap.wf resetWord s.regs = true) :
    SMap.wf resetWord (State.usePlacement s pl).regs = true := by simp (maxDischargeDepth := 30) [State.usePlacement, hc]
@[simp] theorem State.setTodo_canon (s : State) (c : Nat) (ps : List Nat) (hc : SMap.wf resetWord s.regs = true) :
    SMap.wf resetWord (State.setTodo s c ps).regs = true := by simp (maxDischargeDepth := 30) [State.setTodo, hc]
@[simp] theorem State.dispatchCore_canon (s : State) (c : Nat) (hc : SMap.wf resetWord s.regs = true) :
    SMap.wf resetWord (State.dispatchCore s c).regs = true := by unfold State.dispatchCore; split <;> simp (maxDischargeDepth := 30) [hc]
@[simp] theorem State.chargeRun_canon (s : State) (c : Nat) (aborted : Bool) (hc : SMap.wf resetWord s.regs = true) :
    SMap.wf resetWord (State.chargeRun s c aborted).regs = true := by simp (maxDischargeDepth := 30) [State.chargeRun, hc]
@[simp] theorem State.endRunOf_canon (s : State) (c : Nat) (hc : SMap.wf resetWord s.regs = true) :
    SMap.wf resetWord (State.endRunOf s c).regs = true := by simp (maxDischargeDepth := 30) [State.endRunOf, hc]
@[simp] theorem State.abortRun_canon (s : State) (c : Nat) (cause : Nat) (skipped : Nat) (hc : SMap.wf resetWord s.regs = true) :
    SMap.wf resetWord (State.abortRun s c cause skipped).regs = true := by simp (maxDischargeDepth := 30) [State.abortRun, hc]
@[simp] theorem State.skipRest_canon (s : State) (c : Nat) (hc : SMap.wf resetWord s.regs = true) :
    SMap.wf resetWord (State.skipRest s c).regs = true := by simp +contextual (maxDischargeDepth := 30) [State.skipRest, hc]
@[simp] theorem State.closeCore_canon (s : State) (c : Nat) (hc : SMap.wf resetWord s.regs = true) :
    SMap.wf resetWord (State.closeCore s c).regs = true := by simp (maxDischargeDepth := 30) [State.closeCore, apply_ite State.regs, apply_ite (SMap.wf resetWord), hc]
@[simp] theorem State.showUsed_canon (s : State) (c : Nat) (hc : SMap.wf resetWord s.regs = true) :
    SMap.wf resetWord (State.showUsed s c).regs = true := by simp (maxDischargeDepth := 30) [State.showUsed, apply_ite State.regs, apply_ite (SMap.wf resetWord), hc]
@[simp] theorem State.closeCores_canon (s : State) (hc : SMap.wf resetWord s.regs = true) :
    SMap.wf resetWord (State.closeCores s).regs = true := by simp +contextual (maxDischargeDepth := 30) [State.closeCores, hc]
@[simp] theorem State.showUsedAll_canon (s : State) (hc : SMap.wf resetWord s.regs = true) :
    SMap.wf resetWord (State.showUsedAll s).regs = true := by simp +contextual (maxDischargeDepth := 30) [State.showUsedAll, apply_ite State.regs, apply_ite (SMap.wf resetWord), hc]
@[simp] theorem State.undispatch_canon (s : State) (c : Nat) (hc : SMap.wf resetWord s.regs = true) :
    SMap.wf resetWord (State.undispatch s c).regs = true := by simp (maxDischargeDepth := 30) [State.undispatch, apply_ite State.regs, apply_ite (SMap.wf resetWord), hc]
@[simp] theorem State.coreFail_canon (s : State) (c : Nat) (cause : Nat) (hc : SMap.wf resetWord s.regs = true) :
    SMap.wf resetWord (State.coreFail s c cause).regs = true := by simp (maxDischargeDepth := 30) [State.coreFail, apply_ite State.regs, apply_ite (SMap.wf resetWord), hc]
@[simp] theorem State.startPrograms_canon (s : State) (ready : List Bool) (hc : SMap.wf resetWord s.regs = true) :
    SMap.wf resetWord (State.startPrograms s ready).regs = true := by simp +contextual (maxDischargeDepth := 30) [State.startPrograms, apply_ite State.regs, apply_ite (SMap.wf resetWord), hc]
@[simp] theorem State.svcDone_canon (s : State) (c : Nat) (op : Nat) (tag : Option Nat) (status : Nat) (stamp : Nat) (hc : SMap.wf resetWord s.regs = true) :
    SMap.wf resetWord (State.svcDone s c op tag status stamp).regs = true := by simp (maxDischargeDepth := 30) [State.svcDone, hc]
@[simp] theorem State.svcWithdraw_canon (s : State) (c : Nat) (op : Nat) (hc : SMap.wf resetWord s.regs = true) :
    SMap.wf resetWord (State.svcWithdraw s c op).regs = true := by unfold State.svcWithdraw; split <;> simp (maxDischargeDepth := 30) [hc]
@[simp] theorem State.svcAdd_canon (s : State) (r : SvcReq) (hc : SMap.wf resetWord s.regs = true) :
    SMap.wf resetWord (State.svcAdd s r).regs = true := by simp (maxDischargeDepth := 30) [State.svcAdd, hc]
@[simp] theorem State.svcRemove_canon (s : State) (c : Nat) (tag : Option Nat) (hc : SMap.wf resetWord s.regs = true) :
    SMap.wf resetWord (State.svcRemove s c tag).regs = true := by unfold State.svcRemove; split <;> simp (maxDischargeDepth := 30) [apply_ite State.regs, apply_ite (SMap.wf resetWord), hc]
@[simp] theorem State.svcReturn_canon (s : State) (c : Nat) (tag : Option Nat) (hc : SMap.wf resetWord s.regs = true) :
    SMap.wf resetWord (State.svcReturn s c tag).regs = true := by unfold State.svcReturn; split <;> simp (maxDischargeDepth := 30) [hc]
@[simp] theorem State.coreService_canon (s : State) (t : Nat) (hc : SMap.wf resetWord s.regs = true) :
    SMap.wf resetWord (State.coreService s t).regs = true := by unfold State.coreService; split <;> simp (maxDischargeDepth := 30) [apply_ite State.regs, apply_ite (SMap.wf resetWord), hc]
@[simp] theorem State.selfTestEnd_canon (s : State) (c : Nat) (pass : Bool) (hc : SMap.wf resetWord s.regs = true) :
    SMap.wf resetWord (State.selfTestEnd s c pass).regs = true := by unfold State.selfTestEnd; split <;> simp (maxDischargeDepth := 30) [apply_ite State.regs, apply_ite (SMap.wf resetWord), hc]
@[simp] theorem State.svcEffect_canon (s : State) (r : SvcReq) (b : Nat) (f : Nat) (hc : SMap.wf resetWord s.regs = true) :
    SMap.wf resetWord (State.svcEffect s r b f).regs = true := by simp (maxDischargeDepth := 30) [State.svcEffect, apply_ite State.regs, apply_ite (SMap.wf resetWord), hc]
@[simp] theorem State.svcAt_canon (s : State) (newImage : Bool) (b : Nat) (f : Nat) (r : SvcReq) (hc : SMap.wf resetWord s.regs = true) :
    SMap.wf resetWord (State.svcAt s newImage b f r).regs = true := by simp (maxDischargeDepth := 30) [State.svcAt, apply_ite State.regs, apply_ite (SMap.wf resetWord), hc]
@[simp] theorem State.svcBoundary_canon (s : State) (newImage : Bool) (b : Nat) (f : Nat) (hc : SMap.wf resetWord s.regs = true) :
    SMap.wf resetWord (State.svcBoundary s newImage b f).regs = true := by simp +contextual (maxDischargeDepth := 30) [State.svcBoundary, hc]
@[simp] theorem State.haltEngine_canon (s : State) (b : Nat) (hc : SMap.wf resetWord s.regs = true) :
    SMap.wf resetWord (State.haltEngine s b).regs = true := by simp (maxDischargeDepth := 30) [State.haltEngine, hc]
@[simp] theorem State.engineBoundary_canon (s : State) (newImage : Bool) (b : Nat) (f : Nat) (hc : SMap.wf resetWord s.regs = true) :
    SMap.wf resetWord (State.engineBoundary s newImage b f).regs = true := by unfold State.engineBoundary; dsimp only; split <;> simp (maxDischargeDepth := 30) [apply_ite State.regs, apply_ite (SMap.wf resetWord), hc]
@[simp] theorem State.keepBlocks_canon (s : State) (old : Tables) (hc : SMap.wf resetWord s.regs = true) :
    SMap.wf resetWord (State.keepBlocks s old).regs = true := by simp (maxDischargeDepth := 30) [State.keepBlocks, hc]
@[simp] theorem State.engineStart_canon (s : State) (pass : List Bool) (hc : SMap.wf resetWord s.regs = true) :
    SMap.wf resetWord (State.engineStart s pass).regs = true := by simp +contextual (maxDischargeDepth := 30) [State.engineStart, hc]
@[simp] theorem State.immediateWrite_canon (s : State) (t : Nat) (hc : SMap.wf resetWord s.regs = true) :
    SMap.wf resetWord (State.immediateWrite s t).regs = true := by
  unfold State.immediateWrite; dsimp only; repeat' split
  all_goals simp (maxDischargeDepth := 30) [hc]
@[simp] theorem State.immediateAt_canon (s : State) (t : Nat) (w : DieWrite) (hc : SMap.wf resetWord s.regs = true) :
    SMap.wf resetWord (State.immediateAt s t w).regs = true := by simp (maxDischargeDepth := 30) [State.immediateAt, hc]
@[simp] theorem State.immediateApply_canon (s : State) (d : Die) (hc : SMap.wf resetWord s.regs = true) :
    SMap.wf resetWord (State.immediateApply s d).regs = true := by simp +contextual (maxDischargeDepth := 30) [State.immediateApply, apply_ite State.regs, apply_ite (SMap.wf resetWord), hc]
@[simp] theorem State.accGo_canon (s : State) (st : Nat) (hc : SMap.wf resetWord s.regs = true) :
    SMap.wf resetWord (State.accGo s st).regs = true := by simp (maxDischargeDepth := 30) [State.accGo, hc]
@[simp] theorem State.accUnit_canon (s : State) (o : Nat) (v : Nat) (t : Nat) (hc : SMap.wf resetWord s.regs = true) :
    SMap.wf resetWord (State.accUnit s o v t).regs = true := by simp (maxDischargeDepth := 30) [State.accUnit, apply_ite State.regs, apply_ite (SMap.wf resetWord), hc]
@[simp] theorem State.tokReport_canon (s : State) (i : Nat) (hc : SMap.wf resetWord s.regs = true) :
    SMap.wf resetWord (State.tokReport s i).regs = true := by simp (maxDischargeDepth := 30) [State.tokReport, hc]
@[simp] theorem State.lockReport_canon (s : State) (t : Nat) (hc : SMap.wf resetWord s.regs = true) :
    SMap.wf resetWord (State.lockReport s t).regs = true := by simp (maxDischargeDepth := 30) [State.lockReport, hc]
@[simp] theorem State.accResult_canon (s : State) (status : Nat) (reason : Nat) (hc : SMap.wf resetWord s.regs = true) :
    SMap.wf resetWord (State.accResult s status reason).regs = true := by simp (maxDischargeDepth := 30) [State.accResult, hc]
@[simp] theorem State.setSession_canon (s : State) (w : Nat) (t : Nat) (hc : SMap.wf resetWord s.regs = true) :
    SMap.wf resetWord (State.setSession s w t).regs = true := by simp (maxDischargeDepth := 30) [State.setSession, hc]
@[simp] theorem State.closeSession_canon (s : State) (cause : Nat) (t : Nat) (hc : SMap.wf resetWord s.regs = true) :
    SMap.wf resetWord (State.closeSession s cause t).regs = true := by simp (maxDischargeDepth := 30) [State.closeSession, hc]
@[simp] theorem State.endSession_canon (s : State) (cause : Nat) (t : Nat) (hc : SMap.wf resetWord s.regs = true) :
    SMap.wf resetWord (State.endSession s cause t).regs = true := by simp (maxDischargeDepth := 30) [State.endSession, apply_ite State.regs, apply_ite (SMap.wf resetWord), hc]
@[simp] theorem State.startSession_canon (s : State) (tok : Nat) (method : Nat) (mask : Nat) (t : Nat) (hc : SMap.wf resetWord s.regs = true) :
    SMap.wf resetWord (State.startSession s tok method mask t).regs = true := by simp (maxDischargeDepth := 30) [State.startSession, apply_ite State.regs, apply_ite (SMap.wf resetWord), hc]
@[simp] theorem State.sessionTimeout_canon (s : State) (hc : SMap.wf resetWord s.regs = true) :
    SMap.wf resetWord (State.sessionTimeout s).regs = true := by simp (maxDischargeDepth := 30) [State.sessionTimeout, apply_ite State.regs, apply_ite (SMap.wf resetWord), hc]
@[simp] theorem State.doorUpdate_canon (s : State) (idx : Nat) (value : W64) (stamp : Nat) (hc : SMap.wf resetWord s.regs = true) :
    SMap.wf resetWord (State.doorUpdate s idx value stamp).regs = true := by simp (maxDischargeDepth := 30) [State.doorUpdate, apply_ite State.regs, apply_ite (SMap.wf resetWord), hc]
@[simp] theorem State.accRest_canon (s : State) (hc : SMap.wf resetWord s.regs = true) :
    SMap.wf resetWord (State.accRest s).regs = true := by simp (maxDischargeDepth := 30) [State.accRest, hc]
@[simp] theorem State.accRefuse_canon (s : State) (r : AccReq) (status : Nat) (reason : Nat) (hc : SMap.wf resetWord s.regs = true) :
    SMap.wf resetWord (State.accRefuse s r status reason).regs = true := by unfold State.accRefuse; split <;> simp (maxDischargeDepth := 30) [hc]
@[simp] theorem State.lfStop_canon (s : State) (hc : SMap.wf resetWord s.regs = true) :
    SMap.wf resetWord (State.lfStop s).regs = true := by simp (maxDischargeDepth := 30) [State.lfStop, apply_ite State.regs, hc]
@[simp] theorem State.accFinish_canon (s : State) (status : Nat) (reason : Nat) (hc : SMap.wf resetWord s.regs = true) :
    SMap.wf resetWord (State.accFinish s status reason).regs = true := by
  unfold State.accFinish; split
  · exact hc
  · dsimp only
    refine State.accRest_canon _ (State.lfStop_canon _ ?_)
    (repeat' split) <;> simp (maxDischargeDepth := 30) [hc]
@[simp] theorem State.accFlush_canon (s : State) (status : Nat) (reason : Nat) (hc : SMap.wf resetWord s.regs = true) :
    SMap.wf resetWord (State.accFlush s status reason).regs = true := by simp +contextual (maxDischargeDepth := 30) [State.accFlush, hc]
@[simp] theorem State.levelZero_canon (s : State) (hc : SMap.wf resetWord s.regs = true) :
    SMap.wf resetWord (State.levelZero s).regs = true := by simp (maxDischargeDepth := 30) [State.levelZero, apply_ite State.regs, apply_ite (SMap.wf resetWord), hc]
@[simp] theorem State.lockout_canon (s : State) (reasons : List Nat) (hc : SMap.wf resetWord s.regs = true) :
    SMap.wf resetWord (State.lockout s reasons).regs = true := by simp (maxDischargeDepth := 30) [State.lockout, hc]
@[simp] theorem State.accFailure_canon (s : State) (reason : Nat) (hc : SMap.wf resetWord s.regs = true) :
    SMap.wf resetWord (State.accFailure s reason).regs = true := by unfold State.accFailure; dsimp only; split <;> simp (maxDischargeDepth := 30) [apply_ite State.regs, apply_ite (SMap.wf resetWord), hc]
@[simp] theorem State.lockoutEnd_canon (s : State) (hc : SMap.wf resetWord s.regs = true) :
    SMap.wf resetWord (State.lockoutEnd s).regs = true := by simp (maxDischargeDepth := 30) [State.lockoutEnd, apply_ite State.regs, apply_ite (SMap.wf resetWord), hc]
@[simp] theorem State.tokZero_canon (s : State) (i : Nat) (hc : SMap.wf resetWord s.regs = true) :
    SMap.wf resetWord (State.tokZero s i).regs = true := by simp (maxDischargeDepth := 30) [State.tokZero, hc]
@[simp] theorem State.tokenRegister_canon (s : State) (t : Nat) (hc : SMap.wf resetWord s.regs = true) :
    SMap.wf resetWord (State.tokenRegister s t).regs = true := by unfold State.tokenRegister; split <;> simp (maxDischargeDepth := 30) [apply_ite State.regs, apply_ite (SMap.wf resetWord), hc]
@[simp] theorem State.tokenRemove_canon (s : State) (t : Nat) (hc : SMap.wf resetWord s.regs = true) :
    SMap.wf resetWord (State.tokenRemove s t).regs = true := by unfold State.tokenRemove; split <;> simp (maxDischargeDepth := 30) [apply_ite State.regs, apply_ite (SMap.wf resetWord), hc]
@[simp] theorem State.challengeOp_canon (s : State) (t : Nat) (hc : SMap.wf resetWord s.regs = true) :
    SMap.wf resetWord (State.challengeOp s t).regs = true := by
  unfold State.challengeOp; dsimp only; repeat' split
  all_goals simp (maxDischargeDepth := 30) [hc]
@[simp] theorem State.calibrate_canon (s : State) (t : Nat) (hc : SMap.wf resetWord s.regs = true) :
    SMap.wf resetWord (State.calibrate s t).regs = true := by
  unfold State.calibrate; dsimp only; repeat' split
  all_goals simp (maxDischargeDepth := 30) [hc]
@[simp] theorem State.accCmd_canon (s : State) (w : Nat) (hc : SMap.wf resetWord s.regs = true) :
    SMap.wf resetWord (State.accCmd s w).regs = true := by
  unfold State.accCmd; dsimp only; repeat' split
  all_goals simp +contextual (maxDischargeDepth := 30) [hc]
@[simp] theorem State.drawNonce_canon (s : State) (i : Nat) (hc : SMap.wf resetWord s.regs = true) :
    SMap.wf resetWord (s.drawNonce i).2.regs = true := by unfold State.drawNonce; dsimp only; split <;> simp (maxDischargeDepth := 30) [apply_ite State.regs, apply_ite (SMap.wf resetWord), hc]
@[simp] theorem State.sendChallenge_canon (s : State) (addressed : Bool) (tok : Nat) (mask : Nat) (hc : SMap.wf resetWord s.regs = true) :
    SMap.wf resetWord (State.sendChallenge s addressed tok mask).regs = true := by
  unfold State.sendChallenge; dsimp only
  have hk := State.drawNonce_canon s (s.rd Reg.ACC_CFG.CSLOT)
  split
  · rename_i h; rw [h] at hk; simp (maxDischargeDepth := 30) [hc] at hk; simp (maxDischargeDepth := 30) [hk]
  · rename_i h; rw [h] at hk; simp (maxDischargeDepth := 30) [hc] at hk; simp (maxDischargeDepth := 30) [hk]
@[simp] theorem State.serveNext_canon (s : State) (hc : SMap.wf resetWord s.regs = true) :
    SMap.wf resetWord (State.serveNext s).regs = true := by
  unfold State.serveNext; dsimp only; repeat' split
  all_goals first
    | simp_all; done
    | (refine (foldl_canon _ (fun s x => ?_) _ _).imp (fun h => h.trans ?_) (fun h => h.trans ?_) <;> (try dsimp only) <;> (repeat' split) <;> simp_all [apply_ite State.regs, apply_ite (SMap.wf resetWord)])
@[simp] theorem State.challengeStart_canon (s : State) (hc : SMap.wf resetWord s.regs = true) :
    SMap.wf resetWord (State.challengeStart s).regs = true := by
  unfold State.challengeStart; dsimp only; repeat' split
  all_goals first
    | simp_all; done
    | (refine (foldl_canon _ (fun s x => ?_) _ _).imp (fun h => h.trans ?_) (fun h => h.trans ?_) <;> (try dsimp only) <;> (repeat' split) <;> simp_all [apply_ite State.regs, apply_ite (SMap.wf resetWord)])
@[simp] theorem State.challengeOver_canon (s : State) (hc : SMap.wf resetWord s.regs = true) :
    SMap.wf resetWord (State.challengeOver s).regs = true := by simp (maxDischargeDepth := 30) [State.challengeOver, apply_ite State.regs, apply_ite (SMap.wf resetWord), hc]
@[simp] theorem State.lfOverrun_canon (s : State) (hc : SMap.wf resetWord s.regs = true) :
    SMap.wf resetWord (State.lfOverrun s).regs = true := by simp (maxDischargeDepth := 30) [State.lfOverrun, apply_ite State.regs, apply_ite (SMap.wf resetWord), hc]
@[simp] theorem State.lfStep_canon (s : State) (hc : SMap.wf resetWord s.regs = true) :
    SMap.wf resetWord (State.lfStep s).regs = true := by simp (maxDischargeDepth := 30) [State.lfStep, apply_ite State.regs, apply_ite (SMap.wf resetWord), hc]
@[simp] theorem State.lfShort_canon (s : State) (k : Nat) (cur : Nat) (hc : SMap.wf resetWord s.regs = true) :
    SMap.wf resetWord (State.lfShort s k cur).regs = true := by simp (maxDischargeDepth := 30) [State.lfShort, apply_ite State.regs, apply_ite (SMap.wf resetWord), hc]
@[simp] theorem State.lfOpen_canon (s : State) (k : Nat) (peak : Nat) (hc : SMap.wf resetWord s.regs = true) :
    SMap.wf resetWord (State.lfOpen s k peak).regs = true := by simp (maxDischargeDepth := 30) [State.lfOpen, apply_ite State.regs, apply_ite (SMap.wf resetWord), hc]
@[simp] theorem State.tkrFrame_canon (s : State) (f : List Byte) (hc : SMap.wf resetWord s.regs = true) :
    SMap.wf resetWord (State.tkrFrame s f).regs = true := by unfold State.tkrFrame; split <;> simp (maxDischargeDepth := 30) [hc]
@[simp] theorem State.tokFlags_canon (s : State) (i : Nat) (flags : Nat) (hc : SMap.wf resetWord s.regs = true) :
    SMap.wf resetWord (State.tokFlags s i flags).regs = true := by simp (maxDischargeDepth := 30) [State.tokFlags, hc]
@[simp] theorem State.tokAccept_canon (s : State) (i : Nat) (hc : SMap.wf resetWord s.regs = true) :
    SMap.wf resetWord (State.tokAccept s i).regs = true := by simp (maxDischargeDepth := 30) [State.tokAccept, hc]
@[simp] theorem State.buttonFrame_canon (s : State) (f : List Byte) (hc : SMap.wf resetWord s.regs = true) :
    SMap.wf resetWord (State.buttonFrame s f).regs = true := by
  unfold State.buttonFrame; dsimp only; repeat' split
  all_goals simp (maxDischargeDepth := 30) [hc]
@[simp] theorem State.lastDev_canon (s : State) (dev : Int) (tok : Nat) (valid : Bool) (hc : SMap.wf resetWord s.regs = true) :
    SMap.wf resetWord (State.lastDev s dev tok valid).regs = true := by simp (maxDischargeDepth := 30) [State.lastDev, hc]
@[simp] theorem State.calEnd_canon (s : State) (r : AccReq) (hc : SMap.wf resetWord s.regs = true) :
    SMap.wf resetWord (State.calEnd s r).regs = true := by simp (maxDischargeDepth := 30) [State.calEnd, apply_ite State.regs, apply_ite (SMap.wf resetWord), hc]
@[simp] theorem State.roundEnd_canon (s : State) (r : AccReq) (hc : SMap.wf resetWord s.regs = true) :
    SMap.wf resetWord (State.roundEnd s r).regs = true := by unfold State.roundEnd; dsimp only; split <;> simp (maxDischargeDepth := 30) [apply_ite State.regs, apply_ite (SMap.wf resetWord), hc]
@[simp] theorem State.challengeDone_canon (s : State) (hc : SMap.wf resetWord s.regs = true) :
    SMap.wf resetWord (State.challengeDone s).regs = true := by unfold State.challengeDone; dsimp only; split <;> simp (maxDischargeDepth := 30) [apply_ite State.regs, apply_ite (SMap.wf resetWord), hc]
@[simp] theorem State.slotDone_canon (s : State) (hc : SMap.wf resetWord s.regs = true) :
    SMap.wf resetWord (State.slotDone s).regs = true := by simp (maxDischargeDepth := 30) [State.slotDone, apply_ite State.regs, apply_ite (SMap.wf resetWord), hc]
@[simp] theorem State.replySlotEnd_canon (s : State) (hc : SMap.wf resetWord s.regs = true) :
    SMap.wf resetWord (State.replySlotEnd s).regs = true := by
  unfold State.replySlotEnd; dsimp only; repeat' split
  all_goals simp (maxDischargeDepth := 30) [hc]
@[simp] theorem State.judgeReply_canon (s : State) (e : Nat) (v : AccReply) (hc : SMap.wf resetWord s.regs = true) :
    SMap.wf resetWord (State.judgeReply s e v).regs = true := by
  have keep : ∀ (q : State) (f : Access → Access), SMap.wf resetWord q.regs = true → SMap.wf resetWord ({ q with acc := f q.acc } : State).regs = true :=
    fun _ _ h => h
  have h1 := State.tokFlags_canon (s.lastDev (s.devOf e v) v.token (s.tokCal v.token)) v.token v.flags (State.lastDev_canon _ _ _ _ hc)
  delta State.judgeReply
  dsimp only
  generalize (s.lastDev (s.devOf e v) v.token (s.tokCal v.token)).tokFlags v.token v.flags = q at *
  split
  · exact State.accFailure_canon _ _ h1
  · split
    · exact h1
    · split
      · exact State.accFailure_canon _ _ h1
      · exact State.tokAccept_canon _ _ (keep q (fun a => { a with accepted := some _ }) h1)
@[simp] theorem State.judgeCal_canon (s : State) (e : Nat) (tok : Nat) (v : AccReply) (hc : SMap.wf resetWord s.regs = true) :
    SMap.wf resetWord (State.judgeCal s e tok v).regs = true := by
  have keep : ∀ (q : State) (f : Access → Access), SMap.wf resetWord q.regs = true → SMap.wf resetWord ({ q with acc := f q.acc } : State).regs = true :=
    fun _ _ h => h
  have h1 := State.tokFlags_canon (s.lastDev ((v.stamp : Int) - (e + 40000 : Nat)) v.token false) v.token v.flags (State.lastDev_canon _ _ _ _ hc)
  delta State.judgeCal
  generalize (s.lastDev ((v.stamp : Int) - (e + 40000 : Nat)) v.token false).tokFlags v.token v.flags = q at *
  dsimp only
  split
  · exact State.accFailure_canon _ _ h1
  · split
    · exact h1
    · exact keep q (fun a => { a with devs := a.devs ++ [(v.stamp : Int) - (e + 40000 : Nat)] }) h1
@[simp] theorem State.replyVerified_canon (s : State) (hc : SMap.wf resetWord s.regs = true) :
    SMap.wf resetWord (State.replyVerified s).regs = true := by unfold State.replyVerified; split <;> simp (maxDischargeDepth := 30) [apply_ite State.regs, apply_ite (SMap.wf resetWord), hc]
@[simp] theorem State.accAbort_canon (s : State) (status : Nat) (reason : Nat) (hc : SMap.wf resetWord s.regs = true) :
    SMap.wf resetWord (State.accAbort s status reason).regs = true := by simp (maxDischargeDepth := 30) [State.accAbort, hc]
@[simp] theorem State.accDegraded_canon (s : State) (hc : SMap.wf resetWord s.regs = true) :
    SMap.wf resetWord (State.accDegraded s).regs = true := by simp (maxDischargeDepth := 30) [State.accDegraded, hc]
@[simp] theorem State.accSupply_canon (s : State) (hc : SMap.wf resetWord s.regs = true) :
    SMap.wf resetWord (State.accSupply s).regs = true := by simp (maxDischargeDepth := 30) [State.accSupply, hc]
@[simp] theorem State.accStop_canon (s : State) (hc : SMap.wf resetWord s.regs = true) :
    SMap.wf resetWord (State.accStop s).regs = true := by simp (maxDischargeDepth := 30) [State.accStop, hc]
@[simp] theorem State.accDisable_canon (s : State) (hc : SMap.wf resetWord s.regs = true) :
    SMap.wf resetWord (State.accDisable s).regs = true := by simp (maxDischargeDepth := 30) [State.accDisable, hc]
@[simp] theorem State.accRestart_canon (s : State) (hc : SMap.wf resetWord s.regs = true) :
    SMap.wf resetWord (State.accRestart s).regs = true := by simp (maxDischargeDepth := 30) [State.accRestart, apply_ite State.regs, apply_ite (SMap.wf resetWord), hc]
@[simp] theorem State.accEnter_canon (s : State) (hc : SMap.wf resetWord s.regs = true) :
    SMap.wf resetWord (State.accEnter s).regs = true := by simp +contextual (maxDischargeDepth := 30) [State.accEnter, apply_ite State.regs, apply_ite (SMap.wf resetWord), hc]
@[simp] theorem State.accFuncReset_canon (s : State) (t : Nat) (hc : SMap.wf resetWord s.regs = true) :
    SMap.wf resetWord (State.accFuncReset s t).regs = true := by simp (maxDischargeDepth := 30) [State.accFuncReset, apply_ite State.regs, apply_ite (SMap.wf resetWord), hc]
@[simp] theorem State.accDropTag_canon (s : State) (t : Nat) (hc : SMap.wf resetWord s.regs = true) :
    SMap.wf resetWord (State.accDropTag s t).regs = true := by unfold State.accDropTag; dsimp only; split <;> simp (maxDischargeDepth := 30) [apply_ite State.regs, apply_ite (SMap.wf resetWord), hc]
@[simp] theorem State.accDrain_canon (s : State) (t : Nat) (hc : SMap.wf resetWord s.regs = true) :
    SMap.wf resetWord (State.accDrain s t).regs = true := by
  unfold State.accDrain; (try dsimp only); repeat' split
  all_goals simp +contextual (maxDischargeDepth := 30) [hc, apply_ite State.regs, apply_ite (SMap.wf resetWord)]
@[simp] theorem State.accHostStop_canon (s : State) (hc : SMap.wf resetWord s.regs = true) :
    SMap.wf resetWord (State.accHostStop s).regs = true := by simp +contextual (maxDischargeDepth := 30) [State.accHostStop, hc]
@[simp] theorem State.accBoot_canon (s : State) (hc : SMap.wf resetWord s.regs = true) :
    SMap.wf resetWord (State.accBoot s).regs = true := by simp (maxDischargeDepth := 30) [State.accBoot, hc]
@[simp] theorem State.accPark_canon (s : State) (hc : SMap.wf resetWord s.regs = true) :
    SMap.wf resetWord (State.accPark s).regs = true := by simp (maxDischargeDepth := 30) [State.accPark, hc]
@[simp] theorem State.accWake_canon (s : State) (secs : Nat) (hc : SMap.wf resetWord s.regs = true) :
    SMap.wf resetWord (State.accWake s secs).regs = true := by simp (maxDischargeDepth := 30) [State.accWake, hc]
@[simp] theorem State.accCandleLost_canon (s : State) (hc : SMap.wf resetWord s.regs = true) :
    SMap.wf resetWord (State.accCandleLost s).regs = true := by simp (maxDischargeDepth := 30) [State.accCandleLost, hc]
@[simp] theorem State.timeFollow_canon (s : State) (was : TbSt) (hc : SMap.wf resetWord s.regs = true) :
    SMap.wf resetWord (State.timeFollow s was).regs = true := by simp (maxDischargeDepth := 30) [State.timeFollow, apply_ite State.regs, apply_ite (SMap.wf resetWord), hc]
@[simp] theorem State.holdOff_canon (s : State) (u : Nat) (t : Nat) (hc : SMap.wf resetWord s.regs = true) :
    SMap.wf resetWord (State.holdOff s u t).regs = true := by simp (maxDischargeDepth := 30) [State.holdOff, hc]
@[simp] theorem State.motorHeldOff_canon (s : State) (m : Nat) (t : Nat) (hc : SMap.wf resetWord s.regs = true) :
    SMap.wf resetWord (State.motorHeldOff s m t).regs = true := by simp (maxDischargeDepth := 30) [State.motorHeldOff, apply_ite State.regs, apply_ite (SMap.wf resetWord), hc]
@[simp] theorem State.motorOv_canon (s : State) (m : Nat) (t : Nat) (hc : SMap.wf resetWord s.regs = true) :
    SMap.wf resetWord (State.motorOv s m t).regs = true := by unfold State.motorOv; split <;> simp (maxDischargeDepth := 30) [hc]
@[simp] theorem State.unitsHeldOff_canon (s : State) (d : Die) (t : Nat) (hc : SMap.wf resetWord s.regs = true) :
    SMap.wf resetWord (State.unitsHeldOff s d t).regs = true := by unfold State.unitsHeldOff; split <;> simp +contextual (maxDischargeDepth := 30) [hc]
@[simp] theorem State.unitsOv_canon (s : State) (d : Die) (t : Nat) (hc : SMap.wf resetWord s.regs = true) :
    SMap.wf resetWord (State.unitsOv s d t).regs = true := by unfold State.unitsOv; split <;> simp +contextual (maxDischargeDepth := 30) [hc]
@[simp] theorem State.resume_canon (s : State) (u : Nat) (e : Nat) (t : Nat) (hc : SMap.wf resetWord s.regs = true) :
    SMap.wf resetWord (State.resume s u e t).regs = true := by simp (maxDischargeDepth := 30) [State.resume, apply_ite State.regs, apply_ite (SMap.wf resetWord), hc]
@[simp] theorem State.resumeAll_canon (s : State) (e : Nat) (us : List Nat) (t : Nat) (hc : SMap.wf resetWord s.regs = true) :
    SMap.wf resetWord (s.resumeAll e us t).regs = true := by
  induction us generalizing s t with
  | nil => simp (maxDischargeDepth := 30) [State.resumeAll, hc]
  | cons u us ih => unfold State.resumeAll; split <;> simp (maxDischargeDepth := 30) [ih, hc]
@[simp] theorem State.enterHeld_canon (s : State) (d : Die) (st : SupSt) (t : Nat) (hc : SMap.wf resetWord s.regs = true) :
    SMap.wf resetWord (State.enterHeld s d st t).regs = true := by simp (maxDischargeDepth := 30) [State.enterHeld, apply_ite State.regs, apply_ite (SMap.wf resetWord), hc]
@[simp] theorem State.enterOv_canon (s : State) (d : Die) (t : Nat) (hc : SMap.wf resetWord s.regs = true) :
    SMap.wf resetWord (State.enterOv s d t).regs = true := by simp (maxDischargeDepth := 30) [State.enterOv, hc]
@[simp] theorem State.release_canon (s : State) (d : Die) (t : Nat) (hc : SMap.wf resetWord s.regs = true) :
    SMap.wf resetWord (State.release s d t).regs = true := by simp (maxDischargeDepth := 30) [State.release, apply_ite State.regs, apply_ite (SMap.wf resetWord), hc]
@[simp] theorem State.leaveSup_canon (s : State) (d : Die) (t : Nat) (hc : SMap.wf resetWord s.regs = true) :
    SMap.wf resetWord (State.leaveSup s d t).regs = true := by simp (maxDischargeDepth := 30) [State.leaveSup, apply_ite State.regs, apply_ite (SMap.wf resetWord), hc]
@[simp] theorem State.supplyExit_canon (s : State) (d : Die) (st : SupSt) (since : Option Nat) (hc : SMap.wf resetWord s.regs = true) :
    SMap.wf resetWord (State.supplyExit s d st since).regs = true := by unfold State.supplyExit; split <;> simp (maxDischargeDepth := 30) [apply_ite State.regs, apply_ite (SMap.wf resetWord), hc]
@[simp] theorem State.takeRegs_canon (s : State) (regs : SMap W32) (sel : Nat → Bool) (hc : SMap.wf resetWord s.regs = true) :
    SMap.wf resetWord (State.takeRegs s regs sel).regs = true := by simp +contextual (maxDischargeDepth := 30) [State.takeRegs, hc]
@[simp] theorem State.dropEntries_canon (s : State) (o : State) (hc : SMap.wf resetWord s.regs = true) :
    SMap.wf resetWord (State.dropEntries s o).regs = true := by simp (maxDischargeDepth := 30) [State.dropEntries, hc]
@[simp] theorem State.dropSent_canon (s : State) (hc : SMap.wf resetWord s.regs = true) :
    SMap.wf resetWord (State.dropSent s).regs = true := by simp (maxDischargeDepth := 30) [State.dropSent, hc]
@[simp] theorem State.wickJoin_canon (s : State) (o : State) (u : Nat) (hc : SMap.wf resetWord s.regs = true) :
    SMap.wf resetWord (State.wickJoin s o u).regs = true := by simp (maxDischargeDepth := 30) [State.wickJoin, hc]
@[simp] theorem State.commitOpenLoad_canon (s : State) (o : State) (u : Nat) (hc : SMap.wf resetWord s.regs = true) :
    SMap.wf resetWord (State.commitOpenLoad s o u).regs = true := by simp (maxDischargeDepth := 30) [State.commitOpenLoad, apply_ite State.regs, apply_ite (SMap.wf resetWord), hc]
@[simp] theorem State.commitGrid_canon (s : State) (o : State) (u : Nat) (t : Nat) (hc : SMap.wf resetWord s.regs = true) :
    SMap.wf resetWord (State.commitGrid s o u t).regs = true := by simp (maxDischargeDepth := 30) [State.commitGrid, apply_ite State.regs, apply_ite (SMap.wf resetWord), hc]
@[simp] theorem State.commitChan_canon (o : State) (t : Nat) (s : State) (u : Nat) (hc : SMap.wf resetWord s.regs = true) :
    SMap.wf resetWord (State.commitChan o t s u).regs = true := by simp (maxDischargeDepth := 30) [State.commitChan, apply_ite State.regs, apply_ite (SMap.wf resetWord), hc]
@[simp] theorem State.commitMotorUnit_canon (o : State) (t : Nat) (s : State) (m : Nat) (hc : SMap.wf resetWord s.regs = true) :
    SMap.wf resetWord (State.commitMotorUnit o t s m).regs = true := by simp (maxDischargeDepth := 30) [State.commitMotorUnit, apply_ite State.regs, apply_ite (SMap.wf resetWord), hc]
@[simp] theorem State.commitBankUnits_canon (o : State) (t : Nat) (s : State) (b : Nat) (hc : SMap.wf resetWord s.regs = true) :
    SMap.wf resetWord (State.commitBankUnits o t s b).regs = true := by simp +contextual (maxDischargeDepth := 30) [State.commitBankUnits, apply_ite State.regs, apply_ite (SMap.wf resetWord), hc]
@[simp] theorem State.commitSink_canon (o : State) (t : Nat) (s : State) (n : Nat) (hc : SMap.wf resetWord s.regs = true) :
    SMap.wf resetWord (State.commitSink o t s n).regs = true := by simp (maxDischargeDepth := 30) [State.commitSink, apply_ite State.regs, apply_ite (SMap.wf resetWord), hc]
@[simp] theorem State.commitInput_canon (o : State) (t : Nat) (s : State) (n : Nat) (hc : SMap.wf resetWord s.regs = true) :
    SMap.wf resetWord (State.commitInput o t s n).regs = true := by simp (maxDischargeDepth := 30) [State.commitInput, apply_ite State.regs, apply_ite (SMap.wf resetWord), hc]
@[simp] theorem State.groupsFrom_canon (s : State) (o : State) (hc : SMap.wf resetWord s.regs = true) :
    SMap.wf resetWord (State.groupsFrom s o).regs = true := by simp +contextual (maxDischargeDepth := 30) [State.groupsFrom, hc]
@[simp] theorem State.dieTakes_canon (s : State) (d : Die) (regs : SMap W32) (t : Nat) (hc : SMap.wf resetWord s.regs = true) :
    SMap.wf resetWord (State.dieTakes s d regs t).regs = true := by unfold State.dieTakes; split <;> simp +contextual (maxDischargeDepth := 30) [hc]
@[simp] theorem State.dieStarts_canon (s : State) (d : Die) (regs : SMap W32) (t : Nat) (hc : SMap.wf resetWord s.regs = true) :
    SMap.wf resetWord (State.dieStarts s d regs t).regs = true := by unfold State.dieStarts; split <;> simp +contextual (maxDischargeDepth := 30) [hc]
@[simp] theorem State.peerReport_canon (s : State) (i : Nat) (t : Nat) (hc : SMap.wf resetWord s.regs = true) :
    SMap.wf resetWord (State.peerReport s i t).regs = true := by simp (maxDischargeDepth := 30) [State.peerReport, hc]
@[simp] theorem State.summaryReport_canon (s : State) (t : Nat) (hc : SMap.wf resetWord s.regs = true) :
    SMap.wf resetWord (State.summaryReport s t).regs = true := by simp (maxDischargeDepth := 30) [State.summaryReport, apply_ite State.regs, apply_ite (SMap.wf resetWord), hc]
@[simp] theorem State.peerEnter_canon (s : State) (i : Nat) (st : Nat) (gen : Nat) (t : Nat) (hc : SMap.wf resetWord s.regs = true) :
    SMap.wf resetWord (State.peerEnter s i st gen t).regs = true := by simp (maxDischargeDepth := 30) [State.peerEnter, apply_ite State.regs, apply_ite (SMap.wf resetWord), hc]
@[simp] theorem State.peersStart_canon (s : State) (hc : SMap.wf resetWord s.regs = true) :
    SMap.wf resetWord (State.peersStart s).regs = true := by
  have h0 := foldl_canon (fun s i => s.setWord (Reg.CFG_PEER.STATE i).off 0#32) (fun s i hc => State.setWord_canon s _ _ hc) (List.range 32) s hc
  have h1 := foldl_canon (fun s i =>
    match s.peer i with
    | none => s
    | some p =>
      let s1 := (s.wr (Reg.CFG_PEER.REQ i) (b2n p.required)).wr (Reg.CFG_PEER.NODE i) p.node
      let s2 := s1.peerReport i s.now
      if p.required then s2.raiseL (0x0F20 + i) 0x43 s.now else s2) (fun s i hc => by
        dsimp only; split
        · exact hc
        · split <;> simp (maxDischargeDepth := 30) [hc]) (List.range 32) _ h0
  delta State.peersStart
  dsimp only
  split
  · exact State.summaryReport_canon _ _ h1
  · exact h1
@[simp] theorem State.lanternDue_canon (s : State) (hc : SMap.wf resetWord s.regs = true) :
    SMap.wf resetWord (State.lanternDue s).regs = true := by simp (maxDischargeDepth := 30) [State.lanternDue, apply_ite State.regs, hc]
@[simp] theorem State.lanternSend_canon (s : State) (bytes : List Byte) (hc : SMap.wf resetWord s.regs = true) :
    SMap.wf resetWord (State.lanternSend s bytes).regs = true := by unfold State.lanternSend; split <;> simp +contextual (maxDischargeDepth := 30) [apply_ite State.regs, apply_ite (SMap.wf resetWord), hc]
@[simp] theorem State.lanternBuild_canon (s : State) (hc : SMap.wf resetWord s.regs = true) :
    SMap.wf resetWord (State.lanternBuild s).regs = true := by simp (maxDischargeDepth := 30) [State.lanternBuild, apply_ite State.regs, apply_ite (SMap.wf resetWord), hc]
@[simp] theorem State.lanternsBuild_canon (s : State) (hc : SMap.wf resetWord s.regs = true) :
    SMap.wf resetWord (State.lanternsBuild s).regs = true := by simp +contextual (maxDischargeDepth := 30) [State.lanternsBuild, apply_ite State.regs, apply_ite (SMap.wf resetWord), hc]
@[simp] theorem State.peerSilent_canon (s : State) (i : Nat) (hc : SMap.wf resetWord s.regs = true) :
    SMap.wf resetWord (State.peerSilent s i).regs = true := by
  unfold State.peerSilent; dsimp only; repeat' split
  all_goals simp (maxDischargeDepth := 30) [hc]
@[simp] theorem State.lanternReceived_canon (s : State) (x : LanternRx) (hc : SMap.wf resetWord s.regs = true) :
    SMap.wf resetWord (State.lanternReceived s x).regs = true := by
  unfold State.lanternReceived; dsimp only; repeat' split
  all_goals simp (maxDischargeDepth := 30) [hc]

end Sys2Proof.Machine
end

