-- ==== Sys2Proof/Laws/CanonHost.lean ====
section
/-! SUPPORT. The register file stays canonical under the operations of the host interface. -/

namespace Sys2Proof.Machine

@[simp] theorem State.forgetClears_canon (s : State) (p : Nat → Bool) (hc : SMap.wf resetWord s.regs = true) :
    SMap.wf resetWord (State.forgetClears s p).regs = true := by simp +contextual (maxDischargeDepth := 30) [State.forgetClears, hc]
@[simp] theorem State.forgetUnits_canon (s : State) (p : Nat → Bool) (hc : SMap.wf resetWord s.regs = true) :
    SMap.wf resetWord (State.forgetUnits s p).regs = true := by
  have h1 := foldl_canon (fun s c => s.setCanC c { s.canC c with resetTag := forgetMark p (s.canC c).resetTag })
    (fun s x hc => State.setCanC_canon s _ _ hc) (List.range 12) _ (State.forgetClears_canon s p hc)
  have h2 := foldl_canon (fun s n => s.setLinC n { s.linC n with resetTag := forgetMark p (s.linC n).resetTag })
    (fun s x hc => State.setLinC_canon s _ _ hc) (List.range 10) _ h1
  delta State.forgetUnits
  dsimp only
  exact foldl_canon (fun s q => s.setSq q { s.sq q with remTag := forgetMark p (s.sq q).remTag })
    (fun s x hc => State.setSq_canon s _ _ hc) (List.range 32) _ h2
@[simp] theorem State.forgetQueues_canon (s : State) (p : Nat → Bool) (hc : SMap.wf resetWord s.regs = true) :
    SMap.wf resetWord (State.forgetQueues s p).regs = true := by simp (maxDischargeDepth := 30) [State.forgetQueues, hc]
@[simp] theorem State.forgetTags_canon (s : State) (p : Nat → Bool) (hc : SMap.wf resetWord s.regs = true) :
    SMap.wf resetWord (State.forgetTags s p).regs = true := by simp (maxDischargeDepth := 30) [State.forgetTags, hc]
@[simp] theorem State.hostStop_canon (s : State) (hc : SMap.wf resetWord s.regs = true) :
    SMap.wf resetWord (State.hostStop s).regs = true := by simp +contextual (maxDischargeDepth := 30) [State.hostStop, hc]
@[simp] theorem State.linkDown_canon (s : State) (hc : SMap.wf resetWord s.regs = true) :
    SMap.wf resetWord (State.linkDown s).regs = true := by simp (maxDischargeDepth := 30) [State.linkDown, apply_ite State.regs, apply_ite (SMap.wf resetWord), hc]
@[simp] theorem State.hostStart_canon (s : State) (hc : SMap.wf resetWord s.regs = true) :
    SMap.wf resetWord (State.hostStart s).regs = true := by simp (maxDischargeDepth := 30) [State.hostStart, apply_ite State.regs, apply_ite (SMap.wf resetWord), hc]
@[simp] theorem State.hostEnable_canon (s : State) (dbper : Nat) (hc : SMap.wf resetWord s.regs = true) :
    SMap.wf resetWord (State.hostEnable s dbper).regs = true := by simp (maxDischargeDepth := 30) [State.hostEnable, apply_ite State.regs, apply_ite (SMap.wf resetWord), hc]
@[simp] theorem State.hostDisable_canon (s : State) (dbper : Nat) (hc : SMap.wf resetWord s.regs = true) :
    SMap.wf resetWord (State.hostDisable s dbper).regs = true := by simp (maxDischargeDepth := 30) [State.hostDisable, apply_ite State.regs, apply_ite (SMap.wf resetWord), hc]
@[simp] theorem State.pcieUp_canon (s : State) (hc : SMap.wf resetWord s.regs = true) :
    SMap.wf resetWord (State.pcieUp s).regs = true := by
  unfold State.pcieUp; dsimp only; repeat' split
  all_goals simp (maxDischargeDepth := 30) [hc]
@[simp] theorem State.msixUnmask_canon (s : State) (v : Nat) (hc : SMap.wf resetWord s.regs = true) :
    SMap.wf resetWord (State.msixUnmask s v).regs = true := by simp (maxDischargeDepth := 30) [State.msixUnmask, apply_ite State.regs, apply_ite (SMap.wf resetWord), hc]
@[simp] theorem State.writeHeld_canon (s : State) (c : Cpl) (hc : SMap.wf resetWord s.regs = true) :
    SMap.wf resetWord (State.writeHeld s c).regs = true := by simp (maxDischargeDepth := 30) [State.writeHeld, hc]
@[simp] theorem State.sendHeld_canon (s : State) (hc : SMap.wf resetWord s.regs = true) :
    SMap.wf resetWord (State.sendHeld s).regs = true := by simp +contextual (maxDischargeDepth := 30) [State.sendHeld, hc]
@[simp] theorem State.busMasterChange_canon (s : State) (bme : Bool) (d3 : Bool) (hc : SMap.wf resetWord s.regs = true) :
    SMap.wf resetWord (State.busMasterChange s bme d3).regs = true := by simp (maxDischargeDepth := 30) [State.busMasterChange, apply_ite State.regs, apply_ite (SMap.wf resetWord), hc]
@[simp] theorem State.cqTimer_canon (s : State) (q : Nat) (hc : SMap.wf resetWord s.regs = true) :
    SMap.wf resetWord (State.cqTimer s q).regs = true := by simp (maxDischargeDepth := 30) [State.cqTimer, apply_ite State.regs, apply_ite (SMap.wf resetWord), hc]
@[simp] theorem State.doorbellFetch_canon (s : State) (hc : SMap.wf resetWord s.regs = true) :
    SMap.wf resetWord (State.doorbellFetch s).regs = true := by simp (maxDischargeDepth := 30) [State.doorbellFetch, apply_ite State.regs, hc]
@[simp] theorem State.tailWord_canon (s : State) (q : Nat) (w : Nat) (hc : SMap.wf resetWord s.regs = true) :
    SMap.wf resetWord (State.tailWord s q w).regs = true := by simp (maxDischargeDepth := 30) [State.tailWord, apply_ite State.regs, apply_ite (SMap.wf resetWord), hc]
@[simp] theorem State.headWord_canon (s : State) (q : Nat) (w : Nat) (hc : SMap.wf resetWord s.regs = true) :
    SMap.wf resetWord (State.headWord s q w).regs = true := by simp (maxDischargeDepth := 30) [State.headWord, apply_ite State.regs, apply_ite (SMap.wf resetWord), hc]
@[simp] theorem State.doorbellPage_canon (s : State) (b : List Byte) (hc : SMap.wf resetWord s.regs = true) :
    SMap.wf resetWord (State.doorbellPage s b).regs = true := by simp +contextual (maxDischargeDepth := 30) [State.doorbellPage, hc]
@[simp] theorem State.fetchFailed_canon (s : State) (x : ReadResult) (hc : SMap.wf resetWord s.regs = true) :
    SMap.wf resetWord (State.fetchFailed s x).regs = true := by simp (maxDischargeDepth := 30) [State.fetchFailed, hc]
@[simp] theorem State.doorbellData_canon (s : State) (x : ReadResult) (hc : SMap.wf resetWord s.regs = true) :
    SMap.wf resetWord (State.doorbellData s x).regs = true := by
  unfold State.doorbellData; dsimp only; repeat' split
  all_goals simp (maxDischargeDepth := 30) [hc]
@[simp] theorem State.served_canon (s : State) (q : Nat) (hc : SMap.wf resetWord s.regs = true) :
    SMap.wf resetWord (State.served s q).regs = true := by simp (maxDischargeDepth := 30) [State.served, hc]
@[simp] theorem State.turnPasses_canon (s : State) (q : Nat) (hc : SMap.wf resetWord s.regs = true) :
    SMap.wf resetWord (State.turnPasses s q).regs = true := by simp (maxDischargeDepth := 30) [State.turnPasses, hc]
@[simp] theorem State.returnRingPosts_canon (s : State) (q : Nat) (hc : SMap.wf resetWord s.regs = true) :
    SMap.wf resetWord (State.returnRingPosts s q).regs = true := by simp (maxDischargeDepth := 30) [State.returnRingPosts, hc]
@[simp] theorem State.drainCheck_canon (s : State) (q : Nat) (hc : SMap.wf resetWord s.regs = true) :
    SMap.wf resetWord (State.drainCheck s q).regs = true := by simp (maxDischargeDepth := 30) [State.drainCheck, apply_ite State.regs, apply_ite (SMap.wf resetWord), hc]
@[simp] theorem State.consume_canon (s : State) (q : Nat) (hc : SMap.wf resetWord s.regs = true) :
    SMap.wf resetWord (State.consume s q).regs = true := by simp (maxDischargeDepth := 30) [State.consume, hc]
@[simp] theorem State.acceptDesc_canon (s : State) (q : Nat) (d : List Byte) (hc : SMap.wf resetWord s.regs = true) :
    SMap.wf resetWord (State.acceptDesc s q d).regs = true := by unfold State.acceptDesc; dsimp only; split <;> simp (maxDischargeDepth := 30) [apply_ite State.regs, apply_ite (SMap.wf resetWord), hc]
@[simp] theorem State.descFailed_canon (s : State) (q : Nat) (x : ReadResult) (hc : SMap.wf resetWord s.regs = true) :
    SMap.wf resetWord (State.descFailed s q x).regs = true := by simp (maxDischargeDepth := 30) [State.descFailed, apply_ite State.regs, apply_ite (SMap.wf resetWord), hc]
@[simp] theorem State.descriptor_canon (s : State) (q : Nat) (x : ReadResult) (hc : SMap.wf resetWord s.regs = true) :
    SMap.wf resetWord (State.descriptor s q x).regs = true := by
  unfold State.descriptor; (try dsimp only); repeat' split
  all_goals simp +contextual (maxDischargeDepth := 30) [hc]
@[simp] theorem State.nop_canon (s : State) (t : Nat) (hc : SMap.wf resetWord s.regs = true) :
    SMap.wf resetWord (State.nop s t).regs = true := by unfold State.nop; split <;> simp (maxDischargeDepth := 30) [hc]
@[simp] theorem State.addSq_canon (s : State) (t : Nat) (q : Nat) (o : HostOp) (hc : SMap.wf resetWord s.regs = true) :
    SMap.wf resetWord (State.addSq s t q o).regs = true := by simp (maxDischargeDepth := 30) [State.addSq, apply_ite State.regs, apply_ite (SMap.wf resetWord), hc]
@[simp] theorem State.addCq_canon (s : State) (t : Nat) (q : Nat) (o : HostOp) (hc : SMap.wf resetWord s.regs = true) :
    SMap.wf resetWord (State.addCq s t q o).regs = true := by simp (maxDischargeDepth := 30) [State.addCq, apply_ite State.regs, apply_ite (SMap.wf resetWord), hc]
@[simp] theorem State.ringAdd_canon (s : State) (t : Nat) (hc : SMap.wf resetWord s.regs = true) :
    SMap.wf resetWord (State.ringAdd s t).regs = true := by unfold State.ringAdd; split <;> simp (maxDischargeDepth := 30) [apply_ite State.regs, apply_ite (SMap.wf resetWord), hc]
@[simp] theorem State.removeSq_canon (s : State) (t : Nat) (q : Nat) (o : HostOp) (hc : SMap.wf resetWord s.regs = true) :
    SMap.wf resetWord (State.removeSq s t q o).regs = true := by simp (maxDischargeDepth := 30) [State.removeSq, apply_ite State.regs, apply_ite (SMap.wf resetWord), hc]
@[simp] theorem State.removeCq_canon (s : State) (t : Nat) (q : Nat) (hc : SMap.wf resetWord s.regs = true) :
    SMap.wf resetWord (State.removeCq s t q).regs = true := by simp (maxDischargeDepth := 30) [State.removeCq, apply_ite State.regs, apply_ite (SMap.wf resetWord), hc]
@[simp] theorem State.ringRemove_canon (s : State) (t : Nat) (hc : SMap.wf resetWord s.regs = true) :
    SMap.wf resetWord (State.ringRemove s t).regs = true := by unfold State.ringRemove; split <;> simp (maxDischargeDepth := 30) [apply_ite State.regs, apply_ite (SMap.wf resetWord), hc]
@[simp] theorem State.drainCan_canon (s : State) (t : Nat) (c : Nat) (hc : SMap.wf resetWord s.regs = true) :
    SMap.wf resetWord (State.drainCan s t c).regs = true := by unfold State.drainCan; split <;> simp (maxDischargeDepth := 30) [apply_ite State.regs, apply_ite (SMap.wf resetWord), hc]
@[simp] theorem State.drainLin_canon (s : State) (t : Nat) (n : Nat) (hc : SMap.wf resetWord s.regs = true) :
    SMap.wf resetWord (State.drainLin s t n).regs = true := by simp (maxDischargeDepth := 30) [State.drainLin, apply_ite State.regs, apply_ite (SMap.wf resetWord), hc]
@[simp] theorem State.drainOp_canon (s : State) (t : Nat) (o : HostOp) (hc : SMap.wf resetWord s.regs = true) :
    SMap.wf resetWord (State.drainOp s t o).regs = true := by simp (maxDischargeDepth := 30) [State.drainOp, apply_ite State.regs, apply_ite (SMap.wf resetWord), hc]
@[simp] theorem State.drainTimeout_canon (s : State) (q : Nat) (hc : SMap.wf resetWord s.regs = true) :
    SMap.wf resetWord (State.drainTimeout s q).regs = true := by simp +contextual (maxDischargeDepth := 30) [State.drainTimeout, apply_ite State.regs, apply_ite (SMap.wf resetWord), hc]
@[simp] theorem State.funcReset_canon (s : State) (t : Nat) (hc : SMap.wf resetWord s.regs = true) :
    SMap.wf resetWord (State.funcReset s t).regs = true := by unfold State.funcReset; split <;> simp (maxDischargeDepth := 30) [apply_ite State.regs, apply_ite (SMap.wf resetWord), hc]
@[simp] theorem State.rxPost_canon (s : State) (t : Nat) (hc : SMap.wf resetWord s.regs = true) :
    SMap.wf resetWord (State.rxPost s t).regs = true := by
  unfold State.rxPost; dsimp only; repeat' split
  all_goals simp (maxDischargeDepth := 30) [hc]
@[simp] theorem State.enterIntake_canon (s : State) (u : Upd) (hc : SMap.wf resetWord s.regs = true) :
    SMap.wf resetWord (State.enterIntake s u).regs = true := by simp (maxDischargeDepth := 30) [State.enterIntake, hc]
@[simp] theorem State.arriveDie_canon (s : State) (d : Die) (hc : SMap.wf resetWord s.regs = true) :
    SMap.wf resetWord (State.arriveDie s d).regs = true := by unfold State.arriveDie; split <;> simp (maxDischargeDepth := 30) [apply_ite State.regs, apply_ite (SMap.wf resetWord), hc]
@[simp] theorem State.arriveL_canon (s : State) (hc : SMap.wf resetWord s.regs = true) :
    SMap.wf resetWord (State.arriveL s).regs = true := by unfold State.arriveL; split <;> simp (maxDischargeDepth := 30) [apply_ite State.regs, apply_ite (SMap.wf resetWord), hc]
@[simp] theorem State.arriveHost_canon (s : State) (hc : SMap.wf resetWord s.regs = true) :
    SMap.wf resetWord (State.arriveHost s).regs = true := by
  unfold State.arriveHost; dsimp only; repeat' split
  all_goals simp (maxDischargeDepth := 30) [hc]
@[simp] theorem State.intakeLate_canon (s : State) (u : Upd) (hc : SMap.wf resetWord s.regs = true) :
    SMap.wf resetWord (State.intakeLate s u).regs = true := by simp (maxDischargeDepth := 30) [State.intakeLate, apply_ite State.regs, apply_ite (SMap.wf resetWord), hc]
@[simp] theorem State.committed_canon (s : State) (u : Upd) (accepted : Bool) (hc : SMap.wf resetWord s.regs = true) :
    SMap.wf resetWord (State.committed s u accepted).regs = true := by simp (maxDischargeDepth := 30) [State.committed, apply_ite State.regs, apply_ite (SMap.wf resetWord), hc]
@[simp] theorem State.intakeCommit_canon (s : State) (hc : SMap.wf resetWord s.regs = true) :
    SMap.wf resetWord (State.intakeCommit s).regs = true := by
  unfold State.intakeCommit; dsimp only; repeat' split
  all_goals simp (maxDischargeDepth := 30) [hc]
@[simp] theorem State.sendHost_canon (s : State) (t : Nat) (o : HostOp) (bytes : List Byte) (hc : SMap.wf resetWord s.regs = true) :
    SMap.wf resetWord (State.sendHost s t o bytes).regs = true := by simp (maxDischargeDepth := 30) [State.sendHost, hc]
@[simp] theorem State.ledgerWrite_canon (s : State) (t : Nat) (x : ReadResult) (hc : SMap.wf resetWord s.regs = true) :
    SMap.wf resetWord (State.ledgerWrite s t x).regs = true := by
  simp (maxDischargeDepth := 30) [State.ledgerWrite]; repeat' split
  all_goals simp_all
@[simp] theorem State.serveRead_canon (s : State) (t : Nat) (o : HostOp) (a : Attr) (e : Entry) (k : Nat) (f : Nat) (hc : SMap.wf resetWord s.regs = true) :
    SMap.wf resetWord (State.serveRead s t o a e k f).regs = true := by simp (maxDischargeDepth := 30) [State.serveRead, hc]
@[simp] theorem State.serveSnap_canon (s : State) (t : Nat) (o : HostOp) (a : Attr) (hc : SMap.wf resetWord s.regs = true) :
    SMap.wf resetWord (State.serveSnap s t o a).regs = true := by simp (maxDischargeDepth := 30) [State.serveSnap, hc]
@[simp] theorem State.ledgerRead_canon (s : State) (t : Nat) (hc : SMap.wf resetWord s.regs = true) :
    SMap.wf resetWord (State.ledgerRead s t).regs = true := by
  unfold State.ledgerRead; dsimp only; repeat' split
  all_goals simp (maxDischargeDepth := 30) [hc]
@[simp] theorem State.snapRead_canon (s : State) (t : Nat) (hc : SMap.wf resetWord s.regs = true) :
    SMap.wf resetWord (State.snapRead s t).regs = true := by
  simp (maxDischargeDepth := 30) [State.snapRead]; repeat' split
  all_goals simp_all
@[simp] theorem State.accErr_canon (s : State) (off : Nat) (k : Nat) (hc : SMap.wf resetWord s.regs = true) :
    SMap.wf resetWord (State.accErr s off k).regs = true := by simp (maxDischargeDepth := 30) [State.accErr, apply_ite State.regs, apply_ite (SMap.wf resetWord), hc]
@[simp] theorem State.peek_canon (s : State) (v : W32) (hc : SMap.wf resetWord s.regs = true) :
    SMap.wf resetWord (State.peek s v).regs = true := by unfold State.peek; dsimp only; split <;> simp +contextual (maxDischargeDepth := 30) [hc]
@[simp] theorem State.setFltRec_canon (s : State) (r : Nat) (x : FltRec) (hc : SMap.wf resetWord s.regs = true) :
    SMap.wf resetWord (State.setFltRec s r x).regs = true := by simp (maxDischargeDepth := 30) [State.setFltRec, hc]
@[simp] theorem State.reportFlt_canon (s : State) (r : Nat) (t : Nat) (hc : SMap.wf resetWord s.regs = true) :
    SMap.wf resetWord (State.reportFlt s r t).regs = true := by unfold State.reportFlt; split <;> simp (maxDischargeDepth := 30) [apply_ite State.regs, apply_ite (SMap.wf resetWord), hc]
@[simp] theorem State.fltMram_canon (s : State) (r : Nat) (hc : SMap.wf resetWord s.regs = true) :
    SMap.wf resetWord (State.fltMram s r).regs = true := by simp (maxDischargeDepth := 30) [State.fltMram, hc]
@[simp] theorem State.notice_canon (s : State) (n : Notice) (hc : SMap.wf resetWord s.regs = true) :
    SMap.wf resetWord (State.notice s n).regs = true := by simp (maxDischargeDepth := 30) [State.notice, apply_ite State.regs, apply_ite (SMap.wf resetWord), hc]
@[simp] theorem State.noticeIf_canon (s : State) (r : Nat) (b : Nat) (n : Notice) (hc : SMap.wf resetWord s.regs = true) :
    SMap.wf resetWord (State.noticeIf s r b n).regs = true := by simp (maxDischargeDepth := 30) [State.noticeIf, apply_ite State.regs, apply_ite (SMap.wf resetWord), hc]
@[simp] theorem State.recoverAt_canon (s : State) (r : Nat) (hc : SMap.wf resetWord s.regs = true) :
    SMap.wf resetWord (State.recoverAt s r).regs = true := by simp (maxDischargeDepth := 30) [State.recoverAt, apply_ite State.regs, apply_ite (SMap.wf resetWord), hc]
@[simp] theorem State.severe_canon (s : State) (r : Nat) (x : Raise) (hc : SMap.wf resetWord s.regs = true) :
    SMap.wf resetWord (State.severe s r x).regs = true := by simp (maxDischargeDepth := 30) [State.severe, hc]
@[simp] theorem State.raiseIn_canon (s0 : State) (r : Nat) (x : Raise) (hc : SMap.wf resetWord s0.regs = true) :
    SMap.wf resetWord (State.raiseIn s0 r x).regs = true := by simp (maxDischargeDepth := 30) [State.raiseIn, apply_ite State.regs, apply_ite (SMap.wf resetWord), hc]
@[simp] theorem State.processRaise_canon (s : State) (x : Raise) (hc : SMap.wf resetWord s.regs = true) :
    SMap.wf resetWord (State.processRaise s x).regs = true := by unfold State.processRaise; split <;> simp (maxDischargeDepth := 30) [apply_ite State.regs, apply_ite (SMap.wf resetWord), hc]
@[simp] theorem State.deliverDropped_canon (s : State) (d : Die) (hc : SMap.wf resetWord s.regs = true) :
    SMap.wf resetWord (State.deliverDropped s d).regs = true := by simp (maxDischargeDepth := 30) [State.deliverDropped, apply_ite State.regs, apply_ite (SMap.wf resetWord), hc]
@[simp] theorem State.raisesBefore_canon (s : State) (x : Raise) (hc : SMap.wf resetWord s.regs = true) :
    SMap.wf resetWord (State.raisesBefore s x).regs = true := by simp +contextual (maxDischargeDepth := 30) [State.raisesBefore, apply_ite State.regs, apply_ite (SMap.wf resetWord), hc]
@[simp] theorem State.takeRaise_canon (s : State) (x : Raise) (hc : SMap.wf resetWord s.regs = true) :
    SMap.wf resetWord (State.takeRaise s x).regs = true := by simp (maxDischargeDepth := 30) [State.takeRaise, hc]
@[simp] theorem State.raiseFromDie_canon (s : State) (d : Die) (hc : SMap.wf resetWord s.regs = true) :
    SMap.wf resetWord (State.raiseFromDie s d).regs = true := by
  unfold State.raiseFromDie; dsimp only; repeat' split
  all_goals simp (maxDischargeDepth := 30) [hc]
@[simp] theorem State.raiseFromL_canon (s : State) (hc : SMap.wf resetWord s.regs = true) :
    SMap.wf resetWord (State.raiseFromL s).regs = true := by unfold State.raiseFromL; split <;> simp (maxDischargeDepth := 30) [hc]
@[simp] theorem State.raisesDue_canon (s : State) (hc : SMap.wf resetWord s.regs = true) :
    SMap.wf resetWord (State.raisesDue s).regs = true := by simp +contextual (maxDischargeDepth := 30) [State.raisesDue, apply_ite State.regs, apply_ite (SMap.wf resetWord), hc]
@[simp] theorem State.faultClearAt_canon (s0 : State) (r : Nat) (hc : SMap.wf resetWord s0.regs = true) :
    SMap.wf resetWord (State.faultClearAt s0 r).regs = true := by simp (maxDischargeDepth := 30) [State.faultClearAt, hc]
@[simp] theorem State.faultRead_canon (s : State) (t : Nat) (hc : SMap.wf resetWord s.regs = true) :
    SMap.wf resetWord (State.faultRead s t).regs = true := by unfold State.faultRead; split <;> simp (maxDischargeDepth := 30) [apply_ite State.regs, apply_ite (SMap.wf resetWord), hc]
@[simp] theorem State.faultNotices_canon (s : State) (t : Nat) (hc : SMap.wf resetWord s.regs = true) :
    SMap.wf resetWord (State.faultNotices s t).regs = true := by unfold State.faultNotices; split <;> simp (maxDischargeDepth := 30) [hc]
@[simp] theorem State.faultClear_canon (s : State) (t : Nat) (hc : SMap.wf resetWord s.regs = true) :
    SMap.wf resetWord (State.faultClear s t).regs = true := by unfold State.faultClear; split <;> simp (maxDischargeDepth := 30) [apply_ite State.regs, apply_ite (SMap.wf resetWord), hc]
@[simp] theorem State.faultInject_canon (s : State) (t : Nat) (hc : SMap.wf resetWord s.regs = true) :
    SMap.wf resetWord (State.faultInject s t).regs = true := by unfold State.faultInject; split <;> simp (maxDischargeDepth := 30) [apply_ite State.regs, apply_ite (SMap.wf resetWord), hc]
@[simp] theorem State.fltRestart_canon (s : State) (r : Nat) (hc : SMap.wf resetWord s.regs = true) :
    SMap.wf resetWord (State.fltRestart s r).regs = true := by simp (maxDischargeDepth := 30) [State.fltRestart, hc]
@[simp] theorem State.fltBoot_canon (s : State) (hc : SMap.wf resetWord s.regs = true) :
    SMap.wf resetWord (State.fltBoot s).regs = true := by simp +contextual (maxDischargeDepth := 30) [State.fltBoot, hc]
@[simp] theorem State.fltReset_canon (s : State) (r : Nat) (hc : SMap.wf resetWord s.regs = true) :
    SMap.wf resetWord (State.fltReset s r).regs = true := by simp (maxDischargeDepth := 30) [State.fltReset, hc]
@[simp] theorem State.rebaseBlobs_canon (s : State) (old : Tables) (hc : SMap.wf resetWord s.regs = true) :
    SMap.wf resetWord (State.rebaseBlobs s old).regs = true := by simp (maxDischargeDepth := 30) [State.rebaseBlobs, hc]
@[simp] theorem State.showPrograms_canon (s : State) (hc : SMap.wf resetWord s.regs = true) :
    SMap.wf resetWord (State.showPrograms s).regs = true := by simp +contextual (maxDischargeDepth := 30) [State.showPrograms, hc]
@[simp] theorem State.commitFaults_canon (s : State) (o : State) (hc : SMap.wf resetWord s.regs = true) :
    SMap.wf resetWord (State.commitFaults s o).regs = true := by simp +contextual (maxDischargeDepth := 30) [State.commitFaults, apply_ite State.regs, apply_ite (SMap.wf resetWord), hc]
@[simp] theorem State.commitCan_canon (o : State) (s : State) (c : Nat) (hc : SMap.wf resetWord s.regs = true) :
    SMap.wf resetWord (State.commitCan o s c).regs = true := by simp (maxDischargeDepth := 30) [State.commitCan, apply_ite State.regs, apply_ite (SMap.wf resetWord), hc]
@[simp] theorem State.commitLin_canon (o : State) (s : State) (n : Nat) (hc : SMap.wf resetWord s.regs = true) :
    SMap.wf resetWord (State.commitLin o s n).regs = true := by simp (maxDischargeDepth := 30) [State.commitLin, apply_ite State.regs, apply_ite (SMap.wf resetWord), hc]
@[simp] theorem State.commitEth_canon (o : State) (s : State) (p : Nat) (hc : SMap.wf resetWord s.regs = true) :
    SMap.wf resetWord (State.commitEth o s p).regs = true := by simp (maxDischargeDepth := 30) [State.commitEth, apply_ite State.regs, apply_ite (SMap.wf resetWord), hc]
@[simp] theorem State.commitCry_canon (o : State) (s : State) (hc : SMap.wf resetWord s.regs = true) :
    SMap.wf resetWord (State.commitCry o s).regs = true := by simp (maxDischargeDepth := 30) [State.commitCry, apply_ite State.regs, apply_ite (SMap.wf resetWord), hc]
@[simp] theorem State.commitAcc_canon (o : State) (s : State) (hc : SMap.wf resetWord s.regs = true) :
    SMap.wf resetWord (State.commitAcc o s).regs = true := by simp (maxDischargeDepth := 30) [State.commitAcc, apply_ite State.regs, apply_ite (SMap.wf resetWord), hc]
@[simp] theorem State.commitUnitsL_canon (s : State) (o : State) (hc : SMap.wf resetWord s.regs = true) :
    SMap.wf resetWord (State.commitUnitsL s o).regs = true := by simp +contextual (maxDischargeDepth := 30) [State.commitUnitsL, hc]
@[simp] theorem State.anchorHere_canon (s : State) (hc : SMap.wf resetWord s.regs = true) :
    SMap.wf resetWord (State.anchorHere s).regs = true := by simp (maxDischargeDepth := 30) [State.anchorHere, hc]
@[simp] theorem State.newT0_canon (s : State) (o : State) (b : Nat) (hc : SMap.wf resetWord s.regs = true) :
    SMap.wf resetWord (State.newT0 s o b).regs = true := by simp (maxDischargeDepth := 30) [State.newT0, hc]
@[simp] theorem State.lanternFrom_canon (s : State) (o : State) (hc : SMap.wf resetWord s.regs = true) :
    SMap.wf resetWord (State.lanternFrom s o).regs = true := by simp (maxDischargeDepth := 30) [State.lanternFrom, apply_ite State.regs, hc]
@[simp] theorem State.loadImage_canon (s : State) (regs : SMap W32) (img : Tables) (hc : SMap.wf resetWord s.regs = true) :
    SMap.wf resetWord (State.loadImage s regs img).regs = true := by simp (maxDischargeDepth := 30) [State.loadImage, apply_ite State.regs, apply_ite (SMap.wf resetWord), hc]
@[simp] theorem State.swapDone_canon (s : State) (op : CfgOp) (oldVersion : Nat) (b : Nat) (hc : SMap.wf resetWord s.regs = true) :
    SMap.wf resetWord (State.swapDone s op oldVersion b).regs = true := by simp (maxDischargeDepth := 30) [State.swapDone, hc]
@[simp] theorem State.activate_canon (s : State) (op : CfgOp) (b : Nat) (hc : SMap.wf resetWord s.regs = true) :
    SMap.wf resetWord (State.activate s op b).regs = true := by simp (maxDischargeDepth := 30) [State.activate, hc]
@[simp] theorem State.setEvSlot_canon (s : State) (k : Nat) (r : EvRec) (hc : SMap.wf resetWord s.regs = true) :
    SMap.wf resetWord (State.setEvSlot s k r).regs = true := by simp (maxDischargeDepth := 30) [State.setEvSlot, hc]
@[simp] theorem State.raiseCeil_canon (s : State) (hc : SMap.wf resetWord s.regs = true) :
    SMap.wf resetWord (State.raiseCeil s).regs = true := by simp +contextual (maxDischargeDepth := 30) [State.raiseCeil, apply_ite State.regs, apply_ite (SMap.wf resetWord), hc]
@[simp] theorem State.showOldest_canon (s : State) (hc : SMap.wf resetWord s.regs = true) :
    SMap.wf resetWord (State.showOldest s).regs = true := by simp (maxDischargeDepth := 30) [State.showOldest, hc]
@[simp] theorem State.newRecord_canon (s : State) (e : Evt) (hc : SMap.wf resetWord s.regs = true) :
    SMap.wf resetWord (State.newRecord s e).regs = true := by simp (maxDischargeDepth := 30) [State.newRecord, hc]
@[simp] theorem State.commitEvent_canon (s : State) (e : Evt) (hc : SMap.wf resetWord s.regs = true) :
    SMap.wf resetWord (State.commitEvent s e).regs = true := by unfold State.commitEvent; split <;> simp (maxDischargeDepth := 30) [apply_ite State.regs, hc]
@[simp] theorem State.eventRecord_canon (s : State) (hc : SMap.wf resetWord s.regs = true) :
    SMap.wf resetWord (State.eventRecord s).regs = true := by
  unfold State.eventRecord; dsimp only; repeat' split
  all_goals simp (maxDischargeDepth := 30) [hc]
@[simp] theorem State.repeatWriteback_canon (s : State) (n : Nat) (hc : SMap.wf resetWord s.regs = true) :
    SMap.wf resetWord (State.repeatWriteback s n).regs = true := by simp (maxDischargeDepth := 30) [State.repeatWriteback, apply_ite State.regs, hc]
@[simp] theorem State.opsecCeil_canon (s : State) (hc : SMap.wf resetWord s.regs = true) :
    SMap.wf resetWord (State.opsecCeil s).regs = true := by simp (maxDischargeDepth := 30) [State.opsecCeil, apply_ite State.regs, hc]
@[simp] theorem State.opsecTick_canon (s : State) (hc : SMap.wf resetWord s.regs = true) :
    SMap.wf resetWord (State.opsecTick s).regs = true := by simp (maxDischargeDepth := 30) [State.opsecTick, apply_ite State.regs, apply_ite (SMap.wf resetWord), hc]
@[simp] theorem State.evrBoot_canon (s : State) (hc : SMap.wf resetWord s.regs = true) :
    SMap.wf resetWord (State.evrBoot s).regs = true := by simp +contextual (maxDischargeDepth := 30) [State.evrBoot, hc]
@[simp] theorem State.evrEpoch_canon (s : State) (hc : SMap.wf resetWord s.regs = true) :
    SMap.wf resetWord (State.evrEpoch s).regs = true := by simp (maxDischargeDepth := 30) [State.evrEpoch, hc]
@[simp] theorem State.replay_canon (s : State) (hc : SMap.wf resetWord s.regs = true) :
    SMap.wf resetWord (State.replay s).regs = true := by simp +contextual (maxDischargeDepth := 30) [State.replay, apply_ite State.regs, apply_ite (SMap.wf resetWord), hc]
@[simp] theorem State.evrPark_canon (s : State) (hc : SMap.wf resetWord s.regs = true) :
    SMap.wf resetWord (State.evrPark s).regs = true := by simp (maxDischargeDepth := 30) [State.evrPark, hc]
@[simp] theorem State.evrRead_canon (s : State) (t : Nat) (hc : SMap.wf resetWord s.regs = true) :
    SMap.wf resetWord (State.evrRead s t).regs = true := by unfold State.evrRead; split <;> simp (maxDischargeDepth := 30) [apply_ite State.regs, apply_ite (SMap.wf resetWord), hc]
@[simp] theorem State.evrMark_canon (s : State) (t : Nat) (hc : SMap.wf resetWord s.regs = true) :
    SMap.wf resetWord (State.evrMark s t).regs = true := by unfold State.evrMark; split <;> simp (maxDischargeDepth := 30) [apply_ite State.regs, apply_ite (SMap.wf resetWord), hc]
@[simp] theorem State.evrClear_canon (s : State) (t : Nat) (hc : SMap.wf resetWord s.regs = true) :
    SMap.wf resetWord (State.evrClear s t).regs = true := by unfold State.evrClear; split <;> simp (maxDischargeDepth := 30) [apply_ite State.regs, apply_ite (SMap.wf resetWord), hc]
@[simp] theorem State.powerGo_canon (s : State) (st : Nat) (t : Nat) (hc : SMap.wf resetWord s.regs = true) :
    SMap.wf resetWord (State.powerGo s st t).regs = true := by simp (maxDischargeDepth := 30) [State.powerGo, apply_ite State.regs, apply_ite (SMap.wf resetWord), hc]
@[simp] theorem State.voteHost_canon (s : State) (park : Bool) (hc : SMap.wf resetWord s.regs = true) :
    SMap.wf resetWord (State.voteHost s park).regs = true := by simp (maxDischargeDepth := 30) [State.voteHost, hc]
@[simp] theorem State.pwrVote_canon (s : State) (t : Nat) (hc : SMap.wf resetWord s.regs = true) :
    SMap.wf resetWord (State.pwrVote s t).regs = true := by unfold State.pwrVote; split <;> simp (maxDischargeDepth := 30) [apply_ite State.regs, apply_ite (SMap.wf resetWord), hc]
@[simp] theorem State.pwrTimer_canon (s : State) (t : Nat) (hc : SMap.wf resetWord s.regs = true) :
    SMap.wf resetWord (State.pwrTimer s t).regs = true := by unfold State.pwrTimer; split <;> simp (maxDischargeDepth := 30) [hc]
@[simp] theorem State.showVote_canon (s : State) (hc : SMap.wf resetWord s.regs = true) :
    SMap.wf resetWord (State.showVote s).regs = true := by simp (maxDischargeDepth := 30) [State.showVote, hc]
@[simp] theorem State.sleepDie_canon (s : State) (d : Die) (hc : SMap.wf resetWord s.regs = true) :
    SMap.wf resetWord (State.sleepDie s d).regs = true := by simp (maxDischargeDepth := 30) [State.sleepDie, apply_ite State.regs, apply_ite (SMap.wf resetWord), hc]
@[simp] theorem State.sleepAll_canon (s : State) (hc : SMap.wf resetWord s.regs = true) :
    SMap.wf resetWord (State.sleepAll s).regs = true := by simp +contextual (maxDischargeDepth := 30) [State.sleepAll, hc]
@[simp] theorem State.limpEntry_canon (s : State) (d : Die) (hc : SMap.wf resetWord s.regs = true) :
    SMap.wf resetWord (State.limpEntry s d).regs = true := by simp (maxDischargeDepth := 30) [State.limpEntry, apply_ite State.regs, apply_ite (SMap.wf resetWord), hc]
@[simp] theorem State.limpLeft_canon (s : State) (t : Nat) (hc : SMap.wf resetWord s.regs = true) :
    SMap.wf resetWord (State.limpLeft s t).regs = true := by simp (maxDischargeDepth := 30) [State.limpLeft, apply_ite State.regs, apply_ite (SMap.wf resetWord), hc]
@[simp] theorem State.busesCut_canon (s : State) (hc : SMap.wf resetWord s.regs = true) :
    SMap.wf resetWord (State.busesCut s).regs = true := by simp +contextual (maxDischargeDepth := 30) [State.busesCut, apply_ite State.regs, apply_ite (SMap.wf resetWord), hc]
@[simp] theorem State.parkOp_canon (s : State) (t : Nat) (o : HostOp) (hc : SMap.wf resetWord s.regs = true) :
    SMap.wf resetWord (State.parkOp s t o).regs = true := by simp (maxDischargeDepth := 30) [State.parkOp, apply_ite State.regs, apply_ite (SMap.wf resetWord), hc]
@[simp] theorem State.flushEvents_canon (s : State) (hc : SMap.wf resetWord s.regs = true) :
    SMap.wf resetWord (State.flushEvents s).regs = true := by simp +contextual (maxDischargeDepth := 30) [State.flushEvents, hc]
@[simp] theorem State.parkL_canon (s : State) (b : Nat) (hc : SMap.wf resetWord s.regs = true) :
    SMap.wf resetWord (State.parkL s b).regs = true := by simp +contextual (maxDischargeDepth := 30) [State.parkL, apply_ite State.regs, apply_ite (SMap.wf resetWord), hc]
@[simp] theorem State.lastBoundary_canon (s : State) (b : Nat) (forced : Bool) (hc : SMap.wf resetWord s.regs = true) :
    SMap.wf resetWord (State.lastBoundary s b forced).regs = true := by simp (maxDischargeDepth := 30) [State.lastBoundary, hc]
@[simp] theorem State.shutdownTimeout_canon (s : State) (hc : SMap.wf resetWord s.regs = true) :
    SMap.wf resetWord (State.shutdownTimeout s).regs = true := by simp (maxDischargeDepth := 30) [State.shutdownTimeout, apply_ite State.regs, apply_ite (SMap.wf resetWord), hc]
@[simp] theorem State.voteBoundary_canon (s : State) (b : Nat) (hc : SMap.wf resetWord s.regs = true) :
    SMap.wf resetWord (State.voteBoundary s b).regs = true := by simp (maxDischargeDepth := 30) [State.voteBoundary, apply_ite State.regs, apply_ite (SMap.wf resetWord), hc]

end Sys2Proof.Machine
end

