-- ==== Sys2Proof/Laws/CanonFrames.lean ====
section
/-! SUPPORT. The register file stays canonical under the operations of frames. -/

namespace Sys2Proof.Machine

@[simp] theorem State.runFaults_canon (s : State) (t : Nat) (hc : SMap.wf resetWord s.regs = true) :
    SMap.wf resetWord (State.runFaults s t).regs = true := by simp +contextual (maxDischargeDepth := 30) [State.runFaults, apply_ite State.regs, apply_ite (SMap.wf resetWord), hc]
@[simp] theorem State.enterRun_canon (s : State) (t : Nat) (hc : SMap.wf resetWord s.regs = true) :
    SMap.wf resetWord (State.enterRun s t).regs = true := by simp (maxDischargeDepth := 30) [State.enterRun, apply_ite State.regs, apply_ite (SMap.wf resetWord), hc]
@[simp] theorem State.frameBreaks_canon (s : State) (b : Nat) (hc : SMap.wf resetWord s.regs = true) :
    SMap.wf resetWord (State.frameBreaks s b).regs = true := by simp (maxDischargeDepth := 30) [State.frameBreaks, apply_ite State.regs, apply_ite (SMap.wf resetWord), hc]
@[simp] theorem State.beginFrame_canon (s : State) (b : Nat) (f : Nat) (hc : SMap.wf resetWord s.regs = true) :
    SMap.wf resetWord (State.beginFrame s b f).regs = true := by simp (maxDischargeDepth := 30) [State.beginFrame, hc]
@[simp] theorem State.noAnchor_canon (s : State) (hc : SMap.wf resetWord s.regs = true) :
    SMap.wf resetWord (State.noAnchor s).regs = true := by simp (maxDischargeDepth := 30) [State.noAnchor, hc]
@[simp] theorem State.frameZero_canon (s : State) (b : Nat) (hc : SMap.wf resetWord s.regs = true) :
    SMap.wf resetWord (State.frameZero s b).regs = true := by simp (maxDischargeDepth := 30) [State.frameZero, apply_ite State.regs, apply_ite (SMap.wf resetWord), hc]
@[simp] theorem State.frameZeroStart_canon (s : State) (hc : SMap.wf resetWord s.regs = true) :
    SMap.wf resetWord (State.frameZeroStart s).regs = true := by simp (maxDischargeDepth := 30) [State.frameZeroStart, apply_ite State.regs, apply_ite (SMap.wf resetWord), hc]
@[simp] theorem State.frameDone_canon (s : State) (hc : SMap.wf resetWord s.regs = true) :
    SMap.wf resetWord (State.frameDone s).regs = true := by simp (maxDischargeDepth := 30) [State.frameDone, apply_ite State.regs, apply_ite (SMap.wf resetWord), hc]
@[simp] theorem State.stagedCommit_canon (b : Nat) (s : State) (x : Nat × W64 × Nat × List Byte) (hc : SMap.wf resetWord s.regs = true) :
    SMap.wf resetWord (State.stagedCommit b s x).regs = true := by simp (maxDischargeDepth := 30) [State.stagedCommit, hc]
@[simp] theorem State.commitStagedAll_canon (s : State) (b : Nat) (hc : SMap.wf resetWord s.regs = true) :
    SMap.wf resetWord (State.commitStagedAll s b).regs = true := by unfold State.commitStagedAll; split <;> simp +contextual (maxDischargeDepth := 30) [hc]
@[simp] theorem State.activateDue_canon (s : State) (b : Nat) (hc : SMap.wf resetWord s.regs = true) :
    SMap.wf resetWord (s.activateDue b).2.regs = true := by
  unfold State.activateDue; repeat' split
  all_goals simp (maxDischargeDepth := 30) [hc]
@[simp] theorem State.nextFrame_canon (s : State) (b : Nat) (hc : SMap.wf resetWord s.regs = true) :
    SMap.wf resetWord (State.nextFrame s b).regs = true := by simp (maxDischargeDepth := 30) [State.nextFrame, hc]
@[simp] theorem State.endFrames_canon (s : State) (b : Nat) (hc : SMap.wf resetWord s.regs = true) :
    SMap.wf resetWord (State.endFrames s b).regs = true := by simp (maxDischargeDepth := 30) [State.endFrames, hc]
@[simp] theorem State.frameBoundary_canon (s : State) (hc : SMap.wf resetWord s.regs = true) :
    SMap.wf resetWord (State.frameBoundary s).regs = true := by simp (maxDischargeDepth := 30) [State.frameBoundary, apply_ite State.regs, apply_ite (SMap.wf resetWord), hc]
@[simp] theorem State.encSend_canon (s : State) (k : Nat) (r : EncRec) (p : TxPdu) (byChange : Bool) (hc : SMap.wf resetWord s.regs = true) :
    SMap.wf resetWord (State.encSend s k r p byChange).regs = true := by unfold State.encSend; split <;> simp (maxDischargeDepth := 30) [hc]
@[simp] theorem State.encStep_canon (s : State) (x : EncRec × Nat) (hc : SMap.wf resetWord s.regs = true) :
    SMap.wf resetWord (State.encStep s x).regs = true := by
  unfold State.encStep; dsimp only
  have hk := State.buildRec_canon s x.2 x.1 hc
  split
  · split
    · rename_i h; rw [h] at hk; exact hk
    · rename_i h; rw [h] at hk; simp +contextual (maxDischargeDepth := 30) [hk]
  · simp +contextual (maxDischargeDepth := 30) [hc]
@[simp] theorem State.takeSnap_canon (s : State) (hc : SMap.wf resetWord s.regs = true) :
    SMap.wf resetWord (State.takeSnap s).regs = true := by
  unfold State.takeSnap; (try dsimp only); repeat' split
  all_goals first
    | (simp +contextual (maxDischargeDepth := 30) [hc, apply_ite State.regs, apply_ite (SMap.wf resetWord)]; done)
    | (refine foldl_canon _ (fun s x hc => ?_) _ _ ?_ <;> (try dsimp only) <;> (repeat' split) <;>
        simp +contextual (maxDischargeDepth := 30) [hc])
@[simp] theorem State.snapshotSeal_canon (s : State) (ready : List Bool) (hc : SMap.wf resetWord s.regs = true) :
    SMap.wf resetWord (State.snapshotSeal s ready).regs = true := by simp +contextual (maxDischargeDepth := 30) [State.snapshotSeal, apply_ite State.regs, apply_ite (SMap.wf resetWord), hc]
@[simp] theorem State.setBankSt_canon (s : State) (k : Nat) (st : Nat) (hc : SMap.wf resetWord s.regs = true) :
    SMap.wf resetWord (State.setBankSt s k st).regs = true := by simp (maxDischargeDepth := 30) [State.setBankSt, hc]
@[simp] theorem State.selectBank_canon (s : State) (op : CfgOp) (hc : SMap.wf resetWord s.regs = true) :
    SMap.wf resetWord (State.selectBank s op).regs = true := by simp (maxDischargeDepth := 30) [State.selectBank, apply_ite State.regs, apply_ite (SMap.wf resetWord), hc]
@[simp] theorem State.selectDue_canon (s : State) (hc : SMap.wf resetWord s.regs = true) :
    SMap.wf resetWord (s.selectDue).2.regs = true := by
  unfold State.selectDue; repeat' split
  all_goals simp (maxDischargeDepth := 30) [hc]
@[simp] theorem State.closeDie_canon (b : Nat) (act : Bool) (park : Bool) (s : State) (d : Die) (hc : SMap.wf resetWord s.regs = true) :
    SMap.wf resetWord (State.closeDie b act park s d).regs = true := by simp +contextual (maxDischargeDepth := 30) [State.closeDie, apply_ite State.regs, apply_ite (SMap.wf resetWord), hc]
@[simp] theorem State.stagingClose_canon (s : State) (hc : SMap.wf resetWord s.regs = true) :
    SMap.wf resetWord (State.stagingClose s).regs = true := by simp +contextual (maxDischargeDepth := 30) [State.stagingClose, apply_ite State.regs, apply_ite (SMap.wf resetWord), hc]
@[simp] theorem State.downLate_canon (s : State) (d : Die) (b : Nat) (hc : SMap.wf resetWord s.regs = true) :
    SMap.wf resetWord (State.downLate s d b).regs = true := by simp (maxDischargeDepth := 30) [State.downLate, apply_ite State.regs, apply_ite (SMap.wf resetWord), hc]
@[simp] theorem State.holdWrite_canon (s : State) (d : Die) (w : DieWrite) (b : Nat) (hc : SMap.wf resetWord s.regs = true) :
    SMap.wf resetWord (State.holdWrite s d w b).regs = true := by simp (maxDischargeDepth := 30) [State.holdWrite, hc]
@[simp] theorem State.stagedArrives_canon (s : State) (d : Die) (hc : SMap.wf resetWord s.regs = true) :
    SMap.wf resetWord (State.stagedArrives s d).regs = true := by
  unfold State.stagedArrives; split
  · rename_i h; have := State.popDown_canon _ _ _ _ h
    (try dsimp only); repeat' split
    all_goals simp (maxDischargeDepth := 30) [this, hc]
  · simp (maxDischargeDepth := 30) [hc]
@[simp] theorem State.closeLate_canon (s : State) (d : Die) (c : CloseMsg) (hc : SMap.wf resetWord s.regs = true) :
    SMap.wf resetWord (State.closeLate s d c).regs = true := by simp (maxDischargeDepth := 30) [State.closeLate, hc]
@[simp] theorem State.closeArrives_canon (s : State) (d : Die) (hc : SMap.wf resetWord s.regs = true) :
    SMap.wf resetWord (State.closeArrives s d).regs = true := by
  unfold State.closeArrives; split
  · rename_i h; have := State.popDown_canon _ _ _ _ h
    (try dsimp only); repeat' split
    all_goals simp (maxDischargeDepth := 30) [this, hc]
  · simp (maxDischargeDepth := 30) [hc]
@[simp] theorem State.applyWrites_canon (s : State) (ws : List DieWrite) (t : Nat) (hc : SMap.wf resetWord s.regs = true) :
    SMap.wf resetWord (State.applyWrites s ws t).regs = true := by simp +contextual (maxDischargeDepth := 30) [State.applyWrites, hc]
@[simp] theorem State.leaveLimp_canon (s : State) (d : Die) (t : Nat) (hc : SMap.wf resetWord s.regs = true) :
    SMap.wf resetWord (State.leaveLimp s d t).regs = true := by simp (maxDischargeDepth := 30) [State.leaveLimp, apply_ite State.regs, apply_ite (SMap.wf resetWord), hc]
@[simp] theorem State.applyLate_canon (s : State) (d : Die) (t : Nat) (hc : SMap.wf resetWord s.regs = true) :
    SMap.wf resetWord (State.applyLate s d t).regs = true := by simp (maxDischargeDepth := 30) [State.applyLate, hc]
@[simp] theorem State.applyOwn_canon (s : State) (d : Die) (c : CloseMsg) (hc : SMap.wf resetWord s.regs = true) :
    SMap.wf resetWord (State.applyOwn s d c).regs = true := by simp (maxDischargeDepth := 30) [State.applyOwn, apply_ite State.regs, apply_ite (SMap.wf resetWord), hc]
@[simp] theorem State.takePending_canon (s : State) (d : Die) (t : Nat) (hc : SMap.wf resetWord s.regs = true) :
    SMap.wf resetWord (State.takePending s d t).regs = true := by unfold State.takePending; split <;> simp (maxDischargeDepth := 30) [hc]
@[simp] theorem State.lateActBreak_canon (s : State) (b0 : Nat) (t : Nat) (hc : SMap.wf resetWord s.regs = true) :
    SMap.wf resetWord (State.lateActBreak s b0 t).regs = true := by simp (maxDischargeDepth := 30) [State.lateActBreak, hc]
@[simp] theorem State.paramsAt_canon (s : State) (d : Die) (act : Bool) (t : Nat) (hc : SMap.wf resetWord s.regs = true) :
    SMap.wf resetWord (State.paramsAt s d act t).regs = true := by unfold State.paramsAt; split <;> simp (maxDischargeDepth := 30) [apply_ite State.regs, apply_ite (SMap.wf resetWord), hc]
@[simp] theorem State.slotMotor_canon (s : State) (o : Motor) (m : Nat) (k : Nat) (hc : SMap.wf resetWord s.regs = true) :
    SMap.wf resetWord (State.slotMotor s o m k).regs = true := by simp (maxDischargeDepth := 30) [State.slotMotor, hc]
@[simp] theorem State.edgeSlots_canon (s : State) (o : State) (d : Die) (t : Nat) (hc : SMap.wf resetWord s.regs = true) :
    SMap.wf resetWord (State.edgeSlots s o d t).regs = true := by
  unfold State.edgeSlots; (try dsimp only); repeat' split
  all_goals simp +contextual (maxDischargeDepth := 30) [hc]
@[simp] theorem State.seqsGo_canon (s : State) (d : Die) (hc : SMap.wf resetWord s.regs = true) :
    SMap.wf resetWord (State.seqsGo s d).regs = true := by unfold State.seqsGo; split <;> simp +contextual (maxDischargeDepth := 30) [hc]
@[simp] theorem State.parkUnits_canon (s : State) (d : Die) (t : Nat) (hc : SMap.wf resetWord s.regs = true) :
    SMap.wf resetWord (State.parkUnits s d t).regs = true := by
  unfold State.parkUnits; (try dsimp only); repeat' split
  all_goals simp +contextual (maxDischargeDepth := 30) [hc, apply_ite State.regs, apply_ite (SMap.wf resetWord)]
@[simp] theorem State.boundaryReached_canon (s : State) (d : Die) (c : CloseMsg) (hc : SMap.wf resetWord s.regs = true) :
    SMap.wf resetWord (State.boundaryReached s d c).regs = true := by simp (maxDischargeDepth := 30) [State.boundaryReached, hc]
@[simp] theorem State.pholdAll_canon (s : State) (d : Die) (t : Nat) (hc : SMap.wf resetWord s.regs = true) :
    SMap.wf resetWord (State.pholdAll s d t).regs = true := by simp +contextual (maxDischargeDepth := 30) [State.pholdAll, apply_ite State.regs, apply_ite (SMap.wf resetWord), hc]
@[simp] theorem State.boundaryAwake_canon (s : State) (d : Die) (c : CloseMsg) (hc : SMap.wf resetWord s.regs = true) :
    SMap.wf resetWord (State.boundaryAwake s d c).regs = true := by simp (maxDischargeDepth := 30) [State.boundaryAwake, apply_ite State.regs, apply_ite (SMap.wf resetWord), hc]
@[simp] theorem State.activateOnly_canon (s : State) (d : Die) (c : CloseMsg) (hc : SMap.wf resetWord s.regs = true) :
    SMap.wf resetWord (State.activateOnly s d c).regs = true := by simp (maxDischargeDepth := 30) [State.activateOnly, apply_ite State.regs, apply_ite (SMap.wf resetWord), hc]
@[simp] theorem State.dieBoundary_canon (s : State) (d : Die) (hc : SMap.wf resetWord s.regs = true) :
    SMap.wf resetWord (State.dieBoundary s d).regs = true := by unfold State.dieBoundary; split <;> simp (maxDischargeDepth := 30) [apply_ite State.regs, apply_ite (SMap.wf resetWord), hc]
@[simp] theorem State.candidate_canon (s : State) (regs : SMap W32) (t : Tables) (hc : SMap.wf resetWord s.regs = true) :
    SMap.wf resetWord (State.candidate s regs t).regs = true := by simp (maxDischargeDepth := 30) [State.candidate, hc]
@[simp] theorem State.setNodes_canon (s : State) (d : Die) (tc : Nat → Rat) (tb : Nat → Rat) (hc : SMap.wf resetWord s.regs = true) :
    SMap.wf resetWord (State.setNodes s d tc tb).regs = true := by simp +contextual (maxDischargeDepth := 30) [State.setNodes, apply_ite State.regs, apply_ite (SMap.wf resetWord), hc]
@[simp] theorem State.startNodes_canon (s : State) (d : Die) (hc : SMap.wf resetWord s.regs = true) :
    SMap.wf resetWord (State.startNodes s d).regs = true := by simp +contextual (maxDischargeDepth := 30) [State.startNodes, apply_ite State.regs, apply_ite (SMap.wf resetWord), hc]
@[simp] theorem State.prevWord_canon (s : State) (w : DieWrite) (hc : SMap.wf resetWord s.regs = true) :
    SMap.wf resetWord (State.prevWord s w).regs = true := by unfold State.prevWord; split <;> simp (maxDischargeDepth := 30) [hc]
@[simp] theorem State.wordsAgain_canon (s : State) (d : Die) (hc : SMap.wf resetWord s.regs = true) :
    SMap.wf resetWord (State.wordsAgain s d).regs = true := by simp +contextual (maxDischargeDepth := 30) [State.wordsAgain, hc]
@[simp] theorem State.dieBegins_canon (s : State) (d : Die) (regs : SMap W32) (t : Nat) (hc : SMap.wf resetWord s.regs = true) :
    SMap.wf resetWord (State.dieBegins s d regs t).regs = true := by simp (maxDischargeDepth := 30) [State.dieBegins, hc]
@[simp] theorem State.takeParams_canon (s : State) (d : Die) (regs : SMap W32) (hc : SMap.wf resetWord s.regs = true) :
    SMap.wf resetWord (State.takeParams s d regs).regs = true := by simp (maxDischargeDepth := 30) [State.takeParams, apply_ite State.regs, apply_ite (SMap.wf resetWord), hc]

end Sys2Proof.Machine
end

