-- ==== Sys2Proof/Laws/CanonBanks.lean ====
section
/-! SUPPORT. The register file stays canonical under the operations of the banks. -/

namespace Sys2Proof.Machine

@[simp] theorem State.setBankStep_canon (s : State) (k : Nat) (n : Nat) (hc : SMap.wf resetWord s.regs = true) :
    SMap.wf resetWord (State.setBankStep s k n).regs = true := by simp (maxDischargeDepth := 30) [State.setBankStep, hc]
@[simp] theorem State.bankBlank_canon (s : State) (k : Nat) (hc : SMap.wf resetWord s.regs = true) :
    SMap.wf resetWord (State.bankBlank s k).regs = true := by simp (maxDischargeDepth := 30) [State.bankBlank, hc]
@[simp] theorem State.bankShow_canon (s : State) (k : Nat) (hc : SMap.wf resetWord s.regs = true) :
    SMap.wf resetWord (State.bankShow s k).regs = true := by simp (maxDischargeDepth := 30) [State.bankShow, hc]
@[simp] theorem State.bankInvalid_canon (s : State) (k : Nat) (hc : SMap.wf resetWord s.regs = true) :
    SMap.wf resetWord (State.bankInvalid s k).regs = true := by simp (maxDischargeDepth := 30) [State.bankInvalid, hc]
@[simp] theorem State.setBankBytes_canon (s : State) (k : Nat) (m : SMap Byte) (hc : SMap.wf resetWord s.regs = true) :
    SMap.wf resetWord (State.setBankBytes s k m).regs = true := by simp (maxDischargeDepth := 30) [State.setBankBytes, hc]
@[simp] theorem State.cfgLast_canon (s : State) (status : Nat) (reason : Nat) (step : Nat) (opc : Nat) (hc : SMap.wf resetWord s.regs = true) :
    SMap.wf resetWord (State.cfgLast s status reason step opc).regs = true := by simp (maxDischargeDepth := 30) [State.cfgLast, hc]
@[simp] theorem State.cfgDone_canon (s : State) (t : Nat) (opc : Nat) (status : Nat) (reason : Nat) (step : Nat) (hc : SMap.wf resetWord s.regs = true) :
    SMap.wf resetWord (State.cfgDone s t opc status reason step).regs = true := by simp (maxDischargeDepth := 30) [State.cfgDone, hc]
@[simp] theorem State.cfgOp_canon (s : State) (t opc : Nat) (good : Bool) (own : Option (Nat × Nat)) (f : State)
    (hd : SMap.wf resetWord f.regs = true) (hc : SMap.wf resetWord s.regs = true) :
    SMap.wf resetWord (s.cfgOp t opc good own f).regs = true := by
  unfold State.cfgOp; repeat' split
  all_goals simp (maxDischargeDepth := 30) [hd, hc]
@[simp] theorem State.cfgStore_canon (s : State) (t : Nat) (off : Nat) (bs : List Byte) (hc : SMap.wf resetWord s.regs = true) :
    SMap.wf resetWord (State.cfgStore s t off bs).regs = true := by simp (maxDischargeDepth := 30) [State.cfgStore, hc]
@[simp] theorem State.cfgWrite_canon (s : State) (t : Nat) (x : ReadResult) (hc : SMap.wf resetWord s.regs = true) :
    SMap.wf resetWord (State.cfgWrite s t x).regs = true := by
  unfold State.cfgWrite; (try dsimp only); repeat' split
  all_goals simp +contextual (maxDischargeDepth := 30) [hc]
@[simp] theorem State.cfgFail_canon (s : State) (opc : Nat) (k : Nat) (step : Nat) (status : Nat) (reason : Nat) (hc : SMap.wf resetWord s.regs = true) :
    SMap.wf resetWord (State.cfgFail s opc k step status reason).regs = true := by simp (maxDischargeDepth := 30) [State.cfgFail, apply_ite State.regs, apply_ite (SMap.wf resetWord), hc]
@[simp] theorem State.sendParams_canon (regs : SMap W32) (img : Tables) (s : State) (d : Die) (hc : SMap.wf resetWord s.regs = true) :
    SMap.wf resetWord (State.sendParams regs img s d).regs = true := by simp (maxDischargeDepth := 30) [State.sendParams, apply_ite State.regs, apply_ite (SMap.wf resetWord), hc]
@[simp] theorem State.startSwap_canon (s : State) (t : Nat) (opc : Nat) (k : Nat) (force : Bool) (regs : SMap W32) (img : Tables) (hc : SMap.wf resetWord s.regs = true) :
    SMap.wf resetWord (State.startSwap s t opc k force regs img).regs = true := by simp +contextual (maxDischargeDepth := 30) [State.startSwap, apply_ite State.regs, apply_ite (SMap.wf resetWord), hc]
@[simp] theorem State.runCommit_canon (s : State) (t : Nat) (opc : Nat) (k : Nat) (force : Bool) (bad : Option (Nat × Nat × Nat)) (hc : SMap.wf resetWord s.regs = true) :
    SMap.wf resetWord (State.runCommit s t opc k force bad).regs = true := by unfold State.runCommit; split <;> simp (maxDischargeDepth := 30) [hc]
@[simp] theorem State.cfgCommit_canon (s : State) (t : Nat) (hc : SMap.wf resetWord s.regs = true) :
    SMap.wf resetWord (State.cfgCommit s t).regs = true := by
  unfold State.cfgCommit; (try dsimp only); repeat' split
  all_goals simp +contextual (maxDischargeDepth := 30) [hc]
@[simp] theorem State.cfgRollback_canon (s : State) (t : Nat) (hc : SMap.wf resetWord s.regs = true) :
    SMap.wf resetWord (State.cfgRollback s t).regs = true := by
  unfold State.cfgRollback; (try dsimp only); repeat' split
  all_goals simp +contextual (maxDischargeDepth := 30) [hc]
@[simp] theorem State.swapTimeout_canon (s : State) (hc : SMap.wf resetWord s.regs = true) :
    SMap.wf resetWord (State.swapTimeout s).regs = true := by unfold State.swapTimeout; split <;> simp (maxDischargeDepth := 30) [apply_ite State.regs, apply_ite (SMap.wf resetWord), hc]
@[simp] theorem State.ack_canon (s : State) (d : Die) (swap : Bool) (hc : SMap.wf resetWord s.regs = true) :
    SMap.wf resetWord (State.ack s d swap).regs = true := by simp (maxDischargeDepth := 30) [State.ack, hc]
@[simp] theorem State.dieParamsReceived_canon (s : State) (d : Die) (hc : SMap.wf resetWord s.regs = true) :
    SMap.wf resetWord (State.dieParamsReceived s d).regs = true := by
  unfold State.dieParamsReceived; split
  · rename_i h; have := State.popDown_canon _ _ _ _ h
    (try dsimp only); repeat' split
    all_goals simp (maxDischargeDepth := 30) [this, hc]
  · simp (maxDischargeDepth := 30) [hc]
@[simp] theorem State.dieParamAck_canon (s : State) (d : Die) (hc : SMap.wf resetWord s.regs = true) :
    SMap.wf resetWord (State.dieParamAck s d).regs = true := by
  unfold State.dieParamAck; (try dsimp only); repeat' split
  all_goals simp +contextual (maxDischargeDepth := 30) [hc, apply_ite State.regs, apply_ite (SMap.wf resetWord)]
@[simp] theorem State.cfgStatus_canon (s : State) (t : Nat) (hc : SMap.wf resetWord s.regs = true) :
    SMap.wf resetWord (State.cfgStatus s t).regs = true := by unfold State.cfgStatus; split <;> simp (maxDischargeDepth := 30) [hc]
@[simp] theorem State.raiseMin_canon (s : State) (t : Nat) (v : Nat) (hc : SMap.wf resetWord s.regs = true) :
    SMap.wf resetWord (State.raiseMin s t v).regs = true := by simp (maxDischargeDepth := 30) [State.raiseMin, apply_ite State.regs, apply_ite (SMap.wf resetWord), hc]
@[simp] theorem State.cfgRaisemin_canon (s : State) (t : Nat) (hc : SMap.wf resetWord s.regs = true) :
    SMap.wf resetWord (State.cfgRaisemin s t).regs = true := by unfold State.cfgRaisemin; split <;> simp (maxDischargeDepth := 30) [hc]
@[simp] theorem State.lifeNext_canon (s : State) (t : Nat) (hc : SMap.wf resetWord s.regs = true) :
    SMap.wf resetWord (State.lifeNext s t).regs = true := by simp (maxDischargeDepth := 30) [State.lifeNext, apply_ite State.regs, apply_ite (SMap.wf resetWord), hc]
@[simp] theorem State.lifecycle_canon (s : State) (t : Nat) (hc : SMap.wf resetWord s.regs = true) :
    SMap.wf resetWord (State.lifecycle s t).regs = true := by unfold State.lifecycle; split <;> simp (maxDischargeDepth := 30) [hc]
@[simp] theorem State.provision_canon (s : State) (t : Nat) (r : Nat) (key : List Byte) (hc : SMap.wf resetWord s.regs = true) :
    SMap.wf resetWord (State.provision s t r key).regs = true := by simp +contextual (maxDischargeDepth := 30) [State.provision, apply_ite State.regs, apply_ite (SMap.wf resetWord), hc]
@[simp] theorem State.provisionWith_canon (s : State) (t : Nat) (r : Nat) (kslot : Nat) (b : List Byte) (hc : SMap.wf resetWord s.regs = true) :
    SMap.wf resetWord (State.provisionWith s t r kslot b).regs = true := by
  unfold State.provisionWith; (try dsimp only); repeat' split
  all_goals simp +contextual (maxDischargeDepth := 30) [hc, apply_ite State.regs, apply_ite (SMap.wf resetWord)]
@[simp] theorem State.rootProvision_canon (s : State) (t : Nat) (x : ReadResult) (hc : SMap.wf resetWord s.regs = true) :
    SMap.wf resetWord (State.rootProvision s t x).regs = true := by
  unfold State.rootProvision; (try dsimp only); repeat' split
  all_goals simp +contextual (maxDischargeDepth := 30) [hc, apply_ite State.regs, apply_ite (SMap.wf resetWord)]
@[simp] theorem State.debugUnlock_canon (s : State) (t : Nat) (hc : SMap.wf resetWord s.regs = true) :
    SMap.wf resetWord (State.debugUnlock s t).regs = true := by unfold State.debugUnlock; split <;> simp (maxDischargeDepth := 30) [hc]
@[simp] theorem State.testMode_canon (s : State) (t : Nat) (hc : SMap.wf resetWord s.regs = true) :
    SMap.wf resetWord (State.testMode s t).regs = true := by unfold State.testMode; split <;> simp (maxDischargeDepth := 30) [apply_ite State.regs, apply_ite (SMap.wf resetWord), hc]
@[simp] theorem State.bankInterrupted_canon (s : State) (k : Nat) (hc : SMap.wf resetWord s.regs = true) :
    SMap.wf resetWord (State.bankInterrupted s k).regs = true := by simp (maxDischargeDepth := 30) [State.bankInterrupted, apply_ite State.regs, apply_ite (SMap.wf resetWord), hc]
@[simp] theorem State.bankCheck_canon (s : State) (hc : SMap.wf resetWord s.regs = true) :
    SMap.wf resetWord (State.bankCheck s).regs = true := by simp (maxDischargeDepth := 30) [State.bankCheck, apply_ite State.regs, apply_ite (SMap.wf resetWord), hc]
@[simp] theorem State.banksBoot_canon (s : State) (hc : SMap.wf resetWord s.regs = true) :
    SMap.wf resetWord (State.banksBoot s).regs = true := by simp (maxDischargeDepth := 30) [State.banksBoot, hc]
@[simp] theorem State.imageTakes_canon (s : State) (off : Nat) (v : W32) (hc : SMap.wf resetWord s.regs = true) :
    SMap.wf resetWord (State.imageTakes s off v).regs = true := by simp (maxDischargeDepth := 30) [State.imageTakes, hc]
@[simp] theorem State.writeRwl_canon (s0 : State) (off : Nat) (v : W32) (hc : SMap.wf resetWord s0.regs = true) :
    SMap.wf resetWord (State.writeRwl s0 off v).regs = true := by unfold State.writeRwl; split <;> simp (maxDischargeDepth := 30) [apply_ite State.regs, apply_ite (SMap.wf resetWord), hc]
@[simp] theorem State.writeFields_canon (s : State) (off : Nat) (r : RegRow) (v : W32) (hc : SMap.wf resetWord s.regs = true) :
    SMap.wf resetWord (State.writeFields s off r v).regs = true := by simp (maxDischargeDepth := 30) [State.writeFields, hc]
@[simp] theorem State.writeLocked_canon (s : State) (off : Nat) (r : RegRow) (v : W32) (hc : SMap.wf resetWord s.regs = true) :
    SMap.wf resetWord (State.writeLocked s off r v).regs = true := by simp (maxDischargeDepth := 30) [State.writeLocked, apply_ite State.regs, apply_ite (SMap.wf resetWord), hc]
@[simp] theorem State.writeUnitCtl_canon (s : State) (off v : Nat) (t : State) (h : s.writeUnitCtl off v = some t) (hc : SMap.wf resetWord s.regs = true) :
    SMap.wf resetWord t.regs = true := by
  unfold State.writeUnitCtl at h
  repeat' split at h
  all_goals first
    | (cases h; done)
    | (cases h; simp (maxDischargeDepth := 30) [hc])
theorem State.writeBusCtl_canon (s : State) (off v : Nat) (t : State) (h : s.writeBusCtl off v = some t) (hc : SMap.wf resetWord s.regs = true) :
    SMap.wf resetWord t.regs = true := by
  have a1 : ∀ (n : Nat) (s : State), SMap.wf resetWord s.regs = true → SMap.wf resetWord (afterCmd s (execCanCtlRecover n s)).regs = true := by
    intro n s hc; simp +contextual (maxDischargeDepth := 30) [hc, afterCmd, execCanCtlRecover]
  have a2 : ∀ (n : Nat) (s : State), SMap.wf resetWord s.regs = true → SMap.wf resetWord (afterCmd s (execCanCtlRestrSet n s)).regs = true := by
    intro n s hc; simp +contextual (maxDischargeDepth := 30) [hc, apply_ite State.regs, apply_ite (SMap.wf resetWord), afterCmd, execCanCtlRestrSet]
  have a3 : ∀ (n : Nat) (s : State), SMap.wf resetWord s.regs = true → SMap.wf resetWord (afterCmd s (execCanCtlRestrClear n s)).regs = true := by
    intro n s hc; simp +contextual (maxDischargeDepth := 30) [hc, apply_ite State.regs, apply_ite (SMap.wf resetWord), afterCmd, execCanCtlRestrClear]
  have a4 : ∀ (n k : Nat) (s : State), SMap.wf resetWord s.regs = true → SMap.wf resetWord (afterCmd s (execLinCtlSreq n k s)).regs = true := by
    intro n k s hc; simp +contextual (maxDischargeDepth := 30) [hc, apply_ite State.regs, apply_ite (SMap.wf resetWord), afterCmd, execLinCtlSreq]
  have a5 : ∀ (n : Nat) (s : State), SMap.wf resetWord s.regs = true → SMap.wf resetWord (afterCmd s (execLinCtlSleep n s)).regs = true := by
    intro n s hc; simp +contextual (maxDischargeDepth := 30) [hc, apply_ite State.regs, apply_ite (SMap.wf resetWord), afterCmd, execLinCtlSleep]
  have a6 : ∀ (n : Nat) (s : State), SMap.wf resetWord s.regs = true → SMap.wf resetWord (afterCmd s (execLinCtlWake n s)).regs = true := by
    intro n s hc; simp +contextual (maxDischargeDepth := 30) [hc, apply_ite State.regs, apply_ite (SMap.wf resetWord), afterCmd, execLinCtlWake]
  unfold State.writeBusCtl at h; dsimp only at h
  split at h
  · replace h := Option.some.inj h; subst h; repeat' split
    all_goals simp +contextual (maxDischargeDepth := 30) [a1, a2, a3, hc]
  · split at h
    · replace h := Option.some.inj h; subst h; repeat' split
      all_goals simp +contextual (maxDischargeDepth := 30) [a4, a5, a6, hc]
    · cases h
theorem State.writeOwn_canon (s : State) (off v : Nat) (t : State) (h : s.writeOwn off v = some t) (hc : SMap.wf resetWord s.regs = true) :
    SMap.wf resetWord t.regs = true := by
  unfold State.writeOwn at h
  split at h
  · cases h; repeat' split
    all_goals simp +contextual (maxDischargeDepth := 30) [hc]
  · cases h; simp +contextual (maxDischargeDepth := 30) [hc]
  · cases h; repeat' split
    all_goals simp +contextual (maxDischargeDepth := 30) [hc]
  · cases h; split <;> simp +contextual (maxDischargeDepth := 30) [hc]
  · cases h; split <;> simp +contextual (maxDischargeDepth := 30) [hc, apply_ite State.regs, apply_ite (SMap.wf resetWord), afterCmd, execFltCtlClr]
  · split at h
    · cases h; exact State.writeUnitCtl_canon _ _ _ _ (by assumption) hc
    · exact State.writeBusCtl_canon _ _ _ _ h hc
@[simp] theorem State.holdLowWord_canon (s : State) (off : Nat) (v : W32) (hc : SMap.wf resetWord s.regs = true) :
    SMap.wf resetWord (State.holdLowWord s off v).regs = true := by simp (maxDischargeDepth := 30) [State.holdLowWord, hc]
@[simp] theorem State.writeHigh_canon (s : State) (off : Nat) (v : W32) (hc : SMap.wf resetWord s.regs = true) :
    SMap.wf resetWord (State.writeHigh s off v).regs = true := by simp (maxDischargeDepth := 30) [State.writeHigh, hc]
@[simp] theorem State.writeReg_canon (s : State) (off : Nat) (v : W32) (hc : SMap.wf resetWord s.regs = true) :
    SMap.wf resetWord (State.writeReg s off v).regs = true := by
  unfold State.writeReg; split
  · simp +contextual (maxDischargeDepth := 30) [hc]
  · split
    · exact State.writeOwn_canon _ _ _ _ (by assumption) hc
    · repeat' split
      all_goals simp +contextual (maxDischargeDepth := 30) [hc]
@[simp] theorem State.busWrite_canon (s : State) (off : Nat) (size : Nat) (v : W32) (hc : SMap.wf resetWord s.regs = true) :
    SMap.wf resetWord (State.busWrite s off size v).regs = true := by
  simp (maxDischargeDepth := 30) [State.busWrite, apply_ite State.regs, apply_ite (SMap.wf resetWord), hc]; repeat' split
  all_goals simp_all
@[simp] theorem State.latchHigh_canon (s : State) (off : Nat) (hc : SMap.wf resetWord s.regs = true) :
    SMap.wf resetWord (State.latchHigh s off).regs = true := by simp (maxDischargeDepth := 30) [State.latchHigh, hc]
@[simp] theorem State.readLow_canon (s : State) (off : Nat) (hc : SMap.wf resetWord s.regs = true) :
    SMap.wf resetWord (State.readLow s off).regs = true := by
  simp (maxDischargeDepth := 30) [State.readLow]; repeat' split
  all_goals simp_all
@[simp] theorem State.operationTimeout_canon (s : State) (t : Nat) (hc : SMap.wf resetWord s.regs = true) :
    SMap.wf resetWord (State.operationTimeout s t).regs = true := by unfold State.operationTimeout; split <;> simp (maxDischargeDepth := 30) [hc]
@[simp] theorem State.completionTimeout_canon (s : State) (x : ReadKind) (hc : SMap.wf resetWord s.regs = true) :
    SMap.wf resetWord (s.completionTimeout x).regs = true := by
  cases x <;> simp (maxDischargeDepth := 30) [State.completionTimeout, hc]

end Sys2Proof.Machine
end

