-- ==== Sys2Proof/Laws/CanonPower.lean ====
section
/-! SUPPORT. The register file stays canonical under the operations of power and wake. -/

namespace Sys2Proof.Machine

@[simp] theorem State.unitsLost_canon (s : State) (d : Die) (hc : SMap.wf resetWord s.regs = true) :
    SMap.wf resetWord (State.unitsLost s d).regs = true := by unfold State.unitsLost; split <;> simp (maxDischargeDepth := 30) [hc]
@[simp] theorem State.dieOff_canon (s : State) (d : Die) (hc : SMap.wf resetWord s.regs = true) :
    SMap.wf resetWord (State.dieOff s d).regs = true := by simp +contextual (maxDischargeDepth := 30) [State.dieOff, apply_ite State.regs, apply_ite (SMap.wf resetWord), hc]
@[simp] theorem State.diesOff_canon (s : State) (hc : SMap.wf resetWord s.regs = true) :
    SMap.wf resetWord (State.diesOff s).regs = true := by simp +contextual (maxDischargeDepth := 30) [State.diesOff, hc]
@[simp] theorem State.posLost_canon (s : State) (d : Die) (hc : SMap.wf resetWord s.regs = true) :
    SMap.wf resetWord (State.posLost s d).regs = true := by simp +contextual (maxDischargeDepth := 30) [State.posLost, hc]
@[simp] theorem State.stopRegs_canon (s : State) (same : Bool) (hc : SMap.wf resetWord s.regs = true) :
    SMap.wf resetWord (State.stopRegs s same).regs = true := by simp +contextual (maxDischargeDepth := 30) [State.stopRegs, apply_ite State.regs, apply_ite (SMap.wf resetWord), hc]
@[simp] theorem State.stopL_canon (s : State) (hc : SMap.wf resetWord s.regs = true) :
    SMap.wf resetWord (State.stopL s).regs = true := by simp (maxDischargeDepth := 30) [State.stopL, hc]
@[simp] theorem State.newEpoch_canon (s : State) (hc : SMap.wf resetWord s.regs = true) :
    SMap.wf resetWord (State.newEpoch s).regs = true := by simp +contextual (maxDischargeDepth := 30) [State.newEpoch, apply_ite State.regs, apply_ite (SMap.wf resetWord), hc]
@[simp] theorem State.sameEpoch_canon (s : State) (hc : SMap.wf resetWord s.regs = true) :
    SMap.wf resetWord (State.sameEpoch s).regs = true := by simp (maxDischargeDepth := 30) [State.sameEpoch, hc]
@[simp] theorem State.startRecord_canon (s : State) (why : Nat) (hc : SMap.wf resetWord s.regs = true) :
    SMap.wf resetWord (State.startRecord s why).regs = true := by simp (maxDischargeDepth := 30) [State.startRecord, apply_ite State.regs, apply_ite (SMap.wf resetWord), hc]
@[simp] theorem State.startStores_canon (s : State) (why : Nat) (hc : SMap.wf resetWord s.regs = true) :
    SMap.wf resetWord (State.startStores s why).regs = true := by simp (maxDischargeDepth := 30) [State.startStores, hc]
@[simp] theorem State.startUnits_canon (s : State) (fresh : Bool) (secs : Nat) (pass : List Bool) (hc : SMap.wf resetWord s.regs = true) :
    SMap.wf resetWord (State.startUnits s fresh secs pass).regs = true := by simp +contextual (maxDischargeDepth := 30) [State.startUnits, apply_ite State.regs, apply_ite (SMap.wf resetWord), hc]
@[simp] theorem State.domainFail_canon (s : State) (d : Die) (hc : SMap.wf resetWord s.regs = true) :
    SMap.wf resetWord (State.domainFail s d).regs = true := by simp (maxDischargeDepth := 30) [State.domainFail, hc]
@[simp] theorem State.domainsFailed_canon (s : State) (hc : SMap.wf resetWord s.regs = true) :
    SMap.wf resetWord (State.domainsFailed s).regs = true := by simp +contextual (maxDischargeDepth := 30) [State.domainsFailed, hc]
@[simp] theorem State.startPower_canon (s : State) (hc : SMap.wf resetWord s.regs = true) :
    SMap.wf resetWord (State.startPower s).regs = true := by simp (maxDischargeDepth := 30) [State.startPower, apply_ite State.regs, apply_ite (SMap.wf resetWord), hc]
@[simp] theorem State.sendActive_canon (s : State) (d : Die) (hc : SMap.wf resetWord s.regs = true) :
    SMap.wf resetWord (State.sendActive s d).regs = true := by simp (maxDischargeDepth := 30) [State.sendActive, apply_ite State.regs, apply_ite (SMap.wf resetWord), hc]
@[simp] theorem State.boot_canon (s : State) (why : Nat) (secs : Nat) (pass : List Bool) (hc : SMap.wf resetWord s.regs = true) :
    SMap.wf resetWord (State.boot s why secs pass).regs = true := by simp +contextual (maxDischargeDepth := 30) [State.boot, apply_ite State.regs, apply_ite (SMap.wf resetWord), hc]
@[simp] theorem State.deviceReset_canon (s : State) (why : Nat) (pass : List Bool) (hc : SMap.wf resetWord s.regs = true) :
    SMap.wf resetWord (State.deviceReset s why pass).regs = true := by simp (maxDischargeDepth := 30) [State.deviceReset, apply_ite State.regs, apply_ite (SMap.wf resetWord), hc]
@[simp] theorem State.pwrStatus_canon (s : State) (t : Nat) (hc : SMap.wf resetWord s.regs = true) :
    SMap.wf resetWord (State.pwrStatus s t).regs = true := by unfold State.pwrStatus; split <;> simp (maxDischargeDepth := 30) [hc]
@[simp] theorem State.latchEvent_canon (s : State) (code : Nat) (p1 : Nat) (p2 : Nat) (hc : SMap.wf resetWord s.regs = true) :
    SMap.wf resetWord (State.latchEvent s code p1 p2).regs = true := by simp (maxDischargeDepth := 30) [State.latchEvent, apply_ite State.regs, hc]
@[simp] theorem State.wakeBy_canon (s : State) (src : Nat) (hc : SMap.wf resetWord s.regs = true) :
    SMap.wf resetWord (State.wakeBy s src).regs = true := by simp (maxDischargeDepth := 30) [State.wakeBy, apply_ite State.regs, hc]
@[simp] theorem State.startWake_canon (s : State) (src : Nat) (attempt : Nat) (hc : SMap.wf resetWord s.regs = true) :
    SMap.wf resetWord (State.startWake s src attempt).regs = true := by simp (maxDischargeDepth := 30) [State.startWake, hc]
@[simp] theorem State.wakeStart_canon (s : State) (hc : SMap.wf resetWord s.regs = true) :
    SMap.wf resetWord (State.wakeStart s).regs = true := by simp (maxDischargeDepth := 30) [State.wakeStart, apply_ite State.regs, apply_ite (SMap.wf resetWord), hc]
@[simp] theorem State.powerOn_canon (s : State) (a1 : Bool) (a0 : Bool) (hc : SMap.wf resetWord s.regs = true) :
    SMap.wf resetWord (State.powerOn s a1 a0).regs = true := by simp (maxDischargeDepth := 30) [State.powerOn, apply_ite State.regs, apply_ite (SMap.wf resetWord), hc]
@[simp] theorem State.tamper_canon (s : State) (hc : SMap.wf resetWord s.regs = true) :
    SMap.wf resetWord (State.tamper s).regs = true := by simp (maxDischargeDepth := 30) [State.tamper, apply_ite State.regs, apply_ite (SMap.wf resetWord), hc]
@[simp] theorem pollOne_canon (vins : List Nat) (x : List Nat × State) (n : Nat) (hc : SMap.wf resetWord x.2.regs = true) :
    SMap.wf resetWord (pollOne vins x n).2.regs = true := by unfold pollOne; split <;> simp (maxDischargeDepth := 30) [hc]
@[simp] theorem State.wakeMap_canon (s : State) (n : Nat) (hc : SMap.wf resetWord s.regs = true) :
    SMap.wf resetWord (State.wakeMap s n).regs = true := by simp (maxDischargeDepth := 30) [State.wakeMap, apply_ite State.regs, apply_ite (SMap.wf resetWord), hc]
@[simp] theorem State.parkPoll_canon (s : State) (vins : List Nat) (hc : SMap.wf resetWord s.regs = true) :
    SMap.wf resetWord (State.parkPoll s vins).regs = true := by
  have hk : ∀ (l : List Nat) (x : List Nat × State), SMap.wf resetWord x.2.regs = true → SMap.wf resetWord (l.foldl (pollOne vins) x).2.regs = true := by
    intro l; induction l with
    | nil => intro x h; exact h
    | cons a l ih => intro x h; rw [List.foldl_cons]; exact ih _ (pollOne_canon vins x a h)
  unfold State.parkPoll; dsimp only
  split
  · split
    · exact hk _ _ hc
    · exact State.wakeBy_canon _ _ (foldl_canon State.wakeMap (fun s x hc => State.wakeMap_canon s x hc) _ _ (hk _ _ hc))
  · exact hc
@[simp] theorem State.canWoke_canon (s : State) (c : Nat) (f : Fld) (hc : SMap.wf resetWord s.regs = true) :
    SMap.wf resetWord (State.canWoke s c f).regs = true := by simp (maxDischargeDepth := 30) [State.canWoke, hc]
@[simp] theorem State.swFrame_canon (s : State) (c : Nat) (f : CanFrame) (good : Bool) (hc : SMap.wf resetWord s.regs = true) :
    SMap.wf resetWord (State.swFrame s c f good).regs = true := by simp (maxDischargeDepth := 30) [State.swFrame, apply_ite State.regs, apply_ite (SMap.wf resetWord), hc]
@[simp] theorem State.canWakeFrame_canon (s : State) (c : Nat) (f : CanFrame) (good : Bool) (hc : SMap.wf resetWord s.regs = true) :
    SMap.wf resetWord (State.canWakeFrame s c f good).regs = true := by simp (maxDischargeDepth := 30) [State.canWakeFrame, apply_ite State.regs, apply_ite (SMap.wf resetWord), hc]
@[simp] theorem State.canWakePattern_canon (s : State) (c : Nat) (hc : SMap.wf resetWord s.regs = true) :
    SMap.wf resetWord (State.canWakePattern s c).regs = true := by simp (maxDischargeDepth := 30) [State.canWakePattern, apply_ite State.regs, apply_ite (SMap.wf resetWord), hc]
@[simp] theorem State.candleTakes_canon (s : State) (hc : SMap.wf resetWord s.regs = true) :
    SMap.wf resetWord (State.candleTakes s).regs = true := by
  unfold State.candleTakes; (try dsimp only); repeat' split
  all_goals simp +contextual (maxDischargeDepth := 30) [hc, apply_ite State.regs, apply_ite (SMap.wf resetWord)]
@[simp] theorem State.parkTake_canon (s : State) (hc : SMap.wf resetWord s.regs = true) :
    SMap.wf resetWord (State.parkTake s).regs = true := by simp (maxDischargeDepth := 30) [State.parkTake, hc]
@[simp] theorem State.toPark_canon (s : State) (hc : SMap.wf resetWord s.regs = true) :
    SMap.wf resetWord (State.toPark s).regs = true := by simp (maxDischargeDepth := 30) [State.toPark, hc]
@[simp] theorem State.parkEntry_canon (s : State) (hc : SMap.wf resetWord s.regs = true) :
    SMap.wf resetWord (State.parkEntry s).regs = true := by simp (maxDischargeDepth := 30) [State.parkEntry, apply_ite State.regs, apply_ite (SMap.wf resetWord), hc]
@[simp] theorem State.rqbNew_canon (s : State) (hc : SMap.wf resetWord s.regs = true) :
    SMap.wf resetWord (State.rqbNew s).regs = true := by simp (maxDischargeDepth := 30) [State.rqbNew, hc]
@[simp] theorem State.rqbRequest_canon (s : State) (hc : SMap.wf resetWord s.regs = true) :
    SMap.wf resetWord (State.rqbRequest s).regs = true := by simp (maxDischargeDepth := 30) [State.rqbRequest, apply_ite State.regs, apply_ite (SMap.wf resetWord), hc]
@[simp] theorem State.rqbStatus_canon (s : State) (st : Byte) (hc : SMap.wf resetWord s.regs = true) :
    SMap.wf resetWord (State.rqbStatus s st).regs = true := by simp (maxDischargeDepth := 30) [State.rqbStatus, apply_ite State.regs, hc]
@[simp] theorem State.rqbRetry_canon (s : State) (hc : SMap.wf resetWord s.regs = true) :
    SMap.wf resetWord (State.rqbRetry s).regs = true := by simp (maxDischargeDepth := 30) [State.rqbRetry, apply_ite State.regs, apply_ite (SMap.wf resetWord), hc]
@[simp] theorem State.rqbOffOnce_canon (s : State) (rail : Nat) (hc : SMap.wf resetWord s.regs = true) :
    SMap.wf resetWord (State.rqbOffOnce s rail).regs = true := by simp (maxDischargeDepth := 30) [State.rqbOffOnce, hc]
@[simp] theorem State.regFailed_canon (s : State) (hc : SMap.wf resetWord s.regs = true) :
    SMap.wf resetWord (State.regFailed s).regs = true := by simp (maxDischargeDepth := 30) [State.regFailed, hc]
@[simp] theorem State.wakeRegFail_canon (s : State) (hc : SMap.wf resetWord s.regs = true) :
    SMap.wf resetWord (State.wakeRegFail s).regs = true := by
  have h1 := foldl_canon State.rqbOffOnce (fun s x => by simp +contextual (maxDischargeDepth := 30)) s.pow.railsOn.reverse s
  unfold State.wakeRegFail; dsimp only
  simp +contextual (maxDischargeDepth := 30) [apply_ite State.regs, apply_ite (SMap.wf resetWord), h1, -List.foldl_reverse, hc]
@[simp] theorem State.parkRegFail_canon (s : State) (hc : SMap.wf resetWord s.regs = true) :
    SMap.wf resetWord (State.parkRegFail s).regs = true := by simp (maxDischargeDepth := 30) [State.parkRegFail, hc]
@[simp] theorem State.regFail_canon (s : State) (hc : SMap.wf resetWord s.regs = true) :
    SMap.wf resetWord (State.regFail s).regs = true := by
  simp (maxDischargeDepth := 30) [State.regFail, apply_ite State.regs, apply_ite (SMap.wf resetWord), hc]; repeat' split
  all_goals simp_all
@[simp] theorem State.wakeRetry_canon (s : State) (hc : SMap.wf resetWord s.regs = true) :
    SMap.wf resetWord (State.wakeRetry s).regs = true := by unfold State.wakeRetry; split <;> simp (maxDischargeDepth := 30) [apply_ite State.regs, apply_ite (SMap.wf resetWord), hc]
@[simp] theorem State.dieLReady_canon (s : State) (pass : List Bool) (hc : SMap.wf resetWord s.regs = true) :
    SMap.wf resetWord (State.dieLReady s pass).regs = true := by simp (maxDischargeDepth := 30) [State.dieLReady, apply_ite State.regs, apply_ite (SMap.wf resetWord), hc]
@[simp] theorem State.resendCommands_canon (s : State) (d : Die) (hc : SMap.wf resetWord s.regs = true) :
    SMap.wf resetWord (State.resendCommands s d).regs = true := by simp (maxDischargeDepth := 30) [State.resendCommands, apply_ite State.regs, apply_ite (SMap.wf resetWord), hc]
@[simp] theorem State.sendSwap_canon (s : State) (d : Die) (hc : SMap.wf resetWord s.regs = true) :
    SMap.wf resetWord (State.sendSwap s d).regs = true := by unfold State.sendSwap; split <;> simp (maxDischargeDepth := 30) [hc]
@[simp] theorem State.goesOn_canon (s : State) (x : Stalled) (hc : SMap.wf resetWord s.regs = true) :
    SMap.wf resetWord (State.goesOn s x).regs = true := by unfold State.goesOn; split <;> simp (maxDischargeDepth := 30) [hc]
@[simp] theorem State.unstall_canon (s : State) (d : Die) (hc : SMap.wf resetWord s.regs = true) :
    SMap.wf resetWord (State.unstall s d).regs = true := by simp (maxDischargeDepth := 30) [State.unstall, hc]
@[simp] theorem State.domainUp_canon (s : State) (d : Die) (hc : SMap.wf resetWord s.regs = true) :
    SMap.wf resetWord (State.domainUp s d).regs = true := by simp (maxDischargeDepth := 30) [State.domainUp, hc]
@[simp] theorem State.domainReady_canon (s : State) (d : Die) (hc : SMap.wf resetWord s.regs = true) :
    SMap.wf resetWord (State.domainReady s d).regs = true := by simp +contextual (maxDischargeDepth := 30) [State.domainReady, apply_ite State.regs, apply_ite (SMap.wf resetWord), hc]
@[simp] theorem State.domainStartTimeout_canon (s : State) (d : Die) (hc : SMap.wf resetWord s.regs = true) :
    SMap.wf resetWord (State.domainStartTimeout s d).regs = true := by unfold State.domainStartTimeout; split <;> simp (maxDischargeDepth := 30) [apply_ite State.regs, apply_ite (SMap.wf resetWord), hc]
@[simp] theorem State.stallFails_canon (s : State) (x : Stalled) (hc : SMap.wf resetWord s.regs = true) :
    SMap.wf resetWord (State.stallFails s x).regs = true := by unfold State.stallFails; split <;> simp (maxDischargeDepth := 30) [hc]
@[simp] theorem State.domainStallTimeout_canon (s : State) (d : Die) (hc : SMap.wf resetWord s.regs = true) :
    SMap.wf resetWord (State.domainStallTimeout s d).regs = true := by unfold State.domainStallTimeout; split <;> simp +contextual (maxDischargeDepth := 30) [apply_ite State.regs, apply_ite (SMap.wf resetWord), hc]
@[simp] theorem State.railLoss_canon (s : State) (rail : Nat) (hc : SMap.wf resetWord s.regs = true) :
    SMap.wf resetWord (State.railLoss s rail).regs = true := by simp (maxDischargeDepth := 30) [State.railLoss, hc]
@[simp] theorem State.powerDieReset_canon (s : State) (d : Die) (hc : SMap.wf resetWord s.regs = true) :
    SMap.wf resetWord (State.powerDieReset s d).regs = true := by simp (maxDischargeDepth := 30) [State.powerDieReset, apply_ite State.regs, apply_ite (SMap.wf resetWord), hc]
@[simp] theorem State.candleReset_canon (s : State) (hc : SMap.wf resetWord s.regs = true) :
    SMap.wf resetWord (State.candleReset s).regs = true := by
  unfold State.candleReset; (try dsimp only); repeat' split
  all_goals simp +contextual (maxDischargeDepth := 30) [hc]

end Sys2Proof.Machine
end

