-- ==== Sys2Proof/Laws/CanonCelper.lean ====
section
/-! SUPPORT. The register file stays canonical under the operations of the Celper machines. -/

namespace Sys2Proof.Machine

@[simp] theorem State.progError_canon (s : State) (c : Nat) (code : Nat) (addr : Nat) (hc : SMap.wf resetWord s.regs = true) :
    SMap.wf resetWord (State.progError s c code addr).regs = true := by simp (maxDischargeDepth := 30) [State.progError, apply_ite State.regs, apply_ite (SMap.wf resetWord), hc]
@[simp] theorem State.seqError_canon (s : State) (k : CoreId) (hc : SMap.wf resetWord s.regs = true) :
    SMap.wf resetWord (State.seqError s k).regs = true := by unfold State.seqError; split <;> simp (maxDischargeDepth := 30) [hc]
@[simp] theorem State.celFault_canon (s : State) (k : CoreId) (code : Nat) (hc : SMap.wf resetWord s.regs = true) :
    SMap.wf resetWord (State.celFault s k code).regs = true := by unfold State.celFault; split <;> simp (maxDischargeDepth := 30) [hc]
@[simp] theorem State.celEnd_canon (s : State) (k : CoreId) (hc : SMap.wf resetWord s.regs = true) :
    SMap.wf resetWord (State.celEnd s k).regs = true := by unfold State.celEnd; split <;> simp (maxDischargeDepth := 30) [hc]
@[simp] theorem State.celPerform_canon (s : State) (k : CoreId) (x : Cel) (a : CelAct) (hd : SMap.wf resetWord a.s.regs = true) (hc : SMap.wf resetWord s.regs = true) :
    SMap.wf resetWord (s.celPerform k x a).regs = true := by
  unfold State.celPerform; dsimp only
  split
  · simp (maxDischargeDepth := 30) [hc]
  · simp (maxDischargeDepth := 30) [hd]
  · split
    · simp (maxDischargeDepth := 30) [hc]
    · split
      · split <;> simp (maxDischargeDepth := 30) [hd]
      · simp (maxDischargeDepth := 30) [hd]
@[simp] theorem State.celSkipped_canon (s : State) (k : CoreId) (x : Cel) (hc : SMap.wf resetWord s.regs = true) :
    SMap.wf resetWord (State.celSkipped s k x).regs = true := by
  unfold State.celSkipped; (try dsimp only); repeat' split
  all_goals simp +contextual (maxDischargeDepth := 30) [hc]
@[simp] theorem State.budgetOut_canon (s : State) (k : CoreId) (hc : SMap.wf resetWord s.regs = true) :
    SMap.wf resetWord (State.budgetOut s k).regs = true := by unfold State.budgetOut; split <;> simp (maxDischargeDepth := 30) [hc]
@[simp] theorem State.celIssue_canon (s : State) (k : CoreId) (word : Nat) (good : Bool) (need : List Nat) (cost : Cel → Nat) (act : State → Cel → CelAct) (hd : ∀ s x, SMap.wf resetWord s.regs = true → SMap.wf resetWord (act s x).s.regs = true) (hc : SMap.wf resetWord s.regs = true) :
    SMap.wf resetWord (s.celIssue k word good need cost act).regs = true := by
  unfold State.celIssue; (try dsimp only); repeat' split
  all_goals simp_all +contextual (maxDischargeDepth := 30)
@[simp] theorem State.budgetAbort_canon (s : State) (c : Nat) (hc : SMap.wf resetWord s.regs = true) :
    SMap.wf resetWord (State.budgetAbort s c).regs = true := by simp (maxDischargeDepth := 30) [State.budgetAbort, apply_ite State.regs, apply_ite (SMap.wf resetWord), hc]
@[simp] theorem State.celR_canon (s : State) (k : CoreId) (op : Nat) (d : Nat) (a : Nat) (b : Nat) (f : W32 → W32 → W32) (hc : SMap.wf resetWord s.regs = true) :
    SMap.wf resetWord (State.celR s k op d a b f).regs = true := by simp (maxDischargeDepth := 30) [State.celR, hc]
@[simp] theorem State.celI_canon (s : State) (k : CoreId) (op : Nat) (d : Nat) (a : Nat) (imm : BitVec 16) (f : W32 → W32) (hc : SMap.wf resetWord s.regs = true) :
    SMap.wf resetWord (State.celI s k op d a imm f).regs = true := by simp (maxDischargeDepth := 30) [State.celI, hc]
@[simp] theorem State.celShift_canon (s : State) (k : CoreId) (op : Nat) (d : Nat) (a : Nat) (imm : BitVec 16) (f : W32 → Nat → W32) (hc : SMap.wf resetWord s.regs = true) :
    SMap.wf resetWord (State.celShift s k op d a imm f).regs = true := by simp (maxDischargeDepth := 30) [State.celShift, hc]
@[simp] theorem State.celMul_canon (s : State) (k : CoreId) (op : Nat) (a : Nat) (b : Nat) (adds : Bool) (f : W32 → W32 → W64) (hc : SMap.wf resetWord s.regs = true) :
    SMap.wf resetWord (State.celMul s k op a b adds f).regs = true := by simp (maxDischargeDepth := 30) [State.celMul, hc]
@[simp] theorem State.celProducts_canon (s : State) (k : CoreId) (hc : SMap.wf resetWord s.regs = true) :
    SMap.wf resetWord (State.celProducts s k).regs = true := by simp (maxDischargeDepth := 30) [State.celProducts, apply_ite State.regs, apply_ite (SMap.wf resetWord), hc]
@[simp] theorem State.celMfs_canon (s : State) (k : CoreId) (d : Nat) (sp : Nat) (hc : SMap.wf resetWord s.regs = true) :
    SMap.wf resetWord (State.celMfs s k d sp).regs = true := by
  unfold State.celMfs; (try dsimp only); refine State.celIssue_canon _ _ _ _ _ _ _ (fun s x hc => ?_) hc; (try dsimp only); (repeat' split) <;> exact hc
@[simp] theorem State.celMts_canon (s : State) (k : CoreId) (sp : Nat) (a : Nat) (hc : SMap.wf resetWord s.regs = true) :
    SMap.wf resetWord (State.celMts s k sp a).regs = true := by
  unfold State.celMts; (try dsimp only); refine State.celIssue_canon _ _ _ _ _ _ _ (fun s x hc => ?_) hc; (try dsimp only); (repeat' split) <;> exact hc
@[simp] theorem State.celLdw_canon (s : State) (k : CoreId) (d : Nat) (a : Nat) (imm : BitVec 16) (hc : SMap.wf resetWord s.regs = true) :
    SMap.wf resetWord (State.celLdw s k d a imm).regs = true := by
  unfold State.celLdw; (try dsimp only); refine State.celIssue_canon _ _ _ _ _ _ _ (fun s x hc => ?_) hc; (try dsimp only); (repeat' split) <;> exact hc
@[simp] theorem State.celStw_canon (s : State) (k : CoreId) (d : Nat) (a : Nat) (imm : BitVec 16) (hc : SMap.wf resetWord s.regs = true) :
    SMap.wf resetWord (State.celStw s k d a imm).regs = true := by
  unfold State.celStw; (try dsimp only); refine State.celIssue_canon _ _ _ _ _ _ _ (fun s x hc => ?_) hc; (try dsimp only); (repeat' split) <;> exact hc
@[simp] theorem State.celPrd_canon (s : State) (k : CoreId) (d : Nat) (port : Nat) (hc : SMap.wf resetWord s.regs = true) :
    SMap.wf resetWord (State.celPrd s k d port).regs = true := by simp +contextual (maxDischargeDepth := 30) [State.celPrd, hc]
@[simp] theorem State.celPwr_canon (s : State) (k : CoreId) (a : Nat) (port : Nat) (hc : SMap.wf resetWord s.regs = true) :
    SMap.wf resetWord (State.celPwr s k a port).regs = true := by simp (maxDischargeDepth := 30) [State.celPwr, hc]
@[simp] theorem State.loadV_canon (s : State) (x : Cel) (d i : Nat) (hc : SMap.wf resetWord s.regs = true) :
    SMap.wf resetWord (s.loadV x d i).s.regs = true := by
  unfold State.loadV; (try dsimp only); repeat' split
  all_goals simp (maxDischargeDepth := 30) [hc]
@[simp] theorem State.loadE_canon (s : State) (x : Cel) (d i : Nat) (hc : SMap.wf resetWord s.regs = true) :
    SMap.wf resetWord (s.loadE x d i).s.regs = true := by
  unfold State.loadE; (try dsimp only); repeat' split
  all_goals simp (maxDischargeDepth := 30) [hc]
@[simp] theorem State.celLdv_canon (s : State) (k : CoreId) (d : Nat) (index : Nat) (hc : SMap.wf resetWord s.regs = true) :
    SMap.wf resetWord (State.celLdv s k d index).regs = true := by simp +contextual (maxDischargeDepth := 30) [State.celLdv, hc]
@[simp] theorem State.celLde_canon (s : State) (k : CoreId) (d : Nat) (index : Nat) (hc : SMap.wf resetWord s.regs = true) :
    SMap.wf resetWord (State.celLde s k d index).regs = true := by simp +contextual (maxDischargeDepth := 30) [State.celLde, hc]
@[simp] theorem State.celLdvx_canon (s : State) (k : CoreId) (d : Nat) (a : Nat) (hc : SMap.wf resetWord s.regs = true) :
    SMap.wf resetWord (State.celLdvx s k d a).regs = true := by simp +contextual (maxDischargeDepth := 30) [State.celLdvx, hc]
@[simp] theorem State.celLdex_canon (s : State) (k : CoreId) (d : Nat) (a : Nat) (hc : SMap.wf resetWord s.regs = true) :
    SMap.wf resetWord (State.celLdex s k d a).regs = true := by simp +contextual (maxDischargeDepth := 30) [State.celLdex, hc]
@[simp] theorem State.loadB_canon (s : State) (x : Cel) (d i off : Nat) (hc : SMap.wf resetWord s.regs = true) :
    SMap.wf resetWord (s.loadB x d i off).s.regs = true := by
  unfold State.loadB; (try dsimp only); repeat' split
  all_goals simp (maxDischargeDepth := 30) [hc]
@[simp] theorem State.celLdb_canon (s : State) (k : CoreId) (d : Nat) (a : Nat) (b : Nat) (hc : SMap.wf resetWord s.regs = true) :
    SMap.wf resetWord (State.celLdb s k d a b).regs = true := by simp +contextual (maxDischargeDepth := 30) [State.celLdb, hc]
@[simp] theorem State.storeE_canon (s : State) (x : Cel) (d i : Nat) (hc : SMap.wf resetWord s.regs = true) :
    SMap.wf resetWord (s.storeE x d i).s.regs = true := by
  unfold State.storeE; (try dsimp only); repeat' split
  all_goals simp (maxDischargeDepth := 30) [hc]
@[simp] theorem State.celSte_canon (s : State) (k : CoreId) (d : Nat) (index : Nat) (hc : SMap.wf resetWord s.regs = true) :
    SMap.wf resetWord (State.celSte s k d index).regs = true := by simp +contextual (maxDischargeDepth := 30) [State.celSte, hc]
@[simp] theorem State.celStex_canon (s : State) (k : CoreId) (d : Nat) (a : Nat) (hc : SMap.wf resetWord s.regs = true) :
    SMap.wf resetWord (State.celStex s k d a).regs = true := by simp +contextual (maxDischargeDepth := 30) [State.celStex, hc]
@[simp] theorem State.celNop_canon (s : State) (k : CoreId) (hc : SMap.wf resetWord s.regs = true) :
    SMap.wf resetWord (State.celNop s k).regs = true := by simp (maxDischargeDepth := 30) [State.celNop, hc]
@[simp] theorem State.celEndOp_canon (s : State) (k : CoreId) (hc : SMap.wf resetWord s.regs = true) :
    SMap.wf resetWord (State.celEndOp s k).regs = true := by simp (maxDischargeDepth := 30) [State.celEndOp, hc]
@[simp] theorem State.celBc_canon (s : State) (k : CoreId) (a : Nat) (b : Nat) (cond : Nat) (off : BitVec 13) (hc : SMap.wf resetWord s.regs = true) :
    SMap.wf resetWord (State.celBc s k a b cond off).regs = true := by
  unfold State.celBc; (try dsimp only); refine State.celIssue_canon _ _ _ _ _ _ _ (fun s x hc => ?_) hc; (try dsimp only); (repeat' split) <;> exact hc
@[simp] theorem State.celBr_canon (s : State) (k : CoreId) (off : BitVec 26) (hc : SMap.wf resetWord s.regs = true) :
    SMap.wf resetWord (State.celBr s k off).regs = true := by simp (maxDischargeDepth := 30) [State.celBr, hc]
@[simp] theorem State.celBl_canon (s : State) (k : CoreId) (off : BitVec 26) (hc : SMap.wf resetWord s.regs = true) :
    SMap.wf resetWord (State.celBl s k off).regs = true := by simp (maxDischargeDepth := 30) [State.celBl, hc]
@[simp] theorem State.celJr_canon (s : State) (k : CoreId) (a : Nat) (hc : SMap.wf resetWord s.regs = true) :
    SMap.wf resetWord (State.celJr s k a).regs = true := by simp (maxDischargeDepth := 30) [State.celJr, hc]
@[simp] theorem CelAct.skipIf_canon (s : State) (x : Cel) (c : Option Bool) (hc : SMap.wf resetWord s.regs = true) :
    SMap.wf resetWord (CelAct.skipIf s x c).s.regs = true := by
  unfold CelAct.skipIf; (try dsimp only); repeat' split
  all_goals simp (maxDischargeDepth := 30) [hc]
@[simp] theorem State.celSk_canon (s : State) (k : CoreId) (a : Nat) (b : Nat) (cond : Nat) (hc : SMap.wf resetWord s.regs = true) :
    SMap.wf resetWord (State.celSk s k a b cond).regs = true := by simp +contextual (maxDischargeDepth := 30) [State.celSk, hc]
@[simp] theorem State.celSki_canon (s : State) (k : CoreId) (a : Nat) (cond : Nat) (imm : BitVec 16) (hc : SMap.wf resetWord s.regs = true) :
    SMap.wf resetWord (State.celSki s k a cond imm).regs = true := by simp +contextual (maxDischargeDepth := 30) [State.celSki, hc]
@[simp] theorem State.celSkst_canon (s : State) (k : CoreId) (mask : BitVec 4) (hc : SMap.wf resetWord s.regs = true) :
    SMap.wf resetWord (State.celSkst s k mask).regs = true := by simp +contextual (maxDischargeDepth := 30) [State.celSkst, hc]
@[simp] theorem State.celLoopAct_canon (s : State) (k : CoreId) (x : Cel) (count : W32) (n : Nat) (hc : SMap.wf resetWord s.regs = true) :
    SMap.wf resetWord (s.celLoopAct k x count n).s.regs = true := by
  unfold State.celLoopAct; (try dsimp only); repeat' split
  all_goals simp (maxDischargeDepth := 30) [hc]
@[simp] theorem State.celLoop_canon (s : State) (k : CoreId) (a : Nat) (n : BitVec 16) (hc : SMap.wf resetWord s.regs = true) :
    SMap.wf resetWord (State.celLoop s k a n).regs = true := by simp +contextual (maxDischargeDepth := 30) [State.celLoop, hc]
@[simp] theorem State.celLoopi_canon (s : State) (k : CoreId) (cnt : BitVec 12) (n : BitVec 14) (hc : SMap.wf resetWord s.regs = true) :
    SMap.wf resetWord (State.celLoopi s k cnt n).regs = true := by simp +contextual (maxDischargeDepth := 30) [State.celLoopi, hc]

end Sys2Proof.Machine
end

