-- ==== Sys2Proof/Laws/CanonExec.lean ====
section
/-! SUPPORT. The register file stays canonical under every command. -/

namespace Sys2Proof.Machine

theorem execRegisterWrite_canon (off size : Nat) (value : W32) (s t' : State) (h : execRegisterWrite off size value s = .next t') (hc : SMap.wf resetWord s.regs = true) :
    SMap.wf resetWord t'.regs = true := by
  unfold execRegisterWrite at h; cases h; simp (maxDischargeDepth := 30) [hc]
theorem execRead64LowWord_canon (off : Nat) (s t' : State) (h : execRead64LowWord off s = .next t') (hc : SMap.wf resetWord s.regs = true) :
    SMap.wf resetWord t'.regs = true := by
  unfold execRead64LowWord at h; cases h; simp (maxDischargeDepth := 30) [hc]
theorem execWrite64HighWord_canon (off : Nat) (value : W32) (s t' : State) (h : execWrite64HighWord off value s = .next t') (hc : SMap.wf resetWord s.regs = true) :
    SMap.wf resetWord t'.regs = true := by
  unfold execWrite64HighWord at h; cases h; (try dsimp only); repeat' split
  all_goals simp (maxDischargeDepth := 30) [hc]
theorem execLedgPeekidxWrite_canon (value : W32) (s t' : State) (h : execLedgPeekidxWrite value s = .next t') (hc : SMap.wf resetWord s.regs = true) :
    SMap.wf resetWord t'.regs = true := by
  unfold execLedgPeekidxWrite at h; cases h; simp (maxDischargeDepth := 30) [apply_ite State.regs, apply_ite (SMap.wf resetWord), hc]
theorem execHswCtlClear_canon (n : Nat) (s t' : State) (h : execHswCtlClear n s = .next t') (hc : SMap.wf resetWord s.regs = true) :
    SMap.wf resetWord t'.regs = true := by
  unfold execHswCtlClear at h; cases h; simp (maxDischargeDepth := 30) [apply_ite State.regs, apply_ite (SMap.wf resetWord), hc]
theorem execPdrvCtlClear_canon (n : Nat) (s t' : State) (h : execPdrvCtlClear n s = .next t') (hc : SMap.wf resetWord s.regs = true) :
    SMap.wf resetWord t'.regs = true := by
  unfold execPdrvCtlClear at h; cases h; simp (maxDischargeDepth := 30) [apply_ite State.regs, apply_ite (SMap.wf resetWord), hc]
theorem execBrgCtlClear_canon (m : Nat) (s t' : State) (h : execBrgCtlClear m s = .next t') (hc : SMap.wf resetWord s.regs = true) :
    SMap.wf resetWord t'.regs = true := by
  unfold execBrgCtlClear at h; cases h; simp (maxDischargeDepth := 30) [apply_ite State.regs, apply_ite (SMap.wf resetWord), hc]
theorem execVlvCtlClear_canon (n : Nat) (s t' : State) (h : execVlvCtlClear n s = .next t') (hc : SMap.wf resetWord s.regs = true) :
    SMap.wf resetWord t'.regs = true := by
  unfold execVlvCtlClear at h; cases h; simp (maxDischargeDepth := 30) [apply_ite State.regs, apply_ite (SMap.wf resetWord), hc]
theorem execVlvBctlClear_canon (b : Nat) (s t' : State) (h : execVlvBctlClear b s = .next t') (hc : SMap.wf resetWord s.regs = true) :
    SMap.wf resetWord t'.regs = true := by
  unfold execVlvBctlClear at h; cases h; simp (maxDischargeDepth := 30) [apply_ite State.regs, apply_ite (SMap.wf resetWord), hc]
theorem execLedCtlClear_canon (n : Nat) (s t' : State) (h : execLedCtlClear n s = .next t') (hc : SMap.wf resetWord s.regs = true) :
    SMap.wf resetWord t'.regs = true := by
  unfold execLedCtlClear at h; cases h; simp (maxDischargeDepth := 30) [apply_ite State.regs, apply_ite (SMap.wf resetWord), hc]
theorem execCanCtlRecover_canon (c : Nat) (s t' : State) (h : execCanCtlRecover c s = .next t') (hc : SMap.wf resetWord s.regs = true) :
    SMap.wf resetWord t'.regs = true := by
  unfold execCanCtlRecover at h; cases h; simp (maxDischargeDepth := 30) [hc]
theorem execCanCtlRestrSet_canon (c : Nat) (s t' : State) (h : execCanCtlRestrSet c s = .next t') (hc : SMap.wf resetWord s.regs = true) :
    SMap.wf resetWord t'.regs = true := by
  unfold execCanCtlRestrSet at h; cases h; simp (maxDischargeDepth := 30) [apply_ite State.regs, apply_ite (SMap.wf resetWord), hc]
theorem execCanCtlRestrClear_canon (c : Nat) (s t' : State) (h : execCanCtlRestrClear c s = .next t') (hc : SMap.wf resetWord s.regs = true) :
    SMap.wf resetWord t'.regs = true := by
  unfold execCanCtlRestrClear at h; cases h; simp (maxDischargeDepth := 30) [apply_ite State.regs, apply_ite (SMap.wf resetWord), hc]
theorem execLinCtlSreq_canon (n table : Nat) (s t' : State) (h : execLinCtlSreq n table s = .next t') (hc : SMap.wf resetWord s.regs = true) :
    SMap.wf resetWord t'.regs = true := by
  unfold execLinCtlSreq at h; cases h; simp (maxDischargeDepth := 30) [apply_ite State.regs, apply_ite (SMap.wf resetWord), hc]
theorem execLinCtlSleep_canon (n : Nat) (s t' : State) (h : execLinCtlSleep n s = .next t') (hc : SMap.wf resetWord s.regs = true) :
    SMap.wf resetWord t'.regs = true := by
  unfold execLinCtlSleep at h; cases h; simp (maxDischargeDepth := 30) [apply_ite State.regs, apply_ite (SMap.wf resetWord), hc]
theorem execLinCtlWake_canon (n : Nat) (s t' : State) (h : execLinCtlWake n s = .next t') (hc : SMap.wf resetWord s.regs = true) :
    SMap.wf resetWord t'.regs = true := by
  unfold execLinCtlWake at h; cases h; simp (maxDischargeDepth := 30) [apply_ite State.regs, apply_ite (SMap.wf resetWord), hc]
theorem execRfxSvcRemove_canon (c : Nat) (s t' : State) (h : execRfxSvcRemove c s = .next t') (hc : SMap.wf resetWord s.regs = true) :
    SMap.wf resetWord t'.regs = true := by
  unfold execRfxSvcRemove at h; cases h; simp (maxDischargeDepth := 30) [apply_ite State.regs, apply_ite (SMap.wf resetWord), hc]
theorem execRfxSvcReturn_canon (c : Nat) (s t' : State) (h : execRfxSvcReturn c s = .next t') (hc : SMap.wf resetWord s.regs = true) :
    SMap.wf resetWord t'.regs = true := by
  unfold execRfxSvcReturn at h; cases h; simp (maxDischargeDepth := 30) [apply_ite State.regs, apply_ite (SMap.wf resetWord), hc]
theorem execHostCtlEnSet_canon (dbper : Nat) (s t' : State) (h : execHostCtlEnSet dbper s = .next t') (hc : SMap.wf resetWord s.regs = true) :
    SMap.wf resetWord t'.regs = true := by
  unfold execHostCtlEnSet at h; cases h; simp (maxDischargeDepth := 30) [hc]
theorem execHostCtlEnClear_canon (dbper : Nat) (s t' : State) (h : execHostCtlEnClear dbper s = .next t') (hc : SMap.wf resetWord s.regs = true) :
    SMap.wf resetWord t'.regs = true := by
  unfold execHostCtlEnClear at h; cases h; simp (maxDischargeDepth := 30) [hc]
theorem execFltCtlClr_canon (r : Nat) (s t' : State) (h : execFltCtlClr r s = .next t') (hc : SMap.wf resetWord s.regs = true) :
    SMap.wf resetWord t'.regs = true := by
  unfold execFltCtlClr at h; cases h; simp (maxDischargeDepth := 30) [apply_ite State.regs, apply_ite (SMap.wf resetWord), hc]
theorem execMsixVectorUnmask_canon (v : Nat) (s t' : State) (h : execMsixVectorUnmask v s = .next t') (hc : SMap.wf resetWord s.regs = true) :
    SMap.wf resetWord t'.regs = true := by
  unfold execMsixVectorUnmask at h; cases h; simp (maxDischargeDepth := 30) [hc]
theorem execDeviceReset_canon (mgp : Bool) (pass : List Bool) (s t' : State) (h : execDeviceReset mgp pass s = .next t') (hc : SMap.wf resetWord s.regs = true) :
    SMap.wf resetWord t'.regs = true := by
  unfold execDeviceReset at h; cases h; simp (maxDischargeDepth := 30) [hc]
theorem execAsSyncReceived_canon (gptp corr : Int) (s t' : State) (h : execAsSyncReceived gptp corr s = .next t') (hc : SMap.wf resetWord s.regs = true) :
    SMap.wf resetWord t'.regs = true := by
  unfold execAsSyncReceived at h; cases h; simp (maxDischargeDepth := 30) [hc]
theorem execTimeMarkerReceived_canon (d : Die) (err : Int) (s t' : State) (h : execTimeMarkerReceived d err s = .next t') (hc : SMap.wf resetWord s.regs = true) :
    SMap.wf resetWord t'.regs = true := by
  unfold execTimeMarkerReceived at h; cases h; simp (maxDischargeDepth := 30) [hc]
theorem execIslandRelock_canon (d : Die) (s t' : State) (h : execIslandRelock d s = .next t') (hc : SMap.wf resetWord s.regs = true) :
    SMap.wf resetWord t'.regs = true := by
  unfold execIslandRelock at h; cases h; simp (maxDischargeDepth := 30) [hc]
theorem execMarkerLoss_canon (d : Die) (s t' : State) (h : execMarkerLoss d s = .next t') (hc : SMap.wf resetWord s.regs = true) :
    SMap.wf resetWord t'.regs = true := by
  unfold execMarkerLoss at h; cases h; simp (maxDischargeDepth := 30) [hc]
theorem execLedgerUpdateArrival_canon (p : Path) (s t' : State) (h : execLedgerUpdateArrival p s = .next t') (hc : SMap.wf resetWord s.regs = true) :
    SMap.wf resetWord t'.regs = true := by
  unfold execLedgerUpdateArrival at h; cases h; (try dsimp only); repeat' split
  all_goals simp (maxDischargeDepth := 30) [hc]
theorem execEntryExpiry_canon (idx : Nat) (s t' : State) (h : execEntryExpiry idx s = .next t') (hc : SMap.wf resetWord s.regs = true) :
    SMap.wf resetWord t'.regs = true := by
  unfold execEntryExpiry at h; cases h; simp (maxDischargeDepth := 30) [hc]
theorem execSnapshotSeal_canon (ready : List Bool) (s t' : State) (h : execSnapshotSeal ready s = .next t') (hc : SMap.wf resetWord s.regs = true) :
    SMap.wf resetWord t'.regs = true := by
  unfold execSnapshotSeal at h; cases h; simp (maxDischargeDepth := 30) [hc]
theorem execSnapReadAtSeal_canon (t : Nat) (s t' : State) (h : execSnapReadAtSeal t s = .next t') (hc : SMap.wf resetWord s.regs = true) :
    SMap.wf resetWord t'.regs = true := by
  unfold execSnapReadAtSeal at h; cases h; simp (maxDischargeDepth := 30) [hc]
theorem execStagedWriteArrival_canon (d : Die) (s t' : State) (h : execStagedWriteArrival d s = .next t') (hc : SMap.wf resetWord s.regs = true) :
    SMap.wf resetWord t'.regs = true := by
  unfold execStagedWriteArrival at h; cases h; simp (maxDischargeDepth := 30) [hc]
theorem execFrameCloseMessage_canon (d : Die) (s t' : State) (h : execFrameCloseMessage d s = .next t') (hc : SMap.wf resetWord s.regs = true) :
    SMap.wf resetWord t'.regs = true := by
  unfold execFrameCloseMessage at h; cases h; simp (maxDischargeDepth := 30) [hc]
theorem execDieBoundaryApply_canon (d : Die) (s t' : State) (h : execDieBoundaryApply d s = .next t') (hc : SMap.wf resetWord s.regs = true) :
    SMap.wf resetWord t'.regs = true := by
  unfold execDieBoundaryApply at h; cases h; simp (maxDischargeDepth := 30) [hc]
theorem execLimpEntry_canon (d : Die) (s t' : State) (h : execLimpEntry d s = .next t') (hc : SMap.wf resetWord s.regs = true) :
    SMap.wf resetWord t'.regs = true := by
  unfold execLimpEntry at h; cases h; simp (maxDischargeDepth := 30) [hc]
theorem execPwmPeriodStart_canon (u : PwmUnit) (s t' : State) (h : execPwmPeriodStart u s = .next t') (hc : SMap.wf resetWord s.regs = true) :
    SMap.wf resetWord t'.regs = true := by
  unfold execPwmPeriodStart at h; (try dsimp only at h); repeat' split at h
  all_goals first
    | (cases h; simp (maxDischargeDepth := 30) [hc])
    | cases h
theorem execPwmOnTimeEnd_canon (u : PwmUnit) (s t' : State) (h : execPwmOnTimeEnd u s = .next t') (hc : SMap.wf resetWord s.regs = true) :
    SMap.wf resetWord t'.regs = true := by
  unfold execPwmOnTimeEnd at h; (try dsimp only at h); repeat' split at h
  all_goals first
    | (cases h; simp (maxDischargeDepth := 30) [hc])
    | cases h
theorem execSenseSample_canon (d : Die) (x : Samples) (s t' : State) (h : execSenseSample d x s = .next t') (hc : SMap.wf resetWord s.regs = true) :
    SMap.wf resetWord t'.regs = true := by
  unfold execSenseSample at h; cases h; simp (maxDischargeDepth := 30) [hc]
theorem execSensingWindowEnd_canon (d : Die) (s t' : State) (h : execSensingWindowEnd d s = .next t') (hc : SMap.wf resetWord s.regs = true) :
    SMap.wf resetWord t'.regs = true := by
  unfold execSensingWindowEnd at h; cases h; simp (maxDischargeDepth := 30) [hc]
theorem execOverloadTrip_canon (u : Nat) (s t' : State) (h : execOverloadTrip u s = .next t') (hc : SMap.wf resetWord s.regs = true) :
    SMap.wf resetWord t'.regs = true := by
  unfold execOverloadTrip at h; cases h; simp (maxDischargeDepth := 30) [hc]
theorem execShortComparatorTrip_canon (u cur : Nat) (s t' : State) (h : execShortComparatorTrip u cur s = .next t') (hc : SMap.wf resetWord s.regs = true) :
    SMap.wf resetWord t'.regs = true := by
  unfold execShortComparatorTrip at h; cases h; simp (maxDischargeDepth := 30) [hc]
theorem execVdsTrip_canon (u vds : Nat) (s t' : State) (h : execVdsTrip u vds s = .next t') (hc : SMap.wf resetWord s.regs = true) :
    SMap.wf resetWord t'.regs = true := by
  unfold execVdsTrip at h; cases h; simp (maxDischargeDepth := 30) [hc]
theorem execEmberSet_canon (u : EmberUnit) (tj : Int) (ts : Nat) (s t' : State) (h : execEmberSet u tj ts s = .next t') (hc : SMap.wf resetWord s.regs = true) :
    SMap.wf resetWord t'.regs = true := by
  unfold execEmberSet at h; cases h; (try dsimp only); repeat' split
  all_goals simp (maxDischargeDepth := 30) [hc]
theorem execEmberRelease_canon (u : EmberUnit) (tj : Int) (ts : Nat) (s t' : State) (h : execEmberRelease u tj ts s = .next t') (hc : SMap.wf resetWord s.regs = true) :
    SMap.wf resetWord t'.regs = true := by
  unfold execEmberRelease at h; cases h; (try dsimp only); repeat' split
  all_goals simp (maxDischargeDepth := 30) [hc]
theorem execSnuffEnd_canon (u : Nat) (s t' : State) (h : execSnuffEnd u s = .next t') (hc : SMap.wf resetWord s.regs = true) :
    SMap.wf resetWord t'.regs = true := by
  unfold execSnuffEnd at h; cases h; simp (maxDischargeDepth := 30) [hc]
theorem execRetryDue_canon (u : Nat) (s t' : State) (h : execRetryDue u s = .next t') (hc : SMap.wf resetWord s.regs = true) :
    SMap.wf resetWord t'.regs = true := by
  unfold execRetryDue at h; cases h; simp (maxDischargeDepth := 30) [hc]
theorem execRetryRefill_canon (u : Nat) (s t' : State) (h : execRetryRefill u s = .next t') (hc : SMap.wf resetWord s.regs = true) :
    SMap.wf resetWord t'.regs = true := by
  unfold execRetryRefill at h; cases h; simp (maxDischargeDepth := 30) [hc]
theorem execWickStep_canon (d : Die) (s t' : State) (h : execWickStep d s = .next t') (hc : SMap.wf resetWord s.regs = true) :
    SMap.wf resetWord t'.regs = true := by
  unfold execWickStep at h; cases h; simp (maxDischargeDepth := 30) [hc]
theorem execBundleNodeMessage_canon (d : Die) (s t' : State) (h : execBundleNodeMessage d s = .next t') (hc : SMap.wf resetWord s.regs = true) :
    SMap.wf resetWord t'.regs = true := by
  unfold execBundleNodeMessage at h; cases h; simp (maxDischargeDepth := 30) [apply_ite State.regs, apply_ite (SMap.wf resetWord), hc]
theorem execBundleMessageTimeout_canon (d : Die) (s t' : State) (h : execBundleMessageTimeout d s = .next t') (hc : SMap.wf resetWord s.regs = true) :
    SMap.wf resetWord t'.regs = true := by
  unfold execBundleMessageTimeout at h; cases h; simp (maxDischargeDepth := 30) [hc]
theorem execPeriodicFeedback_canon (u : FbUnit) (x : Int) (s t' : State) (h : execPeriodicFeedback u x s = .next t') (hc : SMap.wf resetWord s.regs = true) :
    SMap.wf resetWord t'.regs = true := by
  unfold execPeriodicFeedback at h; cases h; simp (maxDischargeDepth := 30) [hc]
theorem execEntryResend_canon (idx : Nat) (s t' : State) (h : execEntryResend idx s = .next t') (hc : SMap.wf resetWord s.regs = true) :
    SMap.wf resetWord t'.regs = true := by
  unfold execEntryResend at h; cases h; simp (maxDischargeDepth := 30) [hc]
theorem execInrushWindowEnd_canon (u : Nat) (s t' : State) (h : execInrushWindowEnd u s = .next t') (hc : SMap.wf resetWord s.regs = true) :
    SMap.wf resetWord t'.regs = true := by
  unfold execInrushWindowEnd at h; cases h; simp (maxDischargeDepth := 30) [hc]
theorem execSoftStartCarrier_canon (u : Nat) (s t' : State) (h : execSoftStartCarrier u s = .next t') (hc : SMap.wf resetWord s.regs = true) :
    SMap.wf resetWord t'.regs = true := by
  unfold execSoftStartCarrier at h; cases h; simp (maxDischargeDepth := 30) [hc]
theorem execDroopDetected_canon (d : Die) (s t' : State) (h : execDroopDetected d s = .next t') (hc : SMap.wf resetWord s.regs = true) :
    SMap.wf resetWord t'.regs = true := by
  unfold execDroopDetected at h; cases h; simp (maxDischargeDepth := 30) [hc]
theorem execDroopNotice_canon (d : Die) (s t' : State) (h : execDroopNotice d s = .next t') (hc : SMap.wf resetWord s.regs = true) :
    SMap.wf resetWord t'.regs = true := by
  unfold execDroopNotice at h; cases h; simp (maxDischargeDepth := 30) [apply_ite State.regs, apply_ite (SMap.wf resetWord), hc]
theorem execDroopEndNotice_canon (d : Die) (s t' : State) (h : execDroopEndNotice d s = .next t') (hc : SMap.wf resetWord s.regs = true) :
    SMap.wf resetWord t'.regs = true := by
  unfold execDroopEndNotice at h; cases h; simp (maxDischargeDepth := 30) [apply_ite State.regs, apply_ite (SMap.wf resetWord), hc]
theorem execDroopCap_canon (d : Die) (s t' : State) (h : execDroopCap d s = .next t') (hc : SMap.wf resetWord s.regs = true) :
    SMap.wf resetWord t'.regs = true := by
  unfold execDroopCap at h; cases h; simp (maxDischargeDepth := 30) [hc]
theorem execDroopFreezeEnd_canon (d : Die) (s t' : State) (h : execDroopFreezeEnd d s = .next t') (hc : SMap.wf resetWord s.regs = true) :
    SMap.wf resetWord t'.regs = true := by
  unfold execDroopFreezeEnd at h; cases h; simp (maxDischargeDepth := 30) [hc]
theorem execOpenLoadTestStart_canon (u : Nat) (s t' : State) (h : execOpenLoadTestStart u s = .next t') (hc : SMap.wf resetWord s.regs = true) :
    SMap.wf resetWord t'.regs = true := by
  unfold execOpenLoadTestStart at h; cases h; simp (maxDischargeDepth := 30) [hc]
theorem execOpenLoadTestEnd_canon (u : Nat) (s t' : State) (h : execOpenLoadTestEnd u s = .next t') (hc : SMap.wf resetWord s.regs = true) :
    SMap.wf resetWord t'.regs = true := by
  unfold execOpenLoadTestEnd at h; cases h; simp (maxDischargeDepth := 30) [hc]
theorem execBridgeControlStep_canon (d : Die) (s t' : State) (h : execBridgeControlStep d s = .next t') (hc : SMap.wf resetWord s.regs = true) :
    SMap.wf resetWord t'.regs = true := by
  unfold execBridgeControlStep at h; cases h; simp (maxDischargeDepth := 30) [hc]
theorem execRippleEdge_canon (m : Nat) (s t' : State) (h : execRippleEdge m s = .next t') (hc : SMap.wf resetWord s.regs = true) :
    SMap.wf resetWord t'.regs = true := by
  unfold execRippleEdge at h; cases h; simp (maxDischargeDepth := 30) [hc]
theorem execMotorStall_canon (m : Nat) (s t' : State) (h : execMotorStall m s = .next t') (hc : SMap.wf resetWord s.regs = true) :
    SMap.wf resetWord t'.regs = true := by
  unfold execMotorStall at h; cases h; simp (maxDischargeDepth := 30) [hc]
theorem execMotorRunLimit_canon (m : Nat) (s t' : State) (h : execMotorRunLimit m s = .next t') (hc : SMap.wf resetWord s.regs = true) :
    SMap.wf resetWord t'.regs = true := by
  unfold execMotorRunLimit at h; cases h; simp (maxDischargeDepth := 30) [hc]
theorem execMotorStartBlankingEnd_canon (m : Nat) (s t' : State) (h : execMotorStartBlankingEnd m s = .next t') (hc : SMap.wf resetWord s.regs = true) :
    SMap.wf resetWord t'.regs = true := by
  unfold execMotorStartBlankingEnd at h; cases h; simp (maxDischargeDepth := 30) [hc]
theorem execPulseEnd_canon (m : Nat) (s t' : State) (h : execPulseEnd m s = .next t') (hc : SMap.wf resetWord s.regs = true) :
    SMap.wf resetWord t'.regs = true := by
  unfold execPulseEnd at h; cases h; simp (maxDischargeDepth := 30) [hc]
theorem execPinchBrakeEnd_canon (m : Nat) (s t' : State) (h : execPinchBrakeEnd m s = .next t') (hc : SMap.wf resetWord s.regs = true) :
    SMap.wf resetWord t'.regs = true := by
  unfold execPinchBrakeEnd at h; cases h; simp (maxDischargeDepth := 30) [hc]
theorem execReversalComplete_canon (m : Nat) (s t' : State) (h : execReversalComplete m s = .next t') (hc : SMap.wf resetWord s.regs = true) :
    SMap.wf resetWord t'.regs = true := by
  unfold execReversalComplete at h; cases h; simp (maxDischargeDepth := 30) [hc]
theorem execMotorSettleEnd_canon (m : Nat) (s t' : State) (h : execMotorSettleEnd m s = .next t') (hc : SMap.wf resetWord s.regs = true) :
    SMap.wf resetWord t'.regs = true := by
  unfold execMotorSettleEnd at h; cases h; simp (maxDischargeDepth := 30) [hc]
theorem execBridgeTrip_canon (m : Nat) (x : BridgeSense) (s t' : State) (h : execBridgeTrip m x s = .next t') (hc : SMap.wf resetWord s.regs = true) :
    SMap.wf resetWord t'.regs = true := by
  unfold execBridgeTrip at h; cases h; simp (maxDischargeDepth := 30) [hc]
theorem execMotorTrippedEnd_canon (m : Nat) (s t' : State) (h : execMotorTrippedEnd m s = .next t') (hc : SMap.wf resetWord s.regs = true) :
    SMap.wf resetWord t'.regs = true := by
  unfold execMotorTrippedEnd at h; cases h; simp (maxDischargeDepth := 30) [hc]
theorem execCurrentChop_canon (m cur : Nat) (s t' : State) (h : execCurrentChop m cur s = .next t') (hc : SMap.wf resetWord s.regs = true) :
    SMap.wf resetWord t'.regs = true := by
  unfold execCurrentChop at h; cases h; simp (maxDischargeDepth := 30) [hc]
theorem execChopOffEnd_canon (m : Nat) (s t' : State) (h : execChopOffEnd m s = .next t') (hc : SMap.wf resetWord s.regs = true) :
    SMap.wf resetWord t'.regs = true := by
  unfold execChopOffEnd at h; cases h; simp (maxDischargeDepth := 30) [hc]
theorem execBemfMeasureStart_canon (m : Nat) (s t' : State) (h : execBemfMeasureStart m s = .next t') (hc : SMap.wf resetWord s.regs = true) :
    SMap.wf resetWord t'.regs = true := by
  unfold execBemfMeasureStart at h; cases h; simp (maxDischargeDepth := 30) [hc]
theorem execBemfMeasureEnd_canon (m : Nat) (s t' : State) (h : execBemfMeasureEnd m s = .next t') (hc : SMap.wf resetWord s.regs = true) :
    SMap.wf resetWord t'.regs = true := by
  unfold execBemfMeasureEnd at h; cases h; simp (maxDischargeDepth := 30) [hc]
theorem execBridgeSeqOverrun_canon (d : Die) (s t' : State) (h : execBridgeSeqOverrun d s = .next t') (hc : SMap.wf resetWord s.regs = true) :
    SMap.wf resetWord t'.regs = true := by
  unfold execBridgeSeqOverrun at h; cases h; simp (maxDischargeDepth := 30) [hc]
theorem execValveControlStep_canon (b : Nat) (s t' : State) (h : execValveControlStep b s = .next t') (hc : SMap.wf resetWord s.regs = true) :
    SMap.wf resetWord t'.regs = true := by
  unfold execValveControlStep at h; cases h; simp (maxDischargeDepth := 30) [hc]
theorem execPeakEnd_canon (n : Nat) (s t' : State) (h : execPeakEnd n s = .next t') (hc : SMap.wf resetWord s.regs = true) :
    SMap.wf resetWord t'.regs = true := by
  unfold execPeakEnd at h; cases h; simp (maxDischargeDepth := 30) [apply_ite State.regs, apply_ite (SMap.wf resetWord), hc]
theorem execPeakFail_canon (n : Nat) (s t' : State) (h : execPeakFail n s = .next t') (hc : SMap.wf resetWord s.regs = true) :
    SMap.wf resetWord t'.regs = true := by
  unfold execPeakFail at h; cases h; simp (maxDischargeDepth := 30) [apply_ite State.regs, apply_ite (SMap.wf resetWord), hc]
theorem execReleaseTimeout_canon (n : Nat) (s t' : State) (h : execReleaseTimeout n s = .next t') (hc : SMap.wf resetWord s.regs = true) :
    SMap.wf resetWord t'.regs = true := by
  unfold execReleaseTimeout at h; cases h; simp (maxDischargeDepth := 30) [apply_ite State.regs, apply_ite (SMap.wf resetWord), hc]
theorem execLeashExpiry_canon (n : Nat) (s t' : State) (h : execLeashExpiry n s = .next t') (hc : SMap.wf resetWord s.regs = true) :
    SMap.wf resetWord t'.regs = true := by
  unfold execLeashExpiry at h; cases h; simp (maxDischargeDepth := 30) [apply_ite State.regs, apply_ite (SMap.wf resetWord), hc]
theorem execHoldLow_canon (n : Nat) (s t' : State) (h : execHoldLow n s = .next t') (hc : SMap.wf resetWord s.regs = true) :
    SMap.wf resetWord t'.regs = true := by
  unfold execHoldLow at h; cases h; simp (maxDischargeDepth := 30) [hc]
theorem execValveTrip_canon (n cur : Nat) (s t' : State) (h : execValveTrip n cur s = .next t') (hc : SMap.wf resetWord s.regs = true) :
    SMap.wf resetWord t'.regs = true := by
  unfold execValveTrip at h; cases h; simp (maxDischargeDepth := 30) [hc]
theorem execValveTrippedEnd_canon (n : Nat) (s t' : State) (h : execValveTrippedEnd n s = .next t') (hc : SMap.wf resetWord s.regs = true) :
    SMap.wf resetWord t'.regs = true := by
  unfold execValveTrippedEnd at h; cases h; simp (maxDischargeDepth := 30) [hc]
theorem execBankTrip_canon (b cur : Nat) (s t' : State) (h : execBankTrip b cur s = .next t') (hc : SMap.wf resetWord s.regs = true) :
    SMap.wf resetWord t'.regs = true := by
  unfold execBankTrip at h; cases h; simp (maxDischargeDepth := 30) [hc]
theorem execBankTrippedEnd_canon (b : Nat) (s t' : State) (h : execBankTrippedEnd b s = .next t') (hc : SMap.wf resetWord s.regs = true) :
    SMap.wf resetWord t'.regs = true := by
  unfold execBankTrippedEnd at h; cases h; simp (maxDischargeDepth := 30) [hc]
theorem execBankSeqOverrun_canon (b : Nat) (s t' : State) (h : execBankSeqOverrun b s = .next t') (hc : SMap.wf resetWord s.regs = true) :
    SMap.wf resetWord t'.regs = true := by
  unfold execBankSeqOverrun at h; cases h; simp (maxDischargeDepth := 30) [hc]
theorem execLedPeriodStart_canon (n : Nat) (s t' : State) (h : execLedPeriodStart n s = .next t') (hc : SMap.wf resetWord s.regs = true) :
    SMap.wf resetWord t'.regs = true := by
  unfold execLedPeriodStart at h; cases h; simp (maxDischargeDepth := 30) [hc]
theorem execLedOpen_canon (n : Nat) (s t' : State) (h : execLedOpen n s = .next t') (hc : SMap.wf resetWord s.regs = true) :
    SMap.wf resetWord t'.regs = true := by
  unfold execLedOpen at h; cases h; simp (maxDischargeDepth := 30) [hc]
theorem execLedOpenClear_canon (n : Nat) (s t' : State) (h : execLedOpenClear n s = .next t') (hc : SMap.wf resetWord s.regs = true) :
    SMap.wf resetWord t'.regs = true := by
  unfold execLedOpenClear at h; cases h; simp (maxDischargeDepth := 30) [hc]
theorem execLedShort_canon (n : Nat) (s t' : State) (h : execLedShort n s = .next t') (hc : SMap.wf resetWord s.regs = true) :
    SMap.wf resetWord t'.regs = true := by
  unfold execLedShort at h; cases h; simp (maxDischargeDepth := 30) [hc]
theorem execLedFoldbackStep_canon (tj : Int) (s t' : State) (h : execLedFoldbackStep tj s = .next t') (hc : SMap.wf resetWord s.regs = true) :
    SMap.wf resetWord t'.regs = true := by
  unfold execLedFoldbackStep at h; cases h; simp (maxDischargeDepth := 30) [hc]
theorem execInputRawEdge_canon (n vin : Nat) (s t' : State) (h : execInputRawEdge n vin s = .next t') (hc : SMap.wf resetWord s.regs = true) :
    SMap.wf resetWord t'.regs = true := by
  unfold execInputRawEdge at h; cases h; simp (maxDischargeDepth := 30) [hc]
theorem execPulsedWettingRead_canon (n vin : Nat) (s t' : State) (h : execPulsedWettingRead n vin s = .next t') (hc : SMap.wf resetWord s.regs = true) :
    SMap.wf resetWord t'.regs = true := by
  unfold execPulsedWettingRead at h; cases h; simp (maxDischargeDepth := 30) [hc]
theorem execDebounceAccept_canon (n : Nat) (s t' : State) (h : execDebounceAccept n s = .next t') (hc : SMap.wf resetWord s.regs = true) :
    SMap.wf resetWord t'.regs = true := by
  unfold execDebounceAccept at h; cases h; simp (maxDischargeDepth := 30) [hc]
theorem execInputChatter_canon (n : Nat) (s t' : State) (h : execInputChatter n s = .next t') (hc : SMap.wf resetWord s.regs = true) :
    SMap.wf resetWord t'.regs = true := by
  unfold execInputChatter at h; cases h; simp (maxDischargeDepth := 30) [hc]
theorem execLowbatSuspensionEnd_canon (n : Nat) (s t' : State) (h : execLowbatSuspensionEnd n s = .next t') (hc : SMap.wf resetWord s.regs = true) :
    SMap.wf resetWord t'.regs = true := by
  unfold execLowbatSuspensionEnd at h; cases h; simp (maxDischargeDepth := 30) [hc]
theorem execParkPoll_canon (vins : List Nat) (s t' : State) (h : execParkPoll vins s = .next t') (hc : SMap.wf resetWord s.regs = true) :
    SMap.wf resetWord t'.regs = true := by
  unfold execParkPoll at h; cases h; simp (maxDischargeDepth := 30) [hc]
theorem execBudgetAbort_canon (c : Nat) (s t' : State) (h : execBudgetAbort c s = .next t') (hc : SMap.wf resetWord s.regs = true) :
    SMap.wf resetWord t'.regs = true := by
  unfold execBudgetAbort at h; cases h; simp (maxDischargeDepth := 30) [hc]
theorem execCoreFailure_canon (c cause : Nat) (s t' : State) (h : execCoreFailure c cause s = .next t') (hc : SMap.wf resetWord s.regs = true) :
    SMap.wf resetWord t'.regs = true := by
  unfold execCoreFailure at h; cases h; simp (maxDischargeDepth := 30) [apply_ite State.regs, apply_ite (SMap.wf resetWord), hc]
theorem execCoreSelfTestEnd_canon (c : Nat) (pass : Bool) (s t' : State) (h : execCoreSelfTestEnd c pass s = .next t') (hc : SMap.wf resetWord s.regs = true) :
    SMap.wf resetWord t'.regs = true := by
  unfold execCoreSelfTestEnd at h; cases h; simp (maxDischargeDepth := 30) [hc]
theorem execImmediateApply_canon (d : Die) (s t' : State) (h : execImmediateApply d s = .next t') (hc : SMap.wf resetWord s.regs = true) :
    SMap.wf resetWord t'.regs = true := by
  unfold execImmediateApply at h; cases h; simp (maxDischargeDepth := 30) [hc]
theorem execAdd_canon (k : CoreId) (d a b : Nat) (s t' : State) (h : execAdd k d a b s = .next t') (hc : SMap.wf resetWord s.regs = true) :
    SMap.wf resetWord t'.regs = true := by
  unfold execAdd at h; cases h; simp (maxDischargeDepth := 30) [hc]
theorem execSub_canon (k : CoreId) (d a b : Nat) (s t' : State) (h : execSub k d a b s = .next t') (hc : SMap.wf resetWord s.regs = true) :
    SMap.wf resetWord t'.regs = true := by
  unfold execSub at h; cases h; simp (maxDischargeDepth := 30) [hc]
theorem execAndI_canon (k : CoreId) (d a b : Nat) (s t' : State) (h : execAndI k d a b s = .next t') (hc : SMap.wf resetWord s.regs = true) :
    SMap.wf resetWord t'.regs = true := by
  unfold execAndI at h; cases h; simp (maxDischargeDepth := 30) [hc]
theorem execOrI_canon (k : CoreId) (d a b : Nat) (s t' : State) (h : execOrI k d a b s = .next t') (hc : SMap.wf resetWord s.regs = true) :
    SMap.wf resetWord t'.regs = true := by
  unfold execOrI at h; cases h; simp (maxDischargeDepth := 30) [hc]
theorem execXorI_canon (k : CoreId) (d a b : Nat) (s t' : State) (h : execXorI k d a b s = .next t') (hc : SMap.wf resetWord s.regs = true) :
    SMap.wf resetWord t'.regs = true := by
  unfold execXorI at h; cases h; simp (maxDischargeDepth := 30) [hc]
theorem execSll_canon (k : CoreId) (d a b : Nat) (s t' : State) (h : execSll k d a b s = .next t') (hc : SMap.wf resetWord s.regs = true) :
    SMap.wf resetWord t'.regs = true := by
  unfold execSll at h; cases h; simp (maxDischargeDepth := 30) [hc]
theorem execSrl_canon (k : CoreId) (d a b : Nat) (s t' : State) (h : execSrl k d a b s = .next t') (hc : SMap.wf resetWord s.regs = true) :
    SMap.wf resetWord t'.regs = true := by
  unfold execSrl at h; cases h; simp (maxDischargeDepth := 30) [hc]
theorem execSra_canon (k : CoreId) (d a b : Nat) (s t' : State) (h : execSra k d a b s = .next t') (hc : SMap.wf resetWord s.regs = true) :
    SMap.wf resetWord t'.regs = true := by
  unfold execSra at h; cases h; simp (maxDischargeDepth := 30) [hc]
theorem execSlt_canon (k : CoreId) (d a b : Nat) (s t' : State) (h : execSlt k d a b s = .next t') (hc : SMap.wf resetWord s.regs = true) :
    SMap.wf resetWord t'.regs = true := by
  unfold execSlt at h; cases h; simp (maxDischargeDepth := 30) [hc]
theorem execSltu_canon (k : CoreId) (d a b : Nat) (s t' : State) (h : execSltu k d a b s = .next t') (hc : SMap.wf resetWord s.regs = true) :
    SMap.wf resetWord t'.regs = true := by
  unfold execSltu at h; cases h; simp (maxDischargeDepth := 30) [hc]
theorem execNopInstruction_canon (k : CoreId) (s t' : State) (h : execNopInstruction k s = .next t') (hc : SMap.wf resetWord s.regs = true) :
    SMap.wf resetWord t'.regs = true := by
  unfold execNopInstruction at h; cases h; simp (maxDischargeDepth := 30) [hc]
theorem execEndI_canon (k : CoreId) (s t' : State) (h : execEndI k s = .next t') (hc : SMap.wf resetWord s.regs = true) :
    SMap.wf resetWord t'.regs = true := by
  unfold execEndI at h; cases h; simp (maxDischargeDepth := 30) [hc]
theorem execAddi_canon (k : CoreId) (d a : Nat) (imm : BitVec 16) (s t' : State) (h : execAddi k d a imm s = .next t') (hc : SMap.wf resetWord s.regs = true) :
    SMap.wf resetWord t'.regs = true := by
  unfold execAddi at h; cases h; simp (maxDischargeDepth := 30) [hc]
theorem execAndi_canon (k : CoreId) (d a : Nat) (imm : BitVec 16) (s t' : State) (h : execAndi k d a imm s = .next t') (hc : SMap.wf resetWord s.regs = true) :
    SMap.wf resetWord t'.regs = true := by
  unfold execAndi at h; cases h; simp (maxDischargeDepth := 30) [hc]
theorem execOri_canon (k : CoreId) (d a : Nat) (imm : BitVec 16) (s t' : State) (h : execOri k d a imm s = .next t') (hc : SMap.wf resetWord s.regs = true) :
    SMap.wf resetWord t'.regs = true := by
  unfold execOri at h; cases h; simp (maxDischargeDepth := 30) [hc]
theorem execXori_canon (k : CoreId) (d a : Nat) (imm : BitVec 16) (s t' : State) (h : execXori k d a imm s = .next t') (hc : SMap.wf resetWord s.regs = true) :
    SMap.wf resetWord t'.regs = true := by
  unfold execXori at h; cases h; simp (maxDischargeDepth := 30) [hc]
theorem execSlli_canon (k : CoreId) (d a : Nat) (imm : BitVec 16) (s t' : State) (h : execSlli k d a imm s = .next t') (hc : SMap.wf resetWord s.regs = true) :
    SMap.wf resetWord t'.regs = true := by
  unfold execSlli at h; cases h; simp (maxDischargeDepth := 30) [hc]
theorem execSrli_canon (k : CoreId) (d a : Nat) (imm : BitVec 16) (s t' : State) (h : execSrli k d a imm s = .next t') (hc : SMap.wf resetWord s.regs = true) :
    SMap.wf resetWord t'.regs = true := by
  unfold execSrli at h; cases h; simp (maxDischargeDepth := 30) [hc]
theorem execSrai_canon (k : CoreId) (d a : Nat) (imm : BitVec 16) (s t' : State) (h : execSrai k d a imm s = .next t') (hc : SMap.wf resetWord s.regs = true) :
    SMap.wf resetWord t'.regs = true := by
  unfold execSrai at h; cases h; simp (maxDischargeDepth := 30) [hc]
theorem execLui_canon (k : CoreId) (d : Nat) (imm : BitVec 16) (s t' : State) (h : execLui k d imm s = .next t') (hc : SMap.wf resetWord s.regs = true) :
    SMap.wf resetWord t'.regs = true := by
  unfold execLui at h; cases h; simp (maxDischargeDepth := 30) [hc]
theorem execSlti_canon (k : CoreId) (d a : Nat) (imm : BitVec 16) (s t' : State) (h : execSlti k d a imm s = .next t') (hc : SMap.wf resetWord s.regs = true) :
    SMap.wf resetWord t'.regs = true := by
  unfold execSlti at h; cases h; simp (maxDischargeDepth := 30) [hc]
theorem execMul_canon (k : CoreId) (a b : Nat) (s t' : State) (h : execMul k a b s = .next t') (hc : SMap.wf resetWord s.regs = true) :
    SMap.wf resetWord t'.regs = true := by
  unfold execMul at h; cases h; simp (maxDischargeDepth := 30) [hc]
theorem execMulu_canon (k : CoreId) (a b : Nat) (s t' : State) (h : execMulu k a b s = .next t') (hc : SMap.wf resetWord s.regs = true) :
    SMap.wf resetWord t'.regs = true := by
  unfold execMulu at h; cases h; simp (maxDischargeDepth := 30) [hc]
theorem execMac_canon (k : CoreId) (a b : Nat) (s t' : State) (h : execMac k a b s = .next t') (hc : SMap.wf resetWord s.regs = true) :
    SMap.wf resetWord t'.regs = true := by
  unfold execMac at h; cases h; simp (maxDischargeDepth := 30) [hc]
theorem execMultiplierResult_canon (k : CoreId) (s t' : State) (h : execMultiplierResult k s = .next t') (hc : SMap.wf resetWord s.regs = true) :
    SMap.wf resetWord t'.regs = true := by
  unfold execMultiplierResult at h; cases h; simp (maxDischargeDepth := 30) [hc]
theorem execMfs_canon (k : CoreId) (d sp : Nat) (s t' : State) (h : execMfs k d sp s = .next t') (hc : SMap.wf resetWord s.regs = true) :
    SMap.wf resetWord t'.regs = true := by
  unfold execMfs at h; cases h; simp (maxDischargeDepth := 30) [hc]
theorem execMts_canon (k : CoreId) (sp a : Nat) (s t' : State) (h : execMts k sp a s = .next t') (hc : SMap.wf resetWord s.regs = true) :
    SMap.wf resetWord t'.regs = true := by
  unfold execMts at h; cases h; simp (maxDischargeDepth := 30) [hc]
theorem execLdw_canon (k : CoreId) (d a : Nat) (imm : BitVec 16) (s t' : State) (h : execLdw k d a imm s = .next t') (hc : SMap.wf resetWord s.regs = true) :
    SMap.wf resetWord t'.regs = true := by
  unfold execLdw at h; cases h; simp (maxDischargeDepth := 30) [hc]
theorem execStw_canon (k : CoreId) (d a : Nat) (imm : BitVec 16) (s t' : State) (h : execStw k d a imm s = .next t') (hc : SMap.wf resetWord s.regs = true) :
    SMap.wf resetWord t'.regs = true := by
  unfold execStw at h; cases h; simp (maxDischargeDepth := 30) [hc]
theorem execBc_canon (k : CoreId) (a b cond : Nat) (off : BitVec 13) (s t' : State) (h : execBc k a b cond off s = .next t') (hc : SMap.wf resetWord s.regs = true) :
    SMap.wf resetWord t'.regs = true := by
  unfold execBc at h; cases h; simp (maxDischargeDepth := 30) [hc]
theorem execPrd_canon (k : CoreId) (d port : Nat) (s t' : State) (h : execPrd k d port s = .next t') (hc : SMap.wf resetWord s.regs = true) :
    SMap.wf resetWord t'.regs = true := by
  unfold execPrd at h; cases h; simp (maxDischargeDepth := 30) [hc]
theorem execPwr_canon (k : CoreId) (a port : Nat) (s t' : State) (h : execPwr k a port s = .next t') (hc : SMap.wf resetWord s.regs = true) :
    SMap.wf resetWord t'.regs = true := by
  unfold execPwr at h; cases h; simp (maxDischargeDepth := 30) [hc]
theorem execLdv_canon (k : CoreId) (d index : Nat) (s t' : State) (h : execLdv k d index s = .next t') (hc : SMap.wf resetWord s.regs = true) :
    SMap.wf resetWord t'.regs = true := by
  unfold execLdv at h; cases h; simp (maxDischargeDepth := 30) [hc]
theorem execLde_canon (k : CoreId) (d index : Nat) (s t' : State) (h : execLde k d index s = .next t') (hc : SMap.wf resetWord s.regs = true) :
    SMap.wf resetWord t'.regs = true := by
  unfold execLde at h; cases h; simp (maxDischargeDepth := 30) [hc]
theorem execLdvx_canon (k : CoreId) (d a : Nat) (s t' : State) (h : execLdvx k d a s = .next t') (hc : SMap.wf resetWord s.regs = true) :
    SMap.wf resetWord t'.regs = true := by
  unfold execLdvx at h; cases h; simp (maxDischargeDepth := 30) [hc]
theorem execLdex_canon (k : CoreId) (d a : Nat) (s t' : State) (h : execLdex k d a s = .next t') (hc : SMap.wf resetWord s.regs = true) :
    SMap.wf resetWord t'.regs = true := by
  unfold execLdex at h; cases h; simp (maxDischargeDepth := 30) [hc]
theorem execLdb_canon (k : CoreId) (d a b : Nat) (s t' : State) (h : execLdb k d a b s = .next t') (hc : SMap.wf resetWord s.regs = true) :
    SMap.wf resetWord t'.regs = true := by
  unfold execLdb at h; cases h; simp (maxDischargeDepth := 30) [hc]
theorem execSte_canon (k : CoreId) (d index : Nat) (s t' : State) (h : execSte k d index s = .next t') (hc : SMap.wf resetWord s.regs = true) :
    SMap.wf resetWord t'.regs = true := by
  unfold execSte at h; cases h; simp (maxDischargeDepth := 30) [hc]
theorem execStex_canon (k : CoreId) (d a : Nat) (s t' : State) (h : execStex k d a s = .next t') (hc : SMap.wf resetWord s.regs = true) :
    SMap.wf resetWord t'.regs = true := by
  unfold execStex at h; cases h; simp (maxDischargeDepth := 30) [hc]
theorem execBr_canon (k : CoreId) (off : BitVec 26) (s t' : State) (h : execBr k off s = .next t') (hc : SMap.wf resetWord s.regs = true) :
    SMap.wf resetWord t'.regs = true := by
  unfold execBr at h; cases h; simp (maxDischargeDepth := 30) [hc]
theorem execBl_canon (k : CoreId) (off : BitVec 26) (s t' : State) (h : execBl k off s = .next t') (hc : SMap.wf resetWord s.regs = true) :
    SMap.wf resetWord t'.regs = true := by
  unfold execBl at h; cases h; simp (maxDischargeDepth := 30) [hc]
theorem execJr_canon (k : CoreId) (a : Nat) (s t' : State) (h : execJr k a s = .next t') (hc : SMap.wf resetWord s.regs = true) :
    SMap.wf resetWord t'.regs = true := by
  unfold execJr at h; cases h; simp (maxDischargeDepth := 30) [hc]
theorem execSk_canon (k : CoreId) (a b cond : Nat) (s t' : State) (h : execSk k a b cond s = .next t') (hc : SMap.wf resetWord s.regs = true) :
    SMap.wf resetWord t'.regs = true := by
  unfold execSk at h; cases h; simp (maxDischargeDepth := 30) [hc]
theorem execSki_canon (k : CoreId) (a cond : Nat) (imm : BitVec 16) (s t' : State) (h : execSki k a cond imm s = .next t') (hc : SMap.wf resetWord s.regs = true) :
    SMap.wf resetWord t'.regs = true := by
  unfold execSki at h; cases h; simp (maxDischargeDepth := 30) [hc]
theorem execSkst_canon (k : CoreId) (mask : BitVec 4) (s t' : State) (h : execSkst k mask s = .next t') (hc : SMap.wf resetWord s.regs = true) :
    SMap.wf resetWord t'.regs = true := by
  unfold execSkst at h; cases h; simp (maxDischargeDepth := 30) [hc]
theorem execLoop_canon (k : CoreId) (a : Nat) (n : BitVec 16) (s t' : State) (h : execLoop k a n s = .next t') (hc : SMap.wf resetWord s.regs = true) :
    SMap.wf resetWord t'.regs = true := by
  unfold execLoop at h; cases h; simp (maxDischargeDepth := 30) [hc]
theorem execLoopi_canon (k : CoreId) (cnt : BitVec 12) (n : BitVec 14) (s t' : State) (h : execLoopi k cnt n s = .next t') (hc : SMap.wf resetWord s.regs = true) :
    SMap.wf resetWord t'.regs = true := by
  unfold execLoopi at h; cases h; simp (maxDischargeDepth := 30) [hc]
theorem execCanFrameReceived_canon (c : Nat) (f : CanFrame) (s t' : State) (h : execCanFrameReceived c f s = .next t') (hc : SMap.wf resetWord s.regs = true) :
    SMap.wf resetWord t'.regs = true := by
  unfold execCanFrameReceived at h; cases h; simp (maxDischargeDepth := 30) [hc]
theorem execCanTxStart_canon (c : Nat) (s t' : State) (h : execCanTxStart c s = .next t') (hc : SMap.wf resetWord s.regs = true) :
    SMap.wf resetWord t'.regs = true := by
  unfold execCanTxStart at h; cases h; simp (maxDischargeDepth := 30) [hc]
theorem execCanFrameSent_canon (c tdcv : Nat) (s t' : State) (h : execCanFrameSent c tdcv s = .next t') (hc : SMap.wf resetWord s.regs = true) :
    SMap.wf resetWord t'.regs = true := by
  unfold execCanFrameSent at h; cases h; simp (maxDischargeDepth := 30) [hc]
theorem execCanArbitrationLost_canon (c : Nat) (s t' : State) (h : execCanArbitrationLost c s = .next t') (hc : SMap.wf resetWord s.regs = true) :
    SMap.wf resetWord t'.regs = true := by
  unfold execCanArbitrationLost at h; cases h; simp (maxDischargeDepth := 30) [hc]
theorem execCanError_canon (c : Nat) (x : CanErr) (tec rec : Nat) (s t' : State) (h : execCanError c x tec rec s = .next t') (hc : SMap.wf resetWord s.regs = true) :
    SMap.wf resetWord t'.regs = true := by
  unfold execCanError at h; cases h; simp (maxDischargeDepth := 30) [hc]
theorem execBusoffHoldEnd_canon (c : Nat) (s t' : State) (h : execBusoffHoldEnd c s = .next t') (hc : SMap.wf resetWord s.regs = true) :
    SMap.wf resetWord t'.regs = true := by
  unfold execBusoffHoldEnd at h; cases h; simp (maxDischargeDepth := 30) [hc]
theorem execBusoffRecoveryDone_canon (c : Nat) (s t' : State) (h : execBusoffRecoveryDone c s = .next t') (hc : SMap.wf resetWord s.regs = true) :
    SMap.wf resetWord t'.regs = true := by
  unfold execBusoffRecoveryDone at h; cases h; simp (maxDischargeDepth := 30) [hc]
theorem execCanSyncDone_canon (c : Nat) (s t' : State) (h : execCanSyncDone c s = .next t') (hc : SMap.wf resetWord s.regs = true) :
    SMap.wf resetWord t'.regs = true := by
  unfold execCanSyncDone at h; cases h; simp (maxDischargeDepth := 30) [apply_ite State.regs, apply_ite (SMap.wf resetWord), hc]
theorem execBusoffCountReset_canon (c : Nat) (s t' : State) (h : execBusoffCountReset c s = .next t') (hc : SMap.wf resetWord s.regs = true) :
    SMap.wf resetWord t'.regs = true := by
  unfold execBusoffCountReset at h; cases h; simp (maxDischargeDepth := 30) [apply_ite State.regs, apply_ite (SMap.wf resetWord), hc]
theorem execCanWakeFrame_canon (c : Nat) (f : CanFrame) (good : Bool) (s t' : State) (h : execCanWakeFrame c f good s = .next t') (hc : SMap.wf resetWord s.regs = true) :
    SMap.wf resetWord t'.regs = true := by
  unfold execCanWakeFrame at h; cases h; simp (maxDischargeDepth := 30) [hc]
theorem execCanWakePattern_canon (c : Nat) (s t' : State) (h : execCanWakePattern c s = .next t') (hc : SMap.wf resetWord s.regs = true) :
    SMap.wf resetWord t'.regs = true := by
  unfold execCanWakePattern at h; cases h; simp (maxDischargeDepth := 30) [hc]
theorem execLinSlotStart_canon (n : Nat) (s t' : State) (h : execLinSlotStart n s = .next t') (hc : SMap.wf resetWord s.regs = true) :
    SMap.wf resetWord t'.regs = true := by
  unfold execLinSlotStart at h; cases h; simp (maxDischargeDepth := 30) [hc]
theorem execLinHeaderReceived_canon (n pid : Nat) (x : LinHead) (s t' : State) (h : execLinHeaderReceived n pid x s = .next t') (hc : SMap.wf resetWord s.regs = true) :
    SMap.wf resetWord t'.regs = true := by
  unfold execLinHeaderReceived at h; cases h; simp (maxDischargeDepth := 30) [hc]
theorem execLinFrameReceived_canon (n : Nat) (f : LinFrame) (s t' : State) (h : execLinFrameReceived n f s = .next t') (hc : SMap.wf resetWord s.regs = true) :
    SMap.wf resetWord t'.regs = true := by
  unfold execLinFrameReceived at h; cases h; simp (maxDischargeDepth := 30) [hc]
theorem execLinBusIdleTimeout_canon (n : Nat) (s t' : State) (h : execLinBusIdleTimeout n s = .next t') (hc : SMap.wf resetWord s.regs = true) :
    SMap.wf resetWord t'.regs = true := by
  unfold execLinBusIdleTimeout at h; cases h; simp (maxDischargeDepth := 30) [hc]
theorem execLinWakeRetry_canon (n : Nat) (s t' : State) (h : execLinWakeRetry n s = .next t') (hc : SMap.wf resetWord s.regs = true) :
    SMap.wf resetWord t'.regs = true := by
  unfold execLinWakeRetry at h; cases h; simp (maxDischargeDepth := 30) [hc]
theorem execLinRemoteWake_canon (n ticks : Nat) (s t' : State) (h : execLinRemoteWake n ticks s = .next t') (hc : SMap.wf resetWord s.regs = true) :
    SMap.wf resetWord t'.regs = true := by
  unfold execLinRemoteWake at h; cases h; simp (maxDischargeDepth := 30) [hc]
theorem execLinScheduleRestart_canon (n : Nat) (s t' : State) (h : execLinScheduleRestart n s = .next t') (hc : SMap.wf resetWord s.regs = true) :
    SMap.wf resetWord t'.regs = true := by
  unfold execLinScheduleRestart at h; cases h; simp (maxDischargeDepth := 30) [hc]
theorem execEthFrameReceived_canon (p : Nat) (f : List Byte) (s t' : State) (h : execEthFrameReceived p f s = .next t') (hc : SMap.wf resetWord s.regs = true) :
    SMap.wf resetWord t'.regs = true := by
  unfold execEthFrameReceived at h; cases h; simp (maxDischargeDepth := 30) [hc]
theorem execEthFrameTxStart_canon (p : Nat) (s t' : State) (h : execEthFrameTxStart p s = .next t') (hc : SMap.wf resetWord s.regs = true) :
    SMap.wf resetWord t'.regs = true := by
  unfold execEthFrameTxStart at h; cases h; simp (maxDischargeDepth := 30) [hc]
theorem execEthLinkChange_canon (p : Nat) (link : Bool) (speed : Nat) (plca : Bool) (s t' : State) (h : execEthLinkChange p link speed plca s = .next t') (hc : SMap.wf resetWord s.regs = true) :
    SMap.wf resetWord t'.regs = true := by
  unfold execEthLinkChange at h; cases h; simp (maxDischargeDepth := 30) [hc]
theorem execPdelayReqReceived_canon (p seq : Nat) (s t' : State) (h : execPdelayReqReceived p seq s = .next t') (hc : SMap.wf resetWord s.regs = true) :
    SMap.wf resetWord t'.regs = true := by
  unfold execPdelayReqReceived at h; cases h; simp (maxDischargeDepth := 30) [hc]
theorem execDoorbellData_canon (x : ReadResult) (s t' : State) (h : execDoorbellData x s = .next t') (hc : SMap.wf resetWord s.regs = true) :
    SMap.wf resetWord t'.regs = true := by
  unfold execDoorbellData at h; cases h; simp (maxDischargeDepth := 30) [hc]
theorem execDescriptorAccept_canon (q : Nat) (x : ReadResult) (s t' : State) (h : execDescriptorAccept q x s = .next t') (hc : SMap.wf resetWord s.regs = true) :
    SMap.wf resetWord t'.regs = true := by
  unfold execDescriptorAccept at h; cases h; simp (maxDischargeDepth := 30) [hc]
theorem execCqModerationTimer_canon (q : Nat) (s t' : State) (h : execCqModerationTimer q s = .next t') (hc : SMap.wf resetWord s.regs = true) :
    SMap.wf resetWord t'.regs = true := by
  unfold execCqModerationTimer at h; cases h; simp (maxDischargeDepth := 30) [hc]
theorem execRingDrainTimeout_canon (q : Nat) (s t' : State) (h : execRingDrainTimeout q s = .next t') (hc : SMap.wf resetWord s.regs = true) :
    SMap.wf resetWord t'.regs = true := by
  unfold execRingDrainTimeout at h; cases h; simp (maxDischargeDepth := 30) [hc]
theorem execNop_canon (t : Nat) (s t' : State) (h : execNop t s = .next t') (hc : SMap.wf resetWord s.regs = true) :
    SMap.wf resetWord t'.regs = true := by
  unfold execNop at h; cases h; simp (maxDischargeDepth := 30) [hc]
theorem execRingAdd_canon (t : Nat) (s t' : State) (h : execRingAdd t s = .next t') (hc : SMap.wf resetWord s.regs = true) :
    SMap.wf resetWord t'.regs = true := by
  unfold execRingAdd at h; cases h; simp (maxDischargeDepth := 30) [hc]
theorem execRingRemove_canon (t : Nat) (s t' : State) (h : execRingRemove t s = .next t') (hc : SMap.wf resetWord s.regs = true) :
    SMap.wf resetWord t'.regs = true := by
  unfold execRingRemove at h; cases h; simp (maxDischargeDepth := 30) [hc]
theorem execFuncReset_canon (t : Nat) (s t' : State) (h : execFuncReset t s = .next t') (hc : SMap.wf resetWord s.regs = true) :
    SMap.wf resetWord t'.regs = true := by
  unfold execFuncReset at h; cases h; simp (maxDischargeDepth := 30) [hc]
theorem execLedgerWrite_canon (t : Nat) (x : ReadResult) (s t' : State) (h : execLedgerWrite t x s = .next t') (hc : SMap.wf resetWord s.regs = true) :
    SMap.wf resetWord t'.regs = true := by
  unfold execLedgerWrite at h; cases h; simp (maxDischargeDepth := 30) [hc]
theorem execLedgerRead_canon (t : Nat) (s t' : State) (h : execLedgerRead t s = .next t') (hc : SMap.wf resetWord s.regs = true) :
    SMap.wf resetWord t'.regs = true := by
  unfold execLedgerRead at h; cases h; simp (maxDischargeDepth := 30) [hc]
theorem execImmediateWrite_canon (t : Nat) (s t' : State) (h : execImmediateWrite t s = .next t') (hc : SMap.wf resetWord s.regs = true) :
    SMap.wf resetWord t'.regs = true := by
  unfold execImmediateWrite at h; cases h; simp (maxDischargeDepth := 30) [hc]
theorem execUnitClear_canon (t : Nat) (s t' : State) (h : execUnitClear t s = .next t') (hc : SMap.wf resetWord s.regs = true) :
    SMap.wf resetWord t'.regs = true := by
  unfold execUnitClear at h; cases h; simp (maxDischargeDepth := 30) [hc]
theorem execCoreService_canon (t : Nat) (s t' : State) (h : execCoreService t s = .next t') (hc : SMap.wf resetWord s.regs = true) :
    SMap.wf resetWord t'.regs = true := by
  unfold execCoreService at h; cases h; simp (maxDischargeDepth := 30) [hc]
theorem execCanTx_canon (t : Nat) (x : ReadResult) (s t' : State) (h : execCanTx t x s = .next t') (hc : SMap.wf resetWord s.regs = true) :
    SMap.wf resetWord t'.regs = true := by
  unfold execCanTx at h; cases h; simp (maxDischargeDepth := 30) [hc]
theorem execCanCancel_canon (t : Nat) (s t' : State) (h : execCanCancel t s = .next t') (hc : SMap.wf resetWord s.regs = true) :
    SMap.wf resetWord t'.regs = true := by
  unfold execCanCancel at h; cases h; simp (maxDischargeDepth := 30) [hc]
theorem execCanRecover_canon (t : Nat) (s t' : State) (h : execCanRecover t s = .next t') (hc : SMap.wf resetWord s.regs = true) :
    SMap.wf resetWord t'.regs = true := by
  unfold execCanRecover at h; cases h; simp (maxDischargeDepth := 30) [hc]
theorem execCanMode_canon (t : Nat) (s t' : State) (h : execCanMode t s = .next t') (hc : SMap.wf resetWord s.regs = true) :
    SMap.wf resetWord t'.regs = true := by
  unfold execCanMode at h; cases h; simp (maxDischargeDepth := 30) [hc]
theorem execRxPost_canon (t : Nat) (s t' : State) (h : execRxPost t s = .next t') (hc : SMap.wf resetWord s.regs = true) :
    SMap.wf resetWord t'.regs = true := by
  unfold execRxPost at h; cases h; simp (maxDischargeDepth := 30) [hc]
theorem execLinSched_canon (t : Nat) (s t' : State) (h : execLinSched t s = .next t') (hc : SMap.wf resetWord s.regs = true) :
    SMap.wf resetWord t'.regs = true := by
  unfold execLinSched at h; cases h; simp (maxDischargeDepth := 30) [hc]
theorem execLinDiag_canon (t : Nat) (s t' : State) (h : execLinDiag t s = .next t') (hc : SMap.wf resetWord s.regs = true) :
    SMap.wf resetWord t'.regs = true := by
  unfold execLinDiag at h; cases h; simp (maxDischargeDepth := 30) [hc]
theorem execEthTx_canon (t : Nat) (x : ReadResult) (s t' : State) (h : execEthTx t x s = .next t') (hc : SMap.wf resetWord s.regs = true) :
    SMap.wf resetWord t'.regs = true := by
  unfold execEthTx at h; cases h; simp (maxDischargeDepth := 30) [hc]
theorem execCipher_canon (t : Nat) (x aux : ReadResult) (s t' : State) (h : execCipher t x aux s = .next t') (hc : SMap.wf resetWord s.regs = true) :
    SMap.wf resetWord t'.regs = true := by
  unfold execCipher at h; cases h; simp (maxDischargeDepth := 30) [hc]
theorem execHash_canon (t : Nat) (x : ReadResult) (s t' : State) (h : execHash t x s = .next t') (hc : SMap.wf resetWord s.regs = true) :
    SMap.wf resetWord t'.regs = true := by
  unfold execHash at h; cases h; simp (maxDischargeDepth := 30) [hc]
theorem execDerive_canon (t : Nat) (s t' : State) (h : execDerive t s = .next t') (hc : SMap.wf resetWord s.regs = true) :
    SMap.wf resetWord t'.regs = true := by
  unfold execDerive at h; cases h; simp (maxDischargeDepth := 30) [hc]
theorem execSlotRetire_canon (t : Nat) (s t' : State) (h : execSlotRetire t s = .next t') (hc : SMap.wf resetWord s.regs = true) :
    SMap.wf resetWord t'.regs = true := by
  unfold execSlotRetire at h; cases h; simp (maxDischargeDepth := 30) [hc]
theorem execSlotClear_canon (t : Nat) (s t' : State) (h : execSlotClear t s = .next t') (hc : SMap.wf resetWord s.regs = true) :
    SMap.wf resetWord t'.regs = true := by
  unfold execSlotClear at h; cases h; simp (maxDischargeDepth := 30) [hc]
theorem execAlarm_canon (t : Nat) (s t' : State) (h : execAlarm t s = .next t') (hc : SMap.wf resetWord s.regs = true) :
    SMap.wf resetWord t'.regs = true := by
  unfold execAlarm at h; cases h; simp (maxDischargeDepth := 30) [hc]
theorem execCipherRequestStart_canon (i : Nat) (s t' : State) (h : execCipherRequestStart i s = .next t') (hc : SMap.wf resetWord s.regs = true) :
    SMap.wf resetWord t'.regs = true := by
  unfold execCipherRequestStart at h; cases h; simp (maxDischargeDepth := 30) [hc]
theorem execNonceCeilingWritten_canon (i : Nat) (s t' : State) (h : execNonceCeilingWritten i s = .next t') (hc : SMap.wf resetWord s.regs = true) :
    SMap.wf resetWord t'.regs = true := by
  unfold execNonceCeilingWritten at h; cases h; simp (maxDischargeDepth := 30) [hc]
theorem execCipherRequestEnd_canon (i : Nat) (s t' : State) (h : execCipherRequestEnd i s = .next t') (hc : SMap.wf resetWord s.regs = true) :
    SMap.wf resetWord t'.regs = true := by
  unfold execCipherRequestEnd at h; cases h; simp (maxDischargeDepth := 30) [hc]
theorem execCipherAlarm_canon (a : AlarmSrc) (s t' : State) (h : execCipherAlarm a s = .next t') (hc : SMap.wf resetWord s.regs = true) :
    SMap.wf resetWord t'.regs = true := by
  unfold execCipherAlarm at h; cases h; simp (maxDischargeDepth := 30) [apply_ite State.regs, apply_ite (SMap.wf resetWord), hc]
theorem execChallenge_canon (t : Nat) (s t' : State) (h : execChallenge t s = .next t') (hc : SMap.wf resetWord s.regs = true) :
    SMap.wf resetWord t'.regs = true := by
  unfold execChallenge at h; cases h; simp (maxDischargeDepth := 30) [hc]
theorem execTokenRegister_canon (t : Nat) (s t' : State) (h : execTokenRegister t s = .next t') (hc : SMap.wf resetWord s.regs = true) :
    SMap.wf resetWord t'.regs = true := by
  unfold execTokenRegister at h; cases h; simp (maxDischargeDepth := 30) [hc]
theorem execTokenRemove_canon (t : Nat) (s t' : State) (h : execTokenRemove t s = .next t') (hc : SMap.wf resetWord s.regs = true) :
    SMap.wf resetWord t'.regs = true := by
  unfold execTokenRemove at h; cases h; simp (maxDischargeDepth := 30) [hc]
theorem execCalibrate_canon (t : Nat) (s t' : State) (h : execCalibrate t s = .next t') (hc : SMap.wf resetWord s.regs = true) :
    SMap.wf resetWord t'.regs = true := by
  unfold execCalibrate at h; cases h; simp (maxDischargeDepth := 30) [hc]
theorem execLfDriverShort_canon (k cur : Nat) (s t' : State) (h : execLfDriverShort k cur s = .next t') (hc : SMap.wf resetWord s.regs = true) :
    SMap.wf resetWord t'.regs = true := by
  unfold execLfDriverShort at h; cases h; simp (maxDischargeDepth := 30) [hc]
theorem execLfDriverOpen_canon (k peak : Nat) (s t' : State) (h : execLfDriverOpen k peak s = .next t') (hc : SMap.wf resetWord s.regs = true) :
    SMap.wf resetWord t'.regs = true := by
  unfold execLfDriverOpen at h; cases h; simp (maxDischargeDepth := 30) [hc]
theorem execTkrFrameReceived_canon (f : List Byte) (s t' : State) (h : execTkrFrameReceived f s = .next t') (hc : SMap.wf resetWord s.regs = true) :
    SMap.wf resetWord t'.regs = true := by
  unfold execTkrFrameReceived at h; cases h; simp (maxDischargeDepth := 30) [apply_ite State.regs, apply_ite (SMap.wf resetWord), hc]
theorem execButtonFrame_canon (f : List Byte) (s t' : State) (h : execButtonFrame f s = .next t') (hc : SMap.wf resetWord s.regs = true) :
    SMap.wf resetWord t'.regs = true := by
  unfold execButtonFrame at h; cases h; simp (maxDischargeDepth := 30) [hc]
theorem execFaultRaise_canon (p : Path) (s t' : State) (h : execFaultRaise p s = .next t') (hc : SMap.wf resetWord s.regs = true) :
    SMap.wf resetWord t'.regs = true := by
  unfold execFaultRaise at h; cases h; (try dsimp only); repeat' split
  all_goals simp (maxDischargeDepth := 30) [hc]
theorem execFaultRecovery_canon (r : Nat) (s t' : State) (h : execFaultRecovery r s = .next t') (hc : SMap.wf resetWord s.regs = true) :
    SMap.wf resetWord t'.regs = true := by
  unfold execFaultRecovery at h; cases h; simp (maxDischargeDepth := 30) [hc]
theorem execFaultRead_canon (t : Nat) (s t' : State) (h : execFaultRead t s = .next t') (hc : SMap.wf resetWord s.regs = true) :
    SMap.wf resetWord t'.regs = true := by
  unfold execFaultRead at h; cases h; simp (maxDischargeDepth := 30) [hc]
theorem execFaultNotices_canon (t : Nat) (s t' : State) (h : execFaultNotices t s = .next t') (hc : SMap.wf resetWord s.regs = true) :
    SMap.wf resetWord t'.regs = true := by
  unfold execFaultNotices at h; cases h; simp (maxDischargeDepth := 30) [hc]
theorem execFaultClear_canon (t : Nat) (s t' : State) (h : execFaultClear t s = .next t') (hc : SMap.wf resetWord s.regs = true) :
    SMap.wf resetWord t'.regs = true := by
  unfold execFaultClear at h; cases h; simp (maxDischargeDepth := 30) [hc]
theorem execFaultInject_canon (t : Nat) (s t' : State) (h : execFaultInject t s = .next t') (hc : SMap.wf resetWord s.regs = true) :
    SMap.wf resetWord t'.regs = true := by
  unfold execFaultInject at h; cases h; simp (maxDischargeDepth := 30) [hc]
theorem execRepeatWriteback_canon (n : Nat) (s t' : State) (h : execRepeatWriteback n s = .next t') (hc : SMap.wf resetWord s.regs = true) :
    SMap.wf resetWord t'.regs = true := by
  unfold execRepeatWriteback at h; cases h; simp (maxDischargeDepth := 30) [hc]
theorem execEvrRead_canon (t : Nat) (s t' : State) (h : execEvrRead t s = .next t') (hc : SMap.wf resetWord s.regs = true) :
    SMap.wf resetWord t'.regs = true := by
  unfold execEvrRead at h; cases h; simp (maxDischargeDepth := 30) [hc]
theorem execEvrMark_canon (t : Nat) (s t' : State) (h : execEvrMark t s = .next t') (hc : SMap.wf resetWord s.regs = true) :
    SMap.wf resetWord t'.regs = true := by
  unfold execEvrMark at h; cases h; simp (maxDischargeDepth := 30) [hc]
theorem execEvrClear_canon (t : Nat) (s t' : State) (h : execEvrClear t s = .next t') (hc : SMap.wf resetWord s.regs = true) :
    SMap.wf resetWord t'.regs = true := by
  unfold execEvrClear at h; cases h; simp (maxDischargeDepth := 30) [hc]
theorem execCfgWrite_canon (t : Nat) (x : ReadResult) (s t' : State) (h : execCfgWrite t x s = .next t') (hc : SMap.wf resetWord s.regs = true) :
    SMap.wf resetWord t'.regs = true := by
  unfold execCfgWrite at h; cases h; simp (maxDischargeDepth := 30) [hc]
theorem execCfgCommit_canon (t : Nat) (s t' : State) (h : execCfgCommit t s = .next t') (hc : SMap.wf resetWord s.regs = true) :
    SMap.wf resetWord t'.regs = true := by
  unfold execCfgCommit at h; cases h; simp (maxDischargeDepth := 30) [hc]
theorem execCfgRollback_canon (t : Nat) (s t' : State) (h : execCfgRollback t s = .next t') (hc : SMap.wf resetWord s.regs = true) :
    SMap.wf resetWord t'.regs = true := by
  unfold execCfgRollback at h; cases h; simp (maxDischargeDepth := 30) [hc]
theorem execCfgStatus_canon (t : Nat) (s t' : State) (h : execCfgStatus t s = .next t') (hc : SMap.wf resetWord s.regs = true) :
    SMap.wf resetWord t'.regs = true := by
  unfold execCfgStatus at h; cases h; simp (maxDischargeDepth := 30) [hc]
theorem execCfgRaisemin_canon (t : Nat) (s t' : State) (h : execCfgRaisemin t s = .next t') (hc : SMap.wf resetWord s.regs = true) :
    SMap.wf resetWord t'.regs = true := by
  unfold execCfgRaisemin at h; cases h; exact State.cfgRaisemin_canon s t hc
theorem execLifecycle_canon (t : Nat) (s t' : State) (h : execLifecycle t s = .next t') (hc : SMap.wf resetWord s.regs = true) :
    SMap.wf resetWord t'.regs = true := by
  unfold execLifecycle at h; cases h; exact State.lifecycle_canon s t hc
theorem execRootProvision_canon (t : Nat) (x : ReadResult) (s t' : State) (h : execRootProvision t x s = .next t') (hc : SMap.wf resetWord s.regs = true) :
    SMap.wf resetWord t'.regs = true := by
  unfold execRootProvision at h; cases h; exact State.rootProvision_canon s t x hc
theorem execDebugUnlock_canon (t : Nat) (s t' : State) (h : execDebugUnlock t s = .next t') (hc : SMap.wf resetWord s.regs = true) :
    SMap.wf resetWord t'.regs = true := by
  unfold execDebugUnlock at h; cases h; exact State.debugUnlock_canon s t hc
theorem execTestMode_canon (t : Nat) (s t' : State) (h : execTestMode t s = .next t') (hc : SMap.wf resetWord s.regs = true) :
    SMap.wf resetWord t'.regs = true := by
  unfold execTestMode at h; cases h; simp (maxDischargeDepth := 30) [hc]
theorem execDieParamsReceived_canon (d : Die) (s t' : State) (h : execDieParamsReceived d s = .next t') (hc : SMap.wf resetWord s.regs = true) :
    SMap.wf resetWord t'.regs = true := by
  unfold execDieParamsReceived at h; cases h; simp (maxDischargeDepth := 30) [hc]
theorem execDieParamAck_canon (d : Die) (s t' : State) (h : execDieParamAck d s = .next t') (hc : SMap.wf resetWord s.regs = true) :
    SMap.wf resetWord t'.regs = true := by
  unfold execDieParamAck at h; cases h; simp (maxDischargeDepth := 30) [hc]
theorem execLanternReceived_canon (x : LanternRx) (s t' : State) (h : execLanternReceived x s = .next t') (hc : SMap.wf resetWord s.regs = true) :
    SMap.wf resetWord t'.regs = true := by
  unfold execLanternReceived at h; cases h; simp (maxDischargeDepth := 30) [hc]
theorem execPeerSilent_canon (i : Nat) (s t' : State) (h : execPeerSilent i s = .next t') (hc : SMap.wf resetWord s.regs = true) :
    SMap.wf resetWord t'.regs = true := by
  unfold execPeerSilent at h; cases h; simp (maxDischargeDepth := 30) [hc]
theorem execPwrVote_canon (t : Nat) (s t' : State) (h : execPwrVote t s = .next t') (hc : SMap.wf resetWord s.regs = true) :
    SMap.wf resetWord t'.regs = true := by
  unfold execPwrVote at h; cases h; simp (maxDischargeDepth := 30) [hc]
theorem execPwrStatus_canon (t : Nat) (s t' : State) (h : execPwrStatus t s = .next t') (hc : SMap.wf resetWord s.regs = true) :
    SMap.wf resetWord t'.regs = true := by
  unfold execPwrStatus at h; cases h; simp (maxDischargeDepth := 30) [hc]
theorem execPwrTimer_canon (t : Nat) (s t' : State) (h : execPwrTimer t s = .next t') (hc : SMap.wf resetWord s.regs = true) :
    SMap.wf resetWord t'.regs = true := by
  unfold execPwrTimer at h; cases h; simp (maxDischargeDepth := 30) [hc]
theorem execTkrWake_canon (ticks : Nat) (s t' : State) (h : execTkrWake ticks s = .next t') (hc : SMap.wf resetWord s.regs = true) :
    SMap.wf resetWord t'.regs = true := by
  unfold execTkrWake at h; cases h; simp (maxDischargeDepth := 30) [apply_ite State.regs, apply_ite (SMap.wf resetWord), hc]
theorem execTamper_canon (ticks : Nat) (s t' : State) (h : execTamper ticks s = .next t') (hc : SMap.wf resetWord s.regs = true) :
    SMap.wf resetWord t'.regs = true := by
  unfold execTamper at h; cases h; simp (maxDischargeDepth := 30) [apply_ite State.regs, apply_ite (SMap.wf resetWord), hc]
theorem execMgpAddressMatch_canon (addr : Nat) (s t' : State) (h : execMgpAddressMatch addr s = .next t') (hc : SMap.wf resetWord s.regs = true) :
    SMap.wf resetWord t'.regs = true := by
  unfold execMgpAddressMatch at h; cases h; simp (maxDischargeDepth := 30) [apply_ite State.regs, apply_ite (SMap.wf resetWord), hc]
theorem execMgpReset_canon (data : Nat) (pass : List Bool) (s t' : State) (h : execMgpReset data pass s = .next t') (hc : SMap.wf resetWord s.regs = true) :
    SMap.wf resetWord t'.regs = true := by
  unfold execMgpReset at h; cases h; simp (maxDischargeDepth := 30) [apply_ite State.regs, apply_ite (SMap.wf resetWord), hc]
theorem execMgpDebug_canon (_cmd : Nat) (s t' : State) (h : execMgpDebug _cmd s = .next t') (hc : SMap.wf resetWord s.regs = true) :
    SMap.wf resetWord t'.regs = true := by
  unfold execMgpDebug at h; cases h; simp (maxDischargeDepth := 30) [hc]
theorem execPowerOn_canon (a1 a0 : Bool) (s t' : State) (h : execPowerOn a1 a0 s = .next t') (hc : SMap.wf resetWord s.regs = true) :
    SMap.wf resetWord t'.regs = true := by
  unfold execPowerOn at h; cases h; simp (maxDischargeDepth := 30) [hc]
theorem execRqbStatusRead_canon (status : Byte) (s t' : State) (h : execRqbStatusRead status s = .next t') (hc : SMap.wf resetWord s.regs = true) :
    SMap.wf resetWord t'.regs = true := by
  unfold execRqbStatusRead at h; cases h; simp (maxDischargeDepth := 30) [hc]
theorem execDieLReady_canon (pass : List Bool) (s t' : State) (h : execDieLReady pass s = .next t') (hc : SMap.wf resetWord s.regs = true) :
    SMap.wf resetWord t'.regs = true := by
  unfold execDieLReady at h; cases h; simp (maxDischargeDepth := 30) [hc]
theorem execDomainReady_canon (d : Die) (s t' : State) (h : execDomainReady d s = .next t') (hc : SMap.wf resetWord s.regs = true) :
    SMap.wf resetWord t'.regs = true := by
  unfold execDomainReady at h; cases h; simp (maxDischargeDepth := 30) [hc]
theorem execDomainStartTimeout_canon (d : Die) (s t' : State) (h : execDomainStartTimeout d s = .next t') (hc : SMap.wf resetWord s.regs = true) :
    SMap.wf resetWord t'.regs = true := by
  unfold execDomainStartTimeout at h; cases h; simp (maxDischargeDepth := 30) [hc]
theorem execDomainDemandWake_canon (d : Die) (s t' : State) (h : execDomainDemandWake d s = .next t') (hc : SMap.wf resetWord s.regs = true) :
    SMap.wf resetWord t'.regs = true := by
  unfold execDomainDemandWake at h; cases h; simp (maxDischargeDepth := 30) [apply_ite State.regs, apply_ite (SMap.wf resetWord), hc]
theorem execDomainStallTimeout_canon (d : Die) (s t' : State) (h : execDomainStallTimeout d s = .next t') (hc : SMap.wf resetWord s.regs = true) :
    SMap.wf resetWord t'.regs = true := by
  unfold execDomainStallTimeout at h; cases h; simp (maxDischargeDepth := 30) [hc]
theorem execRailLoss_canon (rail ticks : Nat) (s t' : State) (h : execRailLoss rail ticks s = .next t') (hc : SMap.wf resetWord s.regs = true) :
    SMap.wf resetWord t'.regs = true := by
  unfold execRailLoss at h; cases h; simp (maxDischargeDepth := 30) [apply_ite State.regs, apply_ite (SMap.wf resetWord), hc]
theorem execSupplyUvEntry_canon (d : Die) (s t' : State) (h : execSupplyUvEntry d s = .next t') (hc : SMap.wf resetWord s.regs = true) :
    SMap.wf resetWord t'.regs = true := by
  unfold execSupplyUvEntry at h; cases h; simp (maxDischargeDepth := 30) [apply_ite State.regs, apply_ite (SMap.wf resetWord), hc]
theorem execSupplyUvExit_canon (d : Die) (s t' : State) (h : execSupplyUvExit d s = .next t') (hc : SMap.wf resetWord s.regs = true) :
    SMap.wf resetWord t'.regs = true := by
  unfold execSupplyUvExit at h; cases h; simp (maxDischargeDepth := 30) [hc]
theorem execSupplyOvEntry_canon (d : Die) (s t' : State) (h : execSupplyOvEntry d s = .next t') (hc : SMap.wf resetWord s.regs = true) :
    SMap.wf resetWord t'.regs = true := by
  unfold execSupplyOvEntry at h; cases h; simp (maxDischargeDepth := 30) [apply_ite State.regs, apply_ite (SMap.wf resetWord), hc]
theorem execSupplyOvExit_canon (d : Die) (s t' : State) (h : execSupplyOvExit d s = .next t') (hc : SMap.wf resetWord s.regs = true) :
    SMap.wf resetWord t'.regs = true := by
  unfold execSupplyOvExit at h; cases h; simp (maxDischargeDepth := 30) [hc]
theorem execGndshiftEntry_canon (d : Die) (s t' : State) (h : execGndshiftEntry d s = .next t') (hc : SMap.wf resetWord s.regs = true) :
    SMap.wf resetWord t'.regs = true := by
  unfold execGndshiftEntry at h; cases h; simp (maxDischargeDepth := 30) [apply_ite State.regs, apply_ite (SMap.wf resetWord), hc]
theorem execGndshiftExit_canon (d : Die) (s t' : State) (h : execGndshiftExit d s = .next t') (hc : SMap.wf resetWord s.regs = true) :
    SMap.wf resetWord t'.regs = true := by
  unfold execGndshiftExit at h; cases h; simp (maxDischargeDepth := 30) [hc]
theorem execPowerDieReset_canon (d : Die) (vbat : Nat) (s t' : State) (h : execPowerDieReset d vbat s = .next t') (hc : SMap.wf resetWord s.regs = true) :
    SMap.wf resetWord t'.regs = true := by
  unfold execPowerDieReset at h; cases h; simp (maxDischargeDepth := 30) [apply_ite State.regs, apply_ite (SMap.wf resetWord), hc]
theorem execCandleReset_canon (mv : Nat) (s t' : State) (h : execCandleReset mv s = .next t') (hc : SMap.wf resetWord s.regs = true) :
    SMap.wf resetWord t'.regs = true := by
  unfold execCandleReset at h; cases h; simp (maxDischargeDepth := 30) [apply_ite State.regs, apply_ite (SMap.wf resetWord), hc]
theorem execDroopRecordLimit_canon (d : Die) (s t' : State) (h : execDroopRecordLimit d s = .next t') (hc : SMap.wf resetWord s.regs = true) :
    SMap.wf resetWord t'.regs = true := by
  unfold execDroopRecordLimit at h; cases h; simp (maxDischargeDepth := 30) [hc]
theorem execValveCurrentTargetReached_canon (n cur : Nat) (s t' : State) (h : execValveCurrentTargetReached n cur s = .next t') (hc : SMap.wf resetWord s.regs = true) :
    SMap.wf resetWord t'.regs = true := by
  unfold execValveCurrentTargetReached at h; cases h; simp (maxDischargeDepth := 30) [hc]
theorem execValveOffTimeEnd_canon (n : Nat) (s t' : State) (h : execValveOffTimeEnd n s = .next t') (hc : SMap.wf resetWord s.regs = true) :
    SMap.wf resetWord t'.regs = true := by
  unfold execValveOffTimeEnd at h; cases h; simp (maxDischargeDepth := 30) [hc]
theorem execLinResponseTimeout_canon (n : Nat) (s t' : State) (h : execLinResponseTimeout n s = .next t') (hc : SMap.wf resetWord s.regs = true) :
    SMap.wf resetWord t'.regs = true := by
  unfold execLinResponseTimeout at h; cases h; simp (maxDischargeDepth := 30) [hc]
theorem execEthFrameTxEnd_canon (p : Nat) (s t' : State) (h : execEthFrameTxEnd p s = .next t') (hc : SMap.wf resetWord s.regs = true) :
    SMap.wf resetWord t'.regs = true := by
  unfold execEthFrameTxEnd at h; cases h; simp (maxDischargeDepth := 30) [hc]
theorem execForwardingDatabaseAgeing_canon (mac vid : Nat) (s t' : State) (h : execForwardingDatabaseAgeing mac vid s = .next t') (hc : SMap.wf resetWord s.regs = true) :
    SMap.wf resetWord t'.regs = true := by
  unfold execForwardingDatabaseAgeing at h; cases h; simp (maxDischargeDepth := 30) [hc]
theorem execPcieCompletionTimeout_canon (x : ReadKind) (s t' : State) (h : execPcieCompletionTimeout x s = .next t') (hc : SMap.wf resetWord s.regs = true) :
    SMap.wf resetWord t'.regs = true := by
  unfold execPcieCompletionTimeout at h; cases h; simp (maxDischargeDepth := 30) [hc]
theorem execBusMasterEnableChange_canon (bme d3 : Bool) (s t' : State) (h : execBusMasterEnableChange bme d3 s = .next t') (hc : SMap.wf resetWord s.regs = true) :
    SMap.wf resetWord t'.regs = true := by
  unfold execBusMasterEnableChange at h; cases h; simp (maxDischargeDepth := 30) [hc]
theorem execPwrCtlVotePark_canon (s t' : State) (h : execPwrCtlVotePark s = .next t') (hc : SMap.wf resetWord s.regs = true) :
    SMap.wf resetWord t'.regs = true := by
  unfold execPwrCtlVotePark at h; cases h; simp (maxDischargeDepth := 30) [apply_ite State.regs, apply_ite (SMap.wf resetWord), hc]
theorem execPwrCtlVoteWithdraw_canon (s t' : State) (h : execPwrCtlVoteWithdraw s = .next t') (hc : SMap.wf resetWord s.regs = true) :
    SMap.wf resetWord t'.regs = true := by
  unfold execPwrCtlVoteWithdraw at h; cases h; simp (maxDischargeDepth := 30) [apply_ite State.regs, apply_ite (SMap.wf resetWord), hc]
theorem execPcieLinkDown_canon (s t' : State) (h : execPcieLinkDown s = .next t') (hc : SMap.wf resetWord s.regs = true) :
    SMap.wf resetWord t'.regs = true := by
  unfold execPcieLinkDown at h; cases h; simp (maxDischargeDepth := 30) [hc]
theorem execCrystalStable_canon (s t' : State) (h : execCrystalStable s = .next t') (hc : SMap.wf resetWord s.regs = true) :
    SMap.wf resetWord t'.regs = true := by
  unfold execCrystalStable at h; cases h; simp (maxDischargeDepth := 30) [hc]
theorem execCrystalFail_canon (s t' : State) (h : execCrystalFail s = .next t') (hc : SMap.wf resetWord s.regs = true) :
    SMap.wf resetWord t'.regs = true := by
  unfold execCrystalFail at h; cases h; simp (maxDischargeDepth := 30) [hc]
theorem execStartingTimeout_canon (s t' : State) (h : execStartingTimeout s = .next t') (hc : SMap.wf resetWord s.regs = true) :
    SMap.wf resetWord t'.regs = true := by
  unfold execStartingTimeout at h; cases h; simp (maxDischargeDepth := 30) [hc]
theorem execDegradedReturn_canon (s t' : State) (h : execDegradedReturn s = .next t') (hc : SMap.wf resetWord s.regs = true) :
    SMap.wf resetWord t'.regs = true := by
  unfold execDegradedReturn at h; cases h; simp (maxDischargeDepth := 30) [hc]
theorem execAsConverged_canon (s t' : State) (h : execAsConverged s = .next t') (hc : SMap.wf resetWord s.regs = true) :
    SMap.wf resetWord t'.regs = true := by
  unfold execAsConverged at h; cases h; simp (maxDischargeDepth := 30) [hc]
theorem execAsSyncLoss_canon (s t' : State) (h : execAsSyncLoss s = .next t') (hc : SMap.wf resetWord s.regs = true) :
    SMap.wf resetWord t'.regs = true := by
  unfold execAsSyncLoss at h; cases h; simp (maxDischargeDepth := 30) [hc]
theorem execTimeMarkerSend_canon (s t' : State) (h : execTimeMarkerSend s = .next t') (hc : SMap.wf resetWord s.regs = true) :
    SMap.wf resetWord t'.regs = true := by
  unfold execTimeMarkerSend at h; cases h; simp (maxDischargeDepth := 30) [hc]
theorem execLedgerIntakeCommit_canon (s t' : State) (h : execLedgerIntakeCommit s = .next t') (hc : SMap.wf resetWord s.regs = true) :
    SMap.wf resetWord t'.regs = true := by
  unfold execLedgerIntakeCommit at h; cases h; simp (maxDischargeDepth := 30) [hc]
theorem execFrameZeroStart_canon (s t' : State) (h : execFrameZeroStart s = .next t') (hc : SMap.wf resetWord s.regs = true) :
    SMap.wf resetWord t'.regs = true := by
  unfold execFrameZeroStart at h; cases h; simp (maxDischargeDepth := 30) [hc]
theorem execFrameBoundary_canon (s t' : State) (h : execFrameBoundary s = .next t') (hc : SMap.wf resetWord s.regs = true) :
    SMap.wf resetWord t'.regs = true := by
  unfold execFrameBoundary at h; cases h; simp (maxDischargeDepth := 30) [hc]
theorem execStagingClose_canon (s t' : State) (h : execStagingClose s = .next t') (hc : SMap.wf resetWord s.regs = true) :
    SMap.wf resetWord t'.regs = true := by
  unfold execStagingClose at h; cases h; simp (maxDischargeDepth := 30) [hc]
theorem execBoostReady_canon (s t' : State) (h : execBoostReady s = .next t') (hc : SMap.wf resetWord s.regs = true) :
    SMap.wf resetWord t'.regs = true := by
  unfold execBoostReady at h; cases h; simp (maxDischargeDepth := 30) [hc]
theorem execBoostReadyLoss_canon (s t' : State) (h : execBoostReadyLoss s = .next t') (hc : SMap.wf resetWord s.regs = true) :
    SMap.wf resetWord t'.regs = true := by
  unfold execBoostReadyLoss at h; cases h; simp (maxDischargeDepth := 30) [hc]
theorem execBoostNotReady_canon (s t' : State) (h : execBoostNotReady s = .next t') (hc : SMap.wf resetWord s.regs = true) :
    SMap.wf resetWord t'.regs = true := by
  unfold execBoostNotReady at h; cases h; simp (maxDischargeDepth := 30) [hc]
theorem execBoostOvp_canon (s t' : State) (h : execBoostOvp s = .next t') (hc : SMap.wf resetWord s.regs = true) :
    SMap.wf resetWord t'.regs = true := by
  unfold execBoostOvp at h; cases h; simp (maxDischargeDepth := 30) [hc]
theorem execLfControlStep_canon (s t' : State) (h : execLfControlStep s = .next t') (hc : SMap.wf resetWord s.regs = true) :
    SMap.wf resetWord t'.regs = true := by
  unfold execLfControlStep at h; cases h; simp (maxDischargeDepth := 30) [hc]
theorem execLfSeqOverrun_canon (s t' : State) (h : execLfSeqOverrun s = .next t') (hc : SMap.wf resetWord s.regs = true) :
    SMap.wf resetWord t'.regs = true := by
  unfold execLfSeqOverrun at h; cases h; simp (maxDischargeDepth := 30) [apply_ite State.regs, apply_ite (SMap.wf resetWord), hc]
theorem execDoorbellFetch_canon (s t' : State) (h : execDoorbellFetch s = .next t') (hc : SMap.wf resetWord s.regs = true) :
    SMap.wf resetWord t'.regs = true := by
  unfold execDoorbellFetch at h; cases h; simp (maxDischargeDepth := 30) [hc]
theorem execCipherStartDone_canon (s t' : State) (h : execCipherStartDone s = .next t') (hc : SMap.wf resetWord s.regs = true) :
    SMap.wf resetWord t'.regs = true := by
  unfold execCipherStartDone at h; cases h; simp (maxDischargeDepth := 30) [hc]
theorem execEraseComplete_canon (s t' : State) (h : execEraseComplete s = .next t') (hc : SMap.wf resetWord s.regs = true) :
    SMap.wf resetWord t'.regs = true := by
  unfold execEraseComplete at h; cases h; simp (maxDischargeDepth := 30) [apply_ite State.regs, apply_ite (SMap.wf resetWord), hc]
theorem execChallengeStart_canon (s t' : State) (h : execChallengeStart s = .next t') (hc : SMap.wf resetWord s.regs = true) :
    SMap.wf resetWord t'.regs = true := by
  unfold execChallengeStart at h; cases h; simp (maxDischargeDepth := 30) [hc]
theorem execChallengeEnd_canon (s t' : State) (h : execChallengeEnd s = .next t') (hc : SMap.wf resetWord s.regs = true) :
    SMap.wf resetWord t'.regs = true := by
  unfold execChallengeEnd at h; cases h; simp (maxDischargeDepth := 30) [hc]
theorem execTkrStrobe_canon (s t' : State) (h : execTkrStrobe s = .next t') (hc : SMap.wf resetWord s.regs = true) :
    SMap.wf resetWord t'.regs = true := by
  unfold execTkrStrobe at h; cases h; simp (maxDischargeDepth := 30) [apply_ite State.regs, hc]
theorem execReplySlotEnd_canon (s t' : State) (h : execReplySlotEnd s = .next t') (hc : SMap.wf resetWord s.regs = true) :
    SMap.wf resetWord t'.regs = true := by
  unfold execReplySlotEnd at h; cases h; simp (maxDischargeDepth := 30) [hc]
theorem execReplyVerified_canon (s t' : State) (h : execReplyVerified s = .next t') (hc : SMap.wf resetWord s.regs = true) :
    SMap.wf resetWord t'.regs = true := by
  unfold execReplyVerified at h; cases h; simp (maxDischargeDepth := 30) [hc]
theorem execLockoutEnd_canon (s t' : State) (h : execLockoutEnd s = .next t') (hc : SMap.wf resetWord s.regs = true) :
    SMap.wf resetWord t'.regs = true := by
  unfold execLockoutEnd at h; cases h; simp (maxDischargeDepth := 30) [hc]
theorem execSessionTimeout_canon (s t' : State) (h : execSessionTimeout s = .next t') (hc : SMap.wf resetWord s.regs = true) :
    SMap.wf resetWord t'.regs = true := by
  unfold execSessionTimeout at h; cases h; simp (maxDischargeDepth := 30) [hc]
theorem execEventRecord_canon (s t' : State) (h : execEventRecord s = .next t') (hc : SMap.wf resetWord s.regs = true) :
    SMap.wf resetWord t'.regs = true := by
  unfold execEventRecord at h; cases h; simp (maxDischargeDepth := 30) [hc]
theorem execOpsecTick_canon (s t' : State) (h : execOpsecTick s = .next t') (hc : SMap.wf resetWord s.regs = true) :
    SMap.wf resetWord t'.regs = true := by
  unfold execOpsecTick at h; cases h; simp (maxDischargeDepth := 30) [hc]
theorem execSwapTimeout_canon (s t' : State) (h : execSwapTimeout s = .next t') (hc : SMap.wf resetWord s.regs = true) :
    SMap.wf resetWord t'.regs = true := by
  unfold execSwapTimeout at h; cases h; simp (maxDischargeDepth := 30) [hc]
theorem execLanternDue_canon (s t' : State) (h : execLanternDue s = .next t') (hc : SMap.wf resetWord s.regs = true) :
    SMap.wf resetWord t'.regs = true := by
  unfold execLanternDue at h; cases h; simp (maxDischargeDepth := 30) [hc]
theorem execWakeStart_canon (s t' : State) (h : execWakeStart s = .next t') (hc : SMap.wf resetWord s.regs = true) :
    SMap.wf resetWord t'.regs = true := by
  unfold execWakeStart at h; cases h; simp (maxDischargeDepth := 30) [hc]
theorem execMgpStatus_canon (s t' : State) (h : execMgpStatus s = .next t') (hc : SMap.wf resetWord s.regs = true) :
    SMap.wf resetWord t'.regs = true := by
  unfold execMgpStatus at h; cases h; simp (maxDischargeDepth := 30) [apply_ite State.regs, apply_ite (SMap.wf resetWord), hc]
theorem execParkTimerWake_canon (s t' : State) (h : execParkTimerWake s = .next t') (hc : SMap.wf resetWord s.regs = true) :
    SMap.wf resetWord t'.regs = true := by
  unfold execParkTimerWake at h; cases h; simp (maxDischargeDepth := 30) [apply_ite State.regs, apply_ite (SMap.wf resetWord), hc]
theorem execWakeRetry_canon (s t' : State) (h : execWakeRetry s = .next t') (hc : SMap.wf resetWord s.regs = true) :
    SMap.wf resetWord t'.regs = true := by
  unfold execWakeRetry at h; cases h; simp (maxDischargeDepth := 30) [hc]
theorem execRqbRequest_canon (s t' : State) (h : execRqbRequest s = .next t') (hc : SMap.wf resetWord s.regs = true) :
    SMap.wf resetWord t'.regs = true := by
  unfold execRqbRequest at h; cases h; simp (maxDischargeDepth := 30) [hc]
theorem execRqbRetry_canon (s t' : State) (h : execRqbRetry s = .next t') (hc : SMap.wf resetWord s.regs = true) :
    SMap.wf resetWord t'.regs = true := by
  unfold execRqbRetry at h; cases h; simp (maxDischargeDepth := 30) [hc]
theorem execRegFail_canon (s t' : State) (h : execRegFail s = .next t') (hc : SMap.wf resetWord s.regs = true) :
    SMap.wf resetWord t'.regs = true := by
  unfold execRegFail at h; cases h; simp (maxDischargeDepth := 30) [hc]
theorem execShutdownTimeout_canon (s t' : State) (h : execShutdownTimeout s = .next t') (hc : SMap.wf resetWord s.regs = true) :
    SMap.wf resetWord t'.regs = true := by
  unfold execShutdownTimeout at h; cases h; simp (maxDischargeDepth := 30) [hc]
theorem execParkEntry_canon (s t' : State) (h : execParkEntry s = .next t') (hc : SMap.wf resetWord s.regs = true) :
    SMap.wf resetWord t'.regs = true := by
  unfold execParkEntry at h; cases h; simp (maxDischargeDepth := 30) [hc]
theorem execWakeVoltageOk_canon (s t' : State) (h : execWakeVoltageOk s = .next t') (hc : SMap.wf resetWord s.regs = true) :
    SMap.wf resetWord t'.regs = true := by
  unfold execWakeVoltageOk at h; cases h; simp (maxDischargeDepth := 30) [hc]
theorem execBoostOvpEnd_canon (s t' : State) (h : execBoostOvpEnd s = .next t') (hc : SMap.wf resetWord s.regs = true) :
    SMap.wf resetWord t'.regs = true := by
  unfold execBoostOvpEnd at h; cases h; simp (maxDischargeDepth := 30) [hc]
theorem execPcieLinkUp_canon (s t' : State) (h : execPcieLinkUp s = .next t') (hc : SMap.wf resetWord s.regs = true) :
    SMap.wf resetWord t'.regs = true := by
  unfold execPcieLinkUp at h; cases h; simp (maxDischargeDepth := 30) [hc]

end Sys2Proof.Machine
end

