-- ==== Sys2Proof/Laws/Celper.lean ====
section
/-! SUPPORT. What issuing one instruction of a Celper machine does (R222 to R229). -/

namespace Sys2Proof.Machine

open Sys2Proof.Safety

/-- An instruction that a machine issues acts on the machine as issued. -/
theorem State.celIssue_eq {s : State} {k : CoreId} {word n : Nat} {good : Bool} {need : List Nat} {cost : Cel → Nat} {act : State → Cel → CelAct}
    (h : issues s k word need n = true) (hg : good = true) (hc : cost (s.celAt (celIdx k)) = n) :
    s.celIssue k word good need cost act = s.celPerform k (s.celAt (celIdx k)) (act s (issued s k n)) := by
  subst hc hg
  simp only [issues, Bool.and_eq_true, Bool.not_eq_true'] at h
  obtain ⟨⟨⟨he, hr⟩, hs⟩, hw⟩ := h
  cases hk : CoreId.isL k with
  | true =>
    simp only [hk, if_true, Bool.and_eq_true, decide_eq_true_eq, Bool.not_eq_true'] at hw
    obtain ⟨⟨hw, hz⟩, hx⟩ := hw
    simp [State.celIssue, issued, he, hr, hs, hk, hw, hz, hx]
  | false =>
    simp only [hk, Bool.false_eq_true, if_false, Bool.and_eq_true, Bool.not_eq_true', List.all_eq_true, decide_eq_true_eq] at hw
    obtain ⟨ho, hn⟩ := hw
    have hx : s.exceeds k (cost (s.celAt (celIdx k))) = false := by simp [State.exceeds, hk]
    have hb : need.any (fun r => decide (16 ≤ r)) = false := by
      simp only [List.any_eq_false, decide_eq_true_eq, Nat.not_le]
      exact hn
    simp only [State.celIssue, he, hr, hs, hk, ho, hb, issued]
    simp [hx]

/-- An instruction without a fault that does not leave the code goes on in sequence. -/
theorem State.celPerform_seq {s t : State} {k : CoreId} {x y : Cel} (h : s.leaves k y .seq = false) :
    s.celPerform k x { s := t, x := y } = t.setCel (celIdx k) (y.goTo .seq) := by
  cases k <;> simp_all [State.celPerform]

/-- A branch, a jump, a skip or a push that stays in the code goes where it says. -/
theorem State.celPerform_go {s t : State} {k : CoreId} {x y : Cel} {n : CelNext} (h : s.leaves k y n = false)
    (hs : n ≠ .stop) (he : ∀ c, n ≠ .error c) : s.celPerform k x { s := t, x := y, next := n } = t.setCel (celIdx k) (y.goTo n) := by
  cases n <;> cases k <;> simp_all [State.celPerform]

end Sys2Proof.Machine
end

