-- ==== Sys2Proof/Laws/KeptUnits.lean ====
section
/-! SUPPORT. What the operations of the units of the dies and what they share leave alone: the one-time-programmable counts and the queue of commands. -/

namespace Sys2Proof.Machine

/-- A fold of steps that leave the counts and the queue alone leaves them alone. -/
@[simp] theorem foldl_kept {α : Type} (f : State → α → State) (h : ∀ s x, (f s x).otp = s.otp ∧ (f s x).pending = s.pending) (l : List α) (s : State) :
    (l.foldl f s).otp = s.otp ∧ (l.foldl f s).pending = s.pending := by
  induction l generalizing s with
  | nil => exact ⟨rfl, rfl⟩
  | cons a l ih => rw [List.foldl_cons]; exact ⟨(ih _).1.trans (h s a).1, (ih _).2.trans (h s a).2⟩

@[simp] theorem State.setWord_kept (s : State) (off : Nat) (v : W32) :
    (State.setWord s off v).otp = s.otp ∧ (State.setWord s off v).pending = s.pending := by simp [State.setWord]
@[simp] theorem State.wr_kept (s : State) (f : Fld) (v : Nat) :
    (State.wr s f v).otp = s.otp ∧ (State.wr s f v).pending = s.pending := by simp [State.wr]
@[simp] theorem State.wr64_kept (s : State) (f : Fld) (v : Nat) :
    (State.wr64 s f v).otp = s.otp ∧ (State.wr64 s f v).pending = s.pending := by simp [State.wr64]
@[simp] theorem State.count_kept (s : State) (f : Fld) (n : Nat) :
    (State.count s f n).otp = s.otp ∧ (State.count s f n).pending = s.pending := by simp [State.count]
@[simp] theorem State.raiseBits_kept (s : State) (off : Nat) (m : W32) :
    (State.raiseBits s off m).otp = s.otp ∧ (State.raiseBits s off m).pending = s.pending := by simp [State.raiseBits]
@[simp] theorem State.raiseFlag_kept (s : State) (f : Fld) :
    (State.raiseFlag s f).otp = s.otp ∧ (State.raiseFlag s f).pending = s.pending := by simp [State.raiseFlag]
@[simp] theorem State.count64_kept (s : State) (f : Fld) :
    (State.count64 s f).otp = s.otp ∧ (State.count64 s f).pending = s.pending := by simp [State.count64]
@[simp] theorem State.setIsl_kept (s : State) (d : Die) (i : Island) :
    (State.setIsl s d i).otp = s.otp ∧ (State.setIsl s d i).pending = s.pending := by unfold State.setIsl; split <;> simp
@[simp] theorem State.setLink_kept (s : State) (d : Die) (l : DieLink) :
    (State.setLink s d l).otp = s.otp ∧ (State.setLink s d l).pending = s.pending := by unfold State.setLink; split <;> simp
@[simp] theorem State.sendDown_kept (s : State) (d : Die) (m : DownMsg) :
    (State.sendDown s d m).otp = s.otp ∧ (State.sendDown s d m).pending = s.pending := by simp [State.sendDown]
@[simp] theorem State.setLocked_kept (s : State) (d : Die) (b : Bool) :
    (State.setLocked s d b).otp = s.otp ∧ (State.setLocked s d b).pending = s.pending := by simp [State.setLocked]
@[simp] theorem State.clockTick_kept (s : State) :
    (State.clockTick s).otp = s.otp ∧ (State.clockTick s).pending = s.pending := by simp [State.clockTick]
@[simp] theorem State.takeFree_kept (s : State) : (s.takeFree).2.otp = s.otp ∧ (s.takeFree).2.pending = s.pending := by simp [State.takeFree]
@[simp] theorem State.emit_kept (s : State) (o : Output) :
    (State.emit s o).otp = s.otp ∧ (State.emit s o).pending = s.pending := by simp [State.emit]
@[simp] theorem State.setCel_kept (s : State) (i : Nat) (x : Cel) :
    (State.setCel s i x).otp = s.otp ∧ (State.setCel s i x).pending = s.pending := by simp [State.setCel]
@[simp] theorem State.seqStart_kept (s : State) (i : Nat) :
    (State.seqStart s i).otp = s.otp ∧ (State.seqStart s i).pending = s.pending := by simp [State.seqStart]
@[simp] theorem State.seqHalt_kept (s : State) (i : Nat) :
    (State.seqHalt s i).otp = s.otp ∧ (State.seqHalt s i).pending = s.pending := by simp [State.seqHalt]
@[simp] theorem State.record_kept (s : State) (e : Evt) :
    (State.record s e).otp = s.otp ∧ (State.record s e).pending = s.pending := by simp [State.record, apply_ite State.otp, apply_ite State.pending]
@[simp] theorem State.event_kept (s : State) (code : Nat) (tick : Nat) (p1 : Nat) (p2 : Nat) (p3 : Nat) :
    (State.event s code tick p1 p2 p3).otp = s.otp ∧ (State.event s code tick p1 p2 p3).pending = s.pending := by simp [State.event]
@[simp] theorem State.raiseL_kept (s : State) (src : Nat) (kind : Nat) (stamp : Nat) :
    (State.raiseL s src kind stamp).otp = s.otp ∧ (State.raiseL s src kind stamp).pending = s.pending := by simp [State.raiseL]
@[simp] theorem State.raiseD_kept (s : State) (d : Die) (src : Nat) (kind : Nat) (stamp : Nat) :
    (State.raiseD s d src kind stamp).otp = s.otp ∧ (State.raiseD s d src kind stamp).pending = s.pending := by simp [State.raiseD, apply_ite State.otp, apply_ite State.pending]
@[simp] theorem State.faultD_kept (s : State) (d : Die) (src : Nat) (kind : Nat) (stamp : Nat) (p2 : Nat) (p3 : Nat) :
    (State.faultD s d src kind stamp p2 p3).otp = s.otp ∧ (State.faultD s d src kind stamp p2 p3).pending = s.pending := by simp [State.faultD]
@[simp] theorem State.faultL_kept (s : State) (src : Nat) (kind : Nat) (stamp : Nat) (p2 : Nat) (p3 : Nat) :
    (State.faultL s src kind stamp p2 p3).otp = s.otp ∧ (State.faultL s src kind stamp p2 p3).pending = s.pending := by simp [State.faultL]
@[simp] theorem State.msix_kept (s : State) (v : Nat) :
    (State.msix s v).otp = s.otp ∧ (State.msix s v).pending = s.pending := by simp [State.msix, apply_ite State.otp, apply_ite State.pending]
@[simp] theorem State.hostErr_kept (s : State) (f : Fld) :
    (State.hostErr s f).otp = s.otp ∧ (State.hostErr s f).pending = s.pending := by simp [State.hostErr]
@[simp] theorem State.detBreak_kept (s : State) (bit : Nat) (first : Nat) (fs : List Nat) :
    (State.detBreak s bit first fs).otp = s.otp ∧ (State.detBreak s bit first fs).pending = s.pending := by simp [State.detBreak, apply_ite State.otp, apply_ite State.pending]
@[simp] theorem State.breakNow_kept (s : State) (bit : Nat) :
    (State.breakNow s bit).otp = s.otp ∧ (State.breakNow s bit).pending = s.pending := by simp [State.breakNow, apply_ite State.otp, apply_ite State.pending]
@[simp] theorem State.commitBase_kept (s : State) (a : Attr) (u : Upd) :
    (State.commitBase s a u).otp = s.otp ∧ (State.commitBase s a u).pending = s.pending := by simp [State.commitBase, apply_ite State.otp, apply_ite State.pending]
@[simp] theorem State.expire_kept (s : State) (i : Nat) :
    (State.expire s i).otp = s.otp ∧ (State.expire s i).pending = s.pending := by simp [State.expire, apply_ite State.otp, apply_ite State.pending]
@[simp] theorem State.commitLive_kept (s : State) (a : Attr) (u : Upd) :
    (State.commitLive s a u).otp = s.otp ∧ (State.commitLive s a u).pending = s.pending := by simp [State.commitLive, apply_ite State.otp, apply_ite State.pending]
@[simp] theorem State.lateUpdate_kept (s : State) (t : Nat) :
    (State.lateUpdate s t).otp = s.otp ∧ (State.lateUpdate s t).pending = s.pending := by simp [State.lateUpdate]
@[simp] theorem State.commit_kept (s : State) (u0 : Upd) :
    (State.commit s u0).otp = s.otp ∧ (State.commit s u0).pending = s.pending := by unfold State.commit; split <;> simp [apply_ite State.otp, apply_ite State.pending]
@[simp] theorem State.commitStaged_kept (s : State) (b : Nat) (i : Nat) (v : W64) (src : Nat) (bytes : List Byte) :
    (State.commitStaged s b i v src bytes).otp = s.otp ∧ (State.commitStaged s b i v src bytes).pending = s.pending := by unfold State.commitStaged; split <;> simp
@[simp] theorem State.sendD_kept (s : State) (d : Die) (u : Upd) :
    (State.sendD s d u).otp = s.otp ∧ (State.sendD s d u).pending = s.pending := by simp [State.sendD]
@[simp] theorem State.sendL_kept (s : State) (u : Upd) :
    (State.sendL s u).otp = s.otp ∧ (State.sendL s u).pending = s.pending := by simp [State.sendL]
@[simp] theorem State.amendD_kept (s : State) (d : Die) (u : Upd) :
    (State.amendD s d u).otp = s.otp ∧ (State.amendD s d u).pending = s.pending := by simp [State.amendD, apply_ite State.otp, apply_ite State.pending]
@[simp] theorem State.unitD_kept (s : State) (d : Die) (idx : Nat) (v : Int) (stamp : Nat) (src : Nat) :
    (State.unitD s d idx v stamp src).otp = s.otp ∧ (State.unitD s d idx v stamp src).pending = s.pending := by simp [State.unitD]
@[simp] theorem State.unitL_kept (s : State) (idx : Nat) (v : Int) (stamp : Nat) (src : Nat) :
    (State.unitL s idx v stamp src).otp = s.otp ∧ (State.unitL s idx v stamp src).pending = s.pending := by simp [State.unitL]
@[simp] theorem State.setSq_kept (s : State) (q : Nat) (x : Sq) :
    (State.setSq s q x).otp = s.otp ∧ (State.setSq s q x).pending = s.pending := by simp [State.setSq]
@[simp] theorem State.setCq_kept (s : State) (q : Nat) (x : Cq) :
    (State.setCq s q x).otp = s.otp ∧ (State.setCq s q x).pending = s.pending := by simp [State.setCq]
@[simp] theorem State.dropOp_kept (s : State) (t : Nat) :
    (State.dropOp s t).otp = s.otp ∧ (State.dropOp s t).pending = s.pending := by simp [State.dropOp]
@[simp] theorem State.putOp_kept (s : State) (t : Nat) (o : HostOp) :
    (State.putOp s t o).otp = s.otp ∧ (State.putOp s t o).pending = s.pending := by simp [State.putOp]
@[simp] theorem State.begin_kept (s : State) (t : Nat) :
    (State.begin s t).otp = s.otp ∧ (State.begin s t).pending = s.pending := by unfold State.begin; split <;> simp
@[simp] theorem State.moderate_kept (s : State) (q : Nat) :
    (State.moderate s q).otp = s.otp ∧ (State.moderate s q).pending = s.pending := by simp [State.moderate, apply_ite State.otp, apply_ite State.pending]
@[simp] theorem State.writeCpl_kept (s : State) (c : Cpl) :
    (State.writeCpl s c).otp = s.otp ∧ (State.writeCpl s c).pending = s.pending := by simp [State.writeCpl, apply_ite State.otp, apply_ite State.pending]
@[simp] theorem State.releaseFrom_kept (n : Nat) (s : State) (q : Nat) :
    (State.releaseFrom n s q).otp = s.otp ∧ (State.releaseFrom n s q).pending = s.pending := by
  induction n generalizing s q with
  | zero => simp [State.releaseFrom]
  | succ n ih =>
    unfold State.releaseFrom; dsimp only; split
    · split
      · simp [apply_ite State.otp, apply_ite State.pending]
      · simp [apply_ite State.otp, apply_ite State.pending, ih]
    · simp
@[simp] theorem State.releaseDrained_kept (s : State) (q : Nat) :
    (State.releaseDrained s q).otp = s.otp ∧ (State.releaseDrained s q).pending = s.pending := by simp [State.releaseDrained]
@[simp] theorem State.issue_kept (s : State) (c : Cpl) :
    (State.issue s c).otp = s.otp ∧ (State.issue s c).pending = s.pending := by simp [State.issue, apply_ite State.otp, apply_ite State.pending]
@[simp] theorem State.complete_kept (s : State) (t : Nat) (status : Nat) (reason : Nat) (stamp : Nat) (result : List Byte) (writes : List (Nat × List Byte)) :
    (State.complete s t status reason stamp result writes).otp = s.otp ∧ (State.complete s t status reason stamp result writes).pending = s.pending := by unfold State.complete; split <;> simp [apply_ite State.otp, apply_ite State.pending]
@[simp] theorem State.completeOpt_kept (s : State) (t : Option Nat) (status : Nat) (reason : Nat) (stamp : Nat) (result : List Byte) :
    (State.completeOpt s t status reason stamp result).otp = s.otp ∧ (State.completeOpt s t status reason stamp result).pending = s.pending := by unfold State.completeOpt; split <;> simp
@[simp] theorem State.readFailed_kept (s : State) (x : ReadResult) :
    (State.readFailed s x).otp = s.otp ∧ (State.readFailed s x).pending = s.pending := by unfold State.readFailed; split <;> simp
@[simp] theorem State.dmaError_kept (s : State) (t : Nat) (x : ReadResult) :
    (State.dmaError s t x).otp = s.otp ∧ (State.dmaError s t x).pending = s.pending := by simp [State.dmaError]
@[simp] theorem State.ringError_kept (s : State) (q : Nat) :
    (State.ringError s q).otp = s.otp ∧ (State.ringError s q).pending = s.pending := by simp [State.ringError, apply_ite State.otp, apply_ite State.pending]
@[simp] theorem State.setTb_kept (s : State) (n : TbSt) :
    (State.setTb s n).otp = s.otp ∧ (State.setTb s n).pending = s.pending := by simp [State.setTb, apply_ite State.otp, apply_ite State.pending]
@[simp] theorem State.crystalStable_kept (s : State) :
    (State.crystalStable s).otp = s.otp ∧ (State.crystalStable s).pending = s.pending := by simp [State.crystalStable, apply_ite State.otp, apply_ite State.pending]
@[simp] theorem State.crystalFail_kept (s : State) :
    (State.crystalFail s).otp = s.otp ∧ (State.crystalFail s).pending = s.pending := by
  unfold State.crystalFail; dsimp only; repeat' split
  all_goals simp
@[simp] theorem State.startingTimeout_kept (s : State) :
    (State.startingTimeout s).otp = s.otp ∧ (State.startingTimeout s).pending = s.pending := by simp [State.startingTimeout, apply_ite State.otp, apply_ite State.pending]
@[simp] theorem State.degradedReturn_kept (s : State) :
    (State.degradedReturn s).otp = s.otp ∧ (State.degradedReturn s).pending = s.pending := by simp [State.degradedReturn, apply_ite State.otp, apply_ite State.pending]
@[simp] theorem State.asSync_kept (s : State) (gptp : Int) (corr : Int) :
    (State.asSync s gptp corr).otp = s.otp ∧ (State.asSync s gptp corr).pending = s.pending := by simp [State.asSync, apply_ite State.otp, apply_ite State.pending]
@[simp] theorem State.asConverged_kept (s : State) :
    (State.asConverged s).otp = s.otp ∧ (State.asConverged s).pending = s.pending := by simp [State.asConverged, apply_ite State.otp, apply_ite State.pending]
@[simp] theorem State.asSyncLoss_kept (s : State) :
    (State.asSyncLoss s).otp = s.otp ∧ (State.asSyncLoss s).pending = s.pending := by simp [State.asSyncLoss, apply_ite State.otp, apply_ite State.pending]
@[simp] theorem State.timeMarkerSend_kept (s : State) :
    (State.timeMarkerSend s).otp = s.otp ∧ (State.timeMarkerSend s).pending = s.pending := by simp [State.timeMarkerSend, apply_ite State.otp, apply_ite State.pending]
@[simp] theorem State.raiseAt_kept (s : State) (d : Die) (src : Nat) (kind : Nat) :
    (State.raiseAt s d src kind).otp = s.otp ∧ (State.raiseAt s d src kind).pending = s.pending := by simp [State.raiseAt, apply_ite State.otp, apply_ite State.pending]
@[simp] theorem State.lossOfLock_kept (s : State) (d : Die) :
    (State.lossOfLock s d).otp = s.otp ∧ (State.lossOfLock s d).pending = s.pending := by simp [State.lossOfLock, apply_ite State.otp, apply_ite State.pending]
@[simp] theorem State.linkFault_kept (s : State) (d : Die) :
    (State.linkFault s d).otp = s.otp ∧ (State.linkFault s d).pending = s.pending := by simp [State.linkFault]
theorem State.popDown_kept (s : State) (d : Die) (m : DownMsg) (t : State) (h : s.popDown d = some (m, t)) :
    t.otp = s.otp ∧ t.pending = s.pending := by
  unfold State.popDown at h; split at h
  · cases h
  · cases h; simp
@[simp] theorem State.measureDelay_kept (s : State) (d : Die) :
    (State.measureDelay s d).otp = s.otp ∧ (State.measureDelay s d).pending = s.pending := by simp [State.measureDelay]
@[simp] theorem State.checkDelay_kept (s : State) (d : Die) :
    (State.checkDelay s d).otp = s.otp ∧ (State.checkDelay s d).pending = s.pending := by simp [State.checkDelay, apply_ite State.otp, apply_ite State.pending]
@[simp] theorem State.markerReceived_kept (s : State) (d : Die) (err : Int) :
    (State.markerReceived s d err).otp = s.otp ∧ (State.markerReceived s d err).pending = s.pending := by
  unfold State.markerReceived; split
  · rename_i h; have h := State.popDown_kept s d _ _ h; dsimp only; split <;> simp [h]
  · simp
@[simp] theorem State.islandRelock_kept (s : State) (d : Die) :
    (State.islandRelock s d).otp = s.otp ∧ (State.islandRelock s d).pending = s.pending := by simp [State.islandRelock, apply_ite State.otp, apply_ite State.pending]
@[simp] theorem State.markerLoss_kept (s : State) (d : Die) :
    (State.markerLoss s d).otp = s.otp ∧ (State.markerLoss s d).pending = s.pending := by simp [State.markerLoss, apply_ite State.otp, apply_ite State.pending]
@[simp] theorem State.setChan_kept (s : State) (u : Nat) (c : Chan) :
    (State.setChan s u c).otp = s.otp ∧ (State.setChan s u c).pending = s.pending := by simp [State.setChan]
@[simp] theorem State.setAna_kept (s : State) (d : Die) (a : DieAna) :
    (State.setAna s d a).otp = s.otp ∧ (State.setAna s d a).pending = s.pending := by unfold State.setAna; split <;> simp
@[simp] theorem State.reportD_kept (s : State) (d : Die) (idx : Nat) (v : Int) (stamp : Nat) (src : Nat) :
    (State.reportD s d idx v stamp src).otp = s.otp ∧ (State.reportD s d idx v stamp src).pending = s.pending := by unfold State.reportD; split <;> simp [apply_ite State.otp, apply_ite State.pending]
@[simp] theorem State.reportChan_kept (s : State) (u : Nat) (t : Nat) :
    (State.reportChan s u t).otp = s.otp ∧ (State.reportChan s u t).pending = s.pending := by simp [State.reportChan]
@[simp] theorem State.takePattern_kept (s : State) (u : Nat) (t : Nat) :
    (State.takePattern s u t).otp = s.otp ∧ (State.takePattern s u t).pending = s.pending := by simp [State.takePattern]
@[simp] theorem State.takeCarrier_kept (s : State) (u : Nat) (t : Nat) :
    (State.takeCarrier s u t).otp = s.otp ∧ (State.takeCarrier s u t).pending = s.pending := by simp [State.takeCarrier]
@[simp] theorem State.gate_kept (s : State) (u : Nat) (t : Nat) :
    (State.gate s u t).otp = s.otp ∧ (State.gate s u t).pending = s.pending := by simp [State.gate]
@[simp] theorem State.enter_kept (s : State) (u : Nat) (st : ChanSt) (t : Nat) :
    (State.enter s u st t).otp = s.otp ∧ (State.enter s u st t).pending = s.pending := by simp [State.enter, apply_ite State.otp, apply_ite State.pending]
@[simp] theorem State.lockOff_kept (s : State) (u : Nat) (t : Nat) :
    (State.lockOff s u t).otp = s.otp ∧ (State.lockOff s u t).pending = s.pending := by simp [State.lockOff]
@[simp] theorem State.openWindow_kept (s : State) (u : Nat) (t : Nat) :
    (State.openWindow s u t).otp = s.otp ∧ (State.openWindow s u t).pending = s.pending := by simp [State.openWindow]
@[simp] theorem State.conduct_kept (s : State) (u : Nat) (t : Nat) :
    (State.conduct s u t).otp = s.otp ∧ (State.conduct s u t).pending = s.pending := by simp [State.conduct, apply_ite State.otp, apply_ite State.pending]
@[simp] theorem State.turnOn_kept (s : State) (u : Nat) (t : Nat) :
    (State.turnOn s u t).otp = s.otp ∧ (State.turnOn s u t).pending = s.pending := by simp [State.turnOn, apply_ite State.otp, apply_ite State.pending]
@[simp] theorem State.decideTrip_kept (s : State) (u : Nat) (t : Nat) :
    (State.decideTrip s u t).otp = s.otp ∧ (State.decideTrip s u t).pending = s.pending := by simp [State.decideTrip, apply_ite State.otp, apply_ite State.pending]
@[simp] theorem State.setCause_kept (s : State) (u : Nat) (c : Nat) :
    (State.setCause s u c).otp = s.otp ∧ (State.setCause s u c).pending = s.pending := by simp [State.setCause]
@[simp] theorem State.tripState_kept (s : State) (u : Nat) (m : Nat) (t : Nat) :
    (State.tripState s u m t).otp = s.otp ∧ (State.tripState s u m t).pending = s.pending := by simp [State.tripState, apply_ite State.otp, apply_ite State.pending]
@[simp] theorem State.trip_kept (s : State) (u : Nat) (c : Nat) (t : Nat) :
    (State.trip s u c t).otp = s.otp ∧ (State.trip s u c t).pending = s.pending := by simp [State.trip, apply_ite State.otp, apply_ite State.pending]
@[simp] theorem State.amendTrip_kept (s : State) (d : Die) (src : Nat) (old : Nat) (new : Nat) (m : Nat) (t : Nat) :
    (State.amendTrip s d src old new m t).otp = s.otp ∧ (State.amendTrip s d src old new m t).pending = s.pending := by simp [State.amendTrip]
@[simp] theorem State.unlock_kept (s : State) (u : Nat) (t : Nat) :
    (State.unlock s u t).otp = s.otp ∧ (State.unlock s u t).pending = s.pending := by simp [State.unlock, apply_ite State.otp, apply_ite State.pending]
@[simp] theorem State.noteCause_kept (s : State) (u : Nat) (c : Nat) (t : Nat) :
    (State.noteCause s u c t).otp = s.otp ∧ (State.noteCause s u c t).pending = s.pending := by simp [State.noteCause]
@[simp] theorem State.addCause_kept (s : State) (u : Nat) (c : Nat) (t : Nat) :
    (State.addCause s u c t).otp = s.otp ∧ (State.addCause s u c t).pending = s.pending := by simp [State.addCause, apply_ite State.otp, apply_ite State.pending]
@[simp] theorem State.protect_kept (s : State) (u : Nat) (c : Nat) (t : Nat) :
    (State.protect s u c t).otp = s.otp ∧ (State.protect s u c t).pending = s.pending := by simp [State.protect, apply_ite State.otp, apply_ite State.pending]
@[simp] theorem State.shortTrip_kept (s : State) (u : Nat) (cur : Nat) :
    (State.shortTrip s u cur).otp = s.otp ∧ (State.shortTrip s u cur).pending = s.pending := by simp [State.shortTrip, apply_ite State.otp, apply_ite State.pending]
@[simp] theorem State.overloadTrip_kept (s : State) (u : Nat) :
    (State.overloadTrip s u).otp = s.otp ∧ (State.overloadTrip s u).pending = s.pending := by simp [State.overloadTrip, apply_ite State.otp, apply_ite State.pending]
@[simp] theorem State.vdsTrip_kept (s : State) (u : Nat) (vds : Nat) :
    (State.vdsTrip s u vds).otp = s.otp ∧ (State.vdsTrip s u vds).pending = s.pending := by simp [State.vdsTrip, apply_ite State.otp, apply_ite State.pending]
@[simp] theorem State.chanEmberSet_kept (s : State) (u : Nat) (tj : Int) (ts : Nat) :
    (State.chanEmberSet s u tj ts).otp = s.otp ∧ (State.chanEmberSet s u tj ts).pending = s.pending := by
  unfold State.chanEmberSet; dsimp only; repeat' split
  all_goals simp
@[simp] theorem State.chanEmberRelease_kept (s : State) (u : Nat) (tj : Int) (ts : Nat) :
    (State.chanEmberRelease s u tj ts).otp = s.otp ∧ (State.chanEmberRelease s u tj ts).pending = s.pending := by
  unfold State.chanEmberRelease; dsimp only; repeat' split
  all_goals simp
@[simp] theorem State.snuffEnd_kept (s : State) (u : Nat) :
    (State.snuffEnd s u).otp = s.otp ∧ (State.snuffEnd s u).pending = s.pending := by simp [State.snuffEnd, apply_ite State.otp, apply_ite State.pending]
@[simp] theorem State.retryDue_kept (s : State) (u : Nat) :
    (State.retryDue s u).otp = s.otp ∧ (State.retryDue s u).pending = s.pending := by simp [State.retryDue, apply_ite State.otp, apply_ite State.pending]
@[simp] theorem State.retryRefill_kept (s : State) (u : Nat) :
    (State.retryRefill s u).otp = s.otp ∧ (State.retryRefill s u).pending = s.pending := by unfold State.retryRefill; split <;> simp [apply_ite State.otp, apply_ite State.pending]
@[simp] theorem State.setCmd_kept (s : State) (u : Nat) (w : Nat) :
    (State.setCmd s u w).otp = s.otp ∧ (State.setCmd s u w).pending = s.pending := by simp [State.setCmd]
@[simp] theorem State.followCmd_kept (s : State) (u : Nat) (t : Nat) (old : Nat) :
    (State.followCmd s u t old).otp = s.otp ∧ (State.followCmd s u t old).pending = s.pending := by simp [State.followCmd, apply_ite State.otp, apply_ite State.pending]
@[simp] theorem State.actOnCmd_kept (s : State) (u : Nat) (t : Nat) (old : Nat) :
    (State.actOnCmd s u t old).otp = s.otp ∧ (State.actOnCmd s u t old).pending = s.pending := by unfold State.actOnCmd; split <;> simp [apply_ite State.otp, apply_ite State.pending]
@[simp] theorem State.applyChan_kept (s : State) (u : Nat) (w : Nat) (t : Nat) :
    (State.applyChan s u w t).otp = s.otp ∧ (State.applyChan s u w t).pending = s.pending := by simp [State.applyChan, apply_ite State.otp, apply_ite State.pending]
@[simp] theorem State.clearChan_kept (s : State) (u : Nat) (t : Nat) :
    (State.clearChan s u t).otp = s.otp ∧ (State.clearChan s u t).pending = s.pending := by simp [State.clearChan, apply_ite State.otp, apply_ite State.pending]
@[simp] theorem State.requestChanClear_kept (s : State) (u : Nat) (tag : Option Nat) :
    (State.requestChanClear s u tag).otp = s.otp ∧ (State.requestChanClear s u tag).pending = s.pending := by simp [State.requestChanClear]
@[simp] theorem State.limpChan_kept (s : State) (u : Nat) (t : Nat) :
    (State.limpChan s u t).otp = s.otp ∧ (State.limpChan s u t).pending = s.pending := by unfold State.limpChan; split <;> simp [apply_ite State.otp, apply_ite State.pending]
@[simp] theorem State.unlimpChan_kept (s : State) (u : Nat) (t : Nat) :
    (State.unlimpChan s u t).otp = s.otp ∧ (State.unlimpChan s u t).pending = s.pending := by simp [State.unlimpChan, apply_ite State.otp, apply_ite State.pending]
@[simp] theorem State.startChan_kept (s : State) (u : Nat) (t : Nat) :
    (State.startChan s u t).otp = s.otp ∧ (State.startChan s u t).pending = s.pending := by simp [State.startChan]
@[simp] theorem State.chanPeriodStart_kept (s : State) (u : Nat) :
    (State.chanPeriodStart s u).otp = s.otp ∧ (State.chanPeriodStart s u).pending = s.pending := by simp [State.chanPeriodStart, apply_ite State.otp, apply_ite State.pending]
@[simp] theorem State.chanOnTimeEnd_kept (s : State) (u : Nat) :
    (State.chanOnTimeEnd s u).otp = s.otp ∧ (State.chanOnTimeEnd s u).pending = s.pending := by simp [State.chanOnTimeEnd, apply_ite State.otp, apply_ite State.pending]
@[simp] theorem State.softStartCarrier_kept (s : State) (u : Nat) :
    (State.softStartCarrier s u).otp = s.otp ∧ (State.softStartCarrier s u).pending = s.pending := by simp [State.softStartCarrier, apply_ite State.otp, apply_ite State.pending]
@[simp] theorem State.inrushWindowEnd_kept (s : State) (u : Nat) :
    (State.inrushWindowEnd s u).otp = s.otp ∧ (State.inrushWindowEnd s u).pending = s.pending := by simp [State.inrushWindowEnd, apply_ite State.otp, apply_ite State.pending]
@[simp] theorem State.chanSample_kept (s : State) (t : Nat) (x : ChanSample) :
    (State.chanSample s t x).otp = s.otp ∧ (State.chanSample s t x).pending = s.pending := by simp [State.chanSample, apply_ite State.otp, apply_ite State.pending]
@[simp] theorem State.chanWindow_kept (s : State) (u : Nat) (w : Nat) :
    (State.chanWindow s u w).otp = s.otp ∧ (State.chanWindow s u w).pending = s.pending := by simp [State.chanWindow, apply_ite State.otp, apply_ite State.pending]
@[simp] theorem State.wickLimits_kept (s : State) (u : Nat) (t : Nat) (n : Int) :
    (State.wickLimits s u t n).otp = s.otp ∧ (State.wickLimits s u t n).pending = s.pending := by simp [State.wickLimits, apply_ite State.otp, apply_ite State.pending]
@[simp] theorem State.wickChan_kept (s : State) (u : Nat) (t : Nat) :
    (State.wickChan s u t).otp = s.otp ∧ (State.wickChan s u t).pending = s.pending := by simp [State.wickChan]
@[simp] theorem State.bundleCompute_kept (s : State) (d : Die) (other : List Rat) :
    (State.bundleCompute s d other).otp = s.otp ∧ (State.bundleCompute s d other).pending = s.pending := by simp [State.bundleCompute, apply_ite State.otp, apply_ite State.pending]
@[simp] theorem State.setPpQueue_kept (s : State) (d : Die) (q : List PpMsg) :
    (State.setPpQueue s d q).otp = s.otp ∧ (State.setPpQueue s d q).pending = s.pending := by simp [State.setPpQueue, apply_ite State.otp, apply_ite State.pending]
@[simp] theorem State.ppLate_kept (s : State) (d : Die) (sent : Nat) :
    (State.ppLate s d sent).otp = s.otp ∧ (State.ppLate s d sent).pending = s.pending := by simp [State.ppLate, apply_ite State.otp, apply_ite State.pending]
@[simp] theorem State.bundleResume_kept (s : State) (d : Die) (tbs : List Rat) :
    (State.bundleResume s d tbs).otp = s.otp ∧ (State.bundleResume s d tbs).pending = s.pending := by simp [State.bundleResume, apply_ite State.otp, apply_ite State.pending]
@[simp] theorem State.bundleTake_kept (s : State) (d : Die) (sums : List Rat) (tbs : List Rat) :
    (State.bundleTake s d sums tbs).otp = s.otp ∧ (State.bundleTake s d sums tbs).pending = s.pending := by simp [State.bundleTake, apply_ite State.otp, apply_ite State.pending]
@[simp] theorem State.bundleMessage_kept (s : State) (d : Die) :
    (State.bundleMessage s d).otp = s.otp ∧ (State.bundleMessage s d).pending = s.pending := by unfold State.bundleMessage; split <;> simp [apply_ite State.otp, apply_ite State.pending]
@[simp] theorem State.bundleTimeout_kept (s : State) (d : Die) :
    (State.bundleTimeout s d).otp = s.otp ∧ (State.bundleTimeout s d).pending = s.pending := by simp [State.bundleTimeout, apply_ite State.otp, apply_ite State.pending]
@[simp] theorem State.extendWindows_kept (s : State) (d : Die) (k : Nat) (e : Nat) :
    (State.extendWindows s d k e).otp = s.otp ∧ (State.extendWindows s d k e).pending = s.pending := by simp [State.extendWindows, apply_ite State.otp, apply_ite State.pending]
@[simp] theorem State.droopRecord_kept (s : State) (d : Die) (dur : Nat) :
    (State.droopRecord s d dur).otp = s.otp ∧ (State.droopRecord s d dur).pending = s.pending := by simp [State.droopRecord]
@[simp] theorem State.droopEndSend_kept (s : State) (d : Die) (stamp : Nat) (e : Nat) :
    (State.droopEndSend s d stamp e).otp = s.otp ∧ (State.droopEndSend s d stamp e).pending = s.pending := by simp [State.droopEndSend, apply_ite State.otp, apply_ite State.pending]
@[simp] theorem State.droopEnd_kept (s : State) (d : Die) (t : Nat) :
    (State.droopEnd s d t).otp = s.otp ∧ (State.droopEnd s d t).pending = s.pending := by simp [State.droopEnd, apply_ite State.otp, apply_ite State.pending]
@[simp] theorem State.droopSample_kept (s : State) (d : Die) (v : Nat) (t : Nat) :
    (State.droopSample s d v t).otp = s.otp ∧ (State.droopSample s d v t).pending = s.pending := by simp [State.droopSample, apply_ite State.otp, apply_ite State.pending]
@[simp] theorem State.droopDetected_kept (s : State) (d : Die) :
    (State.droopDetected s d).otp = s.otp ∧ (State.droopDetected s d).pending = s.pending := by simp [State.droopDetected, apply_ite State.otp, apply_ite State.pending]
@[simp] theorem State.resuspend_kept (s : State) (d : Die) (det : Nat) :
    (State.resuspend s d det).otp = s.otp ∧ (State.resuspend s d det).pending = s.pending := by simp [State.resuspend, apply_ite State.otp, apply_ite State.pending]
@[simp] theorem State.droopNotice_kept (s : State) (d : Die) :
    (State.droopNotice s d).otp = s.otp ∧ (State.droopNotice s d).pending = s.pending := by unfold State.droopNotice; split <;> simp [apply_ite State.otp, apply_ite State.pending]
@[simp] theorem State.droopEndNotice_kept (s : State) (d : Die) :
    (State.droopEndNotice s d).otp = s.otp ∧ (State.droopEndNotice s d).pending = s.pending := by
  unfold State.droopEndNotice; dsimp only; repeat' split
  all_goals simp
@[simp] theorem State.droopCap_kept (s : State) (d : Die) :
    (State.droopCap s d).otp = s.otp ∧ (State.droopCap s d).pending = s.pending := by unfold State.droopCap; dsimp only; split <;> simp [apply_ite State.otp, apply_ite State.pending]
@[simp] theorem State.droopFreezeEnd_kept (s : State) (d : Die) :
    (State.droopFreezeEnd s d).otp = s.otp ∧ (State.droopFreezeEnd s d).pending = s.pending := by simp [State.droopFreezeEnd, apply_ite State.otp, apply_ite State.pending]
@[simp] theorem State.droopRecordLimit_kept (s : State) (d : Die) :
    (State.droopRecordLimit s d).otp = s.otp ∧ (State.droopRecordLimit s d).pending = s.pending := by simp [State.droopRecordLimit, apply_ite State.otp, apply_ite State.pending]
@[simp] theorem State.olTestStart_kept (s : State) (u : Nat) :
    (State.olTestStart s u).otp = s.otp ∧ (State.olTestStart s u).pending = s.pending := by simp [State.olTestStart, apply_ite State.otp, apply_ite State.pending]
@[simp] theorem State.olResult_kept (s : State) (u : Nat) (t : Nat) (sb : Bool) (ol : Bool) :
    (State.olResult s u t sb ol).otp = s.otp ∧ (State.olResult s u t sb ol).pending = s.pending := by simp [State.olResult, apply_ite State.otp, apply_ite State.pending]
@[simp] theorem State.olTestEnd_kept (s : State) (u : Nat) :
    (State.olTestEnd s u).otp = s.otp ∧ (State.olTestEnd s u).pending = s.pending := by unfold State.olTestEnd; dsimp only; split <;> simp [apply_ite State.otp, apply_ite State.pending]
@[simp] theorem State.setMotor_kept (s : State) (m : Nat) (x : Motor) :
    (State.setMotor s m x).otp = s.otp ∧ (State.setMotor s m x).pending = s.pending := by simp [State.setMotor]
@[simp] theorem State.reportMotor_kept (s : State) (m : Nat) (t : Nat) :
    (State.reportMotor s m t).otp = s.otp ∧ (State.reportMotor s m t).pending = s.pending := by simp [State.reportMotor]
@[simp] theorem State.motorResult_kept (s : State) (m : Nat) (reason : Nat) (drive : Bool) (t : Nat) :
    (State.motorResult s m reason drive t).otp = s.otp ∧ (State.motorResult s m reason drive t).pending = s.pending := by simp [State.motorResult]
@[simp] theorem State.endMotion_kept (s : State) (m : Nat) (mo : Motion) (reason : Nat) (t : Nat) :
    (State.endMotion s m mo reason t).otp = s.otp ∧ (State.endMotion s m mo reason t).pending = s.pending := by simp [State.endMotion, apply_ite State.otp, apply_ite State.pending]
@[simp] theorem State.endMotions_kept (s : State) (m : Nat) (reason : Nat) (t : Nat) (waits : Nat) :
    (State.endMotions s m reason t waits).otp = s.otp ∧ (State.endMotions s m reason t waits).pending = s.pending := by
  unfold State.endMotions; dsimp only; repeat' split
  all_goals simp
@[simp] theorem State.driveOut_kept (s : State) (m : Nat) (t : Nat) :
    (State.driveOut s m t).otp = s.otp ∧ (State.driveOut s m t).pending = s.pending := by simp [State.driveOut]
@[simp] theorem State.motorGate_kept (s : State) (m : Nat) (t : Nat) :
    (State.motorGate s m t).otp = s.otp ∧ (State.motorGate s m t).pending = s.pending := by simp [State.motorGate]
@[simp] theorem State.mEnter_kept (s : State) (m : Nat) (st : MotorSt) (t : Nat) :
    (State.mEnter s m st t).otp = s.otp ∧ (State.mEnter s m st t).pending = s.pending := by simp [State.mEnter, apply_ite State.otp, apply_ite State.pending]
@[simp] theorem State.unsure_kept (s : State) (m : Nat) :
    (State.unsure s m).otp = s.otp ∧ (State.unsure s m).pending = s.pending := by simp [State.unsure]
@[simp] theorem State.startMotion_kept (s : State) (m : Nat) (mo : Motion) (t : Nat) :
    (State.startMotion s m mo t).otp = s.otp ∧ (State.startMotion s m mo t).pending = s.pending := by simp [State.startMotion]
@[simp] theorem State.settle_kept (s : State) (m : Nat) (t : Nat) (low : Bool) :
    (State.settle s m t low).otp = s.otp ∧ (State.settle s m t low).pending = s.pending := by simp [State.settle, apply_ite State.otp, apply_ite State.pending]
@[simp] theorem State.endRun_kept (s : State) (m : Nat) (reason : Nat) (t : Nat) (low : Bool) :
    (State.endRun s m reason t low).otp = s.otp ∧ (State.endRun s m reason t low).pending = s.pending := by simp [State.endRun]
@[simp] theorem State.showEmber_kept (s : State) (m : Nat) :
    (State.showEmber s m).otp = s.otp ∧ (State.showEmber s m).pending = s.pending := by simp [State.showEmber]
@[simp] theorem State.mRest_kept (s : State) (m : Nat) (t : Nat) :
    (State.mRest s m t).otp = s.otp ∧ (State.mRest s m t).pending = s.pending := by simp [State.mRest, apply_ite State.otp, apply_ite State.pending]
@[simp] theorem State.setMWord_kept (s : State) (m : Nat) (w : Nat) :
    (State.setMWord s m w).otp = s.otp ∧ (State.setMWord s m w).pending = s.pending := by simp [State.setMWord]
@[simp] theorem State.takeMotion_kept (s : State) (m : Nat) (mo : Motion) (t : Nat) :
    (State.takeMotion s m mo t).otp = s.otp ∧ (State.takeMotion s m mo t).pending = s.pending := by
  unfold State.takeMotion; dsimp only; repeat' split
  all_goals simp
@[simp] theorem State.endsAtOnce_kept (s : State) (m : Nat) (mo : Motion) (reason : Nat) (t : Nat) :
    (State.endsAtOnce s m mo reason t).otp = s.otp ∧ (State.endsAtOnce s m mo reason t).pending = s.pending := by simp [State.endsAtOnce, apply_ite State.otp, apply_ite State.pending]
@[simp] theorem State.mMove_kept (s : State) (m : Nat) (mo : Motion) (t : Nat) :
    (State.mMove s m mo t).otp = s.otp ∧ (State.mMove s m mo t).pending = s.pending := by simp [State.mMove, apply_ite State.otp, apply_ite State.pending]
@[simp] theorem State.mCoast_kept (s : State) (m : Nat) (t : Nat) :
    (State.mCoast s m t).otp = s.otp ∧ (State.mCoast s m t).pending = s.pending := by unfold State.mCoast; split <;> simp [apply_ite State.otp, apply_ite State.pending]
@[simp] theorem State.mBrake_kept (s : State) (m : Nat) (t : Nat) :
    (State.mBrake s m t).otp = s.otp ∧ (State.mBrake s m t).pending = s.pending := by unfold State.mBrake; split <;> simp
@[simp] theorem State.mSetPos_kept (s : State) (m : Nat) (arg : Nat) (t : Nat) :
    (State.mSetPos s m arg t).otp = s.otp ∧ (State.mSetPos s m arg t).pending = s.pending := by simp [State.mSetPos, apply_ite State.otp, apply_ite State.pending]
@[simp] theorem State.mAct_kept (s : State) (m : Nat) (w : Nat) (t : Nat) :
    (State.mAct s m w t).otp = s.otp ∧ (State.mAct s m w t).pending = s.pending := by
  unfold State.mAct; (try dsimp only); repeat' split
  all_goals simp [apply_ite State.otp, apply_ite State.pending]
@[simp] theorem State.pinchLeft_kept (s : State) (m : Nat) (t : Nat) :
    (State.pinchLeft s m t).otp = s.otp ∧ (State.pinchLeft s m t).pending = s.pending := by simp [State.pinchLeft, apply_ite State.otp, apply_ite State.pending]
@[simp] theorem State.pholdCheck_kept (s : State) (m : Nat) (t : Nat) :
    (State.pholdCheck s m t).otp = s.otp ∧ (State.pholdCheck s m t).pending = s.pending := by simp [State.pholdCheck, apply_ite State.otp, apply_ite State.pending]
@[simp] theorem State.applyMotor_kept (s : State) (m : Nat) (w : Nat) (t : Nat) :
    (State.applyMotor s m w t).otp = s.otp ∧ (State.applyMotor s m w t).pending = s.pending := by simp [State.applyMotor, apply_ite State.otp, apply_ite State.pending]
@[simp] theorem State.clearMotor_kept (s : State) (m : Nat) (t : Nat) :
    (State.clearMotor s m t).otp = s.otp ∧ (State.clearMotor s m t).pending = s.pending := by simp [State.clearMotor, apply_ite State.otp, apply_ite State.pending]
@[simp] theorem State.requestMotorClear_kept (s : State) (m : Nat) (tag : Option Nat) :
    (State.requestMotorClear s m tag).otp = s.otp ∧ (State.requestMotorClear s m tag).pending = s.pending := by simp [State.requestMotorClear]
@[simp] theorem State.limpMotor_kept (s : State) (m : Nat) (t : Nat) :
    (State.limpMotor s m t).otp = s.otp ∧ (State.limpMotor s m t).pending = s.pending := by unfold State.limpMotor; split <;> simp
@[simp] theorem State.pinch_kept (s : State) (m : Nat) (t : Nat) :
    (State.pinch s m t).otp = s.otp ∧ (State.pinch s m t).pending = s.pending := by simp [State.pinch]
@[simp] theorem State.motorStep_kept (s : State) (m : Nat) (t : Nat) :
    (State.motorStep s m t).otp = s.otp ∧ (State.motorStep s m t).pending = s.pending := by
  unfold State.motorStep; dsimp only; repeat' split
  all_goals simp
@[simp] theorem State.setSeq_kept (s : State) (i : Nat) (q : Seq) :
    (State.setSeq s i q).otp = s.otp ∧ (State.setSeq s i q).pending = s.pending := by simp [State.setSeq]
@[simp] theorem State.bridgeOverrunAt_kept (s : State) (d : Die) (t : Nat) :
    (State.bridgeOverrunAt s d t).otp = s.otp ∧ (State.bridgeOverrunAt s d t).pending = s.pending := by simp [State.bridgeOverrunAt, apply_ite State.otp, apply_ite State.pending]
@[simp] theorem State.bridgeStepAt_kept (s : State) (d : Die) (t : Nat) :
    (State.bridgeStepAt s d t).otp = s.otp ∧ (State.bridgeStepAt s d t).pending = s.pending := by simp [State.bridgeStepAt, apply_ite State.otp, apply_ite State.pending]
@[simp] theorem State.bridgeStep_kept (s : State) (d : Die) :
    (State.bridgeStep s d).otp = s.otp ∧ (State.bridgeStep s d).pending = s.pending := by simp [State.bridgeStep, apply_ite State.otp, apply_ite State.pending]
@[simp] theorem State.bridgeOverrun_kept (s : State) (d : Die) :
    (State.bridgeOverrun s d).otp = s.otp ∧ (State.bridgeOverrun s d).pending = s.pending := by simp [State.bridgeOverrun, apply_ite State.otp, apply_ite State.pending]
@[simp] theorem State.motorSample_kept (s : State) (t : Nat) (y : MotorSample) :
    (State.motorSample s t y).otp = s.otp ∧ (State.motorSample s t y).pending = s.pending := by simp [State.motorSample, apply_ite State.otp, apply_ite State.pending]
@[simp] theorem State.rippleEdge_kept (s : State) (m : Nat) :
    (State.rippleEdge s m).otp = s.otp ∧ (State.rippleEdge s m).pending = s.pending := by unfold State.rippleEdge; dsimp only; split <;> simp [apply_ite State.otp, apply_ite State.pending]
@[simp] theorem State.motorWindow_kept (s : State) (m : Nat) :
    (State.motorWindow s m).otp = s.otp ∧ (State.motorWindow s m).pending = s.pending := by simp [State.motorWindow, apply_ite State.otp, apply_ite State.pending]
@[simp] theorem State.pinchDone_kept (s : State) (m : Nat) (t : Nat) :
    (State.pinchDone s m t).otp = s.otp ∧ (State.pinchDone s m t).pending = s.pending := by simp [State.pinchDone, apply_ite State.otp, apply_ite State.pending]
@[simp] theorem State.motorStallAt_kept (s : State) (m : Nat) (t : Nat) :
    (State.motorStallAt s m t).otp = s.otp ∧ (State.motorStallAt s m t).pending = s.pending := by
  unfold State.motorStallAt; (try dsimp only); repeat' split
  all_goals simp [apply_ite State.otp, apply_ite State.pending]
@[simp] theorem State.motorStall_kept (s : State) (m : Nat) :
    (State.motorStall s m).otp = s.otp ∧ (State.motorStall s m).pending = s.pending := by simp [State.motorStall]
@[simp] theorem State.motorRunLimit_kept (s : State) (m : Nat) :
    (State.motorRunLimit s m).otp = s.otp ∧ (State.motorRunLimit s m).pending = s.pending := by unfold State.motorRunLimit; split <;> simp [apply_ite State.otp, apply_ite State.pending]
@[simp] theorem State.blankingEnd_kept (s : State) (m : Nat) :
    (State.blankingEnd s m).otp = s.otp ∧ (State.blankingEnd s m).pending = s.pending := by simp [State.blankingEnd, apply_ite State.otp, apply_ite State.pending]
@[simp] theorem State.pulseEndAt_kept (s : State) (m : Nat) (t : Nat) :
    (State.pulseEndAt s m t).otp = s.otp ∧ (State.pulseEndAt s m t).pending = s.pending := by
  unfold State.pulseEndAt; (try dsimp only); repeat' split
  all_goals simp [apply_ite State.otp, apply_ite State.pending]
@[simp] theorem State.pulseEnd_kept (s : State) (m : Nat) :
    (State.pulseEnd s m).otp = s.otp ∧ (State.pulseEnd s m).pending = s.pending := by simp [State.pulseEnd]
@[simp] theorem State.pinchBrakeEnd_kept (s : State) (m : Nat) :
    (State.pinchBrakeEnd s m).otp = s.otp ∧ (State.pinchBrakeEnd s m).pending = s.pending := by simp [State.pinchBrakeEnd, apply_ite State.otp, apply_ite State.pending]
@[simp] theorem State.reversalAt_kept (s : State) (m : Nat) (t : Nat) :
    (State.reversalAt s m t).otp = s.otp ∧ (State.reversalAt s m t).pending = s.pending := by simp [State.reversalAt, apply_ite State.otp, apply_ite State.pending]
@[simp] theorem State.reversalComplete_kept (s : State) (m : Nat) :
    (State.reversalComplete s m).otp = s.otp ∧ (State.reversalComplete s m).pending = s.pending := by simp [State.reversalComplete, apply_ite State.otp, apply_ite State.pending]
@[simp] theorem State.stepBefore_kept (s : State) (d : Die) (t : Nat) :
    (State.stepBefore s d t).otp = s.otp ∧ (State.stepBefore s d t).pending = s.pending := by simp [State.stepBefore, apply_ite State.otp, apply_ite State.pending]
@[simp] theorem State.settleEnd_kept (s : State) (m : Nat) :
    (State.settleEnd s m).otp = s.otp ∧ (State.settleEnd s m).pending = s.pending := by
  unfold State.settleEnd; dsimp only; repeat' split
  all_goals simp
@[simp] theorem State.bridgeTrip_kept (s : State) (m : Nat) (x : BridgeSense) :
    (State.bridgeTrip s m x).otp = s.otp ∧ (State.bridgeTrip s m x).pending = s.pending := by simp [State.bridgeTrip, apply_ite State.otp, apply_ite State.pending]
@[simp] theorem State.motorTrippedEnd_kept (s : State) (m : Nat) :
    (State.motorTrippedEnd s m).otp = s.otp ∧ (State.motorTrippedEnd s m).pending = s.pending := by simp [State.motorTrippedEnd, apply_ite State.otp, apply_ite State.pending]
@[simp] theorem State.thermal_kept (s : State) (m : Nat) (t : Nat) :
    (State.thermal s m t).otp = s.otp ∧ (State.thermal s m t).pending = s.pending := by unfold State.thermal; split <;> simp [apply_ite State.otp, apply_ite State.pending]
@[simp] theorem State.motorEmberSet_kept (s : State) (m : Nat) (side : Nat) (tj : Int) :
    (State.motorEmberSet s m side tj).otp = s.otp ∧ (State.motorEmberSet s m side tj).pending = s.pending := by simp [State.motorEmberSet, apply_ite State.otp, apply_ite State.pending]
@[simp] theorem State.motorEmberRelease_kept (s : State) (m : Nat) (side : Nat) (tj : Int) :
    (State.motorEmberRelease s m side tj).otp = s.otp ∧ (State.motorEmberRelease s m side tj).pending = s.pending := by unfold State.motorEmberRelease; dsimp only; split <;> simp [apply_ite State.otp, apply_ite State.pending]
@[simp] theorem State.currentChop_kept (s : State) (m : Nat) (cur : Nat) :
    (State.currentChop s m cur).otp = s.otp ∧ (State.currentChop s m cur).pending = s.pending := by simp [State.currentChop, apply_ite State.otp, apply_ite State.pending]
@[simp] theorem State.chopOffEnd_kept (s : State) (m : Nat) :
    (State.chopOffEnd s m).otp = s.otp ∧ (State.chopOffEnd s m).pending = s.pending := by simp [State.chopOffEnd, apply_ite State.otp, apply_ite State.pending]
@[simp] theorem State.motorPeriodStart_kept (s : State) (m : Nat) :
    (State.motorPeriodStart s m).otp = s.otp ∧ (State.motorPeriodStart s m).pending = s.pending := by simp [State.motorPeriodStart, apply_ite State.otp, apply_ite State.pending]
@[simp] theorem State.motorOnTimeEnd_kept (s : State) (m : Nat) :
    (State.motorOnTimeEnd s m).otp = s.otp ∧ (State.motorOnTimeEnd s m).pending = s.pending := by simp [State.motorOnTimeEnd, apply_ite State.otp, apply_ite State.pending]
@[simp] theorem State.bemfStart_kept (s : State) (m : Nat) :
    (State.bemfStart s m).otp = s.otp ∧ (State.bemfStart s m).pending = s.pending := by simp [State.bemfStart, apply_ite State.otp, apply_ite State.pending]
@[simp] theorem State.bemfEnd_kept (s : State) (m : Nat) :
    (State.bemfEnd s m).otp = s.otp ∧ (State.bemfEnd s m).pending = s.pending := by unfold State.bemfEnd; dsimp only; split <;> simp [apply_ite State.otp, apply_ite State.pending]
@[simp] theorem State.startMotor_kept (s : State) (m : Nat) (t : Nat) :
    (State.startMotor s m t).otp = s.otp ∧ (State.startMotor s m t).pending = s.pending := by simp [State.startMotor]
@[simp] theorem State.commitMotor_kept (s : State) (m : Nat) (t : Nat) :
    (State.commitMotor s m t).otp = s.otp ∧ (State.commitMotor s m t).pending = s.pending := by simp [State.commitMotor, apply_ite State.otp, apply_ite State.pending]
@[simp] theorem State.setValve_kept (s : State) (n : Nat) (x : Valve) :
    (State.setValve s n x).otp = s.otp ∧ (State.setValve s n x).pending = s.pending := by simp [State.setValve]
@[simp] theorem State.setBank_kept (s : State) (b : Nat) (x : Bank) :
    (State.setBank s b x).otp = s.otp ∧ (State.setBank s b x).pending = s.pending := by simp [State.setBank]
@[simp] theorem State.reportValve_kept (s : State) (n : Nat) (t : Nat) :
    (State.reportValve s n t).otp = s.otp ∧ (State.reportValve s n t).pending = s.pending := by simp [State.reportValve]
@[simp] theorem State.reportBank_kept (s : State) (b : Nat) (t : Nat) :
    (State.reportBank s b t).otp = s.otp ∧ (State.reportBank s b t).pending = s.pending := by simp [State.reportBank]
@[simp] theorem State.bankFollow_kept (s : State) (b : Nat) (t : Nat) :
    (State.bankFollow s b t).otp = s.otp ∧ (State.bankFollow s b t).pending = s.pending := by simp [State.bankFollow]
@[simp] theorem State.valveResult_kept (s : State) (n : Nat) (reason : Nat) (t : Nat) :
    (State.valveResult s n reason t).otp = s.otp ∧ (State.valveResult s n reason t).pending = s.pending := by simp [State.valveResult, apply_ite State.otp, apply_ite State.pending]
@[simp] theorem State.vEnter_kept (s : State) (n : Nat) (st : ValveSt) (t : Nat) :
    (State.vEnter s n st t).otp = s.otp ∧ (State.vEnter s n st t).pending = s.pending := by simp [State.vEnter, apply_ite State.otp, apply_ite State.pending]
@[simp] theorem State.vRest_kept (s : State) (n : Nat) (t : Nat) :
    (State.vRest s n t).otp = s.otp ∧ (State.vRest s n t).pending = s.pending := by simp [State.vRest]
@[simp] theorem State.holdRefresh_kept (s : State) (n : Nat) :
    (State.holdRefresh s n).otp = s.otp ∧ (State.holdRefresh s n).pending = s.pending := by simp [State.holdRefresh]
@[simp] theorem State.toHold_kept (s : State) (n : Nat) (t : Nat) :
    (State.toHold s n t).otp = s.otp ∧ (State.toHold s n t).pending = s.pending := by simp [State.toHold]
@[simp] theorem State.toRelease_kept (s : State) (n : Nat) (res : Nat) (t : Nat) :
    (State.toRelease s n res t).otp = s.otp ∧ (State.toRelease s n res t).pending = s.pending := by simp [State.toRelease]
@[simp] theorem State.reportEnergy_kept (s : State) (n : Nat) (t : Nat) :
    (State.reportEnergy s n t).otp = s.otp ∧ (State.reportEnergy s n t).pending = s.pending := by simp [State.reportEnergy]
@[simp] theorem State.endRelease_kept (s : State) (n : Nat) (t : Nat) :
    (State.endRelease s n t).otp = s.otp ∧ (State.endRelease s n t).pending = s.pending := by simp [State.endRelease, apply_ite State.otp, apply_ite State.pending]
@[simp] theorem State.dropReq_kept (s : State) (n : Nat) (reason : Nat) (t : Nat) :
    (State.dropReq s n reason t).otp = s.otp ∧ (State.dropReq s n reason t).pending = s.pending := by unfold State.dropReq; split <;> simp [apply_ite State.otp, apply_ite State.pending]
@[simp] theorem State.valveTripAt_kept (s : State) (n : Nat) (c : Nat) (t : Nat) :
    (State.valveTripAt s n c t).otp = s.otp ∧ (State.valveTripAt s n c t).pending = s.pending := by simp [State.valveTripAt, apply_ite State.otp, apply_ite State.pending]
@[simp] theorem State.valveTrip_kept (s : State) (n : Nat) (cur : Nat) :
    (State.valveTrip s n cur).otp = s.otp ∧ (State.valveTrip s n cur).pending = s.pending := by simp [State.valveTrip, apply_ite State.otp, apply_ite State.pending]
@[simp] theorem State.valveTrippedEnd_kept (s : State) (n : Nat) :
    (State.valveTrippedEnd s n).otp = s.otp ∧ (State.valveTrippedEnd s n).pending = s.pending := by simp [State.valveTrippedEnd, apply_ite State.otp, apply_ite State.pending]
@[simp] theorem State.bankDrop_kept (s : State) (b : Nat) (reason : Nat) (t : Nat) :
    (State.bankDrop s b reason t).otp = s.otp ∧ (State.bankDrop s b reason t).pending = s.pending := by
  unfold State.bankDrop; dsimp only
  refine foldl_kept _ (fun s x => ?_) _ _; (try dsimp only); repeat' split
  all_goals simp
@[simp] theorem State.bEnter_kept (s : State) (b : Nat) (st : BankSt) (t : Nat) :
    (State.bEnter s b st t).otp = s.otp ∧ (State.bEnter s b st t).pending = s.pending := by simp [State.bEnter]
@[simp] theorem State.bRest_kept (s : State) (b : Nat) (t : Nat) :
    (State.bRest s b t).otp = s.otp ∧ (State.bRest s b t).pending = s.pending := by simp [State.bRest]
@[simp] theorem State.bankTrip_kept (s : State) (b : Nat) (cur : Nat) :
    (State.bankTrip s b cur).otp = s.otp ∧ (State.bankTrip s b cur).pending = s.pending := by simp [State.bankTrip, apply_ite State.otp, apply_ite State.pending]
@[simp] theorem State.bankTrippedEnd_kept (s : State) (b : Nat) :
    (State.bankTrippedEnd s b).otp = s.otp ∧ (State.bankTrippedEnd s b).pending = s.pending := by simp [State.bankTrippedEnd, apply_ite State.otp, apply_ite State.pending]
@[simp] theorem State.valveEmberSet_kept (s : State) (n : Nat) (tj : Int) :
    (State.valveEmberSet s n tj).otp = s.otp ∧ (State.valveEmberSet s n tj).pending = s.pending := by
  unfold State.valveEmberSet; dsimp only; repeat' split
  all_goals simp
@[simp] theorem State.valveEmberRelease_kept (s : State) (n : Nat) (tj : Int) :
    (State.valveEmberRelease s n tj).otp = s.otp ∧ (State.valveEmberRelease s n tj).pending = s.pending := by unfold State.valveEmberRelease; split <;> simp [apply_ite State.otp, apply_ite State.pending]
@[simp] theorem State.bankEmberSet_kept (s : State) (b : Nat) (tj : Int) :
    (State.bankEmberSet s b tj).otp = s.otp ∧ (State.bankEmberSet s b tj).pending = s.pending := by
  unfold State.bankEmberSet; dsimp only; repeat' split
  all_goals simp
@[simp] theorem State.bankEmberRelease_kept (s : State) (b : Nat) (tj : Int) :
    (State.bankEmberRelease s b tj).otp = s.otp ∧ (State.bankEmberRelease s b tj).pending = s.pending := by unfold State.bankEmberRelease; split <;> simp [apply_ite State.otp, apply_ite State.pending]
@[simp] theorem State.applyValve_kept (s : State) (n : Nat) (w : Nat) (t : Nat) :
    (State.applyValve s n w t).otp = s.otp ∧ (State.applyValve s n w t).pending = s.pending := by simp [State.applyValve, apply_ite State.otp, apply_ite State.pending]
@[simp] theorem State.makeReq_kept (s : State) (n : Nat) (r : ValveReq) :
    (State.makeReq s n r).otp = s.otp ∧ (State.makeReq s n r).pending = s.pending := by simp [State.makeReq]
@[simp] theorem State.valveAct_kept (s : State) (n : Nat) (w : Nat) (stamp : Nat) (t : Nat) :
    (State.valveAct s n w stamp t).otp = s.otp ∧ (State.valveAct s n w stamp t).pending = s.pending := by
  unfold State.valveAct; dsimp only; repeat' split
  all_goals simp
@[simp] theorem State.takeWord_kept (s : State) (n : Nat) (t : Nat) :
    (State.takeWord s n t).otp = s.otp ∧ (State.takeWord s n t).pending = s.pending := by unfold State.takeWord; split <;> simp [apply_ite State.otp, apply_ite State.pending]
@[simp] theorem State.peakFailAt_kept (s : State) (n : Nat) (t : Nat) :
    (State.peakFailAt s n t).otp = s.otp ∧ (State.peakFailAt s n t).pending = s.pending := by simp [State.peakFailAt, apply_ite State.otp, apply_ite State.pending]
@[simp] theorem State.peakEndAt_kept (s : State) (n : Nat) (t : Nat) :
    (State.peakEndAt s n t).otp = s.otp ∧ (State.peakEndAt s n t).pending = s.pending := by simp [State.peakEndAt, apply_ite State.otp, apply_ite State.pending]
@[simp] theorem State.releaseEndAt_kept (s : State) (n : Nat) (t : Nat) :
    (State.releaseEndAt s n t).otp = s.otp ∧ (State.releaseEndAt s n t).pending = s.pending := by simp [State.releaseEndAt, apply_ite State.otp, apply_ite State.pending]
@[simp] theorem State.releaseTimeoutAt_kept (s : State) (n : Nat) (t : Nat) :
    (State.releaseTimeoutAt s n t).otp = s.otp ∧ (State.releaseTimeoutAt s n t).pending = s.pending := by simp [State.releaseTimeoutAt, apply_ite State.otp, apply_ite State.pending]
@[simp] theorem State.startPeak_kept (s : State) (n : Nat) (t : Nat) :
    (State.startPeak s n t).otp = s.otp ∧ (State.startPeak s n t).pending = s.pending := by unfold State.startPeak; dsimp only; split <;> simp [apply_ite State.otp, apply_ite State.pending]
@[simp] theorem State.leashAt_kept (s : State) (n : Nat) (t : Nat) :
    (State.leashAt s n t).otp = s.otp ∧ (State.leashAt s n t).pending = s.pending := by unfold State.leashAt; split <;> simp [apply_ite State.otp, apply_ite State.pending]
@[simp] theorem State.holdStep_kept (s : State) (n : Nat) (t : Nat) :
    (State.holdStep s n t).otp = s.otp ∧ (State.holdStep s n t).pending = s.pending := by simp [State.holdStep, apply_ite State.otp, apply_ite State.pending]
@[simp] theorem State.bankOverrunAt_kept (s : State) (b : Nat) (t : Nat) :
    (State.bankOverrunAt s b t).otp = s.otp ∧ (State.bankOverrunAt s b t).pending = s.pending := by
  unfold State.bankOverrunAt; (try dsimp only); repeat' split
  all_goals first
    | (simp [apply_ite State.otp, apply_ite State.pending]; done)
    | (refine (foldl_kept _ (fun s x => ?_) _ _).imp (fun h => h.trans ?_) (fun h => h.trans ?_) <;> (try dsimp only) <;> (repeat' split) <;> simp [apply_ite State.otp, apply_ite State.pending])
@[simp] theorem State.valveStepAt_kept (s : State) (b : Nat) (t : Nat) :
    (State.valveStepAt s b t).otp = s.otp ∧ (State.valveStepAt s b t).pending = s.pending := by simp [State.valveStepAt, apply_ite State.otp, apply_ite State.pending]
@[simp] theorem State.valveStep_kept (s : State) (b : Nat) :
    (State.valveStep s b).otp = s.otp ∧ (State.valveStep s b).pending = s.pending := by simp [State.valveStep, apply_ite State.otp, apply_ite State.pending]
@[simp] theorem State.holdLow_kept (s : State) (n : Nat) :
    (State.holdLow s n).otp = s.otp ∧ (State.holdLow s n).pending = s.pending := by simp [State.holdLow, apply_ite State.otp, apply_ite State.pending]
@[simp] theorem State.bankOverrun_kept (s : State) (b : Nat) :
    (State.bankOverrun s b).otp = s.otp ∧ (State.bankOverrun s b).pending = s.pending := by simp [State.bankOverrun, apply_ite State.otp, apply_ite State.pending]
@[simp] theorem State.targetReached_kept (s : State) (n : Nat) (cur : Nat) :
    (State.targetReached s n cur).otp = s.otp ∧ (State.targetReached s n cur).pending = s.pending := by simp [State.targetReached, apply_ite State.otp, apply_ite State.pending]
@[simp] theorem State.offTimeEnd_kept (s : State) (n : Nat) :
    (State.offTimeEnd s n).otp = s.otp ∧ (State.offTimeEnd s n).pending = s.pending := by simp [State.offTimeEnd, apply_ite State.otp, apply_ite State.pending]
@[simp] theorem State.valveSample_kept (s : State) (t : Nat) (y : ValveSample) :
    (State.valveSample s t y).otp = s.otp ∧ (State.valveSample s t y).pending = s.pending := by
  unfold State.valveSample; dsimp only; repeat' split
  all_goals simp
@[simp] theorem State.bankSample_kept (s : State) (y : ValveSample) :
    (State.bankSample s y).otp = s.otp ∧ (State.bankSample s y).pending = s.pending := by simp [State.bankSample, apply_ite State.otp, apply_ite State.pending]
@[simp] theorem State.valveWindow_kept (s : State) (n : Nat) :
    (State.valveWindow s n).otp = s.otp ∧ (State.valveWindow s n).pending = s.pending := by simp [State.valveWindow, apply_ite State.otp, apply_ite State.pending]
@[simp] theorem State.bankWindow_kept (s : State) (b : Nat) :
    (State.bankWindow s b).otp = s.otp ∧ (State.bankWindow s b).pending = s.pending := by simp [State.bankWindow, apply_ite State.otp, apply_ite State.pending]
@[simp] theorem State.reportBoost_kept (s : State) (t : Nat) :
    (State.reportBoost s t).otp = s.otp ∧ (State.reportBoost s t).pending = s.pending := by simp [State.reportBoost]
@[simp] theorem State.boostSample_kept (s : State) (t : Nat) (rail : Nat) :
    (State.boostSample s t rail).otp = s.otp ∧ (State.boostSample s t rail).pending = s.pending := by simp [State.boostSample]
@[simp] theorem State.boostReady_kept (s : State) :
    (State.boostReady s).otp = s.otp ∧ (State.boostReady s).pending = s.pending := by unfold State.boostReady; split <;> simp [apply_ite State.otp, apply_ite State.pending]
@[simp] theorem State.boostReadyLoss_kept (s : State) :
    (State.boostReadyLoss s).otp = s.otp ∧ (State.boostReadyLoss s).pending = s.pending := by simp [State.boostReadyLoss, apply_ite State.otp, apply_ite State.pending]
@[simp] theorem State.boostNotReady_kept (s : State) :
    (State.boostNotReady s).otp = s.otp ∧ (State.boostNotReady s).pending = s.pending := by simp [State.boostNotReady, apply_ite State.otp, apply_ite State.pending]
@[simp] theorem State.boostOvp_kept (s : State) :
    (State.boostOvp s).otp = s.otp ∧ (State.boostOvp s).pending = s.pending := by simp [State.boostOvp, apply_ite State.otp, apply_ite State.pending]
@[simp] theorem State.boostOvpEnd_kept (s : State) :
    (State.boostOvpEnd s).otp = s.otp ∧ (State.boostOvpEnd s).pending = s.pending := by simp [State.boostOvpEnd, apply_ite State.otp, apply_ite State.pending]
@[simp] theorem State.boostFollow_kept (s : State) (t : Nat) :
    (State.boostFollow s t).otp = s.otp ∧ (State.boostFollow s t).pending = s.pending := by simp [State.boostFollow, apply_ite State.otp, apply_ite State.pending]
@[simp] theorem State.clearValve_kept (s : State) (n : Nat) (t : Nat) :
    (State.clearValve s n t).otp = s.otp ∧ (State.clearValve s n t).pending = s.pending := by simp [State.clearValve, apply_ite State.otp, apply_ite State.pending]
@[simp] theorem State.clearBank_kept (s : State) (b : Nat) (t : Nat) :
    (State.clearBank s b t).otp = s.otp ∧ (State.clearBank s b t).pending = s.pending := by simp [State.clearBank, apply_ite State.otp, apply_ite State.pending]
@[simp] theorem State.requestValveClear_kept (s : State) (n : Nat) (tag : Option Nat) :
    (State.requestValveClear s n tag).otp = s.otp ∧ (State.requestValveClear s n tag).pending = s.pending := by simp [State.requestValveClear]
@[simp] theorem State.requestBankClear_kept (s : State) (b : Nat) (tag : Option Nat) :
    (State.requestBankClear s b tag).otp = s.otp ∧ (State.requestBankClear s b tag).pending = s.pending := by simp [State.requestBankClear]
@[simp] theorem State.limpOff_kept (s : State) (n : Nat) (t : Nat) :
    (State.limpOff s n t).otp = s.otp ∧ (State.limpOff s n t).pending = s.pending := by
  unfold State.limpOff; (try dsimp only); repeat' split
  all_goals simp [apply_ite State.otp, apply_ite State.pending]
@[simp] theorem State.limpOn_kept (s : State) (n : Nat) (t : Nat) :
    (State.limpOn s n t).otp = s.otp ∧ (State.limpOn s n t).pending = s.pending := by simp [State.limpOn, apply_ite State.otp, apply_ite State.pending]
@[simp] theorem State.showLimp_kept (s : State) (n : Nat) (t : Nat) :
    (State.showLimp s n t).otp = s.otp ∧ (State.showLimp s n t).pending = s.pending := by simp [State.showLimp]
@[simp] theorem State.limpValve_kept (s : State) (n : Nat) (t : Nat) :
    (State.limpValve s n t).otp = s.otp ∧ (State.limpValve s n t).pending = s.pending := by unfold State.limpValve; split <;> simp [apply_ite State.otp, apply_ite State.pending]
@[simp] theorem State.unlimpValve_kept (s : State) (n : Nat) :
    (State.unlimpValve s n).otp = s.otp ∧ (State.unlimpValve s n).pending = s.pending := by simp [State.unlimpValve]
@[simp] theorem State.commitBank_kept (s : State) (b : Nat) (t : Nat) :
    (State.commitBank s b t).otp = s.otp ∧ (State.commitBank s b t).pending = s.pending := by simp [State.commitBank]
@[simp] theorem State.commitValveOff_kept (s : State) (n : Nat) (t : Nat) :
    (State.commitValveOff s n t).otp = s.otp ∧ (State.commitValveOff s n t).pending = s.pending := by unfold State.commitValveOff; split <;> simp
@[simp] theorem State.valvesHeldOff_kept (s : State) (t : Nat) :
    (State.valvesHeldOff s t).otp = s.otp ∧ (State.valvesHeldOff s t).pending = s.pending := by
  unfold State.valvesHeldOff; dsimp only; simp
  refine foldl_kept _ (fun s x => ?_) _ _; (try dsimp only); repeat' split
  all_goals simp
@[simp] theorem State.startValves_kept (s : State) (t : Nat) :
    (State.startValves s t).otp = s.otp ∧ (State.startValves s t).pending = s.pending := by simp [State.startValves]
@[simp] theorem State.setSink_kept (s : State) (n : Nat) (x : LedSink) :
    (State.setSink s n x).otp = s.otp ∧ (State.setSink s n x).pending = s.pending := by simp [State.setSink]
@[simp] theorem State.reportLed_kept (s : State) (n : Nat) (t : Nat) :
    (State.reportLed s n t).otp = s.otp ∧ (State.reportLed s n t).pending = s.pending := by simp [State.reportLed]
@[simp] theorem State.ledMap_kept (s : State) (n : Nat) (b : Bool) :
    (State.ledMap s n b).otp = s.otp ∧ (State.ledMap s n b).pending = s.pending := by simp [State.ledMap, apply_ite State.otp, apply_ite State.pending]
@[simp] theorem State.ledEnter_kept (s : State) (n : Nat) (st : LedSt) (t : Nat) :
    (State.ledEnter s n st t).otp = s.otp ∧ (State.ledEnter s n st t).pending = s.pending := by simp [State.ledEnter, apply_ite State.otp, apply_ite State.pending]
@[simp] theorem State.setLedPos_kept (s : State) (n : Nat) (x : Nat) :
    (State.setLedPos s n x).otp = s.otp ∧ (State.setLedPos s n x).pending = s.pending := by simp [State.setLedPos]
@[simp] theorem State.ledSet_kept (s : State) (n : Nat) (pos : Nat) (curve : Nat) (t : Nat) :
    (State.ledSet s n pos curve t).otp = s.otp ∧ (State.ledSet s n pos curve t).pending = s.pending := by simp [State.ledSet]
@[simp] theorem State.ledOff_kept (s : State) (n : Nat) (t : Nat) :
    (State.ledOff s n t).otp = s.otp ∧ (State.ledOff s n t).pending = s.pending := by simp [State.ledOff]
@[simp] theorem State.ledAct_kept (s0 : State) (n : Nat) (w : Nat) (t : Nat) :
    (State.ledAct s0 n w t).otp = s0.otp ∧ (State.ledAct s0 n w t).pending = s0.pending := by unfold State.ledAct; dsimp only; split <;> simp [apply_ite State.otp, apply_ite State.pending]
@[simp] theorem State.applyLed_kept (s : State) (n : Nat) (w : Nat) (t : Nat) :
    (State.applyLed s n w t).otp = s.otp ∧ (State.applyLed s n w t).pending = s.pending := by simp [State.applyLed, apply_ite State.otp, apply_ite State.pending]
@[simp] theorem State.clearLed_kept (s : State) (n : Nat) (t : Nat) :
    (State.clearLed s n t).otp = s.otp ∧ (State.clearLed s n t).pending = s.pending := by simp [State.clearLed, apply_ite State.otp, apply_ite State.pending]
@[simp] theorem State.requestLedClear_kept (s : State) (n : Nat) (tag : Option Nat) :
    (State.requestLedClear s n tag).otp = s.otp ∧ (State.requestLedClear s n tag).pending = s.pending := by simp [State.requestLedClear]
@[simp] theorem State.limpLed_kept (s : State) (n : Nat) (t : Nat) :
    (State.limpLed s n t).otp = s.otp ∧ (State.limpLed s n t).pending = s.pending := by
  unfold State.limpLed; dsimp only; repeat' split
  all_goals simp
@[simp] theorem State.unlimpLed_kept (s : State) (n : Nat) :
    (State.unlimpLed s n).otp = s.otp ∧ (State.unlimpLed s n).pending = s.pending := by simp [State.unlimpLed]
@[simp] theorem State.ledPeriodStart_kept (s : State) (n : Nat) :
    (State.ledPeriodStart s n).otp = s.otp ∧ (State.ledPeriodStart s n).pending = s.pending := by simp [State.ledPeriodStart, apply_ite State.otp, apply_ite State.pending]
@[simp] theorem State.ledSample_kept (s : State) (t : Nat) (y : LedSample) :
    (State.ledSample s t y).otp = s.otp ∧ (State.ledSample s t y).pending = s.pending := by simp [State.ledSample, apply_ite State.otp, apply_ite State.pending]
@[simp] theorem State.ledOpen_kept (s : State) (n : Nat) :
    (State.ledOpen s n).otp = s.otp ∧ (State.ledOpen s n).pending = s.pending := by simp [State.ledOpen, apply_ite State.otp, apply_ite State.pending]
@[simp] theorem State.ledOpenClear_kept (s : State) (n : Nat) :
    (State.ledOpenClear s n).otp = s.otp ∧ (State.ledOpenClear s n).pending = s.pending := by simp [State.ledOpenClear, apply_ite State.otp, apply_ite State.pending]
@[simp] theorem State.ledShort_kept (s : State) (n : Nat) :
    (State.ledShort s n).otp = s.otp ∧ (State.ledShort s n).pending = s.pending := by simp [State.ledShort, apply_ite State.otp, apply_ite State.pending]
@[simp] theorem State.foldback_kept (s : State) (tj : Int) :
    (State.foldback s tj).otp = s.otp ∧ (State.foldback s tj).pending = s.pending := by simp [State.foldback, apply_ite State.otp, apply_ite State.pending]
@[simp] theorem State.arrayEmberSet_kept (s : State) (tj : Int) :
    (State.arrayEmberSet s tj).otp = s.otp ∧ (State.arrayEmberSet s tj).pending = s.pending := by simp [State.arrayEmberSet, apply_ite State.otp, apply_ite State.pending]
@[simp] theorem State.arrayEmberRelease_kept (s : State) (tj : Int) :
    (State.arrayEmberRelease s tj).otp = s.otp ∧ (State.arrayEmberRelease s tj).pending = s.pending := by unfold State.arrayEmberRelease; split <;> simp [apply_ite State.otp, apply_ite State.pending]
@[simp] theorem State.blankLed_kept (s : State) (n : Nat) :
    (State.blankLed s n).otp = s.otp ∧ (State.blankLed s n).pending = s.pending := by simp [State.blankLed]
@[simp] theorem State.commitLed_kept (s : State) (n : Nat) (t : Nat) (turnedOff : Bool) :
    (State.commitLed s n t turnedOff).otp = s.otp ∧ (State.commitLed s n t turnedOff).pending = s.pending := by simp [State.commitLed, apply_ite State.otp, apply_ite State.pending]
@[simp] theorem State.startLeds_kept (s : State) (t : Nat) :
    (State.startLeds s t).otp = s.otp ∧ (State.startLeds s t).pending = s.pending := by simp [State.startLeds]
@[simp] theorem State.setInput_kept (s : State) (n : Nat) (x : Input) :
    (State.setInput s n x).otp = s.otp ∧ (State.setInput s n x).pending = s.pending := by simp [State.setInput]
@[simp] theorem State.beginRun_kept (s : State) (n : Nat) (t : Nat) :
    (State.beginRun s n t).otp = s.otp ∧ (State.beginRun s n t).pending = s.pending := by simp [State.beginRun]
@[simp] theorem State.restart_kept (s : State) (n : Nat) (t : Nat) :
    (State.restart s n t).otp = s.otp ∧ (State.restart s n t).pending = s.pending := by simp [State.restart]
@[simp] theorem State.sendLevel_kept (s : State) (n : Nat) (t : Nat) :
    (State.sendLevel s n t).otp = s.otp ∧ (State.sendLevel s n t).pending = s.pending := by simp [State.sendLevel]
@[simp] theorem State.acceptLevel_kept (s : State) (n : Nat) (edge : Nat) (t : Nat) :
    (State.acceptLevel s n edge t).otp = s.otp ∧ (State.acceptLevel s n edge t).pending = s.pending := by simp [State.acceptLevel]
@[simp] theorem State.latchWake_kept (s : State) (n : Nat) (was : Bool) :
    (State.latchWake s n was).otp = s.otp ∧ (State.latchWake s n was).pending = s.pending := by simp [State.latchWake, apply_ite State.otp, apply_ite State.pending]
@[simp] theorem State.acceptOne_kept (s : State) (n : Nat) :
    (State.acceptOne s n).otp = s.otp ∧ (State.acceptOne s n).pending = s.pending := by unfold State.acceptOne; split <;> simp [apply_ite State.otp, apply_ite State.pending]
@[simp] theorem State.acceptBefore_kept (s : State) (n : Nat) (t : Nat) :
    (State.acceptBefore s n t).otp = s.otp ∧ (State.acceptBefore s n t).pending = s.pending := by unfold State.acceptBefore; split <;> simp [apply_ite State.otp, apply_ite State.pending]
@[simp] theorem State.rawAt_kept (s0 : State) (n : Nat) (v : Nat) (t : Nat) :
    (State.rawAt s0 n v t).otp = s0.otp ∧ (State.rawAt s0 n v t).pending = s0.pending := by simp [State.rawAt, apply_ite State.otp, apply_ite State.pending]
@[simp] theorem State.rawEdge_kept (s : State) (n : Nat) (v : Nat) :
    (State.rawEdge s n v).otp = s.otp ∧ (State.rawEdge s n v).pending = s.pending := by simp [State.rawEdge, apply_ite State.otp, apply_ite State.pending]
@[simp] theorem State.pulsedRead_kept (s : State) (n : Nat) (v : Nat) :
    (State.pulsedRead s n v).otp = s.otp ∧ (State.pulsedRead s n v).pending = s.pending := by simp [State.pulsedRead, apply_ite State.otp, apply_ite State.pending]
@[simp] theorem State.debounceAccept_kept (s : State) (n : Nat) :
    (State.debounceAccept s n).otp = s.otp ∧ (State.debounceAccept s n).pending = s.pending := by unfold State.debounceAccept; split <;> simp [apply_ite State.otp, apply_ite State.pending]
@[simp] theorem State.chatter_kept (s : State) (n : Nat) :
    (State.chatter s n).otp = s.otp ∧ (State.chatter s n).pending = s.pending := by unfold State.chatter; split <;> simp
@[simp] theorem State.lowbatSample_kept (s0 : State) (n : Nat) (t : Nat) (vbat : Nat) :
    (State.lowbatSample s0 n t vbat).otp = s0.otp ∧ (State.lowbatSample s0 n t vbat).pending = s0.pending := by simp [State.lowbatSample, apply_ite State.otp, apply_ite State.pending]
@[simp] theorem State.lowbatEnd_kept (s : State) (n : Nat) :
    (State.lowbatEnd s n).otp = s.otp ∧ (State.lowbatEnd s n).pending = s.pending := by unfold State.lowbatEnd; dsimp only; split <;> simp [apply_ite State.otp, apply_ite State.pending]
@[simp] theorem State.startInput_kept (s : State) (n : Nat) (t : Nat) :
    (State.startInput s n t).otp = s.otp ∧ (State.startInput s n t).pending = s.pending := by simp [State.startInput]
@[simp] theorem State.showWetLoad_kept (s : State) :
    (State.showWetLoad s).otp = s.otp ∧ (State.showWetLoad s).pending = s.pending := by simp [State.showWetLoad]
@[simp] theorem State.parkInput_kept (s : State) (n : Nat) :
    (State.parkInput s n).otp = s.otp ∧ (State.parkInput s n).pending = s.pending := by simp [State.parkInput]
@[simp] theorem State.pollInput_kept (s : State) (n v : Nat) :
    (s.pollInput n v).2.otp = s.otp ∧ (s.pollInput n v).2.pending = s.pending := by simp [State.pollInput]
@[simp] theorem State.setSup_kept (s : State) (d : Die) (x : Supply) :
    (State.setSup s d x).otp = s.otp ∧ (State.setSup s d x).pending = s.pending := by simp [State.setSup]
@[simp] theorem State.supEnter_kept (s : State) (d : Die) (st : SupSt) (t : Nat) :
    (State.supEnter s d st t).otp = s.otp ∧ (State.supEnter s d st t).pending = s.pending := by simp [State.supEnter, apply_ite State.otp, apply_ite State.pending]
@[simp] theorem State.supWindow_kept (s : State) (d : Die) (w : Nat) :
    (State.supWindow s d w).otp = s.otp ∧ (State.supWindow s d w).pending = s.pending := by simp [State.supWindow, apply_ite State.otp, apply_ite State.pending]
@[simp] theorem State.windowAt_kept (s : State) (d : Die) (w : Nat) :
    (State.windowAt s d w).otp = s.otp ∧ (State.windowAt s d w).pending = s.pending := by unfold State.windowAt; split <;> simp
@[simp] theorem State.windowEnd_kept (s : State) (d : Die) :
    (State.windowEnd s d).otp = s.otp ∧ (State.windowEnd s d).pending = s.pending := by simp [State.windowEnd, apply_ite State.otp, apply_ite State.pending]
@[simp] theorem State.bundleEarly_kept (s : State) (d : Die) :
    (State.bundleEarly s d).otp = s.otp ∧ (State.bundleEarly s d).pending = s.pending := by
  unfold State.bundleEarly; (try dsimp only); repeat' split
  all_goals simp [apply_ite State.otp, apply_ite State.pending]
@[simp] theorem State.wickStepAt_kept (s : State) (d : Die) (t : Nat) :
    (State.wickStepAt s d t).otp = s.otp ∧ (State.wickStepAt s d t).pending = s.pending := by simp [State.wickStepAt, apply_ite State.otp, apply_ite State.pending]
@[simp] theorem State.wickStep_kept (s : State) (d : Die) :
    (State.wickStep s d).otp = s.otp ∧ (State.wickStep s d).pending = s.pending := by simp [State.wickStep, apply_ite State.otp, apply_ite State.pending]
@[simp] theorem State.vbatSample_kept (s : State) (d : Die) (t : Nat) (x : Samples) :
    (State.vbatSample s d t x).otp = s.otp ∧ (State.vbatSample s d t x).pending = s.pending := by simp [State.vbatSample, apply_ite State.otp, apply_ite State.pending]
@[simp] theorem State.senseSample_kept (s : State) (d : Die) (x : Samples) :
    (State.senseSample s d x).otp = s.otp ∧ (State.senseSample s d x).pending = s.pending := by simp [State.senseSample, apply_ite State.otp, apply_ite State.pending]
@[simp] theorem State.feedback_kept (s : State) (u : FbUnit) (x : Int) :
    (State.feedback s u x).otp = s.otp ∧ (State.feedback s u x).pending = s.pending := by unfold State.feedback; split <;> simp [apply_ite State.otp, apply_ite State.pending]
@[simp] theorem State.resend_kept (s : State) (i : Nat) :
    (State.resend s i).otp = s.otp ∧ (State.resend s i).pending = s.pending := by
  unfold State.resend; dsimp only; repeat' split
  all_goals simp

end Sys2Proof.Machine
end

