-- ==== Sys2Proof/Laws/KeptBuses.lean ====
section
/-! SUPPORT. What the operations of the bus controllers leave alone: the one-time-programmable counts and the queue of commands. -/

namespace Sys2Proof.Machine

@[simp] theorem State.decodeErr_kept (s : State) :
    (State.decodeErr s).otp = s.otp ∧ (State.decodeErr s).pending = s.pending := by simp [State.decodeErr]
@[simp] theorem State.feedL_kept (s : State) (u : Upd) :
    (State.feedL s u).otp = s.otp ∧ (State.feedL s u).pending = s.pending := by simp [State.feedL]
@[simp] theorem State.decodePay_kept (s : State) (r : DecRec) (p : List Byte) (rx : Nat) (src : Nat) :
    (State.decodePay s r p rx src).otp = s.otp ∧ (State.decodePay s r p rx src).pending = s.pending := by simp [State.decodePay, apply_ite State.otp, apply_ite State.pending]
@[simp] theorem State.secFail_kept (s : State) :
    (State.secFail s).otp = s.otp ∧ (State.secFail s).pending = s.pending := by simp [State.secFail]
@[simp] theorem State.receiveRec_kept (s : State) (k : Nat) (p : List Byte) (rx : Nat) (src : Nat) :
    (State.receiveRec s k p rx src).otp = s.otp ∧ (State.receiveRec s k p rx src).pending = s.pending := by
  unfold State.receiveRec; dsimp only; repeat' split
  all_goals simp
@[simp] theorem State.receivePdu_kept (s : State) (bus : Nat) (ch : Nat) (key : Nat) (vid : Nat) (port : Nat) (p : List Byte) (rx : Nat) (src : Nat) :
    (State.receivePdu s bus ch key vid port p rx src).otp = s.otp ∧ (State.receivePdu s bus ch key vid port p rx src).pending = s.pending := by unfold State.receivePdu; split <;> simp
@[simp] theorem State.verifyPdu_kept (s : State) (k : Nat) (p : List Byte) (rx : Nat) (src : Nat) :
    (State.verifyPdu s k p rx src).otp = s.otp ∧ (State.verifyPdu s k p rx src).pending = s.pending := by
  unfold State.verifyPdu; dsimp only; repeat' split
  all_goals simp
theorem State.drawFv_kept (s : State) (k : Nat) (n : Nat) (t : State) (h : s.drawFv k = some (n, t)) : t.otp = s.otp ∧ t.pending = s.pending := by
  unfold State.drawFv at h; dsimp only at h; split at h
  · cases h
  · cases h; simp [apply_ite State.otp, apply_ite State.pending]
@[simp] theorem State.buildRec_kept (s : State) (k : Nat) (r : EncRec) : (s.buildRec k r).2.otp = s.otp ∧ (s.buildRec k r).2.pending = s.pending := by
  unfold State.buildRec; dsimp only; split
  · simp
  · split
    · simp
    · split
      · simp
      · split
        · simp
        · rename_i h; exact State.drawFv_kept _ _ _ _ h
@[simp] theorem State.setCanC_kept (s : State) (c : Nat) (x : CanCtl) :
    (State.setCanC s c x).otp = s.otp ∧ (State.setCanC s c x).pending = s.pending := by simp [State.setCanC]
@[simp] theorem State.canReport_kept (s : State) (c : Nat) :
    (State.canReport s c).otp = s.otp ∧ (State.canReport s c).pending = s.pending := by simp [State.canReport]
@[simp] theorem State.canGo_kept (s : State) (c : Nat) (st : Nat) :
    (State.canGo s c st).otp = s.otp ∧ (State.canGo s c st).pending = s.pending := by simp [State.canGo, apply_ite State.otp, apply_ite State.pending]
@[simp] theorem State.canFault_kept (s : State) (c : Nat) (kind : Nat) :
    (State.canFault s c kind).otp = s.otp ∧ (State.canFault s c kind).pending = s.pending := by simp [State.canFault]
@[simp] theorem State.canPassive_kept (s : State) (c : Nat) :
    (State.canPassive s c).otp = s.otp ∧ (State.canPassive s c).pending = s.pending := by simp [State.canPassive]
@[simp] theorem State.canEnd_kept (s : State) (c : Nat) (i : Nat) (reason : Nat) (stamp : Nat) :
    (State.canEnd s c i reason stamp).otp = s.otp ∧ (State.canEnd s c i reason stamp).pending = s.pending := by unfold State.canEnd; split <;> simp [apply_ite State.otp, apply_ite State.pending]
@[simp] theorem State.canEndFw_kept (s : State) (c : Nat) (reason : Nat) :
    (State.canEndFw s c reason).otp = s.otp ∧ (State.canEndFw s c reason).pending = s.pending := by simp [State.canEndFw]
@[simp] theorem State.canEndAll_kept (s : State) (l : List (Nat × Nat × Nat)) :
    (State.canEndAll s l).otp = s.otp ∧ (State.canEndAll s l).pending = s.pending := by simp [State.canEndAll]
@[simp] theorem State.canEmpty_kept (s : State) (c : Nat) :
    (State.canEmpty s c).otp = s.otp ∧ (State.canEmpty s c).pending = s.pending := by simp [State.canEmpty]
@[simp] theorem State.canRestrict_kept (s : State) (c : Nat) :
    (State.canRestrict s c).otp = s.otp ∧ (State.canRestrict s c).pending = s.pending := by simp [State.canRestrict]
@[simp] theorem State.canJoin_kept (s : State) (c : Nat) :
    (State.canJoin s c).otp = s.otp ∧ (State.canJoin s c).pending = s.pending := by simp [State.canJoin, apply_ite State.otp, apply_ite State.pending]
@[simp] theorem State.canSource_kept (s : State) (c : Nat) (k : Nat) (b : Bool) :
    (State.canSource s c k b).otp = s.otp ∧ (State.canSource s c k b).pending = s.pending := by simp [State.canSource, apply_ite State.otp, apply_ite State.pending]
@[simp] theorem State.canMode_kept (s : State) (t : Nat) :
    (State.canMode s t).otp = s.otp ∧ (State.canMode s t).pending = s.pending := by unfold State.canMode; split <;> simp [apply_ite State.otp, apply_ite State.pending]
@[simp] theorem State.canEnable_kept (s : State) (c : Nat) :
    (State.canEnable s c).otp = s.otp ∧ (State.canEnable s c).pending = s.pending := by simp [State.canEnable]
@[simp] theorem State.returnPosts_kept (s : State) (ps : List RxPost) :
    (State.returnPosts s ps).otp = s.otp ∧ (State.returnPosts s ps).pending = s.pending := by simp [State.returnPosts]
@[simp] theorem State.canOff_kept (s : State) (c : Nat) :
    (State.canOff s c).otp = s.otp ∧ (State.canOff s c).pending = s.pending := by unfold State.canOff; dsimp only; split <;> simp
@[simp] theorem State.canStopNow_kept (s : State) (c : Nat) :
    (State.canStopNow s c).otp = s.otp ∧ (State.canStopNow s c).pending = s.pending := by simp [State.canStopNow]
@[simp] theorem State.canDisable_kept (s : State) (c : Nat) (tag : Option Nat) :
    (State.canDisable s c tag).otp = s.otp ∧ (State.canDisable s c tag).pending = s.pending := by
  unfold State.canDisable; dsimp only; repeat' split
  all_goals simp
@[simp] theorem State.canDisableAll_kept (s : State) (cs : List Nat) :
    (State.canDisableAll s cs).otp = s.otp ∧ (State.canDisableAll s cs).pending = s.pending := by simp [State.canDisableAll]
@[simp] theorem State.canResync_kept (s : State) (c : Nat) :
    (State.canResync s c).otp = s.otp ∧ (State.canResync s c).pending = s.pending := by simp [State.canResync]
@[simp] theorem State.canRetime_kept (s : State) (c : Nat) :
    (State.canRetime s c).otp = s.otp ∧ (State.canRetime s c).pending = s.pending := by simp [State.canRetime, apply_ite State.otp, apply_ite State.pending]
@[simp] theorem State.canAfterFrame_kept (s : State) (c : Nat) :
    (State.canAfterFrame s c).otp = s.otp ∧ (State.canAfterFrame s c).pending = s.pending := by unfold State.canAfterFrame; split <;> simp
@[simp] theorem State.canRecoverStart_kept (s : State) (c : Nat) :
    (State.canRecoverStart s c).otp = s.otp ∧ (State.canRecoverStart s c).pending = s.pending := by simp [State.canRecoverStart]
@[simp] theorem State.canBusoff_kept (s : State) (c : Nat) (i : Option Nat) :
    (State.canBusoff s c i).otp = s.otp ∧ (State.canBusoff s c i).pending = s.pending := by
  simp [State.canBusoff, apply_ite State.otp, apply_ite State.pending]; repeat' split
  all_goals simp_all [apply_ite State.otp, apply_ite State.pending]
@[simp] theorem State.canLevel_kept (s : State) (c : Nat) :
    (State.canLevel s c).otp = s.otp ∧ (State.canLevel s c).pending = s.pending := by simp [State.canLevel, apply_ite State.otp, apply_ite State.pending]
@[simp] theorem State.canFailed_kept (s : State) (c : Nat) (i : Nat) (reason : Nat) :
    (State.canFailed s c i reason).otp = s.otp ∧ (State.canFailed s c i reason).pending = s.pending := by unfold State.canFailed; dsimp only; split <;> simp [apply_ite State.otp, apply_ite State.pending]
@[simp] theorem State.canErrBits_kept (s : State) (c : Nat) (kinds : Nat) :
    (State.canErrBits s c kinds).otp = s.otp ∧ (State.canErrBits s c kinds).pending = s.pending := by simp [State.canErrBits, apply_ite State.otp, apply_ite State.pending]
@[simp] theorem State.canCounters_kept (s : State) (c : Nat) (tec : Nat) (rec : Nat) :
    (State.canCounters s c tec rec).otp = s.otp ∧ (State.canCounters s c tec rec).pending = s.pending := by simp [State.canCounters, apply_ite State.otp, apply_ite State.pending]
@[simp] theorem State.canMeasured_kept (s : State) (c : Nat) (v : Option Nat) :
    (State.canMeasured s c v).otp = s.otp ∧ (State.canMeasured s c v).pending = s.pending := by unfold State.canMeasured; split <;> simp [apply_ite State.otp, apply_ite State.pending]
@[simp] theorem State.canSay_kept (s : State) (c : Nat) (o : Output) :
    (State.canSay s c o).otp = s.otp ∧ (State.canSay s c o).pending = s.pending := by simp [State.canSay, apply_ite State.otp, apply_ite State.pending]
@[simp] theorem State.canFlag_kept (s : State) (c : Nat) :
    (State.canFlag s c).otp = s.otp ∧ (State.canFlag s c).pending = s.pending := by simp [State.canFlag, apply_ite State.otp, apply_ite State.pending]
@[simp] theorem State.canError_kept (s : State) (c : Nat) (kinds : Nat) (tec : Nat) (rec : Nat) (tdcv : Option Nat) :
    (State.canError s c kinds tec rec tdcv).otp = s.otp ∧ (State.canError s c kinds tec rec tdcv).pending = s.pending := by
  unfold State.canError; dsimp only; repeat' split
  all_goals simp
@[simp] theorem State.busoffHoldEnd_kept (s : State) (c : Nat) :
    (State.busoffHoldEnd s c).otp = s.otp ∧ (State.busoffHoldEnd s c).pending = s.pending := by simp [State.busoffHoldEnd, apply_ite State.otp, apply_ite State.pending]
@[simp] theorem State.busoffRecoveryDone_kept (s : State) (c : Nat) :
    (State.busoffRecoveryDone s c).otp = s.otp ∧ (State.busoffRecoveryDone s c).pending = s.pending := by simp [State.busoffRecoveryDone, apply_ite State.otp, apply_ite State.pending]
@[simp] theorem State.canRecoverReq_kept (s : State) (c : Nat) :
    (s.canRecoverReq c).2.otp = s.otp ∧ (s.canRecoverReq c).2.pending = s.pending := by unfold State.canRecoverReq; split <;> simp
@[simp] theorem State.canRecover_kept (s : State) (t : Nat) :
    (State.canRecover s t).otp = s.otp ∧ (State.canRecover s t).pending = s.pending := by unfold State.canRecover; split <;> simp [apply_ite State.otp, apply_ite State.pending]
@[simp] theorem State.fillPost_kept (s : State) (kind unit : Nat) (bytes result : List Byte) (stamp : Nat) (drop : State) (hd : drop.otp = s.otp ∧ drop.pending = s.pending) :
    (s.fillPost kind unit bytes result stamp drop).otp = s.otp ∧ (s.fillPost kind unit bytes result stamp drop).pending = s.pending := by unfold State.fillPost; split <;> simp [hd]
@[simp] theorem State.canDrop_kept (s : State) (c : Nat) :
    (State.canDrop s c).otp = s.otp ∧ (State.canDrop s c).pending = s.pending := by simp [State.canDrop, apply_ite State.otp, apply_ite State.pending]
@[simp] theorem State.canRxCount_kept (s : State) (c : Nat) :
    (State.canRxCount s c).otp = s.otp ∧ (State.canRxCount s c).pending = s.pending := by simp [State.canRxCount, apply_ite State.otp, apply_ite State.pending]
@[simp] theorem State.canFrameReceived_kept (s : State) (c : Nat) (f : CanFrame) :
    (State.canFrameReceived s c f).otp = s.otp ∧ (State.canFrameReceived s c f).pending = s.pending := by
  unfold State.canFrameReceived; dsimp only; repeat' split
  all_goals first
    | simp_all; done
    | (refine (foldl_kept _ (fun s x => ?_) _ _).imp (fun h => h.trans ?_) (fun h => h.trans ?_) <;> (try dsimp only) <;> (repeat' split) <;> simp_all [apply_ite State.otp, apply_ite State.pending])
@[simp] theorem State.canTxStart_kept (s : State) (c : Nat) :
    (State.canTxStart s c).otp = s.otp ∧ (State.canTxStart s c).pending = s.pending := by unfold State.canTxStart; split <;> simp [apply_ite State.otp, apply_ite State.pending]
@[simp] theorem State.canFrameSent_kept (s : State) (c : Nat) (tdcv : Nat) :
    (State.canFrameSent s c tdcv).otp = s.otp ∧ (State.canFrameSent s c tdcv).pending = s.pending := by
  unfold State.canFrameSent; dsimp only; repeat' split
  all_goals simp
@[simp] theorem State.canArbitrationLost_kept (s : State) (c : Nat) :
    (State.canArbitrationLost s c).otp = s.otp ∧ (State.canArbitrationLost s c).pending = s.pending := by
  simp [State.canArbitrationLost]; repeat' split
  all_goals simp_all
@[simp] theorem State.canQueue_kept (s : State) (c : Nat) (i : Nat) (f : CanTx) :
    (State.canQueue s c i f).otp = s.otp ∧ (State.canQueue s c i f).pending = s.pending := by simp [State.canQueue, apply_ite State.otp, apply_ite State.pending]
@[simp] theorem State.canBuild_kept (s : State) (k : Nat) (r : EncRec) (p : TxPdu) :
    (State.canBuild s k r p).otp = s.otp ∧ (State.canBuild s k r p).pending = s.pending := by simp [State.canBuild, apply_ite State.otp, apply_ite State.pending]
@[simp] theorem State.canTx_kept (s : State) (t : Nat) (x : ReadResult) :
    (State.canTx s t x).otp = s.otp ∧ (State.canTx s t x).pending = s.pending := by
  unfold State.canTx; dsimp only; repeat' split
  all_goals simp
@[simp] theorem State.canCancelTag_kept (s : State) (c t : Nat) :
    (s.canCancelTag c t).2.otp = s.otp ∧ (s.canCancelTag c t).2.pending = s.pending := by unfold State.canCancelTag; split; simp; split <;> simp
@[simp] theorem State.canCancel_kept (s : State) (t : Nat) :
    (State.canCancel s t).otp = s.otp ∧ (State.canCancel s t).pending = s.pending := by unfold State.canCancel; split <;> simp [apply_ite State.otp, apply_ite State.pending]
@[simp] theorem State.canDegradedOne_kept (s : State) (c : Nat) :
    (State.canDegradedOne s c).otp = s.otp ∧ (State.canDegradedOne s c).pending = s.pending := by simp [State.canDegradedOne, apply_ite State.otp, apply_ite State.pending]
@[simp] theorem State.canFollow_kept (s : State) (degraded : Bool) :
    (State.canFollow s degraded).otp = s.otp ∧ (State.canFollow s degraded).pending = s.pending := by
  simp [State.canFollow, apply_ite State.otp, apply_ite State.pending]; repeat' split
  all_goals simp_all [apply_ite State.otp, apply_ite State.pending]
@[simp] theorem State.canReset_kept (fresh : Bool) (s : State) (c : Nat) :
    (State.canReset fresh s c).otp = s.otp ∧ (State.canReset fresh s c).pending = s.pending := by simp [State.canReset, apply_ite State.otp, apply_ite State.pending]
@[simp] theorem State.canHostStop_kept (s : State) (c : Nat) :
    (State.canHostStop s c).otp = s.otp ∧ (State.canHostStop s c).pending = s.pending := by simp [State.canHostStop]
@[simp] theorem State.setLinC_kept (s : State) (n : Nat) (x : LinCh) :
    (State.setLinC s n x).otp = s.otp ∧ (State.setLinC s n x).pending = s.pending := by simp [State.setLinC]
@[simp] theorem State.linReport_kept (s : State) (n : Nat) (t : Nat) :
    (State.linReport s n t).otp = s.otp ∧ (State.linReport s n t).pending = s.pending := by simp [State.linReport, apply_ite State.otp, apply_ite State.pending]
@[simp] theorem State.linGo_kept (s : State) (n : Nat) (st : Nat) (t : Nat) :
    (State.linGo s n st t).otp = s.otp ∧ (State.linGo s n st t).pending = s.pending := by simp [State.linGo]
@[simp] theorem State.linErrs_kept (s : State) (n : Nat) (kinds : Nat) (addressed : Bool) :
    (State.linErrs s n kinds addressed).otp = s.otp ∧ (State.linErrs s n kinds addressed).pending = s.pending := by simp [State.linErrs, apply_ite State.otp, apply_ite State.pending]
@[simp] theorem State.linShowDegr_kept (s : State) (n : Nat) :
    (State.linShowDegr s n).otp = s.otp ∧ (State.linShowDegr s n).pending = s.pending := by simp [State.linShowDegr]
@[simp] theorem State.linEnable_kept (s : State) (n : Nat) :
    (State.linEnable s n).otp = s.otp ∧ (State.linEnable s n).pending = s.pending := by simp [State.linEnable]
@[simp] theorem State.linOff_kept (s : State) (n : Nat) :
    (State.linOff s n).otp = s.otp ∧ (State.linOff s n).pending = s.pending := by
  unfold State.linOff; dsimp only; repeat' split
  all_goals simp
@[simp] theorem State.linDisable_kept (s : State) (n : Nat) (tag : Option Nat) :
    (State.linDisable s n tag).otp = s.otp ∧ (State.linDisable s n tag).pending = s.pending := by
  unfold State.linDisable; dsimp only; repeat' split
  all_goals simp
@[simp] theorem State.linFrameOver_kept (s : State) (n : Nat) :
    (State.linFrameOver s n).otp = s.otp ∧ (State.linFrameOver s n).pending = s.pending := by simp [State.linFrameOver, apply_ite State.otp, apply_ite State.pending]
@[simp] theorem State.linReset_kept (s : State) (n : Nat) :
    (State.linReset s n).otp = s.otp ∧ (State.linReset s n).pending = s.pending := by simp [State.linReset, apply_ite State.otp, apply_ite State.pending]
@[simp] theorem State.linFollow_kept (s : State) :
    (State.linFollow s).otp = s.otp ∧ (State.linFollow s).pending = s.pending := by simp [State.linFollow]
@[simp] theorem State.linSay_kept (s : State) (o : Output) :
    (State.linSay s o).otp = s.otp ∧ (State.linSay s o).pending = s.pending := by simp [State.linSay, apply_ite State.otp, apply_ite State.pending]
@[simp] theorem State.linHeader_kept (s : State) (n : Nat) (id : Nat) (t : Nat) :
    (State.linHeader s n id t).otp = s.otp ∧ (State.linHeader s n id t).pending = s.pending := by simp [State.linHeader]
@[simp] theorem State.linRespond_kept (s : State) (n : Nat) (id : Nat) (enhanced : Bool) (data : List Byte) :
    (State.linRespond s n id enhanced data).otp = s.otp ∧ (State.linRespond s n id enhanced data).pending = s.pending := by simp [State.linRespond]
@[simp] theorem State.linPublish_kept (s : State) (n : Nat) (f : LinSlot) (t : Nat) :
    (State.linPublish s n f t).otp = s.otp ∧ (State.linPublish s n f t).pending = s.pending := by unfold State.linPublish; split <;> simp
@[simp] theorem State.linDiagSlot_kept (s : State) (n : Nat) (t : Nat) :
    (State.linDiagSlot s n t).otp = s.otp ∧ (State.linDiagSlot s n t).pending = s.pending := by
  unfold State.linDiagSlot; dsimp only; repeat' split
  all_goals simp
@[simp] theorem State.linPublishEvent_kept (s : State) (n : Nat) (f : LinSlot) (t : Nat) :
    (State.linPublishEvent s n f t).otp = s.otp ∧ (State.linPublishEvent s n f t).pending = s.pending := by
  unfold State.linPublishEvent; (try dsimp only); repeat' split
  all_goals simp [apply_ite State.otp, apply_ite State.pending]
@[simp] theorem State.linRun_kept (s : State) (n : Nat) (f : LinSlot) (t : Nat) :
    (State.linRun s n f t).otp = s.otp ∧ (State.linRun s n f t).pending = s.pending := by
  unfold State.linRun; dsimp only; repeat' split
  all_goals simp
@[simp] theorem State.linRequest_kept (s : State) (n : Nat) (tb : Nat) (tag : Option Nat) :
    (State.linRequest s n tb tag).otp = s.otp ∧ (State.linRequest s n tb tag).pending = s.pending := by unfold State.linRequest; split <;> simp
@[simp] theorem State.linSched_kept (s : State) (t : Nat) :
    (State.linSched s t).otp = s.otp ∧ (State.linSched s t).pending = s.pending := by unfold State.linSched; split <;> simp [apply_ite State.otp, apply_ite State.pending]
@[simp] theorem State.linDiag_kept (s : State) (t : Nat) :
    (State.linDiag s t).otp = s.otp ∧ (State.linDiag s t).pending = s.pending := by unfold State.linDiag; split <;> simp [apply_ite State.otp, apply_ite State.pending]
@[simp] theorem State.linHeaderReceived_kept (s : State) (n : Nat) (pid : Nat) (parityOk : Bool) (ago : Nat) :
    (State.linHeaderReceived s n pid parityOk ago).otp = s.otp ∧ (State.linHeaderReceived s n pid parityOk ago).pending = s.pending := by
  unfold State.linHeaderReceived; dsimp only; repeat' split
  all_goals simp
@[simp] theorem State.linSent_kept (s : State) (n : Nat) (f : LinSlot) :
    (State.linSent s n f).otp = s.otp ∧ (State.linSent s n f).pending = s.pending := by
  unfold State.linSent; dsimp only; repeat' split
  all_goals simp
@[simp] theorem State.linGot_kept (s : State) (n : Nat) (id : Nat) (f : LinSlot) (data : List Byte) :
    (State.linGot s n id f data).otp = s.otp ∧ (State.linGot s n id f data).pending = s.pending := by simp [State.linGot, apply_ite State.otp, apply_ite State.pending]
@[simp] theorem State.linCollision_kept (s : State) (n : Nat) (f : LinSlot) :
    (State.linCollision s n f).otp = s.otp ∧ (State.linCollision s n f).pending = s.pending := by
  unfold State.linCollision; (try dsimp only); repeat' split
  all_goals simp [apply_ite State.otp, apply_ite State.pending]
@[simp] theorem State.linFrameReceived_kept (s : State) (n : Nat) (r : LinFrame) :
    (State.linFrameReceived s n r).otp = s.otp ∧ (State.linFrameReceived s n r).pending = s.pending := by
  unfold State.linFrameReceived; dsimp only; repeat' split
  all_goals simp
@[simp] theorem State.linResponseTimeout_kept (s : State) (n : Nat) :
    (State.linResponseTimeout s n).otp = s.otp ∧ (State.linResponseTimeout s n).pending = s.pending := by
  simp [State.linResponseTimeout]; repeat' split
  all_goals simp_all
@[simp] theorem State.linSlotNext_kept (s : State) (n : Nat) :
    (State.linSlotNext s n).otp = s.otp ∧ (State.linSlotNext s n).pending = s.pending := by
  unfold State.linSlotNext; dsimp only; repeat' split
  all_goals simp
@[simp] theorem State.linSlotStart_kept (s : State) (n : Nat) :
    (State.linSlotStart s n).otp = s.otp ∧ (State.linSlotStart s n).pending = s.pending := by simp [State.linSlotStart, apply_ite State.otp, apply_ite State.pending]
@[simp] theorem State.linBuild_kept (s : State) (r : EncRec) (p : TxPdu) (byChange : Bool) :
    (State.linBuild s r p byChange).otp = s.otp ∧ (State.linBuild s r p byChange).pending = s.pending := by simp [State.linBuild, apply_ite State.otp, apply_ite State.pending]
@[simp] theorem State.linWakeSignal_kept (s : State) (n : Nat) (t : Nat) (tries : Nat) :
    (State.linWakeSignal s n t tries).otp = s.otp ∧ (State.linWakeSignal s n t tries).pending = s.pending := by simp [State.linWakeSignal]
@[simp] theorem State.linWakeRetry_kept (s : State) (n : Nat) :
    (State.linWakeRetry s n).otp = s.otp ∧ (State.linWakeRetry s n).pending = s.pending := by unfold State.linWakeRetry; dsimp only; split <;> simp [apply_ite State.otp, apply_ite State.pending]
@[simp] theorem State.linRemoteWake_kept (s : State) (n : Nat) (ticks : Nat) :
    (State.linRemoteWake s n ticks).otp = s.otp ∧ (State.linRemoteWake s n ticks).pending = s.pending := by simp [State.linRemoteWake, apply_ite State.otp, apply_ite State.pending]
@[simp] theorem State.linScheduleRestart_kept (s : State) (n : Nat) :
    (State.linScheduleRestart s n).otp = s.otp ∧ (State.linScheduleRestart s n).pending = s.pending := by unfold State.linScheduleRestart; split <;> simp [apply_ite State.otp, apply_ite State.pending]
@[simp] theorem State.linBusIdleTimeout_kept (s : State) (n : Nat) :
    (State.linBusIdleTimeout s n).otp = s.otp ∧ (State.linBusIdleTimeout s n).pending = s.pending := by simp [State.linBusIdleTimeout, apply_ite State.otp, apply_ite State.pending]
@[simp] theorem State.linHostStop_kept (s : State) (n : Nat) :
    (State.linHostStop s n).otp = s.otp ∧ (State.linHostStop s n).pending = s.pending := by simp [State.linHostStop]
@[simp] theorem State.setEthP_kept (s : State) (p : Nat) (x : EthPort) :
    (State.setEthP s p x).otp = s.otp ∧ (State.setEthP s p x).pending = s.pending := by simp [State.setEthP]
@[simp] theorem State.ethReport_kept (s : State) (p : Nat) :
    (State.ethReport s p).otp = s.otp ∧ (State.ethReport s p).pending = s.pending := by simp [State.ethReport]
@[simp] theorem State.ethLearn_kept (s : State) (mac : Nat) (vid : Nat) (p : Nat) :
    (State.ethLearn s mac vid p).otp = s.otp ∧ (State.ethLearn s mac vid p).pending = s.pending := by simp [State.ethLearn, apply_ite State.otp, apply_ite State.pending]
@[simp] theorem State.ethAgeing_kept (s : State) (mac : Nat) (vid : Nat) :
    (State.ethAgeing s mac vid).otp = s.otp ∧ (State.ethAgeing s mac vid).pending = s.pending := by simp [State.ethAgeing]
@[simp] theorem State.ethQueue_kept (s : State) (p : Nat) (t : EthTx) :
    (s.ethQueue p t).1.otp = s.otp ∧ (s.ethQueue p t).1.pending = s.pending := by unfold State.ethQueue; split <;> simp
@[simp] theorem State.ethToHost_kept (s : State) (bytes : List Byte) :
    (State.ethToHost s bytes).otp = s.otp ∧ (State.ethToHost s bytes).pending = s.pending := by simp [State.ethToHost]
@[simp] theorem State.ethSend_kept (s : State) (p : Nat) (e : EthRx) (pcp vid : Nat) :
    (s.ethSend p e pcp vid).1.otp = s.otp ∧ (s.ethSend p e pcp vid).1.pending = s.pending := by
  unfold State.ethSend; dsimp only; repeat' split
  all_goals simp
@[simp] theorem State.ethSendAll_kept (s : State) (ps : List Nat) (e : EthRx) (pcp vid : Nat) :
    (s.ethSendAll ps e pcp vid).1.otp = s.otp ∧ (s.ethSendAll ps e pcp vid).1.pending = s.pending := by
  unfold State.ethSendAll
  suffices h : ∀ r : State × Bool, (ps.foldl (fun r p => let x := r.1.ethSend p e pcp vid; (x.1, r.2 || x.2)) r).1.otp = r.1.otp
      ∧ (ps.foldl (fun r p => let x := r.1.ethSend p e pcp vid; (x.1, r.2 || x.2)) r).1.pending = r.1.pending from h (s, false)
  induction ps with
  | nil => intro r; simp
  | cons a l ih => intro r; rw [List.foldl_cons]; have := ih (let x := r.1.ethSend a e pcp vid; (x.1, r.2 || x.2)); simp_all
@[simp] theorem State.container_kept (s : State) (p vid port n : Nat) (c : List Byte) :
    (s.container p vid port n c).otp = s.otp ∧ (s.container p vid port n c).pending = s.pending := by
  induction n generalizing s c with
  | zero => simp [State.container]
  | succ n ih =>
    unfold State.container; split
    · simp
    · split
      · simp
      · simp [ih]
@[simp] theorem State.ethOwn_kept (s : State) (p : Nat) (e : EthRx) (pcp : Nat) (vid : Nat) :
    (State.ethOwn s p e pcp vid).otp = s.otp ∧ (State.ethOwn s p e pcp vid).pending = s.pending := by
  simp [State.ethOwn]; repeat' split
  all_goals simp_all
@[simp] theorem State.ethRxDrop_kept (s : State) (p : Nat) :
    (State.ethRxDrop s p).otp = s.otp ∧ (State.ethRxDrop s p).pending = s.pending := by simp [State.ethRxDrop]
@[simp] theorem State.ethForward_kept (s : State) (p : Nat) (f : List Byte) :
    (s.ethForward p f).1.otp = s.otp ∧ (s.ethForward p f).1.pending = s.pending := by
  unfold State.ethForward; dsimp only; repeat' split
  all_goals simp
@[simp] theorem State.ethFrameReceived_kept (s : State) (p : Nat) (f : List Byte) :
    (State.ethFrameReceived s p f).otp = s.otp ∧ (State.ethFrameReceived s p f).pending = s.pending := by simp [State.ethFrameReceived, apply_ite State.otp, apply_ite State.pending]
@[simp] theorem State.ethTx_kept (s : State) (t : Nat) (x : ReadResult) :
    (State.ethTx s t x).otp = s.otp ∧ (State.ethTx s t x).pending = s.pending := by
  unfold State.ethTx; dsimp only; repeat' split
  all_goals simp
@[simp] theorem State.ethBuild_kept (s : State) (k : Nat) (r : EncRec) (p : TxPdu) :
    (State.ethBuild s k r p).otp = s.otp ∧ (State.ethBuild s k r p).pending = s.pending := by simp [State.ethBuild, apply_ite State.otp, apply_ite State.pending]
@[simp] theorem State.ethTxStart_kept (s : State) (p : Nat) :
    (State.ethTxStart s p).otp = s.otp ∧ (State.ethTxStart s p).pending = s.pending := by
  unfold State.ethTxStart; dsimp only; repeat' split
  all_goals simp
@[simp] theorem State.ethTxEnd_kept (s : State) (p : Nat) :
    (State.ethTxEnd s p).otp = s.otp ∧ (State.ethTxEnd s p).pending = s.pending := by unfold State.ethTxEnd; dsimp only; split <;> simp
@[simp] theorem State.ethStop_kept (s : State) (p : Nat) :
    (State.ethStop s p).otp = s.otp ∧ (State.ethStop s p).pending = s.pending := by simp [State.ethStop]
@[simp] theorem State.ethLink_kept (s : State) (p : Nat) (link : Bool) (speed : Nat) (plca : Bool) :
    (State.ethLink s p link speed plca).otp = s.otp ∧ (State.ethLink s p link speed plca).pending = s.pending := by simp [State.ethLink, apply_ite State.otp, apply_ite State.pending]
@[simp] theorem State.ethShow_kept (s : State) (p : Nat) :
    (State.ethShow s p).otp = s.otp ∧ (State.ethShow s p).pending = s.pending := by simp [State.ethShow, apply_ite State.otp, apply_ite State.pending]
@[simp] theorem State.ethLinkChange_kept (s : State) (p : Nat) (link : Bool) (speed : Nat) (plca : Bool) :
    (State.ethLinkChange s p link speed plca).otp = s.otp ∧ (State.ethLinkChange s p link speed plca).pending = s.pending := by
  unfold State.ethLinkChange; (try dsimp only); repeat' split
  all_goals simp [apply_ite State.otp, apply_ite State.pending]
@[simp] theorem State.ethFollow_kept (s : State) :
    (State.ethFollow s).otp = s.otp ∧ (State.ethFollow s).pending = s.pending := by simp [State.ethFollow, apply_ite State.otp, apply_ite State.pending]
@[simp] theorem State.pdelayReq_kept (s : State) (p : Nat) (seq : Nat) :
    (State.pdelayReq s p seq).otp = s.otp ∧ (State.pdelayReq s p seq).pending = s.pending := by simp [State.pdelayReq, apply_ite State.otp, apply_ite State.pending]
@[simp] theorem State.ethPortReset_kept (s : State) (p : Nat) :
    (State.ethPortReset s p).otp = s.otp ∧ (State.ethPortReset s p).pending = s.pending := by simp [State.ethPortReset]
@[simp] theorem State.ethOpen_kept (s : State) (p : Nat) :
    (State.ethOpen s p).otp = s.otp ∧ (State.ethOpen s p).pending = s.pending := by simp [State.ethOpen]
@[simp] theorem State.ethReset_kept (s : State) :
    (State.ethReset s).otp = s.otp ∧ (State.ethReset s).pending = s.pending := by simp [State.ethReset]
@[simp] theorem State.busesFollow_kept (s : State) (was : TbSt) :
    (State.busesFollow s was).otp = s.otp ∧ (State.busesFollow s was).pending = s.pending := by simp [State.busesFollow, apply_ite State.otp, apply_ite State.pending]

end Sys2Proof.Machine
end

