-- ==== Sys2Proof/Laws/KeptCore.lean ====
section
/-! SUPPORT. What the operations of the cipher engine, the reflex cores, the access engine and the supply leave alone: the one-time-programmable counts and the queue of commands. -/

namespace Sys2Proof.Machine

@[simp] theorem State.setKennel_kept (s : State) (i : Nat) (k : Kennel) :
    (State.setKennel s i k).otp = s.otp ∧ (State.setKennel s i k).pending = s.pending := by simp [State.setKennel]
@[simp] theorem State.setCryU_kept (s : State) (i : Nat) (u : CryUnit) :
    (State.setCryU s i u).otp = s.otp ∧ (State.setCryU s i u).pending = s.pending := by simp [State.setCryU]
@[simp] theorem State.cryRefuse_kept (s : State) (t : Option Nat) (status : Nat) (reason : Nat) (writes : List (Nat × List Byte)) :
    (State.cryRefuse s t status reason writes).otp = s.otp ∧ (State.cryRefuse s t status reason writes).pending = s.pending := by unfold State.cryRefuse; dsimp only; split <;> simp [apply_ite State.otp, apply_ite State.pending]
@[simp] theorem State.cryAccept_kept (s : State) (t : Nat) (o : HostOp) (good : Bool) (input : List Byte) (aux : List Byte) :
    (State.cryAccept s t o good input aux).otp = s.otp ∧ (State.cryAccept s t o good input aux).pending = s.pending := by simp [State.cryAccept, apply_ite State.otp, apply_ite State.pending]
@[simp] theorem State.cryReadFault_kept (s : State) (n : Nat) (x : ReadResult) :
    (s.cryReadFault n x).2.otp = s.otp ∧ (s.cryReadFault n x).2.pending = s.pending := by unfold State.cryReadFault; split <;> simp
@[simp] theorem State.cipherOp_kept (s : State) (t : Nat) (x : ReadResult) (aux : ReadResult) :
    (State.cipherOp s t x aux).otp = s.otp ∧ (State.cipherOp s t x aux).pending = s.pending := by unfold State.cipherOp; split <;> simp [apply_ite State.otp, apply_ite State.pending]
@[simp] theorem State.hashOp_kept (s : State) (t : Nat) (x : ReadResult) :
    (State.hashOp s t x).otp = s.otp ∧ (State.hashOp s t x).pending = s.pending := by unfold State.hashOp; split <;> simp [apply_ite State.otp, apply_ite State.pending]
@[simp] theorem State.deriveOp_kept (s : State) (t : Nat) :
    (State.deriveOp s t).otp = s.otp ∧ (State.deriveOp s t).pending = s.pending := by unfold State.deriveOp; split <;> simp
@[simp] theorem State.slotRetireOp_kept (s : State) (t : Nat) :
    (State.slotRetireOp s t).otp = s.otp ∧ (State.slotRetireOp s t).pending = s.pending := by unfold State.slotRetireOp; split <;> simp
@[simp] theorem State.slotClearOp_kept (s : State) (t : Nat) :
    (State.slotClearOp s t).otp = s.otp ∧ (State.slotClearOp s t).pending = s.pending := by unfold State.slotClearOp; split <;> simp
@[simp] theorem State.cryDone_kept (s : State) (r : CryReq) (status : Nat) (reason : Nat) (result : List Byte) (writes : List (Nat × List Byte)) :
    (State.cryDone s r status reason result writes).otp = s.otp ∧ (State.cryDone s r status reason result writes).pending = s.pending := by unfold State.cryDone; dsimp only; split <;> simp [apply_ite State.otp, apply_ite State.pending]
@[simp] theorem State.emptySlot_kept (s : State) (i : Nat) :
    (State.emptySlot s i).otp = s.otp ∧ (State.emptySlot s i).pending = s.pending := by simp [State.emptySlot]
@[simp] theorem State.slotEvent_kept (s : State) (i : Nat) (opcode : Nat) :
    (State.slotEvent s i opcode).otp = s.otp ∧ (State.slotEvent s i opcode).pending = s.pending := by simp [State.slotEvent]
@[simp] theorem State.deriveStart_kept (s : State) (u : Nat) (r : CryReq) :
    (State.deriveStart s u r).otp = s.otp ∧ (State.deriveStart s u r).pending = s.pending := by simp [State.deriveStart, apply_ite State.otp, apply_ite State.pending]
@[simp] theorem State.slotOp_kept (s : State) (r : CryReq) :
    (State.slotOp s r).otp = s.otp ∧ (State.slotOp s r).pending = s.pending := by simp [State.slotOp, apply_ite State.otp, apply_ite State.pending]
@[simp] theorem State.cipherBegin_kept (s : State) (u : Nat) (r : CryReq) :
    (State.cipherBegin s u r).otp = s.otp ∧ (State.cipherBegin s u r).pending = s.pending := by simp [State.cipherBegin, apply_ite State.otp, apply_ite State.pending]
@[simp] theorem State.cryStart_kept (s : State) (u : Nat) :
    (State.cryStart s u).otp = s.otp ∧ (State.cryStart s u).pending = s.pending := by unfold State.cryStart; split <;> simp [apply_ite State.otp, apply_ite State.pending]
@[simp] theorem State.ceilWritten_kept (s : State) (u : Nat) :
    (State.ceilWritten s u).otp = s.otp ∧ (State.ceilWritten s u).pending = s.pending := by unfold State.ceilWritten; split <;> simp [apply_ite State.otp, apply_ite State.pending]
@[simp] theorem State.deriveEnd_kept (s : State) (r : CryReq) :
    (State.deriveEnd s r).otp = s.otp ∧ (State.deriveEnd s r).pending = s.pending := by simp [State.deriveEnd]
@[simp] theorem State.cryFinish_kept (s : State) (r : CryReq) :
    (State.cryFinish s r).otp = s.otp ∧ (State.cryFinish s r).pending = s.pending := by unfold State.cryFinish; split <;> simp [apply_ite State.otp, apply_ite State.pending]
@[simp] theorem State.cryEnd_kept (s : State) (u : Nat) :
    (State.cryEnd s u).otp = s.otp ∧ (State.cryEnd s u).pending = s.pending := by unfold State.cryEnd; split <;> simp [apply_ite State.otp, apply_ite State.pending]
@[simp] theorem State.cryAbort_kept (s : State) (ran : Bool) (r : CryReq) :
    (State.cryAbort s ran r).otp = s.otp ∧ (State.cryAbort s ran r).pending = s.pending := by simp [State.cryAbort, apply_ite State.otp, apply_ite State.pending]
@[simp] theorem State.cryAbortAll_kept (s : State) :
    (State.cryAbortAll s).otp = s.otp ∧ (State.cryAbortAll s).pending = s.pending := by simp [State.cryAbortAll]
@[simp] theorem State.cryUp_kept (s : State) :
    (State.cryUp s).otp = s.otp ∧ (State.cryUp s).pending = s.pending := by simp [State.cryUp]
@[simp] theorem State.cryDisable_kept (s : State) :
    (State.cryDisable s).otp = s.otp ∧ (State.cryDisable s).pending = s.pending := by unfold State.cryDisable; split <;> simp
@[simp] theorem State.cryFuncReset_kept (s : State) (t : Nat) :
    (State.cryFuncReset s t).otp = s.otp ∧ (State.cryFuncReset s t).pending = s.pending := by simp [State.cryFuncReset, apply_ite State.otp, apply_ite State.pending]
@[simp] theorem State.slotKey_kept (s : State) (i : Nat) :
    (State.slotKey s i).otp = s.otp ∧ (State.slotKey s i).pending = s.pending := by simp [State.slotKey, apply_ite State.otp, apply_ite State.pending]
@[simp] theorem State.cryStartDone_kept (s : State) :
    (State.cryStartDone s).otp = s.otp ∧ (State.cryStartDone s).pending = s.pending := by simp [State.cryStartDone, apply_ite State.otp, apply_ite State.pending]
@[simp] theorem State.alarm_kept (s : State) (level : Nat) (bit : Nat) :
    (State.alarm s level bit).otp = s.otp ∧ (State.alarm s level bit).pending = s.pending := by simp [State.alarm]
@[simp] theorem State.alarmOp_kept (s : State) (t : Nat) :
    (State.alarmOp s t).otp = s.otp ∧ (State.alarmOp s t).pending = s.pending := by unfold State.alarmOp; split <;> simp [apply_ite State.otp, apply_ite State.pending]
@[simp] theorem State.eraseRoot_kept (s : State) (r : Nat) :
    (State.eraseRoot s r).otp = s.otp ∧ (State.eraseRoot s r).pending = s.pending := by simp [State.eraseRoot]
@[simp] theorem State.eraseAll_kept (s : State) :
    (State.eraseAll s).otp = s.otp ∧ (State.eraseAll s).pending = s.pending := by simp [State.eraseAll, apply_ite State.otp, apply_ite State.pending]
@[simp] theorem State.cryBoot_kept (s : State) :
    (State.cryBoot s).otp = s.otp ∧ (State.cryBoot s).pending = s.pending := by simp [State.cryBoot, apply_ite State.otp, apply_ite State.pending]
@[simp] theorem State.cryDropTag_kept (s : State) (t : Nat) :
    (s.cryDropTag t).2.otp = s.otp ∧ (s.cryDropTag t).2.pending = s.pending := by simp [State.cryDropTag]
@[simp] theorem State.cryHostStop_kept (s : State) :
    (State.cryHostStop s).otp = s.otp ∧ (State.cryHostStop s).pending = s.pending := by simp [State.cryHostStop]
@[simp] theorem State.stallFrom_kept (s : State) (d : Die) :
    (State.stallFrom s d).otp = s.otp ∧ (State.stallFrom s d).pending = s.pending := by simp [State.stallFrom, apply_ite State.otp, apply_ite State.pending]
@[simp] theorem State.demandWake_kept (s : State) (d : Die) :
    (State.demandWake s d).otp = s.otp ∧ (State.demandWake s d).pending = s.pending := by simp [State.demandWake, apply_ite State.otp, apply_ite State.pending]
@[simp] theorem State.stall_kept (s : State) (d : Die) (x : Stalled) :
    (State.stall s d x).otp = s.otp ∧ (State.stall s d x).pending = s.pending := by simp [State.stall, apply_ite State.otp, apply_ite State.pending]
@[simp] theorem State.applyUnit_kept (s : State) (k : CmdUnit) (w : Nat) (t : Nat) :
    (State.applyUnit s k w t).otp = s.otp ∧ (State.applyUnit s k w t).pending = s.pending := by unfold State.applyUnit; split <;> simp
@[simp] theorem State.applyWrite_kept (s : State) (w : DieWrite) (t : Nat) :
    (State.applyWrite s w t).otp = s.otp ∧ (State.applyWrite s w t).pending = s.pending := by unfold State.applyWrite; split <;> simp
@[simp] theorem State.limpUnits_kept (s : State) (d : Die) (t : Nat) :
    (State.limpUnits s d t).otp = s.otp ∧ (State.limpUnits s d t).pending = s.pending := by unfold State.limpUnits; split <;> simp
@[simp] theorem State.unlimpUnits_kept (s : State) (d : Die) (t : Nat) :
    (State.unlimpUnits s d t).otp = s.otp ∧ (State.unlimpUnits s d t).pending = s.pending := by unfold State.unlimpUnits; split <;> simp
@[simp] theorem State.clearsDone_kept (s : State) (tags : List Nat) (t : Nat) :
    (State.clearsDone s tags t).otp = s.otp ∧ (State.clearsDone s tags t).pending = s.pending := by simp [State.clearsDone]
@[simp] theorem State.actChanClear_kept (s : State) (u : Nat) (t : Nat) :
    (State.actChanClear s u t).otp = s.otp ∧ (State.actChanClear s u t).pending = s.pending := by simp [State.actChanClear, apply_ite State.otp, apply_ite State.pending]
@[simp] theorem State.actMotorClear_kept (s : State) (m : Nat) (t : Nat) :
    (State.actMotorClear s m t).otp = s.otp ∧ (State.actMotorClear s m t).pending = s.pending := by simp [State.actMotorClear, apply_ite State.otp, apply_ite State.pending]
@[simp] theorem State.actValveClear_kept (s : State) (n : Nat) (t : Nat) :
    (State.actValveClear s n t).otp = s.otp ∧ (State.actValveClear s n t).pending = s.pending := by simp [State.actValveClear, apply_ite State.otp, apply_ite State.pending]
@[simp] theorem State.actBankClear_kept (s : State) (b : Nat) (t : Nat) :
    (State.actBankClear s b t).otp = s.otp ∧ (State.actBankClear s b t).pending = s.pending := by simp [State.actBankClear, apply_ite State.otp, apply_ite State.pending]
@[simp] theorem State.actLedClear_kept (s : State) (n : Nat) (t : Nat) :
    (State.actLedClear s n t).otp = s.otp ∧ (State.actLedClear s n t).pending = s.pending := by simp [State.actLedClear, apply_ite State.otp, apply_ite State.pending]
@[simp] theorem State.actClears_kept (s : State) (d : Die) (t : Nat) :
    (State.actClears s d t).otp = s.otp ∧ (State.actClears s d t).pending = s.pending := by unfold State.actClears; split <;> simp
theorem State.unitClearOf_kept (s : State) (src : Nat) (t : Option Nat) (d : Die) (e : Bool) (u : State) (h : s.unitClearOf src t = some (d, e, u)) : u.otp = s.otp ∧ u.pending = s.pending := by
  unfold State.unitClearOf at h; dsimp only at h
  repeat' split at h
  all_goals first
    | (cases h; simp)
    | cases h
@[simp] theorem State.clearWrite_kept (s : State) (src : Nat) :
    (State.clearWrite s src).otp = s.otp ∧ (State.clearWrite s src).pending = s.pending := by
  unfold State.clearWrite; split
  · simp
  · rename_i h; have := State.unitClearOf_kept _ _ _ _ _ _ h
    split
    · simp
    · split <;> simp [this]
@[simp] theorem State.unitClear_kept (s : State) (t : Nat) :
    (State.unitClear s t).otp = s.otp ∧ (State.unitClear s t).pending = s.pending := by
  unfold State.unitClear; split
  · simp
  · split
    · simp
    · rename_i h; have := State.unitClearOf_kept _ _ _ _ _ _ h
      split
      · simp
      · split <;> simp [this]
@[simp] theorem State.setCore_kept (s : State) (c : Nat) (st : Nat) :
    (State.setCore s c st).otp = s.otp ∧ (State.setCore s c st).pending = s.pending := by simp [State.setCore]
@[simp] theorem State.showPlacement_kept (s : State) (pl : List (Nat × List Nat)) :
    (State.showPlacement s pl).otp = s.otp ∧ (State.showPlacement s pl).pending = s.pending := by simp [State.showPlacement]
@[simp] theorem State.usePlacement_kept (s : State) (pl : List (Nat × List Nat)) :
    (State.usePlacement s pl).otp = s.otp ∧ (State.usePlacement s pl).pending = s.pending := by simp [State.usePlacement]
@[simp] theorem State.setTodo_kept (s : State) (c : Nat) (ps : List Nat) :
    (State.setTodo s c ps).otp = s.otp ∧ (State.setTodo s c ps).pending = s.pending := by simp [State.setTodo]
@[simp] theorem State.dispatchCore_kept (s : State) (c : Nat) :
    (State.dispatchCore s c).otp = s.otp ∧ (State.dispatchCore s c).pending = s.pending := by unfold State.dispatchCore; split <;> simp
@[simp] theorem State.chargeRun_kept (s : State) (c : Nat) (aborted : Bool) :
    (State.chargeRun s c aborted).otp = s.otp ∧ (State.chargeRun s c aborted).pending = s.pending := by simp [State.chargeRun]
@[simp] theorem State.endRunOf_kept (s : State) (c : Nat) :
    (State.endRunOf s c).otp = s.otp ∧ (State.endRunOf s c).pending = s.pending := by simp [State.endRunOf]
@[simp] theorem State.abortRun_kept (s : State) (c : Nat) (cause : Nat) (skipped : Nat) :
    (State.abortRun s c cause skipped).otp = s.otp ∧ (State.abortRun s c cause skipped).pending = s.pending := by simp [State.abortRun]
@[simp] theorem State.skipRest_kept (s : State) (c : Nat) :
    (State.skipRest s c).otp = s.otp ∧ (State.skipRest s c).pending = s.pending := by simp [State.skipRest]
@[simp] theorem State.closeCore_kept (s : State) (c : Nat) :
    (State.closeCore s c).otp = s.otp ∧ (State.closeCore s c).pending = s.pending := by simp [State.closeCore, apply_ite State.otp, apply_ite State.pending]
@[simp] theorem State.showUsed_kept (s : State) (c : Nat) :
    (State.showUsed s c).otp = s.otp ∧ (State.showUsed s c).pending = s.pending := by simp [State.showUsed, apply_ite State.otp, apply_ite State.pending]
@[simp] theorem State.closeCores_kept (s : State) :
    (State.closeCores s).otp = s.otp ∧ (State.closeCores s).pending = s.pending := by simp [State.closeCores]
@[simp] theorem State.showUsedAll_kept (s : State) :
    (State.showUsedAll s).otp = s.otp ∧ (State.showUsedAll s).pending = s.pending := by simp [State.showUsedAll]
@[simp] theorem State.undispatch_kept (s : State) (c : Nat) :
    (State.undispatch s c).otp = s.otp ∧ (State.undispatch s c).pending = s.pending := by simp [State.undispatch, apply_ite State.otp, apply_ite State.pending]
@[simp] theorem State.coreFail_kept (s : State) (c : Nat) (cause : Nat) :
    (State.coreFail s c cause).otp = s.otp ∧ (State.coreFail s c cause).pending = s.pending := by simp [State.coreFail, apply_ite State.otp, apply_ite State.pending]
@[simp] theorem State.startPrograms_kept (s : State) (ready : List Bool) :
    (State.startPrograms s ready).otp = s.otp ∧ (State.startPrograms s ready).pending = s.pending := by simp [State.startPrograms, apply_ite State.otp, apply_ite State.pending]
@[simp] theorem State.svcDone_kept (s : State) (c : Nat) (op : Nat) (tag : Option Nat) (status : Nat) (stamp : Nat) :
    (State.svcDone s c op tag status stamp).otp = s.otp ∧ (State.svcDone s c op tag status stamp).pending = s.pending := by simp [State.svcDone]
@[simp] theorem State.svcWithdraw_kept (s : State) (c : Nat) (op : Nat) :
    (State.svcWithdraw s c op).otp = s.otp ∧ (State.svcWithdraw s c op).pending = s.pending := by unfold State.svcWithdraw; split <;> simp
@[simp] theorem State.svcAdd_kept (s : State) (r : SvcReq) :
    (State.svcAdd s r).otp = s.otp ∧ (State.svcAdd s r).pending = s.pending := by simp [State.svcAdd]
@[simp] theorem State.svcRemove_kept (s : State) (c : Nat) (tag : Option Nat) :
    (State.svcRemove s c tag).otp = s.otp ∧ (State.svcRemove s c tag).pending = s.pending := by unfold State.svcRemove; split <;> simp [apply_ite State.otp, apply_ite State.pending]
@[simp] theorem State.svcReturn_kept (s : State) (c : Nat) (tag : Option Nat) :
    (State.svcReturn s c tag).otp = s.otp ∧ (State.svcReturn s c tag).pending = s.pending := by unfold State.svcReturn; split <;> simp
@[simp] theorem State.coreService_kept (s : State) (t : Nat) :
    (State.coreService s t).otp = s.otp ∧ (State.coreService s t).pending = s.pending := by unfold State.coreService; split <;> simp [apply_ite State.otp, apply_ite State.pending]
@[simp] theorem State.selfTestEnd_kept (s : State) (c : Nat) (pass : Bool) :
    (State.selfTestEnd s c pass).otp = s.otp ∧ (State.selfTestEnd s c pass).pending = s.pending := by unfold State.selfTestEnd; split <;> simp [apply_ite State.otp, apply_ite State.pending]
@[simp] theorem State.svcEffect_kept (s : State) (r : SvcReq) (b : Nat) (f : Nat) :
    (State.svcEffect s r b f).otp = s.otp ∧ (State.svcEffect s r b f).pending = s.pending := by simp [State.svcEffect, apply_ite State.otp, apply_ite State.pending]
@[simp] theorem State.svcAt_kept (s : State) (newImage : Bool) (b : Nat) (f : Nat) (r : SvcReq) :
    (State.svcAt s newImage b f r).otp = s.otp ∧ (State.svcAt s newImage b f r).pending = s.pending := by simp [State.svcAt, apply_ite State.otp, apply_ite State.pending]
@[simp] theorem State.svcBoundary_kept (s : State) (newImage : Bool) (b : Nat) (f : Nat) :
    (State.svcBoundary s newImage b f).otp = s.otp ∧ (State.svcBoundary s newImage b f).pending = s.pending := by simp [State.svcBoundary]
@[simp] theorem State.haltEngine_kept (s : State) (b : Nat) :
    (State.haltEngine s b).otp = s.otp ∧ (State.haltEngine s b).pending = s.pending := by simp [State.haltEngine]
@[simp] theorem State.engineBoundary_kept (s : State) (newImage : Bool) (b : Nat) (f : Nat) :
    (State.engineBoundary s newImage b f).otp = s.otp ∧ (State.engineBoundary s newImage b f).pending = s.pending := by unfold State.engineBoundary; dsimp only; split <;> simp [apply_ite State.otp, apply_ite State.pending]
@[simp] theorem State.keepBlocks_kept (s : State) (old : Tables) :
    (State.keepBlocks s old).otp = s.otp ∧ (State.keepBlocks s old).pending = s.pending := by simp [State.keepBlocks]
@[simp] theorem State.engineStart_kept (s : State) (pass : List Bool) :
    (State.engineStart s pass).otp = s.otp ∧ (State.engineStart s pass).pending = s.pending := by simp [State.engineStart]
@[simp] theorem State.immediateWrite_kept (s : State) (t : Nat) :
    (State.immediateWrite s t).otp = s.otp ∧ (State.immediateWrite s t).pending = s.pending := by
  unfold State.immediateWrite; dsimp only; repeat' split
  all_goals simp
@[simp] theorem State.immediateAt_kept (s : State) (t : Nat) (w : DieWrite) :
    (State.immediateAt s t w).otp = s.otp ∧ (State.immediateAt s t w).pending = s.pending := by simp [State.immediateAt]
@[simp] theorem State.immediateApply_kept (s : State) (d : Die) :
    (State.immediateApply s d).otp = s.otp ∧ (State.immediateApply s d).pending = s.pending := by simp [State.immediateApply, apply_ite State.otp, apply_ite State.pending]
@[simp] theorem State.accGo_kept (s : State) (st : Nat) :
    (State.accGo s st).otp = s.otp ∧ (State.accGo s st).pending = s.pending := by simp [State.accGo]
@[simp] theorem State.accUnit_kept (s : State) (o : Nat) (v : Nat) (t : Nat) :
    (State.accUnit s o v t).otp = s.otp ∧ (State.accUnit s o v t).pending = s.pending := by simp [State.accUnit, apply_ite State.otp, apply_ite State.pending]
@[simp] theorem State.tokReport_kept (s : State) (i : Nat) :
    (State.tokReport s i).otp = s.otp ∧ (State.tokReport s i).pending = s.pending := by simp [State.tokReport]
@[simp] theorem State.lockReport_kept (s : State) (t : Nat) :
    (State.lockReport s t).otp = s.otp ∧ (State.lockReport s t).pending = s.pending := by simp [State.lockReport]
@[simp] theorem State.accResult_kept (s : State) (status : Nat) (reason : Nat) :
    (State.accResult s status reason).otp = s.otp ∧ (State.accResult s status reason).pending = s.pending := by simp [State.accResult]
@[simp] theorem State.setSession_kept (s : State) (w : Nat) (t : Nat) :
    (State.setSession s w t).otp = s.otp ∧ (State.setSession s w t).pending = s.pending := by simp [State.setSession]
@[simp] theorem State.closeSession_kept (s : State) (cause : Nat) (t : Nat) :
    (State.closeSession s cause t).otp = s.otp ∧ (State.closeSession s cause t).pending = s.pending := by simp [State.closeSession]
@[simp] theorem State.endSession_kept (s : State) (cause : Nat) (t : Nat) :
    (State.endSession s cause t).otp = s.otp ∧ (State.endSession s cause t).pending = s.pending := by simp [State.endSession, apply_ite State.otp, apply_ite State.pending]
@[simp] theorem State.startSession_kept (s : State) (tok : Nat) (method : Nat) (mask : Nat) (t : Nat) :
    (State.startSession s tok method mask t).otp = s.otp ∧ (State.startSession s tok method mask t).pending = s.pending := by simp [State.startSession, apply_ite State.otp, apply_ite State.pending]
@[simp] theorem State.sessionTimeout_kept (s : State) :
    (State.sessionTimeout s).otp = s.otp ∧ (State.sessionTimeout s).pending = s.pending := by simp [State.sessionTimeout, apply_ite State.otp, apply_ite State.pending]
@[simp] theorem State.doorUpdate_kept (s : State) (idx : Nat) (value : W64) (stamp : Nat) :
    (State.doorUpdate s idx value stamp).otp = s.otp ∧ (State.doorUpdate s idx value stamp).pending = s.pending := by simp [State.doorUpdate, apply_ite State.otp, apply_ite State.pending]
@[simp] theorem State.accRest_kept (s : State) :
    (State.accRest s).otp = s.otp ∧ (State.accRest s).pending = s.pending := by simp [State.accRest]
@[simp] theorem State.accRefuse_kept (s : State) (r : AccReq) (status : Nat) (reason : Nat) :
    (State.accRefuse s r status reason).otp = s.otp ∧ (State.accRefuse s r status reason).pending = s.pending := by unfold State.accRefuse; split <;> simp
@[simp] theorem State.lfStop_kept (s : State) :
    (State.lfStop s).otp = s.otp ∧ (State.lfStop s).pending = s.pending := by simp [State.lfStop, apply_ite State.otp, apply_ite State.pending]
@[simp] theorem State.accFinish_kept (s : State) (status : Nat) (reason : Nat) :
    (State.accFinish s status reason).otp = s.otp ∧ (State.accFinish s status reason).pending = s.pending := by
  unfold State.accFinish; dsimp only; repeat' split
  all_goals simp
@[simp] theorem State.accFlush_kept (s : State) (status : Nat) (reason : Nat) :
    (State.accFlush s status reason).otp = s.otp ∧ (State.accFlush s status reason).pending = s.pending := by simp [State.accFlush]
@[simp] theorem State.levelZero_kept (s : State) :
    (State.levelZero s).otp = s.otp ∧ (State.levelZero s).pending = s.pending := by simp [State.levelZero, apply_ite State.otp, apply_ite State.pending]
@[simp] theorem State.lockout_kept (s : State) (reasons : List Nat) :
    (State.lockout s reasons).otp = s.otp ∧ (State.lockout s reasons).pending = s.pending := by simp [State.lockout]
@[simp] theorem State.accFailure_kept (s : State) (reason : Nat) :
    (State.accFailure s reason).otp = s.otp ∧ (State.accFailure s reason).pending = s.pending := by unfold State.accFailure; dsimp only; split <;> simp [apply_ite State.otp, apply_ite State.pending]
@[simp] theorem State.lockoutEnd_kept (s : State) :
    (State.lockoutEnd s).otp = s.otp ∧ (State.lockoutEnd s).pending = s.pending := by simp [State.lockoutEnd, apply_ite State.otp, apply_ite State.pending]
@[simp] theorem State.tokZero_kept (s : State) (i : Nat) :
    (State.tokZero s i).otp = s.otp ∧ (State.tokZero s i).pending = s.pending := by simp [State.tokZero]
@[simp] theorem State.tokenRegister_kept (s : State) (t : Nat) :
    (State.tokenRegister s t).otp = s.otp ∧ (State.tokenRegister s t).pending = s.pending := by unfold State.tokenRegister; split <;> simp [apply_ite State.otp, apply_ite State.pending]
@[simp] theorem State.tokenRemove_kept (s : State) (t : Nat) :
    (State.tokenRemove s t).otp = s.otp ∧ (State.tokenRemove s t).pending = s.pending := by unfold State.tokenRemove; split <;> simp [apply_ite State.otp, apply_ite State.pending]
@[simp] theorem State.challengeOp_kept (s : State) (t : Nat) :
    (State.challengeOp s t).otp = s.otp ∧ (State.challengeOp s t).pending = s.pending := by
  unfold State.challengeOp; dsimp only; repeat' split
  all_goals simp
@[simp] theorem State.calibrate_kept (s : State) (t : Nat) :
    (State.calibrate s t).otp = s.otp ∧ (State.calibrate s t).pending = s.pending := by
  unfold State.calibrate; dsimp only; repeat' split
  all_goals simp
@[simp] theorem State.accCmd_kept (s : State) (w : Nat) :
    (State.accCmd s w).otp = s.otp ∧ (State.accCmd s w).pending = s.pending := by
  unfold State.accCmd; dsimp only; repeat' split
  all_goals simp
@[simp] theorem State.drawNonce_kept (s : State) (i : Nat) :
    (s.drawNonce i).2.otp = s.otp ∧ (s.drawNonce i).2.pending = s.pending := by unfold State.drawNonce; dsimp only; split <;> simp [apply_ite State.otp, apply_ite State.pending]
@[simp] theorem State.sendChallenge_kept (s : State) (addressed : Bool) (tok : Nat) (mask : Nat) :
    (State.sendChallenge s addressed tok mask).otp = s.otp ∧ (State.sendChallenge s addressed tok mask).pending = s.pending := by
  unfold State.sendChallenge; dsimp only
  have hk := State.drawNonce_kept s (s.rd Reg.ACC_CFG.CSLOT)
  split
  · rename_i h; rw [h] at hk; simp at hk; simp [hk]
  · rename_i h; rw [h] at hk; simp at hk; simp [hk]
@[simp] theorem State.serveNext_kept (s : State) :
    (State.serveNext s).otp = s.otp ∧ (State.serveNext s).pending = s.pending := by
  unfold State.serveNext; dsimp only; repeat' split
  all_goals first
    | simp_all; done
    | (refine (foldl_kept _ (fun s x => ?_) _ _).imp (fun h => h.trans ?_) (fun h => h.trans ?_) <;> (try dsimp only) <;> (repeat' split) <;> simp_all [apply_ite State.otp, apply_ite State.pending])
@[simp] theorem State.challengeStart_kept (s : State) :
    (State.challengeStart s).otp = s.otp ∧ (State.challengeStart s).pending = s.pending := by
  unfold State.challengeStart; dsimp only; repeat' split
  all_goals first
    | simp_all; done
    | (refine (foldl_kept _ (fun s x => ?_) _ _).imp (fun h => h.trans ?_) (fun h => h.trans ?_) <;> (try dsimp only) <;> (repeat' split) <;> simp_all [apply_ite State.otp, apply_ite State.pending])
@[simp] theorem State.challengeOver_kept (s : State) :
    (State.challengeOver s).otp = s.otp ∧ (State.challengeOver s).pending = s.pending := by simp [State.challengeOver, apply_ite State.otp, apply_ite State.pending]
@[simp] theorem State.lfOverrun_kept (s : State) :
    (State.lfOverrun s).otp = s.otp ∧ (State.lfOverrun s).pending = s.pending := by simp [State.lfOverrun, apply_ite State.otp, apply_ite State.pending]
@[simp] theorem State.lfStep_kept (s : State) :
    (State.lfStep s).otp = s.otp ∧ (State.lfStep s).pending = s.pending := by simp [State.lfStep, apply_ite State.otp, apply_ite State.pending]
@[simp] theorem State.lfShort_kept (s : State) (k : Nat) (cur : Nat) :
    (State.lfShort s k cur).otp = s.otp ∧ (State.lfShort s k cur).pending = s.pending := by simp [State.lfShort, apply_ite State.otp, apply_ite State.pending]
@[simp] theorem State.lfOpen_kept (s : State) (k : Nat) (peak : Nat) :
    (State.lfOpen s k peak).otp = s.otp ∧ (State.lfOpen s k peak).pending = s.pending := by simp [State.lfOpen, apply_ite State.otp, apply_ite State.pending]
@[simp] theorem State.tkrFrame_kept (s : State) (f : List Byte) :
    (State.tkrFrame s f).otp = s.otp ∧ (State.tkrFrame s f).pending = s.pending := by unfold State.tkrFrame; split <;> simp
@[simp] theorem State.tokFlags_kept (s : State) (i : Nat) (flags : Nat) :
    (State.tokFlags s i flags).otp = s.otp ∧ (State.tokFlags s i flags).pending = s.pending := by simp [State.tokFlags]
@[simp] theorem State.tokAccept_kept (s : State) (i : Nat) :
    (State.tokAccept s i).otp = s.otp ∧ (State.tokAccept s i).pending = s.pending := by simp [State.tokAccept]
@[simp] theorem State.buttonFrame_kept (s : State) (f : List Byte) :
    (State.buttonFrame s f).otp = s.otp ∧ (State.buttonFrame s f).pending = s.pending := by
  unfold State.buttonFrame; dsimp only; repeat' split
  all_goals simp
@[simp] theorem State.lastDev_kept (s : State) (dev : Int) (tok : Nat) (valid : Bool) :
    (State.lastDev s dev tok valid).otp = s.otp ∧ (State.lastDev s dev tok valid).pending = s.pending := by simp [State.lastDev]
@[simp] theorem State.calEnd_kept (s : State) (r : AccReq) :
    (State.calEnd s r).otp = s.otp ∧ (State.calEnd s r).pending = s.pending := by simp [State.calEnd, apply_ite State.otp, apply_ite State.pending]
@[simp] theorem State.roundEnd_kept (s : State) (r : AccReq) :
    (State.roundEnd s r).otp = s.otp ∧ (State.roundEnd s r).pending = s.pending := by unfold State.roundEnd; dsimp only; split <;> simp [apply_ite State.otp, apply_ite State.pending]
@[simp] theorem State.challengeDone_kept (s : State) :
    (State.challengeDone s).otp = s.otp ∧ (State.challengeDone s).pending = s.pending := by unfold State.challengeDone; dsimp only; split <;> simp [apply_ite State.otp, apply_ite State.pending]
@[simp] theorem State.slotDone_kept (s : State) :
    (State.slotDone s).otp = s.otp ∧ (State.slotDone s).pending = s.pending := by simp [State.slotDone, apply_ite State.otp, apply_ite State.pending]
@[simp] theorem State.replySlotEnd_kept (s : State) :
    (State.replySlotEnd s).otp = s.otp ∧ (State.replySlotEnd s).pending = s.pending := by
  unfold State.replySlotEnd; dsimp only; repeat' split
  all_goals simp
@[simp] theorem State.judgeReply_kept (s : State) (e : Nat) (v : AccReply) :
    (State.judgeReply s e v).otp = s.otp ∧ (State.judgeReply s e v).pending = s.pending := by simp [State.judgeReply, apply_ite State.otp, apply_ite State.pending]
@[simp] theorem State.judgeCal_kept (s : State) (e : Nat) (tok : Nat) (v : AccReply) :
    (State.judgeCal s e tok v).otp = s.otp ∧ (State.judgeCal s e tok v).pending = s.pending := by simp [State.judgeCal, apply_ite State.otp, apply_ite State.pending]
@[simp] theorem State.replyVerified_kept (s : State) :
    (State.replyVerified s).otp = s.otp ∧ (State.replyVerified s).pending = s.pending := by unfold State.replyVerified; split <;> simp [apply_ite State.otp, apply_ite State.pending]
@[simp] theorem State.accAbort_kept (s : State) (status : Nat) (reason : Nat) :
    (State.accAbort s status reason).otp = s.otp ∧ (State.accAbort s status reason).pending = s.pending := by simp [State.accAbort]
@[simp] theorem State.accDegraded_kept (s : State) :
    (State.accDegraded s).otp = s.otp ∧ (State.accDegraded s).pending = s.pending := by simp [State.accDegraded]
@[simp] theorem State.accSupply_kept (s : State) :
    (State.accSupply s).otp = s.otp ∧ (State.accSupply s).pending = s.pending := by simp [State.accSupply]
@[simp] theorem State.accStop_kept (s : State) :
    (State.accStop s).otp = s.otp ∧ (State.accStop s).pending = s.pending := by simp [State.accStop]
@[simp] theorem State.accDisable_kept (s : State) :
    (State.accDisable s).otp = s.otp ∧ (State.accDisable s).pending = s.pending := by simp [State.accDisable]
@[simp] theorem State.accRestart_kept (s : State) :
    (State.accRestart s).otp = s.otp ∧ (State.accRestart s).pending = s.pending := by simp [State.accRestart, apply_ite State.otp, apply_ite State.pending]
@[simp] theorem State.accEnter_kept (s : State) :
    (State.accEnter s).otp = s.otp ∧ (State.accEnter s).pending = s.pending := by simp [State.accEnter, apply_ite State.otp, apply_ite State.pending]
@[simp] theorem State.accFuncReset_kept (s : State) (t : Nat) :
    (State.accFuncReset s t).otp = s.otp ∧ (State.accFuncReset s t).pending = s.pending := by simp [State.accFuncReset, apply_ite State.otp, apply_ite State.pending]
@[simp] theorem State.accDropTag_kept (s : State) (t : Nat) :
    (State.accDropTag s t).otp = s.otp ∧ (State.accDropTag s t).pending = s.pending := by unfold State.accDropTag; dsimp only; split <;> simp [apply_ite State.otp, apply_ite State.pending]
@[simp] theorem State.accDrain_kept (s : State) (t : Nat) :
    (State.accDrain s t).otp = s.otp ∧ (State.accDrain s t).pending = s.pending := by unfold State.accDrain; split <;> simp [apply_ite State.otp, apply_ite State.pending]
@[simp] theorem State.accHostStop_kept (s : State) :
    (State.accHostStop s).otp = s.otp ∧ (State.accHostStop s).pending = s.pending := by simp [State.accHostStop]
@[simp] theorem State.accBoot_kept (s : State) :
    (State.accBoot s).otp = s.otp ∧ (State.accBoot s).pending = s.pending := by simp [State.accBoot]
@[simp] theorem State.accPark_kept (s : State) :
    (State.accPark s).otp = s.otp ∧ (State.accPark s).pending = s.pending := by simp [State.accPark]
@[simp] theorem State.accWake_kept (s : State) (secs : Nat) :
    (State.accWake s secs).otp = s.otp ∧ (State.accWake s secs).pending = s.pending := by simp [State.accWake]
@[simp] theorem State.accCandleLost_kept (s : State) :
    (State.accCandleLost s).otp = s.otp ∧ (State.accCandleLost s).pending = s.pending := by simp [State.accCandleLost]
@[simp] theorem State.timeFollow_kept (s : State) (was : TbSt) :
    (State.timeFollow s was).otp = s.otp ∧ (State.timeFollow s was).pending = s.pending := by simp [State.timeFollow, apply_ite State.otp, apply_ite State.pending]
@[simp] theorem State.holdOff_kept (s : State) (u : Nat) (t : Nat) :
    (State.holdOff s u t).otp = s.otp ∧ (State.holdOff s u t).pending = s.pending := by simp [State.holdOff]
@[simp] theorem State.motorHeldOff_kept (s : State) (m : Nat) (t : Nat) :
    (State.motorHeldOff s m t).otp = s.otp ∧ (State.motorHeldOff s m t).pending = s.pending := by simp [State.motorHeldOff, apply_ite State.otp, apply_ite State.pending]
@[simp] theorem State.motorOv_kept (s : State) (m : Nat) (t : Nat) :
    (State.motorOv s m t).otp = s.otp ∧ (State.motorOv s m t).pending = s.pending := by unfold State.motorOv; split <;> simp
@[simp] theorem State.unitsHeldOff_kept (s : State) (d : Die) (t : Nat) :
    (State.unitsHeldOff s d t).otp = s.otp ∧ (State.unitsHeldOff s d t).pending = s.pending := by unfold State.unitsHeldOff; split <;> simp
@[simp] theorem State.unitsOv_kept (s : State) (d : Die) (t : Nat) :
    (State.unitsOv s d t).otp = s.otp ∧ (State.unitsOv s d t).pending = s.pending := by unfold State.unitsOv; split <;> simp
@[simp] theorem State.resume_kept (s : State) (u : Nat) (e : Nat) (t : Nat) :
    (State.resume s u e t).otp = s.otp ∧ (State.resume s u e t).pending = s.pending := by simp [State.resume, apply_ite State.otp, apply_ite State.pending]
@[simp] theorem State.resumeAll_kept (s : State) (e : Nat) (us : List Nat) (t : Nat) :
    (s.resumeAll e us t).otp = s.otp ∧ (s.resumeAll e us t).pending = s.pending := by
  induction us generalizing s t with
  | nil => simp [State.resumeAll]
  | cons u us ih => unfold State.resumeAll; split <;> simp [ih]
@[simp] theorem State.enterHeld_kept (s : State) (d : Die) (st : SupSt) (t : Nat) :
    (State.enterHeld s d st t).otp = s.otp ∧ (State.enterHeld s d st t).pending = s.pending := by simp [State.enterHeld, apply_ite State.otp, apply_ite State.pending]
@[simp] theorem State.enterOv_kept (s : State) (d : Die) (t : Nat) :
    (State.enterOv s d t).otp = s.otp ∧ (State.enterOv s d t).pending = s.pending := by simp [State.enterOv]
@[simp] theorem State.release_kept (s : State) (d : Die) (t : Nat) :
    (State.release s d t).otp = s.otp ∧ (State.release s d t).pending = s.pending := by simp [State.release, apply_ite State.otp, apply_ite State.pending]
@[simp] theorem State.leaveSup_kept (s : State) (d : Die) (t : Nat) :
    (State.leaveSup s d t).otp = s.otp ∧ (State.leaveSup s d t).pending = s.pending := by simp [State.leaveSup, apply_ite State.otp, apply_ite State.pending]
@[simp] theorem State.supplyExit_kept (s : State) (d : Die) (st : SupSt) (since : Option Nat) :
    (State.supplyExit s d st since).otp = s.otp ∧ (State.supplyExit s d st since).pending = s.pending := by unfold State.supplyExit; split <;> simp [apply_ite State.otp, apply_ite State.pending]
@[simp] theorem State.takeRegs_kept (s : State) (regs : SMap W32) (sel : Nat → Bool) :
    (State.takeRegs s regs sel).otp = s.otp ∧ (State.takeRegs s regs sel).pending = s.pending := by simp [State.takeRegs]
@[simp] theorem State.dropEntries_kept (s : State) (o : State) :
    (State.dropEntries s o).otp = s.otp ∧ (State.dropEntries s o).pending = s.pending := by simp [State.dropEntries]
@[simp] theorem State.dropSent_kept (s : State) :
    (State.dropSent s).otp = s.otp ∧ (State.dropSent s).pending = s.pending := by simp [State.dropSent]
@[simp] theorem State.wickJoin_kept (s : State) (o : State) (u : Nat) :
    (State.wickJoin s o u).otp = s.otp ∧ (State.wickJoin s o u).pending = s.pending := by simp [State.wickJoin]
@[simp] theorem State.commitOpenLoad_kept (s : State) (o : State) (u : Nat) :
    (State.commitOpenLoad s o u).otp = s.otp ∧ (State.commitOpenLoad s o u).pending = s.pending := by simp [State.commitOpenLoad, apply_ite State.otp, apply_ite State.pending]
@[simp] theorem State.commitGrid_kept (s : State) (o : State) (u : Nat) (t : Nat) :
    (State.commitGrid s o u t).otp = s.otp ∧ (State.commitGrid s o u t).pending = s.pending := by simp [State.commitGrid, apply_ite State.otp, apply_ite State.pending]
@[simp] theorem State.commitChan_kept (o : State) (t : Nat) (s : State) (u : Nat) :
    (State.commitChan o t s u).otp = s.otp ∧ (State.commitChan o t s u).pending = s.pending := by simp [State.commitChan, apply_ite State.otp, apply_ite State.pending]
@[simp] theorem State.commitMotorUnit_kept (o : State) (t : Nat) (s : State) (m : Nat) :
    (State.commitMotorUnit o t s m).otp = s.otp ∧ (State.commitMotorUnit o t s m).pending = s.pending := by simp [State.commitMotorUnit, apply_ite State.otp, apply_ite State.pending]
@[simp] theorem State.commitBankUnits_kept (o : State) (t : Nat) (s : State) (b : Nat) :
    (State.commitBankUnits o t s b).otp = s.otp ∧ (State.commitBankUnits o t s b).pending = s.pending := by simp [State.commitBankUnits, apply_ite State.otp, apply_ite State.pending]
@[simp] theorem State.commitSink_kept (o : State) (t : Nat) (s : State) (n : Nat) :
    (State.commitSink o t s n).otp = s.otp ∧ (State.commitSink o t s n).pending = s.pending := by simp [State.commitSink, apply_ite State.otp, apply_ite State.pending]
@[simp] theorem State.commitInput_kept (o : State) (t : Nat) (s : State) (n : Nat) :
    (State.commitInput o t s n).otp = s.otp ∧ (State.commitInput o t s n).pending = s.pending := by simp [State.commitInput, apply_ite State.otp, apply_ite State.pending]
@[simp] theorem State.groupsFrom_kept (s : State) (o : State) :
    (State.groupsFrom s o).otp = s.otp ∧ (State.groupsFrom s o).pending = s.pending := by simp [State.groupsFrom]
@[simp] theorem State.dieTakes_kept (s : State) (d : Die) (regs : SMap W32) (t : Nat) :
    (State.dieTakes s d regs t).otp = s.otp ∧ (State.dieTakes s d regs t).pending = s.pending := by unfold State.dieTakes; split <;> simp
@[simp] theorem State.dieStarts_kept (s : State) (d : Die) (regs : SMap W32) (t : Nat) :
    (State.dieStarts s d regs t).otp = s.otp ∧ (State.dieStarts s d regs t).pending = s.pending := by unfold State.dieStarts; split <;> simp
@[simp] theorem State.peerReport_kept (s : State) (i : Nat) (t : Nat) :
    (State.peerReport s i t).otp = s.otp ∧ (State.peerReport s i t).pending = s.pending := by simp [State.peerReport]
@[simp] theorem State.summaryReport_kept (s : State) (t : Nat) :
    (State.summaryReport s t).otp = s.otp ∧ (State.summaryReport s t).pending = s.pending := by simp [State.summaryReport, apply_ite State.otp, apply_ite State.pending]
@[simp] theorem State.peerEnter_kept (s : State) (i : Nat) (st : Nat) (gen : Nat) (t : Nat) :
    (State.peerEnter s i st gen t).otp = s.otp ∧ (State.peerEnter s i st gen t).pending = s.pending := by simp [State.peerEnter, apply_ite State.otp, apply_ite State.pending]
@[simp] theorem State.peersStart_kept (s : State) :
    (State.peersStart s).otp = s.otp ∧ (State.peersStart s).pending = s.pending := by
  unfold State.peersStart; dsimp only
  have h : ∀ s0 : State, ((List.range 32).foldl (fun s i =>
    match s.peer i with
    | none => s
    | some p =>
      let s1 := (s.wr (Reg.CFG_PEER.REQ i) (b2n p.required)).wr (Reg.CFG_PEER.NODE i) p.node
      let s2 := s1.peerReport i s.now
      if p.required then s2.raiseL (0x0F20 + i) 0x43 s.now else s2) s0).otp = s0.otp ∧ ((List.range 32).foldl (fun s i =>
    match s.peer i with
    | none => s
    | some p =>
      let s1 := (s.wr (Reg.CFG_PEER.REQ i) (b2n p.required)).wr (Reg.CFG_PEER.NODE i) p.node
      let s2 := s1.peerReport i s.now
      if p.required then s2.raiseL (0x0F20 + i) 0x43 s.now else s2) s0).pending = s0.pending := by
    intro s0
    refine foldl_kept _ (fun s x => ?_) _ _
    dsimp only; repeat' split
    all_goals simp
  split
  · exact ⟨(State.summaryReport_kept _ _).1.trans ((h _).1.trans (by simp)), (State.summaryReport_kept _ _).2.trans ((h _).2.trans (by simp))⟩
  · exact ⟨(h _).1.trans (by simp), (h _).2.trans (by simp)⟩
@[simp] theorem State.lanternDue_kept (s : State) :
    (State.lanternDue s).otp = s.otp ∧ (State.lanternDue s).pending = s.pending := by simp [State.lanternDue, apply_ite State.otp, apply_ite State.pending]
@[simp] theorem State.lanternSend_kept (s : State) (bytes : List Byte) :
    (State.lanternSend s bytes).otp = s.otp ∧ (State.lanternSend s bytes).pending = s.pending := by unfold State.lanternSend; split <;> simp [apply_ite State.otp, apply_ite State.pending]
@[simp] theorem State.lanternBuild_kept (s : State) :
    (State.lanternBuild s).otp = s.otp ∧ (State.lanternBuild s).pending = s.pending := by simp [State.lanternBuild, apply_ite State.otp, apply_ite State.pending]
@[simp] theorem State.lanternsBuild_kept (s : State) :
    (State.lanternsBuild s).otp = s.otp ∧ (State.lanternsBuild s).pending = s.pending := by simp [State.lanternsBuild, apply_ite State.otp, apply_ite State.pending]
@[simp] theorem State.peerSilent_kept (s : State) (i : Nat) :
    (State.peerSilent s i).otp = s.otp ∧ (State.peerSilent s i).pending = s.pending := by
  unfold State.peerSilent; dsimp only; repeat' split
  all_goals simp
@[simp] theorem State.lanternReceived_kept (s : State) (x : LanternRx) :
    (State.lanternReceived s x).otp = s.otp ∧ (State.lanternReceived s x).pending = s.pending := by
  unfold State.lanternReceived; dsimp only; repeat' split
  all_goals simp

end Sys2Proof.Machine
end

