-- ==== Sys2Proof/Laws/KeptHost.lean ====
section
/-! SUPPORT. What the operations of host commands, the ledger path, faults, activation and the recorder leave alone: the one-time-programmable counts and the queue of commands. -/

namespace Sys2Proof.Machine

@[simp] theorem State.forgetClears_kept (s : State) (p : Nat → Bool) :
    (State.forgetClears s p).otp = s.otp ∧ (State.forgetClears s p).pending = s.pending := by simp [State.forgetClears]
@[simp] theorem State.forgetUnits_kept (s : State) (p : Nat → Bool) :
    (State.forgetUnits s p).otp = s.otp ∧ (State.forgetUnits s p).pending = s.pending := by simp [State.forgetUnits]
@[simp] theorem State.forgetQueues_kept (s : State) (p : Nat → Bool) :
    (State.forgetQueues s p).otp = s.otp ∧ (State.forgetQueues s p).pending = s.pending := by simp [State.forgetQueues]
@[simp] theorem State.forgetTags_kept (s : State) (p : Nat → Bool) :
    (State.forgetTags s p).otp = s.otp ∧ (State.forgetTags s p).pending = s.pending := by simp [State.forgetTags]
@[simp] theorem State.hostStop_kept (s : State) :
    (State.hostStop s).otp = s.otp ∧ (State.hostStop s).pending = s.pending := by simp [State.hostStop]
@[simp] theorem State.linkDown_kept (s : State) :
    (State.linkDown s).otp = s.otp ∧ (State.linkDown s).pending = s.pending := by simp [State.linkDown, apply_ite State.otp, apply_ite State.pending]
@[simp] theorem State.hostStart_kept (s : State) :
    (State.hostStart s).otp = s.otp ∧ (State.hostStart s).pending = s.pending := by simp [State.hostStart, apply_ite State.otp, apply_ite State.pending]
@[simp] theorem State.hostEnable_kept (s : State) (dbper : Nat) :
    (State.hostEnable s dbper).otp = s.otp ∧ (State.hostEnable s dbper).pending = s.pending := by simp [State.hostEnable, apply_ite State.otp, apply_ite State.pending]
@[simp] theorem State.hostDisable_kept (s : State) (dbper : Nat) :
    (State.hostDisable s dbper).otp = s.otp ∧ (State.hostDisable s dbper).pending = s.pending := by simp [State.hostDisable, apply_ite State.otp, apply_ite State.pending]
@[simp] theorem State.pcieUp_kept (s : State) :
    (State.pcieUp s).otp = s.otp ∧ (State.pcieUp s).pending = s.pending := by
  unfold State.pcieUp; dsimp only; repeat' split
  all_goals simp
@[simp] theorem State.msixUnmask_kept (s : State) (v : Nat) :
    (State.msixUnmask s v).otp = s.otp ∧ (State.msixUnmask s v).pending = s.pending := by simp [State.msixUnmask, apply_ite State.otp, apply_ite State.pending]
@[simp] theorem State.writeHeld_kept (s : State) (c : Cpl) :
    (State.writeHeld s c).otp = s.otp ∧ (State.writeHeld s c).pending = s.pending := by simp [State.writeHeld]
@[simp] theorem State.sendHeld_kept (s : State) :
    (State.sendHeld s).otp = s.otp ∧ (State.sendHeld s).pending = s.pending := by simp [State.sendHeld]
@[simp] theorem State.busMasterChange_kept (s : State) (bme : Bool) (d3 : Bool) :
    (State.busMasterChange s bme d3).otp = s.otp ∧ (State.busMasterChange s bme d3).pending = s.pending := by simp [State.busMasterChange, apply_ite State.otp, apply_ite State.pending]
@[simp] theorem State.cqTimer_kept (s : State) (q : Nat) :
    (State.cqTimer s q).otp = s.otp ∧ (State.cqTimer s q).pending = s.pending := by simp [State.cqTimer, apply_ite State.otp, apply_ite State.pending]
@[simp] theorem State.doorbellFetch_kept (s : State) :
    (State.doorbellFetch s).otp = s.otp ∧ (State.doorbellFetch s).pending = s.pending := by simp [State.doorbellFetch, apply_ite State.otp, apply_ite State.pending]
@[simp] theorem State.tailWord_kept (s : State) (q : Nat) (w : Nat) :
    (State.tailWord s q w).otp = s.otp ∧ (State.tailWord s q w).pending = s.pending := by simp [State.tailWord, apply_ite State.otp, apply_ite State.pending]
@[simp] theorem State.headWord_kept (s : State) (q : Nat) (w : Nat) :
    (State.headWord s q w).otp = s.otp ∧ (State.headWord s q w).pending = s.pending := by simp [State.headWord, apply_ite State.otp, apply_ite State.pending]
@[simp] theorem State.doorbellPage_kept (s : State) (b : List Byte) :
    (State.doorbellPage s b).otp = s.otp ∧ (State.doorbellPage s b).pending = s.pending := by simp [State.doorbellPage]
@[simp] theorem State.fetchFailed_kept (s : State) (x : ReadResult) :
    (State.fetchFailed s x).otp = s.otp ∧ (State.fetchFailed s x).pending = s.pending := by simp [State.fetchFailed]
@[simp] theorem State.doorbellData_kept (s : State) (x : ReadResult) :
    (State.doorbellData s x).otp = s.otp ∧ (State.doorbellData s x).pending = s.pending := by
  unfold State.doorbellData; dsimp only; repeat' split
  all_goals simp
@[simp] theorem State.served_kept (s : State) (q : Nat) :
    (State.served s q).otp = s.otp ∧ (State.served s q).pending = s.pending := by simp [State.served]
@[simp] theorem State.turnPasses_kept (s : State) (q : Nat) :
    (State.turnPasses s q).otp = s.otp ∧ (State.turnPasses s q).pending = s.pending := by simp [State.turnPasses]
@[simp] theorem State.returnRingPosts_kept (s : State) (q : Nat) :
    (State.returnRingPosts s q).otp = s.otp ∧ (State.returnRingPosts s q).pending = s.pending := by simp [State.returnRingPosts]
@[simp] theorem State.drainCheck_kept (s : State) (q : Nat) :
    (State.drainCheck s q).otp = s.otp ∧ (State.drainCheck s q).pending = s.pending := by simp [State.drainCheck, apply_ite State.otp, apply_ite State.pending]
@[simp] theorem State.consume_kept (s : State) (q : Nat) :
    (State.consume s q).otp = s.otp ∧ (State.consume s q).pending = s.pending := by simp [State.consume]
@[simp] theorem State.acceptDesc_kept (s : State) (q : Nat) (d : List Byte) :
    (State.acceptDesc s q d).otp = s.otp ∧ (State.acceptDesc s q d).pending = s.pending := by unfold State.acceptDesc; dsimp only; split <;> simp [apply_ite State.otp, apply_ite State.pending]
@[simp] theorem State.descFailed_kept (s : State) (q : Nat) (x : ReadResult) :
    (State.descFailed s q x).otp = s.otp ∧ (State.descFailed s q x).pending = s.pending := by simp [State.descFailed, apply_ite State.otp, apply_ite State.pending]
@[simp] theorem State.descriptor_kept (s : State) (q : Nat) (x : ReadResult) :
    (State.descriptor s q x).otp = s.otp ∧ (State.descriptor s q x).pending = s.pending := by
  simp [State.descriptor, apply_ite State.otp, apply_ite State.pending]; repeat' split
  all_goals simp_all
@[simp] theorem State.nop_kept (s : State) (t : Nat) :
    (State.nop s t).otp = s.otp ∧ (State.nop s t).pending = s.pending := by unfold State.nop; split <;> simp
@[simp] theorem State.addSq_kept (s : State) (t : Nat) (q : Nat) (o : HostOp) :
    (State.addSq s t q o).otp = s.otp ∧ (State.addSq s t q o).pending = s.pending := by simp [State.addSq, apply_ite State.otp, apply_ite State.pending]
@[simp] theorem State.addCq_kept (s : State) (t : Nat) (q : Nat) (o : HostOp) :
    (State.addCq s t q o).otp = s.otp ∧ (State.addCq s t q o).pending = s.pending := by simp [State.addCq, apply_ite State.otp, apply_ite State.pending]
@[simp] theorem State.ringAdd_kept (s : State) (t : Nat) :
    (State.ringAdd s t).otp = s.otp ∧ (State.ringAdd s t).pending = s.pending := by unfold State.ringAdd; split <;> simp [apply_ite State.otp, apply_ite State.pending]
@[simp] theorem State.removeSq_kept (s : State) (t : Nat) (q : Nat) (o : HostOp) :
    (State.removeSq s t q o).otp = s.otp ∧ (State.removeSq s t q o).pending = s.pending := by simp [State.removeSq, apply_ite State.otp, apply_ite State.pending]
@[simp] theorem State.removeCq_kept (s : State) (t : Nat) (q : Nat) :
    (State.removeCq s t q).otp = s.otp ∧ (State.removeCq s t q).pending = s.pending := by simp [State.removeCq, apply_ite State.otp, apply_ite State.pending]
@[simp] theorem State.ringRemove_kept (s : State) (t : Nat) :
    (State.ringRemove s t).otp = s.otp ∧ (State.ringRemove s t).pending = s.pending := by unfold State.ringRemove; split <;> simp [apply_ite State.otp, apply_ite State.pending]
@[simp] theorem State.drainCan_kept (s : State) (t : Nat) (c : Nat) :
    (State.drainCan s t c).otp = s.otp ∧ (State.drainCan s t c).pending = s.pending := by unfold State.drainCan; split <;> simp [apply_ite State.otp, apply_ite State.pending]
@[simp] theorem State.drainLin_kept (s : State) (t : Nat) (n : Nat) :
    (State.drainLin s t n).otp = s.otp ∧ (State.drainLin s t n).pending = s.pending := by simp [State.drainLin, apply_ite State.otp, apply_ite State.pending]
@[simp] theorem State.drainOp_kept (s : State) (t : Nat) (o : HostOp) :
    (State.drainOp s t o).otp = s.otp ∧ (State.drainOp s t o).pending = s.pending := by simp [State.drainOp, apply_ite State.otp, apply_ite State.pending]
@[simp] theorem State.drainTimeout_kept (s : State) (q : Nat) :
    (State.drainTimeout s q).otp = s.otp ∧ (State.drainTimeout s q).pending = s.pending := by simp [State.drainTimeout, apply_ite State.otp, apply_ite State.pending]
@[simp] theorem State.funcReset_kept (s : State) (t : Nat) :
    (State.funcReset s t).otp = s.otp ∧ (State.funcReset s t).pending = s.pending := by unfold State.funcReset; split <;> simp [apply_ite State.otp, apply_ite State.pending]
@[simp] theorem State.rxPost_kept (s : State) (t : Nat) :
    (State.rxPost s t).otp = s.otp ∧ (State.rxPost s t).pending = s.pending := by
  unfold State.rxPost; dsimp only; repeat' split
  all_goals simp
@[simp] theorem State.enterIntake_kept (s : State) (u : Upd) :
    (State.enterIntake s u).otp = s.otp ∧ (State.enterIntake s u).pending = s.pending := by simp [State.enterIntake]
@[simp] theorem State.arriveDie_kept (s : State) (d : Die) :
    (State.arriveDie s d).otp = s.otp ∧ (State.arriveDie s d).pending = s.pending := by unfold State.arriveDie; split <;> simp [apply_ite State.otp, apply_ite State.pending]
@[simp] theorem State.arriveL_kept (s : State) :
    (State.arriveL s).otp = s.otp ∧ (State.arriveL s).pending = s.pending := by unfold State.arriveL; split <;> simp [apply_ite State.otp, apply_ite State.pending]
@[simp] theorem State.arriveHost_kept (s : State) :
    (State.arriveHost s).otp = s.otp ∧ (State.arriveHost s).pending = s.pending := by
  unfold State.arriveHost; dsimp only; repeat' split
  all_goals simp
@[simp] theorem State.intakeLate_kept (s : State) (u : Upd) :
    (State.intakeLate s u).otp = s.otp ∧ (State.intakeLate s u).pending = s.pending := by simp [State.intakeLate, apply_ite State.otp, apply_ite State.pending]
@[simp] theorem State.committed_kept (s : State) (u : Upd) (accepted : Bool) :
    (State.committed s u accepted).otp = s.otp ∧ (State.committed s u accepted).pending = s.pending := by simp [State.committed, apply_ite State.otp, apply_ite State.pending]
@[simp] theorem State.intakeCommit_kept (s : State) :
    (State.intakeCommit s).otp = s.otp ∧ (State.intakeCommit s).pending = s.pending := by
  unfold State.intakeCommit; dsimp only; repeat' split
  all_goals simp
@[simp] theorem State.sendHost_kept (s : State) (t : Nat) (o : HostOp) (bytes : List Byte) :
    (State.sendHost s t o bytes).otp = s.otp ∧ (State.sendHost s t o bytes).pending = s.pending := by simp [State.sendHost]
@[simp] theorem State.ledgerWrite_kept (s : State) (t : Nat) (x : ReadResult) :
    (State.ledgerWrite s t x).otp = s.otp ∧ (State.ledgerWrite s t x).pending = s.pending := by
  simp [State.ledgerWrite]; repeat' split
  all_goals simp_all
@[simp] theorem State.serveRead_kept (s : State) (t : Nat) (o : HostOp) (a : Attr) (e : Entry) (k : Nat) (f : Nat) :
    (State.serveRead s t o a e k f).otp = s.otp ∧ (State.serveRead s t o a e k f).pending = s.pending := by simp [State.serveRead]
@[simp] theorem State.serveSnap_kept (s : State) (t : Nat) (o : HostOp) (a : Attr) :
    (State.serveSnap s t o a).otp = s.otp ∧ (State.serveSnap s t o a).pending = s.pending := by simp [State.serveSnap]
@[simp] theorem State.ledgerRead_kept (s : State) (t : Nat) :
    (State.ledgerRead s t).otp = s.otp ∧ (State.ledgerRead s t).pending = s.pending := by
  unfold State.ledgerRead; dsimp only; repeat' split
  all_goals simp
@[simp] theorem State.snapRead_kept (s : State) (t : Nat) :
    (State.snapRead s t).otp = s.otp ∧ (State.snapRead s t).pending = s.pending := by
  simp [State.snapRead]; repeat' split
  all_goals simp_all
@[simp] theorem State.accErr_kept (s : State) (off : Nat) (k : Nat) :
    (State.accErr s off k).otp = s.otp ∧ (State.accErr s off k).pending = s.pending := by simp [State.accErr, apply_ite State.otp, apply_ite State.pending]
@[simp] theorem State.peek_kept (s : State) (v : W32) :
    (State.peek s v).otp = s.otp ∧ (State.peek s v).pending = s.pending := by unfold State.peek; dsimp only; split <;> simp
@[simp] theorem State.setFltRec_kept (s : State) (r : Nat) (x : FltRec) :
    (State.setFltRec s r x).otp = s.otp ∧ (State.setFltRec s r x).pending = s.pending := by simp [State.setFltRec]
@[simp] theorem State.reportFlt_kept (s : State) (r : Nat) (t : Nat) :
    (State.reportFlt s r t).otp = s.otp ∧ (State.reportFlt s r t).pending = s.pending := by unfold State.reportFlt; split <;> simp [apply_ite State.otp, apply_ite State.pending]
@[simp] theorem State.fltMram_kept (s : State) (r : Nat) :
    (State.fltMram s r).otp = s.otp ∧ (State.fltMram s r).pending = s.pending := by simp [State.fltMram]
@[simp] theorem State.notice_kept (s : State) (n : Notice) :
    (State.notice s n).otp = s.otp ∧ (State.notice s n).pending = s.pending := by simp [State.notice, apply_ite State.otp, apply_ite State.pending]
@[simp] theorem State.noticeIf_kept (s : State) (r : Nat) (b : Nat) (n : Notice) :
    (State.noticeIf s r b n).otp = s.otp ∧ (State.noticeIf s r b n).pending = s.pending := by simp [State.noticeIf, apply_ite State.otp, apply_ite State.pending]
@[simp] theorem State.recoverAt_kept (s : State) (r : Nat) :
    (State.recoverAt s r).otp = s.otp ∧ (State.recoverAt s r).pending = s.pending := by simp [State.recoverAt, apply_ite State.otp, apply_ite State.pending]
@[simp] theorem State.severe_kept (s : State) (r : Nat) (x : Raise) :
    (State.severe s r x).otp = s.otp ∧ (State.severe s r x).pending = s.pending := by simp [State.severe]
@[simp] theorem State.raiseIn_kept (s0 : State) (r : Nat) (x : Raise) :
    (State.raiseIn s0 r x).otp = s0.otp ∧ (State.raiseIn s0 r x).pending = s0.pending := by simp [State.raiseIn, apply_ite State.otp, apply_ite State.pending]
@[simp] theorem State.processRaise_kept (s : State) (x : Raise) :
    (State.processRaise s x).otp = s.otp ∧ (State.processRaise s x).pending = s.pending := by unfold State.processRaise; split <;> simp [apply_ite State.otp, apply_ite State.pending]
@[simp] theorem State.deliverDropped_kept (s : State) (d : Die) :
    (State.deliverDropped s d).otp = s.otp ∧ (State.deliverDropped s d).pending = s.pending := by simp [State.deliverDropped, apply_ite State.otp, apply_ite State.pending]
@[simp] theorem State.raisesBefore_kept (s : State) (x : Raise) :
    (State.raisesBefore s x).otp = s.otp ∧ (State.raisesBefore s x).pending = s.pending := by simp [State.raisesBefore]
@[simp] theorem State.takeRaise_kept (s : State) (x : Raise) :
    (State.takeRaise s x).otp = s.otp ∧ (State.takeRaise s x).pending = s.pending := by simp [State.takeRaise]
@[simp] theorem State.raiseFromDie_kept (s : State) (d : Die) :
    (State.raiseFromDie s d).otp = s.otp ∧ (State.raiseFromDie s d).pending = s.pending := by
  unfold State.raiseFromDie; dsimp only; repeat' split
  all_goals simp
@[simp] theorem State.raiseFromL_kept (s : State) :
    (State.raiseFromL s).otp = s.otp ∧ (State.raiseFromL s).pending = s.pending := by unfold State.raiseFromL; split <;> simp
@[simp] theorem State.raisesDue_kept (s : State) :
    (State.raisesDue s).otp = s.otp ∧ (State.raisesDue s).pending = s.pending := by simp [State.raisesDue]
@[simp] theorem State.faultClearAt_kept (s0 : State) (r : Nat) :
    (State.faultClearAt s0 r).otp = s0.otp ∧ (State.faultClearAt s0 r).pending = s0.pending := by simp [State.faultClearAt]
@[simp] theorem State.faultRead_kept (s : State) (t : Nat) :
    (State.faultRead s t).otp = s.otp ∧ (State.faultRead s t).pending = s.pending := by unfold State.faultRead; split <;> simp [apply_ite State.otp, apply_ite State.pending]
@[simp] theorem State.faultNotices_kept (s : State) (t : Nat) :
    (State.faultNotices s t).otp = s.otp ∧ (State.faultNotices s t).pending = s.pending := by unfold State.faultNotices; split <;> simp
@[simp] theorem State.faultClear_kept (s : State) (t : Nat) :
    (State.faultClear s t).otp = s.otp ∧ (State.faultClear s t).pending = s.pending := by unfold State.faultClear; split <;> simp [apply_ite State.otp, apply_ite State.pending]
@[simp] theorem State.faultInject_kept (s : State) (t : Nat) :
    (State.faultInject s t).otp = s.otp ∧ (State.faultInject s t).pending = s.pending := by unfold State.faultInject; split <;> simp [apply_ite State.otp, apply_ite State.pending]
@[simp] theorem State.fltRestart_kept (s : State) (r : Nat) :
    (State.fltRestart s r).otp = s.otp ∧ (State.fltRestart s r).pending = s.pending := by simp [State.fltRestart]
@[simp] theorem State.fltBoot_kept (s : State) :
    (State.fltBoot s).otp = s.otp ∧ (State.fltBoot s).pending = s.pending := by simp [State.fltBoot]
@[simp] theorem State.fltReset_kept (s : State) (r : Nat) :
    (State.fltReset s r).otp = s.otp ∧ (State.fltReset s r).pending = s.pending := by simp [State.fltReset]
@[simp] theorem State.rebaseBlobs_kept (s : State) (old : Tables) :
    (State.rebaseBlobs s old).otp = s.otp ∧ (State.rebaseBlobs s old).pending = s.pending := by simp [State.rebaseBlobs]
@[simp] theorem State.showPrograms_kept (s : State) :
    (State.showPrograms s).otp = s.otp ∧ (State.showPrograms s).pending = s.pending := by simp [State.showPrograms]
@[simp] theorem State.commitFaults_kept (s : State) (o : State) :
    (State.commitFaults s o).otp = s.otp ∧ (State.commitFaults s o).pending = s.pending := by simp [State.commitFaults, apply_ite State.otp, apply_ite State.pending]
@[simp] theorem State.commitCan_kept (o : State) (s : State) (c : Nat) :
    (State.commitCan o s c).otp = s.otp ∧ (State.commitCan o s c).pending = s.pending := by simp [State.commitCan, apply_ite State.otp, apply_ite State.pending]
@[simp] theorem State.commitLin_kept (o : State) (s : State) (n : Nat) :
    (State.commitLin o s n).otp = s.otp ∧ (State.commitLin o s n).pending = s.pending := by simp [State.commitLin, apply_ite State.otp, apply_ite State.pending]
@[simp] theorem State.commitEth_kept (o : State) (s : State) (p : Nat) :
    (State.commitEth o s p).otp = s.otp ∧ (State.commitEth o s p).pending = s.pending := by simp [State.commitEth, apply_ite State.otp, apply_ite State.pending]
@[simp] theorem State.commitCry_kept (o : State) (s : State) :
    (State.commitCry o s).otp = s.otp ∧ (State.commitCry o s).pending = s.pending := by simp [State.commitCry, apply_ite State.otp, apply_ite State.pending]
@[simp] theorem State.commitAcc_kept (o : State) (s : State) :
    (State.commitAcc o s).otp = s.otp ∧ (State.commitAcc o s).pending = s.pending := by simp [State.commitAcc, apply_ite State.otp, apply_ite State.pending]
@[simp] theorem State.commitUnitsL_kept (s : State) (o : State) :
    (State.commitUnitsL s o).otp = s.otp ∧ (State.commitUnitsL s o).pending = s.pending := by simp [State.commitUnitsL]
@[simp] theorem State.anchorHere_kept (s : State) :
    (State.anchorHere s).otp = s.otp ∧ (State.anchorHere s).pending = s.pending := by simp [State.anchorHere]
@[simp] theorem State.newT0_kept (s : State) (o : State) (b : Nat) :
    (State.newT0 s o b).otp = s.otp ∧ (State.newT0 s o b).pending = s.pending := by simp [State.newT0]
@[simp] theorem State.lanternFrom_kept (s : State) (o : State) :
    (State.lanternFrom s o).otp = s.otp ∧ (State.lanternFrom s o).pending = s.pending := by simp [State.lanternFrom, apply_ite State.otp, apply_ite State.pending]
@[simp] theorem State.loadImage_kept (s : State) (regs : SMap W32) (img : Tables) :
    (State.loadImage s regs img).otp = s.otp ∧ (State.loadImage s regs img).pending = s.pending := by simp [State.loadImage, apply_ite State.otp, apply_ite State.pending]
@[simp] theorem State.swapDone_kept (s : State) (op : CfgOp) (oldVersion : Nat) (b : Nat) :
    (State.swapDone s op oldVersion b).otp = s.otp ∧ (State.swapDone s op oldVersion b).pending = s.pending := by simp [State.swapDone]
@[simp] theorem State.activate_kept (s : State) (op : CfgOp) (b : Nat) :
    (State.activate s op b).otp = s.otp ∧ (State.activate s op b).pending = s.pending := by simp [State.activate]
@[simp] theorem State.setEvSlot_kept (s : State) (k : Nat) (r : EvRec) :
    (State.setEvSlot s k r).otp = s.otp ∧ (State.setEvSlot s k r).pending = s.pending := by simp [State.setEvSlot]
@[simp] theorem State.raiseCeil_kept (s : State) :
    (State.raiseCeil s).otp = s.otp ∧ (State.raiseCeil s).pending = s.pending := by simp [State.raiseCeil, apply_ite State.otp, apply_ite State.pending]
@[simp] theorem State.showOldest_kept (s : State) :
    (State.showOldest s).otp = s.otp ∧ (State.showOldest s).pending = s.pending := by simp [State.showOldest]
@[simp] theorem State.newRecord_kept (s : State) (e : Evt) :
    (State.newRecord s e).otp = s.otp ∧ (State.newRecord s e).pending = s.pending := by simp [State.newRecord]
@[simp] theorem State.commitEvent_kept (s : State) (e : Evt) :
    (State.commitEvent s e).otp = s.otp ∧ (State.commitEvent s e).pending = s.pending := by unfold State.commitEvent; split <;> simp [apply_ite State.otp, apply_ite State.pending]
@[simp] theorem State.eventRecord_kept (s : State) :
    (State.eventRecord s).otp = s.otp ∧ (State.eventRecord s).pending = s.pending := by
  unfold State.eventRecord; dsimp only; repeat' split
  all_goals simp
@[simp] theorem State.repeatWriteback_kept (s : State) (n : Nat) :
    (State.repeatWriteback s n).otp = s.otp ∧ (State.repeatWriteback s n).pending = s.pending := by simp [State.repeatWriteback, apply_ite State.otp, apply_ite State.pending]
@[simp] theorem State.opsecCeil_kept (s : State) :
    (State.opsecCeil s).otp = s.otp ∧ (State.opsecCeil s).pending = s.pending := by simp [State.opsecCeil, apply_ite State.otp, apply_ite State.pending]
@[simp] theorem State.opsecTick_kept (s : State) :
    (State.opsecTick s).otp = s.otp ∧ (State.opsecTick s).pending = s.pending := by simp [State.opsecTick, apply_ite State.otp, apply_ite State.pending]
@[simp] theorem State.evrBoot_kept (s : State) :
    (State.evrBoot s).otp = s.otp ∧ (State.evrBoot s).pending = s.pending := by simp [State.evrBoot]
@[simp] theorem State.evrEpoch_kept (s : State) :
    (State.evrEpoch s).otp = s.otp ∧ (State.evrEpoch s).pending = s.pending := by simp [State.evrEpoch]
@[simp] theorem State.replay_kept (s : State) :
    (State.replay s).otp = s.otp ∧ (State.replay s).pending = s.pending := by simp [State.replay, apply_ite State.otp, apply_ite State.pending]
@[simp] theorem State.evrPark_kept (s : State) :
    (State.evrPark s).otp = s.otp ∧ (State.evrPark s).pending = s.pending := by simp [State.evrPark]
@[simp] theorem State.evrRead_kept (s : State) (t : Nat) :
    (State.evrRead s t).otp = s.otp ∧ (State.evrRead s t).pending = s.pending := by unfold State.evrRead; split <;> simp [apply_ite State.otp, apply_ite State.pending]
@[simp] theorem State.evrMark_kept (s : State) (t : Nat) :
    (State.evrMark s t).otp = s.otp ∧ (State.evrMark s t).pending = s.pending := by unfold State.evrMark; split <;> simp [apply_ite State.otp, apply_ite State.pending]
@[simp] theorem State.evrClear_kept (s : State) (t : Nat) :
    (State.evrClear s t).otp = s.otp ∧ (State.evrClear s t).pending = s.pending := by unfold State.evrClear; split <;> simp [apply_ite State.otp, apply_ite State.pending]
@[simp] theorem State.powerGo_kept (s : State) (st : Nat) (t : Nat) :
    (State.powerGo s st t).otp = s.otp ∧ (State.powerGo s st t).pending = s.pending := by simp [State.powerGo, apply_ite State.otp, apply_ite State.pending]
@[simp] theorem State.voteHost_kept (s : State) (park : Bool) :
    (State.voteHost s park).otp = s.otp ∧ (State.voteHost s park).pending = s.pending := by simp [State.voteHost]
@[simp] theorem State.pwrVote_kept (s : State) (t : Nat) :
    (State.pwrVote s t).otp = s.otp ∧ (State.pwrVote s t).pending = s.pending := by unfold State.pwrVote; split <;> simp [apply_ite State.otp, apply_ite State.pending]
@[simp] theorem State.pwrTimer_kept (s : State) (t : Nat) :
    (State.pwrTimer s t).otp = s.otp ∧ (State.pwrTimer s t).pending = s.pending := by unfold State.pwrTimer; split <;> simp
@[simp] theorem State.showVote_kept (s : State) :
    (State.showVote s).otp = s.otp ∧ (State.showVote s).pending = s.pending := by simp [State.showVote]
@[simp] theorem State.sleepDie_kept (s : State) (d : Die) :
    (State.sleepDie s d).otp = s.otp ∧ (State.sleepDie s d).pending = s.pending := by simp [State.sleepDie, apply_ite State.otp, apply_ite State.pending]
@[simp] theorem State.sleepAll_kept (s : State) :
    (State.sleepAll s).otp = s.otp ∧ (State.sleepAll s).pending = s.pending := by simp [State.sleepAll]
@[simp] theorem State.limpEntry_kept (s : State) (d : Die) :
    (State.limpEntry s d).otp = s.otp ∧ (State.limpEntry s d).pending = s.pending := by simp [State.limpEntry, apply_ite State.otp, apply_ite State.pending]
@[simp] theorem State.limpLeft_kept (s : State) (t : Nat) :
    (State.limpLeft s t).otp = s.otp ∧ (State.limpLeft s t).pending = s.pending := by simp [State.limpLeft, apply_ite State.otp, apply_ite State.pending]
@[simp] theorem State.busesCut_kept (s : State) :
    (State.busesCut s).otp = s.otp ∧ (State.busesCut s).pending = s.pending := by simp [State.busesCut]
@[simp] theorem State.parkOp_kept (s : State) (t : Nat) (o : HostOp) :
    (State.parkOp s t o).otp = s.otp ∧ (State.parkOp s t o).pending = s.pending := by simp [State.parkOp, apply_ite State.otp, apply_ite State.pending]
@[simp] theorem State.flushEvents_kept (s : State) :
    (State.flushEvents s).otp = s.otp ∧ (State.flushEvents s).pending = s.pending := by simp [State.flushEvents]
@[simp] theorem State.parkL_kept (s : State) (b : Nat) :
    (State.parkL s b).otp = s.otp ∧ (State.parkL s b).pending = s.pending := by simp [State.parkL, apply_ite State.otp, apply_ite State.pending]
@[simp] theorem State.lastBoundary_kept (s : State) (b : Nat) (forced : Bool) :
    (State.lastBoundary s b forced).otp = s.otp ∧ (State.lastBoundary s b forced).pending = s.pending := by simp [State.lastBoundary]
@[simp] theorem State.shutdownTimeout_kept (s : State) :
    (State.shutdownTimeout s).otp = s.otp ∧ (State.shutdownTimeout s).pending = s.pending := by simp [State.shutdownTimeout, apply_ite State.otp, apply_ite State.pending]
@[simp] theorem State.voteBoundary_kept (s : State) (b : Nat) :
    (State.voteBoundary s b).otp = s.otp ∧ (State.voteBoundary s b).pending = s.pending := by simp [State.voteBoundary, apply_ite State.otp, apply_ite State.pending]

end Sys2Proof.Machine
end

