-- ==== Sys2Proof/Laws/KeptFrames.lean ====
section
/-! SUPPORT. What the operations of the frame cycle leave alone: the one-time-programmable counts and the queue of commands. -/

namespace Sys2Proof.Machine

@[simp] theorem State.runFaults_kept (s : State) (t : Nat) :
    (State.runFaults s t).otp = s.otp ∧ (State.runFaults s t).pending = s.pending := by simp [State.runFaults, apply_ite State.otp, apply_ite State.pending]
@[simp] theorem State.enterRun_kept (s : State) (t : Nat) :
    (State.enterRun s t).otp = s.otp ∧ (State.enterRun s t).pending = s.pending := by simp [State.enterRun, apply_ite State.otp, apply_ite State.pending]
@[simp] theorem State.frameBreaks_kept (s : State) (b : Nat) :
    (State.frameBreaks s b).otp = s.otp ∧ (State.frameBreaks s b).pending = s.pending := by simp [State.frameBreaks, apply_ite State.otp, apply_ite State.pending]
@[simp] theorem State.beginFrame_kept (s : State) (b : Nat) (f : Nat) :
    (State.beginFrame s b f).otp = s.otp ∧ (State.beginFrame s b f).pending = s.pending := by simp [State.beginFrame]
@[simp] theorem State.noAnchor_kept (s : State) :
    (State.noAnchor s).otp = s.otp ∧ (State.noAnchor s).pending = s.pending := by simp [State.noAnchor]
@[simp] theorem State.frameZero_kept (s : State) (b : Nat) :
    (State.frameZero s b).otp = s.otp ∧ (State.frameZero s b).pending = s.pending := by simp [State.frameZero, apply_ite State.otp, apply_ite State.pending]
@[simp] theorem State.frameZeroStart_kept (s : State) :
    (State.frameZeroStart s).otp = s.otp ∧ (State.frameZeroStart s).pending = s.pending := by simp [State.frameZeroStart, apply_ite State.otp, apply_ite State.pending]
@[simp] theorem State.frameDone_kept (s : State) :
    (State.frameDone s).otp = s.otp ∧ (State.frameDone s).pending = s.pending := by simp [State.frameDone, apply_ite State.otp, apply_ite State.pending]
@[simp] theorem State.stagedCommit_kept (b : Nat) (s : State) (x : Nat × W64 × Nat × List Byte) :
    (State.stagedCommit b s x).otp = s.otp ∧ (State.stagedCommit b s x).pending = s.pending := by simp [State.stagedCommit]
@[simp] theorem State.commitStagedAll_kept (s : State) (b : Nat) :
    (State.commitStagedAll s b).otp = s.otp ∧ (State.commitStagedAll s b).pending = s.pending := by unfold State.commitStagedAll; split <;> simp
@[simp] theorem State.activateDue_kept (s : State) (b : Nat) : (s.activateDue b).2.otp = s.otp ∧ (s.activateDue b).2.pending = s.pending := by
  unfold State.activateDue; repeat' split
  all_goals simp
@[simp] theorem State.nextFrame_kept (s : State) (b : Nat) :
    (State.nextFrame s b).otp = s.otp ∧ (State.nextFrame s b).pending = s.pending := by simp [State.nextFrame]
@[simp] theorem State.endFrames_kept (s : State) (b : Nat) :
    (State.endFrames s b).otp = s.otp ∧ (State.endFrames s b).pending = s.pending := by simp [State.endFrames]
@[simp] theorem State.frameBoundary_kept (s : State) :
    (State.frameBoundary s).otp = s.otp ∧ (State.frameBoundary s).pending = s.pending := by simp [State.frameBoundary, apply_ite State.otp, apply_ite State.pending]
@[simp] theorem State.encSend_kept (s : State) (k : Nat) (r : EncRec) (p : TxPdu) (byChange : Bool) :
    (State.encSend s k r p byChange).otp = s.otp ∧ (State.encSend s k r p byChange).pending = s.pending := by unfold State.encSend; split <;> simp
@[simp] theorem State.encStep_kept (s : State) (x : EncRec × Nat) :
    (State.encStep s x).otp = s.otp ∧ (State.encStep s x).pending = s.pending := by
  unfold State.encStep; dsimp only
  have hk := State.buildRec_kept s x.2 x.1
  split
  · split
    · rename_i h; rw [h] at hk; simpa using hk
    · rename_i h; rw [h] at hk; simp at hk; simp [hk]
  · simp
@[simp] theorem State.takeSnap_kept (s : State) :
    (State.takeSnap s).otp = s.otp ∧ (State.takeSnap s).pending = s.pending := by
  unfold State.takeSnap; dsimp only
  refine foldl_kept _ (fun s x => ?_) _ _; (try dsimp only); repeat' split
  all_goals simp
@[simp] theorem State.snapshotSeal_kept (s : State) (ready : List Bool) :
    (State.snapshotSeal s ready).otp = s.otp ∧ (State.snapshotSeal s ready).pending = s.pending := by simp [State.snapshotSeal, apply_ite State.otp, apply_ite State.pending]
@[simp] theorem State.setBankSt_kept (s : State) (k : Nat) (st : Nat) :
    (State.setBankSt s k st).otp = s.otp ∧ (State.setBankSt s k st).pending = s.pending := by simp [State.setBankSt]
@[simp] theorem State.selectBank_kept (s : State) (op : CfgOp) :
    (State.selectBank s op).otp = s.otp ∧ (State.selectBank s op).pending = s.pending := by simp [State.selectBank, apply_ite State.otp, apply_ite State.pending]
@[simp] theorem State.selectDue_kept (s : State) : (s.selectDue).2.otp = s.otp ∧ (s.selectDue).2.pending = s.pending := by
  unfold State.selectDue; repeat' split
  all_goals simp
@[simp] theorem State.closeDie_kept (b : Nat) (act : Bool) (park : Bool) (s : State) (d : Die) :
    (State.closeDie b act park s d).otp = s.otp ∧ (State.closeDie b act park s d).pending = s.pending := by simp [State.closeDie, apply_ite State.otp, apply_ite State.pending]
@[simp] theorem State.stagingClose_kept (s : State) :
    (State.stagingClose s).otp = s.otp ∧ (State.stagingClose s).pending = s.pending := by simp [State.stagingClose, apply_ite State.otp, apply_ite State.pending]
@[simp] theorem State.downLate_kept (s : State) (d : Die) (b : Nat) :
    (State.downLate s d b).otp = s.otp ∧ (State.downLate s d b).pending = s.pending := by simp [State.downLate, apply_ite State.otp, apply_ite State.pending]
@[simp] theorem State.holdWrite_kept (s : State) (d : Die) (w : DieWrite) (b : Nat) :
    (State.holdWrite s d w b).otp = s.otp ∧ (State.holdWrite s d w b).pending = s.pending := by simp [State.holdWrite]
@[simp] theorem State.stagedArrives_kept (s : State) (d : Die) :
    (State.stagedArrives s d).otp = s.otp ∧ (State.stagedArrives s d).pending = s.pending := by
  unfold State.stagedArrives; split
  · rename_i h; have := State.popDown_kept _ _ _ _ h
    (try dsimp only); repeat' split
    all_goals simp [this]
  · simp
@[simp] theorem State.closeLate_kept (s : State) (d : Die) (c : CloseMsg) :
    (State.closeLate s d c).otp = s.otp ∧ (State.closeLate s d c).pending = s.pending := by simp [State.closeLate]
@[simp] theorem State.closeArrives_kept (s : State) (d : Die) :
    (State.closeArrives s d).otp = s.otp ∧ (State.closeArrives s d).pending = s.pending := by
  unfold State.closeArrives; split
  · rename_i h; have := State.popDown_kept _ _ _ _ h
    (try dsimp only); repeat' split
    all_goals simp [this]
  · simp
@[simp] theorem State.applyWrites_kept (s : State) (ws : List DieWrite) (t : Nat) :
    (State.applyWrites s ws t).otp = s.otp ∧ (State.applyWrites s ws t).pending = s.pending := by simp [State.applyWrites]
@[simp] theorem State.leaveLimp_kept (s : State) (d : Die) (t : Nat) :
    (State.leaveLimp s d t).otp = s.otp ∧ (State.leaveLimp s d t).pending = s.pending := by simp [State.leaveLimp, apply_ite State.otp, apply_ite State.pending]
@[simp] theorem State.applyLate_kept (s : State) (d : Die) (t : Nat) :
    (State.applyLate s d t).otp = s.otp ∧ (State.applyLate s d t).pending = s.pending := by simp [State.applyLate]
@[simp] theorem State.applyOwn_kept (s : State) (d : Die) (c : CloseMsg) :
    (State.applyOwn s d c).otp = s.otp ∧ (State.applyOwn s d c).pending = s.pending := by simp [State.applyOwn, apply_ite State.otp, apply_ite State.pending]
@[simp] theorem State.takePending_kept (s : State) (d : Die) (t : Nat) :
    (State.takePending s d t).otp = s.otp ∧ (State.takePending s d t).pending = s.pending := by unfold State.takePending; split <;> simp
@[simp] theorem State.lateActBreak_kept (s : State) (b0 : Nat) (t : Nat) :
    (State.lateActBreak s b0 t).otp = s.otp ∧ (State.lateActBreak s b0 t).pending = s.pending := by simp [State.lateActBreak]
@[simp] theorem State.paramsAt_kept (s : State) (d : Die) (act : Bool) (t : Nat) :
    (State.paramsAt s d act t).otp = s.otp ∧ (State.paramsAt s d act t).pending = s.pending := by unfold State.paramsAt; split <;> simp [apply_ite State.otp, apply_ite State.pending]
@[simp] theorem State.slotMotor_kept (s : State) (o : Motor) (m : Nat) (k : Nat) :
    (State.slotMotor s o m k).otp = s.otp ∧ (State.slotMotor s o m k).pending = s.pending := by simp [State.slotMotor]
@[simp] theorem State.edgeSlots_kept (s : State) (o : State) (d : Die) (t : Nat) :
    (State.edgeSlots s o d t).otp = s.otp ∧ (State.edgeSlots s o d t).pending = s.pending := by simp [State.edgeSlots]
@[simp] theorem State.seqsGo_kept (s : State) (d : Die) :
    (State.seqsGo s d).otp = s.otp ∧ (State.seqsGo s d).pending = s.pending := by unfold State.seqsGo; split <;> simp
@[simp] theorem State.parkUnits_kept (s : State) (d : Die) (t : Nat) :
    (State.parkUnits s d t).otp = s.otp ∧ (State.parkUnits s d t).pending = s.pending := by unfold State.parkUnits; split <;> simp [apply_ite State.otp, apply_ite State.pending]
@[simp] theorem State.boundaryReached_kept (s : State) (d : Die) (c : CloseMsg) :
    (State.boundaryReached s d c).otp = s.otp ∧ (State.boundaryReached s d c).pending = s.pending := by simp [State.boundaryReached]
@[simp] theorem State.pholdAll_kept (s : State) (d : Die) (t : Nat) :
    (State.pholdAll s d t).otp = s.otp ∧ (State.pholdAll s d t).pending = s.pending := by simp [State.pholdAll]
@[simp] theorem State.boundaryAwake_kept (s : State) (d : Die) (c : CloseMsg) :
    (State.boundaryAwake s d c).otp = s.otp ∧ (State.boundaryAwake s d c).pending = s.pending := by simp [State.boundaryAwake, apply_ite State.otp, apply_ite State.pending]
@[simp] theorem State.activateOnly_kept (s : State) (d : Die) (c : CloseMsg) :
    (State.activateOnly s d c).otp = s.otp ∧ (State.activateOnly s d c).pending = s.pending := by simp [State.activateOnly, apply_ite State.otp, apply_ite State.pending]
@[simp] theorem State.dieBoundary_kept (s : State) (d : Die) :
    (State.dieBoundary s d).otp = s.otp ∧ (State.dieBoundary s d).pending = s.pending := by unfold State.dieBoundary; split <;> simp [apply_ite State.otp, apply_ite State.pending]
@[simp] theorem State.candidate_kept (s : State) (regs : SMap W32) (t : Tables) :
    (State.candidate s regs t).otp = s.otp ∧ (State.candidate s regs t).pending = s.pending := by simp [State.candidate]
@[simp] theorem State.setNodes_kept (s : State) (d : Die) (tc : Nat → Rat) (tb : Nat → Rat) :
    (State.setNodes s d tc tb).otp = s.otp ∧ (State.setNodes s d tc tb).pending = s.pending := by simp [State.setNodes]
@[simp] theorem State.startNodes_kept (s : State) (d : Die) :
    (State.startNodes s d).otp = s.otp ∧ (State.startNodes s d).pending = s.pending := by simp [State.startNodes, apply_ite State.otp, apply_ite State.pending]
@[simp] theorem State.prevWord_kept (s : State) (w : DieWrite) :
    (State.prevWord s w).otp = s.otp ∧ (State.prevWord s w).pending = s.pending := by unfold State.prevWord; split <;> simp
@[simp] theorem State.wordsAgain_kept (s : State) (d : Die) :
    (State.wordsAgain s d).otp = s.otp ∧ (State.wordsAgain s d).pending = s.pending := by simp [State.wordsAgain]
@[simp] theorem State.dieBegins_kept (s : State) (d : Die) (regs : SMap W32) (t : Nat) :
    (State.dieBegins s d regs t).otp = s.otp ∧ (State.dieBegins s d regs t).pending = s.pending := by simp [State.dieBegins]
@[simp] theorem State.takeParams_kept (s : State) (d : Die) (regs : SMap W32) :
    (State.takeParams s d regs).otp = s.otp ∧ (State.takeParams s d regs).pending = s.pending := by simp [State.takeParams, apply_ite State.otp, apply_ite State.pending]

end Sys2Proof.Machine
end

