-- ==== Sys2Proof/Laws/KeptBanks.lean ====
section
/-! SUPPORT. What the operations of the configuration banks and the register bus leave alone: the one-time-programmable counts and the queue of commands. -/

namespace Sys2Proof.Machine

open Sys2Proof.Safety

@[simp] theorem State.setBankStep_kept (s : State) (k : Nat) (n : Nat) :
    (State.setBankStep s k n).otp = s.otp ∧ (State.setBankStep s k n).pending = s.pending := by simp [State.setBankStep]
@[simp] theorem State.bankBlank_kept (s : State) (k : Nat) :
    (State.bankBlank s k).otp = s.otp ∧ (State.bankBlank s k).pending = s.pending := by simp [State.bankBlank]
@[simp] theorem State.bankShow_kept (s : State) (k : Nat) :
    (State.bankShow s k).otp = s.otp ∧ (State.bankShow s k).pending = s.pending := by simp [State.bankShow]
@[simp] theorem State.bankInvalid_kept (s : State) (k : Nat) :
    (State.bankInvalid s k).otp = s.otp ∧ (State.bankInvalid s k).pending = s.pending := by simp [State.bankInvalid]
@[simp] theorem State.setBankBytes_kept (s : State) (k : Nat) (m : SMap Byte) :
    (State.setBankBytes s k m).otp = s.otp ∧ (State.setBankBytes s k m).pending = s.pending := by simp [State.setBankBytes]
@[simp] theorem State.cfgLast_kept (s : State) (status : Nat) (reason : Nat) (step : Nat) (opc : Nat) :
    (State.cfgLast s status reason step opc).otp = s.otp ∧ (State.cfgLast s status reason step opc).pending = s.pending := by simp [State.cfgLast]
@[simp] theorem State.cfgDone_kept (s : State) (t : Nat) (opc : Nat) (status : Nat) (reason : Nat) (step : Nat) :
    (State.cfgDone s t opc status reason step).otp = s.otp ∧ (State.cfgDone s t opc status reason step).pending = s.pending := by simp [State.cfgDone]
theorem State.cfgOp_kept (s : State) (t opc : Nat) (good : Bool) (own : Option (Nat × Nat)) (f : State) (hf : f.otp = s.otp ∧ f.pending = s.pending) :
    (s.cfgOp t opc good own f).otp = s.otp ∧ (s.cfgOp t opc good own f).pending = s.pending := by
  unfold State.cfgOp; repeat' split
  all_goals simp [hf]
@[simp] theorem State.cfgStore_kept (s : State) (t : Nat) (off : Nat) (bs : List Byte) :
    (State.cfgStore s t off bs).otp = s.otp ∧ (State.cfgStore s t off bs).pending = s.pending := by simp [State.cfgStore]
@[simp] theorem State.cfgWrite_kept (s : State) (t : Nat) (x : ReadResult) :
    (s.cfgWrite t x).otp = s.otp ∧ (s.cfgWrite t x).pending = s.pending := by
  unfold State.cfgWrite; split
  · simp
  · refine State.cfgOp_kept _ _ _ _ _ _ ?_; split <;> simp
@[simp] theorem State.cfgFail_kept (s : State) (opc : Nat) (k : Nat) (step : Nat) (status : Nat) (reason : Nat) :
    (State.cfgFail s opc k step status reason).otp = s.otp ∧ (State.cfgFail s opc k step status reason).pending = s.pending := by simp [State.cfgFail, apply_ite State.otp, apply_ite State.pending]
@[simp] theorem State.sendParams_kept (regs : SMap W32) (img : Tables) (s : State) (d : Die) :
    (State.sendParams regs img s d).otp = s.otp ∧ (State.sendParams regs img s d).pending = s.pending := by simp [State.sendParams, apply_ite State.otp, apply_ite State.pending]
@[simp] theorem State.startSwap_kept (s : State) (t : Nat) (opc : Nat) (k : Nat) (force : Bool) (regs : SMap W32) (img : Tables) :
    (State.startSwap s t opc k force regs img).otp = s.otp ∧ (State.startSwap s t opc k force regs img).pending = s.pending := by simp [State.startSwap, apply_ite State.otp, apply_ite State.pending]
@[simp] theorem State.runCommit_kept (s : State) (t : Nat) (opc : Nat) (k : Nat) (force : Bool) (bad : Option (Nat × Nat × Nat)) :
    (State.runCommit s t opc k force bad).otp = s.otp ∧ (State.runCommit s t opc k force bad).pending = s.pending := by unfold State.runCommit; split <;> simp
@[simp] theorem State.cfgCommit_kept (s : State) (t : Nat) : (s.cfgCommit t).otp = s.otp ∧ (s.cfgCommit t).pending = s.pending := by
  unfold State.cfgCommit; split
  · simp
  · exact State.cfgOp_kept _ _ _ _ _ _ (by simp)
@[simp] theorem State.cfgRollback_kept (s : State) (t : Nat) : (s.cfgRollback t).otp = s.otp ∧ (s.cfgRollback t).pending = s.pending := by
  unfold State.cfgRollback; split
  · simp
  · exact State.cfgOp_kept _ _ _ _ _ _ (by simp)
@[simp] theorem State.swapTimeout_kept (s : State) :
    (State.swapTimeout s).otp = s.otp ∧ (State.swapTimeout s).pending = s.pending := by unfold State.swapTimeout; split <;> simp [apply_ite State.otp, apply_ite State.pending]
@[simp] theorem State.ack_kept (s : State) (d : Die) (swap : Bool) :
    (State.ack s d swap).otp = s.otp ∧ (State.ack s d swap).pending = s.pending := by simp [State.ack]
@[simp] theorem State.dieParamsReceived_kept (s : State) (d : Die) :
    (State.dieParamsReceived s d).otp = s.otp ∧ (State.dieParamsReceived s d).pending = s.pending := by
  unfold State.dieParamsReceived; split
  · rename_i h; have := State.popDown_kept _ _ _ _ h
    (try dsimp only); repeat' split
    all_goals simp [this]
  · simp
@[simp] theorem State.dieParamAck_kept (s : State) (d : Die) :
    (State.dieParamAck s d).otp = s.otp ∧ (State.dieParamAck s d).pending = s.pending := by unfold State.dieParamAck; split <;> simp [apply_ite State.otp, apply_ite State.pending]
@[simp] theorem State.cfgStatus_kept (s : State) (t : Nat) :
    (State.cfgStatus s t).otp = s.otp ∧ (State.cfgStatus s t).pending = s.pending := by unfold State.cfgStatus; split <;> simp
@[simp] theorem State.testMode_kept (s : State) (t : Nat) :
    (State.testMode s t).otp = s.otp ∧ (State.testMode s t).pending = s.pending := by unfold State.testMode; split <;> simp [apply_ite State.otp, apply_ite State.pending]
@[simp] theorem State.bankInterrupted_kept (s : State) (k : Nat) :
    (State.bankInterrupted s k).otp = s.otp ∧ (State.bankInterrupted s k).pending = s.pending := by simp [State.bankInterrupted, apply_ite State.otp, apply_ite State.pending]
@[simp] theorem State.bankCheck_kept (s : State) :
    (State.bankCheck s).otp = s.otp ∧ (State.bankCheck s).pending = s.pending := by simp [State.bankCheck, apply_ite State.otp, apply_ite State.pending]
@[simp] theorem State.banksBoot_kept (s : State) :
    (State.banksBoot s).otp = s.otp ∧ (State.banksBoot s).pending = s.pending := by simp [State.banksBoot]
@[simp] theorem State.imageTakes_kept (s : State) (off : Nat) (v : W32) :
    (State.imageTakes s off v).otp = s.otp ∧ (State.imageTakes s off v).pending = s.pending := by simp [State.imageTakes]
@[simp] theorem State.writeRwl_kept (s0 : State) (off : Nat) (v : W32) :
    (State.writeRwl s0 off v).otp = s0.otp ∧ (State.writeRwl s0 off v).pending = s0.pending := by unfold State.writeRwl; split <;> simp [apply_ite State.otp, apply_ite State.pending]
@[simp] theorem State.writeFields_kept (s : State) (off : Nat) (r : RegRow) (v : W32) :
    (State.writeFields s off r v).otp = s.otp ∧ (State.writeFields s off r v).pending = s.pending := by simp [State.writeFields]
@[simp] theorem State.writeLocked_kept (s : State) (off : Nat) (r : RegRow) (v : W32) :
    (State.writeLocked s off r v).otp = s.otp ∧ (State.writeLocked s off r v).pending = s.pending := by simp [State.writeLocked, apply_ite State.otp, apply_ite State.pending]
theorem State.writeUnitCtl_kept (s : State) (off v : Nat) (t : State) (h : s.writeUnitCtl off v = some t) : t.otp = s.otp ∧ t.pending = s.pending := by
  unfold State.writeUnitCtl at h
  repeat' split at h
  all_goals first
    | (cases h; done)
    | (cases h; simp)
theorem State.writeBusCtl_kept (s : State) (off v : Nat) (t : State) (h : s.writeBusCtl off v = some t) : t.otp = s.otp ∧ t.pending = s.pending := by
  have a1 : ∀ (n : Nat) (s : State), (afterCmd s (execCanCtlRecover n s)).otp = s.otp ∧ (afterCmd s (execCanCtlRecover n s)).pending = s.pending := by intro n s; simp [afterCmd, execCanCtlRecover]
  have a2 : ∀ (n : Nat) (s : State), (afterCmd s (execCanCtlRestrSet n s)).otp = s.otp ∧ (afterCmd s (execCanCtlRestrSet n s)).pending = s.pending := by intro n s; simp [afterCmd, execCanCtlRestrSet, apply_ite State.otp, apply_ite State.pending]
  have a3 : ∀ (n : Nat) (s : State), (afterCmd s (execCanCtlRestrClear n s)).otp = s.otp ∧ (afterCmd s (execCanCtlRestrClear n s)).pending = s.pending := by intro n s; simp [afterCmd, execCanCtlRestrClear, apply_ite State.otp, apply_ite State.pending]
  have a4 : ∀ (n k : Nat) (s : State), (afterCmd s (execLinCtlSreq n k s)).otp = s.otp ∧ (afterCmd s (execLinCtlSreq n k s)).pending = s.pending := by intro n k s; simp [afterCmd, execLinCtlSreq, apply_ite State.otp, apply_ite State.pending]
  have a5 : ∀ (n : Nat) (s : State), (afterCmd s (execLinCtlSleep n s)).otp = s.otp ∧ (afterCmd s (execLinCtlSleep n s)).pending = s.pending := by intro n s; simp [afterCmd, execLinCtlSleep, apply_ite State.otp, apply_ite State.pending]
  have a6 : ∀ (n : Nat) (s : State), (afterCmd s (execLinCtlWake n s)).otp = s.otp ∧ (afterCmd s (execLinCtlWake n s)).pending = s.pending := by intro n s; simp [afterCmd, execLinCtlWake, apply_ite State.otp, apply_ite State.pending]
  unfold State.writeBusCtl at h; dsimp only at h
  split at h
  · replace h := Option.some.inj h; subst h; repeat' split
    all_goals simp [a1, a2, a3]
  · split at h
    · replace h := Option.some.inj h; subst h; repeat' split
      all_goals simp [a4, a5, a6]
    · cases h
theorem State.writeOwn_kept (s : State) (off v : Nat) (t : State) (h : s.writeOwn off v = some t) : t.otp = s.otp ∧ t.pending = s.pending := by
  unfold State.writeOwn at h
  split at h
  · cases h; repeat' split
    all_goals simp
  · cases h; simp
  · cases h; repeat' split
    all_goals simp
  · cases h; split <;> simp
  · cases h; split <;> simp [afterCmd, execFltCtlClr, apply_ite State.otp, apply_ite State.pending]
  · split at h
    · cases h; exact State.writeUnitCtl_kept _ _ _ _ (by assumption)
    · exact State.writeBusCtl_kept _ _ _ _ h
@[simp] theorem State.holdLowWord_kept (s : State) (off : Nat) (v : W32) :
    (State.holdLowWord s off v).otp = s.otp ∧ (State.holdLowWord s off v).pending = s.pending := by simp [State.holdLowWord]
@[simp] theorem State.writeHigh_kept (s : State) (off : Nat) (v : W32) :
    (State.writeHigh s off v).otp = s.otp ∧ (State.writeHigh s off v).pending = s.pending := by simp [State.writeHigh]
@[simp] theorem State.writeReg_kept (s : State) (off : Nat) (v : W32) :
    (State.writeReg s off v).otp = s.otp ∧ (State.writeReg s off v).pending = s.pending := by
  unfold State.writeReg; split
  · simp
  · split
    · exact State.writeOwn_kept _ _ _ _ (by assumption)
    · repeat' split
      all_goals simp
@[simp] theorem State.busWrite_kept (s : State) (off : Nat) (size : Nat) (v : W32) :
    (State.busWrite s off size v).otp = s.otp ∧ (State.busWrite s off size v).pending = s.pending := by
  simp [State.busWrite, apply_ite State.otp, apply_ite State.pending]; repeat' split
  all_goals simp_all
@[simp] theorem State.latchHigh_kept (s : State) (off : Nat) :
    (State.latchHigh s off).otp = s.otp ∧ (State.latchHigh s off).pending = s.pending := by simp [State.latchHigh]
@[simp] theorem State.readLow_kept (s : State) (off : Nat) :
    (State.readLow s off).otp = s.otp ∧ (State.readLow s off).pending = s.pending := by
  simp [State.readLow]; repeat' split
  all_goals simp_all

/-! ### The operations that change the counts (R404, R405) -/

/-- A configuration operation is refused with a completion, or acts as `f`. -/
theorem State.cfgOp_cases (s : State) (t opc : Nat) (good : Bool) (own : Option (Nat × Nat)) (f : State) :
    (∃ st r, s.cfgOp t opc good own f = s.cfgDone t opc st r) ∨
      (good = true ∧ s.otp.life ≠ 2 ∧ own = none ∧ s.cfgOp t opc good own f = f) := by
  unfold State.cfgOp
  cases good with
  | false => exact .inl ⟨_, _, rfl⟩
  | true =>
    by_cases h : s.otp.life = 2
    · exact .inl ⟨_, _, by simp [h]; rfl⟩
    · cases own with
      | some x => exact .inl ⟨x.1, x.2, by simp [h]⟩
      | none =>
        by_cases ho : s.cfg.op.isSome
        · exact .inl ⟨St.retryLater, 8, by simp [h, ho]⟩
        · exact .inr ⟨rfl, h, rfl, by simp [h, ho]⟩

theorem refuseIf_none {c : Bool} {a b : Nat} : refuseIf c a b = none ↔ c = false := by cases c <;> simp [refuseIf]

theorem State.raiseMin_otp (s : State) (t v : Nat) :
    (s.raiseMin t v).otp = { s.otp with minver := v, raises := s.otp.raises + 1 } ∧ (s.raiseMin t v).pending = s.pending := by
  unfold State.raiseMin; dsimp only; split <;> simp

theorem State.lifeNext_otp (s : State) (t : Nat) :
    (s.lifeNext t).otp = { s.otp with life := s.otp.life + 1 } ∧ (s.lifeNext t).pending = s.pending := by
  unfold State.lifeNext; dsimp only; split <;> simp

theorem State.provision_otp (s : State) (t r : Nat) (key : List Byte) :
    (s.provision t r key).otp = { s.otp with prov := SMap.set (fun _ => 0) s.otp.prov r (s.provOf r + 1) }
      ∧ (s.provision t r key).pending = s.pending := by
  simp [State.provision]

theorem State.cfgRaisemin_otp (s : State) (t : Nat) : OtpMove s (s.cfgRaisemin t).otp ∧ (s.cfgRaisemin t).pending = s.pending := by
  unfold State.cfgRaisemin; split
  · exact ⟨.inl rfl, rfl⟩
  · rename_i o _; extract_lets v good
    obtain ⟨st, r, h⟩ | ⟨hg, -, ho, h⟩ := State.cfgOp_cases s t 0x64 good (refuseIf (decide (255 ≤ s.otp.raises)) St.limitReached 0) (s.raiseMin t v)
    · rw [h]; simp [OtpMove]
    · rw [h]; simp [good] at hg; simp [refuseIf_none] at ho
      exact ⟨.inr (.inl ⟨_, hg.1.2, ho, (State.raiseMin_otp _ _ _).1⟩), (State.raiseMin_otp _ _ _).2⟩

theorem State.lifecycle_otp (s : State) (t : Nat) (hl : s.otp.life ≤ 2) :
    OtpMove s (s.lifecycle t).otp ∧ (s.lifecycle t).pending = s.pending := by
  unfold State.lifecycle; split
  · exact ⟨.inl rfl, rfl⟩
  · rename_i o _
    obtain ⟨st, r, h⟩ | ⟨-, h2, -, h⟩ := State.cfgOp_cases s t 0x65 (decide (o.fld 16 1 = s.otp.life + 1) && decide (o.fld 17 1 = 0xA5))
      (refuseIf (decide (s.otp.life = 0) && !(s.hasBank && s.flag Reg.CFG_AUTH.AUTHEN)) St.configMismatch 10) (s.lifeNext t)
    · rw [h]; simp [OtpMove]
    · rw [h]; exact ⟨.inr (.inr (.inl ⟨by omega, (State.lifeNext_otp _ _).1⟩)), (State.lifeNext_otp _ _).2⟩

theorem State.provisionWith_otp (s : State) (t r kslot : Nat) (b : List Byte) (hr : s.provOf r < 4) :
    OtpMove s (s.provisionWith t r kslot b).otp ∧ (s.provisionWith t r kslot b).pending = s.pending := by
  unfold State.provisionWith; split
  · simp [OtpMove]
  · split
    · simp [OtpMove]
    · exact ⟨.inr (.inr (.inr (.inl ⟨r, hr, (State.provision_otp _ _ _ _).1⟩))), (State.provision_otp _ _ _ _).2⟩

theorem State.rootProvision_otp (s : State) (t : Nat) (x : ReadResult) :
    OtpMove s (s.rootProvision t x).otp ∧ (s.rootProvision t x).pending = s.pending := by
  unfold State.rootProvision; split
  · exact ⟨.inl rfl, rfl⟩
  · rename_i o _; extract_lets r k slotOk own
    have key : ∀ f : State, (s.provOf r < 4 → OtpMove s f.otp ∧ f.pending = s.pending) →
        OtpMove s (s.cfgOp t 0x66 (decide (r ≤ 3) && slotOk) own f).otp ∧ (s.cfgOp t 0x66 (decide (r ≤ 3) && slotOk) own f).pending = s.pending := by
      intro f hf
      obtain ⟨st, q, h⟩ | ⟨-, -, ho, h⟩ := State.cfgOp_cases s t 0x66 (decide (r ≤ 3) && slotOk) own f
      · rw [h]; simp [OtpMove]
      · rw [h]; simp [own, Option.or_eq_none_iff, refuseIf_none] at ho; exact hf ho.2
    refine key _ (fun hr => ?_)
    split
    · simp [OtpMove]
    · exact State.provisionWith_otp _ _ _ _ _ hr

/-- A ROOT_PROVISION whose data never came changes no count. -/
theorem State.rootProvision_timeout (s : State) (t : Nat) :
    (s.rootProvision t .timeout).otp = s.otp ∧ (s.rootProvision t .timeout).pending = s.pending := by
  unfold State.rootProvision; split
  · exact ⟨rfl, rfl⟩
  · rename_i o _; extract_lets r k slotOk own
    exact State.cfgOp_kept _ _ _ _ _ _ (by simp [readBytes])

theorem State.debugUnlock_otp (s : State) (t : Nat) : OtpMove s (s.debugUnlock t).otp ∧ (s.debugUnlock t).pending = s.pending := by
  unfold State.debugUnlock; split
  · exact ⟨.inl rfl, rfl⟩
  · extract_lets u s1
    obtain ⟨st, r, h⟩ | ⟨-, -, ho, h⟩ := State.cfgOp_cases s t 0x67 true (refuseIf (decide (16 ≤ s.otp.debug)) St.limitReached 0)
      ((((s1.alarm 1 4).wr Reg.CFG_STAT.DBG 1).event 0x0F87 s.now (s.otp.debug + 1)).cfgDone t 0x67 St.ok)
    · rw [h]; simp [OtpMove]
    · rw [h]; simp [refuseIf_none] at ho; exact ⟨.inr (.inr (.inr (.inr ⟨ho, by simp [s1, u]⟩))), by simp [s1]⟩

theorem execCfgRaisemin_otp (t : Nat) (s t' : State) (h : execCfgRaisemin t s = .next t') : OtpMove s t'.otp ∧ t'.pending = s.pending := by
  unfold execCfgRaisemin at h; cases h; exact State.cfgRaisemin_otp s t
theorem execLifecycle_otp (t : Nat) (s t' : State) (hl : s.otp.life ≤ 2) (h : execLifecycle t s = .next t') : OtpMove s t'.otp ∧ t'.pending = s.pending := by
  unfold execLifecycle at h; cases h; exact State.lifecycle_otp s t hl
theorem execRootProvision_otp (t : Nat) (x : ReadResult) (s t' : State) (h : execRootProvision t x s = .next t') : OtpMove s t'.otp ∧ t'.pending = s.pending := by
  unfold execRootProvision at h; cases h; exact State.rootProvision_otp s t x
theorem execDebugUnlock_otp (t : Nat) (s t' : State) (h : execDebugUnlock t s = .next t') : OtpMove s t'.otp ∧ t'.pending = s.pending := by
  unfold execDebugUnlock at h; cases h; exact State.debugUnlock_otp s t

theorem State.operationTimeout_kept (s : State) (t : Nat) :
    (s.operationTimeout t).otp = s.otp ∧ (s.operationTimeout t).pending = s.pending := by
  unfold State.operationTimeout; split
  case _ => simp
  case _ => simp
  case _ => simp
  case _ => simp
  case _ => simp
  case _ => simp
  case _ => exact State.rootProvision_timeout s t
  case _ => simp

@[simp] theorem State.completionTimeout_kept (s : State) (x : ReadKind) :
    (s.completionTimeout x).otp = s.otp ∧ (s.completionTimeout x).pending = s.pending := by
  cases x
  case operation t => exact State.operationTimeout_kept s t
  all_goals simp [State.completionTimeout]

end Sys2Proof.Machine
end

