-- ==== Sys2Proof/Laws/KeptPower.lean ====
section
/-! SUPPORT. What the operations of starts, wakes and rails leave alone: the one-time-programmable counts and the queue of commands. -/

namespace Sys2Proof.Machine

@[simp] theorem State.unitsLost_kept (s : State) (d : Die) :
    (State.unitsLost s d).otp = s.otp ∧ (State.unitsLost s d).pending = s.pending := by unfold State.unitsLost; split <;> simp
@[simp] theorem State.dieOff_kept (s : State) (d : Die) :
    (State.dieOff s d).otp = s.otp ∧ (State.dieOff s d).pending = s.pending := by simp [State.dieOff, apply_ite State.otp, apply_ite State.pending]
@[simp] theorem State.diesOff_kept (s : State) :
    (State.diesOff s).otp = s.otp ∧ (State.diesOff s).pending = s.pending := by simp [State.diesOff]
@[simp] theorem State.posLost_kept (s : State) (d : Die) :
    (State.posLost s d).otp = s.otp ∧ (State.posLost s d).pending = s.pending := by simp [State.posLost]
@[simp] theorem State.stopRegs_kept (s : State) (same : Bool) :
    (State.stopRegs s same).otp = s.otp ∧ (State.stopRegs s same).pending = s.pending := by simp [State.stopRegs, apply_ite State.otp, apply_ite State.pending]
@[simp] theorem State.stopL_kept (s : State) :
    (State.stopL s).otp = s.otp ∧ (State.stopL s).pending = s.pending := by simp [State.stopL]
@[simp] theorem State.newEpoch_kept (s : State) :
    (State.newEpoch s).otp = s.otp ∧ (State.newEpoch s).pending = s.pending := by simp [State.newEpoch]
@[simp] theorem State.sameEpoch_kept (s : State) :
    (State.sameEpoch s).otp = s.otp ∧ (State.sameEpoch s).pending = s.pending := by simp [State.sameEpoch]
@[simp] theorem State.startRecord_kept (s : State) (why : Nat) :
    (State.startRecord s why).otp = s.otp ∧ (State.startRecord s why).pending = s.pending := by simp [State.startRecord, apply_ite State.otp, apply_ite State.pending]
@[simp] theorem State.startStores_kept (s : State) (why : Nat) :
    (State.startStores s why).otp = s.otp ∧ (State.startStores s why).pending = s.pending := by simp [State.startStores]
@[simp] theorem State.startUnits_kept (s : State) (fresh : Bool) (secs : Nat) (pass : List Bool) :
    (State.startUnits s fresh secs pass).otp = s.otp ∧ (State.startUnits s fresh secs pass).pending = s.pending := by simp [State.startUnits, apply_ite State.otp, apply_ite State.pending]
@[simp] theorem State.domainFail_kept (s : State) (d : Die) :
    (State.domainFail s d).otp = s.otp ∧ (State.domainFail s d).pending = s.pending := by simp [State.domainFail]
@[simp] theorem State.domainsFailed_kept (s : State) :
    (State.domainsFailed s).otp = s.otp ∧ (State.domainsFailed s).pending = s.pending := by simp [State.domainsFailed]
@[simp] theorem State.startPower_kept (s : State) :
    (State.startPower s).otp = s.otp ∧ (State.startPower s).pending = s.pending := by simp [State.startPower, apply_ite State.otp, apply_ite State.pending]
@[simp] theorem State.sendActive_kept (s : State) (d : Die) :
    (State.sendActive s d).otp = s.otp ∧ (State.sendActive s d).pending = s.pending := by simp [State.sendActive, apply_ite State.otp, apply_ite State.pending]
@[simp] theorem State.boot_kept (s : State) (why : Nat) (secs : Nat) (pass : List Bool) :
    (State.boot s why secs pass).otp = s.otp ∧ (State.boot s why secs pass).pending = s.pending := by simp [State.boot, apply_ite State.otp, apply_ite State.pending]
@[simp] theorem State.deviceReset_kept (s : State) (why : Nat) (pass : List Bool) :
    (State.deviceReset s why pass).otp = s.otp ∧ (State.deviceReset s why pass).pending = s.pending := by simp [State.deviceReset, apply_ite State.otp, apply_ite State.pending]
@[simp] theorem State.pwrStatus_kept (s : State) (t : Nat) :
    (State.pwrStatus s t).otp = s.otp ∧ (State.pwrStatus s t).pending = s.pending := by unfold State.pwrStatus; split <;> simp
@[simp] theorem State.latchEvent_kept (s : State) (code : Nat) (p1 : Nat) (p2 : Nat) :
    (State.latchEvent s code p1 p2).otp = s.otp ∧ (State.latchEvent s code p1 p2).pending = s.pending := by simp [State.latchEvent, apply_ite State.otp, apply_ite State.pending]
@[simp] theorem State.wakeBy_kept (s : State) (src : Nat) :
    (State.wakeBy s src).otp = s.otp ∧ (State.wakeBy s src).pending = s.pending := by simp [State.wakeBy, apply_ite State.otp, apply_ite State.pending]
@[simp] theorem State.startWake_kept (s : State) (src : Nat) (attempt : Nat) :
    (State.startWake s src attempt).otp = s.otp ∧ (State.startWake s src attempt).pending = s.pending := by simp [State.startWake]
@[simp] theorem State.wakeStart_kept (s : State) :
    (State.wakeStart s).otp = s.otp ∧ (State.wakeStart s).pending = s.pending := by simp [State.wakeStart, apply_ite State.otp, apply_ite State.pending]
@[simp] theorem State.powerOn_kept (s : State) (a1 : Bool) (a0 : Bool) :
    (State.powerOn s a1 a0).otp = s.otp ∧ (State.powerOn s a1 a0).pending = s.pending := by simp [State.powerOn, apply_ite State.otp, apply_ite State.pending]
@[simp] theorem State.tamper_kept (s : State) :
    (State.tamper s).otp = s.otp ∧ (State.tamper s).pending = s.pending := by simp [State.tamper, apply_ite State.otp, apply_ite State.pending]
@[simp] theorem pollOne_kept (vins : List Nat) (x : List Nat × State) (n : Nat) :
    (pollOne vins x n).2.otp = x.2.otp ∧ (pollOne vins x n).2.pending = x.2.pending := by unfold pollOne; split <;> simp
@[simp] theorem State.wakeMap_kept (s : State) (n : Nat) :
    (State.wakeMap s n).otp = s.otp ∧ (State.wakeMap s n).pending = s.pending := by simp [State.wakeMap, apply_ite State.otp, apply_ite State.pending]
@[simp] theorem State.parkPoll_kept (s : State) (vins : List Nat) :
    (State.parkPoll s vins).otp = s.otp ∧ (State.parkPoll s vins).pending = s.pending := by
  have hk : ∀ (l : List Nat) (x : List Nat × State), (l.foldl (pollOne vins) x).2.otp = x.2.otp ∧ (l.foldl (pollOne vins) x).2.pending = x.2.pending := by
    intro l; induction l with
    | nil => intro x; exact ⟨rfl, rfl⟩
    | cons a l ih => intro x; rw [List.foldl_cons]; exact ⟨(ih _).1.trans (pollOne_kept vins x a).1, (ih _).2.trans (pollOne_kept vins x a).2⟩
  unfold State.parkPoll; dsimp only
  split
  · split
    · simp [hk]
    · simp [hk]
  · simp
@[simp] theorem State.canWoke_kept (s : State) (c : Nat) (f : Fld) :
    (State.canWoke s c f).otp = s.otp ∧ (State.canWoke s c f).pending = s.pending := by simp [State.canWoke]
@[simp] theorem State.swFrame_kept (s : State) (c : Nat) (f : CanFrame) (good : Bool) :
    (State.swFrame s c f good).otp = s.otp ∧ (State.swFrame s c f good).pending = s.pending := by simp [State.swFrame, apply_ite State.otp, apply_ite State.pending]
@[simp] theorem State.canWakeFrame_kept (s : State) (c : Nat) (f : CanFrame) (good : Bool) :
    (State.canWakeFrame s c f good).otp = s.otp ∧ (State.canWakeFrame s c f good).pending = s.pending := by simp [State.canWakeFrame, apply_ite State.otp, apply_ite State.pending]
@[simp] theorem State.canWakePattern_kept (s : State) (c : Nat) :
    (State.canWakePattern s c).otp = s.otp ∧ (State.canWakePattern s c).pending = s.pending := by simp [State.canWakePattern, apply_ite State.otp, apply_ite State.pending]
@[simp] theorem State.candleTakes_kept (s : State) :
    (State.candleTakes s).otp = s.otp ∧ (State.candleTakes s).pending = s.pending := by simp [State.candleTakes]
@[simp] theorem State.parkTake_kept (s : State) :
    (State.parkTake s).otp = s.otp ∧ (State.parkTake s).pending = s.pending := by simp [State.parkTake]
@[simp] theorem State.toPark_kept (s : State) :
    (State.toPark s).otp = s.otp ∧ (State.toPark s).pending = s.pending := by simp [State.toPark]
@[simp] theorem State.parkEntry_kept (s : State) :
    (State.parkEntry s).otp = s.otp ∧ (State.parkEntry s).pending = s.pending := by simp [State.parkEntry, apply_ite State.otp, apply_ite State.pending]
@[simp] theorem State.rqbNew_kept (s : State) :
    (State.rqbNew s).otp = s.otp ∧ (State.rqbNew s).pending = s.pending := by simp [State.rqbNew]
@[simp] theorem State.rqbRequest_kept (s : State) :
    (State.rqbRequest s).otp = s.otp ∧ (State.rqbRequest s).pending = s.pending := by simp [State.rqbRequest, apply_ite State.otp, apply_ite State.pending]
@[simp] theorem State.rqbStatus_kept (s : State) (st : Byte) :
    (State.rqbStatus s st).otp = s.otp ∧ (State.rqbStatus s st).pending = s.pending := by simp [State.rqbStatus, apply_ite State.otp, apply_ite State.pending]
@[simp] theorem State.rqbRetry_kept (s : State) :
    (State.rqbRetry s).otp = s.otp ∧ (State.rqbRetry s).pending = s.pending := by simp [State.rqbRetry, apply_ite State.otp, apply_ite State.pending]
@[simp] theorem State.rqbOffOnce_kept (s : State) (rail : Nat) :
    (State.rqbOffOnce s rail).otp = s.otp ∧ (State.rqbOffOnce s rail).pending = s.pending := by simp [State.rqbOffOnce]
@[simp] theorem State.regFailed_kept (s : State) :
    (State.regFailed s).otp = s.otp ∧ (State.regFailed s).pending = s.pending := by simp [State.regFailed]
@[simp] theorem State.wakeRegFail_kept (s : State) :
    (State.wakeRegFail s).otp = s.otp ∧ (State.wakeRegFail s).pending = s.pending := by
  have h1 := foldl_kept State.rqbOffOnce (fun s x => by simp) s.pow.railsOn.reverse s
  unfold State.wakeRegFail; dsimp only
  simp [apply_ite State.otp, apply_ite State.pending, h1, -List.foldl_reverse]
@[simp] theorem State.parkRegFail_kept (s : State) :
    (State.parkRegFail s).otp = s.otp ∧ (State.parkRegFail s).pending = s.pending := by simp [State.parkRegFail]
@[simp] theorem State.regFail_kept (s : State) :
    (State.regFail s).otp = s.otp ∧ (State.regFail s).pending = s.pending := by
  simp [State.regFail, apply_ite State.otp, apply_ite State.pending]; repeat' split
  all_goals simp_all
@[simp] theorem State.wakeRetry_kept (s : State) :
    (State.wakeRetry s).otp = s.otp ∧ (State.wakeRetry s).pending = s.pending := by unfold State.wakeRetry; split <;> simp [apply_ite State.otp, apply_ite State.pending]
@[simp] theorem State.dieLReady_kept (s : State) (pass : List Bool) :
    (State.dieLReady s pass).otp = s.otp ∧ (State.dieLReady s pass).pending = s.pending := by simp [State.dieLReady, apply_ite State.otp, apply_ite State.pending]
@[simp] theorem State.resendCommands_kept (s : State) (d : Die) :
    (State.resendCommands s d).otp = s.otp ∧ (State.resendCommands s d).pending = s.pending := by simp [State.resendCommands, apply_ite State.otp, apply_ite State.pending]
@[simp] theorem State.sendSwap_kept (s : State) (d : Die) :
    (State.sendSwap s d).otp = s.otp ∧ (State.sendSwap s d).pending = s.pending := by unfold State.sendSwap; split <;> simp
@[simp] theorem State.goesOn_kept (s : State) (x : Stalled) :
    (State.goesOn s x).otp = s.otp ∧ (State.goesOn s x).pending = s.pending := by unfold State.goesOn; split <;> simp
@[simp] theorem State.unstall_kept (s : State) (d : Die) :
    (State.unstall s d).otp = s.otp ∧ (State.unstall s d).pending = s.pending := by simp [State.unstall]
@[simp] theorem State.domainUp_kept (s : State) (d : Die) :
    (State.domainUp s d).otp = s.otp ∧ (State.domainUp s d).pending = s.pending := by simp [State.domainUp]
@[simp] theorem State.domainReady_kept (s : State) (d : Die) :
    (State.domainReady s d).otp = s.otp ∧ (State.domainReady s d).pending = s.pending := by simp [State.domainReady, apply_ite State.otp, apply_ite State.pending]
@[simp] theorem State.domainStartTimeout_kept (s : State) (d : Die) :
    (State.domainStartTimeout s d).otp = s.otp ∧ (State.domainStartTimeout s d).pending = s.pending := by unfold State.domainStartTimeout; split <;> simp [apply_ite State.otp, apply_ite State.pending]
@[simp] theorem State.stallFails_kept (s : State) (x : Stalled) :
    (State.stallFails s x).otp = s.otp ∧ (State.stallFails s x).pending = s.pending := by unfold State.stallFails; split <;> simp
@[simp] theorem State.domainStallTimeout_kept (s : State) (d : Die) :
    (State.domainStallTimeout s d).otp = s.otp ∧ (State.domainStallTimeout s d).pending = s.pending := by unfold State.domainStallTimeout; split <;> simp [apply_ite State.otp, apply_ite State.pending]
@[simp] theorem State.railLoss_kept (s : State) (rail : Nat) :
    (State.railLoss s rail).otp = s.otp ∧ (State.railLoss s rail).pending = s.pending := by simp [State.railLoss]
@[simp] theorem State.powerDieReset_kept (s : State) (d : Die) :
    (State.powerDieReset s d).otp = s.otp ∧ (State.powerDieReset s d).pending = s.pending := by simp [State.powerDieReset, apply_ite State.otp, apply_ite State.pending]
@[simp] theorem State.candleReset_kept (s : State) :
    (State.candleReset s).otp = s.otp ∧ (State.candleReset s).pending = s.pending := by simp [State.candleReset]

end Sys2Proof.Machine
end

