-- ==== Sys2Proof/Laws/KeptCelper.lean ====
section
/-! SUPPORT. What the operations of Celper instructions leave alone: the one-time-programmable counts and the queue of commands. -/

namespace Sys2Proof.Machine

@[simp] theorem State.progError_kept (s : State) (c : Nat) (code : Nat) (addr : Nat) :
    (State.progError s c code addr).otp = s.otp ∧ (State.progError s c code addr).pending = s.pending := by simp [State.progError, apply_ite State.otp, apply_ite State.pending]
@[simp] theorem State.seqError_kept (s : State) (k : CoreId) :
    (State.seqError s k).otp = s.otp ∧ (State.seqError s k).pending = s.pending := by unfold State.seqError; split <;> simp
@[simp] theorem State.celFault_kept (s : State) (k : CoreId) (code : Nat) :
    (State.celFault s k code).otp = s.otp ∧ (State.celFault s k code).pending = s.pending := by unfold State.celFault; split <;> simp
@[simp] theorem State.celEnd_kept (s : State) (k : CoreId) :
    (State.celEnd s k).otp = s.otp ∧ (State.celEnd s k).pending = s.pending := by unfold State.celEnd; split <;> simp
@[simp] theorem State.celPerform_kept (s : State) (k : CoreId) (x : Cel) (a : CelAct) (hd : a.s.otp = s.otp ∧ a.s.pending = s.pending) :
    (s.celPerform k x a).otp = s.otp ∧ (s.celPerform k x a).pending = s.pending := by
  unfold State.celPerform; dsimp only
  split
  · simp
  · simp [hd]
  · split
    · simp
    · split
      · split <;> simp [hd]
      · simp [hd]
@[simp] theorem State.celSkipped_kept (s : State) (k : CoreId) (x : Cel) :
    (State.celSkipped s k x).otp = s.otp ∧ (State.celSkipped s k x).pending = s.pending := State.celPerform_kept _ _ _ _ ⟨rfl, rfl⟩
@[simp] theorem State.budgetOut_kept (s : State) (k : CoreId) :
    (State.budgetOut s k).otp = s.otp ∧ (State.budgetOut s k).pending = s.pending := by unfold State.budgetOut; split <;> simp
@[simp] theorem State.celIssue_kept (s : State) (k : CoreId) (word : Nat) (good : Bool) (need : List Nat) (cost : Cel → Nat) (act : State → Cel → CelAct) (hd : ∀ s x, (act s x).s.otp = s.otp ∧ (act s x).s.pending = s.pending) :
    (s.celIssue k word good need cost act).otp = s.otp ∧ (s.celIssue k word good need cost act).pending = s.pending := by
  have hp : ∀ (x : Cel) (e : Nat), (s.celPerform k x { s := s, x := x, next := .error e }).otp = s.otp ∧ (s.celPerform k x { s := s, x := x, next := .error e }).pending = s.pending := fun x e => State.celPerform_kept _ _ _ _ ⟨rfl, rfl⟩
  have ha : ∀ (y x : Cel), (s.celPerform k y (act s x)).otp = s.otp ∧ (s.celPerform k y (act s x)).pending = s.pending := fun y x => State.celPerform_kept _ _ _ _ (hd _ _)
  unfold State.celIssue; dsimp only
  repeat' split
  all_goals simp [ha]
@[simp] theorem State.budgetAbort_kept (s : State) (c : Nat) :
    (State.budgetAbort s c).otp = s.otp ∧ (State.budgetAbort s c).pending = s.pending := by simp [State.budgetAbort, apply_ite State.otp, apply_ite State.pending]
@[simp] theorem State.celR_kept (s : State) (k : CoreId) (op : Nat) (d : Nat) (a : Nat) (b : Nat) (f : W32 → W32 → W32) :
    (State.celR s k op d a b f).otp = s.otp ∧ (State.celR s k op d a b f).pending = s.pending := by simp [State.celR]
@[simp] theorem State.celI_kept (s : State) (k : CoreId) (op : Nat) (d : Nat) (a : Nat) (imm : BitVec 16) (f : W32 → W32) :
    (State.celI s k op d a imm f).otp = s.otp ∧ (State.celI s k op d a imm f).pending = s.pending := by simp [State.celI]
@[simp] theorem State.celShift_kept (s : State) (k : CoreId) (op : Nat) (d : Nat) (a : Nat) (imm : BitVec 16) (f : W32 → Nat → W32) :
    (State.celShift s k op d a imm f).otp = s.otp ∧ (State.celShift s k op d a imm f).pending = s.pending := by simp [State.celShift]
@[simp] theorem State.celMul_kept (s : State) (k : CoreId) (op : Nat) (a : Nat) (b : Nat) (adds : Bool) (f : W32 → W32 → W64) :
    (State.celMul s k op a b adds f).otp = s.otp ∧ (State.celMul s k op a b adds f).pending = s.pending := by simp [State.celMul]
@[simp] theorem State.celProducts_kept (s : State) (k : CoreId) :
    (State.celProducts s k).otp = s.otp ∧ (State.celProducts s k).pending = s.pending := by simp [State.celProducts, apply_ite State.otp, apply_ite State.pending]
@[simp] theorem State.celMfs_kept (s : State) (k : CoreId) (d : Nat) (sp : Nat) :
    (State.celMfs s k d sp).otp = s.otp ∧ (State.celMfs s k d sp).pending = s.pending := by
  unfold State.celMfs; (try dsimp only); refine State.celIssue_kept _ _ _ _ _ _ _ (fun s x => ?_); (try dsimp only); repeat' split
  all_goals simp
@[simp] theorem State.celMts_kept (s : State) (k : CoreId) (sp : Nat) (a : Nat) :
    (State.celMts s k sp a).otp = s.otp ∧ (State.celMts s k sp a).pending = s.pending := by
  unfold State.celMts; (try dsimp only); refine State.celIssue_kept _ _ _ _ _ _ _ (fun s x => ?_); (try dsimp only); repeat' split
  all_goals simp
@[simp] theorem State.celLdw_kept (s : State) (k : CoreId) (d : Nat) (a : Nat) (imm : BitVec 16) :
    (State.celLdw s k d a imm).otp = s.otp ∧ (State.celLdw s k d a imm).pending = s.pending := by
  unfold State.celLdw; (try dsimp only); refine State.celIssue_kept _ _ _ _ _ _ _ (fun s x => ?_); (try dsimp only); repeat' split
  all_goals simp
@[simp] theorem State.celStw_kept (s : State) (k : CoreId) (d : Nat) (a : Nat) (imm : BitVec 16) :
    (State.celStw s k d a imm).otp = s.otp ∧ (State.celStw s k d a imm).pending = s.pending := by
  unfold State.celStw; (try dsimp only); refine State.celIssue_kept _ _ _ _ _ _ _ (fun s x => ?_); (try dsimp only); repeat' split
  all_goals simp
@[simp] theorem State.celPrd_kept (s : State) (k : CoreId) (d : Nat) (port : Nat) :
    (State.celPrd s k d port).otp = s.otp ∧ (State.celPrd s k d port).pending = s.pending := by simp [State.celPrd]
@[simp] theorem State.celPwr_kept (s : State) (k : CoreId) (a : Nat) (port : Nat) :
    (State.celPwr s k a port).otp = s.otp ∧ (State.celPwr s k a port).pending = s.pending := by simp [State.celPwr]
@[simp] theorem State.loadV_kept (s : State) (x : Cel) (d i : Nat) : (s.loadV x d i).s.otp = s.otp ∧ (s.loadV x d i).s.pending = s.pending := by
  unfold State.loadV; (try dsimp only); repeat' split
  all_goals simp
@[simp] theorem State.loadE_kept (s : State) (x : Cel) (d i : Nat) : (s.loadE x d i).s.otp = s.otp ∧ (s.loadE x d i).s.pending = s.pending := by
  unfold State.loadE; (try dsimp only); repeat' split
  all_goals simp
@[simp] theorem State.celLdv_kept (s : State) (k : CoreId) (d : Nat) (index : Nat) :
    (State.celLdv s k d index).otp = s.otp ∧ (State.celLdv s k d index).pending = s.pending := by simp [State.celLdv]
@[simp] theorem State.celLde_kept (s : State) (k : CoreId) (d : Nat) (index : Nat) :
    (State.celLde s k d index).otp = s.otp ∧ (State.celLde s k d index).pending = s.pending := by simp [State.celLde]
@[simp] theorem State.celLdvx_kept (s : State) (k : CoreId) (d : Nat) (a : Nat) :
    (State.celLdvx s k d a).otp = s.otp ∧ (State.celLdvx s k d a).pending = s.pending := by simp [State.celLdvx]
@[simp] theorem State.celLdex_kept (s : State) (k : CoreId) (d : Nat) (a : Nat) :
    (State.celLdex s k d a).otp = s.otp ∧ (State.celLdex s k d a).pending = s.pending := by simp [State.celLdex]
@[simp] theorem State.loadB_kept (s : State) (x : Cel) (d i off : Nat) :
    (s.loadB x d i off).s.otp = s.otp ∧ (s.loadB x d i off).s.pending = s.pending := by
  unfold State.loadB; (try dsimp only); repeat' split
  all_goals simp
@[simp] theorem State.celLdb_kept (s : State) (k : CoreId) (d : Nat) (a : Nat) (b : Nat) :
    (State.celLdb s k d a b).otp = s.otp ∧ (State.celLdb s k d a b).pending = s.pending := by simp [State.celLdb]
@[simp] theorem State.storeE_kept (s : State) (x : Cel) (d i : Nat) : (s.storeE x d i).s.otp = s.otp ∧ (s.storeE x d i).s.pending = s.pending := by
  unfold State.storeE; (try dsimp only); repeat' split
  all_goals simp
@[simp] theorem State.celSte_kept (s : State) (k : CoreId) (d : Nat) (index : Nat) :
    (State.celSte s k d index).otp = s.otp ∧ (State.celSte s k d index).pending = s.pending := by simp [State.celSte]
@[simp] theorem State.celStex_kept (s : State) (k : CoreId) (d : Nat) (a : Nat) :
    (State.celStex s k d a).otp = s.otp ∧ (State.celStex s k d a).pending = s.pending := by simp [State.celStex]
@[simp] theorem State.celNop_kept (s : State) (k : CoreId) :
    (State.celNop s k).otp = s.otp ∧ (State.celNop s k).pending = s.pending := by simp [State.celNop]
@[simp] theorem State.celEndOp_kept (s : State) (k : CoreId) :
    (State.celEndOp s k).otp = s.otp ∧ (State.celEndOp s k).pending = s.pending := by simp [State.celEndOp]
@[simp] theorem State.celBc_kept (s : State) (k : CoreId) (a : Nat) (b : Nat) (cond : Nat) (off : BitVec 13) :
    (State.celBc s k a b cond off).otp = s.otp ∧ (State.celBc s k a b cond off).pending = s.pending := by
  unfold State.celBc; (try dsimp only); refine State.celIssue_kept _ _ _ _ _ _ _ (fun s x => ?_); (try dsimp only); repeat' split
  all_goals simp
@[simp] theorem State.celBr_kept (s : State) (k : CoreId) (off : BitVec 26) :
    (State.celBr s k off).otp = s.otp ∧ (State.celBr s k off).pending = s.pending := by simp [State.celBr]
@[simp] theorem State.celBl_kept (s : State) (k : CoreId) (off : BitVec 26) :
    (State.celBl s k off).otp = s.otp ∧ (State.celBl s k off).pending = s.pending := by simp [State.celBl]
@[simp] theorem State.celJr_kept (s : State) (k : CoreId) (a : Nat) :
    (State.celJr s k a).otp = s.otp ∧ (State.celJr s k a).pending = s.pending := by simp [State.celJr]
@[simp] theorem CelAct.skipIf_kept (s : State) (x : Cel) (c : Option Bool) :
    (CelAct.skipIf s x c).s.otp = s.otp ∧ (CelAct.skipIf s x c).s.pending = s.pending := by
  unfold CelAct.skipIf; (try dsimp only); repeat' split
  all_goals simp
@[simp] theorem State.celSk_kept (s : State) (k : CoreId) (a : Nat) (b : Nat) (cond : Nat) :
    (State.celSk s k a b cond).otp = s.otp ∧ (State.celSk s k a b cond).pending = s.pending := by simp [State.celSk]
@[simp] theorem State.celSki_kept (s : State) (k : CoreId) (a : Nat) (cond : Nat) (imm : BitVec 16) :
    (State.celSki s k a cond imm).otp = s.otp ∧ (State.celSki s k a cond imm).pending = s.pending := by simp [State.celSki]
@[simp] theorem State.celSkst_kept (s : State) (k : CoreId) (mask : BitVec 4) :
    (State.celSkst s k mask).otp = s.otp ∧ (State.celSkst s k mask).pending = s.pending := by simp [State.celSkst]
@[simp] theorem State.celLoopAct_kept (s : State) (k : CoreId) (x : Cel) (count : W32) (n : Nat) :
    (s.celLoopAct k x count n).s.otp = s.otp ∧ (s.celLoopAct k x count n).s.pending = s.pending := by
  unfold State.celLoopAct; (try dsimp only); repeat' split
  all_goals simp
@[simp] theorem State.celLoop_kept (s : State) (k : CoreId) (a : Nat) (n : BitVec 16) :
    (State.celLoop s k a n).otp = s.otp ∧ (State.celLoop s k a n).pending = s.pending := by simp [State.celLoop]
@[simp] theorem State.celLoopi_kept (s : State) (k : CoreId) (cnt : BitVec 12) (n : BitVec 14) :
    (State.celLoopi s k cnt n).otp = s.otp ∧ (State.celLoopi s k cnt n).pending = s.pending := by simp [State.celLoopi]

end Sys2Proof.Machine
end

