-- ==== Sys2Proof/Laws/KeptExec.lean ====
section
/-! SUPPORT. Each command leaves the queue alone, and each but four leaves the one-time-programmable counts alone. -/

namespace Sys2Proof.Machine

theorem execRegisterWrite_kept (off size : Nat) (value : W32) (s t' : State) (h : execRegisterWrite off size value s = .next t') :
    t'.otp = s.otp ∧ t'.pending = s.pending := by
  unfold execRegisterWrite at h; cases h; simp
theorem execRead64LowWord_kept (off : Nat) (s t' : State) (h : execRead64LowWord off s = .next t') :
    t'.otp = s.otp ∧ t'.pending = s.pending := by
  unfold execRead64LowWord at h; cases h; simp
theorem execWrite64HighWord_kept (off : Nat) (value : W32) (s t' : State) (h : execWrite64HighWord off value s = .next t') :
    t'.otp = s.otp ∧ t'.pending = s.pending := by
  unfold execWrite64HighWord at h; cases h; (try dsimp only); repeat' split
  all_goals simp
theorem execLedgPeekidxWrite_kept (value : W32) (s t' : State) (h : execLedgPeekidxWrite value s = .next t') :
    t'.otp = s.otp ∧ t'.pending = s.pending := by
  unfold execLedgPeekidxWrite at h; cases h; simp [apply_ite State.otp, apply_ite State.pending]
theorem execHswCtlClear_kept (n : Nat) (s t' : State) (h : execHswCtlClear n s = .next t') :
    t'.otp = s.otp ∧ t'.pending = s.pending := by
  unfold execHswCtlClear at h; cases h; simp [apply_ite State.otp, apply_ite State.pending]
theorem execPdrvCtlClear_kept (n : Nat) (s t' : State) (h : execPdrvCtlClear n s = .next t') :
    t'.otp = s.otp ∧ t'.pending = s.pending := by
  unfold execPdrvCtlClear at h; cases h; simp [apply_ite State.otp, apply_ite State.pending]
theorem execBrgCtlClear_kept (m : Nat) (s t' : State) (h : execBrgCtlClear m s = .next t') :
    t'.otp = s.otp ∧ t'.pending = s.pending := by
  unfold execBrgCtlClear at h; cases h; simp [apply_ite State.otp, apply_ite State.pending]
theorem execVlvCtlClear_kept (n : Nat) (s t' : State) (h : execVlvCtlClear n s = .next t') :
    t'.otp = s.otp ∧ t'.pending = s.pending := by
  unfold execVlvCtlClear at h; cases h; simp [apply_ite State.otp, apply_ite State.pending]
theorem execVlvBctlClear_kept (b : Nat) (s t' : State) (h : execVlvBctlClear b s = .next t') :
    t'.otp = s.otp ∧ t'.pending = s.pending := by
  unfold execVlvBctlClear at h; cases h; simp [apply_ite State.otp, apply_ite State.pending]
theorem execLedCtlClear_kept (n : Nat) (s t' : State) (h : execLedCtlClear n s = .next t') :
    t'.otp = s.otp ∧ t'.pending = s.pending := by
  unfold execLedCtlClear at h; cases h; simp [apply_ite State.otp, apply_ite State.pending]
theorem execCanCtlRecover_kept (c : Nat) (s t' : State) (h : execCanCtlRecover c s = .next t') :
    t'.otp = s.otp ∧ t'.pending = s.pending := by
  unfold execCanCtlRecover at h; cases h; simp
theorem execCanCtlRestrSet_kept (c : Nat) (s t' : State) (h : execCanCtlRestrSet c s = .next t') :
    t'.otp = s.otp ∧ t'.pending = s.pending := by
  unfold execCanCtlRestrSet at h; cases h; simp [apply_ite State.otp, apply_ite State.pending]
theorem execCanCtlRestrClear_kept (c : Nat) (s t' : State) (h : execCanCtlRestrClear c s = .next t') :
    t'.otp = s.otp ∧ t'.pending = s.pending := by
  unfold execCanCtlRestrClear at h; cases h; simp [apply_ite State.otp, apply_ite State.pending]
theorem execLinCtlSreq_kept (n table : Nat) (s t' : State) (h : execLinCtlSreq n table s = .next t') :
    t'.otp = s.otp ∧ t'.pending = s.pending := by
  unfold execLinCtlSreq at h; cases h; simp [apply_ite State.otp, apply_ite State.pending]
theorem execLinCtlSleep_kept (n : Nat) (s t' : State) (h : execLinCtlSleep n s = .next t') :
    t'.otp = s.otp ∧ t'.pending = s.pending := by
  unfold execLinCtlSleep at h; cases h; simp [apply_ite State.otp, apply_ite State.pending]
theorem execLinCtlWake_kept (n : Nat) (s t' : State) (h : execLinCtlWake n s = .next t') :
    t'.otp = s.otp ∧ t'.pending = s.pending := by
  unfold execLinCtlWake at h; cases h; simp [apply_ite State.otp, apply_ite State.pending]
theorem execRfxSvcRemove_kept (c : Nat) (s t' : State) (h : execRfxSvcRemove c s = .next t') :
    t'.otp = s.otp ∧ t'.pending = s.pending := by
  unfold execRfxSvcRemove at h; cases h; simp [apply_ite State.otp, apply_ite State.pending]
theorem execRfxSvcReturn_kept (c : Nat) (s t' : State) (h : execRfxSvcReturn c s = .next t') :
    t'.otp = s.otp ∧ t'.pending = s.pending := by
  unfold execRfxSvcReturn at h; cases h; simp [apply_ite State.otp, apply_ite State.pending]
theorem execHostCtlEnSet_kept (dbper : Nat) (s t' : State) (h : execHostCtlEnSet dbper s = .next t') :
    t'.otp = s.otp ∧ t'.pending = s.pending := by
  unfold execHostCtlEnSet at h; cases h; simp
theorem execHostCtlEnClear_kept (dbper : Nat) (s t' : State) (h : execHostCtlEnClear dbper s = .next t') :
    t'.otp = s.otp ∧ t'.pending = s.pending := by
  unfold execHostCtlEnClear at h; cases h; simp
theorem execFltCtlClr_kept (r : Nat) (s t' : State) (h : execFltCtlClr r s = .next t') :
    t'.otp = s.otp ∧ t'.pending = s.pending := by
  unfold execFltCtlClr at h; cases h; simp [apply_ite State.otp, apply_ite State.pending]
theorem execMsixVectorUnmask_kept (v : Nat) (s t' : State) (h : execMsixVectorUnmask v s = .next t') :
    t'.otp = s.otp ∧ t'.pending = s.pending := by
  unfold execMsixVectorUnmask at h; cases h; simp
theorem execDeviceReset_kept (mgp : Bool) (pass : List Bool) (s t' : State) (h : execDeviceReset mgp pass s = .next t') :
    t'.otp = s.otp ∧ t'.pending = s.pending := by
  unfold execDeviceReset at h; cases h; simp
theorem execAsSyncReceived_kept (gptp corr : Int) (s t' : State) (h : execAsSyncReceived gptp corr s = .next t') :
    t'.otp = s.otp ∧ t'.pending = s.pending := by
  unfold execAsSyncReceived at h; cases h; simp
theorem execTimeMarkerReceived_kept (d : Die) (err : Int) (s t' : State) (h : execTimeMarkerReceived d err s = .next t') :
    t'.otp = s.otp ∧ t'.pending = s.pending := by
  unfold execTimeMarkerReceived at h; cases h; simp
theorem execIslandRelock_kept (d : Die) (s t' : State) (h : execIslandRelock d s = .next t') :
    t'.otp = s.otp ∧ t'.pending = s.pending := by
  unfold execIslandRelock at h; cases h; simp
theorem execMarkerLoss_kept (d : Die) (s t' : State) (h : execMarkerLoss d s = .next t') :
    t'.otp = s.otp ∧ t'.pending = s.pending := by
  unfold execMarkerLoss at h; cases h; simp
theorem execLedgerUpdateArrival_kept (p : Path) (s t' : State) (h : execLedgerUpdateArrival p s = .next t') :
    t'.otp = s.otp ∧ t'.pending = s.pending := by
  unfold execLedgerUpdateArrival at h; cases h; (try dsimp only); repeat' split
  all_goals simp
theorem execEntryExpiry_kept (idx : Nat) (s t' : State) (h : execEntryExpiry idx s = .next t') :
    t'.otp = s.otp ∧ t'.pending = s.pending := by
  unfold execEntryExpiry at h; cases h; simp
theorem execSnapshotSeal_kept (ready : List Bool) (s t' : State) (h : execSnapshotSeal ready s = .next t') :
    t'.otp = s.otp ∧ t'.pending = s.pending := by
  unfold execSnapshotSeal at h; cases h; simp
theorem execSnapReadAtSeal_kept (t : Nat) (s t' : State) (h : execSnapReadAtSeal t s = .next t') :
    t'.otp = s.otp ∧ t'.pending = s.pending := by
  unfold execSnapReadAtSeal at h; cases h; simp
theorem execStagedWriteArrival_kept (d : Die) (s t' : State) (h : execStagedWriteArrival d s = .next t') :
    t'.otp = s.otp ∧ t'.pending = s.pending := by
  unfold execStagedWriteArrival at h; cases h; simp
theorem execFrameCloseMessage_kept (d : Die) (s t' : State) (h : execFrameCloseMessage d s = .next t') :
    t'.otp = s.otp ∧ t'.pending = s.pending := by
  unfold execFrameCloseMessage at h; cases h; simp
theorem execDieBoundaryApply_kept (d : Die) (s t' : State) (h : execDieBoundaryApply d s = .next t') :
    t'.otp = s.otp ∧ t'.pending = s.pending := by
  unfold execDieBoundaryApply at h; cases h; simp
theorem execLimpEntry_kept (d : Die) (s t' : State) (h : execLimpEntry d s = .next t') :
    t'.otp = s.otp ∧ t'.pending = s.pending := by
  unfold execLimpEntry at h; cases h; simp
theorem execPwmPeriodStart_kept (u : PwmUnit) (s t' : State) (h : execPwmPeriodStart u s = .next t') :
    t'.otp = s.otp ∧ t'.pending = s.pending := by
  unfold execPwmPeriodStart at h; (try dsimp only at h); repeat' split at h
  all_goals first
    | (cases h; simp)
    | cases h
theorem execPwmOnTimeEnd_kept (u : PwmUnit) (s t' : State) (h : execPwmOnTimeEnd u s = .next t') :
    t'.otp = s.otp ∧ t'.pending = s.pending := by
  unfold execPwmOnTimeEnd at h; (try dsimp only at h); repeat' split at h
  all_goals first
    | (cases h; simp)
    | cases h
theorem execSenseSample_kept (d : Die) (x : Samples) (s t' : State) (h : execSenseSample d x s = .next t') :
    t'.otp = s.otp ∧ t'.pending = s.pending := by
  unfold execSenseSample at h; cases h; simp
theorem execSensingWindowEnd_kept (d : Die) (s t' : State) (h : execSensingWindowEnd d s = .next t') :
    t'.otp = s.otp ∧ t'.pending = s.pending := by
  unfold execSensingWindowEnd at h; cases h; simp
theorem execOverloadTrip_kept (u : Nat) (s t' : State) (h : execOverloadTrip u s = .next t') :
    t'.otp = s.otp ∧ t'.pending = s.pending := by
  unfold execOverloadTrip at h; cases h; simp
theorem execShortComparatorTrip_kept (u cur : Nat) (s t' : State) (h : execShortComparatorTrip u cur s = .next t') :
    t'.otp = s.otp ∧ t'.pending = s.pending := by
  unfold execShortComparatorTrip at h; cases h; simp
theorem execVdsTrip_kept (u vds : Nat) (s t' : State) (h : execVdsTrip u vds s = .next t') :
    t'.otp = s.otp ∧ t'.pending = s.pending := by
  unfold execVdsTrip at h; cases h; simp
theorem execEmberSet_kept (u : EmberUnit) (tj : Int) (ts : Nat) (s t' : State) (h : execEmberSet u tj ts s = .next t') :
    t'.otp = s.otp ∧ t'.pending = s.pending := by
  unfold execEmberSet at h; cases h; (try dsimp only); repeat' split
  all_goals simp
theorem execEmberRelease_kept (u : EmberUnit) (tj : Int) (ts : Nat) (s t' : State) (h : execEmberRelease u tj ts s = .next t') :
    t'.otp = s.otp ∧ t'.pending = s.pending := by
  unfold execEmberRelease at h; cases h; (try dsimp only); repeat' split
  all_goals simp
theorem execSnuffEnd_kept (u : Nat) (s t' : State) (h : execSnuffEnd u s = .next t') :
    t'.otp = s.otp ∧ t'.pending = s.pending := by
  unfold execSnuffEnd at h; cases h; simp
theorem execRetryDue_kept (u : Nat) (s t' : State) (h : execRetryDue u s = .next t') :
    t'.otp = s.otp ∧ t'.pending = s.pending := by
  unfold execRetryDue at h; cases h; simp
theorem execRetryRefill_kept (u : Nat) (s t' : State) (h : execRetryRefill u s = .next t') :
    t'.otp = s.otp ∧ t'.pending = s.pending := by
  unfold execRetryRefill at h; cases h; simp
theorem execWickStep_kept (d : Die) (s t' : State) (h : execWickStep d s = .next t') :
    t'.otp = s.otp ∧ t'.pending = s.pending := by
  unfold execWickStep at h; cases h; simp
theorem execBundleNodeMessage_kept (d : Die) (s t' : State) (h : execBundleNodeMessage d s = .next t') :
    t'.otp = s.otp ∧ t'.pending = s.pending := by
  unfold execBundleNodeMessage at h; cases h; simp [apply_ite State.otp, apply_ite State.pending]
theorem execBundleMessageTimeout_kept (d : Die) (s t' : State) (h : execBundleMessageTimeout d s = .next t') :
    t'.otp = s.otp ∧ t'.pending = s.pending := by
  unfold execBundleMessageTimeout at h; cases h; simp
theorem execPeriodicFeedback_kept (u : FbUnit) (x : Int) (s t' : State) (h : execPeriodicFeedback u x s = .next t') :
    t'.otp = s.otp ∧ t'.pending = s.pending := by
  unfold execPeriodicFeedback at h; cases h; simp
theorem execEntryResend_kept (idx : Nat) (s t' : State) (h : execEntryResend idx s = .next t') :
    t'.otp = s.otp ∧ t'.pending = s.pending := by
  unfold execEntryResend at h; cases h; simp
theorem execInrushWindowEnd_kept (u : Nat) (s t' : State) (h : execInrushWindowEnd u s = .next t') :
    t'.otp = s.otp ∧ t'.pending = s.pending := by
  unfold execInrushWindowEnd at h; cases h; simp
theorem execSoftStartCarrier_kept (u : Nat) (s t' : State) (h : execSoftStartCarrier u s = .next t') :
    t'.otp = s.otp ∧ t'.pending = s.pending := by
  unfold execSoftStartCarrier at h; cases h; simp
theorem execDroopDetected_kept (d : Die) (s t' : State) (h : execDroopDetected d s = .next t') :
    t'.otp = s.otp ∧ t'.pending = s.pending := by
  unfold execDroopDetected at h; cases h; simp
theorem execDroopNotice_kept (d : Die) (s t' : State) (h : execDroopNotice d s = .next t') :
    t'.otp = s.otp ∧ t'.pending = s.pending := by
  unfold execDroopNotice at h; cases h; simp [apply_ite State.otp, apply_ite State.pending]
theorem execDroopEndNotice_kept (d : Die) (s t' : State) (h : execDroopEndNotice d s = .next t') :
    t'.otp = s.otp ∧ t'.pending = s.pending := by
  unfold execDroopEndNotice at h; cases h; simp [apply_ite State.otp, apply_ite State.pending]
theorem execDroopCap_kept (d : Die) (s t' : State) (h : execDroopCap d s = .next t') :
    t'.otp = s.otp ∧ t'.pending = s.pending := by
  unfold execDroopCap at h; cases h; simp
theorem execDroopFreezeEnd_kept (d : Die) (s t' : State) (h : execDroopFreezeEnd d s = .next t') :
    t'.otp = s.otp ∧ t'.pending = s.pending := by
  unfold execDroopFreezeEnd at h; cases h; simp
theorem execOpenLoadTestStart_kept (u : Nat) (s t' : State) (h : execOpenLoadTestStart u s = .next t') :
    t'.otp = s.otp ∧ t'.pending = s.pending := by
  unfold execOpenLoadTestStart at h; cases h; simp
theorem execOpenLoadTestEnd_kept (u : Nat) (s t' : State) (h : execOpenLoadTestEnd u s = .next t') :
    t'.otp = s.otp ∧ t'.pending = s.pending := by
  unfold execOpenLoadTestEnd at h; cases h; simp
theorem execBridgeControlStep_kept (d : Die) (s t' : State) (h : execBridgeControlStep d s = .next t') :
    t'.otp = s.otp ∧ t'.pending = s.pending := by
  unfold execBridgeControlStep at h; cases h; simp
theorem execRippleEdge_kept (m : Nat) (s t' : State) (h : execRippleEdge m s = .next t') :
    t'.otp = s.otp ∧ t'.pending = s.pending := by
  unfold execRippleEdge at h; cases h; simp
theorem execMotorStall_kept (m : Nat) (s t' : State) (h : execMotorStall m s = .next t') :
    t'.otp = s.otp ∧ t'.pending = s.pending := by
  unfold execMotorStall at h; cases h; simp
theorem execMotorRunLimit_kept (m : Nat) (s t' : State) (h : execMotorRunLimit m s = .next t') :
    t'.otp = s.otp ∧ t'.pending = s.pending := by
  unfold execMotorRunLimit at h; cases h; simp
theorem execMotorStartBlankingEnd_kept (m : Nat) (s t' : State) (h : execMotorStartBlankingEnd m s = .next t') :
    t'.otp = s.otp ∧ t'.pending = s.pending := by
  unfold execMotorStartBlankingEnd at h; cases h; simp
theorem execPulseEnd_kept (m : Nat) (s t' : State) (h : execPulseEnd m s = .next t') :
    t'.otp = s.otp ∧ t'.pending = s.pending := by
  unfold execPulseEnd at h; cases h; simp
theorem execPinchBrakeEnd_kept (m : Nat) (s t' : State) (h : execPinchBrakeEnd m s = .next t') :
    t'.otp = s.otp ∧ t'.pending = s.pending := by
  unfold execPinchBrakeEnd at h; cases h; simp
theorem execReversalComplete_kept (m : Nat) (s t' : State) (h : execReversalComplete m s = .next t') :
    t'.otp = s.otp ∧ t'.pending = s.pending := by
  unfold execReversalComplete at h; cases h; simp
theorem execMotorSettleEnd_kept (m : Nat) (s t' : State) (h : execMotorSettleEnd m s = .next t') :
    t'.otp = s.otp ∧ t'.pending = s.pending := by
  unfold execMotorSettleEnd at h; cases h; simp
theorem execBridgeTrip_kept (m : Nat) (x : BridgeSense) (s t' : State) (h : execBridgeTrip m x s = .next t') :
    t'.otp = s.otp ∧ t'.pending = s.pending := by
  unfold execBridgeTrip at h; cases h; simp
theorem execMotorTrippedEnd_kept (m : Nat) (s t' : State) (h : execMotorTrippedEnd m s = .next t') :
    t'.otp = s.otp ∧ t'.pending = s.pending := by
  unfold execMotorTrippedEnd at h; cases h; simp
theorem execCurrentChop_kept (m cur : Nat) (s t' : State) (h : execCurrentChop m cur s = .next t') :
    t'.otp = s.otp ∧ t'.pending = s.pending := by
  unfold execCurrentChop at h; cases h; simp
theorem execChopOffEnd_kept (m : Nat) (s t' : State) (h : execChopOffEnd m s = .next t') :
    t'.otp = s.otp ∧ t'.pending = s.pending := by
  unfold execChopOffEnd at h; cases h; simp
theorem execBemfMeasureStart_kept (m : Nat) (s t' : State) (h : execBemfMeasureStart m s = .next t') :
    t'.otp = s.otp ∧ t'.pending = s.pending := by
  unfold execBemfMeasureStart at h; cases h; simp
theorem execBemfMeasureEnd_kept (m : Nat) (s t' : State) (h : execBemfMeasureEnd m s = .next t') :
    t'.otp = s.otp ∧ t'.pending = s.pending := by
  unfold execBemfMeasureEnd at h; cases h; simp
theorem execBridgeSeqOverrun_kept (d : Die) (s t' : State) (h : execBridgeSeqOverrun d s = .next t') :
    t'.otp = s.otp ∧ t'.pending = s.pending := by
  unfold execBridgeSeqOverrun at h; cases h; simp
theorem execValveControlStep_kept (b : Nat) (s t' : State) (h : execValveControlStep b s = .next t') :
    t'.otp = s.otp ∧ t'.pending = s.pending := by
  unfold execValveControlStep at h; cases h; simp
theorem execPeakEnd_kept (n : Nat) (s t' : State) (h : execPeakEnd n s = .next t') :
    t'.otp = s.otp ∧ t'.pending = s.pending := by
  unfold execPeakEnd at h; cases h; simp [apply_ite State.otp, apply_ite State.pending]
theorem execPeakFail_kept (n : Nat) (s t' : State) (h : execPeakFail n s = .next t') :
    t'.otp = s.otp ∧ t'.pending = s.pending := by
  unfold execPeakFail at h; cases h; simp [apply_ite State.otp, apply_ite State.pending]
theorem execReleaseTimeout_kept (n : Nat) (s t' : State) (h : execReleaseTimeout n s = .next t') :
    t'.otp = s.otp ∧ t'.pending = s.pending := by
  unfold execReleaseTimeout at h; cases h; simp [apply_ite State.otp, apply_ite State.pending]
theorem execLeashExpiry_kept (n : Nat) (s t' : State) (h : execLeashExpiry n s = .next t') :
    t'.otp = s.otp ∧ t'.pending = s.pending := by
  unfold execLeashExpiry at h; cases h; simp [apply_ite State.otp, apply_ite State.pending]
theorem execHoldLow_kept (n : Nat) (s t' : State) (h : execHoldLow n s = .next t') :
    t'.otp = s.otp ∧ t'.pending = s.pending := by
  unfold execHoldLow at h; cases h; simp
theorem execValveTrip_kept (n cur : Nat) (s t' : State) (h : execValveTrip n cur s = .next t') :
    t'.otp = s.otp ∧ t'.pending = s.pending := by
  unfold execValveTrip at h; cases h; simp
theorem execValveTrippedEnd_kept (n : Nat) (s t' : State) (h : execValveTrippedEnd n s = .next t') :
    t'.otp = s.otp ∧ t'.pending = s.pending := by
  unfold execValveTrippedEnd at h; cases h; simp
theorem execBankTrip_kept (b cur : Nat) (s t' : State) (h : execBankTrip b cur s = .next t') :
    t'.otp = s.otp ∧ t'.pending = s.pending := by
  unfold execBankTrip at h; cases h; simp
theorem execBankTrippedEnd_kept (b : Nat) (s t' : State) (h : execBankTrippedEnd b s = .next t') :
    t'.otp = s.otp ∧ t'.pending = s.pending := by
  unfold execBankTrippedEnd at h; cases h; simp
theorem execBankSeqOverrun_kept (b : Nat) (s t' : State) (h : execBankSeqOverrun b s = .next t') :
    t'.otp = s.otp ∧ t'.pending = s.pending := by
  unfold execBankSeqOverrun at h; cases h; simp
theorem execLedPeriodStart_kept (n : Nat) (s t' : State) (h : execLedPeriodStart n s = .next t') :
    t'.otp = s.otp ∧ t'.pending = s.pending := by
  unfold execLedPeriodStart at h; cases h; simp
theorem execLedOpen_kept (n : Nat) (s t' : State) (h : execLedOpen n s = .next t') :
    t'.otp = s.otp ∧ t'.pending = s.pending := by
  unfold execLedOpen at h; cases h; simp
theorem execLedOpenClear_kept (n : Nat) (s t' : State) (h : execLedOpenClear n s = .next t') :
    t'.otp = s.otp ∧ t'.pending = s.pending := by
  unfold execLedOpenClear at h; cases h; simp
theorem execLedShort_kept (n : Nat) (s t' : State) (h : execLedShort n s = .next t') :
    t'.otp = s.otp ∧ t'.pending = s.pending := by
  unfold execLedShort at h; cases h; simp
theorem execLedFoldbackStep_kept (tj : Int) (s t' : State) (h : execLedFoldbackStep tj s = .next t') :
    t'.otp = s.otp ∧ t'.pending = s.pending := by
  unfold execLedFoldbackStep at h; cases h; simp
theorem execInputRawEdge_kept (n vin : Nat) (s t' : State) (h : execInputRawEdge n vin s = .next t') :
    t'.otp = s.otp ∧ t'.pending = s.pending := by
  unfold execInputRawEdge at h; cases h; simp
theorem execPulsedWettingRead_kept (n vin : Nat) (s t' : State) (h : execPulsedWettingRead n vin s = .next t') :
    t'.otp = s.otp ∧ t'.pending = s.pending := by
  unfold execPulsedWettingRead at h; cases h; simp
theorem execDebounceAccept_kept (n : Nat) (s t' : State) (h : execDebounceAccept n s = .next t') :
    t'.otp = s.otp ∧ t'.pending = s.pending := by
  unfold execDebounceAccept at h; cases h; simp
theorem execInputChatter_kept (n : Nat) (s t' : State) (h : execInputChatter n s = .next t') :
    t'.otp = s.otp ∧ t'.pending = s.pending := by
  unfold execInputChatter at h; cases h; simp
theorem execLowbatSuspensionEnd_kept (n : Nat) (s t' : State) (h : execLowbatSuspensionEnd n s = .next t') :
    t'.otp = s.otp ∧ t'.pending = s.pending := by
  unfold execLowbatSuspensionEnd at h; cases h; simp
theorem execParkPoll_kept (vins : List Nat) (s t' : State) (h : execParkPoll vins s = .next t') :
    t'.otp = s.otp ∧ t'.pending = s.pending := by
  unfold execParkPoll at h; cases h; simp
theorem execBudgetAbort_kept (c : Nat) (s t' : State) (h : execBudgetAbort c s = .next t') :
    t'.otp = s.otp ∧ t'.pending = s.pending := by
  unfold execBudgetAbort at h; cases h; simp
theorem execCoreFailure_kept (c cause : Nat) (s t' : State) (h : execCoreFailure c cause s = .next t') :
    t'.otp = s.otp ∧ t'.pending = s.pending := by
  unfold execCoreFailure at h; cases h; simp [apply_ite State.otp, apply_ite State.pending]
theorem execCoreSelfTestEnd_kept (c : Nat) (pass : Bool) (s t' : State) (h : execCoreSelfTestEnd c pass s = .next t') :
    t'.otp = s.otp ∧ t'.pending = s.pending := by
  unfold execCoreSelfTestEnd at h; cases h; simp
theorem execImmediateApply_kept (d : Die) (s t' : State) (h : execImmediateApply d s = .next t') :
    t'.otp = s.otp ∧ t'.pending = s.pending := by
  unfold execImmediateApply at h; cases h; simp
theorem execAdd_kept (k : CoreId) (d a b : Nat) (s t' : State) (h : execAdd k d a b s = .next t') :
    t'.otp = s.otp ∧ t'.pending = s.pending := by
  unfold execAdd at h; cases h; simp
theorem execSub_kept (k : CoreId) (d a b : Nat) (s t' : State) (h : execSub k d a b s = .next t') :
    t'.otp = s.otp ∧ t'.pending = s.pending := by
  unfold execSub at h; cases h; simp
theorem execAndI_kept (k : CoreId) (d a b : Nat) (s t' : State) (h : execAndI k d a b s = .next t') :
    t'.otp = s.otp ∧ t'.pending = s.pending := by
  unfold execAndI at h; cases h; simp
theorem execOrI_kept (k : CoreId) (d a b : Nat) (s t' : State) (h : execOrI k d a b s = .next t') :
    t'.otp = s.otp ∧ t'.pending = s.pending := by
  unfold execOrI at h; cases h; simp
theorem execXorI_kept (k : CoreId) (d a b : Nat) (s t' : State) (h : execXorI k d a b s = .next t') :
    t'.otp = s.otp ∧ t'.pending = s.pending := by
  unfold execXorI at h; cases h; simp
theorem execSll_kept (k : CoreId) (d a b : Nat) (s t' : State) (h : execSll k d a b s = .next t') :
    t'.otp = s.otp ∧ t'.pending = s.pending := by
  unfold execSll at h; cases h; simp
theorem execSrl_kept (k : CoreId) (d a b : Nat) (s t' : State) (h : execSrl k d a b s = .next t') :
    t'.otp = s.otp ∧ t'.pending = s.pending := by
  unfold execSrl at h; cases h; simp
theorem execSra_kept (k : CoreId) (d a b : Nat) (s t' : State) (h : execSra k d a b s = .next t') :
    t'.otp = s.otp ∧ t'.pending = s.pending := by
  unfold execSra at h; cases h; simp
theorem execSlt_kept (k : CoreId) (d a b : Nat) (s t' : State) (h : execSlt k d a b s = .next t') :
    t'.otp = s.otp ∧ t'.pending = s.pending := by
  unfold execSlt at h; cases h; simp
theorem execSltu_kept (k : CoreId) (d a b : Nat) (s t' : State) (h : execSltu k d a b s = .next t') :
    t'.otp = s.otp ∧ t'.pending = s.pending := by
  unfold execSltu at h; cases h; simp
theorem execNopInstruction_kept (k : CoreId) (s t' : State) (h : execNopInstruction k s = .next t') :
    t'.otp = s.otp ∧ t'.pending = s.pending := by
  unfold execNopInstruction at h; cases h; simp
theorem execEndI_kept (k : CoreId) (s t' : State) (h : execEndI k s = .next t') :
    t'.otp = s.otp ∧ t'.pending = s.pending := by
  unfold execEndI at h; cases h; simp
theorem execAddi_kept (k : CoreId) (d a : Nat) (imm : BitVec 16) (s t' : State) (h : execAddi k d a imm s = .next t') :
    t'.otp = s.otp ∧ t'.pending = s.pending := by
  unfold execAddi at h; cases h; simp
theorem execAndi_kept (k : CoreId) (d a : Nat) (imm : BitVec 16) (s t' : State) (h : execAndi k d a imm s = .next t') :
    t'.otp = s.otp ∧ t'.pending = s.pending := by
  unfold execAndi at h; cases h; simp
theorem execOri_kept (k : CoreId) (d a : Nat) (imm : BitVec 16) (s t' : State) (h : execOri k d a imm s = .next t') :
    t'.otp = s.otp ∧ t'.pending = s.pending := by
  unfold execOri at h; cases h; simp
theorem execXori_kept (k : CoreId) (d a : Nat) (imm : BitVec 16) (s t' : State) (h : execXori k d a imm s = .next t') :
    t'.otp = s.otp ∧ t'.pending = s.pending := by
  unfold execXori at h; cases h; simp
theorem execSlli_kept (k : CoreId) (d a : Nat) (imm : BitVec 16) (s t' : State) (h : execSlli k d a imm s = .next t') :
    t'.otp = s.otp ∧ t'.pending = s.pending := by
  unfold execSlli at h; cases h; simp
theorem execSrli_kept (k : CoreId) (d a : Nat) (imm : BitVec 16) (s t' : State) (h : execSrli k d a imm s = .next t') :
    t'.otp = s.otp ∧ t'.pending = s.pending := by
  unfold execSrli at h; cases h; simp
theorem execSrai_kept (k : CoreId) (d a : Nat) (imm : BitVec 16) (s t' : State) (h : execSrai k d a imm s = .next t') :
    t'.otp = s.otp ∧ t'.pending = s.pending := by
  unfold execSrai at h; cases h; simp
theorem execLui_kept (k : CoreId) (d : Nat) (imm : BitVec 16) (s t' : State) (h : execLui k d imm s = .next t') :
    t'.otp = s.otp ∧ t'.pending = s.pending := by
  unfold execLui at h; cases h; simp
theorem execSlti_kept (k : CoreId) (d a : Nat) (imm : BitVec 16) (s t' : State) (h : execSlti k d a imm s = .next t') :
    t'.otp = s.otp ∧ t'.pending = s.pending := by
  unfold execSlti at h; cases h; simp
theorem execMul_kept (k : CoreId) (a b : Nat) (s t' : State) (h : execMul k a b s = .next t') :
    t'.otp = s.otp ∧ t'.pending = s.pending := by
  unfold execMul at h; cases h; simp
theorem execMulu_kept (k : CoreId) (a b : Nat) (s t' : State) (h : execMulu k a b s = .next t') :
    t'.otp = s.otp ∧ t'.pending = s.pending := by
  unfold execMulu at h; cases h; simp
theorem execMac_kept (k : CoreId) (a b : Nat) (s t' : State) (h : execMac k a b s = .next t') :
    t'.otp = s.otp ∧ t'.pending = s.pending := by
  unfold execMac at h; cases h; simp
theorem execMultiplierResult_kept (k : CoreId) (s t' : State) (h : execMultiplierResult k s = .next t') :
    t'.otp = s.otp ∧ t'.pending = s.pending := by
  unfold execMultiplierResult at h; cases h; simp
theorem execMfs_kept (k : CoreId) (d sp : Nat) (s t' : State) (h : execMfs k d sp s = .next t') :
    t'.otp = s.otp ∧ t'.pending = s.pending := by
  unfold execMfs at h; cases h; simp
theorem execMts_kept (k : CoreId) (sp a : Nat) (s t' : State) (h : execMts k sp a s = .next t') :
    t'.otp = s.otp ∧ t'.pending = s.pending := by
  unfold execMts at h; cases h; simp
theorem execLdw_kept (k : CoreId) (d a : Nat) (imm : BitVec 16) (s t' : State) (h : execLdw k d a imm s = .next t') :
    t'.otp = s.otp ∧ t'.pending = s.pending := by
  unfold execLdw at h; cases h; simp
theorem execStw_kept (k : CoreId) (d a : Nat) (imm : BitVec 16) (s t' : State) (h : execStw k d a imm s = .next t') :
    t'.otp = s.otp ∧ t'.pending = s.pending := by
  unfold execStw at h; cases h; simp
theorem execBc_kept (k : CoreId) (a b cond : Nat) (off : BitVec 13) (s t' : State) (h : execBc k a b cond off s = .next t') :
    t'.otp = s.otp ∧ t'.pending = s.pending := by
  unfold execBc at h; cases h; simp
theorem execPrd_kept (k : CoreId) (d port : Nat) (s t' : State) (h : execPrd k d port s = .next t') :
    t'.otp = s.otp ∧ t'.pending = s.pending := by
  unfold execPrd at h; cases h; simp
theorem execPwr_kept (k : CoreId) (a port : Nat) (s t' : State) (h : execPwr k a port s = .next t') :
    t'.otp = s.otp ∧ t'.pending = s.pending := by
  unfold execPwr at h; cases h; simp
theorem execLdv_kept (k : CoreId) (d index : Nat) (s t' : State) (h : execLdv k d index s = .next t') :
    t'.otp = s.otp ∧ t'.pending = s.pending := by
  unfold execLdv at h; cases h; simp
theorem execLde_kept (k : CoreId) (d index : Nat) (s t' : State) (h : execLde k d index s = .next t') :
    t'.otp = s.otp ∧ t'.pending = s.pending := by
  unfold execLde at h; cases h; simp
theorem execLdvx_kept (k : CoreId) (d a : Nat) (s t' : State) (h : execLdvx k d a s = .next t') :
    t'.otp = s.otp ∧ t'.pending = s.pending := by
  unfold execLdvx at h; cases h; simp
theorem execLdex_kept (k : CoreId) (d a : Nat) (s t' : State) (h : execLdex k d a s = .next t') :
    t'.otp = s.otp ∧ t'.pending = s.pending := by
  unfold execLdex at h; cases h; simp
theorem execLdb_kept (k : CoreId) (d a b : Nat) (s t' : State) (h : execLdb k d a b s = .next t') :
    t'.otp = s.otp ∧ t'.pending = s.pending := by
  unfold execLdb at h; cases h; simp
theorem execSte_kept (k : CoreId) (d index : Nat) (s t' : State) (h : execSte k d index s = .next t') :
    t'.otp = s.otp ∧ t'.pending = s.pending := by
  unfold execSte at h; cases h; simp
theorem execStex_kept (k : CoreId) (d a : Nat) (s t' : State) (h : execStex k d a s = .next t') :
    t'.otp = s.otp ∧ t'.pending = s.pending := by
  unfold execStex at h; cases h; simp
theorem execBr_kept (k : CoreId) (off : BitVec 26) (s t' : State) (h : execBr k off s = .next t') :
    t'.otp = s.otp ∧ t'.pending = s.pending := by
  unfold execBr at h; cases h; simp
theorem execBl_kept (k : CoreId) (off : BitVec 26) (s t' : State) (h : execBl k off s = .next t') :
    t'.otp = s.otp ∧ t'.pending = s.pending := by
  unfold execBl at h; cases h; simp
theorem execJr_kept (k : CoreId) (a : Nat) (s t' : State) (h : execJr k a s = .next t') :
    t'.otp = s.otp ∧ t'.pending = s.pending := by
  unfold execJr at h; cases h; simp
theorem execSk_kept (k : CoreId) (a b cond : Nat) (s t' : State) (h : execSk k a b cond s = .next t') :
    t'.otp = s.otp ∧ t'.pending = s.pending := by
  unfold execSk at h; cases h; simp
theorem execSki_kept (k : CoreId) (a cond : Nat) (imm : BitVec 16) (s t' : State) (h : execSki k a cond imm s = .next t') :
    t'.otp = s.otp ∧ t'.pending = s.pending := by
  unfold execSki at h; cases h; simp
theorem execSkst_kept (k : CoreId) (mask : BitVec 4) (s t' : State) (h : execSkst k mask s = .next t') :
    t'.otp = s.otp ∧ t'.pending = s.pending := by
  unfold execSkst at h; cases h; simp
theorem execLoop_kept (k : CoreId) (a : Nat) (n : BitVec 16) (s t' : State) (h : execLoop k a n s = .next t') :
    t'.otp = s.otp ∧ t'.pending = s.pending := by
  unfold execLoop at h; cases h; simp
theorem execLoopi_kept (k : CoreId) (cnt : BitVec 12) (n : BitVec 14) (s t' : State) (h : execLoopi k cnt n s = .next t') :
    t'.otp = s.otp ∧ t'.pending = s.pending := by
  unfold execLoopi at h; cases h; simp
theorem execCanFrameReceived_kept (c : Nat) (f : CanFrame) (s t' : State) (h : execCanFrameReceived c f s = .next t') :
    t'.otp = s.otp ∧ t'.pending = s.pending := by
  unfold execCanFrameReceived at h; cases h; simp
theorem execCanTxStart_kept (c : Nat) (s t' : State) (h : execCanTxStart c s = .next t') :
    t'.otp = s.otp ∧ t'.pending = s.pending := by
  unfold execCanTxStart at h; cases h; simp
theorem execCanFrameSent_kept (c tdcv : Nat) (s t' : State) (h : execCanFrameSent c tdcv s = .next t') :
    t'.otp = s.otp ∧ t'.pending = s.pending := by
  unfold execCanFrameSent at h; cases h; simp
theorem execCanArbitrationLost_kept (c : Nat) (s t' : State) (h : execCanArbitrationLost c s = .next t') :
    t'.otp = s.otp ∧ t'.pending = s.pending := by
  unfold execCanArbitrationLost at h; cases h; simp
theorem execCanError_kept (c : Nat) (x : CanErr) (tec rec : Nat) (s t' : State) (h : execCanError c x tec rec s = .next t') :
    t'.otp = s.otp ∧ t'.pending = s.pending := by
  unfold execCanError at h; cases h; simp
theorem execBusoffHoldEnd_kept (c : Nat) (s t' : State) (h : execBusoffHoldEnd c s = .next t') :
    t'.otp = s.otp ∧ t'.pending = s.pending := by
  unfold execBusoffHoldEnd at h; cases h; simp
theorem execBusoffRecoveryDone_kept (c : Nat) (s t' : State) (h : execBusoffRecoveryDone c s = .next t') :
    t'.otp = s.otp ∧ t'.pending = s.pending := by
  unfold execBusoffRecoveryDone at h; cases h; simp
theorem execCanSyncDone_kept (c : Nat) (s t' : State) (h : execCanSyncDone c s = .next t') :
    t'.otp = s.otp ∧ t'.pending = s.pending := by
  unfold execCanSyncDone at h; cases h; simp [apply_ite State.otp, apply_ite State.pending]
theorem execBusoffCountReset_kept (c : Nat) (s t' : State) (h : execBusoffCountReset c s = .next t') :
    t'.otp = s.otp ∧ t'.pending = s.pending := by
  unfold execBusoffCountReset at h; cases h; simp [apply_ite State.otp, apply_ite State.pending]
theorem execCanWakeFrame_kept (c : Nat) (f : CanFrame) (good : Bool) (s t' : State) (h : execCanWakeFrame c f good s = .next t') :
    t'.otp = s.otp ∧ t'.pending = s.pending := by
  unfold execCanWakeFrame at h; cases h; simp
theorem execCanWakePattern_kept (c : Nat) (s t' : State) (h : execCanWakePattern c s = .next t') :
    t'.otp = s.otp ∧ t'.pending = s.pending := by
  unfold execCanWakePattern at h; cases h; simp
theorem execLinSlotStart_kept (n : Nat) (s t' : State) (h : execLinSlotStart n s = .next t') :
    t'.otp = s.otp ∧ t'.pending = s.pending := by
  unfold execLinSlotStart at h; cases h; simp
theorem execLinHeaderReceived_kept (n pid : Nat) (x : LinHead) (s t' : State) (h : execLinHeaderReceived n pid x s = .next t') :
    t'.otp = s.otp ∧ t'.pending = s.pending := by
  unfold execLinHeaderReceived at h; cases h; simp
theorem execLinFrameReceived_kept (n : Nat) (f : LinFrame) (s t' : State) (h : execLinFrameReceived n f s = .next t') :
    t'.otp = s.otp ∧ t'.pending = s.pending := by
  unfold execLinFrameReceived at h; cases h; simp
theorem execLinBusIdleTimeout_kept (n : Nat) (s t' : State) (h : execLinBusIdleTimeout n s = .next t') :
    t'.otp = s.otp ∧ t'.pending = s.pending := by
  unfold execLinBusIdleTimeout at h; cases h; simp
theorem execLinWakeRetry_kept (n : Nat) (s t' : State) (h : execLinWakeRetry n s = .next t') :
    t'.otp = s.otp ∧ t'.pending = s.pending := by
  unfold execLinWakeRetry at h; cases h; simp
theorem execLinRemoteWake_kept (n ticks : Nat) (s t' : State) (h : execLinRemoteWake n ticks s = .next t') :
    t'.otp = s.otp ∧ t'.pending = s.pending := by
  unfold execLinRemoteWake at h; cases h; simp
theorem execLinScheduleRestart_kept (n : Nat) (s t' : State) (h : execLinScheduleRestart n s = .next t') :
    t'.otp = s.otp ∧ t'.pending = s.pending := by
  unfold execLinScheduleRestart at h; cases h; simp
theorem execEthFrameReceived_kept (p : Nat) (f : List Byte) (s t' : State) (h : execEthFrameReceived p f s = .next t') :
    t'.otp = s.otp ∧ t'.pending = s.pending := by
  unfold execEthFrameReceived at h; cases h; simp
theorem execEthFrameTxStart_kept (p : Nat) (s t' : State) (h : execEthFrameTxStart p s = .next t') :
    t'.otp = s.otp ∧ t'.pending = s.pending := by
  unfold execEthFrameTxStart at h; cases h; simp
theorem execEthLinkChange_kept (p : Nat) (link : Bool) (speed : Nat) (plca : Bool) (s t' : State) (h : execEthLinkChange p link speed plca s = .next t') :
    t'.otp = s.otp ∧ t'.pending = s.pending := by
  unfold execEthLinkChange at h; cases h; simp
theorem execPdelayReqReceived_kept (p seq : Nat) (s t' : State) (h : execPdelayReqReceived p seq s = .next t') :
    t'.otp = s.otp ∧ t'.pending = s.pending := by
  unfold execPdelayReqReceived at h; cases h; simp
theorem execDoorbellData_kept (x : ReadResult) (s t' : State) (h : execDoorbellData x s = .next t') :
    t'.otp = s.otp ∧ t'.pending = s.pending := by
  unfold execDoorbellData at h; cases h; simp
theorem execDescriptorAccept_kept (q : Nat) (x : ReadResult) (s t' : State) (h : execDescriptorAccept q x s = .next t') :
    t'.otp = s.otp ∧ t'.pending = s.pending := by
  unfold execDescriptorAccept at h; cases h; simp
theorem execCqModerationTimer_kept (q : Nat) (s t' : State) (h : execCqModerationTimer q s = .next t') :
    t'.otp = s.otp ∧ t'.pending = s.pending := by
  unfold execCqModerationTimer at h; cases h; simp
theorem execRingDrainTimeout_kept (q : Nat) (s t' : State) (h : execRingDrainTimeout q s = .next t') :
    t'.otp = s.otp ∧ t'.pending = s.pending := by
  unfold execRingDrainTimeout at h; cases h; simp
theorem execNop_kept (t : Nat) (s t' : State) (h : execNop t s = .next t') :
    t'.otp = s.otp ∧ t'.pending = s.pending := by
  unfold execNop at h; cases h; simp
theorem execRingAdd_kept (t : Nat) (s t' : State) (h : execRingAdd t s = .next t') :
    t'.otp = s.otp ∧ t'.pending = s.pending := by
  unfold execRingAdd at h; cases h; simp
theorem execRingRemove_kept (t : Nat) (s t' : State) (h : execRingRemove t s = .next t') :
    t'.otp = s.otp ∧ t'.pending = s.pending := by
  unfold execRingRemove at h; cases h; simp
theorem execFuncReset_kept (t : Nat) (s t' : State) (h : execFuncReset t s = .next t') :
    t'.otp = s.otp ∧ t'.pending = s.pending := by
  unfold execFuncReset at h; cases h; simp
theorem execLedgerWrite_kept (t : Nat) (x : ReadResult) (s t' : State) (h : execLedgerWrite t x s = .next t') :
    t'.otp = s.otp ∧ t'.pending = s.pending := by
  unfold execLedgerWrite at h; cases h; simp
theorem execLedgerRead_kept (t : Nat) (s t' : State) (h : execLedgerRead t s = .next t') :
    t'.otp = s.otp ∧ t'.pending = s.pending := by
  unfold execLedgerRead at h; cases h; simp
theorem execImmediateWrite_kept (t : Nat) (s t' : State) (h : execImmediateWrite t s = .next t') :
    t'.otp = s.otp ∧ t'.pending = s.pending := by
  unfold execImmediateWrite at h; cases h; simp
theorem execUnitClear_kept (t : Nat) (s t' : State) (h : execUnitClear t s = .next t') :
    t'.otp = s.otp ∧ t'.pending = s.pending := by
  unfold execUnitClear at h; cases h; simp
theorem execCoreService_kept (t : Nat) (s t' : State) (h : execCoreService t s = .next t') :
    t'.otp = s.otp ∧ t'.pending = s.pending := by
  unfold execCoreService at h; cases h; simp
theorem execCanTx_kept (t : Nat) (x : ReadResult) (s t' : State) (h : execCanTx t x s = .next t') :
    t'.otp = s.otp ∧ t'.pending = s.pending := by
  unfold execCanTx at h; cases h; simp
theorem execCanCancel_kept (t : Nat) (s t' : State) (h : execCanCancel t s = .next t') :
    t'.otp = s.otp ∧ t'.pending = s.pending := by
  unfold execCanCancel at h; cases h; simp
theorem execCanRecover_kept (t : Nat) (s t' : State) (h : execCanRecover t s = .next t') :
    t'.otp = s.otp ∧ t'.pending = s.pending := by
  unfold execCanRecover at h; cases h; simp
theorem execCanMode_kept (t : Nat) (s t' : State) (h : execCanMode t s = .next t') :
    t'.otp = s.otp ∧ t'.pending = s.pending := by
  unfold execCanMode at h; cases h; simp
theorem execRxPost_kept (t : Nat) (s t' : State) (h : execRxPost t s = .next t') :
    t'.otp = s.otp ∧ t'.pending = s.pending := by
  unfold execRxPost at h; cases h; simp
theorem execLinSched_kept (t : Nat) (s t' : State) (h : execLinSched t s = .next t') :
    t'.otp = s.otp ∧ t'.pending = s.pending := by
  unfold execLinSched at h; cases h; simp
theorem execLinDiag_kept (t : Nat) (s t' : State) (h : execLinDiag t s = .next t') :
    t'.otp = s.otp ∧ t'.pending = s.pending := by
  unfold execLinDiag at h; cases h; simp
theorem execEthTx_kept (t : Nat) (x : ReadResult) (s t' : State) (h : execEthTx t x s = .next t') :
    t'.otp = s.otp ∧ t'.pending = s.pending := by
  unfold execEthTx at h; cases h; simp
theorem execCipher_kept (t : Nat) (x aux : ReadResult) (s t' : State) (h : execCipher t x aux s = .next t') :
    t'.otp = s.otp ∧ t'.pending = s.pending := by
  unfold execCipher at h; cases h; simp
theorem execHash_kept (t : Nat) (x : ReadResult) (s t' : State) (h : execHash t x s = .next t') :
    t'.otp = s.otp ∧ t'.pending = s.pending := by
  unfold execHash at h; cases h; simp
theorem execDerive_kept (t : Nat) (s t' : State) (h : execDerive t s = .next t') :
    t'.otp = s.otp ∧ t'.pending = s.pending := by
  unfold execDerive at h; cases h; simp
theorem execSlotRetire_kept (t : Nat) (s t' : State) (h : execSlotRetire t s = .next t') :
    t'.otp = s.otp ∧ t'.pending = s.pending := by
  unfold execSlotRetire at h; cases h; simp
theorem execSlotClear_kept (t : Nat) (s t' : State) (h : execSlotClear t s = .next t') :
    t'.otp = s.otp ∧ t'.pending = s.pending := by
  unfold execSlotClear at h; cases h; simp
theorem execAlarm_kept (t : Nat) (s t' : State) (h : execAlarm t s = .next t') :
    t'.otp = s.otp ∧ t'.pending = s.pending := by
  unfold execAlarm at h; cases h; simp
theorem execCipherRequestStart_kept (i : Nat) (s t' : State) (h : execCipherRequestStart i s = .next t') :
    t'.otp = s.otp ∧ t'.pending = s.pending := by
  unfold execCipherRequestStart at h; cases h; simp
theorem execNonceCeilingWritten_kept (i : Nat) (s t' : State) (h : execNonceCeilingWritten i s = .next t') :
    t'.otp = s.otp ∧ t'.pending = s.pending := by
  unfold execNonceCeilingWritten at h; cases h; simp
theorem execCipherRequestEnd_kept (i : Nat) (s t' : State) (h : execCipherRequestEnd i s = .next t') :
    t'.otp = s.otp ∧ t'.pending = s.pending := by
  unfold execCipherRequestEnd at h; cases h; simp
theorem execCipherAlarm_kept (a : AlarmSrc) (s t' : State) (h : execCipherAlarm a s = .next t') :
    t'.otp = s.otp ∧ t'.pending = s.pending := by
  unfold execCipherAlarm at h; cases h; simp [apply_ite State.otp, apply_ite State.pending]
theorem execChallenge_kept (t : Nat) (s t' : State) (h : execChallenge t s = .next t') :
    t'.otp = s.otp ∧ t'.pending = s.pending := by
  unfold execChallenge at h; cases h; simp
theorem execTokenRegister_kept (t : Nat) (s t' : State) (h : execTokenRegister t s = .next t') :
    t'.otp = s.otp ∧ t'.pending = s.pending := by
  unfold execTokenRegister at h; cases h; simp
theorem execTokenRemove_kept (t : Nat) (s t' : State) (h : execTokenRemove t s = .next t') :
    t'.otp = s.otp ∧ t'.pending = s.pending := by
  unfold execTokenRemove at h; cases h; simp
theorem execCalibrate_kept (t : Nat) (s t' : State) (h : execCalibrate t s = .next t') :
    t'.otp = s.otp ∧ t'.pending = s.pending := by
  unfold execCalibrate at h; cases h; simp
theorem execLfDriverShort_kept (k cur : Nat) (s t' : State) (h : execLfDriverShort k cur s = .next t') :
    t'.otp = s.otp ∧ t'.pending = s.pending := by
  unfold execLfDriverShort at h; cases h; simp
theorem execLfDriverOpen_kept (k peak : Nat) (s t' : State) (h : execLfDriverOpen k peak s = .next t') :
    t'.otp = s.otp ∧ t'.pending = s.pending := by
  unfold execLfDriverOpen at h; cases h; simp
theorem execTkrFrameReceived_kept (f : List Byte) (s t' : State) (h : execTkrFrameReceived f s = .next t') :
    t'.otp = s.otp ∧ t'.pending = s.pending := by
  unfold execTkrFrameReceived at h; cases h; simp [apply_ite State.otp, apply_ite State.pending]
theorem execButtonFrame_kept (f : List Byte) (s t' : State) (h : execButtonFrame f s = .next t') :
    t'.otp = s.otp ∧ t'.pending = s.pending := by
  unfold execButtonFrame at h; cases h; simp
theorem execFaultRaise_kept (p : Path) (s t' : State) (h : execFaultRaise p s = .next t') :
    t'.otp = s.otp ∧ t'.pending = s.pending := by
  unfold execFaultRaise at h; cases h; (try dsimp only); repeat' split
  all_goals simp
theorem execFaultRecovery_kept (r : Nat) (s t' : State) (h : execFaultRecovery r s = .next t') :
    t'.otp = s.otp ∧ t'.pending = s.pending := by
  unfold execFaultRecovery at h; cases h; simp
theorem execFaultRead_kept (t : Nat) (s t' : State) (h : execFaultRead t s = .next t') :
    t'.otp = s.otp ∧ t'.pending = s.pending := by
  unfold execFaultRead at h; cases h; simp
theorem execFaultNotices_kept (t : Nat) (s t' : State) (h : execFaultNotices t s = .next t') :
    t'.otp = s.otp ∧ t'.pending = s.pending := by
  unfold execFaultNotices at h; cases h; simp
theorem execFaultClear_kept (t : Nat) (s t' : State) (h : execFaultClear t s = .next t') :
    t'.otp = s.otp ∧ t'.pending = s.pending := by
  unfold execFaultClear at h; cases h; simp
theorem execFaultInject_kept (t : Nat) (s t' : State) (h : execFaultInject t s = .next t') :
    t'.otp = s.otp ∧ t'.pending = s.pending := by
  unfold execFaultInject at h; cases h; simp
theorem execRepeatWriteback_kept (n : Nat) (s t' : State) (h : execRepeatWriteback n s = .next t') :
    t'.otp = s.otp ∧ t'.pending = s.pending := by
  unfold execRepeatWriteback at h; cases h; simp
theorem execEvrRead_kept (t : Nat) (s t' : State) (h : execEvrRead t s = .next t') :
    t'.otp = s.otp ∧ t'.pending = s.pending := by
  unfold execEvrRead at h; cases h; simp
theorem execEvrMark_kept (t : Nat) (s t' : State) (h : execEvrMark t s = .next t') :
    t'.otp = s.otp ∧ t'.pending = s.pending := by
  unfold execEvrMark at h; cases h; simp
theorem execEvrClear_kept (t : Nat) (s t' : State) (h : execEvrClear t s = .next t') :
    t'.otp = s.otp ∧ t'.pending = s.pending := by
  unfold execEvrClear at h; cases h; simp
theorem execCfgWrite_kept (t : Nat) (x : ReadResult) (s t' : State) (h : execCfgWrite t x s = .next t') :
    t'.otp = s.otp ∧ t'.pending = s.pending := by
  unfold execCfgWrite at h; cases h; simp
theorem execCfgCommit_kept (t : Nat) (s t' : State) (h : execCfgCommit t s = .next t') :
    t'.otp = s.otp ∧ t'.pending = s.pending := by
  unfold execCfgCommit at h; cases h; simp
theorem execCfgRollback_kept (t : Nat) (s t' : State) (h : execCfgRollback t s = .next t') :
    t'.otp = s.otp ∧ t'.pending = s.pending := by
  unfold execCfgRollback at h; cases h; simp
theorem execCfgStatus_kept (t : Nat) (s t' : State) (h : execCfgStatus t s = .next t') :
    t'.otp = s.otp ∧ t'.pending = s.pending := by
  unfold execCfgStatus at h; cases h; simp
theorem execTestMode_kept (t : Nat) (s t' : State) (h : execTestMode t s = .next t') :
    t'.otp = s.otp ∧ t'.pending = s.pending := by
  unfold execTestMode at h; cases h; simp
theorem execDieParamsReceived_kept (d : Die) (s t' : State) (h : execDieParamsReceived d s = .next t') :
    t'.otp = s.otp ∧ t'.pending = s.pending := by
  unfold execDieParamsReceived at h; cases h; simp
theorem execDieParamAck_kept (d : Die) (s t' : State) (h : execDieParamAck d s = .next t') :
    t'.otp = s.otp ∧ t'.pending = s.pending := by
  unfold execDieParamAck at h; cases h; simp
theorem execLanternReceived_kept (x : LanternRx) (s t' : State) (h : execLanternReceived x s = .next t') :
    t'.otp = s.otp ∧ t'.pending = s.pending := by
  unfold execLanternReceived at h; cases h; simp
theorem execPeerSilent_kept (i : Nat) (s t' : State) (h : execPeerSilent i s = .next t') :
    t'.otp = s.otp ∧ t'.pending = s.pending := by
  unfold execPeerSilent at h; cases h; simp
theorem execPwrVote_kept (t : Nat) (s t' : State) (h : execPwrVote t s = .next t') :
    t'.otp = s.otp ∧ t'.pending = s.pending := by
  unfold execPwrVote at h; cases h; simp
theorem execPwrStatus_kept (t : Nat) (s t' : State) (h : execPwrStatus t s = .next t') :
    t'.otp = s.otp ∧ t'.pending = s.pending := by
  unfold execPwrStatus at h; cases h; simp
theorem execPwrTimer_kept (t : Nat) (s t' : State) (h : execPwrTimer t s = .next t') :
    t'.otp = s.otp ∧ t'.pending = s.pending := by
  unfold execPwrTimer at h; cases h; simp
theorem execTkrWake_kept (ticks : Nat) (s t' : State) (h : execTkrWake ticks s = .next t') :
    t'.otp = s.otp ∧ t'.pending = s.pending := by
  unfold execTkrWake at h; cases h; simp [apply_ite State.otp, apply_ite State.pending]
theorem execTamper_kept (ticks : Nat) (s t' : State) (h : execTamper ticks s = .next t') :
    t'.otp = s.otp ∧ t'.pending = s.pending := by
  unfold execTamper at h; cases h; simp [apply_ite State.otp, apply_ite State.pending]
theorem execMgpAddressMatch_kept (addr : Nat) (s t' : State) (h : execMgpAddressMatch addr s = .next t') :
    t'.otp = s.otp ∧ t'.pending = s.pending := by
  unfold execMgpAddressMatch at h; cases h; simp [apply_ite State.otp, apply_ite State.pending]
theorem execMgpReset_kept (data : Nat) (pass : List Bool) (s t' : State) (h : execMgpReset data pass s = .next t') :
    t'.otp = s.otp ∧ t'.pending = s.pending := by
  unfold execMgpReset at h; cases h; simp [apply_ite State.otp, apply_ite State.pending]
theorem execMgpDebug_kept (_cmd : Nat) (s t' : State) (h : execMgpDebug _cmd s = .next t') :
    t'.otp = s.otp ∧ t'.pending = s.pending := by
  unfold execMgpDebug at h; cases h; simp
theorem execPowerOn_kept (a1 a0 : Bool) (s t' : State) (h : execPowerOn a1 a0 s = .next t') :
    t'.otp = s.otp ∧ t'.pending = s.pending := by
  unfold execPowerOn at h; cases h; simp
theorem execRqbStatusRead_kept (status : Byte) (s t' : State) (h : execRqbStatusRead status s = .next t') :
    t'.otp = s.otp ∧ t'.pending = s.pending := by
  unfold execRqbStatusRead at h; cases h; simp
theorem execDieLReady_kept (pass : List Bool) (s t' : State) (h : execDieLReady pass s = .next t') :
    t'.otp = s.otp ∧ t'.pending = s.pending := by
  unfold execDieLReady at h; cases h; simp
theorem execDomainReady_kept (d : Die) (s t' : State) (h : execDomainReady d s = .next t') :
    t'.otp = s.otp ∧ t'.pending = s.pending := by
  unfold execDomainReady at h; cases h; simp
theorem execDomainStartTimeout_kept (d : Die) (s t' : State) (h : execDomainStartTimeout d s = .next t') :
    t'.otp = s.otp ∧ t'.pending = s.pending := by
  unfold execDomainStartTimeout at h; cases h; simp
theorem execDomainDemandWake_kept (d : Die) (s t' : State) (h : execDomainDemandWake d s = .next t') :
    t'.otp = s.otp ∧ t'.pending = s.pending := by
  unfold execDomainDemandWake at h; cases h; simp [apply_ite State.otp, apply_ite State.pending]
theorem execDomainStallTimeout_kept (d : Die) (s t' : State) (h : execDomainStallTimeout d s = .next t') :
    t'.otp = s.otp ∧ t'.pending = s.pending := by
  unfold execDomainStallTimeout at h; cases h; simp
theorem execRailLoss_kept (rail ticks : Nat) (s t' : State) (h : execRailLoss rail ticks s = .next t') :
    t'.otp = s.otp ∧ t'.pending = s.pending := by
  unfold execRailLoss at h; cases h; simp [apply_ite State.otp, apply_ite State.pending]
theorem execSupplyUvEntry_kept (d : Die) (s t' : State) (h : execSupplyUvEntry d s = .next t') :
    t'.otp = s.otp ∧ t'.pending = s.pending := by
  unfold execSupplyUvEntry at h; cases h; simp [apply_ite State.otp, apply_ite State.pending]
theorem execSupplyUvExit_kept (d : Die) (s t' : State) (h : execSupplyUvExit d s = .next t') :
    t'.otp = s.otp ∧ t'.pending = s.pending := by
  unfold execSupplyUvExit at h; cases h; simp
theorem execSupplyOvEntry_kept (d : Die) (s t' : State) (h : execSupplyOvEntry d s = .next t') :
    t'.otp = s.otp ∧ t'.pending = s.pending := by
  unfold execSupplyOvEntry at h; cases h; simp [apply_ite State.otp, apply_ite State.pending]
theorem execSupplyOvExit_kept (d : Die) (s t' : State) (h : execSupplyOvExit d s = .next t') :
    t'.otp = s.otp ∧ t'.pending = s.pending := by
  unfold execSupplyOvExit at h; cases h; simp
theorem execGndshiftEntry_kept (d : Die) (s t' : State) (h : execGndshiftEntry d s = .next t') :
    t'.otp = s.otp ∧ t'.pending = s.pending := by
  unfold execGndshiftEntry at h; cases h; simp [apply_ite State.otp, apply_ite State.pending]
theorem execGndshiftExit_kept (d : Die) (s t' : State) (h : execGndshiftExit d s = .next t') :
    t'.otp = s.otp ∧ t'.pending = s.pending := by
  unfold execGndshiftExit at h; cases h; simp
theorem execPowerDieReset_kept (d : Die) (vbat : Nat) (s t' : State) (h : execPowerDieReset d vbat s = .next t') :
    t'.otp = s.otp ∧ t'.pending = s.pending := by
  unfold execPowerDieReset at h; cases h; simp [apply_ite State.otp, apply_ite State.pending]
theorem execCandleReset_kept (mv : Nat) (s t' : State) (h : execCandleReset mv s = .next t') :
    t'.otp = s.otp ∧ t'.pending = s.pending := by
  unfold execCandleReset at h; cases h; simp [apply_ite State.otp, apply_ite State.pending]
theorem execDroopRecordLimit_kept (d : Die) (s t' : State) (h : execDroopRecordLimit d s = .next t') :
    t'.otp = s.otp ∧ t'.pending = s.pending := by
  unfold execDroopRecordLimit at h; cases h; simp
theorem execValveCurrentTargetReached_kept (n cur : Nat) (s t' : State) (h : execValveCurrentTargetReached n cur s = .next t') :
    t'.otp = s.otp ∧ t'.pending = s.pending := by
  unfold execValveCurrentTargetReached at h; cases h; simp
theorem execValveOffTimeEnd_kept (n : Nat) (s t' : State) (h : execValveOffTimeEnd n s = .next t') :
    t'.otp = s.otp ∧ t'.pending = s.pending := by
  unfold execValveOffTimeEnd at h; cases h; simp
theorem execLinResponseTimeout_kept (n : Nat) (s t' : State) (h : execLinResponseTimeout n s = .next t') :
    t'.otp = s.otp ∧ t'.pending = s.pending := by
  unfold execLinResponseTimeout at h; cases h; simp
theorem execEthFrameTxEnd_kept (p : Nat) (s t' : State) (h : execEthFrameTxEnd p s = .next t') :
    t'.otp = s.otp ∧ t'.pending = s.pending := by
  unfold execEthFrameTxEnd at h; cases h; simp
theorem execForwardingDatabaseAgeing_kept (mac vid : Nat) (s t' : State) (h : execForwardingDatabaseAgeing mac vid s = .next t') :
    t'.otp = s.otp ∧ t'.pending = s.pending := by
  unfold execForwardingDatabaseAgeing at h; cases h; simp
theorem execPcieCompletionTimeout_kept (x : ReadKind) (s t' : State) (h : execPcieCompletionTimeout x s = .next t') :
    t'.otp = s.otp ∧ t'.pending = s.pending := by
  unfold execPcieCompletionTimeout at h; cases h; simp
theorem execBusMasterEnableChange_kept (bme d3 : Bool) (s t' : State) (h : execBusMasterEnableChange bme d3 s = .next t') :
    t'.otp = s.otp ∧ t'.pending = s.pending := by
  unfold execBusMasterEnableChange at h; cases h; simp
theorem execPwrCtlVotePark_kept (s t' : State) (h : execPwrCtlVotePark s = .next t') :
    t'.otp = s.otp ∧ t'.pending = s.pending := by
  unfold execPwrCtlVotePark at h; cases h; simp [apply_ite State.otp, apply_ite State.pending]
theorem execPwrCtlVoteWithdraw_kept (s t' : State) (h : execPwrCtlVoteWithdraw s = .next t') :
    t'.otp = s.otp ∧ t'.pending = s.pending := by
  unfold execPwrCtlVoteWithdraw at h; cases h; simp [apply_ite State.otp, apply_ite State.pending]
theorem execPcieLinkDown_kept (s t' : State) (h : execPcieLinkDown s = .next t') :
    t'.otp = s.otp ∧ t'.pending = s.pending := by
  unfold execPcieLinkDown at h; cases h; simp
theorem execCrystalStable_kept (s t' : State) (h : execCrystalStable s = .next t') :
    t'.otp = s.otp ∧ t'.pending = s.pending := by
  unfold execCrystalStable at h; cases h; simp
theorem execCrystalFail_kept (s t' : State) (h : execCrystalFail s = .next t') :
    t'.otp = s.otp ∧ t'.pending = s.pending := by
  unfold execCrystalFail at h; cases h; simp
theorem execStartingTimeout_kept (s t' : State) (h : execStartingTimeout s = .next t') :
    t'.otp = s.otp ∧ t'.pending = s.pending := by
  unfold execStartingTimeout at h; cases h; simp
theorem execDegradedReturn_kept (s t' : State) (h : execDegradedReturn s = .next t') :
    t'.otp = s.otp ∧ t'.pending = s.pending := by
  unfold execDegradedReturn at h; cases h; simp
theorem execAsConverged_kept (s t' : State) (h : execAsConverged s = .next t') :
    t'.otp = s.otp ∧ t'.pending = s.pending := by
  unfold execAsConverged at h; cases h; simp
theorem execAsSyncLoss_kept (s t' : State) (h : execAsSyncLoss s = .next t') :
    t'.otp = s.otp ∧ t'.pending = s.pending := by
  unfold execAsSyncLoss at h; cases h; simp
theorem execTimeMarkerSend_kept (s t' : State) (h : execTimeMarkerSend s = .next t') :
    t'.otp = s.otp ∧ t'.pending = s.pending := by
  unfold execTimeMarkerSend at h; cases h; simp
theorem execLedgerIntakeCommit_kept (s t' : State) (h : execLedgerIntakeCommit s = .next t') :
    t'.otp = s.otp ∧ t'.pending = s.pending := by
  unfold execLedgerIntakeCommit at h; cases h; simp
theorem execFrameZeroStart_kept (s t' : State) (h : execFrameZeroStart s = .next t') :
    t'.otp = s.otp ∧ t'.pending = s.pending := by
  unfold execFrameZeroStart at h; cases h; simp
theorem execFrameBoundary_kept (s t' : State) (h : execFrameBoundary s = .next t') :
    t'.otp = s.otp ∧ t'.pending = s.pending := by
  unfold execFrameBoundary at h; cases h; simp
theorem execStagingClose_kept (s t' : State) (h : execStagingClose s = .next t') :
    t'.otp = s.otp ∧ t'.pending = s.pending := by
  unfold execStagingClose at h; cases h; simp
theorem execBoostReady_kept (s t' : State) (h : execBoostReady s = .next t') :
    t'.otp = s.otp ∧ t'.pending = s.pending := by
  unfold execBoostReady at h; cases h; simp
theorem execBoostReadyLoss_kept (s t' : State) (h : execBoostReadyLoss s = .next t') :
    t'.otp = s.otp ∧ t'.pending = s.pending := by
  unfold execBoostReadyLoss at h; cases h; simp
theorem execBoostNotReady_kept (s t' : State) (h : execBoostNotReady s = .next t') :
    t'.otp = s.otp ∧ t'.pending = s.pending := by
  unfold execBoostNotReady at h; cases h; simp
theorem execBoostOvp_kept (s t' : State) (h : execBoostOvp s = .next t') :
    t'.otp = s.otp ∧ t'.pending = s.pending := by
  unfold execBoostOvp at h; cases h; simp
theorem execLfControlStep_kept (s t' : State) (h : execLfControlStep s = .next t') :
    t'.otp = s.otp ∧ t'.pending = s.pending := by
  unfold execLfControlStep at h; cases h; simp
theorem execLfSeqOverrun_kept (s t' : State) (h : execLfSeqOverrun s = .next t') :
    t'.otp = s.otp ∧ t'.pending = s.pending := by
  unfold execLfSeqOverrun at h; cases h; simp [apply_ite State.otp, apply_ite State.pending]
theorem execDoorbellFetch_kept (s t' : State) (h : execDoorbellFetch s = .next t') :
    t'.otp = s.otp ∧ t'.pending = s.pending := by
  unfold execDoorbellFetch at h; cases h; simp
theorem execCipherStartDone_kept (s t' : State) (h : execCipherStartDone s = .next t') :
    t'.otp = s.otp ∧ t'.pending = s.pending := by
  unfold execCipherStartDone at h; cases h; simp
theorem execEraseComplete_kept (s t' : State) (h : execEraseComplete s = .next t') :
    t'.otp = s.otp ∧ t'.pending = s.pending := by
  unfold execEraseComplete at h; cases h; simp [apply_ite State.otp, apply_ite State.pending]
theorem execChallengeStart_kept (s t' : State) (h : execChallengeStart s = .next t') :
    t'.otp = s.otp ∧ t'.pending = s.pending := by
  unfold execChallengeStart at h; cases h; simp
theorem execChallengeEnd_kept (s t' : State) (h : execChallengeEnd s = .next t') :
    t'.otp = s.otp ∧ t'.pending = s.pending := by
  unfold execChallengeEnd at h; cases h; simp
theorem execTkrStrobe_kept (s t' : State) (h : execTkrStrobe s = .next t') :
    t'.otp = s.otp ∧ t'.pending = s.pending := by
  unfold execTkrStrobe at h; cases h; simp [apply_ite State.otp, apply_ite State.pending]
theorem execReplySlotEnd_kept (s t' : State) (h : execReplySlotEnd s = .next t') :
    t'.otp = s.otp ∧ t'.pending = s.pending := by
  unfold execReplySlotEnd at h; cases h; simp
theorem execReplyVerified_kept (s t' : State) (h : execReplyVerified s = .next t') :
    t'.otp = s.otp ∧ t'.pending = s.pending := by
  unfold execReplyVerified at h; cases h; simp
theorem execLockoutEnd_kept (s t' : State) (h : execLockoutEnd s = .next t') :
    t'.otp = s.otp ∧ t'.pending = s.pending := by
  unfold execLockoutEnd at h; cases h; simp
theorem execSessionTimeout_kept (s t' : State) (h : execSessionTimeout s = .next t') :
    t'.otp = s.otp ∧ t'.pending = s.pending := by
  unfold execSessionTimeout at h; cases h; simp
theorem execEventRecord_kept (s t' : State) (h : execEventRecord s = .next t') :
    t'.otp = s.otp ∧ t'.pending = s.pending := by
  unfold execEventRecord at h; cases h; simp
theorem execOpsecTick_kept (s t' : State) (h : execOpsecTick s = .next t') :
    t'.otp = s.otp ∧ t'.pending = s.pending := by
  unfold execOpsecTick at h; cases h; simp
theorem execSwapTimeout_kept (s t' : State) (h : execSwapTimeout s = .next t') :
    t'.otp = s.otp ∧ t'.pending = s.pending := by
  unfold execSwapTimeout at h; cases h; simp
theorem execLanternDue_kept (s t' : State) (h : execLanternDue s = .next t') :
    t'.otp = s.otp ∧ t'.pending = s.pending := by
  unfold execLanternDue at h; cases h; simp
theorem execWakeStart_kept (s t' : State) (h : execWakeStart s = .next t') :
    t'.otp = s.otp ∧ t'.pending = s.pending := by
  unfold execWakeStart at h; cases h; simp
theorem execMgpStatus_kept (s t' : State) (h : execMgpStatus s = .next t') :
    t'.otp = s.otp ∧ t'.pending = s.pending := by
  unfold execMgpStatus at h; cases h; simp [apply_ite State.otp, apply_ite State.pending]
theorem execParkTimerWake_kept (s t' : State) (h : execParkTimerWake s = .next t') :
    t'.otp = s.otp ∧ t'.pending = s.pending := by
  unfold execParkTimerWake at h; cases h; simp [apply_ite State.otp, apply_ite State.pending]
theorem execWakeRetry_kept (s t' : State) (h : execWakeRetry s = .next t') :
    t'.otp = s.otp ∧ t'.pending = s.pending := by
  unfold execWakeRetry at h; cases h; simp
theorem execRqbRequest_kept (s t' : State) (h : execRqbRequest s = .next t') :
    t'.otp = s.otp ∧ t'.pending = s.pending := by
  unfold execRqbRequest at h; cases h; simp
theorem execRqbRetry_kept (s t' : State) (h : execRqbRetry s = .next t') :
    t'.otp = s.otp ∧ t'.pending = s.pending := by
  unfold execRqbRetry at h; cases h; simp
theorem execRegFail_kept (s t' : State) (h : execRegFail s = .next t') :
    t'.otp = s.otp ∧ t'.pending = s.pending := by
  unfold execRegFail at h; cases h; simp
theorem execShutdownTimeout_kept (s t' : State) (h : execShutdownTimeout s = .next t') :
    t'.otp = s.otp ∧ t'.pending = s.pending := by
  unfold execShutdownTimeout at h; cases h; simp
theorem execParkEntry_kept (s t' : State) (h : execParkEntry s = .next t') :
    t'.otp = s.otp ∧ t'.pending = s.pending := by
  unfold execParkEntry at h; cases h; simp
theorem execWakeVoltageOk_kept (s t' : State) (h : execWakeVoltageOk s = .next t') :
    t'.otp = s.otp ∧ t'.pending = s.pending := by
  unfold execWakeVoltageOk at h; cases h; simp
theorem execBoostOvpEnd_kept (s t' : State) (h : execBoostOvpEnd s = .next t') :
    t'.otp = s.otp ∧ t'.pending = s.pending := by
  unfold execBoostOvpEnd at h; cases h; simp
theorem execPcieLinkUp_kept (s t' : State) (h : execPcieLinkUp s = .next t') :
    t'.otp = s.otp ∧ t'.pending = s.pending := by
  unfold execPcieLinkUp at h; cases h; simp

end Sys2Proof.Machine
end

