-- ==== Sys2Proof/Laws/Registers.lean ====
section
/-! SUPPORT. Register words, register fields and MRAM bytes: what is read after a write, and that a write keeps the canonical form. -/

namespace Sys2Proof.Machine

open Sys2Proof.Safety

theorem State.word_setWord_self (s : State) (h : RegsCanonical s) (off : Nat) (v : W32) : (s.setWord off v).word off = v :=
  SMap.get_set_self resetWord s.regs off v h

theorem State.word_setWord_ne (s : State) (h : RegsCanonical s) {off j : Nat} (hj : j ≠ off) (v : W32) : (s.setWord off v).word j = s.word j :=
  SMap.get_set_ne resetWord s.regs hj v h

theorem State.setWord_canonical (s : State) (h : RegsCanonical s) (off : Nat) (v : W32) : RegsCanonical (s.setWord off v) :=
  SMap.wf_set resetWord s.regs off v h

theorem State.wr_canonical (s : State) (h : RegsCanonical s) (f : Fld) (v : Nat) : RegsCanonical (s.wr f v) := s.setWord_canonical h _ _

theorem State.wr64_canonical (s : State) (h : RegsCanonical s) (f : Fld) (v : Nat) : RegsCanonical (s.wr64 f v) :=
  State.setWord_canonical _ (s.setWord_canonical h _ _) _ _

/-- A write of a field leaves every other word alone. -/
theorem State.word_wr_ne (s : State) (h : RegsCanonical s) (f : Fld) (v : Nat) {j : Nat} (hj : j ≠ f.off) : (s.wr f v).word j = s.word j :=
  s.word_setWord_ne h hj _

theorem State.rd_wr_ne (s : State) (h : RegsCanonical s) (f g : Fld) (v : Nat) (hg : g.off ≠ f.off) : (s.wr f v).rd g = s.rd g := by
  simp only [State.rd, s.word_wr_ne h f v hg]

theorem mix_lt {a b p q : Nat} (ha : a < p) (hb : b < q) : a + b * p < q * p := by
  have h : (b + 1) * p ≤ q * p := Nat.mul_le_mul_right p hb
  rw [Nat.add_mul, Nat.one_mul] at h; omega

theorem insertField_low (x lo w v : Nat) : x % 2 ^ lo + v % 2 ^ w * 2 ^ lo < 2 ^ (lo + w) := by
  have h1 : x % 2 ^ lo < 2 ^ lo := Nat.mod_lt _ (Nat.two_pow_pos lo)
  have h2 : v % 2 ^ w < 2 ^ w := Nat.mod_lt _ (Nat.two_pow_pos w)
  rw [Nat.add_comm lo w, pow_add]; exact mix_lt h1 h2

theorem insertField_lt (x lo w v : Nat) (hx : x < 2 ^ 32) (hw : lo + w ≤ 32) : insertField x lo w v < 2 ^ 32 := by
  obtain ⟨k, hk⟩ := Nat.exists_eq_add_of_le hw
  have h3 : x / 2 ^ (lo + w) < 2 ^ k := by
    rw [Nat.div_lt_iff_lt_mul (by positivity), ← pow_add, Nat.add_comm k, ← hk]; exact hx
  rw [hk, Nat.add_comm (lo + w), pow_add _ k]; exact mix_lt (insertField_low x lo w v) h3

theorem insertField_field (x lo w v : Nat) : insertField x lo w v / 2 ^ lo % 2 ^ w = v % 2 ^ w := by
  unfold insertField
  have h1 : x % 2 ^ lo < 2 ^ lo := Nat.mod_lt _ (by positivity)
  rw [show x % 2 ^ lo + v % 2 ^ w * 2 ^ lo + x / 2 ^ (lo + w) * 2 ^ (lo + w)
      = x % 2 ^ lo + 2 ^ lo * (v % 2 ^ w + 2 ^ w * (x / 2 ^ (lo + w))) by rw [pow_add]; ring]
  rw [Nat.add_mul_div_left _ _ (by positivity), Nat.div_eq_of_lt h1, Nat.zero_add, Nat.add_mul_mod_self_left, Nat.mod_mod]

/-- A field reads as what was last written to it, cut to its width. -/
theorem State.rd_wr_self (s : State) (h : RegsCanonical s) (f : Fld) (v : Nat) (hf : f.lo + f.w ≤ 32) : (s.wr f v).rd f = v % 2 ^ f.w := by
  have hi := insertField_lt (s.word f.off).toNat f.lo f.w v (s.word f.off).isLt hf
  simp only [State.rd, State.wr, s.word_setWord_self h, BitVec.toNat_ofNat, Nat.mod_eq_of_lt hi, insertField_field]

theorem insertField_below (x lo w v lo' w' : Nat) (h : lo' + w' ≤ lo) : insertField x lo w v / 2 ^ lo' % 2 ^ w' = x / 2 ^ lo' % 2 ^ w' := by
  obtain ⟨k, rfl⟩ := Nat.exists_eq_add_of_le h
  have key : ∀ a b : Nat, (a + 2 ^ (lo' + w' + k) * b) / 2 ^ lo' % 2 ^ w' = a / 2 ^ lo' % 2 ^ w' := by
    intro a b
    rw [show 2 ^ (lo' + w' + k) * b = 2 ^ lo' * (2 ^ w' * (2 ^ k * b)) by rw [pow_add, pow_add]; ring,
      Nat.add_mul_div_left _ _ (by positivity), Nat.add_mul_mod_self_left]
  unfold insertField
  rw [show x % 2 ^ (lo' + w' + k) + v % 2 ^ w * 2 ^ (lo' + w' + k) + x / 2 ^ (lo' + w' + k + w) * 2 ^ (lo' + w' + k + w)
      = x % 2 ^ (lo' + w' + k) + 2 ^ (lo' + w' + k) * (v % 2 ^ w + 2 ^ w * (x / 2 ^ (lo' + w' + k + w))) by rw [pow_add _ (lo' + w' + k) w]; ring,
    key]
  conv_rhs => rw [← Nat.mod_add_div x (2 ^ (lo' + w' + k)), key]

theorem insertField_above (x lo w v lo' : Nat) (h : lo + w ≤ lo') : insertField x lo w v / 2 ^ lo' = x / 2 ^ lo' := by
  obtain ⟨k, rfl⟩ := Nat.exists_eq_add_of_le h
  have hl := insertField_low x lo w v
  rw [pow_add _ (lo + w) k, ← Nat.div_div_eq_div_mul, ← Nat.div_div_eq_div_mul]
  unfold insertField
  rw [Nat.add_mul_div_right _ _ (by positivity), Nat.div_eq_of_lt hl, Nat.zero_add]

/-- A write of a field leaves the other fields of its word alone. -/
theorem State.rd_wr_disjoint (s : State) (h : RegsCanonical s) (f g : Fld) (v : Nat) (hf : f.lo + f.w ≤ 32)
    (hg : g.lo + g.w ≤ f.lo ∨ f.lo + f.w ≤ g.lo) : (s.wr f v).rd g = s.rd g := by
  by_cases ho : g.off = f.off
  · have hi := insertField_lt (s.word f.off).toNat f.lo f.w v (s.word f.off).isLt hf
    simp only [State.rd, State.wr, ho, s.word_setWord_self h, BitVec.toNat_ofNat, Nat.mod_eq_of_lt hi]
    obtain hg | hg := hg
    · exact insertField_below _ _ _ _ _ _ hg
    · rw [insertField_above _ _ _ _ _ hg]
  · exact s.rd_wr_ne h f g v ho

theorem State.count_canonical (s : State) (h : RegsCanonical s) (f : Fld) (n : Nat) : RegsCanonical (s.count f n) := s.wr_canonical h _ _

/-! ### The bytes of a bank -/

/-- A store to a bank keeps the canonical form of its bytes. -/
theorem bankPut_wf (m : SMap Byte) (off : Nat) (bs : List Byte) (h : Memory.wf m = true) : Memory.wf (bankPut m off bs) = true := by
  unfold bankPut
  generalize bs.zipIdx = l
  induction l generalizing m with
  | nil => exact h
  | cons a l ih => exact ih _ (SMap.wf_set _ m _ _ h)

/-- A store to a bank leaves every byte outside it alone. -/
theorem bankPut_other (m : SMap Byte) (off : Nat) (bs : List Byte) (h : Memory.wf m = true) (a : Nat) (ha : a < off ∨ off + bs.length ≤ a) :
    SMap.get (fun _ => 0#8) (bankPut m off bs) a = SMap.get (fun _ => 0#8) m a := by
  unfold bankPut
  have hl : ∀ x ∈ bs.zipIdx, a ≠ off + x.2 := by
    intro x hx; have := List.snd_lt_of_mem_zipIdx hx; omega
  revert hl; generalize bs.zipIdx = l; intro hl
  induction l generalizing m with
  | nil => rfl
  | cons x l ih =>
    rw [List.foldl_cons, ih _ (SMap.wf_set _ m _ _ h) (fun y hy => hl y (List.mem_cons_of_mem _ hy))]
    exact SMap.get_set_ne _ m (hl x List.mem_cons_self) _ h

end Sys2Proof.Machine
end

