-- ==== Sys2Proof/Laws/State.lean ====
section
/-! SUPPORT. What each update of the state leaves alone, field by field. -/

namespace Sys2Proof.Machine

@[simp] theorem State.setWord_fields (s : State) (off : Nat) (v : W32) :
    (s.setWord off v).hwSet = s.hwSet ∧ (s.setWord off v).pending = s.pending ∧ (s.setWord off v).now = s.now ∧ (s.setWord off v).fresh = s.fresh ∧
    (s.setWord off v).out = s.out ∧ (s.setWord off v).latches = s.latches ∧ (s.setWord off v).tb = s.tb ∧ (s.setWord off v).islP0 = s.islP0 ∧
    (s.setWord off v).islP1 = s.islP1 ∧ (s.setWord off v).islV = s.islV ∧ (s.setWord off v).linkP0 = s.linkP0 ∧ (s.setWord off v).linkP1 = s.linkP1 ∧
    (s.setWord off v).linkV = s.linkV ∧ (s.setWord off v).ppTo0 = s.ppTo0 ∧ (s.setWord off v).ppTo1 = s.ppTo1 ∧ (s.setWord off v).led = s.led ∧
    (s.setWord off v).flt = s.flt ∧ (s.setWord off v).evr = s.evr ∧ (s.setWord off v).host = s.host ∧ (s.setWord off v).img = s.img ∧
    (s.setWord off v).ch = s.ch ∧ (s.setWord off v).anaP0 = s.anaP0 ∧ (s.setWord off v).anaP1 = s.anaP1 ∧ (s.setWord off v).anaV = s.anaV ∧
    (s.setWord off v).mu = s.mu ∧ (s.setWord off v).hbEmber = s.hbEmber ∧ (s.setWord off v).brgSeq = s.brgSeq ∧ (s.setWord off v).vl = s.vl ∧
    (s.setWord off v).vb = s.vb ∧ (s.setWord off v).bst = s.bst ∧ (s.setWord off v).ld = s.ld ∧ (s.setWord off v).ledArr = s.ledArr ∧
    (s.setWord off v).inp = s.inp ∧ (s.setWord off v).can = s.can ∧ (s.setWord off v).lin = s.lin ∧ (s.setWord off v).eth = s.eth ∧
    (s.setWord off v).cry = s.cry ∧ (s.setWord off v).cel = s.cel ∧ (s.setWord off v).rfx = s.rfx ∧ (s.setWord off v).acc = s.acc ∧
    (s.setWord off v).cfg = s.cfg ∧ (s.setWord off v).otp = s.otp ∧ (s.setWord off v).pow = s.pow :=
  ⟨rfl, rfl, rfl, rfl, rfl, rfl, rfl, rfl, rfl, rfl, rfl, rfl, rfl, rfl, rfl, rfl, rfl, rfl, rfl, rfl, rfl, rfl, rfl, rfl, rfl, rfl, rfl, rfl, rfl, rfl, rfl, rfl, rfl, rfl, rfl, rfl, rfl, rfl, rfl, rfl, rfl, rfl, rfl⟩

@[simp] theorem State.wr_fields (s : State) (f : Fld) (v : Nat) :
    (s.wr f v).hwSet = s.hwSet ∧ (s.wr f v).pending = s.pending ∧ (s.wr f v).now = s.now ∧ (s.wr f v).fresh = s.fresh ∧ (s.wr f v).out = s.out ∧
    (s.wr f v).latches = s.latches ∧ (s.wr f v).tb = s.tb ∧ (s.wr f v).islP0 = s.islP0 ∧ (s.wr f v).islP1 = s.islP1 ∧ (s.wr f v).islV = s.islV ∧
    (s.wr f v).linkP0 = s.linkP0 ∧ (s.wr f v).linkP1 = s.linkP1 ∧ (s.wr f v).linkV = s.linkV ∧ (s.wr f v).ppTo0 = s.ppTo0 ∧ (s.wr f v).ppTo1 = s.ppTo1 ∧
    (s.wr f v).led = s.led ∧ (s.wr f v).flt = s.flt ∧ (s.wr f v).evr = s.evr ∧ (s.wr f v).host = s.host ∧ (s.wr f v).img = s.img ∧ (s.wr f v).ch = s.ch ∧
    (s.wr f v).anaP0 = s.anaP0 ∧ (s.wr f v).anaP1 = s.anaP1 ∧ (s.wr f v).anaV = s.anaV ∧ (s.wr f v).mu = s.mu ∧ (s.wr f v).hbEmber = s.hbEmber ∧
    (s.wr f v).brgSeq = s.brgSeq ∧ (s.wr f v).vl = s.vl ∧ (s.wr f v).vb = s.vb ∧ (s.wr f v).bst = s.bst ∧ (s.wr f v).ld = s.ld ∧
    (s.wr f v).ledArr = s.ledArr ∧ (s.wr f v).inp = s.inp ∧ (s.wr f v).can = s.can ∧ (s.wr f v).lin = s.lin ∧ (s.wr f v).eth = s.eth ∧
    (s.wr f v).cry = s.cry ∧ (s.wr f v).cel = s.cel ∧ (s.wr f v).rfx = s.rfx ∧ (s.wr f v).acc = s.acc ∧ (s.wr f v).cfg = s.cfg ∧ (s.wr f v).otp = s.otp ∧
    (s.wr f v).pow = s.pow :=
  ⟨rfl, rfl, rfl, rfl, rfl, rfl, rfl, rfl, rfl, rfl, rfl, rfl, rfl, rfl, rfl, rfl, rfl, rfl, rfl, rfl, rfl, rfl, rfl, rfl, rfl, rfl, rfl, rfl, rfl, rfl, rfl, rfl, rfl, rfl, rfl, rfl, rfl, rfl, rfl, rfl, rfl, rfl, rfl⟩

@[simp] theorem State.wr64_fields (s : State) (f : Fld) (v : Nat) :
    (s.wr64 f v).hwSet = s.hwSet ∧ (s.wr64 f v).pending = s.pending ∧ (s.wr64 f v).now = s.now ∧ (s.wr64 f v).fresh = s.fresh ∧
    (s.wr64 f v).out = s.out ∧ (s.wr64 f v).latches = s.latches ∧ (s.wr64 f v).tb = s.tb ∧ (s.wr64 f v).islP0 = s.islP0 ∧ (s.wr64 f v).islP1 = s.islP1 ∧
    (s.wr64 f v).islV = s.islV ∧ (s.wr64 f v).linkP0 = s.linkP0 ∧ (s.wr64 f v).linkP1 = s.linkP1 ∧ (s.wr64 f v).linkV = s.linkV ∧
    (s.wr64 f v).ppTo0 = s.ppTo0 ∧ (s.wr64 f v).ppTo1 = s.ppTo1 ∧ (s.wr64 f v).led = s.led ∧ (s.wr64 f v).flt = s.flt ∧ (s.wr64 f v).evr = s.evr ∧
    (s.wr64 f v).host = s.host ∧ (s.wr64 f v).img = s.img ∧ (s.wr64 f v).ch = s.ch ∧ (s.wr64 f v).anaP0 = s.anaP0 ∧ (s.wr64 f v).anaP1 = s.anaP1 ∧
    (s.wr64 f v).anaV = s.anaV ∧ (s.wr64 f v).mu = s.mu ∧ (s.wr64 f v).hbEmber = s.hbEmber ∧ (s.wr64 f v).brgSeq = s.brgSeq ∧ (s.wr64 f v).vl = s.vl ∧
    (s.wr64 f v).vb = s.vb ∧ (s.wr64 f v).bst = s.bst ∧ (s.wr64 f v).ld = s.ld ∧ (s.wr64 f v).ledArr = s.ledArr ∧ (s.wr64 f v).inp = s.inp ∧
    (s.wr64 f v).can = s.can ∧ (s.wr64 f v).lin = s.lin ∧ (s.wr64 f v).eth = s.eth ∧ (s.wr64 f v).cry = s.cry ∧ (s.wr64 f v).cel = s.cel ∧
    (s.wr64 f v).rfx = s.rfx ∧ (s.wr64 f v).acc = s.acc ∧ (s.wr64 f v).cfg = s.cfg ∧ (s.wr64 f v).otp = s.otp ∧ (s.wr64 f v).pow = s.pow :=
  ⟨rfl, rfl, rfl, rfl, rfl, rfl, rfl, rfl, rfl, rfl, rfl, rfl, rfl, rfl, rfl, rfl, rfl, rfl, rfl, rfl, rfl, rfl, rfl, rfl, rfl, rfl, rfl, rfl, rfl, rfl, rfl, rfl, rfl, rfl, rfl, rfl, rfl, rfl, rfl, rfl, rfl, rfl, rfl⟩

@[simp] theorem State.count_fields (s : State) (f : Fld) (n : Nat) :
    (s.count f n).hwSet = s.hwSet ∧ (s.count f n).pending = s.pending ∧ (s.count f n).now = s.now ∧ (s.count f n).fresh = s.fresh ∧
    (s.count f n).out = s.out ∧ (s.count f n).latches = s.latches ∧ (s.count f n).tb = s.tb ∧ (s.count f n).islP0 = s.islP0 ∧
    (s.count f n).islP1 = s.islP1 ∧ (s.count f n).islV = s.islV ∧ (s.count f n).linkP0 = s.linkP0 ∧ (s.count f n).linkP1 = s.linkP1 ∧
    (s.count f n).linkV = s.linkV ∧ (s.count f n).ppTo0 = s.ppTo0 ∧ (s.count f n).ppTo1 = s.ppTo1 ∧ (s.count f n).led = s.led ∧
    (s.count f n).flt = s.flt ∧ (s.count f n).evr = s.evr ∧ (s.count f n).host = s.host ∧ (s.count f n).img = s.img ∧ (s.count f n).ch = s.ch ∧
    (s.count f n).anaP0 = s.anaP0 ∧ (s.count f n).anaP1 = s.anaP1 ∧ (s.count f n).anaV = s.anaV ∧ (s.count f n).mu = s.mu ∧
    (s.count f n).hbEmber = s.hbEmber ∧ (s.count f n).brgSeq = s.brgSeq ∧ (s.count f n).vl = s.vl ∧ (s.count f n).vb = s.vb ∧ (s.count f n).bst = s.bst ∧
    (s.count f n).ld = s.ld ∧ (s.count f n).ledArr = s.ledArr ∧ (s.count f n).inp = s.inp ∧ (s.count f n).can = s.can ∧ (s.count f n).lin = s.lin ∧
    (s.count f n).eth = s.eth ∧ (s.count f n).cry = s.cry ∧ (s.count f n).cel = s.cel ∧ (s.count f n).rfx = s.rfx ∧ (s.count f n).acc = s.acc ∧
    (s.count f n).cfg = s.cfg ∧ (s.count f n).otp = s.otp ∧ (s.count f n).pow = s.pow :=
  ⟨rfl, rfl, rfl, rfl, rfl, rfl, rfl, rfl, rfl, rfl, rfl, rfl, rfl, rfl, rfl, rfl, rfl, rfl, rfl, rfl, rfl, rfl, rfl, rfl, rfl, rfl, rfl, rfl, rfl, rfl, rfl, rfl, rfl, rfl, rfl, rfl, rfl, rfl, rfl, rfl, rfl, rfl, rfl⟩

@[simp] theorem State.raiseBits_fields (s : State) (off : Nat) (m : W32) :
    (s.raiseBits off m).pending = s.pending ∧ (s.raiseBits off m).now = s.now ∧ (s.raiseBits off m).fresh = s.fresh ∧ (s.raiseBits off m).out = s.out ∧
    (s.raiseBits off m).latches = s.latches ∧ (s.raiseBits off m).tb = s.tb ∧ (s.raiseBits off m).islP0 = s.islP0 ∧ (s.raiseBits off m).islP1 = s.islP1 ∧
    (s.raiseBits off m).islV = s.islV ∧ (s.raiseBits off m).linkP0 = s.linkP0 ∧ (s.raiseBits off m).linkP1 = s.linkP1 ∧
    (s.raiseBits off m).linkV = s.linkV ∧ (s.raiseBits off m).ppTo0 = s.ppTo0 ∧ (s.raiseBits off m).ppTo1 = s.ppTo1 ∧ (s.raiseBits off m).led = s.led ∧
    (s.raiseBits off m).flt = s.flt ∧ (s.raiseBits off m).evr = s.evr ∧ (s.raiseBits off m).host = s.host ∧ (s.raiseBits off m).img = s.img ∧
    (s.raiseBits off m).ch = s.ch ∧ (s.raiseBits off m).anaP0 = s.anaP0 ∧ (s.raiseBits off m).anaP1 = s.anaP1 ∧ (s.raiseBits off m).anaV = s.anaV ∧
    (s.raiseBits off m).mu = s.mu ∧ (s.raiseBits off m).hbEmber = s.hbEmber ∧ (s.raiseBits off m).brgSeq = s.brgSeq ∧ (s.raiseBits off m).vl = s.vl ∧
    (s.raiseBits off m).vb = s.vb ∧ (s.raiseBits off m).bst = s.bst ∧ (s.raiseBits off m).ld = s.ld ∧ (s.raiseBits off m).ledArr = s.ledArr ∧
    (s.raiseBits off m).inp = s.inp ∧ (s.raiseBits off m).can = s.can ∧ (s.raiseBits off m).lin = s.lin ∧ (s.raiseBits off m).eth = s.eth ∧
    (s.raiseBits off m).cry = s.cry ∧ (s.raiseBits off m).cel = s.cel ∧ (s.raiseBits off m).rfx = s.rfx ∧ (s.raiseBits off m).acc = s.acc ∧
    (s.raiseBits off m).cfg = s.cfg ∧ (s.raiseBits off m).otp = s.otp ∧ (s.raiseBits off m).pow = s.pow :=
  ⟨rfl, rfl, rfl, rfl, rfl, rfl, rfl, rfl, rfl, rfl, rfl, rfl, rfl, rfl, rfl, rfl, rfl, rfl, rfl, rfl, rfl, rfl, rfl, rfl, rfl, rfl, rfl, rfl, rfl, rfl, rfl, rfl, rfl, rfl, rfl, rfl, rfl, rfl, rfl, rfl, rfl, rfl⟩

@[simp] theorem State.raiseFlag_fields (s : State) (f : Fld) :
    (s.raiseFlag f).pending = s.pending ∧ (s.raiseFlag f).now = s.now ∧ (s.raiseFlag f).fresh = s.fresh ∧ (s.raiseFlag f).out = s.out ∧
    (s.raiseFlag f).latches = s.latches ∧ (s.raiseFlag f).tb = s.tb ∧ (s.raiseFlag f).islP0 = s.islP0 ∧ (s.raiseFlag f).islP1 = s.islP1 ∧
    (s.raiseFlag f).islV = s.islV ∧ (s.raiseFlag f).linkP0 = s.linkP0 ∧ (s.raiseFlag f).linkP1 = s.linkP1 ∧ (s.raiseFlag f).linkV = s.linkV ∧
    (s.raiseFlag f).ppTo0 = s.ppTo0 ∧ (s.raiseFlag f).ppTo1 = s.ppTo1 ∧ (s.raiseFlag f).led = s.led ∧ (s.raiseFlag f).flt = s.flt ∧
    (s.raiseFlag f).evr = s.evr ∧ (s.raiseFlag f).host = s.host ∧ (s.raiseFlag f).img = s.img ∧ (s.raiseFlag f).ch = s.ch ∧
    (s.raiseFlag f).anaP0 = s.anaP0 ∧ (s.raiseFlag f).anaP1 = s.anaP1 ∧ (s.raiseFlag f).anaV = s.anaV ∧ (s.raiseFlag f).mu = s.mu ∧
    (s.raiseFlag f).hbEmber = s.hbEmber ∧ (s.raiseFlag f).brgSeq = s.brgSeq ∧ (s.raiseFlag f).vl = s.vl ∧ (s.raiseFlag f).vb = s.vb ∧
    (s.raiseFlag f).bst = s.bst ∧ (s.raiseFlag f).ld = s.ld ∧ (s.raiseFlag f).ledArr = s.ledArr ∧ (s.raiseFlag f).inp = s.inp ∧
    (s.raiseFlag f).can = s.can ∧ (s.raiseFlag f).lin = s.lin ∧ (s.raiseFlag f).eth = s.eth ∧ (s.raiseFlag f).cry = s.cry ∧ (s.raiseFlag f).cel = s.cel ∧
    (s.raiseFlag f).rfx = s.rfx ∧ (s.raiseFlag f).acc = s.acc ∧ (s.raiseFlag f).cfg = s.cfg ∧ (s.raiseFlag f).otp = s.otp ∧ (s.raiseFlag f).pow = s.pow :=
  ⟨rfl, rfl, rfl, rfl, rfl, rfl, rfl, rfl, rfl, rfl, rfl, rfl, rfl, rfl, rfl, rfl, rfl, rfl, rfl, rfl, rfl, rfl, rfl, rfl, rfl, rfl, rfl, rfl, rfl, rfl, rfl, rfl, rfl, rfl, rfl, rfl, rfl, rfl, rfl, rfl, rfl, rfl⟩

@[simp] theorem State.setIsl_fields (s : State) (d : Die) (i : Island) :
    (s.setIsl d i).regs = s.regs ∧ (s.setIsl d i).hwSet = s.hwSet ∧ (s.setIsl d i).pending = s.pending ∧ (s.setIsl d i).now = s.now ∧
    (s.setIsl d i).fresh = s.fresh ∧ (s.setIsl d i).out = s.out ∧ (s.setIsl d i).latches = s.latches ∧ (s.setIsl d i).tb = s.tb ∧
    (s.setIsl d i).linkP0 = s.linkP0 ∧ (s.setIsl d i).linkP1 = s.linkP1 ∧ (s.setIsl d i).linkV = s.linkV ∧ (s.setIsl d i).ppTo0 = s.ppTo0 ∧
    (s.setIsl d i).ppTo1 = s.ppTo1 ∧ (s.setIsl d i).led = s.led ∧ (s.setIsl d i).flt = s.flt ∧ (s.setIsl d i).evr = s.evr ∧
    (s.setIsl d i).host = s.host ∧ (s.setIsl d i).img = s.img ∧ (s.setIsl d i).ch = s.ch ∧ (s.setIsl d i).anaP0 = s.anaP0 ∧
    (s.setIsl d i).anaP1 = s.anaP1 ∧ (s.setIsl d i).anaV = s.anaV ∧ (s.setIsl d i).mu = s.mu ∧ (s.setIsl d i).hbEmber = s.hbEmber ∧
    (s.setIsl d i).brgSeq = s.brgSeq ∧ (s.setIsl d i).vl = s.vl ∧ (s.setIsl d i).vb = s.vb ∧ (s.setIsl d i).bst = s.bst ∧ (s.setIsl d i).ld = s.ld ∧
    (s.setIsl d i).ledArr = s.ledArr ∧ (s.setIsl d i).inp = s.inp ∧ (s.setIsl d i).can = s.can ∧ (s.setIsl d i).lin = s.lin ∧
    (s.setIsl d i).eth = s.eth ∧ (s.setIsl d i).cry = s.cry ∧ (s.setIsl d i).cel = s.cel ∧ (s.setIsl d i).rfx = s.rfx ∧ (s.setIsl d i).acc = s.acc ∧
    (s.setIsl d i).cfg = s.cfg ∧ (s.setIsl d i).otp = s.otp ∧ (s.setIsl d i).pow = s.pow := by
  cases d <;> exact ⟨rfl, rfl, rfl, rfl, rfl, rfl, rfl, rfl, rfl, rfl, rfl, rfl, rfl, rfl, rfl, rfl, rfl, rfl, rfl, rfl, rfl, rfl, rfl, rfl, rfl, rfl, rfl, rfl, rfl, rfl, rfl, rfl, rfl, rfl, rfl, rfl, rfl, rfl, rfl, rfl, rfl⟩

@[simp] theorem State.setLink_fields (s : State) (d : Die) (l : DieLink) :
    (s.setLink d l).regs = s.regs ∧ (s.setLink d l).hwSet = s.hwSet ∧ (s.setLink d l).pending = s.pending ∧ (s.setLink d l).now = s.now ∧
    (s.setLink d l).fresh = s.fresh ∧ (s.setLink d l).out = s.out ∧ (s.setLink d l).latches = s.latches ∧ (s.setLink d l).tb = s.tb ∧
    (s.setLink d l).islP0 = s.islP0 ∧ (s.setLink d l).islP1 = s.islP1 ∧ (s.setLink d l).islV = s.islV ∧ (s.setLink d l).ppTo0 = s.ppTo0 ∧
    (s.setLink d l).ppTo1 = s.ppTo1 ∧ (s.setLink d l).led = s.led ∧ (s.setLink d l).flt = s.flt ∧ (s.setLink d l).evr = s.evr ∧
    (s.setLink d l).host = s.host ∧ (s.setLink d l).img = s.img ∧ (s.setLink d l).ch = s.ch ∧ (s.setLink d l).anaP0 = s.anaP0 ∧
    (s.setLink d l).anaP1 = s.anaP1 ∧ (s.setLink d l).anaV = s.anaV ∧ (s.setLink d l).mu = s.mu ∧ (s.setLink d l).hbEmber = s.hbEmber ∧
    (s.setLink d l).brgSeq = s.brgSeq ∧ (s.setLink d l).vl = s.vl ∧ (s.setLink d l).vb = s.vb ∧ (s.setLink d l).bst = s.bst ∧ (s.setLink d l).ld = s.ld ∧
    (s.setLink d l).ledArr = s.ledArr ∧ (s.setLink d l).inp = s.inp ∧ (s.setLink d l).can = s.can ∧ (s.setLink d l).lin = s.lin ∧
    (s.setLink d l).eth = s.eth ∧ (s.setLink d l).cry = s.cry ∧ (s.setLink d l).cel = s.cel ∧ (s.setLink d l).rfx = s.rfx ∧ (s.setLink d l).acc = s.acc ∧
    (s.setLink d l).cfg = s.cfg ∧ (s.setLink d l).otp = s.otp ∧ (s.setLink d l).pow = s.pow := by
  cases d <;> exact ⟨rfl, rfl, rfl, rfl, rfl, rfl, rfl, rfl, rfl, rfl, rfl, rfl, rfl, rfl, rfl, rfl, rfl, rfl, rfl, rfl, rfl, rfl, rfl, rfl, rfl, rfl, rfl, rfl, rfl, rfl, rfl, rfl, rfl, rfl, rfl, rfl, rfl, rfl, rfl, rfl, rfl⟩

@[simp] theorem State.setAna_fields (s : State) (d : Die) (a : DieAna) :
    (s.setAna d a).regs = s.regs ∧ (s.setAna d a).hwSet = s.hwSet ∧ (s.setAna d a).pending = s.pending ∧ (s.setAna d a).now = s.now ∧
    (s.setAna d a).fresh = s.fresh ∧ (s.setAna d a).out = s.out ∧ (s.setAna d a).latches = s.latches ∧ (s.setAna d a).tb = s.tb ∧
    (s.setAna d a).islP0 = s.islP0 ∧ (s.setAna d a).islP1 = s.islP1 ∧ (s.setAna d a).islV = s.islV ∧ (s.setAna d a).linkP0 = s.linkP0 ∧
    (s.setAna d a).linkP1 = s.linkP1 ∧ (s.setAna d a).linkV = s.linkV ∧ (s.setAna d a).ppTo0 = s.ppTo0 ∧ (s.setAna d a).ppTo1 = s.ppTo1 ∧
    (s.setAna d a).led = s.led ∧ (s.setAna d a).flt = s.flt ∧ (s.setAna d a).evr = s.evr ∧ (s.setAna d a).host = s.host ∧ (s.setAna d a).img = s.img ∧
    (s.setAna d a).ch = s.ch ∧ (s.setAna d a).mu = s.mu ∧ (s.setAna d a).hbEmber = s.hbEmber ∧ (s.setAna d a).brgSeq = s.brgSeq ∧
    (s.setAna d a).vl = s.vl ∧ (s.setAna d a).vb = s.vb ∧ (s.setAna d a).bst = s.bst ∧ (s.setAna d a).ld = s.ld ∧ (s.setAna d a).ledArr = s.ledArr ∧
    (s.setAna d a).inp = s.inp ∧ (s.setAna d a).can = s.can ∧ (s.setAna d a).lin = s.lin ∧ (s.setAna d a).eth = s.eth ∧ (s.setAna d a).cry = s.cry ∧
    (s.setAna d a).cel = s.cel ∧ (s.setAna d a).rfx = s.rfx ∧ (s.setAna d a).acc = s.acc ∧ (s.setAna d a).cfg = s.cfg ∧ (s.setAna d a).otp = s.otp ∧
    (s.setAna d a).pow = s.pow := by
  cases d <;> exact ⟨rfl, rfl, rfl, rfl, rfl, rfl, rfl, rfl, rfl, rfl, rfl, rfl, rfl, rfl, rfl, rfl, rfl, rfl, rfl, rfl, rfl, rfl, rfl, rfl, rfl, rfl, rfl, rfl, rfl, rfl, rfl, rfl, rfl, rfl, rfl, rfl, rfl, rfl, rfl, rfl, rfl⟩

@[simp] theorem State.emit_fields (s : State) (o : Output) :
    (s.emit o).regs = s.regs ∧ (s.emit o).hwSet = s.hwSet ∧ (s.emit o).pending = s.pending ∧ (s.emit o).now = s.now ∧ (s.emit o).fresh = s.fresh ∧
    (s.emit o).latches = s.latches ∧ (s.emit o).tb = s.tb ∧ (s.emit o).islP0 = s.islP0 ∧ (s.emit o).islP1 = s.islP1 ∧ (s.emit o).islV = s.islV ∧
    (s.emit o).linkP0 = s.linkP0 ∧ (s.emit o).linkP1 = s.linkP1 ∧ (s.emit o).linkV = s.linkV ∧ (s.emit o).ppTo0 = s.ppTo0 ∧ (s.emit o).ppTo1 = s.ppTo1 ∧
    (s.emit o).led = s.led ∧ (s.emit o).flt = s.flt ∧ (s.emit o).evr = s.evr ∧ (s.emit o).host = s.host ∧ (s.emit o).img = s.img ∧ (s.emit o).ch = s.ch ∧
    (s.emit o).anaP0 = s.anaP0 ∧ (s.emit o).anaP1 = s.anaP1 ∧ (s.emit o).anaV = s.anaV ∧ (s.emit o).mu = s.mu ∧ (s.emit o).hbEmber = s.hbEmber ∧
    (s.emit o).brgSeq = s.brgSeq ∧ (s.emit o).vl = s.vl ∧ (s.emit o).vb = s.vb ∧ (s.emit o).bst = s.bst ∧ (s.emit o).ld = s.ld ∧
    (s.emit o).ledArr = s.ledArr ∧ (s.emit o).inp = s.inp ∧ (s.emit o).can = s.can ∧ (s.emit o).lin = s.lin ∧ (s.emit o).eth = s.eth ∧
    (s.emit o).cry = s.cry ∧ (s.emit o).cel = s.cel ∧ (s.emit o).rfx = s.rfx ∧ (s.emit o).acc = s.acc ∧ (s.emit o).cfg = s.cfg ∧ (s.emit o).otp = s.otp ∧
    (s.emit o).pow = s.pow :=
  ⟨rfl, rfl, rfl, rfl, rfl, rfl, rfl, rfl, rfl, rfl, rfl, rfl, rfl, rfl, rfl, rfl, rfl, rfl, rfl, rfl, rfl, rfl, rfl, rfl, rfl, rfl, rfl, rfl, rfl, rfl, rfl, rfl, rfl, rfl, rfl, rfl, rfl, rfl, rfl, rfl, rfl, rfl, rfl⟩

@[simp] theorem State.setCel_fields (s : State) (i : Nat) (x : Cel) :
    (s.setCel i x).regs = s.regs ∧ (s.setCel i x).hwSet = s.hwSet ∧ (s.setCel i x).pending = s.pending ∧ (s.setCel i x).now = s.now ∧
    (s.setCel i x).fresh = s.fresh ∧ (s.setCel i x).out = s.out ∧ (s.setCel i x).latches = s.latches ∧ (s.setCel i x).tb = s.tb ∧
    (s.setCel i x).islP0 = s.islP0 ∧ (s.setCel i x).islP1 = s.islP1 ∧ (s.setCel i x).islV = s.islV ∧ (s.setCel i x).linkP0 = s.linkP0 ∧
    (s.setCel i x).linkP1 = s.linkP1 ∧ (s.setCel i x).linkV = s.linkV ∧ (s.setCel i x).ppTo0 = s.ppTo0 ∧ (s.setCel i x).ppTo1 = s.ppTo1 ∧
    (s.setCel i x).led = s.led ∧ (s.setCel i x).flt = s.flt ∧ (s.setCel i x).evr = s.evr ∧ (s.setCel i x).host = s.host ∧ (s.setCel i x).img = s.img ∧
    (s.setCel i x).ch = s.ch ∧ (s.setCel i x).anaP0 = s.anaP0 ∧ (s.setCel i x).anaP1 = s.anaP1 ∧ (s.setCel i x).anaV = s.anaV ∧
    (s.setCel i x).mu = s.mu ∧ (s.setCel i x).hbEmber = s.hbEmber ∧ (s.setCel i x).brgSeq = s.brgSeq ∧ (s.setCel i x).vl = s.vl ∧
    (s.setCel i x).vb = s.vb ∧ (s.setCel i x).bst = s.bst ∧ (s.setCel i x).ld = s.ld ∧ (s.setCel i x).ledArr = s.ledArr ∧ (s.setCel i x).inp = s.inp ∧
    (s.setCel i x).can = s.can ∧ (s.setCel i x).lin = s.lin ∧ (s.setCel i x).eth = s.eth ∧ (s.setCel i x).cry = s.cry ∧ (s.setCel i x).rfx = s.rfx ∧
    (s.setCel i x).acc = s.acc ∧ (s.setCel i x).cfg = s.cfg ∧ (s.setCel i x).otp = s.otp ∧ (s.setCel i x).pow = s.pow :=
  ⟨rfl, rfl, rfl, rfl, rfl, rfl, rfl, rfl, rfl, rfl, rfl, rfl, rfl, rfl, rfl, rfl, rfl, rfl, rfl, rfl, rfl, rfl, rfl, rfl, rfl, rfl, rfl, rfl, rfl, rfl, rfl, rfl, rfl, rfl, rfl, rfl, rfl, rfl, rfl, rfl, rfl, rfl, rfl⟩

@[simp] theorem State.raiseL_fields (s : State) (src kind stamp : Nat) :
    (s.raiseL src kind stamp).regs = s.regs ∧ (s.raiseL src kind stamp).hwSet = s.hwSet ∧ (s.raiseL src kind stamp).pending = s.pending ∧
    (s.raiseL src kind stamp).now = s.now ∧ (s.raiseL src kind stamp).fresh = s.fresh ∧ (s.raiseL src kind stamp).out = s.out ∧
    (s.raiseL src kind stamp).latches = s.latches ∧ (s.raiseL src kind stamp).tb = s.tb ∧ (s.raiseL src kind stamp).islP0 = s.islP0 ∧
    (s.raiseL src kind stamp).islP1 = s.islP1 ∧ (s.raiseL src kind stamp).islV = s.islV ∧ (s.raiseL src kind stamp).linkP0 = s.linkP0 ∧
    (s.raiseL src kind stamp).linkP1 = s.linkP1 ∧ (s.raiseL src kind stamp).linkV = s.linkV ∧ (s.raiseL src kind stamp).ppTo0 = s.ppTo0 ∧
    (s.raiseL src kind stamp).ppTo1 = s.ppTo1 ∧ (s.raiseL src kind stamp).led = s.led ∧ (s.raiseL src kind stamp).evr = s.evr ∧
    (s.raiseL src kind stamp).host = s.host ∧ (s.raiseL src kind stamp).img = s.img ∧ (s.raiseL src kind stamp).ch = s.ch ∧
    (s.raiseL src kind stamp).anaP0 = s.anaP0 ∧ (s.raiseL src kind stamp).anaP1 = s.anaP1 ∧ (s.raiseL src kind stamp).anaV = s.anaV ∧
    (s.raiseL src kind stamp).mu = s.mu ∧ (s.raiseL src kind stamp).hbEmber = s.hbEmber ∧ (s.raiseL src kind stamp).brgSeq = s.brgSeq ∧
    (s.raiseL src kind stamp).vl = s.vl ∧ (s.raiseL src kind stamp).vb = s.vb ∧ (s.raiseL src kind stamp).bst = s.bst ∧
    (s.raiseL src kind stamp).ld = s.ld ∧ (s.raiseL src kind stamp).ledArr = s.ledArr ∧ (s.raiseL src kind stamp).inp = s.inp ∧
    (s.raiseL src kind stamp).can = s.can ∧ (s.raiseL src kind stamp).lin = s.lin ∧ (s.raiseL src kind stamp).eth = s.eth ∧
    (s.raiseL src kind stamp).cry = s.cry ∧ (s.raiseL src kind stamp).cel = s.cel ∧ (s.raiseL src kind stamp).rfx = s.rfx ∧
    (s.raiseL src kind stamp).acc = s.acc ∧ (s.raiseL src kind stamp).cfg = s.cfg ∧ (s.raiseL src kind stamp).otp = s.otp ∧
    (s.raiseL src kind stamp).pow = s.pow :=
  ⟨rfl, rfl, rfl, rfl, rfl, rfl, rfl, rfl, rfl, rfl, rfl, rfl, rfl, rfl, rfl, rfl, rfl, rfl, rfl, rfl, rfl, rfl, rfl, rfl, rfl, rfl, rfl, rfl, rfl, rfl, rfl, rfl, rfl, rfl, rfl, rfl, rfl, rfl, rfl, rfl, rfl, rfl, rfl⟩

@[simp] theorem State.setMotor_fields (s : State) (m : Nat) (x : Motor) :
    (s.setMotor m x).regs = s.regs ∧ (s.setMotor m x).hwSet = s.hwSet ∧ (s.setMotor m x).pending = s.pending ∧ (s.setMotor m x).now = s.now ∧
    (s.setMotor m x).fresh = s.fresh ∧ (s.setMotor m x).out = s.out ∧ (s.setMotor m x).latches = s.latches ∧ (s.setMotor m x).tb = s.tb ∧
    (s.setMotor m x).islP0 = s.islP0 ∧ (s.setMotor m x).islP1 = s.islP1 ∧ (s.setMotor m x).islV = s.islV ∧ (s.setMotor m x).linkP0 = s.linkP0 ∧
    (s.setMotor m x).linkP1 = s.linkP1 ∧ (s.setMotor m x).linkV = s.linkV ∧ (s.setMotor m x).ppTo0 = s.ppTo0 ∧ (s.setMotor m x).ppTo1 = s.ppTo1 ∧
    (s.setMotor m x).led = s.led ∧ (s.setMotor m x).flt = s.flt ∧ (s.setMotor m x).evr = s.evr ∧ (s.setMotor m x).host = s.host ∧
    (s.setMotor m x).img = s.img ∧ (s.setMotor m x).ch = s.ch ∧ (s.setMotor m x).anaP0 = s.anaP0 ∧ (s.setMotor m x).anaP1 = s.anaP1 ∧
    (s.setMotor m x).anaV = s.anaV ∧ (s.setMotor m x).hbEmber = s.hbEmber ∧ (s.setMotor m x).brgSeq = s.brgSeq ∧ (s.setMotor m x).vl = s.vl ∧
    (s.setMotor m x).vb = s.vb ∧ (s.setMotor m x).bst = s.bst ∧ (s.setMotor m x).ld = s.ld ∧ (s.setMotor m x).ledArr = s.ledArr ∧
    (s.setMotor m x).inp = s.inp ∧ (s.setMotor m x).can = s.can ∧ (s.setMotor m x).lin = s.lin ∧ (s.setMotor m x).eth = s.eth ∧
    (s.setMotor m x).cry = s.cry ∧ (s.setMotor m x).cel = s.cel ∧ (s.setMotor m x).rfx = s.rfx ∧ (s.setMotor m x).acc = s.acc ∧
    (s.setMotor m x).cfg = s.cfg ∧ (s.setMotor m x).otp = s.otp ∧ (s.setMotor m x).pow = s.pow :=
  ⟨rfl, rfl, rfl, rfl, rfl, rfl, rfl, rfl, rfl, rfl, rfl, rfl, rfl, rfl, rfl, rfl, rfl, rfl, rfl, rfl, rfl, rfl, rfl, rfl, rfl, rfl, rfl, rfl, rfl, rfl, rfl, rfl, rfl, rfl, rfl, rfl, rfl, rfl, rfl, rfl, rfl, rfl, rfl⟩

@[simp] theorem State.setSeq_fields (s : State) (i : Nat) (q : Seq) :
    (s.setSeq i q).regs = s.regs ∧ (s.setSeq i q).hwSet = s.hwSet ∧ (s.setSeq i q).pending = s.pending ∧ (s.setSeq i q).now = s.now ∧
    (s.setSeq i q).fresh = s.fresh ∧ (s.setSeq i q).out = s.out ∧ (s.setSeq i q).latches = s.latches ∧ (s.setSeq i q).tb = s.tb ∧
    (s.setSeq i q).islP0 = s.islP0 ∧ (s.setSeq i q).islP1 = s.islP1 ∧ (s.setSeq i q).islV = s.islV ∧ (s.setSeq i q).linkP0 = s.linkP0 ∧
    (s.setSeq i q).linkP1 = s.linkP1 ∧ (s.setSeq i q).linkV = s.linkV ∧ (s.setSeq i q).ppTo0 = s.ppTo0 ∧ (s.setSeq i q).ppTo1 = s.ppTo1 ∧
    (s.setSeq i q).led = s.led ∧ (s.setSeq i q).flt = s.flt ∧ (s.setSeq i q).evr = s.evr ∧ (s.setSeq i q).host = s.host ∧ (s.setSeq i q).img = s.img ∧
    (s.setSeq i q).ch = s.ch ∧ (s.setSeq i q).anaP0 = s.anaP0 ∧ (s.setSeq i q).anaP1 = s.anaP1 ∧ (s.setSeq i q).anaV = s.anaV ∧
    (s.setSeq i q).mu = s.mu ∧ (s.setSeq i q).hbEmber = s.hbEmber ∧ (s.setSeq i q).vl = s.vl ∧ (s.setSeq i q).vb = s.vb ∧ (s.setSeq i q).bst = s.bst ∧
    (s.setSeq i q).ld = s.ld ∧ (s.setSeq i q).ledArr = s.ledArr ∧ (s.setSeq i q).inp = s.inp ∧ (s.setSeq i q).can = s.can ∧ (s.setSeq i q).lin = s.lin ∧
    (s.setSeq i q).eth = s.eth ∧ (s.setSeq i q).cry = s.cry ∧ (s.setSeq i q).cel = s.cel ∧ (s.setSeq i q).rfx = s.rfx ∧ (s.setSeq i q).acc = s.acc ∧
    (s.setSeq i q).cfg = s.cfg ∧ (s.setSeq i q).otp = s.otp ∧ (s.setSeq i q).pow = s.pow :=
  ⟨rfl, rfl, rfl, rfl, rfl, rfl, rfl, rfl, rfl, rfl, rfl, rfl, rfl, rfl, rfl, rfl, rfl, rfl, rfl, rfl, rfl, rfl, rfl, rfl, rfl, rfl, rfl, rfl, rfl, rfl, rfl, rfl, rfl, rfl, rfl, rfl, rfl, rfl, rfl, rfl, rfl, rfl, rfl⟩

@[simp] theorem State.setCanC_fields (s : State) (c : Nat) (x : CanCtl) :
    (s.setCanC c x).regs = s.regs ∧ (s.setCanC c x).hwSet = s.hwSet ∧ (s.setCanC c x).pending = s.pending ∧ (s.setCanC c x).now = s.now ∧
    (s.setCanC c x).fresh = s.fresh ∧ (s.setCanC c x).out = s.out ∧ (s.setCanC c x).latches = s.latches ∧ (s.setCanC c x).tb = s.tb ∧
    (s.setCanC c x).islP0 = s.islP0 ∧ (s.setCanC c x).islP1 = s.islP1 ∧ (s.setCanC c x).islV = s.islV ∧ (s.setCanC c x).linkP0 = s.linkP0 ∧
    (s.setCanC c x).linkP1 = s.linkP1 ∧ (s.setCanC c x).linkV = s.linkV ∧ (s.setCanC c x).ppTo0 = s.ppTo0 ∧ (s.setCanC c x).ppTo1 = s.ppTo1 ∧
    (s.setCanC c x).led = s.led ∧ (s.setCanC c x).flt = s.flt ∧ (s.setCanC c x).evr = s.evr ∧ (s.setCanC c x).host = s.host ∧
    (s.setCanC c x).img = s.img ∧ (s.setCanC c x).ch = s.ch ∧ (s.setCanC c x).anaP0 = s.anaP0 ∧ (s.setCanC c x).anaP1 = s.anaP1 ∧
    (s.setCanC c x).anaV = s.anaV ∧ (s.setCanC c x).mu = s.mu ∧ (s.setCanC c x).hbEmber = s.hbEmber ∧ (s.setCanC c x).brgSeq = s.brgSeq ∧
    (s.setCanC c x).vl = s.vl ∧ (s.setCanC c x).vb = s.vb ∧ (s.setCanC c x).bst = s.bst ∧ (s.setCanC c x).ld = s.ld ∧ (s.setCanC c x).ledArr = s.ledArr ∧
    (s.setCanC c x).inp = s.inp ∧ (s.setCanC c x).lin = s.lin ∧ (s.setCanC c x).eth = s.eth ∧ (s.setCanC c x).cry = s.cry ∧ (s.setCanC c x).cel = s.cel ∧
    (s.setCanC c x).rfx = s.rfx ∧ (s.setCanC c x).acc = s.acc ∧ (s.setCanC c x).cfg = s.cfg ∧ (s.setCanC c x).otp = s.otp ∧ (s.setCanC c x).pow = s.pow :=
  ⟨rfl, rfl, rfl, rfl, rfl, rfl, rfl, rfl, rfl, rfl, rfl, rfl, rfl, rfl, rfl, rfl, rfl, rfl, rfl, rfl, rfl, rfl, rfl, rfl, rfl, rfl, rfl, rfl, rfl, rfl, rfl, rfl, rfl, rfl, rfl, rfl, rfl, rfl, rfl, rfl, rfl, rfl, rfl⟩

@[simp] theorem State.setKennel_fields (s : State) (i : Nat) (k : Kennel) :
    (s.setKennel i k).regs = s.regs ∧ (s.setKennel i k).hwSet = s.hwSet ∧ (s.setKennel i k).pending = s.pending ∧ (s.setKennel i k).now = s.now ∧
    (s.setKennel i k).fresh = s.fresh ∧ (s.setKennel i k).out = s.out ∧ (s.setKennel i k).latches = s.latches ∧ (s.setKennel i k).tb = s.tb ∧
    (s.setKennel i k).islP0 = s.islP0 ∧ (s.setKennel i k).islP1 = s.islP1 ∧ (s.setKennel i k).islV = s.islV ∧ (s.setKennel i k).linkP0 = s.linkP0 ∧
    (s.setKennel i k).linkP1 = s.linkP1 ∧ (s.setKennel i k).linkV = s.linkV ∧ (s.setKennel i k).ppTo0 = s.ppTo0 ∧ (s.setKennel i k).ppTo1 = s.ppTo1 ∧
    (s.setKennel i k).led = s.led ∧ (s.setKennel i k).flt = s.flt ∧ (s.setKennel i k).evr = s.evr ∧ (s.setKennel i k).host = s.host ∧
    (s.setKennel i k).img = s.img ∧ (s.setKennel i k).ch = s.ch ∧ (s.setKennel i k).anaP0 = s.anaP0 ∧ (s.setKennel i k).anaP1 = s.anaP1 ∧
    (s.setKennel i k).anaV = s.anaV ∧ (s.setKennel i k).mu = s.mu ∧ (s.setKennel i k).hbEmber = s.hbEmber ∧ (s.setKennel i k).brgSeq = s.brgSeq ∧
    (s.setKennel i k).vl = s.vl ∧ (s.setKennel i k).vb = s.vb ∧ (s.setKennel i k).bst = s.bst ∧ (s.setKennel i k).ld = s.ld ∧
    (s.setKennel i k).ledArr = s.ledArr ∧ (s.setKennel i k).inp = s.inp ∧ (s.setKennel i k).can = s.can ∧ (s.setKennel i k).lin = s.lin ∧
    (s.setKennel i k).eth = s.eth ∧ (s.setKennel i k).cel = s.cel ∧ (s.setKennel i k).rfx = s.rfx ∧ (s.setKennel i k).acc = s.acc ∧
    (s.setKennel i k).cfg = s.cfg ∧ (s.setKennel i k).otp = s.otp ∧ (s.setKennel i k).pow = s.pow :=
  ⟨rfl, rfl, rfl, rfl, rfl, rfl, rfl, rfl, rfl, rfl, rfl, rfl, rfl, rfl, rfl, rfl, rfl, rfl, rfl, rfl, rfl, rfl, rfl, rfl, rfl, rfl, rfl, rfl, rfl, rfl, rfl, rfl, rfl, rfl, rfl, rfl, rfl, rfl, rfl, rfl, rfl, rfl, rfl⟩

@[simp] theorem State.setCryU_fields (s : State) (i : Nat) (u : CryUnit) :
    (s.setCryU i u).regs = s.regs ∧ (s.setCryU i u).hwSet = s.hwSet ∧ (s.setCryU i u).pending = s.pending ∧ (s.setCryU i u).now = s.now ∧
    (s.setCryU i u).fresh = s.fresh ∧ (s.setCryU i u).out = s.out ∧ (s.setCryU i u).latches = s.latches ∧ (s.setCryU i u).tb = s.tb ∧
    (s.setCryU i u).islP0 = s.islP0 ∧ (s.setCryU i u).islP1 = s.islP1 ∧ (s.setCryU i u).islV = s.islV ∧ (s.setCryU i u).linkP0 = s.linkP0 ∧
    (s.setCryU i u).linkP1 = s.linkP1 ∧ (s.setCryU i u).linkV = s.linkV ∧ (s.setCryU i u).ppTo0 = s.ppTo0 ∧ (s.setCryU i u).ppTo1 = s.ppTo1 ∧
    (s.setCryU i u).led = s.led ∧ (s.setCryU i u).flt = s.flt ∧ (s.setCryU i u).evr = s.evr ∧ (s.setCryU i u).host = s.host ∧
    (s.setCryU i u).img = s.img ∧ (s.setCryU i u).ch = s.ch ∧ (s.setCryU i u).anaP0 = s.anaP0 ∧ (s.setCryU i u).anaP1 = s.anaP1 ∧
    (s.setCryU i u).anaV = s.anaV ∧ (s.setCryU i u).mu = s.mu ∧ (s.setCryU i u).hbEmber = s.hbEmber ∧ (s.setCryU i u).brgSeq = s.brgSeq ∧
    (s.setCryU i u).vl = s.vl ∧ (s.setCryU i u).vb = s.vb ∧ (s.setCryU i u).bst = s.bst ∧ (s.setCryU i u).ld = s.ld ∧ (s.setCryU i u).ledArr = s.ledArr ∧
    (s.setCryU i u).inp = s.inp ∧ (s.setCryU i u).can = s.can ∧ (s.setCryU i u).lin = s.lin ∧ (s.setCryU i u).eth = s.eth ∧ (s.setCryU i u).cel = s.cel ∧
    (s.setCryU i u).rfx = s.rfx ∧ (s.setCryU i u).acc = s.acc ∧ (s.setCryU i u).cfg = s.cfg ∧ (s.setCryU i u).otp = s.otp ∧ (s.setCryU i u).pow = s.pow :=
  ⟨rfl, rfl, rfl, rfl, rfl, rfl, rfl, rfl, rfl, rfl, rfl, rfl, rfl, rfl, rfl, rfl, rfl, rfl, rfl, rfl, rfl, rfl, rfl, rfl, rfl, rfl, rfl, rfl, rfl, rfl, rfl, rfl, rfl, rfl, rfl, rfl, rfl, rfl, rfl, rfl, rfl, rfl, rfl⟩

@[simp] theorem State.setFltRec_fields (s : State) (r : Nat) (x : FltRec) :
    (s.setFltRec r x).regs = s.regs ∧ (s.setFltRec r x).hwSet = s.hwSet ∧ (s.setFltRec r x).pending = s.pending ∧ (s.setFltRec r x).now = s.now ∧
    (s.setFltRec r x).fresh = s.fresh ∧ (s.setFltRec r x).out = s.out ∧ (s.setFltRec r x).latches = s.latches ∧ (s.setFltRec r x).tb = s.tb ∧
    (s.setFltRec r x).islP0 = s.islP0 ∧ (s.setFltRec r x).islP1 = s.islP1 ∧ (s.setFltRec r x).islV = s.islV ∧ (s.setFltRec r x).linkP0 = s.linkP0 ∧
    (s.setFltRec r x).linkP1 = s.linkP1 ∧ (s.setFltRec r x).linkV = s.linkV ∧ (s.setFltRec r x).ppTo0 = s.ppTo0 ∧ (s.setFltRec r x).ppTo1 = s.ppTo1 ∧
    (s.setFltRec r x).led = s.led ∧ (s.setFltRec r x).evr = s.evr ∧ (s.setFltRec r x).host = s.host ∧ (s.setFltRec r x).img = s.img ∧
    (s.setFltRec r x).ch = s.ch ∧ (s.setFltRec r x).anaP0 = s.anaP0 ∧ (s.setFltRec r x).anaP1 = s.anaP1 ∧ (s.setFltRec r x).anaV = s.anaV ∧
    (s.setFltRec r x).mu = s.mu ∧ (s.setFltRec r x).hbEmber = s.hbEmber ∧ (s.setFltRec r x).brgSeq = s.brgSeq ∧ (s.setFltRec r x).vl = s.vl ∧
    (s.setFltRec r x).vb = s.vb ∧ (s.setFltRec r x).bst = s.bst ∧ (s.setFltRec r x).ld = s.ld ∧ (s.setFltRec r x).ledArr = s.ledArr ∧
    (s.setFltRec r x).inp = s.inp ∧ (s.setFltRec r x).can = s.can ∧ (s.setFltRec r x).lin = s.lin ∧ (s.setFltRec r x).eth = s.eth ∧
    (s.setFltRec r x).cry = s.cry ∧ (s.setFltRec r x).cel = s.cel ∧ (s.setFltRec r x).rfx = s.rfx ∧ (s.setFltRec r x).acc = s.acc ∧
    (s.setFltRec r x).cfg = s.cfg ∧ (s.setFltRec r x).otp = s.otp ∧ (s.setFltRec r x).pow = s.pow :=
  ⟨rfl, rfl, rfl, rfl, rfl, rfl, rfl, rfl, rfl, rfl, rfl, rfl, rfl, rfl, rfl, rfl, rfl, rfl, rfl, rfl, rfl, rfl, rfl, rfl, rfl, rfl, rfl, rfl, rfl, rfl, rfl, rfl, rfl, rfl, rfl, rfl, rfl, rfl, rfl, rfl, rfl, rfl, rfl⟩

@[simp] theorem State.setInput_fields (s : State) (n : Nat) (x : Input) :
    (s.setInput n x).regs = s.regs ∧ (s.setInput n x).hwSet = s.hwSet ∧ (s.setInput n x).pending = s.pending ∧ (s.setInput n x).now = s.now ∧
    (s.setInput n x).fresh = s.fresh ∧ (s.setInput n x).out = s.out ∧ (s.setInput n x).latches = s.latches ∧ (s.setInput n x).tb = s.tb ∧
    (s.setInput n x).islP0 = s.islP0 ∧ (s.setInput n x).islP1 = s.islP1 ∧ (s.setInput n x).islV = s.islV ∧ (s.setInput n x).linkP0 = s.linkP0 ∧
    (s.setInput n x).linkP1 = s.linkP1 ∧ (s.setInput n x).linkV = s.linkV ∧ (s.setInput n x).ppTo0 = s.ppTo0 ∧ (s.setInput n x).ppTo1 = s.ppTo1 ∧
    (s.setInput n x).led = s.led ∧ (s.setInput n x).flt = s.flt ∧ (s.setInput n x).evr = s.evr ∧ (s.setInput n x).host = s.host ∧
    (s.setInput n x).img = s.img ∧ (s.setInput n x).ch = s.ch ∧ (s.setInput n x).anaP0 = s.anaP0 ∧ (s.setInput n x).anaP1 = s.anaP1 ∧
    (s.setInput n x).anaV = s.anaV ∧ (s.setInput n x).mu = s.mu ∧ (s.setInput n x).hbEmber = s.hbEmber ∧ (s.setInput n x).brgSeq = s.brgSeq ∧
    (s.setInput n x).vl = s.vl ∧ (s.setInput n x).vb = s.vb ∧ (s.setInput n x).bst = s.bst ∧ (s.setInput n x).ld = s.ld ∧
    (s.setInput n x).ledArr = s.ledArr ∧ (s.setInput n x).can = s.can ∧ (s.setInput n x).lin = s.lin ∧ (s.setInput n x).eth = s.eth ∧
    (s.setInput n x).cry = s.cry ∧ (s.setInput n x).cel = s.cel ∧ (s.setInput n x).rfx = s.rfx ∧ (s.setInput n x).acc = s.acc ∧
    (s.setInput n x).cfg = s.cfg ∧ (s.setInput n x).otp = s.otp ∧ (s.setInput n x).pow = s.pow :=
  ⟨rfl, rfl, rfl, rfl, rfl, rfl, rfl, rfl, rfl, rfl, rfl, rfl, rfl, rfl, rfl, rfl, rfl, rfl, rfl, rfl, rfl, rfl, rfl, rfl, rfl, rfl, rfl, rfl, rfl, rfl, rfl, rfl, rfl, rfl, rfl, rfl, rfl, rfl, rfl, rfl, rfl, rfl, rfl⟩

@[simp] theorem State.setSink_fields (s : State) (n : Nat) (x : LedSink) :
    (s.setSink n x).regs = s.regs ∧ (s.setSink n x).hwSet = s.hwSet ∧ (s.setSink n x).pending = s.pending ∧ (s.setSink n x).now = s.now ∧
    (s.setSink n x).fresh = s.fresh ∧ (s.setSink n x).out = s.out ∧ (s.setSink n x).latches = s.latches ∧ (s.setSink n x).tb = s.tb ∧
    (s.setSink n x).islP0 = s.islP0 ∧ (s.setSink n x).islP1 = s.islP1 ∧ (s.setSink n x).islV = s.islV ∧ (s.setSink n x).linkP0 = s.linkP0 ∧
    (s.setSink n x).linkP1 = s.linkP1 ∧ (s.setSink n x).linkV = s.linkV ∧ (s.setSink n x).ppTo0 = s.ppTo0 ∧ (s.setSink n x).ppTo1 = s.ppTo1 ∧
    (s.setSink n x).led = s.led ∧ (s.setSink n x).flt = s.flt ∧ (s.setSink n x).evr = s.evr ∧ (s.setSink n x).host = s.host ∧
    (s.setSink n x).img = s.img ∧ (s.setSink n x).ch = s.ch ∧ (s.setSink n x).anaP0 = s.anaP0 ∧ (s.setSink n x).anaP1 = s.anaP1 ∧
    (s.setSink n x).anaV = s.anaV ∧ (s.setSink n x).mu = s.mu ∧ (s.setSink n x).hbEmber = s.hbEmber ∧ (s.setSink n x).brgSeq = s.brgSeq ∧
    (s.setSink n x).vl = s.vl ∧ (s.setSink n x).vb = s.vb ∧ (s.setSink n x).bst = s.bst ∧ (s.setSink n x).ledArr = s.ledArr ∧
    (s.setSink n x).inp = s.inp ∧ (s.setSink n x).can = s.can ∧ (s.setSink n x).lin = s.lin ∧ (s.setSink n x).eth = s.eth ∧ (s.setSink n x).cry = s.cry ∧
    (s.setSink n x).cel = s.cel ∧ (s.setSink n x).rfx = s.rfx ∧ (s.setSink n x).acc = s.acc ∧ (s.setSink n x).cfg = s.cfg ∧ (s.setSink n x).otp = s.otp ∧
    (s.setSink n x).pow = s.pow :=
  ⟨rfl, rfl, rfl, rfl, rfl, rfl, rfl, rfl, rfl, rfl, rfl, rfl, rfl, rfl, rfl, rfl, rfl, rfl, rfl, rfl, rfl, rfl, rfl, rfl, rfl, rfl, rfl, rfl, rfl, rfl, rfl, rfl, rfl, rfl, rfl, rfl, rfl, rfl, rfl, rfl, rfl, rfl, rfl⟩

@[simp] theorem State.setLinC_fields (s : State) (n : Nat) (x : LinCh) :
    (s.setLinC n x).regs = s.regs ∧ (s.setLinC n x).hwSet = s.hwSet ∧ (s.setLinC n x).pending = s.pending ∧ (s.setLinC n x).now = s.now ∧
    (s.setLinC n x).fresh = s.fresh ∧ (s.setLinC n x).out = s.out ∧ (s.setLinC n x).latches = s.latches ∧ (s.setLinC n x).tb = s.tb ∧
    (s.setLinC n x).islP0 = s.islP0 ∧ (s.setLinC n x).islP1 = s.islP1 ∧ (s.setLinC n x).islV = s.islV ∧ (s.setLinC n x).linkP0 = s.linkP0 ∧
    (s.setLinC n x).linkP1 = s.linkP1 ∧ (s.setLinC n x).linkV = s.linkV ∧ (s.setLinC n x).ppTo0 = s.ppTo0 ∧ (s.setLinC n x).ppTo1 = s.ppTo1 ∧
    (s.setLinC n x).led = s.led ∧ (s.setLinC n x).flt = s.flt ∧ (s.setLinC n x).evr = s.evr ∧ (s.setLinC n x).host = s.host ∧
    (s.setLinC n x).img = s.img ∧ (s.setLinC n x).ch = s.ch ∧ (s.setLinC n x).anaP0 = s.anaP0 ∧ (s.setLinC n x).anaP1 = s.anaP1 ∧
    (s.setLinC n x).anaV = s.anaV ∧ (s.setLinC n x).mu = s.mu ∧ (s.setLinC n x).hbEmber = s.hbEmber ∧ (s.setLinC n x).brgSeq = s.brgSeq ∧
    (s.setLinC n x).vl = s.vl ∧ (s.setLinC n x).vb = s.vb ∧ (s.setLinC n x).bst = s.bst ∧ (s.setLinC n x).ld = s.ld ∧ (s.setLinC n x).ledArr = s.ledArr ∧
    (s.setLinC n x).inp = s.inp ∧ (s.setLinC n x).can = s.can ∧ (s.setLinC n x).eth = s.eth ∧ (s.setLinC n x).cry = s.cry ∧ (s.setLinC n x).cel = s.cel ∧
    (s.setLinC n x).rfx = s.rfx ∧ (s.setLinC n x).acc = s.acc ∧ (s.setLinC n x).cfg = s.cfg ∧ (s.setLinC n x).otp = s.otp ∧ (s.setLinC n x).pow = s.pow :=
  ⟨rfl, rfl, rfl, rfl, rfl, rfl, rfl, rfl, rfl, rfl, rfl, rfl, rfl, rfl, rfl, rfl, rfl, rfl, rfl, rfl, rfl, rfl, rfl, rfl, rfl, rfl, rfl, rfl, rfl, rfl, rfl, rfl, rfl, rfl, rfl, rfl, rfl, rfl, rfl, rfl, rfl, rfl, rfl⟩

@[simp] theorem State.setEvSlot_fields (s : State) (k : Nat) (r : EvRec) :
    (s.setEvSlot k r).regs = s.regs ∧ (s.setEvSlot k r).hwSet = s.hwSet ∧ (s.setEvSlot k r).pending = s.pending ∧ (s.setEvSlot k r).now = s.now ∧
    (s.setEvSlot k r).fresh = s.fresh ∧ (s.setEvSlot k r).out = s.out ∧ (s.setEvSlot k r).latches = s.latches ∧ (s.setEvSlot k r).tb = s.tb ∧
    (s.setEvSlot k r).islP0 = s.islP0 ∧ (s.setEvSlot k r).islP1 = s.islP1 ∧ (s.setEvSlot k r).islV = s.islV ∧ (s.setEvSlot k r).linkP0 = s.linkP0 ∧
    (s.setEvSlot k r).linkP1 = s.linkP1 ∧ (s.setEvSlot k r).linkV = s.linkV ∧ (s.setEvSlot k r).ppTo0 = s.ppTo0 ∧ (s.setEvSlot k r).ppTo1 = s.ppTo1 ∧
    (s.setEvSlot k r).led = s.led ∧ (s.setEvSlot k r).flt = s.flt ∧ (s.setEvSlot k r).host = s.host ∧ (s.setEvSlot k r).img = s.img ∧
    (s.setEvSlot k r).ch = s.ch ∧ (s.setEvSlot k r).anaP0 = s.anaP0 ∧ (s.setEvSlot k r).anaP1 = s.anaP1 ∧ (s.setEvSlot k r).anaV = s.anaV ∧
    (s.setEvSlot k r).mu = s.mu ∧ (s.setEvSlot k r).hbEmber = s.hbEmber ∧ (s.setEvSlot k r).brgSeq = s.brgSeq ∧ (s.setEvSlot k r).vl = s.vl ∧
    (s.setEvSlot k r).vb = s.vb ∧ (s.setEvSlot k r).bst = s.bst ∧ (s.setEvSlot k r).ld = s.ld ∧ (s.setEvSlot k r).ledArr = s.ledArr ∧
    (s.setEvSlot k r).inp = s.inp ∧ (s.setEvSlot k r).can = s.can ∧ (s.setEvSlot k r).lin = s.lin ∧ (s.setEvSlot k r).eth = s.eth ∧
    (s.setEvSlot k r).cry = s.cry ∧ (s.setEvSlot k r).cel = s.cel ∧ (s.setEvSlot k r).rfx = s.rfx ∧ (s.setEvSlot k r).acc = s.acc ∧
    (s.setEvSlot k r).cfg = s.cfg ∧ (s.setEvSlot k r).otp = s.otp ∧ (s.setEvSlot k r).pow = s.pow :=
  ⟨rfl, rfl, rfl, rfl, rfl, rfl, rfl, rfl, rfl, rfl, rfl, rfl, rfl, rfl, rfl, rfl, rfl, rfl, rfl, rfl, rfl, rfl, rfl, rfl, rfl, rfl, rfl, rfl, rfl, rfl, rfl, rfl, rfl, rfl, rfl, rfl, rfl, rfl, rfl, rfl, rfl, rfl, rfl⟩

@[simp] theorem State.setTodo_fields (s : State) (c : Nat) (ps : List Nat) :
    (s.setTodo c ps).regs = s.regs ∧ (s.setTodo c ps).hwSet = s.hwSet ∧ (s.setTodo c ps).pending = s.pending ∧ (s.setTodo c ps).now = s.now ∧
    (s.setTodo c ps).fresh = s.fresh ∧ (s.setTodo c ps).out = s.out ∧ (s.setTodo c ps).latches = s.latches ∧ (s.setTodo c ps).tb = s.tb ∧
    (s.setTodo c ps).islP0 = s.islP0 ∧ (s.setTodo c ps).islP1 = s.islP1 ∧ (s.setTodo c ps).islV = s.islV ∧ (s.setTodo c ps).linkP0 = s.linkP0 ∧
    (s.setTodo c ps).linkP1 = s.linkP1 ∧ (s.setTodo c ps).linkV = s.linkV ∧ (s.setTodo c ps).ppTo0 = s.ppTo0 ∧ (s.setTodo c ps).ppTo1 = s.ppTo1 ∧
    (s.setTodo c ps).led = s.led ∧ (s.setTodo c ps).flt = s.flt ∧ (s.setTodo c ps).evr = s.evr ∧ (s.setTodo c ps).host = s.host ∧
    (s.setTodo c ps).img = s.img ∧ (s.setTodo c ps).ch = s.ch ∧ (s.setTodo c ps).anaP0 = s.anaP0 ∧ (s.setTodo c ps).anaP1 = s.anaP1 ∧
    (s.setTodo c ps).anaV = s.anaV ∧ (s.setTodo c ps).mu = s.mu ∧ (s.setTodo c ps).hbEmber = s.hbEmber ∧ (s.setTodo c ps).brgSeq = s.brgSeq ∧
    (s.setTodo c ps).vl = s.vl ∧ (s.setTodo c ps).vb = s.vb ∧ (s.setTodo c ps).bst = s.bst ∧ (s.setTodo c ps).ld = s.ld ∧
    (s.setTodo c ps).ledArr = s.ledArr ∧ (s.setTodo c ps).inp = s.inp ∧ (s.setTodo c ps).can = s.can ∧ (s.setTodo c ps).lin = s.lin ∧
    (s.setTodo c ps).eth = s.eth ∧ (s.setTodo c ps).cry = s.cry ∧ (s.setTodo c ps).cel = s.cel ∧ (s.setTodo c ps).acc = s.acc ∧
    (s.setTodo c ps).cfg = s.cfg ∧ (s.setTodo c ps).otp = s.otp ∧ (s.setTodo c ps).pow = s.pow :=
  ⟨rfl, rfl, rfl, rfl, rfl, rfl, rfl, rfl, rfl, rfl, rfl, rfl, rfl, rfl, rfl, rfl, rfl, rfl, rfl, rfl, rfl, rfl, rfl, rfl, rfl, rfl, rfl, rfl, rfl, rfl, rfl, rfl, rfl, rfl, rfl, rfl, rfl, rfl, rfl, rfl, rfl, rfl, rfl⟩

@[simp] theorem State.setChan_fields (s : State) (u : Nat) (c : Chan) :
    (s.setChan u c).regs = s.regs ∧ (s.setChan u c).hwSet = s.hwSet ∧ (s.setChan u c).pending = s.pending ∧ (s.setChan u c).now = s.now ∧
    (s.setChan u c).fresh = s.fresh ∧ (s.setChan u c).out = s.out ∧ (s.setChan u c).latches = s.latches ∧ (s.setChan u c).tb = s.tb ∧
    (s.setChan u c).islP0 = s.islP0 ∧ (s.setChan u c).islP1 = s.islP1 ∧ (s.setChan u c).islV = s.islV ∧ (s.setChan u c).linkP0 = s.linkP0 ∧
    (s.setChan u c).linkP1 = s.linkP1 ∧ (s.setChan u c).linkV = s.linkV ∧ (s.setChan u c).ppTo0 = s.ppTo0 ∧ (s.setChan u c).ppTo1 = s.ppTo1 ∧
    (s.setChan u c).led = s.led ∧ (s.setChan u c).flt = s.flt ∧ (s.setChan u c).evr = s.evr ∧ (s.setChan u c).host = s.host ∧
    (s.setChan u c).img = s.img ∧ (s.setChan u c).anaP0 = s.anaP0 ∧ (s.setChan u c).anaP1 = s.anaP1 ∧ (s.setChan u c).anaV = s.anaV ∧
    (s.setChan u c).mu = s.mu ∧ (s.setChan u c).hbEmber = s.hbEmber ∧ (s.setChan u c).brgSeq = s.brgSeq ∧ (s.setChan u c).vl = s.vl ∧
    (s.setChan u c).vb = s.vb ∧ (s.setChan u c).bst = s.bst ∧ (s.setChan u c).ld = s.ld ∧ (s.setChan u c).ledArr = s.ledArr ∧
    (s.setChan u c).inp = s.inp ∧ (s.setChan u c).can = s.can ∧ (s.setChan u c).lin = s.lin ∧ (s.setChan u c).eth = s.eth ∧ (s.setChan u c).cry = s.cry ∧
    (s.setChan u c).cel = s.cel ∧ (s.setChan u c).rfx = s.rfx ∧ (s.setChan u c).acc = s.acc ∧ (s.setChan u c).cfg = s.cfg ∧ (s.setChan u c).otp = s.otp ∧
    (s.setChan u c).pow = s.pow :=
  ⟨rfl, rfl, rfl, rfl, rfl, rfl, rfl, rfl, rfl, rfl, rfl, rfl, rfl, rfl, rfl, rfl, rfl, rfl, rfl, rfl, rfl, rfl, rfl, rfl, rfl, rfl, rfl, rfl, rfl, rfl, rfl, rfl, rfl, rfl, rfl, rfl, rfl, rfl, rfl, rfl, rfl, rfl, rfl⟩

@[simp] theorem State.setValve_fields (s : State) (n : Nat) (x : Valve) :
    (s.setValve n x).regs = s.regs ∧ (s.setValve n x).hwSet = s.hwSet ∧ (s.setValve n x).pending = s.pending ∧ (s.setValve n x).now = s.now ∧
    (s.setValve n x).fresh = s.fresh ∧ (s.setValve n x).out = s.out ∧ (s.setValve n x).latches = s.latches ∧ (s.setValve n x).tb = s.tb ∧
    (s.setValve n x).islP0 = s.islP0 ∧ (s.setValve n x).islP1 = s.islP1 ∧ (s.setValve n x).islV = s.islV ∧ (s.setValve n x).linkP0 = s.linkP0 ∧
    (s.setValve n x).linkP1 = s.linkP1 ∧ (s.setValve n x).linkV = s.linkV ∧ (s.setValve n x).ppTo0 = s.ppTo0 ∧ (s.setValve n x).ppTo1 = s.ppTo1 ∧
    (s.setValve n x).led = s.led ∧ (s.setValve n x).flt = s.flt ∧ (s.setValve n x).evr = s.evr ∧ (s.setValve n x).host = s.host ∧
    (s.setValve n x).img = s.img ∧ (s.setValve n x).ch = s.ch ∧ (s.setValve n x).anaP0 = s.anaP0 ∧ (s.setValve n x).anaP1 = s.anaP1 ∧
    (s.setValve n x).anaV = s.anaV ∧ (s.setValve n x).mu = s.mu ∧ (s.setValve n x).hbEmber = s.hbEmber ∧ (s.setValve n x).brgSeq = s.brgSeq ∧
    (s.setValve n x).vb = s.vb ∧ (s.setValve n x).bst = s.bst ∧ (s.setValve n x).ld = s.ld ∧ (s.setValve n x).ledArr = s.ledArr ∧
    (s.setValve n x).inp = s.inp ∧ (s.setValve n x).can = s.can ∧ (s.setValve n x).lin = s.lin ∧ (s.setValve n x).eth = s.eth ∧
    (s.setValve n x).cry = s.cry ∧ (s.setValve n x).cel = s.cel ∧ (s.setValve n x).rfx = s.rfx ∧ (s.setValve n x).acc = s.acc ∧
    (s.setValve n x).cfg = s.cfg ∧ (s.setValve n x).otp = s.otp ∧ (s.setValve n x).pow = s.pow :=
  ⟨rfl, rfl, rfl, rfl, rfl, rfl, rfl, rfl, rfl, rfl, rfl, rfl, rfl, rfl, rfl, rfl, rfl, rfl, rfl, rfl, rfl, rfl, rfl, rfl, rfl, rfl, rfl, rfl, rfl, rfl, rfl, rfl, rfl, rfl, rfl, rfl, rfl, rfl, rfl, rfl, rfl, rfl, rfl⟩

@[simp] theorem State.setBank_fields (s : State) (b : Nat) (x : Bank) :
    (s.setBank b x).regs = s.regs ∧ (s.setBank b x).hwSet = s.hwSet ∧ (s.setBank b x).pending = s.pending ∧ (s.setBank b x).now = s.now ∧
    (s.setBank b x).fresh = s.fresh ∧ (s.setBank b x).out = s.out ∧ (s.setBank b x).latches = s.latches ∧ (s.setBank b x).tb = s.tb ∧
    (s.setBank b x).islP0 = s.islP0 ∧ (s.setBank b x).islP1 = s.islP1 ∧ (s.setBank b x).islV = s.islV ∧ (s.setBank b x).linkP0 = s.linkP0 ∧
    (s.setBank b x).linkP1 = s.linkP1 ∧ (s.setBank b x).linkV = s.linkV ∧ (s.setBank b x).ppTo0 = s.ppTo0 ∧ (s.setBank b x).ppTo1 = s.ppTo1 ∧
    (s.setBank b x).led = s.led ∧ (s.setBank b x).flt = s.flt ∧ (s.setBank b x).evr = s.evr ∧ (s.setBank b x).host = s.host ∧
    (s.setBank b x).img = s.img ∧ (s.setBank b x).ch = s.ch ∧ (s.setBank b x).anaP0 = s.anaP0 ∧ (s.setBank b x).anaP1 = s.anaP1 ∧
    (s.setBank b x).anaV = s.anaV ∧ (s.setBank b x).mu = s.mu ∧ (s.setBank b x).hbEmber = s.hbEmber ∧ (s.setBank b x).brgSeq = s.brgSeq ∧
    (s.setBank b x).vl = s.vl ∧ (s.setBank b x).bst = s.bst ∧ (s.setBank b x).ld = s.ld ∧ (s.setBank b x).ledArr = s.ledArr ∧
    (s.setBank b x).inp = s.inp ∧ (s.setBank b x).can = s.can ∧ (s.setBank b x).lin = s.lin ∧ (s.setBank b x).eth = s.eth ∧ (s.setBank b x).cry = s.cry ∧
    (s.setBank b x).cel = s.cel ∧ (s.setBank b x).rfx = s.rfx ∧ (s.setBank b x).acc = s.acc ∧ (s.setBank b x).cfg = s.cfg ∧ (s.setBank b x).otp = s.otp ∧
    (s.setBank b x).pow = s.pow :=
  ⟨rfl, rfl, rfl, rfl, rfl, rfl, rfl, rfl, rfl, rfl, rfl, rfl, rfl, rfl, rfl, rfl, rfl, rfl, rfl, rfl, rfl, rfl, rfl, rfl, rfl, rfl, rfl, rfl, rfl, rfl, rfl, rfl, rfl, rfl, rfl, rfl, rfl, rfl, rfl, rfl, rfl, rfl, rfl⟩

@[simp] theorem State.setBankBytes_fields (s : State) (k : Nat) (m : SMap Byte) :
    (s.setBankBytes k m).regs = s.regs ∧ (s.setBankBytes k m).hwSet = s.hwSet ∧ (s.setBankBytes k m).pending = s.pending ∧
    (s.setBankBytes k m).now = s.now ∧ (s.setBankBytes k m).fresh = s.fresh ∧ (s.setBankBytes k m).out = s.out ∧
    (s.setBankBytes k m).latches = s.latches ∧ (s.setBankBytes k m).tb = s.tb ∧ (s.setBankBytes k m).islP0 = s.islP0 ∧
    (s.setBankBytes k m).islP1 = s.islP1 ∧ (s.setBankBytes k m).islV = s.islV ∧ (s.setBankBytes k m).linkP0 = s.linkP0 ∧
    (s.setBankBytes k m).linkP1 = s.linkP1 ∧ (s.setBankBytes k m).linkV = s.linkV ∧ (s.setBankBytes k m).ppTo0 = s.ppTo0 ∧
    (s.setBankBytes k m).ppTo1 = s.ppTo1 ∧ (s.setBankBytes k m).led = s.led ∧ (s.setBankBytes k m).flt = s.flt ∧ (s.setBankBytes k m).evr = s.evr ∧
    (s.setBankBytes k m).host = s.host ∧ (s.setBankBytes k m).img = s.img ∧ (s.setBankBytes k m).ch = s.ch ∧ (s.setBankBytes k m).anaP0 = s.anaP0 ∧
    (s.setBankBytes k m).anaP1 = s.anaP1 ∧ (s.setBankBytes k m).anaV = s.anaV ∧ (s.setBankBytes k m).mu = s.mu ∧
    (s.setBankBytes k m).hbEmber = s.hbEmber ∧ (s.setBankBytes k m).brgSeq = s.brgSeq ∧ (s.setBankBytes k m).vl = s.vl ∧ (s.setBankBytes k m).vb = s.vb ∧
    (s.setBankBytes k m).bst = s.bst ∧ (s.setBankBytes k m).ld = s.ld ∧ (s.setBankBytes k m).ledArr = s.ledArr ∧ (s.setBankBytes k m).inp = s.inp ∧
    (s.setBankBytes k m).can = s.can ∧ (s.setBankBytes k m).lin = s.lin ∧ (s.setBankBytes k m).eth = s.eth ∧ (s.setBankBytes k m).cry = s.cry ∧
    (s.setBankBytes k m).cel = s.cel ∧ (s.setBankBytes k m).rfx = s.rfx ∧ (s.setBankBytes k m).acc = s.acc ∧ (s.setBankBytes k m).otp = s.otp ∧
    (s.setBankBytes k m).pow = s.pow :=
  ⟨rfl, rfl, rfl, rfl, rfl, rfl, rfl, rfl, rfl, rfl, rfl, rfl, rfl, rfl, rfl, rfl, rfl, rfl, rfl, rfl, rfl, rfl, rfl, rfl, rfl, rfl, rfl, rfl, rfl, rfl, rfl, rfl, rfl, rfl, rfl, rfl, rfl, rfl, rfl, rfl, rfl, rfl, rfl⟩

/-! ### What is read back -/

@[simp] theorem State.isl_setIsl (s : State) (d : Die) (i : Island) : (s.setIsl d i).isl d = i := by cases d <;> rfl
@[simp] theorem State.link_setLink (s : State) (d : Die) (l : DieLink) : (s.setLink d l).link d = l := by cases d <;> rfl
@[simp] theorem State.ana_setAna (s : State) (d : Die) (a : DieAna) : (s.setAna d a).ana d = a := by cases d <;> rfl
theorem State.isl_setIsl_ne (s : State) {d e : Die} (h : e ≠ d) (i : Island) : (s.setIsl d i).isl e = s.isl e := by cases d <;> cases e <;> first | rfl | exact absurd rfl h
theorem State.link_setLink_ne (s : State) {d e : Die} (h : e ≠ d) (l : DieLink) : (s.setLink d l).link e = s.link e := by cases d <;> cases e <;> first | rfl | exact absurd rfl h
theorem State.ana_setAna_ne (s : State) {d e : Die} (h : e ≠ d) (a : DieAna) : (s.setAna d a).ana e = s.ana e := by cases d <;> cases e <;> first | rfl | exact absurd rfl h
@[simp] theorem State.setMotor_mu (s : State) (m : Nat) (x : Motor) : (s.setMotor m x).mu = SMap.set Motor.blank s.mu m x := rfl
@[simp] theorem State.setChan_ch (s : State) (u : Nat) (c : Chan) : (s.setChan u c).ch = SMap.set Chan.blank s.ch u c := rfl
@[simp] theorem State.setValve_vl (s : State) (n : Nat) (x : Valve) : (s.setValve n x).vl = SMap.set Valve.blank s.vl n x := rfl
@[simp] theorem State.setBank_vb (s : State) (b : Nat) (x : Bank) : (s.setBank b x).vb = SMap.set Bank.blank s.vb b x := rfl
@[simp] theorem State.setSink_ld (s : State) (n : Nat) (x : LedSink) : (s.setSink n x).ld = SMap.set LedSink.blank s.ld n x := rfl
@[simp] theorem State.setInput_inp (s : State) (n : Nat) (x : Input) : (s.setInput n x).inp = SMap.set Input.blank s.inp n x := rfl
@[simp] theorem State.setCanC_can (s : State) (c : Nat) (x : CanCtl) : (s.setCanC c x).can = SMap.set CanCtl.blank s.can c x := rfl
@[simp] theorem State.setLinC_lin (s : State) (n : Nat) (x : LinCh) : (s.setLinC n x).lin = SMap.set LinCh.blank s.lin n x := rfl
@[simp] theorem State.setCel_cel (s : State) (i : Nat) (x : Cel) : (s.setCel i x).cel = SMap.set Cel.blank s.cel i x := rfl
@[simp] theorem State.setWord_regs (s : State) (off : Nat) (v : W32) : (s.setWord off v).regs = SMap.set resetWord s.regs off v := rfl
@[simp] theorem State.emit_out (s : State) (o : Output) : (s.emit o).out = s.out ++ [o] := rfl

/-- A notice that finds room joins the recorder's queue; a full queue counts it as lost and changes nothing else (R381). -/
theorem State.event_room (s : State) (code tick p1 p2 p3 : Nat) (h : s.evr.queue.length < 64) :
    s.event code tick p1 p2 p3 =
      { s with evr := { s.evr with queue := s.evr.queue ++ [{ code := code, tick := tick, p1 := p1 % 2 ^ 32, p2 := p2 % 2 ^ 32, p3 := p3 % 2 ^ 32 }] } } := by
  unfold State.event State.record; rw [if_pos h]

/-- The raise and its event: both carry the tick. -/
theorem State.faultL_room (s : State) (src kind stamp p2 p3 : Nat) (h : s.evr.queue.length < 64) :
    (s.faultL src kind stamp p2 p3).flt.fromL = insertBy Raise.before { src := src, kind := kind, stamp := stamp } s.flt.fromL := by
  unfold State.faultL; rw [State.event_room (s.raiseL src kind stamp) _ _ _ _ _ h]; rfl

end Sys2Proof.Machine
end

