-- ==== Sys2Proof/Tests/Wit.lean ====
section
/-! SUPPORT. Small states on which the tests show that the hypotheses of the statements can be met. -/

namespace Sys2Proof.Tests

open Sys2Proof.Machine

/-- A device in RUN: die L, the three main domains and the host interface are up, at tick `t`. -/
def wRun (t : Nat) : State :=
  (((({ State.reset with
    now := t, islP0 := { count := t }, islP1 := { count := t }, islV := { count := t },
    tb := { framesOn := true, t0 := 1000 }, host := { linkUp := true, bme := true } } : State).wr Reg.PWR_STAT.DOM 7).wr Reg.PWR_STAT.STATE Pw.run).wr
    Reg.HOST_CTL.EN 1).wr Reg.TIME_STATE.STATE 1

/-- The bytes of a descriptor: the opcode, then the bytes from offset 16 on. -/
def wDesc (opc : Nat) (rest : List Nat) : List Byte :=
  (BitVec.ofNat 8 opc :: List.replicate 15 0#8) ++ rest.map (BitVec.ofNat 8) ++ List.replicate (48 - rest.length) 0#8

/-- An operation accepted from ring 0. -/
def wHostOp (opc : Nat) (rest : List Nat) : HostOp := { sq := 0, desc := wDesc opc rest, order := 0 }

/-- A running device with one accepted operation, of tag 1. -/
def wOp (opc : Nat) (rest : List Nat) : State :=
  let s := wRun 100000
  { s with host := { s.host with ops := [(1, wHostOp opc rest)], sqs := [(0, { st := .active })] } }

/-- A device in PARK with its candle domain supplied, after `k` candle ticks. -/
def wPark (k : Nat) : State := { State.reset.wr Reg.PWR_STAT.STATE Pw.park with pow := { supplied := true, candle := k } }

/-- A running device whose die `d` is ready with the supply `x`, last sampled at tick `t`. -/
def wSup (d : Die) (x : Supply) (t : Nat) : State := (wRun t).setAna d { ready := true, params := true, lastSample := t, sup := x }

/-- The register row of a word. -/
def wRow (off : Nat) : RegRow := (regRow off).getD { base := 0, stride := 4, count := 1, reset := 0, wo := 0, rw := 0, w1c := 0, rwl := 0, otp := 0, wide := 0 }

/-- A TKR frame: its bytes and their CRC. -/
def wTkr (body : List Nat) : List Byte :=
  let b := body.map (BitVec.ofNat 8)
  b ++ leBytes 2 (crcOf 16 0x1021 0xFFFF b)

/-- A button frame of token 9 with counter 1, for the key of sixteen zeros and the vehicle 0: its MAC is the right one. -/
def wButton : List Byte :=
  ([0xA5, 9, 0, 0, 0, 0, 1, 0, 0, 0, 100, 161, 196, 78, 16, 150, 122, 105, 179, 145] : List Nat).map (BitVec.ofNat 8)

/-- A device whose access engine is OPEN with token 9 registered as record 1, its key in slot 0. -/
def wOpen : State :=
  { (((((((wRun 9000000).wr Reg.ACC_STAT.STATE 1).wr Reg.CRY_STAT.STATE 2).wr (Reg.CRY_SLOT.STATE 0) 1).wr (Reg.CRY_SLOT.MODES 0) 31).wr
      (Reg.ACC_TOKCFG.REG 1) 1).wr (Reg.ACC_TOKID.ID 1) 9) with
    cry := { slots := [(0, { key := List.replicate 16 0#8 })] } }

/-- A running device with an active bank and Verya enabled over CAN controller 1 and identifiers from 0x100. -/
def wVerya (t : Nat) : State :=
  ((((wRun t).wr Reg.CFG_STAT.AVALID 1).wr Reg.CFG_VERYA.VEN 1).wr Reg.CFG_VERYA.CANMASK 2).wr Reg.CFG_VID.LID 0x100

/-- A peer and its lantern. -/
def wPeer : PeerRec := { node := 5, required := true, nextok := false, gen1 := 1, ver1 := 2, dig1 := 3, gen2 := 0, ver2 := 0, dig2 := 0 }
def wLantern (first : Nat) : CanFrame :=
  { id := 0x105, ide := false, rtr := false, fdf := true, brs := false, esi := false, dlc := 12,
    data := ([first, 5, 1, 0, 2, 0, 0, 0, 3, 0, 0, 0, 0, 0, 0, 0, 0, 0, 0, 0, 0, 0, 0, 0] : List Nat).map (BitVec.ofNat 8) }

/-- A device whose reflex core 2 runs program 0, with the word `w` at address 0 of its ten words, and g[1] = `a`, g[2] = `b`. -/
def wCel (w a b : Nat) : State :=
  { wRun 1000 with
    img := { progs := [(0, some { budget := 50, first := 0, words := 10, targets := [1024] })], code := [(0, BitVec.ofNat 32 w)] },
    cel := [(2, { running := true, regs := [(1, BitVec.ofNat 32 a), (2, BitVec.ofNat 32 b)] })] }

/-- A device whose bridge sequencer 0 runs, with g[1] = `a`, g[2] = `b`. -/
def wSeq (a b : Nat) : State :=
  { wRun 1000 with cel := [(8, { running := true, regs := [(1, BitVec.ofNat 32 a), (2, BitVec.ofNat 32 b)] })] }

/-- The same as `wCel`, with entry 0x4000 a blob of 4 bytes. -/
def wBlob (w a b : Nat) : State :=
  let s := wCel w a b
  { s with img := { s.img with attrs := [(0x4000, some { kind := 3, bloblen := 4 })] } }

/-- The outcome is the next state `t`. -/
def goesTo (o : Host.Outcome State Fault Refusal) (t : State) : Bool :=
  match o with
  | .next u => decide (u = t)
  | _ => false

end Sys2Proof.Tests
end

