-- ==== Sys2Proof/WellFormed.lean ====
section
/-! DEFINITION. Which commands are well formed: every operand names something the device has and fits its field. -/

namespace Sys2Proof

/-- A Celper machine the device has (R218). -/
def CoreId.wf : CoreId → Bool
  | .reflex c => decide (c < 8)
  | .bridge d => decide (d < 2)
  | .bank b => decide (b < 6)
  | .lf => true

/-- A register number fits its field (R221); a sequencer that meets one of 16 or more stops on it. -/
def regWf (r : Nat) : Bool := decide (r < 32)

def PwmUnit.wf : PwmUnit → Bool
  | .chan u => decide (u < 64)
  | .motor m => decide (m < 14)

def EmberUnit.wf : EmberUnit → Bool
  | .chan u => decide (u < 64)
  | .motor m side => decide (m < 14) && decide (side < 2)
  | .valve n => decide (n < 24)
  | .bank b => decide (b < 6)
  | .array => true

def FbUnit.wf : FbUnit → Bool
  | .chanTj u => decide (u < 64)
  | .chanTc u => decide (u < 64)
  | .bundle g => decide (g < 16)
  | .motorCur m => decide (m < 14)
  | .valveCur n => decide (n < 24)
  | .bankCur b => decide (b < 6)
  | .boost => true
  | .ledVsink n => decide (n < 48)
  | .inputVin n => decide (n < 160)

/-- A CAN frame that the bus can carry (R237): identifier of 11 or 29 bits, DLC of 4 bits, at most 64 data bytes, 8 in a classical frame. -/
def CanFrame.wf (f : CanFrame) : Bool :=
  decide (f.id < (if f.ide then 2 ^ 29 else 2 ^ 11)) && decide (f.dlc < 16) && decide (f.data.length ≤ (if f.fdf then 64 else 8))

/-- A power die beside die V (R15). -/
def Die.isPower : Die → Bool
  | .v => false
  | _ => true

/-- Every sample of a die names a unit the device has. -/
def Samples.wf (x : Samples) : Bool :=
  decide (x.vbat < 65536) && x.chans.all (fun y => decide (y.u < 64)) && x.motors.all (fun y => decide (y.m < 14))
    && x.valves.all (fun y => decide (y.n < 24)) && x.banks.all (fun y => decide (y.n < 6)) && x.leds.all (fun y => decide (y.n < 48))

/-- What a device read brings back fits one read: at most 64 KiB (R302). -/
def ReadResult.wf : ReadResult → Bool
  | .data bs => decide (bs.length ≤ 65536)
  | _ => true

/-- A LIN response (R270): a protected identifier and at most 8 data bytes. -/
def LinFrame.wf (f : LinFrame) : Bool := decide (f.pid < 256) && decide (f.data.length ≤ 8) && decide (f.err < 16)

/-- A lantern comes from a controller or a port the device has. -/
def LanternRx.wf : LanternRx → Bool
  | .can c f => decide (c < 12) && f.wf
  | .eth p _ _ b => decide (p < 4) && decide (b.length ≤ 1500)

def ReadKind.wf : ReadKind → Bool
  | .doorbell => true
  | .descriptor q => decide (q < 32)
  | .operation t => decide (t < 256)

/-- A command is well formed. -/
def Instr.wellFormed : Instr → Bool
  | .registerWrite off size _ => decide (off < 0x100000) && (decide (size = 1) || decide (size = 2) || decide (size = 4))
  | .read64LowWord off => decide (off < 0x100000) && decide (off % 8 = 0)
  | .write64HighWord off _ => decide (off < 0x100000) && decide (off % 8 = 4)
  | .hswCtlClear n | .ledCtlClear n | .ledPeriodStart n | .ledOpen n | .ledOpenClear n | .ledShort n => decide (n < 48)
  | .pdrvCtlClear n => decide (n < 16)
  | .brgCtlClear m | .rippleEdge m | .motorStall m | .motorRunLimit m | .motorStartBlankingEnd m | .pulseEnd m | .pinchBrakeEnd m |
    .reversalComplete m | .motorSettleEnd m | .motorTrippedEnd m | .chopOffEnd m | .bemfMeasureStart m | .bemfMeasureEnd m => decide (m < 14)
  | .currentChop m _ => decide (m < 14)
  | .bridgeTrip m x => decide (m < 14) && decide (x.vds.length = 4) && decide (x.sw.length = 4)
  | .vlvCtlClear n | .peakEnd n | .peakFail n | .releaseTimeout n | .leashExpiry n | .holdLow n | .valveTrippedEnd n |
    .valveOffTimeEnd n => decide (n < 24)
  | .valveTrip n _ | .valveCurrentTargetReached n _ => decide (n < 24)
  | .vlvBctlClear b | .valveControlStep b | .bankTrippedEnd b | .bankSeqOverrun b => decide (b < 6)
  | .bankTrip b _ => decide (b < 6)
  | .canCtlRecover c | .canCtlRestrSet c | .canCtlRestrClear c | .canTxStart c | .canArbitrationLost c | .busoffHoldEnd c |
    .busoffRecoveryDone c | .canSyncDone c | .busoffCountReset c => decide (c < 12)
  | .canFrameSent c tdcv => decide (c < 12) && decide (tdcv < 128)
  | .canError c x _ _ => decide (c < 12) && decide (x.kinds < 64) && x.tdcv.all (fun v => decide (v < 128))
  | .canFrameReceived c f => decide (c < 12) && f.wf
  | .canWakeFrame c f _ => decide (c < 2) && f.wf
  | .canWakePattern c => decide (c < 2)
  | .linCtlSleep n | .linCtlWake n | .linSlotStart n | .linBusIdleTimeout n | .linWakeRetry n | .linScheduleRestart n |
    .linResponseTimeout n => decide (n < 10)
  | .linCtlSreq n table => decide (n < 10) && decide (table < 16)
  | .linRemoteWake n _ => decide (n < 10)
  | .linHeaderReceived n pid _ => decide (n < 10) && decide (pid < 256)
  | .linFrameReceived n f => decide (n < 10) && f.wf
  | .rfxSvcRemove c | .rfxSvcReturn c | .budgetAbort c => decide (c < 8)
  | .coreFailure c _ | .coreSelfTestEnd c _ => decide (c < 8)
  | .hostCtlEnSet dbper | .hostCtlEnClear dbper => decide (dbper < 128)
  | .fltCtlClr r | .faultRecovery r => decide (r < 256)
  | .msixVectorUnmask v => decide (v < 33)
  | .deviceReset _ pass | .dieLReady pass => decide (pass.length ≤ 8)
  | .mgpReset data pass => decide (data < 256) && decide (pass.length ≤ 8)
  | .snapshotSeal ready => decide (ready.length ≤ 8)
  | .entryExpiry i | .entryResend i => decide (i < 0x20000)
  | .pwmPeriodStart u | .pwmOnTimeEnd u => u.wf
  | .senseSample _ x => x.wf
  | .overloadTrip u | .snuffEnd u | .retryDue u | .retryRefill u | .inrushWindowEnd u | .softStartCarrier u | .openLoadTestStart u |
    .openLoadTestEnd u => decide (u < 64)
  | .shortComparatorTrip u _ => decide (u < 64)
  | .vdsTrip u _ => decide (48 ≤ u) && decide (u < 64)
  | .emberSet u _ _ | .emberRelease u _ _ => u.wf
  | .wickStep d | .bundleNodeMessage d | .bundleMessageTimeout d | .droopDetected d | .droopNotice d | .droopEndNotice d | .droopCap
    d | .droopFreezeEnd d | .droopRecordLimit d | .bridgeControlStep d | .bridgeSeqOverrun d => d.isPower
  | .periodicFeedback u _ => u.wf
  | .inputRawEdge n _ | .pulsedWettingRead n _ => decide (n < 160)
  | .debounceAccept n | .inputChatter n | .lowbatSuspensionEnd n => decide (n < 160)
  | .parkPoll vins => decide (vins.length ≤ 40)
  | .add k d a b | .sub k d a b | .andI k d a b | .orI k d a b | .xorI k d a b | .sll k d a b | .srl k d a b | .sra k d a b | .slt k
    d a b | .sltu k d a b => k.wf && regWf d && regWf a && regWf b
  | .nopInstruction k | .endI k => k.wf
  | .addi k d a _ | .andi k d a _ | .ori k d a _ | .xori k d a _ | .slli k d a _ | .srli k d a _ | .srai k d a _ | .slti k d a _ => k.wf && regWf d && regWf a
  | .lui k d _ => k.wf && regWf d
  | .mul k a b | .mulu k a b | .mac k a b => k.wf && regWf a && regWf b
  | .multiplierResult k => k.wf
  | .mfs k d sp => k.wf && regWf d && decide (sp < 65536)
  | .mts k sp a => k.wf && regWf a && decide (sp < 65536)
  | .ldw k d a _ | .stw k d a _ => k.wf && regWf d && regWf a
  | .bc k a b cond _ => k.wf && regWf a && regWf b && decide (cond < 8)
  | .prd k d port => k.wf && regWf d && decide (port < 65536)
  | .pwr k d port => k.wf && regWf d && decide (port < 65536)
  | .ldv k d i | .lde k d i | .ste k d i => k.wf && regWf d && decide (i < 0x20000)
  | .ldvx k d a | .ldex k d a | .stex k d a => k.wf && regWf d && regWf a
  | .ldb k d a b => k.wf && regWf d && regWf a && regWf b
  | .br k _ | .bl k _ => k.wf
  | .jr k a => k.wf && regWf a
  | .sk k a b cond => k.wf && regWf a && regWf b && decide (cond < 8)
  | .ski k a cond _ => k.wf && regWf a && decide (cond < 8)
  | .skst k _ => k.wf
  | .loop k a _ => k.wf && regWf a
  | .loopi k _ _ => k.wf
  | .ethFrameReceived p f => decide (p < 5) && decide (60 ≤ f.length) && decide (f.length ≤ 1518)
  | .ethFrameTxStart p | .ethFrameTxEnd p => decide (p < 5)
  | .ethLinkChange p _ _ _ => decide (p < 4)
  | .pdelayReqReceived p seq => decide (p < 4) && decide (seq < 65536)
  | .doorbellData x => x.wf
  | .descriptorAccept q x => decide (q < 32) && x.wf
  | .cqModerationTimer q | .ringDrainTimeout q => decide (q < 32)
  | .snapReadAtSeal t | .nop t | .ringAdd t | .ringRemove t | .funcReset t | .ledgerRead t | .immediateWrite t | .unitClear t |
    .coreService t | .canCancel t | .canRecover t | .canMode t | .rxPost t | .linSched t | .linDiag t | .derive t | .slotRetire t |
    .slotClear t | .alarm t | .challenge t | .tokenRegister t | .tokenRemove t | .calibrate t | .faultRead t | .faultNotices t |
    .faultClear t | .faultInject t | .evrRead t | .evrMark t | .evrClear t | .cfgCommit t | .cfgRollback t | .cfgStatus t |
    .cfgRaisemin t | .lifecycle t | .debugUnlock t | .testMode t | .pwrVote t | .pwrStatus t | .pwrTimer t => decide (t < 256)
  | .ledgerWrite t x | .canTx t x | .ethTx t x | .hash t x | .cfgWrite t x | .rootProvision t x => decide (t < 256) && x.wf
  | .cipher t x y => decide (t < 256) && x.wf && y.wf
  | .repeatWriteback n => decide (n < 8192)
  | .lfDriverShort k _ | .lfDriverOpen k _ => decide (k < 8)
  | .tkrFrameReceived f | .buttonFrame f => decide (f.length ≤ 64)
  | .cipherRequestStart k | .nonceCeilingWritten k | .cipherRequestEnd k => decide (k < 3)
  | .lanternReceived x => x.wf
  | .peerSilent i => decide (i < 32)
  | .mgpAddressMatch a => decide (a < 128)
  | .mgpDebug cmd => decide (cmd < 256)
  | .railLoss rail _ => decide (rail < 3)
  | .forwardingDatabaseAgeing _ vid => decide (vid < 4096)
  | .pcieCompletionTimeout x => x.wf
  | .ledgPeekidxWrite _ | .pwrCtlVotePark | .pwrCtlVoteWithdraw | .pcieLinkDown | .crystalStable | .crystalFail | .startingTimeout |
    .degradedReturn | .asSyncReceived _ _ | .asConverged | .asSyncLoss | .timeMarkerSend | .timeMarkerReceived _ _ | .islandRelock _ |
    .markerLoss _ | .ledgerUpdateArrival _ | .ledgerIntakeCommit | .frameZeroStart | .frameBoundary | .stagingClose |
    .stagedWriteArrival _ | .frameCloseMessage _ | .dieBoundaryApply _ | .limpEntry _ | .sensingWindowEnd _ | .boostReady |
    .boostReadyLoss | .boostNotReady | .boostOvp | .ledFoldbackStep _ | .immediateApply _ | .lfControlStep | .lfSeqOverrun |
    .doorbellFetch | .cipherStartDone | .cipherAlarm _ |
    .eraseComplete | .challengeStart | .challengeEnd | .tkrStrobe | .replySlotEnd | .replyVerified | .lockoutEnd | .sessionTimeout |
    .faultRaise _ | .eventRecord | .opsecTick | .dieParamsReceived _ | .dieParamAck _ | .swapTimeout | .lanternDue | .wakeStart |
    .tkrWake _ | .tamper _ | .mgpStatus | .parkTimerWake | .powerOn _ _ | .wakeRetry | .rqbRequest | .rqbStatusRead _ | .rqbRetry |
    .regFail | .domainReady _ | .domainStartTimeout _ | .domainDemandWake _ | .domainStallTimeout _ | .shutdownTimeout | .parkEntry |
    .supplyUvEntry _ | .supplyUvExit _ | .supplyOvEntry _ | .supplyOvExit _ | .gndshiftEntry _ | .gndshiftExit _ | .powerDieReset _ _
    | .candleReset _ | .wakeVoltageOk | .boostOvpEnd | .pcieLinkUp | .busMasterEnableChange _ _ => true

end Sys2Proof
end

