-- ==== Sys2Proof/Tests/Slice0.lean ====
section
/-! SUPPORT. Tests: ill-formed commands are refused, worked values of the standards and of the spec, and for every clause of a statement that has hypotheses a state and operands that meet them all. -/

namespace Sys2Proof.Tests

open Sys2Proof.Machine Sys2Proof.Safety

set_option Elab.async false

/-! ### Well-formedness: an ill-formed command for each check -/

theorem test_wellFormed_refuses_registers : ([
    .registerWrite 0x100000 4 0, .registerWrite 0 3 0, .read64LowWord 0x100000, .read64LowWord 4, .write64HighWord 0x100004 0, .write64HighWord 8 0,
    .hswCtlClear 48, .pdrvCtlClear 16, .brgCtlClear 14, .vlvCtlClear 24, .vlvBctlClear 6, .ledCtlClear 48, .fltCtlClr 256, .faultRecovery 256,
    .msixVectorUnmask 33, .hostCtlEnSet 128, .hostCtlEnClear 128, .entryExpiry 0x20000, .entryResend 0x20000] : List Instr).all (fun i => !i.wellFormed) = true := by decide +kernel

theorem test_wellFormed_refuses_units : ([
    .pwmPeriodStart (.chan 64), .pwmOnTimeEnd (.motor 14), .currentChop 14 0, .bridgeTrip 14 { cur := 0, vds := [0, 0, 0, 0], sw := [0, 0, 0, 0] },
    .bridgeTrip 0 { cur := 0, vds := [0], sw := [0, 0, 0, 0] }, .bridgeTrip 0 { cur := 0, vds := [0, 0, 0, 0], sw := [0] }, .valveTrip 24 0,
    .valveCurrentTargetReached 24 0, .bankTrip 6 0, .overloadTrip 64, .shortComparatorTrip 64 0, .vdsTrip 47 0, .vdsTrip 64 0,
    .emberSet (.chan 64) 0 0, .emberSet (.motor 14 0) 0 0, .emberSet (.motor 0 2) 0 0, .emberSet (.valve 24) 0 0, .emberRelease (.bank 6) 0 0,
    .wickStep .v, .inputRawEdge 160 0, .debounceAccept 160, .parkPoll (List.replicate 41 0),
    .senseSample .p0 { vbat := 65536, shift := 0, rail := 0, chans := [], motors := [], valves := [], banks := [], leds := [] },
    .senseSample .p0 { vbat := 0, shift := 0, rail := 0, chans := [{ u := 64, cur := 0, vout := 0 }], motors := [], valves := [], banks := [], leds := [] },
    .senseSample .p0 { vbat := 0, shift := 0, rail := 0, chans := [], motors := [{ m := 14, cur := 0, vab := 0 }], valves := [], banks := [], leds := [] },
    .senseSample .p0 { vbat := 0, shift := 0, rail := 0, chans := [], motors := [], valves := [{ n := 24, cur := 0, volt := 0 }], banks := [], leds := [] },
    .senseSample .p0 { vbat := 0, shift := 0, rail := 0, chans := [], motors := [], valves := [], banks := [{ n := 6, cur := 0, volt := 0 }], leds := [] },
    .senseSample .p0 { vbat := 0, shift := 0, rail := 0, chans := [], motors := [], valves := [], banks := [], leds := [{ n := 48, cur := 0, volt := 0 }] }] : List Instr).all (fun i => !i.wellFormed) = true := by decide +kernel

theorem test_wellFormed_refuses_feedback : ([
    .periodicFeedback (.chanTj 64) 0, .periodicFeedback (.chanTc 64) 0, .periodicFeedback (.bundle 16) 0, .periodicFeedback (.motorCur 14) 0,
    .periodicFeedback (.valveCur 24) 0, .periodicFeedback (.bankCur 6) 0, .periodicFeedback (.ledVsink 48) 0, .periodicFeedback (.inputVin 160) 0] : List Instr).all (fun i => !i.wellFormed) = true := by decide +kernel

theorem test_wellFormed_refuses_buses : ([
    .canTxStart 12, .canFrameSent 12 0, .canFrameSent 0 128, .canError 12 { kinds := 0, tdcv := none } 0 0,
    .canError 0 { kinds := 64, tdcv := none } 0 0, .canError 0 { kinds := 0, tdcv := some 128 } 0 0,
    .canFrameReceived 12 { id := 0, ide := false, rtr := false, fdf := true, brs := false, esi := false, dlc := 0, data := List.replicate 0 0 },
    .canFrameReceived 0 { id := 2048, ide := false, rtr := false, fdf := true, brs := false, esi := false, dlc := 0, data := List.replicate 0 0 },
    .canFrameReceived 0 { id := (2 ^ 29), ide := true, rtr := false, fdf := true, brs := false, esi := false, dlc := 0, data := List.replicate 0 0 },
    .canFrameReceived 0 { id := 0, ide := false, rtr := false, fdf := true, brs := false, esi := false, dlc := 16, data := List.replicate 0 0 },
    .canFrameReceived 0 { id := 0, ide := false, rtr := false, fdf := true, brs := false, esi := false, dlc := 0, data := List.replicate 65 0 },
    .canFrameReceived 0 { id := 0, ide := false, rtr := false, fdf := false, brs := false, esi := false, dlc := 0, data := List.replicate 9 0 },
    .canWakeFrame 2 { id := 0, ide := false, rtr := false, fdf := true, brs := false, esi := false, dlc := 0, data := List.replicate 0 0 } true,
    .canWakePattern 2, .linSlotStart 10, .linCtlSreq 10 0, .linCtlSreq 0 16, .linRemoteWake 10 0,
    .linHeaderReceived 10 0 { parityOk := true, ago := 0 }, .linHeaderReceived 0 256 { parityOk := true, ago := 0 },
    .linFrameReceived 10 { pid := 0, data := [], err := 0, collision := false },
    .linFrameReceived 0 { pid := 256, data := [], err := 0, collision := false },
    .linFrameReceived 0 { pid := 0, data := List.replicate 9 0, err := 0, collision := false },
    .linFrameReceived 0 { pid := 0, data := [], err := 16, collision := false }, .ethFrameReceived 5 (List.replicate 60 0),
    .ethFrameReceived 0 (List.replicate 59 0), .ethFrameReceived 0 (List.replicate 1519 0), .ethFrameTxStart 5, .ethLinkChange 4 true 0 true,
    .pdelayReqReceived 4 0, .pdelayReqReceived 0 65536, .forwardingDatabaseAgeing 0 4096,
    .lanternReceived (.can 12 { id := 0, ide := false, rtr := false, fdf := true, brs := false, esi := false, dlc := 0, data := List.replicate 0 0 }),
    .lanternReceived (.eth 4 0 0 []), .lanternReceived (.eth 0 0 0 (List.replicate 1501 0))] : List Instr).all (fun i => !i.wellFormed) = true := by decide +kernel

theorem test_wellFormed_refuses_machines : ([
    .rfxSvcRemove 8, .coreFailure 8 1, .add (.reflex 8) 0 0 0, .add .lf 32 0 0, .add .lf 0 32 0, .add .lf 0 0 32, .nopInstruction (.bridge 2),
    .addi (.bank 6) 0 0 0, .addi .lf 32 0 0, .addi .lf 0 32 0, .lui (.reflex 8) 0 0, .lui .lf 32 0, .mul (.reflex 8) 0 0, .mul .lf 32 0,
    .mul .lf 0 32, .multiplierResult (.reflex 8), .mfs (.reflex 8) 0 0, .mfs .lf 32 0, .mfs .lf 0 65536, .mts (.reflex 8) 0 0, .mts .lf 65536 0,
    .mts .lf 0 32, .ldw (.reflex 8) 0 0 0, .stw .lf 32 0 0, .ldw .lf 0 32 0, .bc (.reflex 8) 0 0 0 0, .bc .lf 32 0 0 0, .bc .lf 0 32 0 0,
    .bc .lf 0 0 8 0, .prd (.reflex 8) 0 0, .prd .lf 32 0, .prd .lf 0 65536, .pwr (.reflex 8) 0 0, .pwr .lf 32 0, .pwr .lf 0 65536,
    .ldv (.reflex 8) 0 0, .lde (.reflex 0) 32 0, .ste (.reflex 0) 0 0x20000, .ldvx (.reflex 8) 0 0, .ldex (.reflex 0) 32 0, .stex (.reflex 0) 0 32,
    .ldb (.reflex 8) 0 0 0, .ldb (.reflex 0) 32 0 0, .ldb (.reflex 0) 0 32 0, .ldb (.reflex 0) 0 0 32, .br (.reflex 8) 0, .jr (.reflex 8) 0,
    .jr .lf 32, .sk (.reflex 8) 0 0 0, .sk .lf 32 0 0, .sk .lf 0 32 0, .sk .lf 0 0 8, .ski (.reflex 8) 0 0 0, .ski .lf 32 0 0, .ski .lf 0 8 0,
    .skst (.reflex 8) 0, .loop (.reflex 8) 0 0, .loop .lf 32 0, .loopi (.reflex 8) 0 0] : List Instr).all (fun i => !i.wellFormed) = true := by decide +kernel

theorem test_wellFormed_refuses_host : ([
    .doorbellData (.data (List.replicate 65537 0)), .descriptorAccept 32 .timeout, .descriptorAccept 0 (.data (List.replicate 65537 0)),
    .cqModerationTimer 32, .nop 256, .ledgerWrite 256 .timeout, .ledgerWrite 0 (.data (List.replicate 65537 0)), .cipher 256 .timeout .timeout,
    .cipher 0 (.data (List.replicate 65537 0)) .timeout, .cipher 0 .timeout (.data (List.replicate 65537 0)), .repeatWriteback 8192,
    .lfDriverShort 8 0, .tkrFrameReceived (List.replicate 65 0), .cipherRequestStart 3, .peerSilent 32, .mgpAddressMatch 128, .mgpDebug 256,
    .railLoss 3 0, .pcieCompletionTimeout (.descriptor 32), .pcieCompletionTimeout (.operation 256), .deviceReset true (List.replicate 9 true),
    .mgpReset 256 [], .mgpReset 0 (List.replicate 9 true), .snapshotSeal (List.replicate 9 true)] : List Instr).all (fun i => !i.wellFormed) = true := by decide +kernel

/-! ### Worked values: the words of the worked example of chapter 11, FIPS 197 C.1, FIPS 180-4 "abc", the check value of CRC-16, ISO 17987 identifiers -/

theorem test_celper_words_of_the_worked_example :
    [encX 0x30 1 0x4A10, encZ 0x3D 2, encJ 0x38 14, encI 0x10 2 0 160, encR 0x02 2 2 1, encI 0x10 3 0 13, encR 0x20 0 2 3, encI 0x23 2 0 0, encCI 0x3C 2 3 0,
      encC 0x3B 2 5 2 0, encI 0x14 2 2 4, encI 0x12 2 2 2, encLPI 0x3F 4 1, encR 0x36 2 4 0, encZ 0x0D 0]
    = [0xC0204A10, 0xF4000002, 0xE000000E, 0x404000A0, 0x08420800, 0x4060000D, 0x80021800, 0x8C400000, 0xF04C0000,
      0xEC454000, 0x50420004, 0x48420002, 0xFC010001, 0xD8440000, 0x34000000] := by decide +kernel

theorem test_celper_product_of_the_worked_example :
    (((issued (wCel (encR 0x20 0 1 2) 232 13) (.reflex 2) 1).g 1).toInt * ((issued (wCel (encR 0x20 0 1 2) 232 13) (.reflex 2) 1).g 2).toInt) * 16 + 2 = 0xBC82 := by
  decide +kernel

theorem test_aes128_fips197 :
    aesEnc ((List.range 16).map (BitVec.ofNat 8)) ((List.range 16).map (fun i => BitVec.ofNat 8 (17 * i))) =
      [0x69, 0xC4, 0xE0, 0xD8, 0x6A, 0x7B, 0x04, 0x30, 0xD8, 0xCD, 0xB7, 0x80, 0x70, 0xB4, 0xC5, 0x5A] := by decide +kernel

theorem test_crc16_check_value : crcOf 16 0x1021 0xFFFF [0x31, 0x32, 0x33, 0x34, 0x35, 0x36, 0x37, 0x38, 0x39] = 0x29B1 := by decide +kernel

theorem test_lin_protected_identifiers : [linPid 0, linPid 1, linPid 0x3C, linPid 0x3D] = [0x80, 0xC1, 0x3C, 0x7D] := by decide +kernel

theorem test_sys_id : State.reset.rd Reg.SYS_ID.PART = 0x9600 ∧ State.reset.rd Reg.SYS_ID.STEP = 0x21 := by decide +kernel

theorem test_core : Sys2Proof.core.reset = State.reset := rfl

theorem test_sha256_abc : (sha256 [0x61, 0x62, 0x63]).take 4 = [0xBA, 0x78, 0x16, 0xBF] := by decide +kernel

/-! ### Witnesses of the statements' hypotheses -/

theorem witness_RegisterCommands :
    (∃ (s : State) (off : Nat) (v : W32) (r : RegRow), s.started = true ∧ off < 0x100000 ∧ off % 4 = 0 ∧ regDie off = none ∧ regRow off = some r ∧ s.writeOwn off v.toNat = none ∧ r.wide = 0 ∧ r.rwl = 0 ∧ r.otp = 0) ∧
    (∃ (s : State) (off : Nat) (r : RegRow), s.started = true ∧ regRow off = some r ∧ r.wide = 1 ∧ regDie off = none) ∧
    (∃ (s : State) (off : Nat) (v lo : W32) (r : RegRow), s.started = true ∧ off < 0x100000 ∧ off % 4 = 0 ∧ regDie off = none ∧ regRow off = some r ∧ s.writeOwn off v.toNat = none ∧ r.wide = 2 ∧ r.rw ≠ 0 ∧ SMap.get (fun _ => none) s.latches.low (off - 4) = some lo) ∧
    (∃ (s : State) (v : W32) (a : Attr), s.started = true ∧ s.attr (v.toNat % 2 ^ 17) = some a) :=
  ⟨⟨wRun 5000, 4104, 7#32, wRow 4104, by decide +kernel⟩,
   ⟨wRun 5000, 8200, wRow 8200, by decide +kernel⟩,
   ⟨{ wRun 5000 with latches := { low := [(114696, some 5#32)] } }, 114700, 7#32, 5#32, wRow 114700, by decide +kernel⟩,
   ⟨wRun 5000, 0x10#32, { freshint := 80000, kind := 0, width := 32, owner := .unit }, by decide +kernel⟩⟩

theorem witness_ClearCommands_1 :
    (∃ (s : State) (n : Nat), n < 48 ∧ s.domReady (chanDie n) = true ∧ s.chEnabled n = true) ∧
    (∃ (s : State) (n : Nat), n < 16 ∧ s.domReady (chanDie (48 + n)) = true ∧ s.chEnabled (48 + n) = true) ∧
    (∃ (s : State) (m : Nat), m < 14 ∧ s.domReady (motorDie m) = true ∧ s.mEnabled m = true) ∧
    (∃ (s : State) (n : Nat), n < 24 ∧ s.domReady .v = true ∧ s.vEnabled n = true) ∧
    (∃ (s : State) (b : Nat), b < 6 ∧ s.domReady .v = true ∧ s.bEnabled b = true) ∧
    (∃ (s : State) (n : Nat), n < 48 ∧ s.domReady .v = true ∧ s.lEnabled n = true) :=
  ⟨⟨(wRun 5000).wr (Reg.CH_CFG.ENABLE 3) 1, 3, by decide +kernel⟩,
   ⟨(wRun 5000).wr (Reg.CH_CFG.ENABLE 51) 1, 3, by decide +kernel⟩,
   ⟨(wRun 5000).wr (Reg.BRG_CFG.ENABLE 3) 1, 3, by decide +kernel⟩,
   ⟨(wRun 5000).wr (Reg.VLV_CFG.ENABLE 3) 1, 3, by decide +kernel⟩,
   ⟨(wRun 5000).wr (Reg.VLV_BCFG.ENABLE 3) 1, 3, by decide +kernel⟩,
   ⟨(wRun 5000).wr (Reg.LED_CFG.ENABLE 3) 1, 3, by decide +kernel⟩⟩

theorem witness_ClearCommands_2 :
    (∃ (s : State) (t n : Nat) (o : HostOp), s.opReady t 0x18 = some o ∧ o.fld 16 2 = 0x0100 + n ∧ n < 48 ∧ s.domReady (chanDie n) = true ∧ s.chEnabled n = true) :=
  ⟨(wOp 0x18 [3, 1]).wr (Reg.CH_CFG.ENABLE 3) 1, 1, 3, wHostOp 0x18 [3, 1], by decide +kernel⟩

theorem witness_LedgerCommands_1 :
    (∃ (s : State) (d : Die) (u : Upd) (us : List UpMsg), (s.link d).up = .update u :: us ∧ s.linkCarries d = true ∧ s.intakeFull = false ∧ s.now ≤ u.stamp + 400) ∧
    (∃ (s : State) (d : Die) (u : Upd) (us : List UpMsg), (s.link d).up = .update u :: us ∧ s.linkCarries d = true ∧ s.intakeFull = false ∧ u.stamp + 400 < s.now) ∧
    (∃ (s : State) (u : Upd) (us : List Upd), s.led.fromL = u :: us ∧ s.intakeFull = false) ∧
    (∃ (s : State) (i : Nat), (s.live i).state = .fresh ∧ (s.live i).deadline ≠ 0 ∧ (s.live i).deadline ≤ s.now) ∧
    (∃ (s : State) (t : Nat) (o : HostOp) (a : Attr), s.op t = some o ∧ o.opcode = 0x11 ∧ o.begun = true ∧ s.tb.sealed = true ∧ s.attr (o.fld 16 3) = some a) ∧
    (∃ (s : State) (t : Nat) (x : ReadResult) (o : HostOp) (a : Attr), s.opReady t 0x10 = some o ∧ s.ledgerTurn o = true ∧ s.attr (o.fld 16 3) = some a ∧ hostValueOk a o = true ∧ a.owner = .host ∧ a.kind ≠ 3) :=
  ⟨⟨(wRun 5000).setLink .p0 { up := [.update { idx := 0x10, value := 5#64, stamp := 4900, src := 2 }] }, .p0, { idx := 0x10, value := 5#64, stamp := 4900, src := 2 }, [], by decide +kernel⟩,
   ⟨(wRun 5500).setLink .p0 { up := [.update { idx := 0x10, value := 5#64, stamp := 4900, src := 2 }] }, .p0, { idx := 0x10, value := 5#64, stamp := 4900, src := 2 }, [], by decide +kernel⟩,
   ⟨{ wRun 5000 with led := { fromL := [{ idx := 0x10, value := 5#64, stamp := 4900, src := 2 }] } }, { idx := 0x10, value := 5#64, stamp := 4900, src := 2 }, [], by decide +kernel⟩,
   ⟨{ wRun 5000 with led := { live := [(0x10, { deadline := 4000, state := .fresh })] } }, 0x10, by decide +kernel⟩,
   ⟨{ wOp 0x11 [] with host := { ops := [(1, { wHostOp 0x11 [0x10, 0, 0, 0, 1] with begun := true })] }, tb := { sealed := true } }, 1, { wHostOp 0x11 [0x10, 0, 0, 0, 1] with begun := true }, { freshint := 80000, kind := 0, width := 32, owner := .unit }, by decide +kernel⟩,
   ⟨{ wOp 0x10 [0, 0x40, 0] with img := { attrs := [(0x4000, some { width := 32, owner := .host })] } }, 1, .data [], wHostOp 0x10 [0, 0x40, 0], { width := 32, owner := .host }, by decide +kernel⟩⟩

theorem witness_LedgerCommands_2 :
    (∃ (s : State) (t : Nat) (o : HostOp) (a : Attr), s.opReady t 0x11 = some o ∧ s.ledgerTurn o = true ∧ s.led.fromHost = [] ∧ s.attr (o.fld 16 3) = some a ∧ bitOf (o.fld 20 1) 0 = false) ∧
    (∃ (s : State) (u : Upd) (us : List Upd) (a : Attr), s.led.intake = u :: us ∧ s.led.commitAt ≠ s.now ∧ s.attr u.idx = some a ∧ a.owner = u.own) :=
  ⟨⟨wOp 0x11 [0x10], 1, wHostOp 0x11 [0x10], { freshint := 80000, kind := 0, width := 32, owner := .unit }, by decide +kernel⟩,
   ⟨{ wRun 5000 with led := { intake := [{ idx := 0x10, value := 5#64, stamp := 4900, src := 2 }] } }, { idx := 0x10, value := 5#64, stamp := 4900, src := 2 }, [], { freshint := 80000, kind := 0, width := 32, owner := .unit }, by decide +kernel⟩⟩

theorem witness_TimeCommands_1 :
    (∃ (s : State) (g c : Int) (t0 : Nat) (g0 : Int), s.started = true ∧ s.asPortUp = true ∧ s.tb.lastSync = some (t0, g0)) ∧
    (∃ (s : State) (d : Die) (err : Int) (m : Nat) (s1 : State), s.popDown d = some (.marker m, s1) ∧ err.natAbs ≤ 500 ∧ ((s1.isl d).atMarker s.now).slew = false) ∧
    (∃ (s : State) (d : Die) (err : Int) (m : Nat) (s1 : State), s.popDown d = some (.marker m, s1) ∧ 500 < err.natAbs) ∧
    (∃ (s : State) (d : Die), s.locked d = false ∧ 64 ≤ (s.isl d).relock) ∧
    (∃ (s : State) (d : Die), (s.isl d).lost = false ∧ (s.isl d).lastMarker ≠ 0 ∧ (s.isl d).lastMarker + 3200 ≤ (s.isl d).count) ∧
    (∃ (s : State), s.started = true ∧ s.flag Reg.TIME_STATE.XTALOK = false ∧ s.tbSt = .starting ∧ s.now ≤ s.tb.startTick + 2000000) :=
  ⟨⟨{ ((wRun 5000).wr (Reg.ETH_PCFG.ENABLE 0) 1).wr (Reg.ETH_PSTAT.LINK 0) 1 with tb := { lastSync := some (4000, 20000) } }, 25000, 0, 4000, 20000, by decide +kernel⟩,
   ⟨(wRun 5000).setLink .p0 { down := [.marker 4900] }, .p0, 3, 4900, (wRun 5000).setLink .p0 {}, by decide +kernel⟩,
   ⟨(wRun 5000).setLink .p0 { down := [.marker 4900] }, .p0, 501, 4900, (wRun 5000).setLink .p0 {}, by decide +kernel⟩,
   ⟨(wRun 5000).setIsl .p0 { count := 5000, relock := 64 }, .p0, by decide +kernel⟩,
   ⟨(wRun 5000).setIsl .p0 { count := 5000, lastMarker := 1000 }, .p0, by decide +kernel⟩,
   ⟨(wRun 5000).wr Reg.TIME_STATE.STATE 0, by decide +kernel⟩⟩

theorem witness_TimeCommands_2 :
    (∃ (s : State), s.tbSt = .crystal ∧ s.started = true ∧ s.flag Reg.TIME_DISC.ASEN = true ∧ s.flag Reg.TIME_STATE.ASSYNC = true ∧ 16 ≤ s.tb.syncCount) ∧
    (∃ (s : State), s.flag Reg.TIME_STATE.ASSYNC = true) ∧
    (∃ (s : State), s.started = true ∧ s.now % 200 = 0 ∧ s.tb.markersSent ≠ s.now) :=
  ⟨⟨(({ wRun 5000 with tb := { syncCount := 16 } } : State).wr Reg.TIME_DISC.ASEN 1).wr Reg.TIME_STATE.ASSYNC 1, by decide +kernel⟩,
   ⟨(wRun 5000).wr Reg.TIME_STATE.ASSYNC 1, by decide +kernel⟩,
   ⟨wRun 5000, by decide +kernel⟩⟩

theorem witness_HostInterfaceCommands_1 :
    (∃ (s : State) (d : Nat), s.started = true ∧ s.host.linkUp = true ∧ s.flag Reg.HOST_CTL.EN = false) ∧
    (∃ (s : State) (d : Nat), s.started = true ∧ s.flag Reg.HOST_CTL.EN = true) ∧
    (∃ (s : State) (v : Nat), v < 33 ∧ s.hostUp = true ∧ (SMap.get MsixVec.blank s.host.msix v).pending = true) ∧
    (∃ (s : State), s.started = true ∧ s.host.linkUp = false) ∧
    (∃ (s : State), s.started = true ∧ s.host.linkUp = true) ∧
    (∃ (s : State), s.host.linkUp = true) :=
  ⟨⟨(wRun 5000).wr Reg.HOST_CTL.EN 0, 1, by decide +kernel⟩,
   ⟨wRun 5000, 1, by decide +kernel⟩,
   ⟨{ wRun 5000 with host := { linkUp := true, bme := true, msix := [(3, { masked := true, pending := true })] } }, 3, by decide +kernel⟩,
   ⟨{ wRun 5000 with host := {} }, by decide +kernel⟩,
   ⟨wRun 5000, by decide +kernel⟩,
   ⟨wRun 5000, by decide +kernel⟩⟩

theorem witness_HostInterfaceCommands_2 :
    (∃ (s : State) (d3 : Bool), s.host.linkUp = true) ∧
    (∃ (s : State), s.hostUp = true ∧ s.busMaster = true ∧ s.rd Reg.HOST_CTL.DBPER ≠ 0 ∧ s.now % (s.rd Reg.HOST_CTL.DBPER * 200) = 0) ∧
    (∃ (s : State) (x : ReadResult) (b : List Byte), s.hostUp = true ∧ 0 < s.host.fetchOut ∧ readBytes x 256 = some b) ∧
    (∃ (s : State) (q : Nat) (x : ReadResult) (d : List Byte), s.hostUp = true ∧ s.busMaster = true ∧ s.pow.lastBound = none ∧ s.nextSq = some q ∧ readBytes x 64 = some d ∧ byteField d 2 1 % 2 = 0) ∧
    (∃ (s : State), s.hostUp = true ∧ 0 < s.host.fetchOut) ∧
    (∃ (s : State) (q : Nat), s.hostUp = true ∧ (s.cq q).active = true ∧ (s.cq q).itime ≠ 0 ∧ 0 < (s.cq q).unsig ∧ (s.cq q).vec ≠ 255 ∧ (s.cq q).firstUnsig + (s.cq q).itime * 200 ≤ s.now) :=
  ⟨⟨wRun 5000, true, by decide +kernel⟩,
   ⟨(wRun 5000).wr Reg.HOST_CTL.DBPER 1, by decide +kernel⟩,
   ⟨{ wRun 5000 with host := { linkUp := true, bme := true, fetchOut := 1 } }, .data (List.replicate 256 0#8), List.replicate 256 0#8, by decide +kernel⟩,
   ⟨{ wRun 5000 with host := { linkUp := true, bme := true, sqs := [(0, { st := .active, tail := 1 })], cqs := [(0, { active := true })] } }, 0, .data (List.replicate 64 0#8), List.replicate 64 0#8, by decide +kernel⟩,
   ⟨{ wRun 5000 with host := { linkUp := true, bme := true, fetchOut := 1 } }, by decide +kernel⟩,
   ⟨{ wRun 5000 with host := { linkUp := true, bme := true, cqs := [(0, { active := true, vec := 1, itime := 1, unsig := 1, firstUnsig := 100 })] } }, 0, by decide +kernel⟩⟩

theorem witness_HostInterfaceCommands_3 :
    (∃ (s : State) (q : Nat), s.hostUp = true ∧ (s.sq q).st = .draining ∧ (s.sq q).drained = false ∧ (s.sq q).remTick + s.rd Reg.HOST_DRAIN.TMO * 200000 ≤ s.now) :=
  ⟨{ (wRun 900000000).wr Reg.HOST_DRAIN.TMO 1 with host := { linkUp := true, bme := true, sqs := [(1, { st := .draining, remTick := 100 })] } }, 1, by decide +kernel⟩

theorem witness_RingOperations :
    (∃ (s : State) (t : Nat) (o : HostOp), s.opReady t 0 = some o) ∧
    (∃ (s : State) (t : Nat) (o : HostOp), s.opReady t 1 = some o ∧ o.fld 16 1 = 0 ∧ o.fld 17 1 ≠ 0 ∧ o.fld 17 1 < 32 ∧ ringOk (o.fld 18 1) (o.fld 24 8) = true ∧ 1 ≤ o.fld 20 1 ∧ o.fld 20 1 ≤ 16 ∧ o.fld 19 1 < 32 ∧ (s.cq (o.fld 19 1)).active = true ∧ o.fld 21 1 = 0 ∧ (s.sq (o.fld 17 1)).st = .absent) ∧
    (∃ (s : State) (t : Nat) (o : HostOp), s.opReady t 2 = some o ∧ o.fld 16 1 = 0 ∧ o.fld 17 1 ≠ 0 ∧ o.fld 17 1 < 32 ∧ (s.sq (o.fld 17 1)).st = .active ∧ o.fld 17 1 ≠ o.sq ∧ (o.fld 20 2 + 65536 - (s.sq (o.fld 17 1)).consumed) % 65536 ≤ 2 ^ (s.sq (o.fld 17 1)).log2) ∧
    (∃ (s : State) (t i : Nat) (o : HostOp), s.opReady t 3 = some o ∧ o.fld 16 2 = 0x0900 + i ∧ i < 4 ∧ s.flag (Reg.ETH_PCFG.ENABLE i) = true) ∧
    (∃ (s : State) (t : Nat) (o : HostOp), s.opReady t 0x24 = some o ∧ o.fld 16 1 = 0 ∧ o.fld 17 1 < 12 ∧ s.canSt (o.fld 17 1) ≠ 0) :=
  ⟨⟨wOp 0 [], 1, wHostOp 0 [], by decide +kernel⟩,
   ⟨{ wOp 1 [0, 2, 6, 0, 1] with host := { (wOp 1 [0, 2, 6, 0, 1]).host with cqs := [(0, { active := true })] } }, 1, wHostOp 1 [0, 2, 6, 0, 1], by decide +kernel⟩,
   ⟨{ wOp 2 [0, 2] with host := { (wOp 2 [0, 2]).host with sqs := [(0, { st := .active }), (2, { st := .active })] } }, 1, wHostOp 2 [0, 2], by decide +kernel⟩,
   ⟨(wOp 3 [1, 9]).wr (Reg.ETH_PCFG.ENABLE 1) 1, 1, 1, wHostOp 3 [1, 9], by decide +kernel⟩,
   ⟨(wOp 0x24 [0, 1]).wr (Reg.CAN_STAT.STATE 1) 1, 1, wHostOp 0x24 [0, 1], by decide +kernel⟩⟩

theorem witness_FrameCommands_1 :
    (∃ (s : State), s.started = true ∧ s.tb.framesOn = false ∧ s.tbSt ≠ .starting ∧ s.now % 2000 = 0 ∧ s.power = Pw.waking ∧ s.diesConfirmed = true) ∧
    (∃ (s : State) (r : List Bool), s.started = true ∧ s.tb.framesOn = true ∧ s.tb.sealed = false ∧ s.bound + 400 ≤ s.now) ∧
    (∃ (s : State), s.started = true ∧ s.tb.framesOn = true ∧ s.tb.sealed = true ∧ s.tb.closed = false ∧ s.bound + s.period ≤ s.now + 2000 ∧ s.engine = 1) ∧
    (∃ (s : State), s.started = true ∧ s.tb.framesOn = true ∧ s.tb.closed = true ∧ s.bound + s.period ≤ s.now ∧ (s.showUsedAll.frameDone.commitStagedAll (s.bound + s.period)).pow.parkSent = false) ∧
    (∃ (s : State) (d : Die) (w : DieWrite) (b : Nat) (s1 : State), s.popDown d = some (.staged w b, s1) ∧ s1.now + 1600 ≤ b) ∧
    (∃ (s : State) (d : Die) (c : CloseMsg) (s1 : State), s.popDown d = some (.close c, s1) ∧ s1.now + 1600 ≤ c.bound ∧ s1.dieNow d ≤ c.bound) :=
  ⟨⟨{ (wRun 6000).wr Reg.PWR_STAT.STATE Pw.waking with tb := { dieConfirmed := [(0, true), (1, true), (2, true)] } }, by decide +kernel⟩,
   ⟨wRun 5000, List.replicate 8 true, by decide +kernel⟩,
   ⟨({ (wRun 300000).wr Reg.TIME_PERIOD.P 200000 with tb := { framesOn := true, sealed := true } } : State).wr Reg.RFX_STAT.ENGINE 1, by decide +kernel⟩,
   ⟨({ (wRun 300000).wr Reg.TIME_PERIOD.P 200000 with tb := { framesOn := true, sealed := true, closed := true } } : State).wr Reg.RFX_STAT.ENGINE 1, by decide +kernel⟩,
   ⟨(wRun 5000).setLink .p0 { down := [.staged { idx := 0x400, value := 5#64 } 9000] }, .p0, { idx := 0x400, value := 5#64 }, 9000, (wRun 5000).setLink .p0 {}, by decide +kernel⟩,
   ⟨(wRun 5000).setLink .p0 { down := [.close { f1 := 1, count := 0, bound := 9000 }] }, .p0, { f1 := 1, count := 0, bound := 9000 }, (wRun 5000).setLink .p0 {}, by decide +kernel⟩⟩

theorem witness_FrameCommands_2 :
    (∃ (s : State) (d : Die) (c : CloseMsg), (s.link d).close = some c ∧ c.bound ≤ s.dieNow d ∧ s.domReady d = true ∧ c.only = false) :=
  ⟨(wRun 9000).setLink .p0 { close := some { f1 := 1, count := 0, bound := 9000 } }, .p0, { f1 := 1, count := 0, bound := 9000 }, by decide +kernel⟩

theorem witness_DegradedCommands :
    (∃ (s : State), s.flag Reg.TIME_STATE.XTALOK = true ∧ (s.tbSt = .crystal ∨ s.tbSt = .synced)) ∧
    (∃ (s : State), s.started = true ∧ s.tbSt = .starting ∧ s.tb.startTick + 2000000 ≤ s.now) ∧
    (∃ (s : State), s.tb.framesOn = true ∧ s.returnDue s.bound = true ∧ s.bound ≤ s.now) ∧
    (∃ (s : State) (d : Die), s.started = true ∧ s.asleep d = true ∧ s.domReady d = false) :=
  ⟨⟨(wRun 5000).wr Reg.TIME_STATE.XTALOK 1, by decide +kernel⟩,
   ⟨(wRun 5000000).wr Reg.TIME_STATE.STATE 0, by decide +kernel⟩,
   ⟨({ wRun 50000000 with tb := { framesOn := true, crystalSince := some 1000 } } : State).wr Reg.TIME_STATE.STATE 3 |>.wr64 Reg.TIME_BOUND.B 40000000, by decide +kernel⟩,
   ⟨((wRun 5000).wr Reg.PWR_STAT.DOM 6).wr Reg.PWR_STAT.SLP 1, .p0, by decide +kernel⟩⟩

theorem witness_VoteAndResetCommands_1 :
    (∃ (s : State) (t : Nat) (o : HostOp), s.opReady t 0x70 = some o ∧ o.fld 16 1 = 1) ∧
    (∃ (s : State) (t : Nat) (o : HostOp), s.opReady t 0x70 = some o ∧ o.fld 16 1 = 2) ∧
    (∃ (s : State) (t : Nat) (o : HostOp), s.opReady t 0x71 = some o) ∧
    (∃ (s : State) (t : Nat) (o : HostOp), s.opReady t 0x72 = some o) ∧
    (∃ (s : State), s.started = true) ∧
    (∃ (s : State), s.started = true) :=
  ⟨⟨wOp 0x70 [1], 1, wHostOp 0x70 [1], by decide +kernel⟩,
   ⟨wOp 0x70 [2], 1, wHostOp 0x70 [2], by decide +kernel⟩,
   ⟨wOp 0x71 [], 1, wHostOp 0x71 [], by decide +kernel⟩,
   ⟨wOp 0x72 [0, 0, 0, 0, 9], 1, wHostOp 0x72 [0, 0, 0, 0, 9], by decide +kernel⟩,
   ⟨wRun 5000, by decide +kernel⟩,
   ⟨wRun 5000, by decide +kernel⟩⟩

theorem witness_VoteAndResetCommands_2 :
    (∃ (s : State) (mgp : Bool) (pass : List Bool), s.started = true ∧ s.pow.lastBound = none) ∧
    (∃ (s : State) (mgp : Bool) (pass : List Bool), s.started = true ∧ s.pow.lastBound.isSome = true) ∧
    (∃ (s : State) (d : Die), (s.ana d).ready = true ∧ (s.ana d).params = true ∧ (s.link d).limp = false ∧ (s.link d).lastBoundary + s.limpAfter d ≤ s.dieNow d) :=
  ⟨⟨wRun 5000, false, [], by decide +kernel⟩,
   ⟨{ wRun 5000 with pow := { lastBound := some 4000 } }, false, [], by decide +kernel⟩,
   ⟨(wSup .p0 {} 900000000).wr Reg.PWR_STAT.STATE Pw.limp, .p0, by decide +kernel⟩⟩

theorem witness_WakeCommands_1 :
    (∃ (s : State) (k : Nat), 20000 ≤ k ∧ s.pow.supplied = true ∧ s.power = Pw.park) ∧
    (∃ (s : State) (k : Nat), 20000 ≤ k ∧ s.pow.supplied = true ∧ s.power ≠ Pw.park ∧ s.pow.lastBound.isSome = true) ∧
    (∃ (s : State) (k : Nat), 2000 ≤ k ∧ s.pow.supplied = true) ∧
    (∃ (s : State) (a : Nat), a = 0x58 + s.pow.straps ∧ s.pow.supplied = true ∧ s.power = Pw.park) ∧
    (∃ (s : State) (a : Nat), a = 0x58 + s.pow.straps ∧ s.pow.supplied = true ∧ s.power ≠ Pw.park ∧ s.pow.lastBound.isSome = true) ∧
    (∃ (s : State), s.timerDue = true ∧ s.pow.supplied = true ∧ s.power = Pw.park) :=
  ⟨⟨wPark 500, 20000, by decide +kernel⟩,
   ⟨{ wRun 5000 with pow := { supplied := true, lastBound := some 4000 } }, 20000, by decide +kernel⟩,
   ⟨wPark 500, 2000, by decide +kernel⟩,
   ⟨wPark 500, 0x58, by decide +kernel⟩,
   ⟨{ wRun 5000 with pow := { supplied := true, lastBound := some 4000 } }, 0x58, by decide +kernel⟩,
   ⟨(wPark 2000000000).wr Reg.PWR_TIMER.SEC 10, by decide +kernel⟩⟩

theorem witness_WakeCommands_2 :
    (∃ (s : State) (v : List Nat), s.pow.supplied = true ∧ s.power = Pw.park ∧ s.pow.lastPoll + s.rd Reg.INP_PARK.PPER * 2000000 ≤ s.pow.candle) ∧
    (∃ (s : State) (c : Nat) (f : CanFrame) (g : Bool), c < 2 ∧ s.wakeable = true) ∧
    (∃ (s : State) (c : Nat), c < 2 ∧ s.wakeable = true ∧ s.flag (Reg.CAN_SWCFG.SWEN c) = false ∧ s.flag (Reg.CAN_SWCFG.WUPEN c) = true) ∧
    (∃ (s : State), s.pow.supplied = true ∧ s.power = Pw.park ∧ s.pow.heldSrc ≠ 0) ∧
    (∃ (s : State), s.pow.supplied = true ∧ s.power = Pw.park ∧ s.pow.heldSrc ≠ 0) ∧
    (∃ (s : State) (a1 a0 : Bool), s.pow.supplied = false) :=
  ⟨⟨wPark 900000000, [], by decide +kernel⟩,
   ⟨(wPark 500).wr (Reg.CAN_SWCFG.SWEN 1) 1, 1, { id := 5, ide := false, fdf := false, brs := false, rtr := false, esi := false, dlc := 0, data := [] }, true, by decide +kernel⟩,
   ⟨(wPark 500).wr (Reg.CAN_SWCFG.WUPEN 1) 1, 1, by decide +kernel⟩,
   ⟨{ wPark 500 with pow := { supplied := true, heldSrc := 8 } }, by decide +kernel⟩,
   ⟨{ wPark 500 with pow := { supplied := true, heldSrc := 8 } }, by decide +kernel⟩,
   ⟨State.reset, true, false, by decide +kernel⟩⟩

theorem witness_WakeCommands_3 :
    (∃ (s : State) (pass : List Bool), s.pow.supplied = true ∧ s.power = Pw.waking ∧ s.now = 0 ∧ s.pow.goal = .rest ∧ s.pow.railsOn.length = 3) ∧
    (∃ (s : State) (k : Nat), s.pow.retryAt = some k ∧ s.power = Pw.park ∧ k ≤ s.pow.candle) :=
  ⟨⟨({ wPark 500 with pow := { supplied := true, railsOn := [2, 1, 0], waking := true } } : State).wr Reg.PWR_STAT.STATE Pw.waking, [], by decide +kernel⟩,
   ⟨{ wPark 500 with pow := { supplied := true, candle := 500, retryAt := some 400 } }, 400, by decide +kernel⟩⟩

theorem witness_RailAndDomainCommands_1 :
    (∃ (s : State), s.parkDue = false ∧ s.pow.goal ≠ .rest ∧ s.pow.sends = 0) ∧
    (∃ (s : State), s.pow.goal ≠ .rest ∧ 1 ≤ s.pow.sends ∧ s.pow.sends ≤ 3 ∧ s.pow.sentAt + resendAt s.pow.sends ≤ s.pow.candle) ∧
    (∃ (s : State) (st : Byte), s.pow.goal ≠ .rest ∧ s.pow.sends ≠ 0 ∧ s.pow.sentAt + 20000 ≤ s.pow.candle ∧ s.pow.acked st.toNat = true) ∧
    (∃ (s : State), s.pow.sends ≠ 0 ∧ s.pow.sentAt + 6400000 ≤ s.pow.candle ∧ s.pow.goal = .on) ∧
    (∃ (s : State), s.pow.sends ≠ 0 ∧ s.pow.sentAt + 6400000 ≤ s.pow.candle ∧ s.pow.goal = .off) ∧
    (∃ (s : State) (d : Die), s.domainComing d = true ∧ s.started = true) :=
  ⟨⟨{ wPark 500 with pow := { supplied := true, goal := .on } }, by decide +kernel⟩,
   ⟨{ wPark 500 with pow := { supplied := true, candle := 90000000, goal := .on, sends := 1 } }, by decide +kernel⟩,
   ⟨{ wPark 500 with pow := { supplied := true, candle := 90000, goal := .on, sends := 1 } }, 0x30#8, by decide +kernel⟩,
   ⟨{ wPark 500 with pow := { supplied := true, candle := 90000000, goal := .on, sends := 4 } }, by decide +kernel⟩,
   ⟨{ wPark 500 with pow := { supplied := true, candle := 90000000, goal := .off, sends := 4 } }, by decide +kernel⟩,
   ⟨{ (wRun 5000).wr Reg.PWR_STAT.DOM 6 with pow := { supplied := true, onAt := [(0, some 0)] } }, .p0, by decide +kernel⟩⟩

theorem witness_RailAndDomainCommands_2 :
    (∃ (s : State) (d : Die) (k : Nat), s.domainOn d = some k ∧ s.domReady d = false ∧ k + 200000 ≤ s.pow.candle ∧ s.started = true) ∧
    (∃ (s : State) (d : Die) (k : Nat), SMap.get (fun _ => none) s.pow.stallAt (dieNum d) = some k ∧ k + 8000 ≤ s.now) ∧
    (∃ (s : State) (r k : Nat), s.started = true ∧ s.pow.lastBound = none ∧ 2000 ≤ k ∧ r < 3) ∧
    (∃ (s : State), s.pow.parking = true ∧ s.pow.goal = .rest) ∧
    (∃ (s : State), s.started = true ∧ s.pow.forcedDue = true) ∧
    (∃ (s : State) (d : Die) (v : Nat), v < 300 ∧ (s.domReady d = true ∨ s.asleep d = true)) :=
  ⟨⟨{ (wRun 5000).wr Reg.PWR_STAT.DOM 6 with pow := { supplied := true, candle := 300000, onAt := [(0, some 0)] } }, .p0, 0, by decide +kernel⟩,
   ⟨{ wRun 50000 with pow := { supplied := true, stallAt := [(0, some 5)] } }, .p0, 5, by decide +kernel⟩,
   ⟨wRun 5000, 1, 2000, by decide +kernel⟩,
   ⟨{ wPark 500 with pow := { supplied := true, parking := true, lastBound := some 5 } }, by decide +kernel⟩,
   ⟨{ wRun 5000 with pow := { forcedDue := true } }, by decide +kernel⟩,
   ⟨wRun 5000, .p0, 200, by decide +kernel⟩⟩

theorem witness_RailAndDomainCommands_3 :
    (∃ (s : State) (mv : Nat), s.pow.supplied = true ∧ mv < 2500) ∧
    (∃ (s : State) (pass : List Bool), s.mgpServed = true) ∧
    (∃ (s : State), s.mgpServed = true) :=
  ⟨⟨wPark 500, 100, by decide +kernel⟩,
   ⟨wRun 5000, [], by decide +kernel⟩,
   ⟨wRun 5000, by decide +kernel⟩⟩

theorem witness_SupplyCommands :
    (∃ (s : State) (d : Die), (s.ana d).ready = true ∧ holdsOff (s.ana d).sup.st = false ∧ 10 ≤ (s.ana d).sup.uvRun) ∧
    (∃ (s : State) (d : Die) (k : Nat), (s.ana d).sup.uvOk = some k ∧ (s.ana d).ready = true ∧ (s.ana d).sup.st = .uv ∧ k + 200000 ≤ s.dieNow d) ∧
    (∃ (s : State) (d : Die), (s.ana d).ready = true ∧ holdsOff (s.ana d).sup.st = false ∧ (s.ana d).sup.st ≠ .ov ∧ 10 ≤ (s.ana d).sup.ovRun) ∧
    (∃ (s : State) (d : Die) (k : Nat), (s.ana d).sup.ovOk = some k ∧ (s.ana d).ready = true ∧ (s.ana d).sup.st = .ov ∧ k + 200000 ≤ s.dieNow d) ∧
    (∃ (s : State) (d : Die), (s.ana d).ready = true ∧ (s.ana d).sup.st ≠ .gndshift ∧ 10 ≤ (s.ana d).sup.gsRun) ∧
    (∃ (s : State) (d : Die) (k : Nat), (s.ana d).sup.gsOk = some k ∧ (s.ana d).ready = true ∧ (s.ana d).sup.st = .gndshift ∧ k + 200000 ≤ s.dieNow d) :=
  ⟨⟨wSup .p0 { uvRun := 10 } 9000, .p0, by decide +kernel⟩,
   ⟨wSup .p0 { st := .uv, uvOk := some 500 } 900000, .p0, 500, by decide +kernel⟩,
   ⟨wSup .p0 { ovRun := 10 } 9000, .p0, by decide +kernel⟩,
   ⟨wSup .p0 { st := .ov, ovOk := some 500 } 900000, .p0, 500, by decide +kernel⟩,
   ⟨wSup .p0 { gsRun := 10 } 9000, .p0, by decide +kernel⟩,
   ⟨wSup .p0 { st := .gndshift, gsOk := some 500 } 900000, .p0, 500, by decide +kernel⟩⟩

theorem witness_ChannelTripCommands_1 :
    (∃ (s : State) (u : Nat), s.chEnabled u = true ∧ s.chConducts u = true ∧ s.rd (Reg.CH_OC.TOVL u) * 10 ≤ (s.chan u).ovlRun ∧ (s.chan u).ovlRun ≠ 0) ∧
    (∃ (s : State) (u cur : Nat), s.chEnabled u = true ∧ s.protects u (s.chNow u) = true ∧ s.rd (Reg.CH_OC.ISHORT u) * 270000 < cur * 1000) ∧
    (∃ (s : State) (u v : Nat), 48 ≤ u ∧ s.chEnabled u = true ∧ s.protects u (s.chNow u) = true ∧ (if s.trippedAt u (s.chNow u) then (s.chan u).wasOn else (s.chan u).on) = true ∧ (s.chan u).edge + s.rd (Reg.PDRV_SENSE.VDSBLK (u - 48)) * 20 ≤ s.chNow u ∧ s.rd (Reg.PDRV_SENSE.VDSTH (u - 48)) * 20 + s.rd (Reg.PDRV_SENSE.VDSTH (u - 48)) * 2 + 30 < v) ∧
    (∃ (s : State) (u : Nat) (tj : Int) (ts : Nat), s.chEnabled u = true ∧ s.flag (Reg.CH_STAT.EMBER u) = false ∧ 2880 ≤ tj) ∧
    (∃ (s : State) (tj : Int) (ts : Nat), s.flag Reg.LED_GSTAT.EMBER = false ∧ 2880 ≤ tj) ∧
    (∃ (s : State) (u : Nat) (tj : Int) (ts e : Nat), s.chEnabled u = true ∧ s.flag (Reg.CH_STAT.EMBER u) = true ∧ (s.chan u).emberAt = some e ∧ e + 200000 ≤ s.chNow u ∧ tj ≤ 2400 ∧ (s.rd (Reg.PDRV_TS.RELV (u - 48)) ≤ ts ∨ u < 48)) :=
  ⟨⟨{ ((wRun 200000).wr (Reg.CH_CFG.ENABLE 3) 1).wr (Reg.CH_STAT.STATE 3) 1 with ch := [(3, { cmd := 1, ovlRun := 300000, ovlStamp := 199000 })] }, 3, by decide +kernel⟩,
   ⟨{ ((wRun 200000).wr (Reg.CH_CFG.ENABLE 3) 1).wr (Reg.CH_STAT.STATE 3) 1 with ch := [(3, { cmd := 1, on := true })] }, 3, 900000000, by decide +kernel⟩,
   ⟨{ ((wRun 200000).wr (Reg.CH_CFG.ENABLE 50) 1).wr (Reg.CH_STAT.STATE 50) 1 with ch := [(50, { cmd := 1, on := true })] }, 50, 90000, by decide +kernel⟩,
   ⟨((wRun 200000).wr (Reg.CH_CFG.ENABLE 3) 1).wr (Reg.CH_STAT.STATE 3) 6, 3, 2900, 0, by decide +kernel⟩,
   ⟨wRun 200000, 2900, 0, by decide +kernel⟩,
   ⟨{ ((((wRun 900000).wr (Reg.CH_CFG.ENABLE 3) 1).wr (Reg.CH_STAT.STATE 3) 5).wr (Reg.CH_STAT.EMBER 3) 1).wr (Reg.CH_STAT.WHOLD 3) 1 with ch := [(3, { cmd := 1, emberAt := some 500 })] }, 3, 2000, 0, 500, by decide +kernel⟩⟩

theorem witness_ChannelTripCommands_2 :
    (∃ (s : State) (tj : Int) (ts e : Nat), s.ledArr.emberAt = some e ∧ e + 200000 ≤ s.vNow ∧ tj ≤ 2400) ∧
    (∃ (s : State) (u : Nat), s.chEnabled u = true ∧ s.chSt u = .snuffed ∧ s.rd64 (Reg.CH_TRIPT.T u) + 10000 ≤ s.chNow u) ∧
    (∃ (s : State) (u : Nat), s.chEnabled u = true ∧ s.chSt u = .retryWait ∧ s.delayElapsed u (s.chNow u) = true ∧ s.flag (Reg.CH_STAT.WHOLD u) = false) ∧
    (∃ (s : State) (u c : Nat), (s.chan u).condSince = some c ∧ s.chEnabled u = true ∧ s.chConducts u = true ∧ c + s.rd (Reg.CH_RETRY.REFILL u) * 20000000 ≤ s.chNow u) :=
  ⟨⟨{ wRun 900000 with ledArr := { emberAt := some 500 } }, 2000, 0, 500, by decide +kernel⟩,
   ⟨((wRun 200000).wr (Reg.CH_CFG.ENABLE 3) 1).wr (Reg.CH_STAT.STATE 3) 4, 3, by decide +kernel⟩,
   ⟨((wRun 900000000).wr (Reg.CH_CFG.ENABLE 3) 1).wr (Reg.CH_STAT.STATE 3) 6, 3, by decide +kernel⟩,
   ⟨{ (((wRun 900000000).wr (Reg.CH_CFG.ENABLE 3) 1).wr (Reg.CH_STAT.STATE 3) 1).wr (Reg.CH_RETRY.REFILL 3) 1 with ch := [(3, { cmd := 1, condSince := some 500 })] }, 3, 500, by decide +kernel⟩⟩

theorem witness_LampCommands_1 :
    (∃ (s : State) (d : Die), d ≠ .v ∧ (s.ana d).ready = true ∧ (s.ana d).params = true ∧ s.dieNow d % 20000 = 0 ∧ (s.ana d).wickTick ≠ s.dieNow d) ∧
    (∃ (s : State) (d : Die) (k : Nat) (sums tbs : List Rat) (sent : Nat) (q : List PpMsg), d ≠ .v ∧ s.ppQueue d = .bundle k sums tbs sent :: q) ∧
    (∃ (s : State) (d : Die), d ≠ .v ∧ (s.ana d).wickWait = true ∧ (s.ana d).wickTick + 1000 ≤ s.dieNow d) ∧
    (∃ (s : State) (u : Nat), s.chEnabled u = true ∧ s.chSt u = .inrush ∧ (s.chan u).winSusp = 0 ∧ (s.chan u).winEnd ≤ s.chNow u) ∧
    (∃ (s : State) (u : Nat), s.chEnabled u = true ∧ s.chSt u = .inrush ∧ 1 ≤ (s.chan u).winSoft ∧ (s.chan u).tOn ≤ s.chNow u ∧ (s.chNow u - (s.chan u).tOn) % 20000 = 0 ∧ (s.chNow u - (s.chan u).tOn) / 20000 ≤ (s.chan u).winSoft) ∧
    (∃ (s : State) (d : Die), d ≠ .v ∧ 7 ≤ (s.ana d).droop.run ∧ (s.ana d).droop.detected = false) :=
  ⟨⟨wSup .p0 {} 200000, .p0, by decide +kernel⟩,
   ⟨{ wSup .p0 {} 200000 with ppTo0 := [.bundle 10 [] [] 199900] }, .p0, 10, [], [], 199900, [], by decide +kernel⟩,
   ⟨(wRun 200000).setAna .p0 { ready := true, wickWait := true, wickTick := 180000 }, .p0, by decide +kernel⟩,
   ⟨{ ((wRun 200000).wr (Reg.CH_CFG.ENABLE 3) 1).wr (Reg.CH_STAT.STATE 3) 3 with ch := [(3, { cmd := 1, winEnd := 500 })] }, 3, by decide +kernel⟩,
   ⟨{ ((wRun 200000).wr (Reg.CH_CFG.ENABLE 3) 1).wr (Reg.CH_STAT.STATE 3) 3 with ch := [(3, { cmd := 1, winSoft := 20, tOn := 100000 })] }, 3, by decide +kernel⟩,
   ⟨(wRun 200000).setAna .p0 { ready := true, droop := { run := 7, stamp := 198000 } }, .p0, by decide +kernel⟩⟩

theorem witness_LampCommands_2 :
    (∃ (s : State) (d : Die) (st det sent : Nat) (q : List PpMsg), d ≠ .v ∧ s.ppQueue d = .droop st det sent :: q) ∧
    (∃ (s : State) (d : Die) (st e sent : Nat) (q : List PpMsg), d ≠ .v ∧ s.ppQueue d = .droopEnd st e sent :: q) ∧
    (∃ (s : State) (d : Die), (s.ana d).freezeEnd ≠ 0 ∧ (s.ana d).freezeEnd ≤ s.dieNow d) ∧
    (∃ (s : State) (d : Die), (s.ana d).droop.detected = true ∧ (s.ana d).droop.owner = true ∧ (s.ana d).droop.recorded = false ∧ (s.ana d).droop.stamp + 13107000 ≤ s.dieNow d) ∧
    (∃ (s : State) (u : Nat), s.chEnabled u = true ∧ s.flag (Reg.CH_CFG.OLEN u) = true ∧ s.chSt u = .off ∧ s.rd (if u < 48 then Reg.HSW_OL.TPER u else Reg.PDRV_OL.TPER (u - 48)) ≠ 0 ∧ s.chNow u % (s.rd (if u < 48 then Reg.HSW_OL.TPER u else Reg.PDRV_OL.TPER (u - 48)) * 2000000) = 0 ∧ (s.chan u).offSince + 400000 ≤ s.chNow u ∧ (s.ana (chanDie u)).droop.detected = false ∧ (s.chan u).olStart = none ∧ (s.ana (chanDie u)).sup.st = .normal) ∧
    (∃ (s : State) (u b : Nat), (s.chan u).olStart = some b ∧ s.chEnabled u = true ∧ b + 240000 ≤ s.chNow u) :=
  ⟨⟨{ wSup .p0 {} 200000 with ppTo0 := [.droop 198000 199200 199900] }, .p0, 198000, 199200, 199900, [], by decide +kernel⟩,
   ⟨{ (wRun 200000).setAna .p0 { ready := true, other := some (198000, 199200) } with ppTo0 := [.droopEnd 198000 500 199900] }, .p0, 198000, 500, 199900, [], by decide +kernel⟩,
   ⟨(wRun 2000000).setAna .p0 { ready := true, freezeEnd := 5 }, .p0, by decide +kernel⟩,
   ⟨(wRun 20000000).setAna .p0 { ready := true, droop := { detected := true, owner := true, stamp := 198000 } }, .p0, by decide +kernel⟩,
   ⟨(((wRun 20000000).wr (Reg.CH_CFG.ENABLE 3) 1).wr (Reg.CH_CFG.OLEN 3) 1).wr (Reg.HSW_OL.TPER 3) 1, 3, by decide +kernel⟩,
   ⟨{ (wRun 20000000).wr (Reg.CH_CFG.ENABLE 3) 1 with ch := [(3, { olStart := some 500 })] }, 3, 500, by decide +kernel⟩⟩

theorem witness_SensingCommands_1 :
    (∃ (s : State) (d : Die) (x : Samples), (s.ana d).ready = true ∧ s.dieNow d % 200 = 0 ∧ (s.ana d).lastSample ≠ s.dieNow d) ∧
    (∃ (s : State) (d : Die), (s.ana d).ready = true ∧ s.dieNow d % 10000 = 0 ∧ (s.ana d).lastWindow ≠ s.dieNow d) ∧
    (∃ (s : State) (u : Nat) (x : Int), s.chEnabled u = true ∧ s.fbTick (chanDie u) = true) ∧
    (∃ (s : State) (u : Nat) (x : Int), s.wickIn u = true ∧ s.fbTick (chanDie u) = true) ∧
    (∃ (s : State) (g : Nat) (x : Int), g < 16 ∧ s.groupActive g = true ∧ s.fbTick .p0 = true) ∧
    (∃ (s : State) (m : Nat) (x : Int), s.mEnabled m = true ∧ s.fbTick (motorDie m) = true) :=
  ⟨⟨(wRun 200200).setAna .p0 { ready := true }, .p0, { vbat := 12000, shift := 0, rail := 0, chans := [], motors := [], valves := [], banks := [], leds := [] }, by decide +kernel⟩,
   ⟨(wRun 200000).setAna .p0 { ready := true }, .p0, by decide +kernel⟩,
   ⟨((wRun 200000).setAna .p0 { ready := true }).wr (Reg.CH_CFG.ENABLE 3) 1, 3, 400, by decide +kernel⟩,
   ⟨(((wRun 200000).setAna .p0 { ready := true }).wr (Reg.CH_CFG.ENABLE 3) 1).wr (Reg.CH_CFG.WICKEN 3) 1, 3, 0, by decide +kernel⟩,
   ⟨((wRun 200000).setAna .p0 { ready := true }).wr (Reg.CH_CFG.ENABLE 3) 1, 0, 0, by decide +kernel⟩,
   ⟨((wRun 200000).setAna .p0 { ready := true }).wr (Reg.BRG_CFG.ENABLE 1) 1, 1, 0, by decide +kernel⟩⟩

theorem witness_SensingCommands_2 :
    (∃ (s : State) (n : Nat) (x : Int), s.vEnabled n = true ∧ s.fbTick .v = true) ∧
    (∃ (s : State) (b : Nat) (x : Int), s.bEnabled b = true ∧ s.fbTick .v = true) ∧
    (∃ (s : State) (x : Int), s.fbTick .v = true) ∧
    (∃ (s : State) (n : Nat) (x : Int), s.lEnabled n = true ∧ s.fbTick .v = true ∧ (s.sink n).measured = true) ∧
    (∃ (s : State) (n : Nat) (x : Int), s.iEnabled n = true ∧ s.flag (Reg.INP_CFG.ADCEN n) = true ∧ s.fbTick (inputDie n) = true) ∧
    (∃ (s : State) (i : Nat) (a : Attr) (u : Upd) (d : Die), s.attr i = some a ∧ s.lastSent i = some u ∧ a.owner = .unit ∧ a.freshint = 80000 ∧ s.resendHeld i = false ∧ entryDie i = some d ∧ u.stamp + 2000000 ≤ s.dieNow d ∧ (s.ana d).ready = true) :=
  ⟨⟨((wRun 200000).setAna .v { ready := true }).wr (Reg.VLV_CFG.ENABLE 1) 1, 1, 0, by decide +kernel⟩,
   ⟨((wRun 200000).setAna .v { ready := true }).wr (Reg.VLV_BCFG.ENABLE 1) 1, 1, 0, by decide +kernel⟩,
   ⟨(wRun 200000).setAna .v { ready := true }, 0, by decide +kernel⟩,
   ⟨{ ((wRun 200000).setAna .v { ready := true }).wr (Reg.LED_CFG.ENABLE 3) 1 with ld := [(3, { measured := true })] }, 3, 0, by decide +kernel⟩,
   ⟨(((wRun 200000).setAna (inputDie 3) { ready := true }).wr (Reg.INP_CFG.ENABLE 3) 1).wr (Reg.INP_CFG.ADCEN 3) 1, 3, 0, by decide +kernel⟩,
   ⟨{ (wRun 9000000).setAna .p0 { ready := true } with led := { sent := [(0x12, some { idx := 0x12, value := 0#64, stamp := 500, src := 5 })] } }, 0x12, { freshint := 80000, kind := 0, width := 32, owner := .unit }, { idx := 0x12, value := 0#64, stamp := 500, src := 5 }, .p0, by decide +kernel⟩⟩

theorem witness_SensingCommands_3 :
    (∃ (s : State) (i : Nat) (a : Attr) (u : Upd), s.attr i = some a ∧ s.lastSent i = some u ∧ a.owner = .unit ∧ a.freshint = 80000 ∧ s.resendHeld i = false ∧ entryDie i = none ∧ u.stamp + 2000000 ≤ s.now) :=
  ⟨{ wRun 9000000 with led := { sent := [(0x10, some { idx := 0x10, value := 0#64, stamp := 500, src := 0x0D00 })] } }, 0x10, { freshint := 80000, kind := 0, width := 32, owner := .unit }, { idx := 0x10, value := 0#64, stamp := 500, src := 0x0D00 }, by decide +kernel⟩

theorem witness_LedAndInputCommands_1 :
    (∃ (s : State) (n : Nat), s.lEnabled n = true ∧ (s.ana .v).ready = true ∧ s.ledStarts n s.vNow = true ∧ (s.lSt n = .lit ∨ s.lSt n = .fading ∨ s.lSt n = .thermal)) ∧
    (∃ (s : State) (n : Nat), s.lEnabled n = true ∧ s.flag (Reg.LED_STAT.OPEN n) = false ∧ 16 ≤ (s.sink n).openRun) ∧
    (∃ (s : State) (n : Nat), s.lEnabled n = true ∧ s.flag (Reg.LED_STAT.OPEN n) = true ∧ 16 ≤ (s.sink n).okRun) ∧
    (∃ (s : State) (n : Nat), s.lEnabled n = true ∧ (s.lSt n = .lit ∨ s.lSt n = .fading) ∧ 16 ≤ (s.sink n).shortRun) ∧
    (∃ (s : State) (tj : Int), (s.ana .v).ready = true ∧ s.vNow % 2000000 = 0 ∧ s.ledArr.lastFold ≠ s.vNow) ∧
    (∃ (s : State) (n v : Nat), n < 160) :=
  ⟨⟨((((wRun 1000000).setAna .v { ready := true }).wr (Reg.LED_CFG.ENABLE 16) 1).wr Reg.LED_GCFG.FREQ 2).wr (Reg.LED_STAT.STATE 16) 1, 16, by decide +kernel⟩,
   ⟨{ (wRun 200000).wr (Reg.LED_CFG.ENABLE 3) 1 with ld := [(3, { openRun := 16 })] }, 3, by decide +kernel⟩,
   ⟨{ ((wRun 200000).wr (Reg.LED_CFG.ENABLE 3) 1).wr (Reg.LED_STAT.OPEN 3) 1 with ld := [(3, { okRun := 16 })] }, 3, by decide +kernel⟩,
   ⟨{ ((wRun 200000).wr (Reg.LED_CFG.ENABLE 3) 1).wr (Reg.LED_STAT.STATE 3) 1 with ld := [(3, { shortRun := 16 })] }, 3, by decide +kernel⟩,
   ⟨((wRun 2000000).setAna .v { ready := true }).wr Reg.LED_GSTAT.FOLD 1, 0, by decide +kernel⟩,
   ⟨((wRun 200000).setAna (inputDie 3) { ready := true, params := true }).wr (Reg.INP_CFG.ENABLE 3) 1, 3, 12000, by decide +kernel⟩⟩

theorem witness_LedAndInputCommands_2 :
    (∃ (s : State) (n v : Nat), s.iRuns n = true ∧ s.flag (Reg.INP_CFG.MODE n) = true ∧ s.iNow n % (s.rd (Reg.INP_PULSE.PER n) * 20000) = 2000) ∧
    (∃ (s : State) (n t : Nat), s.acceptDue n = some t) ∧
    (∃ (s : State) (n t : Nat), (s.input n).chatAt = some t) ∧
    (∃ (s : State) (n k : Nat), (s.input n).lowOk = some k ∧ s.iRuns n = true ∧ s.flag (Reg.INP_STAT.LOWBAT n) = true ∧ k + 2000 ≤ s.iNow n) :=
  ⟨⟨((((wRun 202000).setAna (inputDie 3) { ready := true, params := true }).wr (Reg.INP_CFG.ENABLE 3) 1).wr (Reg.INP_CFG.MODE 3) 1).wr (Reg.INP_PULSE.PER 3) 1, 3, 12000, by decide +kernel⟩,
   ⟨{ (((wRun 200000).setAna (inputDie 3) { ready := true, params := true }).wr (Reg.INP_CFG.ENABLE 3) 1).wr (Reg.INP_CFG.DEB 3) 1 with inp := [(3, { accepted := true, run := some 400 })] }, 3, 2400, by decide +kernel⟩,
   ⟨{ wRun 5000 with inp := [(3, { chatAt := some 400 })] }, 3, 400, by decide +kernel⟩,
   ⟨{ (((wRun 200000).setAna (inputDie 3) { ready := true, params := true }).wr (Reg.INP_CFG.ENABLE 3) 1).wr (Reg.INP_STAT.LOWBAT 3) 1 with inp := [(3, { lowOk := some 400 })] }, 3, 400, by decide +kernel⟩⟩

theorem witness_MotorCommands_1 :
    (∃ (s : State) (m : Nat), s.mEnabled m = true ∧ (s.mSt m = .run ∨ (s.mSt m = .pinch ∧ (s.motor m).pinchDrive = true)) ∧ (s.motor m).chopUntil = 0 ∧ (s.motor m).bemfStart = none ∧ s.mNow m % motorPeriod (s.rd (Reg.BRG_PWM.FREQ m)) = 0) ∧
    (∃ (s : State) (u : Nat), s.chEnabled u = true ∧ s.chConducts u = true ∧ cmdOp (s.chan u).cmd = 2 ∧ pwmStarts (s.gridOf u (s.chNow u)).1 (s.gridOf u (s.chNow u)).2 (s.chNow u) = true) ∧
    (∃ (s : State) (u : Nat), s.chEnabled u = true ∧ (s.chan u).on = true ∧ (s.chan u).onUntil ≠ 0 ∧ (s.chan u).onUntil ≤ s.chNow u) ∧
    (∃ (s : State) (m : Nat), s.mEnabled m = true ∧ (s.motor m).on = true ∧ (s.motor m).onUntil ≠ 0 ∧ (s.motor m).onUntil ≤ s.mNow m) ∧
    (∃ (s : State) (m e : Nat), (s.motor m).edgeAt = some e ∧ s.mEnabled m = true ∧ s.flag (Reg.BRG_CFG.RIPEN m) = true ∧ busyState (s.mSt m) = true) ∧
    (∃ (s : State) (m : Nat) (mo : Motion), s.mSt m = .run ∧ (s.motor m).motion = some mo ∧ s.mEnabled m = true ∧ s.stepAt m (s.mNow m) = true ∧ mo.op ≠ 5 ∧ (s.motor m).blankEnd ≤ s.mNow m ∧ s.stalled m (s.mNow m) = true) :=
  ⟨⟨((wRun 9000000).wr (Reg.BRG_CFG.ENABLE 1) 1).wr (Reg.BRG_STAT.STATE 1) 2, 1, by decide +kernel⟩,
   ⟨{ (((wRun 200000000).wr (Reg.CH_CFG.ENABLE 3) 1).wr (Reg.CH_STAT.STATE 3) 2).wr (Reg.CH_PWM.FREQ 3) 100 with ch := [(3, { cmd := 2, gridFreq := 100 })] }, 3, by decide +kernel⟩,
   ⟨{ (wRun 9000).wr (Reg.CH_CFG.ENABLE 3) 1 with ch := [(3, { on := true, onUntil := 400 })] }, 3, by decide +kernel⟩,
   ⟨{ ((wRun 9000000).wr (Reg.BRG_CFG.ENABLE 1) 1).wr (Reg.BRG_STAT.STATE 1) 2 with mu := [(1, { on := true, onUntil := 400 })] }, 1, by decide +kernel⟩,
   ⟨{ (((wRun 9000000).wr (Reg.BRG_CFG.ENABLE 1) 1).wr (Reg.BRG_STAT.STATE 1) 2).wr (Reg.BRG_CFG.RIPEN 1) 1 with mu := [(1, { edgeAt := some 8000000 })] }, 1, 8000000, by decide +kernel⟩,
   ⟨{ ((((wRun 8000000).wr (Reg.BRG_CFG.ENABLE 1) 1).wr (Reg.BRG_STAT.STATE 1) 2).wr (Reg.BRG_CFG.RIPEN 1) 1).wr (Reg.BRG_TIME.TSTALL 1) 1 with mu := [(1, { motion := some { op := 1, dir := 0, duty := 100, arg := 0 } })] }, 1, { op := 1, dir := 0, duty := 100, arg := 0 }, by decide +kernel⟩⟩

theorem witness_MotorCommands_2 :
    (∃ (s : State) (m : Nat), s.mSt m = .pinch ∧ s.mEnabled m = true ∧ s.stepAt m (s.mNow m) = true ∧ (s.motor m).pinchDrive = true ∧ max ((s.motor m).lastEdge.getD 0) (s.motor m).pinchTick + s.rd (Reg.BRG_TIME.TSTALL m) * 200000 ≤ s.mNow m) ∧
    (∃ (s : State) (m : Nat), s.mSt m = .run ∧ s.mEnabled m = true ∧ (s.motor m).runStart + s.rd (Reg.BRG_TIME.TRUN m) * 20000000 ≤ s.mNow m) ∧
    (∃ (s : State) (m : Nat), s.mSt m = .pinch ∧ s.mEnabled m = true ∧ (s.motor m).pinchDrive = true ∧ (s.motor m).pinchTick + s.rd (Reg.BRG_TIME.TRUN m) * 20000000 ≤ s.mNow m) ∧
    (∃ (s : State) (m : Nat), s.mEnabled m = true ∧ s.mSt m = .run ∧ (s.motor m).blankDone = false ∧ (s.motor m).blankEnd ≤ s.mNow m) ∧
    (∃ (s : State) (m : Nat) (mo : Motion), (s.motor m).motion = some mo ∧ s.mEnabled m = true ∧ s.stepAt m (s.mNow m) = true ∧ s.mSt m = .run ∧ mo.op = 5 ∧ (s.motor m).pulseEnd ≤ s.mNow m) ∧
    (∃ (s : State) (m : Nat), s.mEnabled m = true ∧ s.mSt m = .pinch ∧ (s.motor m).pinchDrive = false ∧ (s.motor m).pinchTick + 2000000 ≤ s.mNow m) :=
  ⟨⟨{ (((wRun 8000000).wr (Reg.BRG_CFG.ENABLE 1) 1).wr (Reg.BRG_STAT.STATE 1) 3).wr (Reg.BRG_TIME.TSTALL 1) 1 with mu := [(1, { pinchDrive := true })] }, 1, by decide +kernel⟩,
   ⟨(((wRun 900000000).wr (Reg.BRG_CFG.ENABLE 1) 1).wr (Reg.BRG_STAT.STATE 1) 2).wr (Reg.BRG_TIME.TRUN 1) 1, 1, by decide +kernel⟩,
   ⟨{ (((wRun 900000000).wr (Reg.BRG_CFG.ENABLE 1) 1).wr (Reg.BRG_STAT.STATE 1) 3).wr (Reg.BRG_TIME.TRUN 1) 1 with mu := [(1, { pinchDrive := true })] }, 1, by decide +kernel⟩,
   ⟨((wRun 9000000).wr (Reg.BRG_CFG.ENABLE 1) 1).wr (Reg.BRG_STAT.STATE 1) 2, 1, by decide +kernel⟩,
   ⟨{ ((wRun 8000000).wr (Reg.BRG_CFG.ENABLE 1) 1).wr (Reg.BRG_STAT.STATE 1) 2 with mu := [(1, { motion := some { op := 5, dir := 0, duty := 100, arg := 0 } })] }, 1, { op := 5, dir := 0, duty := 100, arg := 0 }, by decide +kernel⟩,
   ⟨((wRun 9000000).wr (Reg.BRG_CFG.ENABLE 1) 1).wr (Reg.BRG_STAT.STATE 1) 3, 1, by decide +kernel⟩⟩

theorem witness_MotorCommands_3 :
    (∃ (s : State) (m : Nat), s.mEnabled m = true ∧ s.stepAt m (s.mNow m) = true ∧ s.mSt m = .pinch ∧ (s.motor m).pinchDrive = true ∧ s.rd (Reg.BRG_PINCH.REVCNT m) ≤ (s.motor m).revEdges) ∧
    (∃ (s : State) (m : Nat), s.mEnabled m = true ∧ s.mSt m = .settle ∧ (s.motor m).settleEnd ≤ s.mNow m ∧ (s.motor m).waiting = none) ∧
    (∃ (s : State) (m : Nat) (mo : Motion), s.mEnabled m = true ∧ s.mSt m = .settle ∧ (s.motor m).settleEnd ≤ s.mNow m ∧ (s.motor m).waiting = some mo) ∧
    (∃ (s : State) (m cur : Nat), s.mEnabled m = true ∧ (s.mSt m = .run ∨ (s.mSt m = .pinch ∧ (s.motor m).pinchDrive = true)) ∧ (s.rd (Reg.BRG_CFG.CLMODE m) = 1 ∨ s.rd (Reg.BRG_CFG.CLMODE m) = 2) ∧ (s.motor m).on = true ∧ s.rd (Reg.BRG_OC.ILIM m) * 50 < cur) ∧
    (∃ (s : State) (m : Nat), (s.motor m).chopUntil ≠ 0 ∧ (s.motor m).chopUntil ≤ s.mNow m) ∧
    (∃ (s : State) (m : Nat), s.mEnabled m = true ∧ s.flag (Reg.BRG_CFG.BEMFEN m) = true ∧ s.mSt m = .run ∧ (s.motor m).bemfStart = none ∧ s.rd (Reg.BRG_BEMF.BEMFPER m) ≠ 0 ∧ (s.motor m).bemfLast + s.rd (Reg.BRG_BEMF.BEMFPER m) * 200000 ≤ s.mNow m ∧ s.mNow m % motorPeriod (s.rd (Reg.BRG_PWM.FREQ m)) = 0) :=
  ⟨⟨{ ((wRun 8000000).wr (Reg.BRG_CFG.ENABLE 1) 1).wr (Reg.BRG_STAT.STATE 1) 3 with mu := [(1, { pinchDrive := true, revEdges := 1000 })] }, 1, by decide +kernel⟩,
   ⟨{ ((wRun 9000000).wr (Reg.BRG_CFG.ENABLE 1) 1).wr (Reg.BRG_STAT.STATE 1) 4 with mu := [(1, { settleEnd := 400 })] }, 1, by decide +kernel⟩,
   ⟨{ ((wRun 9000000).wr (Reg.BRG_CFG.ENABLE 1) 1).wr (Reg.BRG_STAT.STATE 1) 4 with mu := [(1, { settleEnd := 400, waiting := some { op := 1, dir := 0, duty := 100, arg := 0 } })] }, 1, { op := 1, dir := 0, duty := 100, arg := 0 }, by decide +kernel⟩,
   ⟨{ (((wRun 9000000).wr (Reg.BRG_CFG.ENABLE 1) 1).wr (Reg.BRG_STAT.STATE 1) 2).wr (Reg.BRG_CFG.CLMODE 1) 1 with mu := [(1, { on := true })] }, 1, 900000, by decide +kernel⟩,
   ⟨{ ((wRun 9000000).wr (Reg.BRG_CFG.ENABLE 1) 1).wr (Reg.BRG_STAT.STATE 1) 2 with mu := [(1, { chopUntil := 400 })] }, 1, by decide +kernel⟩,
   ⟨((((wRun 9000000).wr (Reg.BRG_CFG.ENABLE 1) 1).wr (Reg.BRG_STAT.STATE 1) 2).wr (Reg.BRG_CFG.BEMFEN 1) 1).wr (Reg.BRG_BEMF.BEMFPER 1) 1, 1, by decide +kernel⟩⟩

theorem witness_MotorCommands_4 :
    (∃ (s : State) (m b : Nat), (s.motor m).bemfStart = some b ∧ s.mEnabled m = true ∧ b + 20000 ≤ s.mNow m) :=
  ⟨{ ((wRun 9000000).wr (Reg.BRG_CFG.ENABLE 1) 1).wr (Reg.BRG_STAT.STATE 1) 2 with mu := [(1, { bemfStart := some 400, bemfN := 1, bemfSum := 100000 })] }, 1, 400, by decide +kernel⟩

theorem witness_BridgeProtectionCommands :
    (∃ (s : State) (d : Die), d ≠ .v ∧ (s.ana d).ready = true ∧ (s.seq (dieNum d)).stopped = false ∧ s.dieNow d % 2000 = 0 ∧ (s.seq (dieNum d)).last < s.dieNow d ∧ (s.celAt (8 + dieNum d)).running = false) ∧
    (∃ (s : State) (d : Die), d ≠ .v ∧ (s.ana d).ready = true ∧ (s.seq (dieNum d)).stopped = false ∧ s.dieNow d % 2000 = 0 ∧ (s.seq (dieNum d)).last < s.dieNow d ∧ (s.celAt (8 + dieNum d)).running = true) ∧
    (∃ (s : State) (m : Nat) (x : BridgeSense), s.mEnabled m = true ∧ (busyState (s.mSt m) = true ∨ s.mSt m = .brake ∨ s.mSt m = .limp) ∧ s.rd (Reg.BRG_OC.ISHORT m) * 270000 < x.cur * 1000) ∧
    (∃ (s : State) (m : Nat), s.mEnabled m = true ∧ s.mSt m = .tripped ∧ (s.motor m).tripTick + 2000000 ≤ s.mNow m) ∧
    (∃ (s : State) (d : Die), d ≠ .v ∧ (s.ana d).ready = true ∧ (s.seq (dieNum d)).stopped = false ∧ s.dieNow d % 2000 = 0 ∧ (s.seq (dieNum d)).last < s.dieNow d ∧ (s.celAt (8 + dieNum d)).running = true) :=
  ⟨⟨(wRun 200000).setAna .p0 { ready := true }, .p0, by decide +kernel⟩,
   ⟨{ (wRun 200000).setAna .p0 { ready := true } with cel := [(8, { running := true })] }, .p0, by decide +kernel⟩,
   ⟨((wRun 9000000).wr (Reg.BRG_CFG.ENABLE 1) 1).wr (Reg.BRG_STAT.STATE 1) 2, 1, { cur := 9000000, vds := [], sw := [] }, by decide +kernel⟩,
   ⟨(((wRun 9000000).wr (Reg.BRG_CFG.ENABLE 1) 1).wr (Reg.BRG_STAT.STATE 1) 5).wr (Reg.BRG_STAT.TRIPRUN 1) 15, 1, by decide +kernel⟩,
   ⟨{ (wRun 200000).setAna .p0 { ready := true } with cel := [(8, { running := true })] }, .p0, by decide +kernel⟩⟩

theorem witness_ValveCommands_1 :
    (∃ (s : State) (b : Nat), s.bankDue b s.vNow = true ∧ (s.celAt (10 + b)).running = false) ∧
    (∃ (s : State) (b : Nat), s.bankDue b s.vNow = true ∧ (s.celAt (10 + b)).running = true) ∧
    (∃ (s : State) (n : Nat), s.vLive n = true ∧ s.bankSteps (valveBank n) s.vNow = true ∧ s.vSt n = .peak ∧ (s.valve n).peakStart + profTpeak (s.valve n).profA ≤ s.vNow ∧ (s.valve n).op = 1) ∧
    (∃ (s : State) (n : Nat), s.vLive n = true ∧ s.bankSteps (valveBank n) s.vNow = true ∧ s.vSt n = .peak ∧ (s.valve n).peakStart + profTpeak (s.valve n).profA ≤ s.vNow ∧ (s.valve n).op ≠ 1) ∧
    (∃ (s : State) (n : Nat), s.vLive n = true ∧ s.bankSteps (valveBank n) s.vNow = true ∧ s.vSt n = .peak ∧ (s.valve n).reached = false ∧ (s.valve n).peakStart + profTrise (s.valve n).profA ≤ s.vNow) ∧
    (∃ (s : State) (n : Nat), s.vLive n = true ∧ s.bankSteps (valveBank n) s.vNow = true ∧ s.vSt n = .release ∧ 20 < (s.valve n).last ∧ (s.valve n).relStart + profTrel (s.valve n).profB ≤ s.vNow) :=
  ⟨⟨((wRun 900000).setAna .v { ready := true }).wr (Reg.VLV_BCFG.ENABLE 0) 1, 0, by decide +kernel⟩,
   ⟨{ ((wRun 900000).setAna .v { ready := true }).wr (Reg.VLV_BCFG.ENABLE 0) 1 with cel := [(10, { running := true })] }, 0, by decide +kernel⟩,
   ⟨{ ((((wRun 900000).setAna .v { ready := true }).wr (Reg.VLV_CFG.ENABLE 1) 1).wr (Reg.VLV_BCFG.ENABLE 0) 1).wr (Reg.VLV_STAT.STATE 1) 2 with vl := [(1, { op := 1 })] }, 1, by decide +kernel⟩,
   ⟨{ ((((wRun 900000).setAna .v { ready := true }).wr (Reg.VLV_CFG.ENABLE 1) 1).wr (Reg.VLV_BCFG.ENABLE 0) 1).wr (Reg.VLV_STAT.STATE 1) 2 with vl := [(1, { op := 2 })] }, 1, by decide +kernel⟩,
   ⟨((((wRun 900000).setAna .v { ready := true }).wr (Reg.VLV_CFG.ENABLE 1) 1).wr (Reg.VLV_BCFG.ENABLE 0) 1).wr (Reg.VLV_STAT.STATE 1) 2, 1, by decide +kernel⟩,
   ⟨{ ((((wRun 900000).setAna .v { ready := true }).wr (Reg.VLV_CFG.ENABLE 1) 1).wr (Reg.VLV_BCFG.ENABLE 0) 1).wr (Reg.VLV_STAT.STATE 1) 4 with vl := [(1, { last := 50 })] }, 1, by decide +kernel⟩⟩

theorem witness_ValveCommands_2 :
    (∃ (s : State) (n : Nat) (r : ValveReq), s.vEnabled n = true ∧ (s.valve n).req = some r ∧ r.leash = true ∧ r.stamp + s.rd (Reg.VLV_BCFG.LEASH (valveBank n)) * 2000 ≤ (s.bank (valveBank n)).seq.last) ∧
    (∃ (s : State) (n : Nat), s.vEnabled n = true ∧ s.vSt n = .hold ∧ s.flag (Reg.VLV_STAT.HOLDLOW n) = false ∧ 200 ≤ (s.valve n).lowRun) ∧
    (∃ (s : State) (n cur : Nat), s.vEnabled n = true ∧ (s.valve n).lowSide = true ∧ 6600 < cur) ∧
    (∃ (s : State) (n : Nat), s.vLive n = true ∧ s.vSt n = .tripped ∧ s.rd64 (Reg.VLV_TRIPT.T n) + 2000000 ≤ s.vNow) ∧
    (∃ (s : State) (b cur : Nat), s.bEnabled b = true ∧ (s.bSt b = .vbat ∨ s.bSt b = .boost) ∧ s.supplyBlocks .v = false ∧ 13200 < cur) ∧
    (∃ (s : State) (b : Nat), s.bEnabled b = true ∧ s.bSt b = .tripped ∧ s.rd64 (Reg.VLV_BTRIPT.T b) + 2000000 ≤ s.vNow) :=
  ⟨⟨{ { ((((wRun 900000).setAna .v { ready := true }).wr (Reg.VLV_CFG.ENABLE 1) 1).wr (Reg.VLV_BCFG.ENABLE 0) 1).wr (Reg.VLV_BSTSTAT.READY) 1 with vl := [(1, { req := some ({ op := 1, prof := 0, hold := 0, stamp := 500 }) })] } with vb := [(0, { seq := { last := 900000 } })] }, 1, { op := 1, prof := 0, hold := 0, stamp := 500 }, by decide +kernel⟩,
   ⟨{ ((((wRun 900000).setAna .v { ready := true }).wr (Reg.VLV_CFG.ENABLE 1) 1).wr (Reg.VLV_BCFG.ENABLE 0) 1).wr (Reg.VLV_STAT.STATE 1) 3 with vl := [(1, { lowRun := 200 })] }, 1, by decide +kernel⟩,
   ⟨{ ((((wRun 900000).setAna .v { ready := true }).wr (Reg.VLV_CFG.ENABLE 1) 1).wr (Reg.VLV_BCFG.ENABLE 0) 1).wr (Reg.VLV_STAT.STATE 1) 3 with vl := [(1, { lowSide := true })] }, 1, 7000, by decide +kernel⟩,
   ⟨(((((wRun 9000000).setAna .v { ready := true }).wr (Reg.VLV_CFG.ENABLE 1) 1).wr (Reg.VLV_BCFG.ENABLE 0) 1).wr (Reg.VLV_STAT.STATE 1) 5).wr (Reg.VLV_STAT.TRIPRUN 1) 15, 1, by decide +kernel⟩,
   ⟨((((wRun 900000).setAna .v { ready := true }).wr (Reg.VLV_CFG.ENABLE 1) 1).wr (Reg.VLV_BCFG.ENABLE 0) 1).wr (Reg.VLV_BSTAT.STATE 0) 1, 0, 14000, by decide +kernel⟩,
   ⟨(((((wRun 9000000).setAna .v { ready := true }).wr (Reg.VLV_CFG.ENABLE 1) 1).wr (Reg.VLV_BCFG.ENABLE 0) 1).wr (Reg.VLV_BSTAT.STATE 0) 3).wr (Reg.VLV_BCFG.TRIPLIM 0) 3, 0, by decide +kernel⟩⟩

theorem witness_ValveCommands_3 :
    (∃ (s : State) (b : Nat), s.bankDue b s.vNow = true ∧ (s.celAt (10 + b)).running = true) ∧
    (∃ (s : State) (n cur : Nat), s.vEnabled n = true ∧ (s.vSt n = .peak ∨ s.vSt n = .hold) ∧ (s.valve n).lowSide = true ∧ (s.vTarget n).1 ≤ cur) ∧
    (∃ (s : State) (n : Nat), s.vEnabled n = true ∧ (s.vSt n = .peak ∨ s.vSt n = .hold) ∧ (s.valve n).recirc = true ∧ (s.valve n).offEnd ≤ s.vNow) :=
  ⟨⟨{ ((wRun 900000).setAna .v { ready := true }).wr (Reg.VLV_BCFG.ENABLE 0) 1 with cel := [(10, { running := true })] }, 0, by decide +kernel⟩,
   ⟨{ ((((wRun 900000).setAna .v { ready := true }).wr (Reg.VLV_CFG.ENABLE 1) 1).wr (Reg.VLV_BCFG.ENABLE 0) 1).wr (Reg.VLV_STAT.STATE 1) 3 with vl := [(1, { lowSide := true, holdI := 500 })] }, 1, 600, by decide +kernel⟩,
   ⟨{ ((((wRun 900000).setAna .v { ready := true }).wr (Reg.VLV_CFG.ENABLE 1) 1).wr (Reg.VLV_BCFG.ENABLE 0) 1).wr (Reg.VLV_STAT.STATE 1) 3 with vl := [(1, { recirc := true })] }, 1, by decide +kernel⟩⟩

theorem witness_BoostCommands :
    (∃ (s : State) (k : Nat), s.bst.since = some k ∧ s.flag Reg.VLV_BST.BSTEN = true ∧ (s.ana .v).ready = true ∧ s.flag Reg.VLV_BSTSTAT.READY = false ∧ max (k + 2000) s.bst.enAt ≤ s.vNow) ∧
    (∃ (s : State), s.flag Reg.VLV_BSTSTAT.READY = true ∧ s.bst.rail + 1000 < s.rd Reg.VLV_BSTRDY.VRDY * 100) ∧
    (∃ (s : State), s.flag Reg.VLV_BST.BSTEN = true ∧ (s.ana .v).ready = true ∧ s.flag Reg.VLV_BSTSTAT.READY = false ∧ s.bst.notReady + 4000000 ≤ s.vNow) ∧
    (∃ (s : State), s.flag Reg.VLV_BST.BSTEN = true ∧ s.bst.ovp = false ∧ (s.rd Reg.VLV_BST.VSET * 100 + 4000 < s.bst.rail ∨ 52000 < s.bst.rail)) ∧
    (∃ (s : State), s.bst.ovp = true ∧ s.bst.rail < s.rd Reg.VLV_BST.VSET * 100) :=
  ⟨⟨{ ((wRun 90000000).setAna .v { ready := true }).wr Reg.VLV_BST.BSTEN 1 with bst := { since := some 400 } }, 400, by decide +kernel⟩,
   ⟨{ ((((wRun 90000000).setAna .v { ready := true }).wr Reg.VLV_BST.BSTEN 1).wr Reg.VLV_BSTSTAT.READY 1).wr Reg.VLV_BSTRDY.VRDY 400 with bst := { rail := 0 } }, by decide +kernel⟩,
   ⟨{ ((wRun 90000000).setAna .v { ready := true }).wr Reg.VLV_BST.BSTEN 1 with bst := { rail := 0 } }, by decide +kernel⟩,
   ⟨{ ((wRun 90000000).setAna .v { ready := true }).wr Reg.VLV_BST.BSTEN 1 with bst := { rail := 60000 } }, by decide +kernel⟩,
   ⟨{ (((wRun 90000000).setAna .v { ready := true }).wr Reg.VLV_BST.BSTEN 1).wr Reg.VLV_BST.VSET 400 with bst := { ovp := true, rail := 100 } }, by decide +kernel⟩⟩

theorem witness_CanTransmitCommands_1 :
    (∃ (s : State) (c i : Nat) (f : CanTx), c < 12 ∧ (s.canSt c = 2 ∨ s.canSt c = 3) ∧ (s.canC c).cur = none ∧ (s.canC c).after = .none ∧ canBest (s.canReadySlots c) = some (i, f)) ∧
    (∃ (s : State) (c v i : Nat) (f : CanTx), (s.canC c).cur = some i ∧ (s.canC c).slot i = some f ∧ s.canMute c = false) ∧
    (∃ (s : State) (c i : Nat), (s.canC c).cur = some i) ∧
    (∃ (s : State) (c k tec rec : Nat) (v : Option Nat), c < 12 ∧ (s.canSt c = 2 ∨ s.canSt c = 3 ∨ s.canSt c = 6) ∧ k % 64 ≠ 0 ∧ s.canKinds c k % 32 = 0) ∧
    (∃ (s : State) (c k tec rec : Nat) (v : Option Nat), c < 12 ∧ (s.canSt c = 2 ∨ s.canSt c = 3 ∨ s.canSt c = 6) ∧ k % 64 ≠ 0 ∧ s.canKinds c k % 32 ≠ 0 ∧ s.canStepOk c tec rec = true) ∧
    (∃ (s : State) (t i : Nat) (x : ReadResult) (o : HostOp), s.opReady t 0x20 = some o ∧ o.fld 16 1 < 12 ∧ (dlcLen (bitOf (o.fld 17 1) 2) (o.fld 18 1) ≤ 32 ∨ bitOf (o.fld 17 1) 1 = true ∨ readBytes x (dlcLen (bitOf (o.fld 17 1) 2) (o.fld 18 1)) ≠ none) ∧ s.canRefusal (o.fld 16 1) (canReqFrame o ((readBytes x (dlcLen (bitOf (o.fld 17 1) 2) (o.fld 18 1))).getD [])) = none ∧ (s.canC (o.fld 16 1)).freeFw = some i) :=
  ⟨⟨{ (wRun 5000).wr (Reg.CAN_STAT.STATE 1) 2 with can := [(1, { slots := [(48, some { frame := { id := 5, ide := false, rtr := false, fdf := false, brs := false, esi := false, dlc := 0, data := [] } })] })] }, 1, 48, { frame := { id := 5, ide := false, rtr := false, fdf := false, brs := false, esi := false, dlc := 0, data := [] } }, by decide +kernel⟩,
   ⟨({ (wRun 5000).wr (Reg.CAN_STAT.STATE 1) 2 with can := [(1, { cur := some 48, slots := [(48, some { frame := { id := 5, ide := false, rtr := false, fdf := false, brs := false, esi := false, dlc := 0, data := [] } })] })] }).setAna .p0 { ready := true }, 1, 0, 48, { frame := { id := 5, ide := false, rtr := false, fdf := false, brs := false, esi := false, dlc := 0, data := [] } }, by decide +kernel⟩,
   ⟨{ (wRun 5000).wr (Reg.CAN_STAT.STATE 1) 2 with can := [(1, { cur := some 48, slots := [(48, some { frame := { id := 5, ide := false, rtr := false, fdf := false, brs := false, esi := false, dlc := 0, data := [] } })] })] }, 1, 48, by decide +kernel⟩,
   ⟨((wRun 5000).wr (Reg.CAN_STAT.STATE 1) 2).wr (Reg.CAN_CFG.PXHE 1) 1, 1, 32, 0, 0, none, by decide +kernel⟩,
   ⟨(wRun 5000).wr (Reg.CAN_STAT.STATE 1) 2, 1, 1, 0, 1, none, by decide +kernel⟩,
   ⟨(wOp 0x20 [1]).wr (Reg.CAN_STAT.STATE 1) 2, 1, 48, .data [], wHostOp 0x20 [1], by decide +kernel⟩⟩

theorem witness_CanTransmitCommands_2 :
    (∃ (s : State) (t r : Nat) (x : ReadResult) (o : HostOp), s.opReady t 0x20 = some o ∧ o.fld 16 1 < 12 ∧ (dlcLen (bitOf (o.fld 17 1) 2) (o.fld 18 1) ≤ 32 ∨ bitOf (o.fld 17 1) 1 = true ∨ readBytes x (dlcLen (bitOf (o.fld 17 1) 2) (o.fld 18 1)) ≠ none) ∧ s.canRefusal (o.fld 16 1) (canReqFrame o ((readBytes x (dlcLen (bitOf (o.fld 17 1) 2) (o.fld 18 1))).getD [])) = some r) ∧
    (∃ (s : State) (t : Nat) (o : HostOp), s.opReady t 0x21 = some o ∧ o.fld 16 1 < 12 ∧ o.tick < s.now) ∧
    (∃ (s : State) (t : Nat) (o : HostOp), s.opReady t 0x22 = some o ∧ o.fld 16 1 < 12) ∧
    (∃ (s : State) (t : Nat) (o : HostOp), s.opReady t 0x23 = some o ∧ o.fld 16 1 < 12 ∧ (o.fld 17 1 = 1 ∨ o.fld 17 1 = 2)) :=
  ⟨⟨(wOp 0x20 [1]).wr (Reg.CAN_STAT.STATE 1) 0, 1, 9, .data [], wHostOp 0x20 [1], by decide +kernel⟩,
   ⟨(wOp 0x21 [1]).wr (Reg.CAN_STAT.STATE 1) 2, 1, wHostOp 0x21 [1], by decide +kernel⟩,
   ⟨(wOp 0x22 [1]).wr (Reg.CAN_STAT.STATE 1) 4, 1, wHostOp 0x22 [1], by decide +kernel⟩,
   ⟨(wOp 0x23 [1, 1]).wr (Reg.CAN_STAT.STATE 1) 2, 1, wHostOp 0x23 [1, 1], by decide +kernel⟩⟩

theorem witness_CanStateCommands_1 :
    (∃ (s : State) (c : Nat), c < 12 ∧ s.canSt c = 4) ∧
    (∃ (s : State) (c : Nat), c < 12) ∧
    (∃ (s : State) (c : Nat), c < 12) ∧
    (∃ (s : State) (c : Nat) (f : CanFrame), c < 12 ∧ (s.canSt c = 2 ∨ s.canSt c = 3 ∨ s.canSt c = 6) ∧ (s.canC c).cur = none ∧ canValid f = true ∧ (f.fdf = false ∨ s.flag (Reg.CAN_CFG.FDEN c) = true)) ∧
    (∃ (s : State) (c : Nat), c < 12 ∧ s.canSt c = 4 ∧ s.flag (Reg.CAN_CFG.RECOV c) = false ∧ (s.canC c).limit = false ∧ (s.canC c).boAt + s.rd (Reg.CAN_CFG.BOHOLD c) * 2000000 ≤ s.now) ∧
    (∃ (s : State) (c : Nat), c < 12 ∧ s.canSt c = 5) :=
  ⟨⟨(wRun 5000).wr (Reg.CAN_STAT.STATE 1) 4, 1, by decide +kernel⟩,
   ⟨(wRun 5000).wr (Reg.CAN_STAT.STATE 1) 2, 1, by decide +kernel⟩,
   ⟨(wRun 5000).wr (Reg.CAN_STAT.STATE 1) 2, 1, by decide +kernel⟩,
   ⟨((wRun 5000).wr (Reg.CAN_STAT.STATE 1) 2).wr (Reg.CAN_CFG.RXHOST 1) 2, 1, { id := 5, ide := false, rtr := false, fdf := false, brs := false, esi := false, dlc := 0, data := [] }, by decide +kernel⟩,
   ⟨(wRun 900000000).wr (Reg.CAN_STAT.STATE 1) 4, 1, by decide +kernel⟩,
   ⟨(wRun 5000).wr (Reg.CAN_STAT.STATE 1) 5, 1, by decide +kernel⟩⟩

theorem witness_CanStateCommands_2 :
    (∃ (s : State) (c : Nat), c < 12 ∧ s.canSt c = 1) ∧
    (∃ (s : State) (c : Nat), c < 12 ∧ s.canSt c = 2 ∧ (s.canC c).eaAt + 200000000 ≤ s.now) :=
  ⟨⟨(wRun 5000).wr (Reg.CAN_STAT.STATE 1) 1, 1, by decide +kernel⟩,
   ⟨{ (wRun 900000000).wr (Reg.CAN_STAT.STATE 1) 2 with can := [(1, { cons := 3 })] }, 1, by decide +kernel⟩⟩

theorem witness_LinScheduleCommands_1 :
    (∃ (s : State) (n tb : Nat), n < 10 ∧ s.linSt n ≠ 0 ∧ s.linCommander n = true ∧ (s.linTable n tb).length ≠ 0) ∧
    (∃ (s : State) (t : Nat) (o : HostOp), s.opReady t 0x28 = some o ∧ o.fld 16 1 < 10 ∧ s.linSt (o.fld 16 1) ≠ 0 ∧ (s.linC (o.fld 16 1)).ending = false ∧ s.linCommander (o.fld 16 1) = true ∧ (s.linTable (o.fld 16 1) (o.fld 17 1)).length ≠ 0) ∧
    (∃ (s : State) (t : Nat) (o : HostOp), s.opReady t 0x29 = some o ∧ o.fld 16 1 < 10 ∧ s.linSt (o.fld 16 1) = 2 ∧ (s.linC (o.fld 16 1)).ending = false ∧ s.linCommander (o.fld 16 1) = true ∧ (s.linC (o.fld 16 1)).diag.length < 4) ∧
    (∃ (s : State) (n : Nat), n < 10 ∧ s.linSt n = 2 ∧ s.linCommander n = true) ∧
    (∃ (s : State) (n : Nat), n < 10 ∧ s.linSt n ≠ 0 ∧ (s.linC n).ending = false) ∧
    (∃ (s : State) (n : Nat), n < 10 ∧ s.linSt n = 2 ∧ s.linCommander n = true ∧ (s.linC n).restartAt = none ∧ (s.linC n).ending = false ∧ (s.linC n).slotEnd ≤ s.now) :=
  ⟨⟨{ ((wRun 900000).wr (Reg.LIN_STAT.STATE 1) 2).wr (Reg.LIN_CFG.ENABLE 1) 1 with img := { lin := [(1, { tables := [[{ ms := 10 }]] })] } }, 1, 0, by decide +kernel⟩,
   ⟨{ ((wOp 0x28 [1]).wr (Reg.LIN_STAT.STATE 1) 2).wr (Reg.LIN_CFG.ENABLE 1) 1 with img := { lin := [(1, { tables := [[{ ms := 10 }]] })] } }, 1, wHostOp 0x28 [1], by decide +kernel⟩,
   ⟨((wOp 0x29 [1]).wr (Reg.LIN_STAT.STATE 1) 2).wr (Reg.LIN_CFG.ENABLE 1) 1, 1, wHostOp 0x29 [1], by decide +kernel⟩,
   ⟨((wRun 900000).wr (Reg.LIN_STAT.STATE 1) 2).wr (Reg.LIN_CFG.ENABLE 1) 1, 1, by decide +kernel⟩,
   ⟨((wRun 900000).wr (Reg.LIN_STAT.STATE 1) 1).wr (Reg.LIN_CFG.ENABLE 1) 1, 1, by decide +kernel⟩,
   ⟨((wRun 900000).wr (Reg.LIN_STAT.STATE 1) 2).wr (Reg.LIN_CFG.ENABLE 1) 1, 1, by decide +kernel⟩⟩

theorem witness_LinScheduleCommands_2 :
    (∃ (s : State) (n e : Nat), (s.linC n).wakeEnd = some e ∧ n < 10 ∧ s.linSt n ≠ 0 ∧ (if (s.linC n).wakeTries < 3 then e + 30000000 else e + 330000000) ≤ s.now) ∧
    (∃ (s : State) (n k : Nat), n < 10 ∧ s.linSt n = 1 ∧ 50000 ≤ k ∧ k ≤ 1000000) ∧
    (∃ (s : State) (n : Nat), n < 10 ∧ s.linSt n = 2 ∧ s.linCommander n = false ∧ (s.linC n).lastBus + 800000000 ≤ s.now) ∧
    (∃ (s : State) (n k : Nat), (s.linC n).restartAt = some k ∧ n < 10 ∧ k ≤ s.now) :=
  ⟨⟨{ ((wRun 90000000).wr (Reg.LIN_STAT.STATE 1) 2).wr (Reg.LIN_CFG.ENABLE 1) 1 with lin := [(1, { wakeEnd := some 5, wakeTries := 1 })] }, 1, 5, by decide +kernel⟩,
   ⟨((wRun 900000).wr (Reg.LIN_STAT.STATE 1) 1).wr (Reg.LIN_CFG.ENABLE 1) 1, 1, 50000, by decide +kernel⟩,
   ⟨(((wRun 900000000).wr (Reg.LIN_STAT.STATE 1) 2).wr (Reg.LIN_CFG.ENABLE 1) 1).wr (Reg.LIN_CFG.ROLE 1) 1, 1, by decide +kernel⟩,
   ⟨{ ((wRun 900000).wr (Reg.LIN_STAT.STATE 1) 2).wr (Reg.LIN_CFG.ENABLE 1) 1 with lin := [(1, { restartAt := some 5 })] }, 1, 5, by decide +kernel⟩⟩

theorem witness_LinFrameCommands :
    (∃ (s : State) (n p ago : Nat) (ok : Bool), n < 10 ∧ s.linSt n = 2 ∧ s.linCommander n = false ∧ (s.linC n).ending = false ∧ s.linHeaderLen n ago = true) ∧
    (∃ (s : State) (n id t : Nat) (r : LinFrame) (f : LinSlot), (s.linC n).hdr = some (id, t) ∧ s.linExpected n id = some f ∧ n < 10 ∧ s.linSt n = 2 ∧ r.pid = linPid id ∧ s.now ≤ t + s.linFrameMax n f.dlen) ∧
    (∃ (s : State) (n id t : Nat) (f : LinSlot), (s.linC n).hdr = some (id, t) ∧ s.linExpected n id = some f ∧ n < 10 ∧ t + s.linFrameMax n f.dlen ≤ s.now) :=
  ⟨⟨((((wRun 900000).wr (Reg.LIN_STAT.STATE 1) 2).wr (Reg.LIN_CFG.ENABLE 1) 1).wr (Reg.LIN_CFG.ROLE 1) 1).wr (Reg.LIN_CFG.RATE 1) 20000, 1, 5, 340000, true, by decide +kernel⟩,
   ⟨{ (((wRun 900000).wr (Reg.LIN_STAT.STATE 1) 2).wr (Reg.LIN_CFG.ENABLE 1) 1).wr (Reg.LIN_CFG.ROLE 1) 1 with lin := [(1, { hdr := some (5, 899000) })], img := { lin := [(1, { frames := [{ ms := 0, id := 5, dlen := 1 }] })] } }, 1, 5, 899000, { pid := linPid 5, data := [1#8], err := 0, collision := false }, { ms := 0, id := 5, dlen := 1 }, by decide +kernel⟩,
   ⟨{ (((wRun 90000000).wr (Reg.LIN_STAT.STATE 1) 2).wr (Reg.LIN_CFG.ENABLE 1) 1).wr (Reg.LIN_CFG.ROLE 1) 1 with lin := [(1, { hdr := some (5, 5) })], img := { lin := [(1, { frames := [{ ms := 0, id := 5, dlen := 1 }] })] } }, 1, 5, 5, { ms := 0, id := 5, dlen := 1 }, by decide +kernel⟩⟩

theorem witness_EthernetCommands :
    (∃ (s : State) (p : Nat) (f : List Byte), p < 4 ∧ s.ethUp p = true) ∧
    (∃ (s : State) (p : Nat) (x : EthTx), p < 4 ∧ s.ethUp p = true ∧ (s.ethP p).sending = none ∧ s.plcaMay p = true ∧ ethPick (s.ethP p).queue = some x) ∧
    (∃ (s : State) (p : Nat) (x : EthTx), (s.ethP p).sending = some x) ∧
    (∃ (s : State) (p v w : Nat) (l q : Bool), p < 4 ∧ s.flag (Reg.ETH_PCFG.ENABLE p) = true ∧ s.ethSpeed p v = some w) ∧
    (∃ (s : State) (p q : Nat), p < 4 ∧ s.ethUp p = true) ∧
    (∃ (s : State) (t : Nat) (x : ReadResult) (o : HostOp) (f : List Byte), s.opReady t 0x2C = some o ∧ 60 ≤ o.fld 32 2 ∧ o.fld 32 2 ≤ 1518 ∧ readBytes x (o.fld 32 2) = some f ∧ s.flag (Reg.ETH_PCFG.ENABLE 4) = true) :=
  ⟨⟨((wRun 5000).wr (Reg.ETH_PCFG.ENABLE 1) 1).wr (Reg.ETH_PSTAT.LINK 1) 1, 1, [], by decide +kernel⟩,
   ⟨{ ((wRun 5000).wr (Reg.ETH_PCFG.ENABLE 1) 1).wr (Reg.ETH_PSTAT.LINK 1) 1 with eth := { ports := [(1, { queue := [{ bytes := [1#8] }] })] } }, 1, { bytes := [1#8] }, by decide +kernel⟩,
   ⟨{ ((wRun 5000).wr (Reg.ETH_PCFG.ENABLE 1) 1).wr (Reg.ETH_PSTAT.LINK 1) 1 with eth := { ports := [(1, { sending := some { bytes := [1#8] } })] } }, 1, { bytes := [1#8] }, by decide +kernel⟩,
   ⟨((wRun 5000).wr (Reg.ETH_PCFG.ENABLE 1) 1).wr (Reg.ETH_PSTAT.LINK 1) 1, 1, 2, 2, false, false, by decide +kernel⟩,
   ⟨((wRun 5000).wr (Reg.ETH_PCFG.ENABLE 1) 1).wr (Reg.ETH_PSTAT.LINK 1) 1, 1, 7, by decide +kernel⟩,
   ⟨(wOp 0x2C (List.replicate 16 0 ++ [60])).wr (Reg.ETH_PCFG.ENABLE 4) 1, 1, .data (List.replicate 60 0#8), wHostOp 0x2C (List.replicate 16 0 ++ [60]), List.replicate 60 0#8, by decide +kernel⟩⟩

theorem witness_CipherEngineCommands_1 :
    (∃ (s : State) (t : Nat) (o : HostOp) (x aux : ReadResult) (bs as : List Byte), s.opReady t 0x30 = some o ∧ s.crySt = 2 ∧ s.cryHost < 48 ∧ cipherOk o = true ∧ readBytes x (o.fld 20 4) = some bs ∧ readBytes aux (auxLen o) = some as) ∧
    (∃ (s : State) (t : Nat) (o : HostOp) (x : ReadResult) (bs : List Byte), s.opReady t 0x31 = some o ∧ s.crySt = 2 ∧ s.cryHost < 48 ∧ o.fld 20 4 ≤ 16777215 ∧ readBytes x (o.fld 20 4) = some bs) ∧
    (∃ (s : State) (t : Nat) (o : HostOp), s.opReady t 0x32 = some o ∧ s.crySt = 2 ∧ s.cryHost < 48 ∧ o.fld 16 1 < 64 ∧ o.fld 17 1 < 4 ∧ o.fld 18 1 < 2 ∧ o.fld 19 1 ≠ 0 ∧ o.fld 19 1 < 32 ∧ o.fld 20 2 ≠ 0 ∧ o.fld 22 1 ≠ 0 ∧ o.fld 22 1 ≤ 32) ∧
    (∃ (s : State) (t : Nat) (o : HostOp), s.opReady t 0x33 = some o ∧ s.crySt = 2 ∧ s.cryHost < 48 ∧ o.fld 16 1 < 64) ∧
    (∃ (s : State) (t : Nat) (o : HostOp), s.opReady t 0x34 = some o ∧ s.crySt = 2 ∧ s.cryHost < 48 ∧ o.fld 16 1 < 64) ∧
    (∃ (s : State) (t : Nat) (o : HostOp), s.opReady t 0x35 = some o ∧ (o.fld 16 1 = 1 ∨ o.fld 16 1 = 2)) :=
  ⟨⟨(wOp 48 [0, 4, 1, 16, 0, 0, 0, 0]).wr Reg.CRY_STAT.STATE 2, 1, wHostOp 0x30 [0, 4, 1, 16, 0, 0, 0, 0], .data [], .data (List.replicate 32 0#8), [], List.replicate 32 0#8, by decide +kernel⟩,
   ⟨(wOp 49 [0, 0, 0, 0, 2]).wr Reg.CRY_STAT.STATE 2, 1, wHostOp 0x31 [0, 0, 0, 0, 2], .data [7#8, 9#8], [7#8, 9#8], by decide +kernel⟩,
   ⟨(wOp 50 [1, 0, 0, 1, 1, 0, 4]).wr Reg.CRY_STAT.STATE 2, 1, wHostOp 0x32 [1, 0, 0, 1, 1, 0, 4], by decide +kernel⟩,
   ⟨(wOp 51 [1]).wr Reg.CRY_STAT.STATE 2, 1, wHostOp 0x33 [1], by decide +kernel⟩,
   ⟨(wOp 52 [1]).wr Reg.CRY_STAT.STATE 2, 1, wHostOp 0x34 [1], by decide +kernel⟩,
   ⟨wOp 0x35 [2], 1, wHostOp 0x35 [2], by decide +kernel⟩⟩

theorem witness_CipherEngineCommands_2 :
    (∃ (s : State) (k : Nat) (r : CryReq), s.cryNext k = some r ∧ k < 3 ∧ s.crySt = 2 ∧ (s.cryU k).cur = none ∧ r.opcode = 0x31) ∧
    (∃ (s : State) (k : Nat) (r : CryReq), s.cryNext k = some r ∧ k < 3 ∧ s.crySt = 2 ∧ (s.cryU k).cur = none ∧ r.internal = false ∧ r.opcode = 0x30 ∧ s.rd (Reg.CRY_SLOT.STATE (r.fld 16 1)) = 0) ∧
    (∃ (s : State) (k : Nat) (r : CryReq), s.cryNext k = some r ∧ k < 3 ∧ s.crySt = 2 ∧ (s.cryU k).cur = none ∧ r.internal = false ∧ r.opcode = 0x30 ∧ s.rd (Reg.CRY_SLOT.STATE (r.fld 16 1)) ≠ 0 ∧ bitOf (s.rd (Reg.CRY_SLOT.MODES (r.fld 16 1))) (r.fld 17 1) = true ∧ r.draws = false) ∧
    (∃ (s : State) (k : Nat) (r : CryReq), s.cryNext k = some r ∧ k < 3 ∧ s.crySt = 2 ∧ (s.cryU k).cur = none ∧ r.internal = false ∧ r.opcode = 0x32 ∧ s.flag (Reg.CRY_ROOT.VALID (r.fld 17 1)) = true ∧ s.rd (Reg.CRY_SLOT.EPOCH (r.fld 16 1)) ≠ 65535 ∧ s.rd (Reg.CRY_SLOT.EPOCH (r.fld 16 1)) < r.fld 20 2 ∧ (({ s with cry := { s.cry with queue := s.cry.queue.erase r } } : State).setCryU k { s.cryU k with cur := none }).slotTwin r = false) ∧
    (∃ (s : State) (k : Nat) (r : CryReq), s.cryNext k = some r ∧ k < 3 ∧ s.crySt = 2 ∧ (s.cryU k).cur = none ∧ r.internal = false ∧ (r.opcode = 0x33 ∨ r.opcode = 0x34)) ∧
    (∃ (s : State) (k : Nat) (r : CryReq), (s.cryU k).cur = some r ∧ k < 2 ∧ r.waitCeil = true ∧ s.cryRunning.all (fun q => !(q.waitCeil && decide (q.fld 16 1 = r.fld 16 1)) || decide (r.id ≤ q.id)) = true ∧ s.rd (Reg.CRY_NONCE.N (r.fld 16 1)) = (s.kennel (r.fld 16 1)).ceil) :=
  ⟨⟨{ (wRun 100).wr Reg.CRY_STAT.STATE 2 with cry := { queue := [{ id := 0, opcode := 0x31 }] } }, 2, { id := 0, opcode := 0x31 }, by decide +kernel⟩,
   ⟨{ (wRun 100).wr Reg.CRY_STAT.STATE 2 with cry := { queue := [{ id := 0, tag := some 1, opcode := 48, desc := wDesc 48 [3, 1, 1, 0] }] } }, 0, { id := 0, tag := some 1, opcode := 48, desc := wDesc 48 [3, 1, 1, 0] }, by decide +kernel⟩,
   ⟨{ (((wRun 100).wr (Reg.CRY_SLOT.STATE 3) 2).wr (Reg.CRY_SLOT.MODES 3) 31).wr Reg.CRY_STAT.STATE 2 with cry := { queue := [{ id := 0, tag := some 1, opcode := 48, desc := wDesc 48 [3, 1, 1, 0] }] } }, 0, { id := 0, tag := some 1, opcode := 48, desc := wDesc 48 [3, 1, 1, 0] }, by decide +kernel⟩,
   ⟨{ ((wRun 100).wr (Reg.CRY_ROOT.VALID 1) 1).wr Reg.CRY_STAT.STATE 2 with cry := { queue := [{ id := 0, tag := some 1, opcode := 50, desc := wDesc 50 [3, 1, 0, 1, 1, 0, 4] }] } }, 1, { id := 0, tag := some 1, opcode := 50, desc := wDesc 50 [3, 1, 0, 1, 1, 0, 4] }, by decide +kernel⟩,
   ⟨{ (wRun 100).wr Reg.CRY_STAT.STATE 2 with cry := { queue := [{ id := 0, tag := some 1, opcode := 51, desc := wDesc 51 [3] }] } }, 0, { id := 0, tag := some 1, opcode := 51, desc := wDesc 51 [3] }, by decide +kernel⟩,
   ⟨{ wRun 100 with cry := { units := [(1, { cur := some { id := 0, opcode := 0x30, desc := wDesc 0x30 [3, 2, 0], waitCeil := true } })] } }, 1, { id := 0, opcode := 0x30, desc := wDesc 0x30 [3, 2, 0], waitCeil := true }, by decide +kernel⟩⟩

theorem witness_CipherEngineCommands_3 :
    (∃ (s : State) (k : Nat) (r : CryReq), (s.cryU k).cur = some r ∧ k < 3 ∧ s.crySt = 2 ∧ r.waitCeil = false) ∧
    (∃ (s : State) (a : AlarmSrc), s.started = true) ∧
    (∃ (s : State), s.crySt = 3 ∧ s.rd Reg.CRY_STAT.ERASEPEND = 1) ∧
    (∃ (s : State), s.crySt = 1) :=
  ⟨⟨{ (wRun 100).wr Reg.CRY_STAT.STATE 2 with cry := { units := [(2, { cur := some { id := 0, opcode := 0x31 } })] } }, 2, { id := 0, opcode := 0x31 }, by decide +kernel⟩,
   ⟨wRun 100, .tamper, by decide +kernel⟩,
   ⟨((wRun 100).wr Reg.CRY_STAT.STATE 3).wr Reg.CRY_STAT.ERASEPEND 1, by decide +kernel⟩,
   ⟨(wRun 100).wr Reg.CRY_STAT.STATE 1, by decide +kernel⟩⟩

theorem witness_AccessEngineCommands_1 :
    (∃ (s : State) (t : Nat) (o : HostOp), s.opReady t 0x40 = some o ∧ (o.fld 16 1 = 1 ∨ o.fld 16 1 = 2) ∧ s.accCheck { tag := some t, mode := o.fld 16 1, token := o.fld 17 1, mask := o.fld 18 1 } = none ∧ (s.acc.queue.filter (fun q => q.tag.isSome)).length < 4) ∧
    (∃ (s : State) (t : Nat) (o : HostOp), s.opReady t 0x43 = some o ∧ s.accCheck { tag := some t, mode := 3, token := o.fld 16 1, mask := o.fld 17 1 } = none ∧ s.accSt = 1 ∧ (s.acc.queue.filter (fun q => q.tag.isSome)).length < 4) ∧
    (∃ (s : State) (t : Nat) (o : HostOp), s.opReady t 0x41 = some o ∧ o.fld 16 1 < 8 ∧ s.tokReg (o.fld 16 1) = false ∧ o.fld 20 4 ≠ 0xFFFFFFFF ∧ s.tokenOf (o.fld 20 4) = none ∧ s.slotPermits (o.fld 17 1) 2 = true ∧ s.accBusy = false) ∧
    (∃ (s : State) (t : Nat) (o : HostOp), s.opReady t 0x42 = some o ∧ s.tokReg (o.fld 16 1) = true ∧ s.accBusy = false ∧ bits s.acc.session 1 3 ≠ o.fld 16 1) ∧
    (∃ (s : State) (k cur : Nat), k < 8 ∧ s.lfDriven k = true ∧ 1500 < cur) ∧
    (∃ (s : State) (k peak : Nat), k < 8 ∧ s.lfDriven k = true ∧ bitOf s.acc.opens k = false ∧ 4 * peak < s.rd (Reg.ACC_LF.IPK k) * 10) :=
  ⟨⟨(((((((wOp 64 [1, 1, 1]).wr Reg.ACC_STAT.STATE 1).wr Reg.CRY_STAT.STATE 2).wr (Reg.CRY_SLOT.STATE 0) 1).wr (Reg.CRY_SLOT.MODES 0) 31).wr (Reg.ACC_LF.EN 0) 1).wr (Reg.ACC_TOKCFG.REG 1) 1), 1, wHostOp 0x40 [1, 1, 1], by decide +kernel⟩,
   ⟨(((((((wOp 67 [1, 1]).wr Reg.ACC_STAT.STATE 1).wr Reg.CRY_STAT.STATE 2).wr (Reg.CRY_SLOT.STATE 0) 1).wr (Reg.CRY_SLOT.MODES 0) 31).wr (Reg.ACC_LF.EN 0) 1).wr (Reg.ACC_TOKCFG.REG 1) 1), 1, wHostOp 0x43 [1, 1], by decide +kernel⟩,
   ⟨(((((((wOp 65 [3, 0, 0, 0, 77]).wr Reg.ACC_STAT.STATE 1).wr Reg.CRY_STAT.STATE 2).wr (Reg.CRY_SLOT.STATE 0) 1).wr (Reg.CRY_SLOT.MODES 0) 31).wr (Reg.ACC_LF.EN 0) 1).wr (Reg.ACC_TOKCFG.REG 1) 1), 1, wHostOp 0x41 [3, 0, 0, 0, 77], by decide +kernel⟩,
   ⟨(((((((wOp 66 [1]).wr Reg.ACC_STAT.STATE 1).wr Reg.CRY_STAT.STATE 2).wr (Reg.CRY_SLOT.STATE 0) 1).wr (Reg.CRY_SLOT.MODES 0) 31).wr (Reg.ACC_LF.EN 0) 1).wr (Reg.ACC_TOKCFG.REG 1) 1), 1, wHostOp 0x42 [1], by decide +kernel⟩,
   ⟨{ wRun 9000 with acc := { sending := true, drivers := 255, endAt := 9000000 } }, 2, 1501, by decide +kernel⟩,
   ⟨{ ((wRun 9000).wr (Reg.ACC_LF.IPK 2) 10) with acc := { sending := true, drivers := 255, endAt := 9000000 } }, 2, 24, by decide +kernel⟩⟩

theorem witness_AccessEngineCommands_2 :
    (∃ (s : State) (f : List Byte) (x : Nat), s.accBusy = true ∧ s.acc.strobes.getLast? = some x) ∧
    (∃ (s : State) (f : List Byte) (x : TkrFrame), parseTkr f = some x ∧ x.button = true ∧ s.accSt ≠ 0 ∧ s.accSt ≠ 4 ∧ s.tokenOf x.id = none) ∧
    (∃ (s : State) (f : List Byte) (x : TkrFrame) (i : Nat), parseTkr f = some x ∧ x.button = true ∧ s.accSt ≠ 0 ∧ s.accSt ≠ 4 ∧ s.tokenOf x.id = some i ∧ s.tkrVerifies i x = true ∧ s.rd (Reg.ACC_TOKCNT.LASTCNT i) < x.cnt) ∧
    (∃ (s : State), s.lfDue = true ∧ (s.celAt 16).running = false) ∧
    (∃ (s : State), s.lfDue = true ∧ (s.celAt 16).running = true) ∧
    (∃ (s : State), s.lfDue = true ∧ (s.celAt 16).running = true) :=
  ⟨⟨{ ((wRun 9000000).wr Reg.ACC_STAT.STATE 2) with acc := { strobes := [5, 7] } }, [1#8], 7, by decide +kernel⟩,
   ⟨{ ((wRun 9000000).wr Reg.ACC_STAT.STATE 1) with acc := {  } }, wTkr (0xA5 :: List.replicate 17 0), { button := true, id := 0, flags := 0, cnt := 0, mac := List.replicate 8 0#8 }, by decide +kernel⟩,
   ⟨wOpen, wButton, { button := true, id := 9, flags := 0, cnt := 1, mac := (wButton.drop 10).take 8 }, 1, by decide +kernel⟩,
   ⟨{ wRun 9000 with acc := { sending := true, endAt := 9000 } }, by decide +kernel⟩,
   ⟨{ wRun 9000 with acc := { sending := true, endAt := 9000 }, cel := [(16, { running := true })] }, by decide +kernel⟩,
   ⟨{ wRun 9000 with acc := { sending := true, endAt := 9000 }, cel := [(16, { running := true })] }, by decide +kernel⟩⟩

theorem witness_AccessEngineCommands_3 :
    (∃ (s : State), s.acc.sending = false ∧ s.acc.challengeEnd = none ∧ s.lfMay = true ∧ s.acc.cur = none ∧ s.accSt = 1) ∧
    (∃ (s : State) (r : AccReq) (i : Nat) (rest : List Nat), s.acc.sending = false ∧ s.acc.challengeEnd = none ∧ s.lfMay = true ∧ s.acc.cur = some r ∧ r.mode ≠ 3 ∧ s.acc.repeats = i :: rest) ∧
    (∃ (s : State) (r : AccReq), s.acc.sending = false ∧ s.acc.challengeEnd = none ∧ s.lfMay = true ∧ s.acc.cur = some r ∧ r.mode = 3) ∧
    (∃ (s : State) (r : AccReq), s.acc.sending = true ∧ s.acc.endAt ≤ s.dieNow .v ∧ s.acc.cur = some r) ∧
    (∃ (s : State) (e : Nat), s.accBusy = true ∧ s.acc.challengeEnd = some e) ∧
    (∃ (s : State) (e : Nat), s.acc.challengeEnd = some e ∧ s.accBusy = true ∧ s.acc.verify = none ∧ (e + 30000 + s.acc.k * 800000) + 800000 ≤ s.now ∧ s.acc.strobes.filter (fun x => decide ((e + 30000 + s.acc.k * 800000) ≤ x) && decide (x < (e + 30000 + s.acc.k * 800000) + 800000)) = []) :=
  ⟨⟨((wRun 9000).wr Reg.ACC_STAT.STATE 1), by decide +kernel⟩,
   ⟨{ ((wRun 9000).wr Reg.ACC_STAT.STATE 2) with acc := { cur := some { mask := 1 }, repeats := [4, 5] } }, { mask := 1 }, 4, [5], by decide +kernel⟩,
   ⟨{ ((wRun 9000).wr Reg.ACC_STAT.STATE 3) with acc := { cur := some { mode := 3, mask := 1 } } }, { mode := 3, mask := 1 }, by decide +kernel⟩,
   ⟨{ ((wRun 9000000).wr Reg.ACC_STAT.STATE 2) with acc := { sending := true, endAt := 9000, cur := some {} } }, {}, by decide +kernel⟩,
   ⟨{ ((wRun 9000000).wr Reg.ACC_STAT.STATE 2) with acc := { challengeEnd := some 5 } }, 5, by decide +kernel⟩,
   ⟨{ ((wRun 9000000).wr Reg.ACC_STAT.STATE 2) with acc := { challengeEnd := some 5, cur := some {} } }, 5, by decide +kernel⟩⟩

theorem witness_AccessEngineCommands_4 :
    (∃ (s : State) (e x y : Nat) (zs : List Nat), s.acc.challengeEnd = some e ∧ s.accBusy = true ∧ s.acc.verify = none ∧ (e + 30000 + s.acc.k * 800000) + 800000 ≤ s.now ∧ s.acc.strobes.filter (fun x => decide ((e + 30000 + s.acc.k * 800000) ≤ x) && decide (x < (e + 30000 + s.acc.k * 800000) + 800000)) = x :: y :: zs) ∧
    (∃ (s : State) (e x : Nat) (f : TkrFrame) (i : Nat), s.acc.challengeEnd = some e ∧ s.accBusy = true ∧ s.acc.verify = none ∧ (e + 30000 + s.acc.k * 800000) + 800000 ≤ s.now ∧ s.acc.strobes.filter (fun x => decide ((e + 30000 + s.acc.k * 800000) ≤ x) && decide (x < (e + 30000 + s.acc.k * 800000) + 800000)) = [x] ∧ (s.acc.frames.filter (fun p => decide (p.1 = x))).map (fun p => parseTkr p.2) = [some f] ∧ f.button = false ∧ s.tokenOf f.id = some i) ∧
    (∃ (s : State) (v : AccReply) (r : AccReq) (e : Nat), s.acc.verify = some v ∧ s.acc.cur = some r ∧ s.acc.challengeEnd = some e ∧ r.mode ≠ 3) ∧
    (∃ (s : State) (v : AccReply) (r : AccReq) (e : Nat), s.acc.verify = some v ∧ s.acc.cur = some r ∧ s.acc.challengeEnd = some e ∧ r.mode = 3) ∧
    (∃ (s : State), s.accSt = 4 ∧ s.acc.lockEnd ≤ s.now) ∧
    (∃ (s : State), s.sessionOn = true ∧ s.rd64 Reg.ACC_SESST.T + 6000000000 ≤ s.now) :=
  ⟨⟨{ ((wRun 9000000).wr Reg.ACC_STAT.STATE 2) with acc := { challengeEnd := some 5, cur := some {}, strobes := [40000, 50000] } }, 5, 40000, 50000, [], by decide +kernel⟩,
   ⟨{ wOpen.wr Reg.ACC_STAT.STATE 2 with acc := { challengeEnd := some 5, strobes := [40000], frames := [(40000, wTkr ([0x5A, 9] ++ List.replicate 12 0))] } }, 5, 40000, { button := false, id := 9, flags := 0, cnt := 0, mac := List.replicate 8 0#8 }, 1, by decide +kernel⟩,
   ⟨{ ((wRun 9000000).wr Reg.ACC_STAT.STATE 2) with acc := { verify := some { k := 0, token := 1, flags := 0, stamp := 50000, good := false }, challengeEnd := some 5, cur := some {} } }, { k := 0, token := 1, flags := 0, stamp := 50000, good := false }, {}, 5, by decide +kernel⟩,
   ⟨{ ((wRun 9000000).wr Reg.ACC_STAT.STATE 3) with acc := { verify := some { k := 0, token := 1, flags := 0, stamp := 50000, good := false }, challengeEnd := some 5, cur := some { mode := 3 } } }, { k := 0, token := 1, flags := 0, stamp := 50000, good := false }, { mode := 3 }, 5, by decide +kernel⟩,
   ⟨{ ((wRun 9000000).wr Reg.ACC_STAT.STATE 4) with acc := { lockEnd := 7000 } }, by decide +kernel⟩,
   ⟨{ wRun 9000000000 with acc := { session := 1 } }, by decide +kernel⟩⟩

theorem witness_FaultCommands_1 :
    (∃ (s : State) (r : Nat), s.started = true ∧ s.fltBound r = true) ∧
    (∃ (s : State) (d : Die) (x : Raise) (xs : List UpMsg), s.linkCarries d = true ∧ (s.link d).up = .raise x :: xs) ∧
    (∃ (s : State) (x : Raise) (xs : List Raise), s.flt.fromL = x :: xs) ∧
    (∃ (s : State) (r : Nat), s.raisesDue.fltBound r = true ∧ (s.raisesDue.fltSt r = 1 ∨ s.raisesDue.fltSt r = 2) ∧ s.raisesDue.rd (Reg.FLT_COUNT.QUIET r) ≠ 0 ∧ (s.raisesDue.fltRec r).last + s.raisesDue.rd (Reg.FLT_COUNT.QUIET r) * 20000000 + 400 ≤ s.raisesDue.now) ∧
    (∃ (s : State) (t : Nat) (o : HostOp), s.opReady t 0x50 = some o ∧ s.fltBound (o.fld 16 2) = true) ∧
    (∃ (s : State) (t : Nat) (o : HostOp), s.opReady t 0x51 = some o) :=
  ⟨⟨(wRun 100).wr (Reg.FLT_BIND.SPAN 5) 1, 5, by decide +kernel⟩,
   ⟨(wRun 1000).setLink .p0 { up := [.raise { src := 0x0100, kind := 1, stamp := 900 }] }, .p0, { src := 0x0100, kind := 1, stamp := 900 }, [], by decide +kernel⟩,
   ⟨{ wRun 1000 with flt := { fromL := [{ src := 0x0100, kind := 1, stamp := 900 }] } }, { src := 0x0100, kind := 1, stamp := 900 }, [], by decide +kernel⟩,
   ⟨(((wRun 40000400).wr (Reg.FLT_BIND.SPAN 5) 1).wr (Reg.FLT_COUNT.QUIET 5) 2).wr (Reg.FLT_RSTAT.STATE 5) 1, 5, by decide +kernel⟩,
   ⟨(wOp 0x50 [5]).wr (Reg.FLT_BIND.SPAN 5) 1, 1, wHostOp 0x50 [5], by decide +kernel⟩,
   ⟨wOp 0x51 [], 1, wHostOp 0x51 [], by decide +kernel⟩⟩

theorem witness_FaultCommands_2 :
    (∃ (s : State) (t : Nat) (o : HostOp), s.opReady t 0x52 = some o ∧ s.fltBound (o.fld 16 2) = true) ∧
    (∃ (s : State) (t : Nat) (o : HostOp), s.opReady t 0x53 = some o ∧ classDefined (o.fld 16 2) = true ∧ kindUsed (o.fld 18 1) = true ∧ s.flag Reg.FLT_STAT.TEST = true) :=
  ⟨⟨(wOp 0x52 [5]).wr (Reg.FLT_BIND.SPAN 5) 1, 1, wHostOp 0x52 [5], by decide +kernel⟩,
   ⟨(wOp 0x53 [0, 3, 1]).wr Reg.FLT_STAT.TEST 1, 1, wHostOp 0x53 [0, 3, 1], by decide +kernel⟩⟩

theorem witness_RecorderCommands_1 :
    (∃ (s : State) (n : Nat), s.started = true ∧ s.evr.mramRep.any (fun p => decide (p.1 = n)) = true ∧ (SMap.get (fun _ => 0) s.evr.wbTick n = 0 ∨ SMap.get (fun _ => 0) s.evr.wbTick n + 20000000 ≤ s.now)) ∧
    (∃ (s : State) (t : Nat) (o : HostOp), s.opReady t 0x58 = some o ∧ o.fld 20 2 ≠ 0 ∧ o.fld 20 2 ≤ 256 ∧ frameLater (o.fld 16 4) (s.rd Reg.EVR_WCNT.N) = false ∧ frameLater (s.rd Reg.EVR_OLDEST.N) (o.fld 16 4) = false ∧ (min (o.fld 20 2) (((s.rd Reg.EVR_WCNT.N) + 2 ^ 32 - (o.fld 16 4)) % 2 ^ 32)) ≠ 0) ∧
    (∃ (s : State) (t : Nat) (o : HostOp), s.opReady t 0x59 = some o ∧ s.evr.queue.length < 64) ∧
    (∃ (s : State) (t : Nat) (o : HostOp), s.opReady t 0x5A = some o ∧ s.otp.life = 0) ∧
    (∃ (s : State) (e : Evt) (q : List Evt), s.started = true ∧ s.evr.discards = 0 ∧ s.evr.queue = e :: q) ∧
    (∃ (s : State), s.started = true ∧ s.evr.discards ≠ 0) :=
  ⟨⟨{ wRun 1000 with evr := { mramRep := [(4, 2)] } }, 4, by decide +kernel⟩,
   ⟨(wOp 0x58 [0, 0, 0, 0, 2]).wr Reg.EVR_WCNT.N 7, 1, wHostOp 0x58 [0, 0, 0, 0, 2], by decide +kernel⟩,
   ⟨wOp 0x59 [3], 1, wHostOp 0x59 [3], by decide +kernel⟩,
   ⟨wOp 0x5A [], 1, wHostOp 0x5A [], by decide +kernel⟩,
   ⟨{ wRun 1000 with evr := { queue := [{ code := 5, tick := 900 }] } }, { code := 5, tick := 900 }, [], by decide +kernel⟩,
   ⟨{ wRun 1000 with evr := { discards := 3 } }, by decide +kernel⟩⟩

theorem witness_RecorderCommands_2 :
    (∃ (s : State), s.started = true ∧ s.evr.opsecAt + 200000000 ≤ s.now) :=
  ⟨wRun 200000000, by decide +kernel⟩

theorem witness_ReflexCoreCommands_1 :
    (∃ (s : State) (c : Nat), c < 8 ∧ s.started = true ∧ s.coreSt c = 0 ∧ s.place (s.remaining c) ≠ none) ∧
    (∃ (s : State) (c : Nat), c < 8 ∧ s.started = true ∧ s.coreSt c = 2) ∧
    (∃ (s : State) (c : Nat), c < 8 ∧ s.started = true ∧ s.coreSt c = 1) ∧
    (∃ (s : State) (c cause : Nat), c < 8 ∧ s.started = true ∧ s.coreSt c ≤ 1 ∧ 1 ≤ cause ∧ cause ≤ 3 ∧ ((cause = 1 → s.notStopped c = true))) ∧
    (∃ (s : State) (c : Nat) (r : SvcReq), s.rfx.reqs.find? (fun r => decide (r.core = c) && decide (r.op = 2) && !r.tested) = some r ∧ s.coreSt c = 3 ∧ r.tick + 10000 ≤ s.now) ∧
    (∃ (s : State) (c : Nat) (r : SvcReq), s.rfx.reqs.find? (fun r => decide (r.core = c) && decide (r.op = 2) && !r.tested) = some r ∧ s.coreSt c = 3 ∧ r.tick + 10000 ≤ s.now) :=
  ⟨⟨wRun 100, 3, by decide +kernel⟩,
   ⟨(wRun 100).wr (Reg.RFX_CORE.STATE 3) 2, 3, by decide +kernel⟩,
   ⟨(wRun 100).wr (Reg.RFX_CORE.STATE 3) 1, 3, by decide +kernel⟩,
   ⟨wRun 100, 3, 2, by decide +kernel⟩,
   ⟨{ (wRun 10000).wr (Reg.RFX_CORE.STATE 3) 3 with rfx := { reqs := [{ core := 3, op := 2 }] } }, 3, { core := 3, op := 2 }, by decide +kernel⟩,
   ⟨{ (wRun 10000).wr (Reg.RFX_CORE.STATE 3) 3 with rfx := { reqs := [{ core := 3, op := 2 }] } }, 3, { core := 3, op := 2 }, by decide +kernel⟩⟩

theorem witness_ReflexCoreCommands_2 :
    (∃ (s : State) (d : Die), s.dieNow d ≠ 0 ∧ s.dieNow d % 200 = 0) ∧
    (∃ (s : State) (t : Nat) (o : HostOp) (k : CmdUnit), s.opReady t 0x12 = some o ∧ s.attr (o.fld 16 3) ≠ none ∧ cmdUnit (o.fld 16 3) = some k ∧ s.flag Reg.RFX_CFG.IMMEN = true ∧ s.domReady k.die = true ∧ s.inLimp k.die = false) ∧
    (∃ (s : State) (t : Nat) (o : HostOp), s.opReady t 0x19 = some o ∧ o.fld 16 1 < 8 ∧ o.fld 17 1 = 1) ∧
    (∃ (s : State) (t : Nat) (o : HostOp), s.opReady t 0x19 = some o ∧ o.fld 16 1 < 8 ∧ o.fld 17 1 = 2) :=
  ⟨⟨wRun 400, .p1, by decide +kernel⟩,
   ⟨{ ((wOp 0x12 [0, 4]).wr (Reg.CH_CFG.ENABLE 0) 1).wr Reg.RFX_CFG.IMMEN 1 with img := { regs := [((Reg.CH_CFG.ENABLE 0).off, 1#32)] } }, 1, wHostOp 0x12 [0, 4], .chan 0, by decide +kernel⟩,
   ⟨wOp 0x19 [3, 1], 1, wHostOp 0x19 [3, 1], by decide +kernel⟩,
   ⟨wOp 0x19 [3, 2], 1, wHostOp 0x19 [3, 2], by decide +kernel⟩⟩

theorem witness_ConfigurationCommands_1 :
    (∃ (s : State) (t : Nat) (o : HostOp) (x : ReadResult) (bs : List Byte), s.opReady t 0x60 = some o ∧ s.otp.life ≠ 2 ∧ s.cfg.op = none ∧ o.fld 20 4 % 4 = 0 ∧ 4 ≤ o.fld 32 4 ∧ o.fld 32 4 ≤ 65536 ∧ o.fld 32 4 % 4 = 0 ∧ o.fld 20 4 + o.fld 32 4 ≤ 2097152 ∧ readBytes x (o.fld 32 4) = some bs) ∧
    (∃ (s : State) (t : Nat) (o : HostOp), s.opReady t 0x61 = some o ∧ s.otp.life ≠ 2 ∧ s.cfg.op = none ∧ s.bankSt s.spareBank = 1) ∧
    (∃ (s : State) (t : Nat) (o : HostOp), s.opReady t 0x62 = some o ∧ s.otp.life ≠ 2 ∧ s.cfg.op = none ∧ s.bankSt s.spareBank = 4) ∧
    (∃ (s : State) (t : Nat) (o : HostOp), s.opReady t 0x63 = some o) ∧
    (∃ (s : State) (t : Nat) (o : HostOp), s.opReady t 0x64 = some o ∧ s.otp.life ≠ 2 ∧ s.cfg.op = none ∧ s.hasBank = true ∧ s.otp.minver < o.fld 20 4 ∧ o.fld 20 4 ≤ s.rd (Reg.CFG_BVER.VERSION s.activeBank) ∧ s.otp.raises < 255) ∧
    (∃ (s : State) (t : Nat) (o : HostOp), s.opReady t 0x65 = some o ∧ s.otp.life ≠ 2 ∧ s.cfg.op = none ∧ o.fld 16 1 = s.otp.life + 1 ∧ o.fld 17 1 = 0xA5 ∧ (s.otp.life ≠ 0 ∨ (s.hasBank = true ∧ s.flag Reg.CFG_AUTH.AUTHEN = true))) :=
  ⟨⟨wOp 0x60 [0, 0, 0, 0, 8, 0, 0, 0, 0, 0, 0, 0, 0, 0, 0, 0, 4], 1, wHostOp 0x60 [0, 0, 0, 0, 8, 0, 0, 0, 0, 0, 0, 0, 0, 0, 0, 0, 4], .data [1#8, 2#8, 3#8, 4#8], [1#8, 2#8, 3#8, 4#8], by decide +kernel⟩,
   ⟨(wOp 0x61 []).wr (Reg.CFG_STAT.STATEB) 1, 1, wHostOp 0x61 [], by decide +kernel⟩,
   ⟨(wOp 0x62 []).wr (Reg.CFG_STAT.STATEB) 4, 1, wHostOp 0x62 [], by decide +kernel⟩,
   ⟨wOp 0x63 [], 1, wHostOp 0x63 [], by decide +kernel⟩,
   ⟨((wOp 0x64 [0, 0, 0, 0, 5]).wr Reg.CFG_STAT.AVALID 1).wr (Reg.CFG_BVER.VERSION 0) 9, 1, wHostOp 0x64 [0, 0, 0, 0, 5], by decide +kernel⟩,
   ⟨{ wOp 0x65 [2, 0xA5] with otp := { life := 1 } }, 1, wHostOp 0x65 [2, 0xA5], by decide +kernel⟩⟩

theorem witness_ConfigurationCommands_2 :
    (∃ (s : State) (t : Nat) (o : HostOp) (x : ReadResult) (b : List Byte), s.opReady t 0x66 = some o ∧ s.otp.life ≠ 2 ∧ s.cfg.op = none ∧ o.fld 16 1 ≤ 3 ∧ (o.fld 17 1 = 0xFF ∨ (o.fld 17 1 < 64 ∧ s.rd (Reg.CRY_SLOT.STATE (o.fld 17 1)) = 1 ∧ bitOf (s.rd (Reg.CRY_SLOT.MODES (o.fld 17 1))) 4 = true)) ∧ (o.fld 17 1 ≠ 0xFF ∨ s.otp.life = 0) ∧ s.provOf (o.fld 16 1) < 4 ∧ readBytes x 60 = some b) ∧
    (∃ (s : State) (t : Nat) (o : HostOp), s.opReady t 0x67 = some o ∧ s.otp.life ≠ 2 ∧ s.cfg.op = none ∧ s.otp.debug < 16) ∧
    (∃ (s : State) (t : Nat) (o : HostOp), s.opReady t 0x68 = some o ∧ s.otp.life = 0) ∧
    (∃ (s : State) (d : Die) (regs : SMap W32) (s1 : State), s.popDown d = some (.params regs true, s1) ∧ s1.domReady d = true) ∧
    (∃ (s : State) (d : Die) (regs : SMap W32) (s1 : State), s.popDown d = some (.params regs false, s1) ∧ s1.domReady d = true) ∧
    (∃ (s : State) (d : Die) (ms : List UpMsg), (s.link d).up = .ack false :: ms ∧ s.linkCarries d = true) :=
  ⟨⟨wOp 0x66 [1, 0xFF], 1, wHostOp 0x66 [1, 0xFF], .data (List.replicate 60 0#8), List.replicate 60 0#8, by decide +kernel⟩,
   ⟨wOp 0x67 [], 1, wHostOp 0x67 [], by decide +kernel⟩,
   ⟨wOp 0x68 [], 1, wHostOp 0x68 [], by decide +kernel⟩,
   ⟨(wRun 100).setLink .p1 { down := [.params [] true] }, .p1, [], wRun 100, by decide +kernel⟩,
   ⟨(wRun 100).setLink .p1 { down := [.params [] false] }, .p1, [], wRun 100, by decide +kernel⟩,
   ⟨(wRun 100).setLink .p1 { up := [.ack false] }, .p1, [], by decide +kernel⟩⟩

theorem witness_ConfigurationCommands_3 :
    (∃ (s : State) (d : Die) (ms : List UpMsg), (s.link d).up = .ack true :: ms ∧ s.linkCarries d = true) ∧
    (∃ (s : State) (op : CfgOp), s.cfg.op = some op ∧ s.started = true ∧ op.waits ≠ [] ∧ op.selected = false ∧ op.sentAt + 4000000 ≤ s.now) :=
  ⟨⟨(wRun 100).setLink .p1 { up := [.ack true] }, .p1, [], by decide +kernel⟩,
   ⟨{ wRun 4000000 with cfg := { op := some { waits := [1] } } }, { waits := [1] }, by decide +kernel⟩⟩

theorem witness_LanternCommands :
    (∃ (s : State) (x : LanternRx) (b : List Byte), s.lanternBytes x = some b ∧ s.lanternGood b = false) ∧
    (∃ (s : State) (x : LanternRx) (b : List Byte), s.lanternBytes x = some b ∧ s.lanternGood b = true ∧ byteField b 1 1 % 64 = s.rd (Reg.CFG_BVER.NODE s.activeBank)) ∧
    (∃ (s : State) (x : LanternRx) (b : List Byte), s.lanternBytes x = some b ∧ s.lanternGood b = true ∧ byteField b 1 1 % 64 ≠ s.rd (Reg.CFG_BVER.NODE s.activeBank) ∧ (List.range s.img.peers.length).find? (fun i => (s.peer i).any (fun p => decide (p.node = byteField b 1 1 % 64))) = none) ∧
    (∃ (s : State) (x : LanternRx) (b : List Byte) (i : Nat) (p : PeerRec), s.lanternBytes x = some b ∧ s.lanternGood b = true ∧ byteField b 1 1 % 64 ≠ s.rd (Reg.CFG_BVER.NODE s.activeBank) ∧ (List.range s.img.peers.length).find? (fun i => (s.peer i).any (fun p => decide (p.node = byteField b 1 1 % 64))) = some i ∧ s.peer i = some p) ∧
    (∃ (s : State) (i : Nat) (p : PeerRec) (l : LanternSeen), s.peer i = some p ∧ s.seenOf p.node = some l ∧ s.started = true ∧ l.stamp + s.rd Reg.CFG_VID.VSILENT * 200000000 ≤ s.now ∧ s.rd (Reg.CFG_PEER.STATE i) ≠ 0) ∧
    (∃ (s : State), s.started = true ∧ s.veryaOn = true ∧ s.cfg.lanternTick < s.now / 200000000 * 200000000) :=
  ⟨⟨wVerya 1000, .can 1 (wLantern 2), (wLantern 2).data, by decide +kernel⟩,
   ⟨(wVerya 1000).wr (Reg.CFG_BVER.NODE 0) 5, .can 1 (wLantern 1), (wLantern 1).data, by decide +kernel⟩,
   ⟨wVerya 1000, .can 1 (wLantern 1), (wLantern 1).data, by decide +kernel⟩,
   ⟨{ wVerya 1000 with img := { peers := [wPeer] } }, .can 1 (wLantern 1), (wLantern 1).data, 0, wPeer, by decide +kernel⟩,
   ⟨{ (((wVerya 400000100).wr (Reg.CFG_PEER.STATE 0) 1).wr Reg.CFG_VID.VSILENT 2) with
    img := { peers := [wPeer] }, cfg := { seen := [(5, some { stamp := 100, gen := 1, version := 2, digest := 3 })] } }, 0, wPeer, { stamp := 100, gen := 1, version := 2, digest := 3 }, by decide +kernel⟩,
   ⟨wVerya 200000000, by decide +kernel⟩⟩

theorem witness_CelperArithmeticResults_1 :
    (∃ (s : State) (k : CoreId) (d a b : Nat), issues s k (encR 0x01 d a b) [d, a, b] 1 = true ∧ d < 32 ∧ a < 32 ∧ b < 32 ∧ s.leaves k ((issued s k 1).setG d ((issued s k 1).g a + (issued s k 1).g b)) .seq = false) ∧
    (∃ (s : State) (k : CoreId) (d a b : Nat), issues s k (encR 0x02 d a b) [d, a, b] 1 = true ∧ d < 32 ∧ a < 32 ∧ b < 32 ∧ s.leaves k ((issued s k 1).setG d ((issued s k 1).g a - (issued s k 1).g b)) .seq = false) ∧
    (∃ (s : State) (k : CoreId) (d a b : Nat), issues s k (encR 0x03 d a b) [d, a, b] 1 = true ∧ d < 32 ∧ a < 32 ∧ b < 32 ∧ s.leaves k ((issued s k 1).setG d ((issued s k 1).g a &&& (issued s k 1).g b)) .seq = false) ∧
    (∃ (s : State) (k : CoreId) (d a b : Nat), issues s k (encR 0x04 d a b) [d, a, b] 1 = true ∧ d < 32 ∧ a < 32 ∧ b < 32 ∧ s.leaves k ((issued s k 1).setG d ((issued s k 1).g a ||| (issued s k 1).g b)) .seq = false) ∧
    (∃ (s : State) (k : CoreId) (d a b : Nat), issues s k (encR 0x05 d a b) [d, a, b] 1 = true ∧ d < 32 ∧ a < 32 ∧ b < 32 ∧ s.leaves k ((issued s k 1).setG d ((issued s k 1).g a ^^^ (issued s k 1).g b)) .seq = false) ∧
    (∃ (s : State) (k : CoreId) (d a b : Nat), issues s k (encR 0x06 d a b) [d, a, b] 1 = true ∧ d < 32 ∧ a < 32 ∧ b < 32 ∧ s.leaves k ((issued s k 1).setG d (((issued s k 1).g a) <<< shamt ((issued s k 1).g b))) .seq = false) :=
  ⟨⟨wCel (encR 0x01 3 1 2) 100 7, .reflex 2, 3, 1, 2, by decide +kernel⟩,
   ⟨wCel (encR 0x02 3 1 2) 100 7, .reflex 2, 3, 1, 2, by decide +kernel⟩,
   ⟨wCel (encR 0x03 3 1 2) 100 7, .reflex 2, 3, 1, 2, by decide +kernel⟩,
   ⟨wCel (encR 0x04 3 1 2) 100 7, .reflex 2, 3, 1, 2, by decide +kernel⟩,
   ⟨wCel (encR 0x05 3 1 2) 100 7, .reflex 2, 3, 1, 2, by decide +kernel⟩,
   ⟨wCel (encR 0x06 3 1 2) 100 7, .reflex 2, 3, 1, 2, by decide +kernel⟩⟩

theorem witness_CelperArithmeticResults_2 :
    (∃ (s : State) (k : CoreId) (d a b : Nat), issues s k (encR 0x07 d a b) [d, a, b] 1 = true ∧ d < 32 ∧ a < 32 ∧ b < 32 ∧ s.leaves k ((issued s k 1).setG d (((issued s k 1).g a) >>> shamt ((issued s k 1).g b))) .seq = false) ∧
    (∃ (s : State) (k : CoreId) (d a b : Nat), issues s k (encR 0x08 d a b) [d, a, b] 1 = true ∧ d < 32 ∧ a < 32 ∧ b < 32 ∧ s.leaves k ((issued s k 1).setG d (((issued s k 1).g a).sshiftRight (shamt ((issued s k 1).g b)))) .seq = false) ∧
    (∃ (s : State) (k : CoreId) (d a b : Nat), issues s k (encR 0x09 d a b) [d, a, b] 1 = true ∧ d < 32 ∧ a < 32 ∧ b < 32 ∧ s.leaves k ((issued s k 1).setG d (bit32 (decide (((issued s k 1).g a).toInt < ((issued s k 1).g b).toInt)))) .seq = false) ∧
    (∃ (s : State) (k : CoreId) (d a b : Nat), issues s k (encR 0x0A d a b) [d, a, b] 1 = true ∧ d < 32 ∧ a < 32 ∧ b < 32 ∧ s.leaves k ((issued s k 1).setG d (bit32 (decide (((issued s k 1).g a).toNat < ((issued s k 1).g b).toNat)))) .seq = false) ∧
    (∃ (s : State) (k : CoreId) (d a : Nat) (imm : BitVec 16), issues s k (encI 0x10 d a imm.toNat) [d, a] 1 = true ∧ d < 32 ∧ a < 32 ∧ s.leaves k ((issued s k 1).setG d ((issued s k 1).g a + sx16 imm)) .seq = false) ∧
    (∃ (s : State) (k : CoreId) (d a : Nat) (imm : BitVec 16), issues s k (encI 0x11 d a imm.toNat) [d, a] 1 = true ∧ d < 32 ∧ a < 32 ∧ s.leaves k ((issued s k 1).setG d ((issued s k 1).g a &&& zx16 imm)) .seq = false) :=
  ⟨⟨wCel (encR 0x07 3 1 2) 100 7, .reflex 2, 3, 1, 2, by decide +kernel⟩,
   ⟨wCel (encR 0x08 3 1 2) 100 7, .reflex 2, 3, 1, 2, by decide +kernel⟩,
   ⟨wCel (encR 0x09 3 1 2) 100 7, .reflex 2, 3, 1, 2, by decide +kernel⟩,
   ⟨wCel (encR 0x0A 3 1 2) 100 7, .reflex 2, 3, 1, 2, by decide +kernel⟩,
   ⟨wCel (encI 0x10 3 1 (0xFFFE#16).toNat) 100 7, .reflex 2, 3, 1, 0xFFFE#16, by decide +kernel⟩,
   ⟨wCel (encI 0x11 3 1 (0xFFFE#16).toNat) 100 7, .reflex 2, 3, 1, 0xFFFE#16, by decide +kernel⟩⟩

theorem witness_CelperArithmeticResults_3 :
    (∃ (s : State) (k : CoreId) (d a : Nat) (imm : BitVec 16), issues s k (encI 0x12 d a imm.toNat) [d, a] 1 = true ∧ d < 32 ∧ a < 32 ∧ s.leaves k ((issued s k 1).setG d ((issued s k 1).g a ||| zx16 imm)) .seq = false) ∧
    (∃ (s : State) (k : CoreId) (d a : Nat) (imm : BitVec 16), issues s k (encI 0x13 d a imm.toNat) [d, a] 1 = true ∧ d < 32 ∧ a < 32 ∧ s.leaves k ((issued s k 1).setG d ((issued s k 1).g a ^^^ zx16 imm)) .seq = false) ∧
    (∃ (s : State) (k : CoreId) (d a : Nat) (imm : BitVec 16), issues s k (encI 0x18 d a imm.toNat) [d, a] 1 = true ∧ d < 32 ∧ a < 32 ∧ s.leaves k ((issued s k 1).setG d (bit32 (decide (((issued s k 1).g a).toInt < (sx16 imm).toInt)))) .seq = false) ∧
    (∃ (s : State) (k : CoreId) (d : Nat) (imm : BitVec 16), issues s k (encI 0x17 d 0 imm.toNat) [d, 0] 1 = true ∧ d < 32 ∧ s.leaves k ((issued s k 1).setG d (zx16 imm <<< 16)) .seq = false) ∧
    (∃ (s : State) (k : CoreId) (d a : Nat) (imm : BitVec 16), issues s k (encI 0x14 d a imm.toNat) [d, a] 1 = true ∧ d < 32 ∧ a < 32 ∧ imm.toNat ≤ 31 ∧ s.leaves k ((issued s k 1).setG d (((issued s k 1).g a) <<< imm.toNat)) .seq = false) ∧
    (∃ (s : State) (k : CoreId) (d a : Nat) (imm : BitVec 16), issues s k (encI 0x15 d a imm.toNat) [d, a] 1 = true ∧ d < 32 ∧ a < 32 ∧ imm.toNat ≤ 31 ∧ s.leaves k ((issued s k 1).setG d (((issued s k 1).g a) >>> imm.toNat)) .seq = false) :=
  ⟨⟨wCel (encI 0x12 3 1 (0xFFFE#16).toNat) 100 7, .reflex 2, 3, 1, 0xFFFE#16, by decide +kernel⟩,
   ⟨wCel (encI 0x13 3 1 (0xFFFE#16).toNat) 100 7, .reflex 2, 3, 1, 0xFFFE#16, by decide +kernel⟩,
   ⟨wCel (encI 0x18 3 1 (0xFFFE#16).toNat) 100 7, .reflex 2, 3, 1, 0xFFFE#16, by decide +kernel⟩,
   ⟨wCel (encI 0x17 3 0 (0xFFFE#16).toNat) 100 7, .reflex 2, 3, 0xFFFE#16, by decide +kernel⟩,
   ⟨wCel (encI 0x14 3 1 (31#16).toNat) 100 7, .reflex 2, 3, 1, 31#16, by decide +kernel⟩,
   ⟨wCel (encI 0x15 3 1 (31#16).toNat) 100 7, .reflex 2, 3, 1, 31#16, by decide +kernel⟩⟩

theorem witness_CelperArithmeticResults_4 :
    (∃ (s : State) (k : CoreId) (d a : Nat) (imm : BitVec 16), issues s k (encI 0x16 d a imm.toNat) [d, a] 1 = true ∧ d < 32 ∧ a < 32 ∧ imm.toNat ≤ 31 ∧ s.leaves k ((issued s k 1).setG d (((issued s k 1).g a).sshiftRight imm.toNat)) .seq = false) ∧
    (∃ (s : State) (k : CoreId) (a b : Nat), issues s k (encR 0x20 0 a b) [a, b] 1 = true ∧ a < 32 ∧ b < 32 ∧ s.leaves k { (issued s k 1) with prods := (issued s k 1).prods ++ [{ due := (issued s k 1).cyc + 3, adds := false, value := BitVec.ofInt 64 (((issued s k 1).g a).toInt * ((issued s k 1).g b).toInt) }] } .seq = false) ∧
    (∃ (s : State) (k : CoreId) (a b : Nat), issues s k (encR 0x21 0 a b) [a, b] 1 = true ∧ a < 32 ∧ b < 32 ∧ s.leaves k { (issued s k 1) with prods := (issued s k 1).prods ++ [{ due := (issued s k 1).cyc + 3, adds := false, value := BitVec.ofNat 64 (((issued s k 1).g a).toNat * ((issued s k 1).g b).toNat) }] } .seq = false) ∧
    (∃ (s : State) (k : CoreId) (a b : Nat), issues s k (encR 0x22 0 a b) [a, b] 1 = true ∧ a < 32 ∧ b < 32 ∧ s.leaves k { (issued s k 1) with prods := (issued s k 1).prods ++ [{ due := (issued s k 1).cyc + 3, adds := true, value := BitVec.ofInt 64 (((issued s k 1).g a).toInt * ((issued s k 1).g b).toInt) }] } .seq = false) ∧
    (∃ (s : State) (k : CoreId), CoreId.exists k = true ∧ (s.celAt (celIdx k)).running = true) ∧
    (∃ (s : State) (k : CoreId) (d sp : Nat) (v : W32), issues s k (encI 0x23 d 0 sp) [d] 1 = true ∧ d < 32 ∧ sp < 65536 ∧ s.special k (issued s k 1) sp = some v ∧ s.leaves k ((issued s k 1).setG d v) .seq = false) :=
  ⟨⟨wCel (encI 0x16 3 1 (31#16).toNat) 100 7, .reflex 2, 3, 1, 31#16, by decide +kernel⟩,
   ⟨wCel (encR 0x20 0 1 2) 100 7, .reflex 2, 1, 2, by decide +kernel⟩,
   ⟨wCel (encR 0x21 0 1 2) 100 7, .reflex 2, 1, 2, by decide +kernel⟩,
   ⟨wCel (encR 0x22 0 1 2) 100 7, .reflex 2, 1, 2, by decide +kernel⟩,
   ⟨wCel 0 1 2, .reflex 2, by decide +kernel⟩,
   ⟨wCel (encI 0x23 3 0 5) 100 7, .reflex 2, 3, 5, 0#32, by decide +kernel⟩⟩

theorem witness_CelperArithmeticResults_5 :
    (∃ (s : State) (k : CoreId) (sp a : Nat) (y : Cel), issues s k (encI 0x24 0 a sp) [a] 1 = true ∧ a < 32 ∧ sp < 65536 ∧ (issued s k 1).setSpecial sp ((issued s k 1).g a) = some y ∧ s.leaves k y .seq = false) :=
  ⟨wCel (encI 0x24 0 1 0) 100 7, .reflex 2, 0, 1, ((issued (wCel (encI 0x24 0 1 0) 100 7) (.reflex 2) 1).setSpecial 0 100#32).getD {}, by decide +kernel⟩

theorem witness_CelperMemoryAndLedgerResults_1 :
    (∃ (s : State) (k : CoreId) (d a n : Nat) (imm : BitVec 16), issues s k (encI 0x28 d a imm.toNat) [d, a] 1 = true ∧ d < 32 ∧ a < 32 ∧ localAddr ((issued s k 1).g a) imm = some n ∧ s.leaves k ((issued s k 1).setG d (SMap.get (fun _ => 0#32) (issued s k 1).mem (n / 4))) .seq = false) ∧
    (∃ (s : State) (k : CoreId) (d a n : Nat) (imm : BitVec 16), issues s k (encI 0x29 d a imm.toNat) [d, a] 1 = true ∧ d < 32 ∧ a < 32 ∧ localAddr ((issued s k 1).g a) imm = some n ∧ s.leaves k { (issued s k 1) with mem := SMap.set (fun _ => 0#32) (issued s k 1).mem (n / 4) ((issued s k 1).g d) } .seq = false) ∧
    (∃ (s : State) (k : CoreId) (d port : Nat), issues s k (encI 0x2E d 0 port) [d] 1 = true ∧ d < 32 ∧ port < 65536 ∧ s.leaves k (issued s k 1) .seq = false) ∧
    (∃ (s : State) (k : CoreId) (a port : Nat), issues s k (encI 0x2F 0 a port) [a] 1 = true ∧ a < 32 ∧ port < 65536 ∧ s.leaves k { (issued s k 1) with ports := SMap.set (fun _ => 0#32) (issued s k 1).ports (port % 256) ((issued s k 1).g a) } .seq = false) ∧
    (∃ (s : State) (k : CoreId) (d index : Nat) (w : Attr), issues s k (encX 0x30 d index) [d] 2 = true ∧ d < 32 ∧ index < 131072 ∧ s.attr (index) = some w ∧ s.leaves k { (issued s k 2).setG d ((s.snap index).value.setWidth 32) with lstat := s.lstatOf w index } .seq = false) ∧
    (∃ (s : State) (k : CoreId) (d a : Nat) (w : Attr), issues s k (encR 0x32 d a 0) [d, a] 2 = true ∧ d < 32 ∧ a < 32 ∧ s.attr (((issued s k 2).g a).toNat) = some w ∧ s.leaves k { (issued s k 2).setG d ((s.snap (((issued s k 2).g a).toNat)).value.setWidth 32) with lstat := s.lstatOf w (((issued s k 2).g a).toNat) } .seq = false) :=
  ⟨⟨wCel (encI 0x28 3 1 (4#16).toNat) 100 7, .reflex 2, 3, 1, 104, 4#16, by decide +kernel⟩,
   ⟨wCel (encI 0x29 3 1 (4#16).toNat) 100 7, .reflex 2, 3, 1, 104, 4#16, by decide +kernel⟩,
   ⟨wSeq 0 0, .bridge 0, 3, 5, by decide +kernel⟩,
   ⟨wSeq 0 0, .bridge 0, 1, 5, by decide +kernel⟩,
   ⟨{ wCel (encX 0x30 3 1024) 1024 0 with img := { (wCel (encX 0x30 3 1024) 1024 0).img with regs := [((Reg.CH_CFG.ENABLE 0).off, 1#32)] } }, .reflex 2, 3, 1024, { freshint := 0, kind := 0, width := 32, owner := Owner.program, bloblen := 2 }, by decide +kernel⟩,
   ⟨{ wCel (encR 0x32 3 1 0) 1024 0 with img := { (wCel (encR 0x32 3 1 0) 1024 0).img with regs := [((Reg.CH_CFG.ENABLE 0).off, 1#32)] } }, .reflex 2, 3, 1, { freshint := 0, kind := 0, width := 32, owner := Owner.program, bloblen := 2 }, by decide +kernel⟩⟩

theorem witness_CelperMemoryAndLedgerResults_2 :
    (∃ (s : State) (k : CoreId) (d index : Nat) (w : Attr), issues s k (encX 0x31 d index) [d] 4 = true ∧ index < 131072 ∧ d % 4 = 0 ∧ d ≠ 0 ∧ d ≤ 28 ∧ s.attr (index) = some w ∧ s.leaves k { ((((issued s k 4).setG d ((s.snap index).value.setWidth 32)).setG (d + 1) (((s.snap index).value >>> 32).setWidth 32)).setG (d + 2) (BitVec.ofNat 32 (s.ageOf index))).setG
        (d + 3) (BitVec.ofNat 32 ((s.snapState index).code + 4 * w.kind + 65536 * ((s.snap index).ucount % 65536))) with lstat := s.lstatOf w index } .seq = false) ∧
    (∃ (s : State) (k : CoreId) (d a : Nat) (w : Attr), issues s k (encR 0x33 d a 0) [d, a] 4 = true ∧ a < 32 ∧ d % 4 = 0 ∧ d ≠ 0 ∧ d ≤ 28 ∧ s.attr (((issued s k 4).g a).toNat) = some w ∧ s.leaves k { ((((issued s k 4).setG d ((s.snap (((issued s k 4).g a).toNat)).value.setWidth 32)).setG (d + 1) (((s.snap (((issued s k 4).g a).toNat)).value >>> 32).setWidth 32)).setG (d + 2) (BitVec.ofNat 32 (s.ageOf (((issued s k 4).g a).toNat)))).setG
        (d + 3) (BitVec.ofNat 32 ((s.snapState (((issued s k 4).g a).toNat)).code + 4 * w.kind + 65536 * ((s.snap (((issued s k 4).g a).toNat)).ucount % 65536))) with lstat := s.lstatOf w (((issued s k 4).g a).toNat) } .seq = false) ∧
    (∃ (s : State) (k : CoreId) (d a b : Nat) (w : Attr), issues s k (encR 0x34 d a b) [d, a, b] 2 = true ∧ d < 32 ∧ a < 32 ∧ b < 32 ∧ s.attr (((issued s k 2).g a).toNat) = some w ∧ w.kind = 3 ∧ ((issued s k 2).g b).toNat % 4 = 0 ∧ s.leaves k { (issued s k 2).setG d (BitVec.ofNat 32 (byteField (s.snap (((issued s k 2).g a).toNat)).bytes (((issued s k 2).g b).toNat) 4)) with lstat := s.lstatOf w (((issued s k 2).g a).toNat) } .seq = false) ∧
    (∃ (s : State) (k : CoreId) (d index : Nat) (w : Attr), issues s k (encX 0x35 d index) [d] 2 = true ∧ d < 32 ∧ index < 131072 ∧ s.attr (index) = some w ∧ w.kind ≠ 3 ∧ (s.img.progAt (issued s k 2).prog).targets.contains (index) = true ∧ ((w.kind < 2 → 32 < w.width → d ≠ 31)) ∧ valueFits w (stagedValue w (issued s k 2) d) = true ∧ s.leaves k (issued s k 2) .seq = false) ∧
    (∃ (s : State) (k : CoreId) (d a : Nat) (w : Attr), issues s k (encR 0x36 d a 0) [d, a] 2 = true ∧ d < 32 ∧ a < 32 ∧ s.attr (((issued s k 2).g a).toNat) = some w ∧ w.kind ≠ 3 ∧ (s.img.progAt (issued s k 2).prog).targets.contains (((issued s k 2).g a).toNat) = true ∧ ((w.kind < 2 → 32 < w.width → d ≠ 31)) ∧ valueFits w (stagedValue w (issued s k 2) d) = true ∧ s.leaves k (issued s k 2) .seq = false) :=
  ⟨⟨{ wCel (encX 0x31 4 1024) 1024 0 with img := { (wCel (encX 0x31 4 1024) 1024 0).img with regs := [((Reg.CH_CFG.ENABLE 0).off, 1#32)] } }, .reflex 2, 4, 1024, { freshint := 0, kind := 0, width := 32, owner := Owner.program, bloblen := 2 }, by decide +kernel⟩,
   ⟨{ wCel (encR 0x33 4 1 0) 1024 0 with img := { (wCel (encR 0x33 4 1 0) 1024 0).img with regs := [((Reg.CH_CFG.ENABLE 0).off, 1#32)] } }, .reflex 2, 4, 1, { freshint := 0, kind := 0, width := 32, owner := Owner.program, bloblen := 2 }, by decide +kernel⟩,
   ⟨wBlob (encR 0x34 3 1 2) 0x4000 0, .reflex 2, 3, 1, 2, { kind := 3, bloblen := 4 }, by decide +kernel⟩,
   ⟨{ wCel (encX 0x35 3 1024) 1024 0 with img := { (wCel (encX 0x35 3 1024) 1024 0).img with regs := [((Reg.CH_CFG.ENABLE 0).off, 1#32)] } }, .reflex 2, 3, 1024, { freshint := 0, kind := 0, width := 32, owner := Owner.program, bloblen := 2 }, by decide +kernel⟩,
   ⟨{ wCel (encR 0x36 3 1 0) 1024 0 with img := { (wCel (encR 0x36 3 1 0) 1024 0).img with regs := [((Reg.CH_CFG.ENABLE 0).off, 1#32)] } }, .reflex 2, 3, 1, { freshint := 0, kind := 0, width := 32, owner := Owner.program, bloblen := 2 }, by decide +kernel⟩⟩

theorem witness_CelperFlowResults_1 :
    (∃ (s : State) (k : CoreId), issues s k (encZ 0x0C 0) [] 1 = true ∧ s.leaves k (issued s k 1) .seq = false) ∧
    (∃ (s : State) (k : CoreId), issues s k (encZ 0x0D 0) [] 1 = true) ∧
    (∃ (s : State) (k : CoreId) (a b cond : Nat) (off : BitVec 13), issues s k (encC 0x2C a b cond off.toNat) [a, b] 2 = true ∧ a < 32 ∧ b < 32 ∧ cond < 8 ∧ condHolds cond ((s.celAt (celIdx k)).g a) ((s.celAt (celIdx k)).g b) = some true ∧ s.leaves k (issued s k 2) (.branch (((issued s k 2).pc : Int) + 1 + off.toInt)) = false) ∧
    (∃ (s : State) (k : CoreId) (a b cond : Nat) (off : BitVec 13), issues s k (encC 0x2C a b cond off.toNat) [a, b] 1 = true ∧ a < 32 ∧ b < 32 ∧ cond < 8 ∧ condHolds cond ((s.celAt (celIdx k)).g a) ((s.celAt (celIdx k)).g b) = some false ∧ s.leaves k (issued s k 1) .seq = false) ∧
    (∃ (s : State) (k : CoreId) (off : BitVec 26), issues s k (encJ 0x38 off.toNat) [] 2 = true ∧ s.leaves k (issued s k 2) (.branch (((issued s k 2).pc : Int) + 1 + off.toInt)) = false) ∧
    (∃ (s : State) (k : CoreId) (off : BitVec 26), issues s k (encJ 0x39 off.toNat) [] 2 = true ∧ s.leaves k ((issued s k 2).setG (if CoreId.isL k then 31 else 15) (BitVec.ofNat 32 ((issued s k 2).pc + 1))) (.jump (((issued s k 2).pc : Int) + 1 + off.toInt)) = false) :=
  ⟨⟨wCel (encZ 0x0C 0) 100 7, .reflex 2, by decide +kernel⟩,
   ⟨wCel (encZ 0x0D 0) 100 7, .reflex 2, by decide +kernel⟩,
   ⟨wSeq 5 9, .bridge 0, 1, 2, 1, 3#13, by decide +kernel⟩,
   ⟨wSeq 5 9, .bridge 0, 1, 2, 0, 3#13, by decide +kernel⟩,
   ⟨wCel (encJ 0x38 (3#26).toNat) 100 7, .reflex 2, 3#26, by decide +kernel⟩,
   ⟨wCel (encJ 0x39 (3#26).toNat) 100 7, .reflex 2, 3#26, by decide +kernel⟩⟩

theorem witness_CelperFlowResults_2 :
    (∃ (s : State) (k : CoreId) (a : Nat), issues s k (encR 0x3A 0 a 0) [a] 2 = true ∧ a < 32 ∧ s.leaves k (issued s k 2) (.jump (((issued s k 2).g a).toNat : Int)) = false) ∧
    (∃ (s : State) (k : CoreId) (a b cond : Nat), issues s k (encC 0x3B a b cond 0) [a, b] 1 = true ∧ a < 32 ∧ b < 32 ∧ cond < 8 ∧ condHolds cond ((issued s k 1).g a) ((issued s k 1).g b) = some true ∧ s.leaves k (issued s k 1) (.skip) = false) ∧
    (∃ (s : State) (k : CoreId) (a b cond : Nat), issues s k (encC 0x3B a b cond 0) [a, b] 1 = true ∧ a < 32 ∧ b < 32 ∧ cond < 8 ∧ condHolds cond ((issued s k 1).g a) ((issued s k 1).g b) = some false ∧ s.leaves k (issued s k 1) .seq = false) ∧
    (∃ (s : State) (k : CoreId) (a cond : Nat) (imm : BitVec 16), issues s k (encCI 0x3C a cond imm.toNat) [a] 1 = true ∧ a < 32 ∧ cond < 8 ∧ condHolds cond ((issued s k 1).g a) (sx16 imm) = some true ∧ s.leaves k (issued s k 1) (.skip) = false) ∧
    (∃ (s : State) (k : CoreId) (a cond : Nat) (imm : BitVec 16), issues s k (encCI 0x3C a cond imm.toNat) [a] 1 = true ∧ a < 32 ∧ cond < 8 ∧ condHolds cond ((issued s k 1).g a) (sx16 imm) = some false ∧ s.leaves k (issued s k 1) .seq = false) ∧
    (∃ (s : State) (k : CoreId) (mask : BitVec 4), issues s k (encZ 0x3D mask.toNat) [] 1 = true ∧ bitOf mask.toNat ((issued s k 1).lstat.toNat % 4) = true ∧ s.leaves k (issued s k 1) (.skip) = false) :=
  ⟨⟨wCel (encR 0x3A 0 1 0) 4 0, .reflex 2, 1, by decide +kernel⟩,
   ⟨wCel (encC 0x3B 1 2 1 0) 100 7, .reflex 2, 1, 2, 1, by decide +kernel⟩,
   ⟨wCel (encC 0x3B 1 2 0 0) 100 7, .reflex 2, 1, 2, 0, by decide +kernel⟩,
   ⟨wCel (encCI 0x3C 1 1 (9#16).toNat) 100 7, .reflex 2, 1, 1, 9#16, by decide +kernel⟩,
   ⟨wCel (encCI 0x3C 1 0 (9#16).toNat) 100 7, .reflex 2, 1, 0, 9#16, by decide +kernel⟩,
   ⟨wCel (encZ 0x3D (1#4).toNat) 100 7, .reflex 2, 1#4, by decide +kernel⟩⟩

theorem witness_CelperFlowResults_3 :
    (∃ (s : State) (k : CoreId) (mask : BitVec 4), issues s k (encZ 0x3D mask.toNat) [] 1 = true ∧ bitOf mask.toNat ((issued s k 1).lstat.toNat % 4) = false ∧ s.leaves k (issued s k 1) .seq = false) ∧
    (∃ (s : State) (k : CoreId) (a : Nat) (n : BitVec 16), issues s k (encLP 0x3E a n.toNat) [a] 1 = true ∧ a < 32 ∧ (issued s k 1).g a ≠ 0#32 ∧ (issued s k 1).loops = [] ∧ s.inCode k (((issued s k 1).pc + 1 + n.toNat : Nat) : Int) = true ∧ s.leaves k (issued s k 1) (.push { ls := (issued s k 1).pc + 1, le := (issued s k 1).pc + 1 + n.toNat, lc := (issued s k 1).g a }) = false) ∧
    (∃ (s : State) (k : CoreId) (a : Nat) (n : BitVec 16), issues s k (encLP 0x3E a n.toNat) [a] 1 = true ∧ a < 32 ∧ (issued s k 1).g a = 0#32 ∧ (issued s k 1).loops = [] ∧ s.inCode k (((issued s k 1).pc + 1 + n.toNat : Nat) : Int) = true ∧ s.leaves k (issued s k 1) (.jump ((((issued s k 1).pc + 1 + n.toNat : Nat) : Int) + 1)) = false) ∧
    (∃ (s : State) (k : CoreId) (cnt : BitVec 12) (n : BitVec 14), issues s k (encLPI 0x3F cnt.toNat n.toNat) [] 1 = true ∧ cnt.setWidth 32 ≠ 0#32 ∧ (issued s k 1).loops = [] ∧ s.inCode k (((issued s k 1).pc + 1 + n.toNat : Nat) : Int) = true ∧ s.leaves k (issued s k 1) (.push { ls := (issued s k 1).pc + 1, le := (issued s k 1).pc + 1 + n.toNat, lc := cnt.setWidth 32 }) = false) ∧
    (∃ (s : State) (k : CoreId) (cnt : BitVec 12) (n : BitVec 14), issues s k (encLPI 0x3F cnt.toNat n.toNat) [] 1 = true ∧ cnt.setWidth 32 = 0#32 ∧ (issued s k 1).loops = [] ∧ s.inCode k (((issued s k 1).pc + 1 + n.toNat : Nat) : Int) = true ∧ s.leaves k (issued s k 1) (.jump ((((issued s k 1).pc + 1 + n.toNat : Nat) : Int) + 1)) = false) ∧
    (∃ (s : State) (c : Nat), c < 8 ∧ (s.celAt c).running = true ∧ s.exceeds (.reflex c) (if (s.celAt c).skip then 1 else wordCost (s.codeWord c)) = true) :=
  ⟨⟨wCel (encZ 0x3D (2#4).toNat) 100 7, .reflex 2, 2#4, by decide +kernel⟩,
   ⟨wCel (encLP 0x3E 1 (3#16).toNat) 100 7, .reflex 2, 1, 3#16, by decide +kernel⟩,
   ⟨wCel (encLP 0x3E 1 (3#16).toNat) 0 0, .reflex 2, 1, 3#16, by decide +kernel⟩,
   ⟨wCel (encLPI 0x3F (9#12).toNat (3#14).toNat) 100 7, .reflex 2, 9#12, 3#14, by decide +kernel⟩,
   ⟨wCel (encLPI 0x3F (0#12).toNat (3#14).toNat) 100 7, .reflex 2, 0#12, 3#14, by decide +kernel⟩,
   ⟨{ wCel (encZ 0x0C 0) 0 0 with cel := [(2, { running := true, cyc := 50 })] }, 2, by decide +kernel⟩⟩

theorem witness_StepRunsFrontCommand :
    (∃ (c : Instr) (rest : List Instr) (s : State), s.pending = c :: rest) ∧
    (∃ s : State, s.pending = []) :=
  ⟨⟨.opsecTick, [.eventRecord], { State.reset with pending := [.opsecTick, .eventRecord] }, rfl⟩,
   ⟨State.reset, rfl⟩⟩

theorem witness_ResetRegisterValues :
    (∃ (off : Nat) (r : RegRow), regRow off = some r) :=
  ⟨4104, wRow 4104, by decide +kernel⟩

theorem witness_OneTimeCountsOnlyAdvance :
    (∃ s t : State, OtpLegal s ∧ step s = .next t) :=
  ⟨State.reset, State.reset.clockTick, ⟨by decide, by decide, by decide, fun _ => Nat.zero_le _⟩, rfl⟩

theorem witness_RegisterFileStaysCanonical :
    (∃ s t : State, RegsCanonical s ∧ step s = .next t) :=
  ⟨wRun 100, (wRun 100).clockTick, by unfold RegsCanonical; decide +kernel, rfl⟩

theorem witness_FieldWriteAndRead :
    (∃ (s : State) (f : Fld) (v : Nat), RegsCanonical s ∧ f.lo + f.w ≤ 32) :=
  ⟨wRun 100, Reg.CRY_SLOT.EPOCH 3, 70000, by unfold RegsCanonical; decide +kernel, by decide⟩

theorem witness_BankBytesWriteAndRead :
    (∃ (m : SMap Byte) (off : Nat) (bs : List Byte), Memory.wf m = true ∧ bs ≠ []) ∧
    (∃ (s u : State) (t : Nat) (x : ReadResult), Memory.wf s.cfg.bytesA = true ∧ Memory.wf s.cfg.bytesB = true ∧ exec (.cfgWrite t x) s = .next u) :=
  ⟨⟨[(5, 7#8)], 4, [0#8, 0#8, 9#8], by decide +kernel⟩,
   ⟨State.reset, _, 1, .data [], by decide +kernel, by decide +kernel, rfl⟩⟩

theorem witness_LedgerOrderDoesNotMatter :
    (∃ (e : Entry) (f t : Nat) (u v : Upd), u.kind ≠ .invalid ∧ v.kind ≠ .invalid ∧ u.key ≠ v.key ∧ (e.apply f u t).apply f v t = (e.apply f v t).apply f u t) :=
  ⟨{}, 0, 5000, { idx := 0x10, value := 5#64, stamp := 4900, src := 2 }, { idx := 0x10, value := 6#64, stamp := 4800, src := 2 }, by decide +kernel⟩

theorem witness_SupersededUpdate :
    (∃ (s : State) (a : Attr) (u : Upd), s.attr u.idx = some a ∧ a.owner = u.own ∧ s.unfed u.idx = false ∧ a.kind ≠ 3 ∧ s.lateStamp u.stamp = false ∧ u.key.gt (s.live u.idx).key = false ∧ (s.live u.idx).stateAt s.now = (s.live u.idx).state) :=
  ⟨{ wRun 5000 with led := { live := [(0x10, { key := { stamp := 4950, cls := 0, who := 2, pos := 0 } })] } }, { freshint := 80000, kind := 0, width := 32, owner := .unit }, { idx := 0x10, value := 5#64, stamp := 4900, src := 2 }, by decide +kernel⟩

theorem witness_RecorderClear :
    (∃ (s : State) (t : Nat) (o : HostOp), s.opReady t 0x5A = some o ∧ s.otp.life ≠ 0) ∧
    (∃ (s : State) (t : Nat) (o : HostOp), s.opReady t 0x5A = some o ∧ s.otp.life = 0 ∧ RegsCanonical s) :=
  ⟨⟨{ wOp 0x5A [] with otp := { life := 1 } }, 1, wHostOp 0x5A [], by decide +kernel⟩,
   ⟨wOp 0x5A [], 1, wHostOp 0x5A [], by decide +kernel, by decide +kernel, by unfold RegsCanonical; decide +kernel⟩⟩

theorem witness_CompareAndBranch :
    (∃ (s : State) (k : CoreId) (a b cond : Nat) (off : BitVec 13), CoreId.isL k = false ∧ issues s k (encC 0x2C a b cond off.toNat) [a, b] 2 = true ∧ condHolds cond ((s.celAt (celIdx k)).g a) ((s.celAt (celIdx k)).g b) = some true) ∧
    (∃ (s : State) (k : CoreId) (a b cond : Nat) (off : BitVec 13), CoreId.isL k = false ∧ issues s k (encC 0x2C a b cond off.toNat) [a, b] 1 = true ∧ condHolds cond ((s.celAt (celIdx k)).g a) ((s.celAt (celIdx k)).g b) = some false ∧ s.leaves k (issued s k 1) .seq = false) :=
  ⟨⟨wSeq 5 9, .bridge 0, 1, 2, 1, 3#13, by decide +kernel⟩,
   ⟨wSeq 5 9, .bridge 0, 1, 2, 0, 3#13, by decide +kernel⟩⟩

theorem witness_RetiredRefusesConfiguration_1 :
    (∃ (s : State) (t : Nat) (o : HostOp), s.otp.life = 2 ∧ s.opReady t 0x61 = some o) ∧
    (∃ (s : State) (t : Nat) (o : HostOp), s.otp.life = 2 ∧ s.opReady t 0x62 = some o) ∧
    (∃ (s : State) (t : Nat) (o : HostOp), s.otp.life = 2 ∧ s.opReady t 0x67 = some o) ∧
    (∃ (s : State) (t : Nat) (o : HostOp), s.otp.life = 2 ∧ s.opReady t 0x68 = some o) ∧
    (∃ (s : State) (t : Nat) (o : HostOp), s.otp.life = 2 ∧ s.opReady t 0x60 = some o ∧ (o.fld 20 4 % 4 = 0 ∧ 4 ≤ o.fld 32 4 ∧ o.fld 32 4 ≤ 65536 ∧ o.fld 32 4 % 4 = 0 ∧ o.fld 20 4 + o.fld 32 4 ≤ 2097152)) ∧
    (∃ (s : State) (t : Nat) (o : HostOp), s.otp.life = 2 ∧ s.opReady t 0x60 = some o ∧ (¬(o.fld 20 4 % 4 = 0 ∧ 4 ≤ o.fld 32 4 ∧ o.fld 32 4 ≤ 65536 ∧ o.fld 32 4 % 4 = 0 ∧ o.fld 20 4 + o.fld 32 4 ≤ 2097152))) :=
  ⟨⟨{ (wOp 0x61 []) with otp := { life := 2 } }, 1, wHostOp 0x61 [], by decide +kernel⟩,
   ⟨{ (wOp 0x62 []) with otp := { life := 2 } }, 1, wHostOp 0x62 [], by decide +kernel⟩,
   ⟨{ (wOp 0x67 []) with otp := { life := 2 } }, 1, wHostOp 0x67 [], by decide +kernel⟩,
   ⟨{ (wOp 0x68 []) with otp := { life := 2 } }, 1, wHostOp 0x68 [], by decide +kernel⟩,
   ⟨{ (wOp 0x60 [0, 0, 0, 0, 0, 0, 0, 0, 0, 0, 0, 0, 0, 0, 0, 0, 4]) with otp := { life := 2 } }, 1, wHostOp 0x60 [0, 0, 0, 0, 0, 0, 0, 0, 0, 0, 0, 0, 0, 0, 0, 0, 4], by decide +kernel⟩,
   ⟨{ (wOp 0x60 [4]) with otp := { life := 2 } }, 1, wHostOp 0x60 [4], by decide +kernel⟩⟩

theorem witness_RetiredRefusesConfiguration_2 :
    (∃ (s : State) (t : Nat) (o : HostOp), s.otp.life = 2 ∧ s.opReady t 0x64 = some o ∧ (s.hasBank = true ∧ s.otp.minver < o.fld 20 4 ∧ o.fld 20 4 ≤ s.rd (Reg.CFG_BVER.VERSION s.activeBank))) ∧
    (∃ (s : State) (t : Nat) (o : HostOp), s.otp.life = 2 ∧ s.opReady t 0x64 = some o ∧ (¬(s.hasBank = true ∧ s.otp.minver < o.fld 20 4 ∧ o.fld 20 4 ≤ s.rd (Reg.CFG_BVER.VERSION s.activeBank)))) ∧
    (∃ (s : State) (t : Nat) (o : HostOp), s.otp.life = 2 ∧ s.opReady t 0x65 = some o ∧ (o.fld 16 1 = s.otp.life + 1 ∧ o.fld 17 1 = 0xA5)) ∧
    (∃ (s : State) (t : Nat) (o : HostOp), s.otp.life = 2 ∧ s.opReady t 0x65 = some o ∧ (¬(o.fld 16 1 = s.otp.life + 1 ∧ o.fld 17 1 = 0xA5))) ∧
    (∃ (s : State) (t : Nat) (o : HostOp), s.otp.life = 2 ∧ s.opReady t 0x66 = some o ∧ (o.fld 16 1 ≤ 3 ∧ (o.fld 17 1 = 0xFF ∨ o.fld 17 1 < 64 ∧ s.rd (Reg.CRY_SLOT.STATE (o.fld 17 1)) = 1 ∧ bitOf (s.rd (Reg.CRY_SLOT.MODES (o.fld 17 1))) 4 = true))) ∧
    (∃ (s : State) (t : Nat) (o : HostOp), s.otp.life = 2 ∧ s.opReady t 0x66 = some o ∧ (¬(o.fld 16 1 ≤ 3 ∧ (o.fld 17 1 = 0xFF ∨ o.fld 17 1 < 64 ∧ s.rd (Reg.CRY_SLOT.STATE (o.fld 17 1)) = 1 ∧ bitOf (s.rd (Reg.CRY_SLOT.MODES (o.fld 17 1))) 4 = true)))) :=
  ⟨⟨{ (((wOp 0x64 [0, 0, 0, 0, 1]).wr Reg.CFG_STAT.AVALID 1).wr (Reg.CFG_BVER.VERSION 0) 1) with otp := { life := 2 } }, 1, wHostOp 0x64 [0, 0, 0, 0, 1], by decide +kernel⟩,
   ⟨{ (wOp 0x64 [4]) with otp := { life := 2 } }, 1, wHostOp 0x64 [4], by decide +kernel⟩,
   ⟨{ (wOp 0x65 [3, 165]) with otp := { life := 2 } }, 1, wHostOp 0x65 [3, 165], by decide +kernel⟩,
   ⟨{ (wOp 0x65 [4]) with otp := { life := 2 } }, 1, wHostOp 0x65 [4], by decide +kernel⟩,
   ⟨{ (wOp 0x66 [0, 255]) with otp := { life := 2 } }, 1, wHostOp 0x66 [0, 255], by decide +kernel⟩,
   ⟨{ (wOp 0x66 [4]) with otp := { life := 2 } }, 1, wHostOp 0x66 [4], by decide +kernel⟩⟩

theorem witness_SkippedInstruction :
    (∃ (s : State) (c : Nat) (k : CoreId) (y : Cel) (a b : Nat), k = .reflex c ∧ c < 8 ∧ (s.celAt c).running = true ∧ (s.celAt c).skip = true ∧ s.exceeds k 1 = false ∧ y = { issued s k 1 with skip := false } ∧ s.leaves k y .seq = false ∧ a < 32 ∧ b < 32 ∧ s.codeWord c = encR 0x20 0 a b) ∧
    (∃ (s : State) (c : Nat) (k : CoreId) (y : Cel) (a : Nat) (n : BitVec 16), k = .reflex c ∧ c < 8 ∧ (s.celAt c).running = true ∧ (s.celAt c).skip = true ∧ s.exceeds k 1 = false ∧ y = { issued s k 1 with skip := false } ∧ s.leaves k y .seq = false ∧ a < 32 ∧ s.codeWord c = encLP 0x3E a n.toNat) ∧
    (∃ (s : State) (c : Nat) (k : CoreId) (y : Cel) (off : BitVec 26), k = .reflex c ∧ c < 8 ∧ (s.celAt c).running = true ∧ (s.celAt c).skip = true ∧ s.exceeds k 1 = false ∧ y = { issued s k 1 with skip := false } ∧ s.leaves k y .seq = false ∧ 0 < 1 ∧ s.codeWord c = encJ 0x38 off.toNat) ∧
    (∃ (s : State) (c : Nat) (k : CoreId) (y : Cel) (z : Nat), k = .reflex c ∧ c < 8 ∧ (s.celAt c).running = true ∧ (s.celAt c).skip = true ∧ s.exceeds k 1 = false ∧ y = { issued s k 1 with skip := false } ∧ s.leaves k y .seq = false ∧ z = 0 ∧ s.codeWord c = encZ 0x0D 0) ∧
    (∃ (s : State) (c : Nat) (k : CoreId) (y : Cel) (d a : Nat) (imm : BitVec 16), k = .reflex c ∧ c < 8 ∧ (s.celAt c).running = true ∧ (s.celAt c).skip = true ∧ s.exceeds k 1 = false ∧ y = { issued s k 1 with skip := false } ∧ s.leaves k y .seq = false ∧ d < 32 ∧ a < 32 ∧ s.codeWord c = encI 0x29 d a imm.toNat) :=
  ⟨⟨{ wCel (encR 0x20 0 1 2) 1 2 with cel := [(2, { running := true, skip := true })] }, 2, .reflex 2, { running := true, cyc := 1 }, 1, 2, by decide +kernel⟩,
   ⟨{ wCel (encLP 0x3E 1 3) 1 2 with cel := [(2, { running := true, skip := true })] }, 2, .reflex 2, { running := true, cyc := 1 }, 1, 3#16, by decide +kernel⟩,
   ⟨{ wCel (encJ 0x38 3) 1 2 with cel := [(2, { running := true, skip := true })] }, 2, .reflex 2, { running := true, cyc := 1 }, 3#26, by decide +kernel⟩,
   ⟨{ wCel (encZ 0x0D 0) 1 2 with cel := [(2, { running := true, skip := true })] }, 2, .reflex 2, { running := true, cyc := 1 }, 0, by decide +kernel⟩,
   ⟨{ wCel (encI 0x29 1 2 4) 1 2 with cel := [(2, { running := true, skip := true })] }, 2, .reflex 2, { running := true, cyc := 1 }, 1, 2, 4#16, by decide +kernel⟩⟩

theorem witness_SlotOperations :
    (∃ (s : State) (k : Nat) (r : CryReq), s.cryNext k = some r ∧ k < 2 ∧ s.crySt = 2 ∧ (s.cryU k).cur = none ∧ r.internal = false ∧ r.opcode = 0x33 ∧ s.rd (Reg.CRY_SLOT.STATE (r.fld 16 1)) = 1) ∧
    (∃ (s : State) (k : Nat) (r : CryReq), s.cryNext k = some r ∧ k < 2 ∧ s.crySt = 2 ∧ (s.cryU k).cur = none ∧ r.internal = false ∧ r.opcode = 0x34) ∧
    (∃ (s : State) (i : Nat), RegsCanonical s ∧ i < 64) ∧
    (∃ (s : State) (k : Nat) (r : CryReq), k < 2 ∧ (r.opcode = 0x33 ∨ r.opcode = 0x34) ∧ r.internal = false ∧ s.cry.queue.find? (fun q => q.internal) = none ∧ s.cry.queue.find? (fun q => !q.internal && decide (q.opcode ≠ 0x31)) = some r ∧ s.slotBusy (r.fld 16 1) = true) :=
  ⟨⟨{ ((wRun 100).wr Reg.CRY_STAT.STATE 2).wr (Reg.CRY_SLOT.STATE 3) 1 with cry := { queue := [{ id := 0, tag := some 1, opcode := 0x33, desc := wDesc 0x33 [3] }] } }, 0, { id := 0, tag := some 1, opcode := 0x33, desc := wDesc 0x33 [3] }, by decide +kernel⟩,
   ⟨{ ((wRun 100).wr Reg.CRY_STAT.STATE 2).wr (Reg.CRY_SLOT.STATE 3) 1 with cry := { queue := [{ id := 0, tag := some 1, opcode := 0x34, desc := wDesc 0x34 [3] }] } }, 1, { id := 0, tag := some 1, opcode := 0x34, desc := wDesc 0x34 [3] }, by decide +kernel⟩,
   ⟨wRun 100, 3, by unfold RegsCanonical; decide +kernel, by decide⟩,
   ⟨{ wRun 100 with cry := { queue := [{ id := 0, tag := some 1, opcode := 0x33, desc := wDesc 0x33 [3] }], units := [(0, { cur := some { id := 9, opcode := 0x30, desc := wDesc 0x30 [3] } })] } }, 1, { id := 0, tag := some 1, opcode := 0x33, desc := wDesc 0x33 [3] }, by decide +kernel⟩⟩

end Sys2Proof.Tests
end

section
/-! PROOFS. The scope of the model: every command completes, the queue is the host's alone, and the register file stays canonical. -/

namespace Sys2Proof.Proofs.Scope

open Sys2Proof Sys2Proof.Machine Sys2Proof.Safety

/-! ### What every command does to the queue -/

/-- The four commands that may move a one-time-programmable count (R404, R405). -/
def MovesCounts (c : Instr) : Prop :=
  ∃ t, c = .cfgRaisemin t ∨ c = .lifecycle t ∨ c = .debugUnlock t ∨ ∃ x, c = .rootProvision t x

/-- Every arm of `exec` answers a next state; the two of the PWM patterns do so for a channel and for a motor. -/
theorem exec_next (c : Instr) (s : State) : ∃ u, exec c s = .next u := by
  cases c
  case pwmPeriodStart u => cases u <;> exact ⟨_, rfl⟩
  case pwmOnTimeEnd u => cases u <;> exact ⟨_, rfl⟩
  all_goals exact ⟨_, rfl⟩

/-- A command leaves counts and queue alone, unless it is one of the four that may move a count. -/
theorem exec_kept_or_movesCounts {c : Instr} {s s' : State} (h : exec c s = .next s') :
    (s'.otp = s.otp ∧ s'.pending = s.pending) ∨ MovesCounts c := by
  cases c with
  | registerWrite off size value => exact .inl (execRegisterWrite_kept off size value s s' h)
  | read64LowWord off => exact .inl (execRead64LowWord_kept off s s' h)
  | write64HighWord off value => exact .inl (execWrite64HighWord_kept off value s s' h)
  | ledgPeekidxWrite value => exact .inl (execLedgPeekidxWrite_kept value s s' h)
  | hswCtlClear n => exact .inl (execHswCtlClear_kept n s s' h)
  | pdrvCtlClear n => exact .inl (execPdrvCtlClear_kept n s s' h)
  | brgCtlClear m => exact .inl (execBrgCtlClear_kept m s s' h)
  | vlvCtlClear n => exact .inl (execVlvCtlClear_kept n s s' h)
  | vlvBctlClear b => exact .inl (execVlvBctlClear_kept b s s' h)
  | ledCtlClear n => exact .inl (execLedCtlClear_kept n s s' h)
  | canCtlRecover c => exact .inl (execCanCtlRecover_kept c s s' h)
  | canCtlRestrSet c => exact .inl (execCanCtlRestrSet_kept c s s' h)
  | canCtlRestrClear c => exact .inl (execCanCtlRestrClear_kept c s s' h)
  | linCtlSreq n table => exact .inl (execLinCtlSreq_kept n table s s' h)
  | linCtlSleep n => exact .inl (execLinCtlSleep_kept n s s' h)
  | linCtlWake n => exact .inl (execLinCtlWake_kept n s s' h)
  | rfxSvcRemove c => exact .inl (execRfxSvcRemove_kept c s s' h)
  | rfxSvcReturn c => exact .inl (execRfxSvcReturn_kept c s s' h)
  | hostCtlEnSet dbper => exact .inl (execHostCtlEnSet_kept dbper s s' h)
  | hostCtlEnClear dbper => exact .inl (execHostCtlEnClear_kept dbper s s' h)
  | fltCtlClr r => exact .inl (execFltCtlClr_kept r s s' h)
  | msixVectorUnmask v => exact .inl (execMsixVectorUnmask_kept v s s' h)
  | deviceReset mgp pass => exact .inl (execDeviceReset_kept mgp pass s s' h)
  | asSyncReceived gptp corr => exact .inl (execAsSyncReceived_kept gptp corr s s' h)
  | timeMarkerReceived d err => exact .inl (execTimeMarkerReceived_kept d err s s' h)
  | islandRelock d => exact .inl (execIslandRelock_kept d s s' h)
  | markerLoss d => exact .inl (execMarkerLoss_kept d s s' h)
  | ledgerUpdateArrival p => exact .inl (execLedgerUpdateArrival_kept p s s' h)
  | entryExpiry idx => exact .inl (execEntryExpiry_kept idx s s' h)
  | snapshotSeal ready => exact .inl (execSnapshotSeal_kept ready s s' h)
  | snapReadAtSeal t => exact .inl (execSnapReadAtSeal_kept t s s' h)
  | stagedWriteArrival d => exact .inl (execStagedWriteArrival_kept d s s' h)
  | frameCloseMessage d => exact .inl (execFrameCloseMessage_kept d s s' h)
  | dieBoundaryApply d => exact .inl (execDieBoundaryApply_kept d s s' h)
  | limpEntry d => exact .inl (execLimpEntry_kept d s s' h)
  | pwmPeriodStart u => exact .inl (execPwmPeriodStart_kept u s s' h)
  | pwmOnTimeEnd u => exact .inl (execPwmOnTimeEnd_kept u s s' h)
  | senseSample d x => exact .inl (execSenseSample_kept d x s s' h)
  | sensingWindowEnd d => exact .inl (execSensingWindowEnd_kept d s s' h)
  | overloadTrip u => exact .inl (execOverloadTrip_kept u s s' h)
  | shortComparatorTrip u cur => exact .inl (execShortComparatorTrip_kept u cur s s' h)
  | vdsTrip u vds => exact .inl (execVdsTrip_kept u vds s s' h)
  | emberSet u tj ts => exact .inl (execEmberSet_kept u tj ts s s' h)
  | emberRelease u tj ts => exact .inl (execEmberRelease_kept u tj ts s s' h)
  | snuffEnd u => exact .inl (execSnuffEnd_kept u s s' h)
  | retryDue u => exact .inl (execRetryDue_kept u s s' h)
  | retryRefill u => exact .inl (execRetryRefill_kept u s s' h)
  | wickStep d => exact .inl (execWickStep_kept d s s' h)
  | bundleNodeMessage d => exact .inl (execBundleNodeMessage_kept d s s' h)
  | bundleMessageTimeout d => exact .inl (execBundleMessageTimeout_kept d s s' h)
  | periodicFeedback u x => exact .inl (execPeriodicFeedback_kept u x s s' h)
  | entryResend idx => exact .inl (execEntryResend_kept idx s s' h)
  | inrushWindowEnd u => exact .inl (execInrushWindowEnd_kept u s s' h)
  | softStartCarrier u => exact .inl (execSoftStartCarrier_kept u s s' h)
  | droopDetected d => exact .inl (execDroopDetected_kept d s s' h)
  | droopNotice d => exact .inl (execDroopNotice_kept d s s' h)
  | droopEndNotice d => exact .inl (execDroopEndNotice_kept d s s' h)
  | droopCap d => exact .inl (execDroopCap_kept d s s' h)
  | droopFreezeEnd d => exact .inl (execDroopFreezeEnd_kept d s s' h)
  | openLoadTestStart u => exact .inl (execOpenLoadTestStart_kept u s s' h)
  | openLoadTestEnd u => exact .inl (execOpenLoadTestEnd_kept u s s' h)
  | bridgeControlStep d => exact .inl (execBridgeControlStep_kept d s s' h)
  | rippleEdge m => exact .inl (execRippleEdge_kept m s s' h)
  | motorStall m => exact .inl (execMotorStall_kept m s s' h)
  | motorRunLimit m => exact .inl (execMotorRunLimit_kept m s s' h)
  | motorStartBlankingEnd m => exact .inl (execMotorStartBlankingEnd_kept m s s' h)
  | pulseEnd m => exact .inl (execPulseEnd_kept m s s' h)
  | pinchBrakeEnd m => exact .inl (execPinchBrakeEnd_kept m s s' h)
  | reversalComplete m => exact .inl (execReversalComplete_kept m s s' h)
  | motorSettleEnd m => exact .inl (execMotorSettleEnd_kept m s s' h)
  | bridgeTrip m x => exact .inl (execBridgeTrip_kept m x s s' h)
  | motorTrippedEnd m => exact .inl (execMotorTrippedEnd_kept m s s' h)
  | currentChop m cur => exact .inl (execCurrentChop_kept m cur s s' h)
  | chopOffEnd m => exact .inl (execChopOffEnd_kept m s s' h)
  | bemfMeasureStart m => exact .inl (execBemfMeasureStart_kept m s s' h)
  | bemfMeasureEnd m => exact .inl (execBemfMeasureEnd_kept m s s' h)
  | bridgeSeqOverrun d => exact .inl (execBridgeSeqOverrun_kept d s s' h)
  | valveControlStep b => exact .inl (execValveControlStep_kept b s s' h)
  | peakEnd n => exact .inl (execPeakEnd_kept n s s' h)
  | peakFail n => exact .inl (execPeakFail_kept n s s' h)
  | releaseTimeout n => exact .inl (execReleaseTimeout_kept n s s' h)
  | leashExpiry n => exact .inl (execLeashExpiry_kept n s s' h)
  | holdLow n => exact .inl (execHoldLow_kept n s s' h)
  | valveTrip n cur => exact .inl (execValveTrip_kept n cur s s' h)
  | valveTrippedEnd n => exact .inl (execValveTrippedEnd_kept n s s' h)
  | bankTrip b cur => exact .inl (execBankTrip_kept b cur s s' h)
  | bankTrippedEnd b => exact .inl (execBankTrippedEnd_kept b s s' h)
  | bankSeqOverrun b => exact .inl (execBankSeqOverrun_kept b s s' h)
  | ledPeriodStart n => exact .inl (execLedPeriodStart_kept n s s' h)
  | ledOpen n => exact .inl (execLedOpen_kept n s s' h)
  | ledOpenClear n => exact .inl (execLedOpenClear_kept n s s' h)
  | ledShort n => exact .inl (execLedShort_kept n s s' h)
  | ledFoldbackStep tj => exact .inl (execLedFoldbackStep_kept tj s s' h)
  | inputRawEdge n vin => exact .inl (execInputRawEdge_kept n vin s s' h)
  | pulsedWettingRead n vin => exact .inl (execPulsedWettingRead_kept n vin s s' h)
  | debounceAccept n => exact .inl (execDebounceAccept_kept n s s' h)
  | inputChatter n => exact .inl (execInputChatter_kept n s s' h)
  | lowbatSuspensionEnd n => exact .inl (execLowbatSuspensionEnd_kept n s s' h)
  | parkPoll vins => exact .inl (execParkPoll_kept vins s s' h)
  | budgetAbort c => exact .inl (execBudgetAbort_kept c s s' h)
  | coreFailure c cause => exact .inl (execCoreFailure_kept c cause s s' h)
  | coreSelfTestEnd c pass => exact .inl (execCoreSelfTestEnd_kept c pass s s' h)
  | immediateApply d => exact .inl (execImmediateApply_kept d s s' h)
  | add k d a b => exact .inl (execAdd_kept k d a b s s' h)
  | sub k d a b => exact .inl (execSub_kept k d a b s s' h)
  | andI k d a b => exact .inl (execAndI_kept k d a b s s' h)
  | orI k d a b => exact .inl (execOrI_kept k d a b s s' h)
  | xorI k d a b => exact .inl (execXorI_kept k d a b s s' h)
  | sll k d a b => exact .inl (execSll_kept k d a b s s' h)
  | srl k d a b => exact .inl (execSrl_kept k d a b s s' h)
  | sra k d a b => exact .inl (execSra_kept k d a b s s' h)
  | slt k d a b => exact .inl (execSlt_kept k d a b s s' h)
  | sltu k d a b => exact .inl (execSltu_kept k d a b s s' h)
  | nopInstruction k => exact .inl (execNopInstruction_kept k s s' h)
  | endI k => exact .inl (execEndI_kept k s s' h)
  | addi k d a imm => exact .inl (execAddi_kept k d a imm s s' h)
  | andi k d a imm => exact .inl (execAndi_kept k d a imm s s' h)
  | ori k d a imm => exact .inl (execOri_kept k d a imm s s' h)
  | xori k d a imm => exact .inl (execXori_kept k d a imm s s' h)
  | slli k d a imm => exact .inl (execSlli_kept k d a imm s s' h)
  | srli k d a imm => exact .inl (execSrli_kept k d a imm s s' h)
  | srai k d a imm => exact .inl (execSrai_kept k d a imm s s' h)
  | lui k d imm => exact .inl (execLui_kept k d imm s s' h)
  | slti k d a imm => exact .inl (execSlti_kept k d a imm s s' h)
  | mul k a b => exact .inl (execMul_kept k a b s s' h)
  | mulu k a b => exact .inl (execMulu_kept k a b s s' h)
  | mac k a b => exact .inl (execMac_kept k a b s s' h)
  | multiplierResult k => exact .inl (execMultiplierResult_kept k s s' h)
  | mfs k d sp => exact .inl (execMfs_kept k d sp s s' h)
  | mts k sp a => exact .inl (execMts_kept k sp a s s' h)
  | ldw k d a imm => exact .inl (execLdw_kept k d a imm s s' h)
  | stw k d a imm => exact .inl (execStw_kept k d a imm s s' h)
  | bc k a b cond off => exact .inl (execBc_kept k a b cond off s s' h)
  | prd k d port => exact .inl (execPrd_kept k d port s s' h)
  | pwr k a port => exact .inl (execPwr_kept k a port s s' h)
  | ldv k d index => exact .inl (execLdv_kept k d index s s' h)
  | lde k d index => exact .inl (execLde_kept k d index s s' h)
  | ldvx k d a => exact .inl (execLdvx_kept k d a s s' h)
  | ldex k d a => exact .inl (execLdex_kept k d a s s' h)
  | ldb k d a b => exact .inl (execLdb_kept k d a b s s' h)
  | ste k d index => exact .inl (execSte_kept k d index s s' h)
  | stex k d a => exact .inl (execStex_kept k d a s s' h)
  | br k off => exact .inl (execBr_kept k off s s' h)
  | bl k off => exact .inl (execBl_kept k off s s' h)
  | jr k a => exact .inl (execJr_kept k a s s' h)
  | sk k a b cond => exact .inl (execSk_kept k a b cond s s' h)
  | ski k a cond imm => exact .inl (execSki_kept k a cond imm s s' h)
  | skst k mask => exact .inl (execSkst_kept k mask s s' h)
  | loop k a n => exact .inl (execLoop_kept k a n s s' h)
  | loopi k cnt n => exact .inl (execLoopi_kept k cnt n s s' h)
  | canFrameReceived c f => exact .inl (execCanFrameReceived_kept c f s s' h)
  | canTxStart c => exact .inl (execCanTxStart_kept c s s' h)
  | canFrameSent c tdcv => exact .inl (execCanFrameSent_kept c tdcv s s' h)
  | canArbitrationLost c => exact .inl (execCanArbitrationLost_kept c s s' h)
  | canError c kinds tec rec => exact .inl (execCanError_kept c kinds tec rec s s' h)
  | busoffHoldEnd c => exact .inl (execBusoffHoldEnd_kept c s s' h)
  | busoffRecoveryDone c => exact .inl (execBusoffRecoveryDone_kept c s s' h)
  | canSyncDone c => exact .inl (execCanSyncDone_kept c s s' h)
  | busoffCountReset c => exact .inl (execBusoffCountReset_kept c s s' h)
  | canWakeFrame c f good => exact .inl (execCanWakeFrame_kept c f good s s' h)
  | canWakePattern c => exact .inl (execCanWakePattern_kept c s s' h)
  | linSlotStart n => exact .inl (execLinSlotStart_kept n s s' h)
  | linHeaderReceived n pid head => exact .inl (execLinHeaderReceived_kept n pid head s s' h)
  | linFrameReceived n f => exact .inl (execLinFrameReceived_kept n f s s' h)
  | linBusIdleTimeout n => exact .inl (execLinBusIdleTimeout_kept n s s' h)
  | linWakeRetry n => exact .inl (execLinWakeRetry_kept n s s' h)
  | linRemoteWake n ticks => exact .inl (execLinRemoteWake_kept n ticks s s' h)
  | linScheduleRestart n => exact .inl (execLinScheduleRestart_kept n s s' h)
  | ethFrameReceived p f => exact .inl (execEthFrameReceived_kept p f s s' h)
  | ethFrameTxStart p => exact .inl (execEthFrameTxStart_kept p s s' h)
  | ethLinkChange p link speed plca => exact .inl (execEthLinkChange_kept p link speed plca s s' h)
  | pdelayReqReceived p seq => exact .inl (execPdelayReqReceived_kept p seq s s' h)
  | doorbellData x => exact .inl (execDoorbellData_kept x s s' h)
  | descriptorAccept q x => exact .inl (execDescriptorAccept_kept q x s s' h)
  | cqModerationTimer q => exact .inl (execCqModerationTimer_kept q s s' h)
  | ringDrainTimeout q => exact .inl (execRingDrainTimeout_kept q s s' h)
  | nop t => exact .inl (execNop_kept t s s' h)
  | ringAdd t => exact .inl (execRingAdd_kept t s s' h)
  | ringRemove t => exact .inl (execRingRemove_kept t s s' h)
  | funcReset t => exact .inl (execFuncReset_kept t s s' h)
  | ledgerWrite t x => exact .inl (execLedgerWrite_kept t x s s' h)
  | ledgerRead t => exact .inl (execLedgerRead_kept t s s' h)
  | immediateWrite t => exact .inl (execImmediateWrite_kept t s s' h)
  | unitClear t => exact .inl (execUnitClear_kept t s s' h)
  | coreService t => exact .inl (execCoreService_kept t s s' h)
  | canTx t x => exact .inl (execCanTx_kept t x s s' h)
  | canCancel t => exact .inl (execCanCancel_kept t s s' h)
  | canRecover t => exact .inl (execCanRecover_kept t s s' h)
  | canMode t => exact .inl (execCanMode_kept t s s' h)
  | rxPost t => exact .inl (execRxPost_kept t s s' h)
  | linSched t => exact .inl (execLinSched_kept t s s' h)
  | linDiag t => exact .inl (execLinDiag_kept t s s' h)
  | ethTx t x => exact .inl (execEthTx_kept t x s s' h)
  | cipher t x aux => exact .inl (execCipher_kept t x aux s s' h)
  | hash t x => exact .inl (execHash_kept t x s s' h)
  | derive t => exact .inl (execDerive_kept t s s' h)
  | slotRetire t => exact .inl (execSlotRetire_kept t s s' h)
  | slotClear t => exact .inl (execSlotClear_kept t s s' h)
  | alarm t => exact .inl (execAlarm_kept t s s' h)
  | cipherRequestStart k => exact .inl (execCipherRequestStart_kept k s s' h)
  | nonceCeilingWritten k => exact .inl (execNonceCeilingWritten_kept k s s' h)
  | cipherRequestEnd k => exact .inl (execCipherRequestEnd_kept k s s' h)
  | cipherAlarm a => exact .inl (execCipherAlarm_kept a s s' h)
  | challenge t => exact .inl (execChallenge_kept t s s' h)
  | tokenRegister t => exact .inl (execTokenRegister_kept t s s' h)
  | tokenRemove t => exact .inl (execTokenRemove_kept t s s' h)
  | calibrate t => exact .inl (execCalibrate_kept t s s' h)
  | lfDriverShort k cur => exact .inl (execLfDriverShort_kept k cur s s' h)
  | lfDriverOpen k peak => exact .inl (execLfDriverOpen_kept k peak s s' h)
  | tkrFrameReceived f => exact .inl (execTkrFrameReceived_kept f s s' h)
  | buttonFrame f => exact .inl (execButtonFrame_kept f s s' h)
  | faultRaise p => exact .inl (execFaultRaise_kept p s s' h)
  | faultRecovery r => exact .inl (execFaultRecovery_kept r s s' h)
  | faultRead t => exact .inl (execFaultRead_kept t s s' h)
  | faultNotices t => exact .inl (execFaultNotices_kept t s s' h)
  | faultClear t => exact .inl (execFaultClear_kept t s s' h)
  | faultInject t => exact .inl (execFaultInject_kept t s s' h)
  | repeatWriteback n => exact .inl (execRepeatWriteback_kept n s s' h)
  | evrRead t => exact .inl (execEvrRead_kept t s s' h)
  | evrMark t => exact .inl (execEvrMark_kept t s s' h)
  | evrClear t => exact .inl (execEvrClear_kept t s s' h)
  | cfgWrite t x => exact .inl (execCfgWrite_kept t x s s' h)
  | cfgCommit t => exact .inl (execCfgCommit_kept t s s' h)
  | cfgRollback t => exact .inl (execCfgRollback_kept t s s' h)
  | cfgStatus t => exact .inl (execCfgStatus_kept t s s' h)
  | cfgRaisemin t => exact .inr ⟨t, .inl rfl⟩
  | lifecycle t => exact .inr ⟨t, .inr (.inl rfl)⟩
  | rootProvision t x => exact .inr ⟨t, .inr (.inr (.inr ⟨x, rfl⟩))⟩
  | debugUnlock t => exact .inr ⟨t, .inr (.inr (.inl rfl))⟩
  | testMode t => exact .inl (execTestMode_kept t s s' h)
  | dieParamsReceived d => exact .inl (execDieParamsReceived_kept d s s' h)
  | dieParamAck d => exact .inl (execDieParamAck_kept d s s' h)
  | lanternReceived x => exact .inl (execLanternReceived_kept x s s' h)
  | peerSilent k => exact .inl (execPeerSilent_kept k s s' h)
  | pwrVote t => exact .inl (execPwrVote_kept t s s' h)
  | pwrStatus t => exact .inl (execPwrStatus_kept t s s' h)
  | pwrTimer t => exact .inl (execPwrTimer_kept t s s' h)
  | tkrWake ticks => exact .inl (execTkrWake_kept ticks s s' h)
  | tamper ticks => exact .inl (execTamper_kept ticks s s' h)
  | mgpAddressMatch addr => exact .inl (execMgpAddressMatch_kept addr s s' h)
  | mgpReset data pass => exact .inl (execMgpReset_kept data pass s s' h)
  | mgpDebug cmd => exact .inl (execMgpDebug_kept cmd s s' h)
  | powerOn a1 a0 => exact .inl (execPowerOn_kept a1 a0 s s' h)
  | rqbStatusRead status => exact .inl (execRqbStatusRead_kept status s s' h)
  | dieLReady pass => exact .inl (execDieLReady_kept pass s s' h)
  | domainReady d => exact .inl (execDomainReady_kept d s s' h)
  | domainStartTimeout d => exact .inl (execDomainStartTimeout_kept d s s' h)
  | domainDemandWake d => exact .inl (execDomainDemandWake_kept d s s' h)
  | domainStallTimeout d => exact .inl (execDomainStallTimeout_kept d s s' h)
  | railLoss rail ticks => exact .inl (execRailLoss_kept rail ticks s s' h)
  | supplyUvEntry d => exact .inl (execSupplyUvEntry_kept d s s' h)
  | supplyUvExit d => exact .inl (execSupplyUvExit_kept d s s' h)
  | supplyOvEntry d => exact .inl (execSupplyOvEntry_kept d s s' h)
  | supplyOvExit d => exact .inl (execSupplyOvExit_kept d s s' h)
  | gndshiftEntry d => exact .inl (execGndshiftEntry_kept d s s' h)
  | gndshiftExit d => exact .inl (execGndshiftExit_kept d s s' h)
  | powerDieReset d vbat => exact .inl (execPowerDieReset_kept d vbat s s' h)
  | candleReset mv => exact .inl (execCandleReset_kept mv s s' h)
  | droopRecordLimit d => exact .inl (execDroopRecordLimit_kept d s s' h)
  | valveCurrentTargetReached n cur => exact .inl (execValveCurrentTargetReached_kept n cur s s' h)
  | valveOffTimeEnd n => exact .inl (execValveOffTimeEnd_kept n s s' h)
  | linResponseTimeout n => exact .inl (execLinResponseTimeout_kept n s s' h)
  | ethFrameTxEnd p => exact .inl (execEthFrameTxEnd_kept p s s' h)
  | forwardingDatabaseAgeing mac vid => exact .inl (execForwardingDatabaseAgeing_kept mac vid s s' h)
  | pcieCompletionTimeout x => exact .inl (execPcieCompletionTimeout_kept x s s' h)
  | busMasterEnableChange bme d3 => exact .inl (execBusMasterEnableChange_kept bme d3 s s' h)
  | pwrCtlVotePark => exact .inl (execPwrCtlVotePark_kept s s' h)
  | pwrCtlVoteWithdraw => exact .inl (execPwrCtlVoteWithdraw_kept s s' h)
  | pcieLinkDown => exact .inl (execPcieLinkDown_kept s s' h)
  | crystalStable => exact .inl (execCrystalStable_kept s s' h)
  | crystalFail => exact .inl (execCrystalFail_kept s s' h)
  | startingTimeout => exact .inl (execStartingTimeout_kept s s' h)
  | degradedReturn => exact .inl (execDegradedReturn_kept s s' h)
  | asConverged => exact .inl (execAsConverged_kept s s' h)
  | asSyncLoss => exact .inl (execAsSyncLoss_kept s s' h)
  | timeMarkerSend => exact .inl (execTimeMarkerSend_kept s s' h)
  | ledgerIntakeCommit => exact .inl (execLedgerIntakeCommit_kept s s' h)
  | frameZeroStart => exact .inl (execFrameZeroStart_kept s s' h)
  | frameBoundary => exact .inl (execFrameBoundary_kept s s' h)
  | stagingClose => exact .inl (execStagingClose_kept s s' h)
  | boostReady => exact .inl (execBoostReady_kept s s' h)
  | boostReadyLoss => exact .inl (execBoostReadyLoss_kept s s' h)
  | boostNotReady => exact .inl (execBoostNotReady_kept s s' h)
  | boostOvp => exact .inl (execBoostOvp_kept s s' h)
  | lfControlStep => exact .inl (execLfControlStep_kept s s' h)
  | lfSeqOverrun => exact .inl (execLfSeqOverrun_kept s s' h)
  | doorbellFetch => exact .inl (execDoorbellFetch_kept s s' h)
  | cipherStartDone => exact .inl (execCipherStartDone_kept s s' h)
  | eraseComplete => exact .inl (execEraseComplete_kept s s' h)
  | challengeStart => exact .inl (execChallengeStart_kept s s' h)
  | challengeEnd => exact .inl (execChallengeEnd_kept s s' h)
  | tkrStrobe => exact .inl (execTkrStrobe_kept s s' h)
  | replySlotEnd => exact .inl (execReplySlotEnd_kept s s' h)
  | replyVerified => exact .inl (execReplyVerified_kept s s' h)
  | lockoutEnd => exact .inl (execLockoutEnd_kept s s' h)
  | sessionTimeout => exact .inl (execSessionTimeout_kept s s' h)
  | eventRecord => exact .inl (execEventRecord_kept s s' h)
  | opsecTick => exact .inl (execOpsecTick_kept s s' h)
  | swapTimeout => exact .inl (execSwapTimeout_kept s s' h)
  | lanternDue => exact .inl (execLanternDue_kept s s' h)
  | wakeStart => exact .inl (execWakeStart_kept s s' h)
  | mgpStatus => exact .inl (execMgpStatus_kept s s' h)
  | parkTimerWake => exact .inl (execParkTimerWake_kept s s' h)
  | wakeRetry => exact .inl (execWakeRetry_kept s s' h)
  | rqbRequest => exact .inl (execRqbRequest_kept s s' h)
  | rqbRetry => exact .inl (execRqbRetry_kept s s' h)
  | regFail => exact .inl (execRegFail_kept s s' h)
  | shutdownTimeout => exact .inl (execShutdownTimeout_kept s s' h)
  | parkEntry => exact .inl (execParkEntry_kept s s' h)
  | wakeVoltageOk => exact .inl (execWakeVoltageOk_kept s s' h)
  | boostOvpEnd => exact .inl (execBoostOvpEnd_kept s s' h)
  | pcieLinkUp => exact .inl (execPcieLinkUp_kept s s' h)

/-- LIFECYCLE leaves the queue alone, whatever the count it finds. -/
theorem lifecycle_pending (s : State) (t : Nat) : (s.lifecycle t).pending = s.pending := by
  unfold State.lifecycle
  split
  · rfl
  · obtain ⟨st, r, hd⟩ | ⟨-, -, -, hn⟩ := State.cfgOp_cases s t 0x65 _ _ (s.lifeNext t)
    · rw [hd]; simp
    · rw [hn]; exact (State.lifeNext_otp s t).2

theorem exec_pending {c : Instr} {s s' : State} (h : exec c s = .next s') : s'.pending = s.pending := by
  obtain ⟨-, hp⟩ | ⟨t, rfl | rfl | rfl | ⟨x, rfl⟩⟩ := exec_kept_or_movesCounts h
  · exact hp
  · exact (execCfgRaisemin_otp t s s' h).2
  · cases h; exact lifecycle_pending s t
  · exact (execDebugUnlock_otp t s s' h).2
  · exact (execRootProvision_otp t x s s' h).2

/-- Settles O40: every arm of `exec` answers a next state, and none touches the queue. -/
theorem everyCommandCompletes : Obligations.EveryCommandCompletes := by
  intro c s
  obtain ⟨u, hu⟩ := exec_next c s
  exact ⟨u, hu, exec_pending hu⟩

/-! ### The register file -/

/-- Every command keeps the register file canonical. -/
theorem exec_canonical {c : Instr} {s s' : State} (h : exec c s = .next s') (hc : RegsCanonical s) : RegsCanonical s' := by
  cases c with
  | registerWrite off size value => exact execRegisterWrite_canon off size value s s' h hc
  | read64LowWord off => exact execRead64LowWord_canon off s s' h hc
  | write64HighWord off value => exact execWrite64HighWord_canon off value s s' h hc
  | ledgPeekidxWrite value => exact execLedgPeekidxWrite_canon value s s' h hc
  | hswCtlClear n => exact execHswCtlClear_canon n s s' h hc
  | pdrvCtlClear n => exact execPdrvCtlClear_canon n s s' h hc
  | brgCtlClear m => exact execBrgCtlClear_canon m s s' h hc
  | vlvCtlClear n => exact execVlvCtlClear_canon n s s' h hc
  | vlvBctlClear b => exact execVlvBctlClear_canon b s s' h hc
  | ledCtlClear n => exact execLedCtlClear_canon n s s' h hc
  | canCtlRecover c => exact execCanCtlRecover_canon c s s' h hc
  | canCtlRestrSet c => exact execCanCtlRestrSet_canon c s s' h hc
  | canCtlRestrClear c => exact execCanCtlRestrClear_canon c s s' h hc
  | linCtlSreq n table => exact execLinCtlSreq_canon n table s s' h hc
  | linCtlSleep n => exact execLinCtlSleep_canon n s s' h hc
  | linCtlWake n => exact execLinCtlWake_canon n s s' h hc
  | rfxSvcRemove c => exact execRfxSvcRemove_canon c s s' h hc
  | rfxSvcReturn c => exact execRfxSvcReturn_canon c s s' h hc
  | hostCtlEnSet dbper => exact execHostCtlEnSet_canon dbper s s' h hc
  | hostCtlEnClear dbper => exact execHostCtlEnClear_canon dbper s s' h hc
  | fltCtlClr r => exact execFltCtlClr_canon r s s' h hc
  | msixVectorUnmask v => exact execMsixVectorUnmask_canon v s s' h hc
  | deviceReset mgp pass => exact execDeviceReset_canon mgp pass s s' h hc
  | asSyncReceived gptp corr => exact execAsSyncReceived_canon gptp corr s s' h hc
  | timeMarkerReceived d err => exact execTimeMarkerReceived_canon d err s s' h hc
  | islandRelock d => exact execIslandRelock_canon d s s' h hc
  | markerLoss d => exact execMarkerLoss_canon d s s' h hc
  | ledgerUpdateArrival p => exact execLedgerUpdateArrival_canon p s s' h hc
  | entryExpiry idx => exact execEntryExpiry_canon idx s s' h hc
  | snapshotSeal ready => exact execSnapshotSeal_canon ready s s' h hc
  | snapReadAtSeal t => exact execSnapReadAtSeal_canon t s s' h hc
  | stagedWriteArrival d => exact execStagedWriteArrival_canon d s s' h hc
  | frameCloseMessage d => exact execFrameCloseMessage_canon d s s' h hc
  | dieBoundaryApply d => exact execDieBoundaryApply_canon d s s' h hc
  | limpEntry d => exact execLimpEntry_canon d s s' h hc
  | pwmPeriodStart u => exact execPwmPeriodStart_canon u s s' h hc
  | pwmOnTimeEnd u => exact execPwmOnTimeEnd_canon u s s' h hc
  | senseSample d x => exact execSenseSample_canon d x s s' h hc
  | sensingWindowEnd d => exact execSensingWindowEnd_canon d s s' h hc
  | overloadTrip u => exact execOverloadTrip_canon u s s' h hc
  | shortComparatorTrip u cur => exact execShortComparatorTrip_canon u cur s s' h hc
  | vdsTrip u vds => exact execVdsTrip_canon u vds s s' h hc
  | emberSet u tj ts => exact execEmberSet_canon u tj ts s s' h hc
  | emberRelease u tj ts => exact execEmberRelease_canon u tj ts s s' h hc
  | snuffEnd u => exact execSnuffEnd_canon u s s' h hc
  | retryDue u => exact execRetryDue_canon u s s' h hc
  | retryRefill u => exact execRetryRefill_canon u s s' h hc
  | wickStep d => exact execWickStep_canon d s s' h hc
  | bundleNodeMessage d => exact execBundleNodeMessage_canon d s s' h hc
  | bundleMessageTimeout d => exact execBundleMessageTimeout_canon d s s' h hc
  | periodicFeedback u x => exact execPeriodicFeedback_canon u x s s' h hc
  | entryResend idx => exact execEntryResend_canon idx s s' h hc
  | inrushWindowEnd u => exact execInrushWindowEnd_canon u s s' h hc
  | softStartCarrier u => exact execSoftStartCarrier_canon u s s' h hc
  | droopDetected d => exact execDroopDetected_canon d s s' h hc
  | droopNotice d => exact execDroopNotice_canon d s s' h hc
  | droopEndNotice d => exact execDroopEndNotice_canon d s s' h hc
  | droopCap d => exact execDroopCap_canon d s s' h hc
  | droopFreezeEnd d => exact execDroopFreezeEnd_canon d s s' h hc
  | openLoadTestStart u => exact execOpenLoadTestStart_canon u s s' h hc
  | openLoadTestEnd u => exact execOpenLoadTestEnd_canon u s s' h hc
  | bridgeControlStep d => exact execBridgeControlStep_canon d s s' h hc
  | rippleEdge m => exact execRippleEdge_canon m s s' h hc
  | motorStall m => exact execMotorStall_canon m s s' h hc
  | motorRunLimit m => exact execMotorRunLimit_canon m s s' h hc
  | motorStartBlankingEnd m => exact execMotorStartBlankingEnd_canon m s s' h hc
  | pulseEnd m => exact execPulseEnd_canon m s s' h hc
  | pinchBrakeEnd m => exact execPinchBrakeEnd_canon m s s' h hc
  | reversalComplete m => exact execReversalComplete_canon m s s' h hc
  | motorSettleEnd m => exact execMotorSettleEnd_canon m s s' h hc
  | bridgeTrip m x => exact execBridgeTrip_canon m x s s' h hc
  | motorTrippedEnd m => exact execMotorTrippedEnd_canon m s s' h hc
  | currentChop m cur => exact execCurrentChop_canon m cur s s' h hc
  | chopOffEnd m => exact execChopOffEnd_canon m s s' h hc
  | bemfMeasureStart m => exact execBemfMeasureStart_canon m s s' h hc
  | bemfMeasureEnd m => exact execBemfMeasureEnd_canon m s s' h hc
  | bridgeSeqOverrun d => exact execBridgeSeqOverrun_canon d s s' h hc
  | valveControlStep b => exact execValveControlStep_canon b s s' h hc
  | peakEnd n => exact execPeakEnd_canon n s s' h hc
  | peakFail n => exact execPeakFail_canon n s s' h hc
  | releaseTimeout n => exact execReleaseTimeout_canon n s s' h hc
  | leashExpiry n => exact execLeashExpiry_canon n s s' h hc
  | holdLow n => exact execHoldLow_canon n s s' h hc
  | valveTrip n cur => exact execValveTrip_canon n cur s s' h hc
  | valveTrippedEnd n => exact execValveTrippedEnd_canon n s s' h hc
  | bankTrip b cur => exact execBankTrip_canon b cur s s' h hc
  | bankTrippedEnd b => exact execBankTrippedEnd_canon b s s' h hc
  | bankSeqOverrun b => exact execBankSeqOverrun_canon b s s' h hc
  | ledPeriodStart n => exact execLedPeriodStart_canon n s s' h hc
  | ledOpen n => exact execLedOpen_canon n s s' h hc
  | ledOpenClear n => exact execLedOpenClear_canon n s s' h hc
  | ledShort n => exact execLedShort_canon n s s' h hc
  | ledFoldbackStep tj => exact execLedFoldbackStep_canon tj s s' h hc
  | inputRawEdge n vin => exact execInputRawEdge_canon n vin s s' h hc
  | pulsedWettingRead n vin => exact execPulsedWettingRead_canon n vin s s' h hc
  | debounceAccept n => exact execDebounceAccept_canon n s s' h hc
  | inputChatter n => exact execInputChatter_canon n s s' h hc
  | lowbatSuspensionEnd n => exact execLowbatSuspensionEnd_canon n s s' h hc
  | parkPoll vins => exact execParkPoll_canon vins s s' h hc
  | budgetAbort c => exact execBudgetAbort_canon c s s' h hc
  | coreFailure c cause => exact execCoreFailure_canon c cause s s' h hc
  | coreSelfTestEnd c pass => exact execCoreSelfTestEnd_canon c pass s s' h hc
  | immediateApply d => exact execImmediateApply_canon d s s' h hc
  | add k d a b => exact execAdd_canon k d a b s s' h hc
  | sub k d a b => exact execSub_canon k d a b s s' h hc
  | andI k d a b => exact execAndI_canon k d a b s s' h hc
  | orI k d a b => exact execOrI_canon k d a b s s' h hc
  | xorI k d a b => exact execXorI_canon k d a b s s' h hc
  | sll k d a b => exact execSll_canon k d a b s s' h hc
  | srl k d a b => exact execSrl_canon k d a b s s' h hc
  | sra k d a b => exact execSra_canon k d a b s s' h hc
  | slt k d a b => exact execSlt_canon k d a b s s' h hc
  | sltu k d a b => exact execSltu_canon k d a b s s' h hc
  | nopInstruction k => exact execNopInstruction_canon k s s' h hc
  | endI k => exact execEndI_canon k s s' h hc
  | addi k d a imm => exact execAddi_canon k d a imm s s' h hc
  | andi k d a imm => exact execAndi_canon k d a imm s s' h hc
  | ori k d a imm => exact execOri_canon k d a imm s s' h hc
  | xori k d a imm => exact execXori_canon k d a imm s s' h hc
  | slli k d a imm => exact execSlli_canon k d a imm s s' h hc
  | srli k d a imm => exact execSrli_canon k d a imm s s' h hc
  | srai k d a imm => exact execSrai_canon k d a imm s s' h hc
  | lui k d imm => exact execLui_canon k d imm s s' h hc
  | slti k d a imm => exact execSlti_canon k d a imm s s' h hc
  | mul k a b => exact execMul_canon k a b s s' h hc
  | mulu k a b => exact execMulu_canon k a b s s' h hc
  | mac k a b => exact execMac_canon k a b s s' h hc
  | multiplierResult k => exact execMultiplierResult_canon k s s' h hc
  | mfs k d sp => exact execMfs_canon k d sp s s' h hc
  | mts k sp a => exact execMts_canon k sp a s s' h hc
  | ldw k d a imm => exact execLdw_canon k d a imm s s' h hc
  | stw k d a imm => exact execStw_canon k d a imm s s' h hc
  | bc k a b cond off => exact execBc_canon k a b cond off s s' h hc
  | prd k d port => exact execPrd_canon k d port s s' h hc
  | pwr k a port => exact execPwr_canon k a port s s' h hc
  | ldv k d index => exact execLdv_canon k d index s s' h hc
  | lde k d index => exact execLde_canon k d index s s' h hc
  | ldvx k d a => exact execLdvx_canon k d a s s' h hc
  | ldex k d a => exact execLdex_canon k d a s s' h hc
  | ldb k d a b => exact execLdb_canon k d a b s s' h hc
  | ste k d index => exact execSte_canon k d index s s' h hc
  | stex k d a => exact execStex_canon k d a s s' h hc
  | br k off => exact execBr_canon k off s s' h hc
  | bl k off => exact execBl_canon k off s s' h hc
  | jr k a => exact execJr_canon k a s s' h hc
  | sk k a b cond => exact execSk_canon k a b cond s s' h hc
  | ski k a cond imm => exact execSki_canon k a cond imm s s' h hc
  | skst k mask => exact execSkst_canon k mask s s' h hc
  | loop k a n => exact execLoop_canon k a n s s' h hc
  | loopi k cnt n => exact execLoopi_canon k cnt n s s' h hc
  | canFrameReceived c f => exact execCanFrameReceived_canon c f s s' h hc
  | canTxStart c => exact execCanTxStart_canon c s s' h hc
  | canFrameSent c tdcv => exact execCanFrameSent_canon c tdcv s s' h hc
  | canArbitrationLost c => exact execCanArbitrationLost_canon c s s' h hc
  | canError c kinds tec rec => exact execCanError_canon c kinds tec rec s s' h hc
  | busoffHoldEnd c => exact execBusoffHoldEnd_canon c s s' h hc
  | busoffRecoveryDone c => exact execBusoffRecoveryDone_canon c s s' h hc
  | canSyncDone c => exact execCanSyncDone_canon c s s' h hc
  | busoffCountReset c => exact execBusoffCountReset_canon c s s' h hc
  | canWakeFrame c f good => exact execCanWakeFrame_canon c f good s s' h hc
  | canWakePattern c => exact execCanWakePattern_canon c s s' h hc
  | linSlotStart n => exact execLinSlotStart_canon n s s' h hc
  | linHeaderReceived n pid head => exact execLinHeaderReceived_canon n pid head s s' h hc
  | linFrameReceived n f => exact execLinFrameReceived_canon n f s s' h hc
  | linBusIdleTimeout n => exact execLinBusIdleTimeout_canon n s s' h hc
  | linWakeRetry n => exact execLinWakeRetry_canon n s s' h hc
  | linRemoteWake n ticks => exact execLinRemoteWake_canon n ticks s s' h hc
  | linScheduleRestart n => exact execLinScheduleRestart_canon n s s' h hc
  | ethFrameReceived p f => exact execEthFrameReceived_canon p f s s' h hc
  | ethFrameTxStart p => exact execEthFrameTxStart_canon p s s' h hc
  | ethLinkChange p link speed plca => exact execEthLinkChange_canon p link speed plca s s' h hc
  | pdelayReqReceived p seq => exact execPdelayReqReceived_canon p seq s s' h hc
  | doorbellData x => exact execDoorbellData_canon x s s' h hc
  | descriptorAccept q x => exact execDescriptorAccept_canon q x s s' h hc
  | cqModerationTimer q => exact execCqModerationTimer_canon q s s' h hc
  | ringDrainTimeout q => exact execRingDrainTimeout_canon q s s' h hc
  | nop t => exact execNop_canon t s s' h hc
  | ringAdd t => exact execRingAdd_canon t s s' h hc
  | ringRemove t => exact execRingRemove_canon t s s' h hc
  | funcReset t => exact execFuncReset_canon t s s' h hc
  | ledgerWrite t x => exact execLedgerWrite_canon t x s s' h hc
  | ledgerRead t => exact execLedgerRead_canon t s s' h hc
  | immediateWrite t => exact execImmediateWrite_canon t s s' h hc
  | unitClear t => exact execUnitClear_canon t s s' h hc
  | coreService t => exact execCoreService_canon t s s' h hc
  | canTx t x => exact execCanTx_canon t x s s' h hc
  | canCancel t => exact execCanCancel_canon t s s' h hc
  | canRecover t => exact execCanRecover_canon t s s' h hc
  | canMode t => exact execCanMode_canon t s s' h hc
  | rxPost t => exact execRxPost_canon t s s' h hc
  | linSched t => exact execLinSched_canon t s s' h hc
  | linDiag t => exact execLinDiag_canon t s s' h hc
  | ethTx t x => exact execEthTx_canon t x s s' h hc
  | cipher t x aux => exact execCipher_canon t x aux s s' h hc
  | hash t x => exact execHash_canon t x s s' h hc
  | derive t => exact execDerive_canon t s s' h hc
  | slotRetire t => exact execSlotRetire_canon t s s' h hc
  | slotClear t => exact execSlotClear_canon t s s' h hc
  | alarm t => exact execAlarm_canon t s s' h hc
  | cipherRequestStart k => exact execCipherRequestStart_canon k s s' h hc
  | nonceCeilingWritten k => exact execNonceCeilingWritten_canon k s s' h hc
  | cipherRequestEnd k => exact execCipherRequestEnd_canon k s s' h hc
  | cipherAlarm a => exact execCipherAlarm_canon a s s' h hc
  | challenge t => exact execChallenge_canon t s s' h hc
  | tokenRegister t => exact execTokenRegister_canon t s s' h hc
  | tokenRemove t => exact execTokenRemove_canon t s s' h hc
  | calibrate t => exact execCalibrate_canon t s s' h hc
  | lfDriverShort k cur => exact execLfDriverShort_canon k cur s s' h hc
  | lfDriverOpen k peak => exact execLfDriverOpen_canon k peak s s' h hc
  | tkrFrameReceived f => exact execTkrFrameReceived_canon f s s' h hc
  | buttonFrame f => exact execButtonFrame_canon f s s' h hc
  | faultRaise p => exact execFaultRaise_canon p s s' h hc
  | faultRecovery r => exact execFaultRecovery_canon r s s' h hc
  | faultRead t => exact execFaultRead_canon t s s' h hc
  | faultNotices t => exact execFaultNotices_canon t s s' h hc
  | faultClear t => exact execFaultClear_canon t s s' h hc
  | faultInject t => exact execFaultInject_canon t s s' h hc
  | repeatWriteback n => exact execRepeatWriteback_canon n s s' h hc
  | evrRead t => exact execEvrRead_canon t s s' h hc
  | evrMark t => exact execEvrMark_canon t s s' h hc
  | evrClear t => exact execEvrClear_canon t s s' h hc
  | cfgWrite t x => exact execCfgWrite_canon t x s s' h hc
  | cfgCommit t => exact execCfgCommit_canon t s s' h hc
  | cfgRollback t => exact execCfgRollback_canon t s s' h hc
  | cfgStatus t => exact execCfgStatus_canon t s s' h hc
  | cfgRaisemin t => exact execCfgRaisemin_canon t s s' h hc
  | lifecycle t => exact execLifecycle_canon t s s' h hc
  | rootProvision t x => exact execRootProvision_canon t x s s' h hc
  | debugUnlock t => exact execDebugUnlock_canon t s s' h hc
  | testMode t => exact execTestMode_canon t s s' h hc
  | dieParamsReceived d => exact execDieParamsReceived_canon d s s' h hc
  | dieParamAck d => exact execDieParamAck_canon d s s' h hc
  | lanternReceived x => exact execLanternReceived_canon x s s' h hc
  | peerSilent k => exact execPeerSilent_canon k s s' h hc
  | pwrVote t => exact execPwrVote_canon t s s' h hc
  | pwrStatus t => exact execPwrStatus_canon t s s' h hc
  | pwrTimer t => exact execPwrTimer_canon t s s' h hc
  | tkrWake ticks => exact execTkrWake_canon ticks s s' h hc
  | tamper ticks => exact execTamper_canon ticks s s' h hc
  | mgpAddressMatch addr => exact execMgpAddressMatch_canon addr s s' h hc
  | mgpReset data pass => exact execMgpReset_canon data pass s s' h hc
  | mgpDebug cmd => exact execMgpDebug_canon cmd s s' h hc
  | powerOn a1 a0 => exact execPowerOn_canon a1 a0 s s' h hc
  | rqbStatusRead status => exact execRqbStatusRead_canon status s s' h hc
  | dieLReady pass => exact execDieLReady_canon pass s s' h hc
  | domainReady d => exact execDomainReady_canon d s s' h hc
  | domainStartTimeout d => exact execDomainStartTimeout_canon d s s' h hc
  | domainDemandWake d => exact execDomainDemandWake_canon d s s' h hc
  | domainStallTimeout d => exact execDomainStallTimeout_canon d s s' h hc
  | railLoss rail ticks => exact execRailLoss_canon rail ticks s s' h hc
  | supplyUvEntry d => exact execSupplyUvEntry_canon d s s' h hc
  | supplyUvExit d => exact execSupplyUvExit_canon d s s' h hc
  | supplyOvEntry d => exact execSupplyOvEntry_canon d s s' h hc
  | supplyOvExit d => exact execSupplyOvExit_canon d s s' h hc
  | gndshiftEntry d => exact execGndshiftEntry_canon d s s' h hc
  | gndshiftExit d => exact execGndshiftExit_canon d s s' h hc
  | powerDieReset d vbat => exact execPowerDieReset_canon d vbat s s' h hc
  | candleReset mv => exact execCandleReset_canon mv s s' h hc
  | droopRecordLimit d => exact execDroopRecordLimit_canon d s s' h hc
  | valveCurrentTargetReached n cur => exact execValveCurrentTargetReached_canon n cur s s' h hc
  | valveOffTimeEnd n => exact execValveOffTimeEnd_canon n s s' h hc
  | linResponseTimeout n => exact execLinResponseTimeout_canon n s s' h hc
  | ethFrameTxEnd p => exact execEthFrameTxEnd_canon p s s' h hc
  | forwardingDatabaseAgeing mac vid => exact execForwardingDatabaseAgeing_canon mac vid s s' h hc
  | pcieCompletionTimeout x => exact execPcieCompletionTimeout_canon x s s' h hc
  | busMasterEnableChange bme d3 => exact execBusMasterEnableChange_canon bme d3 s s' h hc
  | pwrCtlVotePark => exact execPwrCtlVotePark_canon s s' h hc
  | pwrCtlVoteWithdraw => exact execPwrCtlVoteWithdraw_canon s s' h hc
  | pcieLinkDown => exact execPcieLinkDown_canon s s' h hc
  | crystalStable => exact execCrystalStable_canon s s' h hc
  | crystalFail => exact execCrystalFail_canon s s' h hc
  | startingTimeout => exact execStartingTimeout_canon s s' h hc
  | degradedReturn => exact execDegradedReturn_canon s s' h hc
  | asConverged => exact execAsConverged_canon s s' h hc
  | asSyncLoss => exact execAsSyncLoss_canon s s' h hc
  | timeMarkerSend => exact execTimeMarkerSend_canon s s' h hc
  | ledgerIntakeCommit => exact execLedgerIntakeCommit_canon s s' h hc
  | frameZeroStart => exact execFrameZeroStart_canon s s' h hc
  | frameBoundary => exact execFrameBoundary_canon s s' h hc
  | stagingClose => exact execStagingClose_canon s s' h hc
  | boostReady => exact execBoostReady_canon s s' h hc
  | boostReadyLoss => exact execBoostReadyLoss_canon s s' h hc
  | boostNotReady => exact execBoostNotReady_canon s s' h hc
  | boostOvp => exact execBoostOvp_canon s s' h hc
  | lfControlStep => exact execLfControlStep_canon s s' h hc
  | lfSeqOverrun => exact execLfSeqOverrun_canon s s' h hc
  | doorbellFetch => exact execDoorbellFetch_canon s s' h hc
  | cipherStartDone => exact execCipherStartDone_canon s s' h hc
  | eraseComplete => exact execEraseComplete_canon s s' h hc
  | challengeStart => exact execChallengeStart_canon s s' h hc
  | challengeEnd => exact execChallengeEnd_canon s s' h hc
  | tkrStrobe => exact execTkrStrobe_canon s s' h hc
  | replySlotEnd => exact execReplySlotEnd_canon s s' h hc
  | replyVerified => exact execReplyVerified_canon s s' h hc
  | lockoutEnd => exact execLockoutEnd_canon s s' h hc
  | sessionTimeout => exact execSessionTimeout_canon s s' h hc
  | eventRecord => exact execEventRecord_canon s s' h hc
  | opsecTick => exact execOpsecTick_canon s s' h hc
  | swapTimeout => exact execSwapTimeout_canon s s' h hc
  | lanternDue => exact execLanternDue_canon s s' h hc
  | wakeStart => exact execWakeStart_canon s s' h hc
  | mgpStatus => exact execMgpStatus_canon s s' h hc
  | parkTimerWake => exact execParkTimerWake_canon s s' h hc
  | wakeRetry => exact execWakeRetry_canon s s' h hc
  | rqbRequest => exact execRqbRequest_canon s s' h hc
  | rqbRetry => exact execRqbRetry_canon s s' h hc
  | regFail => exact execRegFail_canon s s' h hc
  | shutdownTimeout => exact execShutdownTimeout_canon s s' h hc
  | parkEntry => exact execParkEntry_canon s s' h hc
  | wakeVoltageOk => exact execWakeVoltageOk_canon s s' h hc
  | boostOvpEnd => exact execBoostOvpEnd_canon s s' h hc
  | pcieLinkUp => exact execPcieLinkUp_canon s s' h hc

/-- Settles O42: a step is one command, on the same register file, or one tick of the clock. -/
theorem registerFileStaysCanonical : Obligations.RegisterFileStaysCanonical := by
  intro s t hc h
  unfold step at h
  split at h
  · cases h
    exact State.clockTick_canon s hc
  · exact exec_canonical h hc

/-- Settles O43: the fields of a word are disjoint ranges of its bits, and the words disjoint keys of the register file. -/
theorem fieldWriteAndRead : Obligations.FieldWriteAndRead := by
  intro s f v hc hf
  refine ⟨s.rd_wr_self hc f v hf, fun g hg => ?_, rfl⟩
  obtain hoff | hbits := hg
  · exact s.rd_wr_ne hc f g v hoff
  · exact s.rd_wr_disjoint hc f g v hf hbits

end Sys2Proof.Proofs.Scope
end

section
/-! PROOFS. The registers as BAR0 reaches them, and their values at reset. -/

namespace Sys2Proof.Proofs.Scope

open Sys2Proof Sys2Proof.Machine Sys2Proof.Safety

/-! ### Writes over BAR0 -/

/-- A word-aligned 32-bit write to a register of die L reaches it (R5, R418). -/
theorem busWrite_dieL {s : State} {off : Nat} (v : W32) (hs : s.started = true) (hr : off < 0x100000) (ha : off % 4 = 0) (hd : regDie off = none) :
    s.busWrite off 4 v = s.writeReg off v := by
  simp [State.busWrite, hs, ha, hd, Nat.not_le.mpr hr]

/-- A word of 32 bits without behaviour of its own takes the write into its RW and W1C fields (R7, R8). -/
theorem writeReg_fields {s : State} {off : Nat} {r : RegRow} {v : W32} (hr : regRow off = some r) (ho : s.writeOwn off v.toNat = none)
    (hw : r.wide = 0) (hl : r.rwl = 0) (hp : r.otp = 0) : s.writeReg off v = s.writeFields off r v := by
  simp [State.writeReg, State.writeLocked, hr, ho, hw, hl, hp]

/-- The high word of a writable 64-bit register takes the held low word with it (R472). -/
theorem writeReg_high {s : State} {off : Nat} {r : RegRow} {v : W32} (hr : regRow off = some r) (ho : s.writeOwn off v.toNat = none)
    (hw : r.wide = 2) (hn : r.rw ≠ 0) : s.writeReg off v = s.writeHigh off v := by
  simp [State.writeReg, hr, ho, hw, hn]

/-- Where a low word is held, both words are written and the hold ends (R472). -/
theorem writeHigh_held {s : State} {off : Nat} {lo : W32} (v : W32) (hl : SMap.get (fun _ => none) s.latches.low (off - 4) = some lo) :
    s.writeHigh off v = { (s.setWord (off - 4) lo).setWord off v with
      latches := { s.latches with low := SMap.set (fun _ => none) s.latches.low (off - 4) none } } := by
  simp [State.writeHigh, hl]

/-! ### Reads over BAR0 -/

/-- A read of the low word of a 64-bit register of die L latches the high word (R5, R472). -/
theorem readLow_dieL {s : State} {off : Nat} {r : RegRow} (hs : s.started = true) (hr : regRow off = some r) (hw : r.wide = 1)
    (hd : regDie off = none) : s.readLow off = s.latchHigh off := by
  simp [State.readLow, hs, hr, hw, hd]

/-- A PEEK of a defined entry shows the bytes of the entry after its expiry is settled (R56, R57, R68). -/
theorem peek_defined {s : State} {v : W32} {a : Attr} (ha : s.attr (v.toNat % 2 ^ 17) = some a) :
    s.peek v =
      let s1 := ((s.wr Reg.LEDG_PEEKIDX.IDX (v.toNat % 2 ^ 17)).wr64 Reg.LEDG_PEEKT.T s.now).expire (v.toNat % 2 ^ 17)
      (List.range 8).foldl (fun q k => q.setWord (Reg.LEDG_PEEK0.W.off + 4 * k)
        (BitVec.ofNat 32 (byteField (entryBytes a (s1.live (v.toNat % 2 ^ 17)) s.now) (4 * k) 4))) s1 := by
  simp only [State.peek, ha]

/-- Settles O1: each access reaches its register, and each register has one of the four behaviours above. -/
theorem registerCommands : Obligations.RegisterCommands := by
  refine ⟨?write, ?readLow, ?writeHigh, ?peek⟩
  case write =>
    intro s off v r hs hr ha hd hrow ho hw hl hp
    exact congrArg _ ((busWrite_dieL v hs hr ha hd).trans (writeReg_fields hrow ho hw hl hp))
  case readLow =>
    intro s off r hs hrow hw hd
    exact congrArg _ (readLow_dieL hs hrow hw hd)
  case writeHigh =>
    intro s off v lo r hs hr ha hd hrow ho hw hn hlo
    have hcmd : exec (.write64HighWord off v) s = .next (s.busWrite off 4 v) := by
      simp [exec, execWrite64HighWord, hrow, hw]
    rw [hcmd, busWrite_dieL v hs hr ha hd, writeReg_high hrow ho hw hn, writeHigh_held v hlo]
  case peek =>
    intro s v a hs ha
    have hcmd : exec (.ledgPeekidxWrite v) s = .next (s.peek v) := by
      simp [exec, execLedgPeekidxWrite, hs]
    rw [hcmd, peek_defined ha]

/-! ### Reset -/

/-- A listed word has the reset value of its row. -/
theorem resetWord_of_regRow {off : Nat} {r : RegRow} (h : regRow off = some r) : resetWord off = BitVec.ofNat 32 r.reset := by
  simp [resetWord, h]

/-- The register file of the reset state lists no word, so that each reads its reset value. -/
theorem reset_word (off : Nat) : State.reset.word off = resetWord off := rfl

/-- Settles O38: the empty register file shows the reset values of the tables. -/
theorem resetRegisterValues : Obligations.ResetRegisterValues :=
  ⟨fun off _ h => (reset_word off).trans (resetWord_of_regRow h), rfl, rfl, rfl, rfl⟩

end Sys2Proof.Proofs.Scope
end

section
/-! PROOFS. A RETIRED device refuses what would change its configuration (R405), after the body is checked (R12). -/

namespace Sys2Proof.Proofs.Scope

open Sys2Proof Sys2Proof.Machine Sys2Proof.Safety

/-- The offset and the length of a CFG_WRITE lie within the bank and are multiples of 4 (R398). -/
def WriteBodyOk (o : HostOp) : Prop :=
  o.fld 20 4 % 4 = 0 ∧ 4 ≤ o.fld 32 4 ∧ o.fld 32 4 ≤ 65536 ∧ o.fld 32 4 % 4 = 0 ∧ o.fld 20 4 + o.fld 32 4 ≤ 2097152

/-- The minimum of a CFG_RAISEMIN lies above the current one and at most at the VERSION of the ACTIVE bank (R404). -/
def RaiseBodyOk (s : State) (o : HostOp) : Prop :=
  s.hasBank = true ∧ s.otp.minver < o.fld 20 4 ∧ o.fld 20 4 ≤ s.rd (Reg.CFG_BVER.VERSION s.activeBank)

/-- A LIFECYCLE names the next state and carries the check byte (R405). -/
def LifeBodyOk (s : State) (o : HostOp) : Prop := o.fld 16 1 = s.otp.life + 1 ∧ o.fld 17 1 = 0xA5

/-- A ROOT_PROVISION names a root, and a READY key slot that permits GCM or none (R406, log entry 127). -/
def ProvisionBodyOk (s : State) (o : HostOp) : Prop :=
  o.fld 16 1 ≤ 3 ∧ (o.fld 17 1 = 0xFF ∨
    o.fld 17 1 < 64 ∧ s.rd (Reg.CRY_SLOT.STATE (o.fld 17 1)) = 1 ∧ bitOf (s.rd (Reg.CRY_SLOT.MODES (o.fld 17 1))) 4 = true)

/-- `u` is `s` with operation `opc` refused as RETIRED does it: CONFIG_MISMATCH 10 where its body is well formed, INVALID_REQUEST where it is not. -/
def RefusedRetired (s : State) (t opc : Nat) (wellFormed : Prop) (u : State) : Prop :=
  (wellFormed → u = s.cfgDone t opc St.configMismatch 10) ∧ (¬wellFormed → u = s.cfgDone t opc St.invalid)

/-- In RETIRED neither the operation's own condition nor its effect is reached (R12, R405). -/
theorem cfgOp_retired {s : State} {t opc : Nat} {good : Bool} {wellFormed : Prop} {own : Option (Nat × Nat)} {f : State}
    (hl : s.otp.life = 2) (hg : good = true ↔ wellFormed) : RefusedRetired s t opc wellFormed (s.cfgOp t opc good own f) := by
  constructor
  · intro hw
    simp [State.cfgOp, hg.mpr hw, hl]
  · intro hw
    have hbad : good = false := by simpa using mt hg.mp hw
    simp [State.cfgOp, hbad]

section Retired

variable {s : State} {t : Nat} {o : HostOp} (hl : s.otp.life = 2)
include hl

theorem cfgCommit_retired (ho : s.opReady t 0x61 = some o) : RefusedRetired s t 0x61 True (s.cfgCommit t) := by
  simp only [State.cfgCommit, ho]
  exact cfgOp_retired hl (by simp)

theorem cfgRollback_retired (ho : s.opReady t 0x62 = some o) : RefusedRetired s t 0x62 True (s.cfgRollback t) := by
  simp only [State.cfgRollback, ho]
  exact cfgOp_retired hl (by simp)

theorem debugUnlock_retired (ho : s.opReady t 0x67 = some o) : RefusedRetired s t 0x67 True (s.debugUnlock t) := by
  simp only [State.debugUnlock, ho]
  exact cfgOp_retired hl (by simp)

/-- TEST_MODE is for MANUFACTURE alone (R404), so that RETIRED needs no test of its own. -/
theorem testMode_retired (ho : s.opReady t 0x68 = some o) : s.testMode t = s.cfgDone t 0x68 St.configMismatch 10 := by
  simp [State.testMode, ho, hl]

theorem cfgWrite_retired (x : ReadResult) (ho : s.opReady t 0x60 = some o) : RefusedRetired s t 0x60 (WriteBodyOk o) (s.cfgWrite t x) := by
  simp only [State.cfgWrite, ho]
  exact cfgOp_retired hl (by simp [WriteBodyOk, and_assoc])

theorem cfgRaisemin_retired (ho : s.opReady t 0x64 = some o) : RefusedRetired s t 0x64 (RaiseBodyOk s o) (s.cfgRaisemin t) := by
  simp only [State.cfgRaisemin, ho]
  exact cfgOp_retired hl (by simp [RaiseBodyOk, and_assoc])

theorem lifecycle_retired (ho : s.opReady t 0x65 = some o) : RefusedRetired s t 0x65 (LifeBodyOk s o) (s.lifecycle t) := by
  simp only [State.lifecycle, ho]
  exact cfgOp_retired hl (by simp [LifeBodyOk])

theorem rootProvision_retired (x : ReadResult) (ho : s.opReady t 0x66 = some o) :
    RefusedRetired s t 0x66 (ProvisionBodyOk s o) (s.rootProvision t x) := by
  simp only [State.rootProvision, ho]
  exact cfgOp_retired hl (by simp [ProvisionBodyOk, and_assoc])

end Retired

/-- Settles O49: TEST_MODE by its own condition, the other seven by the order in which an operation of R398 meets its conditions. -/
theorem retiredRefusesConfiguration : Obligations.RetiredRefusesConfiguration := by
  intro s t x o hl
  refine ⟨?commit, ?rollback, ?debug, ?test, ?write, ?writeBad, ?raise, ?raiseBad, ?life, ?lifeBad, ?root, ?rootBad⟩
  case commit => exact fun ho => congrArg _ ((cfgCommit_retired hl ho).1 trivial)
  case rollback => exact fun ho => congrArg _ ((cfgRollback_retired hl ho).1 trivial)
  case debug => exact fun ho => congrArg _ ((debugUnlock_retired hl ho).1 trivial)
  case test => exact fun ho => congrArg _ (testMode_retired hl ho)
  case write => exact fun ho hw => congrArg _ ((cfgWrite_retired hl x ho).1 hw)
  case writeBad => exact fun ho hw => congrArg _ ((cfgWrite_retired hl x ho).2 hw)
  case raise => exact fun ho hw => congrArg _ ((cfgRaisemin_retired hl ho).1 hw)
  case raiseBad => exact fun ho hw => congrArg _ ((cfgRaisemin_retired hl ho).2 hw)
  case life => exact fun ho hw => congrArg _ ((lifecycle_retired hl ho).1 hw)
  case lifeBad => exact fun ho hw => congrArg _ ((lifecycle_retired hl ho).2 hw)
  case root => exact fun ho hw => congrArg _ ((rootProvision_retired hl x ho).1 hw)
  case rootBad => exact fun ho hw => congrArg _ ((rootProvision_retired hl x ho).2 hw)

end Sys2Proof.Proofs.Scope
end

section
/-! PROOFS. The frames of the named operations: what each may change, as the state it answers with those parts left open. -/

namespace Sys2Proof.Proofs.Scope

open Sys2Proof Sys2Proof.Machine Sys2Proof.Safety

/-! ### Links, raises and events -/

theorem setLink_frame (s : State) (d : Die) (l : DieLink) : ∃ a b c, s.setLink d l = { s with linkP0 := a, linkP1 := b, linkV := c } := by
  cases d <;> exact ⟨_, _, _, rfl⟩

/-- A die's raise is kept or dropped, in its link either way (R361). -/
theorem raiseD_frame (s : State) (d : Die) (src kind stamp : Nat) :
    ∃ a b c, s.raiseD d src kind stamp = { s with linkP0 := a, linkP1 := b, linkV := c } := by
  unfold State.raiseD
  dsimp only
  split <;> exact setLink_frame s d _

/-- An event is queued, or discarded and counted in a register (R388). -/
theorem event_frame (s : State) (code tick p1 p2 p3 : Nat) : ∃ e r, s.event code tick p1 p2 p3 = { s with evr := e, regs := r } := by
  unfold State.event State.record
  split <;> exact ⟨_, _, rfl⟩

theorem faultL_frame (s : State) (src kind stamp p2 p3 : Nat) :
    ∃ f e r, s.faultL src kind stamp p2 p3 = { s with flt := f, evr := e, regs := r } := by
  obtain ⟨e, r, h⟩ := event_frame (s.raiseL src kind stamp) (raiseCode src kind) stamp src p2 p3
  exact ⟨_, e, r, h⟩

theorem faultD_frame (s : State) (d : Die) (src kind stamp p2 p3 : Nat) :
    ∃ a b c e r, s.faultD d src kind stamp p2 p3 = { s with linkP0 := a, linkP1 := b, linkV := c, evr := e, regs := r } := by
  obtain ⟨a, b, c, hd⟩ := raiseD_frame s d src kind stamp
  obtain ⟨e, r, h⟩ := event_frame (s.raiseD d src kind stamp) (raiseCode src kind) stamp src p2 p3
  rw [hd] at h
  refine ⟨a, b, c, e, r, ?_⟩
  rw [State.faultD, hd, h]

theorem setAna_frame (s : State) (d : Die) (x : DieAna) : ∃ a b c, s.setAna d x = { s with anaP0 := a, anaP1 := b, anaV := c } := by
  cases d <;> exact ⟨_, _, _, rfl⟩

theorem begin_frame (s : State) (t : Nat) : ∃ h, s.begin t = { s with host := h } := by
  unfold State.begin
  split <;> exact ⟨_, rfl⟩

/-! ### Completions (R294 to R299, R305) -/

/-- `u` is `s` but for the host interface, what it sends and the queue of raises. -/
def HostStep (s u : State) : Prop := ∃ h o f, u = { s with host := h, out := o, flt := f }

theorem HostStep.refl (s : State) : HostStep s s := ⟨_, _, _, rfl⟩

theorem HostStep.trans {s u v : State} (hu : HostStep s u) (hv : HostStep u v) : HostStep s v := by
  obtain ⟨_, _, _, rfl⟩ := hu
  obtain ⟨_, _, _, rfl⟩ := hv
  exact ⟨_, _, _, rfl⟩

theorem emit_hostStep (s : State) (o : Output) : HostStep s (s.emit o) := ⟨_, _, _, rfl⟩

theorem setCq_hostStep (s : State) (q : Nat) (x : Cq) : HostStep s (s.setCq q x) := ⟨_, _, _, rfl⟩

theorem setSq_hostStep (s : State) (q : Nat) (x : Sq) : HostStep s (s.setSq q x) := ⟨_, _, _, rfl⟩

theorem dropOp_hostStep (s : State) (t : Nat) : HostStep s (s.dropOp t) := ⟨_, _, _, rfl⟩

theorem raiseL_hostStep (s : State) (src kind stamp : Nat) : HostStep s (s.raiseL src kind stamp) := ⟨_, _, _, rfl⟩

theorem begin_hostStep (s : State) (t : Nat) : HostStep s (s.begin t) := by
  obtain ⟨h, hb⟩ := begin_frame s t
  exact ⟨h, _, _, hb⟩

theorem ite_hostStep {s u v : State} (c : Prop) [Decidable c] (hu : HostStep s u) (hv : HostStep s v) : HostStep s (if c then u else v) := by
  split
  · exact hu
  · exact hv

/-- The host writes of an operation leave the device one after the other (R297). -/
theorem hostWrites_hostStep (ws : List (Nat × List Byte)) (s : State) : HostStep s (ws.foldl (fun s w => s.emit (.hostWrite w.1 w.2)) s) := by
  induction ws generalizing s with
  | nil => exact .refl s
  | cons w ws ih => exact (emit_hostStep s _).trans (ih _)

theorem msix_hostStep (s : State) (v : Nat) : HostStep s (s.msix v) := by
  unfold State.msix
  dsimp only
  refine ite_hostStep _ (.refl s) (ite_hostStep _ ?_ (ite_hostStep _ (emit_hostStep s _) (ite_hostStep _ (.refl s) ?_)))
  · exact ⟨_, _, _, rfl⟩
  · exact ⟨_, _, _, rfl⟩

theorem moderate_hostStep (s : State) (q : Nat) : HostStep s (s.moderate q) := by
  unfold State.moderate
  dsimp only
  refine ite_hostStep _ (.refl s) (ite_hostStep _ ?_ ?_)
  · exact (setCq_hostStep s q _).trans (msix_hostStep _ _)
  · exact setCq_hostStep s q _

theorem writeCpl_hostStep (s : State) (c : Cpl) : HostStep s (s.writeCpl c) := by
  have hEntry (u : State) (a b : Output) (q : Nat) (x : Cq) : HostStep u (((u.emit a).emit b).setCq q x) :=
    ((emit_hostStep u a).trans (emit_hostStep _ b)).trans (setCq_hostStep _ q x)
  have hTag (u : State) : HostStep u (if c.refused then u else u.dropOp c.tag) := ite_hostStep _ (.refl u) (dropOp_hostStep u _)
  exact (((hostWrites_hostStep c.writes s).trans (hEntry _ _ _ _ _)).trans (hTag _)).trans (moderate_hostStep _ _)

/-- The release of a drained ring completes its removal, which may release the ring that carried it (R305). -/
theorem releaseFrom_hostStep (n : Nat) (s : State) (q : Nat) : HostStep s (s.releaseFrom n q) := by
  induction n generalizing s q with
  | zero => exact .refl s
  | succ n ih =>
    unfold State.releaseFrom
    dsimp only
    split
    · have hRaise : HostStep s (if (s.sq q).drained then (s.setSq q {}).raiseL 0x0A02 0x1A s.now else s.setSq q {}) :=
        ite_hostStep _ ((setSq_hostStep s q {}).trans (raiseL_hostStep _ _ _ _)) (setSq_hostStep s q {})
      split
      · exact hRaise
      · exact (hRaise.trans (writeCpl_hostStep _ _)).trans (ih _ _)
    · exact .refl s

theorem issue_hostStep (s : State) (c : Cpl) : HostStep s (s.issue c) := by
  have hHold : HostStep s (if c.refused then s else s.begin c.tag) := ite_hostStep _ (.refl s) (begin_hostStep s _)
  unfold State.issue
  dsimp only
  refine ite_hostStep _ (.refl s) (ite_hostStep _ ?_ ?_)
  · exact (writeCpl_hostStep s c).trans (releaseFrom_hostStep 32 _ _)
  · exact hHold.trans ⟨_, _, _, rfl⟩

theorem complete_hostStep (s : State) (t status reason stamp : Nat) (result : List Byte) (writes : List (Nat × List Byte)) :
    HostStep s (s.complete t status reason stamp result writes) := by
  unfold State.complete
  split
  · exact .refl s
  · exact ite_hostStep _ (.refl s) (issue_hostStep s _)

/-- Settles O51: the setters by their definitions, the branching operations by their frames above. -/
theorem operationFrames : Obligations.OperationFrames := by
  refine ⟨fun _ _ => rfl, fun _ _ _ => rfl, fun _ _ _ => rfl, fun _ _ _ => rfl, fun _ _ => rfl, fun _ _ _ _ => rfl, ?raiseD, ?event, ?faultL,
    ?faultD, ?begin, ?setLink, ?setAna, fun _ _ _ => rfl, fun _ _ _ => rfl, fun _ _ _ => rfl, fun _ _ _ => rfl, fun _ _ _ => rfl, fun _ _ _ => rfl,
    fun _ _ _ => rfl, fun _ _ _ => rfl, fun _ _ _ => rfl, fun _ _ _ => rfl, fun _ _ _ => rfl, fun _ _ _ => rfl, ?complete⟩
  case raiseD =>
    intro s d src kind stamp
    obtain ⟨_, _, _, h⟩ := raiseD_frame s d src kind stamp
    rw [h]
  case event =>
    intro s code tick p1 p2 p3
    obtain ⟨_, _, h⟩ := event_frame s code tick p1 p2 p3
    rw [h]
  case faultL =>
    intro s src kind stamp p2 p3
    obtain ⟨_, _, _, h⟩ := faultL_frame s src kind stamp p2 p3
    rw [h]
  case faultD =>
    intro s d src kind stamp p2 p3
    obtain ⟨_, _, _, _, _, h⟩ := faultD_frame s d src kind stamp p2 p3
    rw [h]
  case begin =>
    intro s t
    obtain ⟨_, h⟩ := begin_frame s t
    rw [h]
  case setLink =>
    intro s d l
    obtain ⟨_, _, _, h⟩ := setLink_frame s d l
    rw [h]
  case setAna =>
    intro s d x
    obtain ⟨_, _, _, h⟩ := setAna_frame s d x
    rw [h]
  case complete =>
    intro s t status reason stamp result writes
    obtain ⟨_, _, _, h⟩ := complete_hostStep s t status reason stamp result writes
    rw [h]

end Sys2Proof.Proofs.Scope
end

section
/-! PROOFS. The device at a glance: the frame cycle, votes and power operations, device reset and limp, and what one step runs. -/

namespace Sys2Proof.Proofs.Scope

open Sys2Proof Sys2Proof.Machine Sys2Proof.Safety

/-! ### The frame cycle on die L (R20, R21, R36) -/

/-- Frame 0 starts at the first multiple of 2,000 ticks at which the time base and the dies are ready for it (R36). -/
theorem frameZeroStart_due {s : State} (hs : s.started = true) (hf : s.tb.framesOn = false) (ht : s.tbSt ≠ .starting) (hn : s.now % 2000 = 0)
    (hp : s.power = Pw.waking) (hd : s.diesConfirmed = true) : s.frameZeroStart = s.frameZero s.now := by
  simp [State.frameZeroStart, hs, hf, ht, hn, hp, hd]

/-- A boundary for which no park flag was sent is not the last: the frame completes and the next one begins (R20, R21, R427). -/
theorem frameBoundary_next {s : State} (hs : s.started = true) (hf : s.tb.framesOn = true) (hc : s.tb.closed = true)
    (hb : s.bound + s.period ≤ s.now) (hp : (s.showUsedAll.frameDone.commitStagedAll (s.bound + s.period)).pow.parkSent = false) :
    s.frameBoundary = (s.showUsedAll.frameDone.commitStagedAll (s.bound + s.period)).nextFrame (s.bound + s.period) := by
  simp [State.frameBoundary, hs, hf, hc, hb, hp]

/-! ### A die's link and boundary (R35, R37) -/

/-- A message that comes within its time raises no link fault (R35; log entry 54). -/
theorem downLate_inTime {s : State} (d : Die) {b : Nat} (h : s.now + 1600 ≤ b) : s.downLate d b = s :=
  if_neg (Nat.not_lt.mpr h)

/-- A staged write at the front of the link is held for its boundary (R37). -/
theorem stagedArrives_staged {s s1 : State} {d : Die} {w : DieWrite} {b : Nat} (h : s.popDown d = some (.staged w b, s1)) :
    s.stagedArrives d = (s1.downLate d b).holdWrite d w b := by
  simp only [State.stagedArrives, h]

/-- A close message in time for its boundary waits for it (R37). -/
theorem closeArrives_inTime {s s1 : State} {d : Die} {c : CloseMsg} (h : s.popDown d = some (.close c, s1)) (hn : s1.now + 1600 ≤ c.bound)
    (hd : s1.dieNow d ≤ c.bound) : s.closeArrives d = s1.setLink d { s1.link d with close := some c } := by
  simp only [State.closeArrives, h, downLate_inTime d hn, if_neg (Nat.not_lt.mpr hd)]

/-- Whether a main domain is ready does not depend on the links. -/
theorem domReady_setLink (s : State) (d e : Die) (l : DieLink) : (s.setLink d l).domReady e = s.domReady e := by
  cases d <;> rfl

/-- A die whose main domain runs takes the boundary of its close message when its own counter reaches it (R37). -/
theorem dieBoundary_awake {s : State} {d : Die} {c : CloseMsg} (hc : (s.link d).close = some c) (hn : c.bound ≤ s.dieNow d)
    (hr : s.domReady d = true) (ho : c.only = false) :
    s.dieBoundary d = (s.setLink d { s.link d with close := none }).boundaryAwake d c := by
  simp [State.dieBoundary, hc, Nat.not_lt.mpr hn, domReady_setLink, hr, ho]

/-- Settles O7: each clause meets the guard of its command, and the messages to a die are taken off its link in time. -/
theorem frameCommands : Obligations.FrameCommands := by
  refine ⟨?frameZero, ?snapshot, ?close, ?boundary, ?staged, ?closeMessage, ?apply⟩
  case frameZero => exact fun s hs hf ht hn hp hd => congrArg _ (frameZeroStart_due hs hf ht hn hp hd)
  case snapshot => exact fun s r hs hf hu hb => congrArg _ (if_pos (by simp [hs, hf, hu, hb]))
  case close =>
    intro s hs hf hu hc hb he
    have hdue : (s.started && s.tb.framesOn && s.tb.sealed && !s.tb.closed && decide (s.bound + s.period ≤ s.now + 2000)) = true := by
      simp [hs, hf, hu, hc, hb]
    show Host.Outcome.next s.stagingClose = _
    simp only [State.stagingClose, if_pos hdue, if_pos he]
  case boundary => exact fun s hs hf hc hb hp => congrArg _ (frameBoundary_next hs hf hc hb hp)
  case staged =>
    intro s d w b s1 h hn
    have harrives : s.stagedArrives d = s1.holdWrite d w b := by rw [stagedArrives_staged h, downLate_inTime d hn]
    exact congrArg _ harrives
  case closeMessage => exact fun s d c s1 h hn hd => congrArg _ (closeArrives_inTime h hn hd)
  case apply => exact fun s d c hc hn hr ho => congrArg _ (dieBoundary_awake hc hn hr ho)

/-! ### Votes and power operations of the host (R424, R431) -/

section PowerOperation

variable {s : State} {t : Nat} {o : HostOp}

theorem pwrVote_park (ho : s.opReady t 0x70 = some o) (hv : o.fld 16 1 = 1) : s.pwrVote t = (s.voteHost true).complete t St.ok 0 s.now := by
  simp only [State.pwrVote, ho, hv, if_true]

theorem pwrVote_withdraw (ho : s.opReady t 0x70 = some o) (hv : o.fld 16 1 = 2) : s.pwrVote t = (s.voteHost false).complete t St.ok 0 s.now := by
  simp [State.pwrVote, ho, hv]

theorem pwrStatus_ready (ho : s.opReady t 0x71 = some o) :
    s.pwrStatus t = s.complete t St.ok 0 0 ((List.range 8).flatMap (fun i => leBytes 4 (s.readWord (0x01000 + 4 * i)).toNat)) := by
  simp only [State.pwrStatus, ho]

theorem pwrTimer_ready (ho : s.opReady t 0x72 = some o) : s.pwrTimer t = (s.wr Reg.PWR_TIMER.SEC (o.fld 20 4)).complete t St.ok := by
  simp only [State.pwrTimer, ho]

end PowerOperation

/-! ### Device reset (R28, R389, R427) -/

/-- Before the last boundary a device reset stops die L and boots it again (R28). -/
theorem deviceReset_running {s : State} (why : Nat) (pass : List Bool) (hs : s.started = true) (hb : s.pow.lastBound = none) :
    s.deviceReset why pass = s.accPark.stopL.boot why 0 pass := by
  simp [State.deviceReset, hs, hb]

/-- After the last boundary a device reset abandons what is left of the park sequence on die L (R427), and what waits for the recorder is lost (R389). -/
theorem deviceReset_afterLast {s : State} (why : Nat) (pass : List Bool) (hs : s.started = true) (hb : s.pow.lastBound.isSome = true) :
    s.deviceReset why pass =
      let s1 := s.busesCut.hostStop
      { s1 with pow := { s1.pow with forcedDue := false }, evr := { s1.evr with queue := [], discards := 0 } } := by
  simp [State.deviceReset, hs, hb]

/-- Settles O9: an operation that is ready has its effect, a reset is told apart by the last boundary, and limp is entered where it is due. -/
theorem voteAndResetCommands : Obligations.VoteAndResetCommands := by
  refine ⟨?park, ?withdraw, ?status, ?timer, ?ctlPark, ?ctlWithdraw, ?reset, ?resetAfterLast, ?limp⟩
  case park => exact fun s t o ho hv => congrArg _ (pwrVote_park ho hv)
  case withdraw => exact fun s t o ho hv => congrArg _ (pwrVote_withdraw ho hv)
  case status => exact fun s t o ho => congrArg _ (pwrStatus_ready ho)
  case timer => exact fun s t o ho => congrArg _ (pwrTimer_ready ho)
  case ctlPark => exact fun s hs => congrArg _ (if_pos hs)
  case ctlWithdraw => exact fun s hs => congrArg _ (if_pos hs)
  case reset => exact fun s mgp pass hs hb => congrArg _ (deviceReset_running _ pass hs hb)
  case resetAfterLast => exact fun s mgp pass hs hb => congrArg _ (deviceReset_afterLast _ pass hs hb)
  case limp => exact fun s d hr hp hl hd => congrArg _ (if_pos (by simp [hr, hp, hl, hd]))

/-! ### One step (R15, R16) -/

/-- A step takes the first waiting command off the queue and runs it. -/
theorem step_of_pending_cons {s : State} {c : Instr} {rest : List Instr} (h : s.pending = c :: rest) :
    step s = exec c { s with pending := rest } := by
  simp only [step, h]

/-- With no command waiting a tick passes (log entry 2). -/
theorem step_of_pending_nil {s : State} (h : s.pending = []) : step s = .next s.clockTick := by
  simp only [step, h]

/-- Settles O36: the two forms of the queue are the two cases of a step. -/
theorem stepRunsFrontCommand : Obligations.StepRunsFrontCommand :=
  ⟨fun _ _ _ => step_of_pending_cons, fun _ => step_of_pending_nil⟩

end Sys2Proof.Proofs.Scope
end

section
/-! PROOFS. Time and frames: the time base and its crystal, the islands at the markers, the fault collector and its operations. -/

namespace Sys2Proof.Proofs.Time

open Sys2Proof Sys2Proof.Machine

/-! ### The crystal (R29 to R31) -/

/-- A crystal that is stable within 10 ms of the start ends STARTING, and STARTT holds the time it took (R29, R30). -/
theorem crystalStable_starting {s : State} (hs : s.started = true) (hx : s.flag Reg.TIME_STATE.XTALOK = false) (ht : s.tbSt = .starting)
    (hn : s.now ≤ s.tb.startTick + 2000000) :
    s.crystalStable = (({ s.raiseFlag Reg.TIME_STATE.XTALOK with tb := { s.tb with crystalSince := some s.now } } : State).wr Reg.TIME_XTAL.STARTT
      ((s.now - s.tb.startTick) / 1000)).setTb .crystal := by
  simp [State.crystalStable, hs, hx, ht, hn]

/-- The failure of the crystal that the time base runs on degrades it (R30, R31). -/
theorem crystalFail_inUse {s : State} (hx : s.flag Reg.TIME_STATE.XTALOK = true) (ht : s.tbSt = .crystal ∨ s.tbSt = .synced) :
    s.crystalFail =
      ({ (s.wr Reg.TIME_STATE.XTALOK 0).count Reg.TIME_XTAL.FAILS 1 with tb := { s.tb with crystalSince := none } } : State).setTb .degraded := by
  rcases ht with ht | ht <;> simp [State.crystalFail, hx, ht]

/-- STARTING that lasts 10 ms ends without a crystal (R29). -/
theorem startingTimeout_due {s : State} (hs : s.started = true) (ht : s.tbSt = .starting) (hn : s.tb.startTick + 2000000 ≤ s.now) :
    s.startingTimeout = (s.wr Reg.TIME_XTAL.STARTT 0xFFFF).setTb .degraded :=
  if_pos (by simp [hs, ht, hn])

/-- The boundary at which the return is due takes the time base back to its crystal (R31). -/
theorem degradedReturn_due {s : State} (hf : s.tb.framesOn = true) (hr : s.returnDue s.bound = true) (hb : s.bound ≤ s.now) :
    s.degradedReturn = s.setTb .crystal :=
  if_pos (by simp [hf, hr, hb])

/-! ### 802.1AS disciplining (R29, R32) -/

/-- A Sync after another one counts toward convergence by the rate error between the two, and starts the count anew where it is too large (R29, R32). -/
theorem asSync_afterSync {s : State} {g c : Int} {t0 : Nat} {g0 : Int} (hs : s.started = true) (hp : s.asPortUp = true)
    (hl : s.tb.lastSync = some (t0, g0)) :
    s.asSync g c =
      let s1 := (s.wr64 Reg.TIME_ASOFS.OFS (fieldOfInt 64 (g - 5 * s.now))).raiseFlag Reg.TIME_STATE.ASSYNC
      let s2 := if s.flag Reg.TIME_DISC.ASEN then s1.wr Reg.TIME_RATE.CORR (fieldOfInt 24 (clampInt (-s.slewLimit) s.slewLimit c)) else s1
      { s2 with tb := { s2.tb with lastSync := some (s.now, g), syncCount := if rateGood t0 g0 s.now g then s.tb.syncCount + 1 else 0 } } := by
  have hUsed : ¬(!s.started || !s.asPortUp) = true := by simp [hs, hp]
  simp only [State.asSync, if_neg hUsed, hl]

/-- A time base on its crystal that has converged is SYNCED (R29). -/
theorem asConverged_due {s : State} (ht : s.tbSt = .crystal) (hs : s.started = true) (he : s.flag Reg.TIME_DISC.ASEN = true)
    (ha : s.flag Reg.TIME_STATE.ASSYNC = true) (hc : 16 ≤ s.tb.syncCount) : s.asConverged = s.setTb .synced :=
  if_pos ⟨ht, hs, he, ha, hc⟩

/-- The loss of the Syncs starts the convergence anew, is recorded, and ends SYNCED (R29, R32). -/
theorem asSyncLoss_synced {s : State} (ha : s.flag Reg.TIME_STATE.ASSYNC = true) :
    s.asSyncLoss =
      let s2 := ({ s.wr Reg.TIME_STATE.ASSYNC 0 with tb := { s.tb with syncCount := 0, lastSync := none } } : State).faultL 0x0E20 0x34 s.now
      if s.tbSt = .synced then s2.setTb .crystal else s2 :=
  if_neg (by simp [ha])

/-! ### Markers and locks of the islands (R33, R34) -/

/-- A marker sent to each die goes behind what is on its link and changes nothing else (R16, R33). -/
theorem sendMarker_allDies (s : State) :
    allDies.foldl (fun q d => q.sendDown d (.marker q.now)) s =
      { s with linkP0 := { s.linkP0 with down := s.linkP0.down ++ [.marker s.now] }, linkP1 := { s.linkP1 with down := s.linkP1.down ++ [.marker s.now] },
               linkV := { s.linkV with down := s.linkV.down ++ [.marker s.now] } } := rfl

/-- At a multiple of 200 ticks the markers of that tick leave once (R33). -/
theorem timeMarkerSend_due {s : State} (hs : s.started = true) (hn : s.now % 200 = 0) (hm : s.tb.markersSent ≠ s.now) :
    s.timeMarkerSend =
      { s with
        linkP0 := { s.linkP0 with down := s.linkP0.down ++ [.marker s.now] }, linkP1 := { s.linkP1 with down := s.linkP1.down ++ [.marker s.now] },
        linkV := { s.linkV with down := s.linkV.down ++ [.marker s.now] }, tb := { s.tb with markersSent := s.now } } := by
  have hDue : (s.started && decide (s.now % 200 = 0) && decide (s.tb.markersSent ≠ s.now)) = true := by simp [hs, hn, hm]
  rw [State.timeMarkerSend, if_pos hDue, sendMarker_allDies]

section Marker

variable {s s1 : State} {d : Die} {err : Int} {m : Nat}

/-- A marker within half a tick counts toward the lock of an island that does not slew (R33, R34). -/
theorem markerReceived_inBound (h : s.popDown d = some (.marker m, s1)) (he : err.natAbs ≤ 500) (hs : ((s1.isl d).atMarker s.now).slew = false) :
    s.markerReceived d err =
      let i := (s1.isl d).atMarker s.now
      (s1.setIsl d { i with relock := i.relock + 1, lastMarker := i.count }).checkDelay d := by
  have hIn : (decide (err.natAbs ≤ 500) && !((s1.isl d).atMarker s.now).slew) = true := by simp [he, hs]
  simp only [State.markerReceived, h, if_pos hIn]

/-- A marker more than half a tick away takes the lock and starts its count anew (R34). -/
theorem markerReceived_outOfBound (h : s.popDown d = some (.marker m, s1)) (he : 500 < err.natAbs) :
    s.markerReceived d err =
      let i := (s1.isl d).atMarker s.now
      ((s1.setIsl d { i with relock := 0, lastMarker := i.count }).checkDelay d).lossOfLock d := by
  have hOut : ¬(decide (err.natAbs ≤ 500) && !((s1.isl d).atMarker s.now).slew) = true := by simp [Nat.not_le.mpr he]
  simp only [State.markerReceived, h, if_neg hOut]

/-- 64 markers in bound in a row lock the island, after a wake as after a loss (R34; log entry 12). -/
theorem islandRelock_due (hl : s.locked d = false) (hr : 64 ≤ (s.isl d).relock) : s.islandRelock d = s.setLocked d true :=
  if_pos (by simp [hl, hr])

/-- An island without a marker for 16 periods of its own counter runs free (R34). -/
theorem markerLoss_due (hl : (s.isl d).lost = false) (hm : (s.isl d).lastMarker ≠ 0) (hc : (s.isl d).lastMarker + 3200 ≤ (s.isl d).count) :
    s.markerLoss d = ((s.setIsl d { s.isl d with lost := true, slew := false, relock := 0, part := 0 }).lossOfLock d).linkFault d :=
  if_pos (by simp [hl, hm, hc])

end Marker

/-- Settles O4: a case per command, each by what the command does where its guard is met. -/
theorem timeCommands : Obligations.TimeCommands := by
  refine ⟨?sync, ?inBound, ?outOfBound, ?relock, ?markerLoss, ?stable, ?converged, ?syncLoss, ?send⟩
  case sync => exact fun s g c t0 g0 hs hp hl => congrArg _ (asSync_afterSync hs hp hl)
  case inBound => exact fun s d err m s1 h he hs => congrArg _ (markerReceived_inBound h he hs)
  case outOfBound => exact fun s d err m s1 h he => congrArg _ (markerReceived_outOfBound h he)
  case relock => exact fun s d hl hr => congrArg _ (islandRelock_due hl hr)
  case markerLoss => exact fun s d hl hm hc => congrArg _ (markerLoss_due hl hm hc)
  case stable => exact fun s hs hx ht hn => congrArg _ (crystalStable_starting hs hx ht hn)
  case converged => exact fun s ht hs he ha hc => congrArg _ (asConverged_due ht hs he ha hc)
  case syncLoss => exact fun s ha => congrArg _ (asSyncLoss_synced ha)
  case send => exact fun s hs hn hm => congrArg _ (timeMarkerSend_due hs hn hm)

/-! ### Accesses to a sleeping die (R418) -/

/-- An access to a sleeping die stalls, and asks for the wake of its main domain (R418). -/
theorem demandWake_asleep {s : State} {d : Die} (ha : s.asleep d = true) (hr : s.domReady d = false) :
    s.demandWake d =
      let s2 := (s.stallFrom d).wr Reg.PWR_STAT.SLP (clearBitOf (s.rd Reg.PWR_STAT.SLP) (dieNum d))
      { s2 with pow := { s2.pow with demanded := dieNum d :: s2.pow.demanded } } := by
  simp [State.demandWake, ha, hr]

/-- Settles O8: the three changes of the time base, each followed by the buses and the access engine, and the wake on demand. -/
theorem degradedCommands : Obligations.DegradedCommands := by
  refine ⟨?fail, ?timeout, ?back, ?demand⟩
  case fail => exact fun s hx ht => congrArg (fun u : State => Host.Outcome.next (u.timeFollow s.tbSt)) (crystalFail_inUse hx ht)
  case timeout =>
    intro s hs ht hn
    show Host.Outcome.next (s.startingTimeout.timeFollow s.tbSt) = _
    rw [startingTimeout_due hs ht hn, ht]
  case back => exact fun s hf hr hb => congrArg (fun u : State => Host.Outcome.next (u.timeFollow s.tbSt)) (degradedReturn_due hf hr hb)
  case demand =>
    intro s d hs ha hr
    show Host.Outcome.next (if s.started ∧ s.asleep d then s.demandWake d else s) = _
    rw [if_pos ⟨hs, ha⟩, demandWake_asleep ha hr]

/-! ### Raises and the recovery of a record (R361, R362, R365) -/

/-- A raise at the front of a link that carries is delivered, late or in time, and processed in its order; the count of the dropped ones follows it (R35, R361). -/
theorem raiseFromDie_raise {s : State} {d : Die} {x : Raise} {xs : List UpMsg} (hc : s.linkCarries d = true) (h : (s.link d).up = .raise x :: xs) :
    s.raiseFromDie d =
      let s1 := s.setLink d { s.link d with up := xs }
      let s2 := if x.stamp + 400 < s.now then s1.linkFault d else s1
      (s2.takeRaise x).deliverDropped d := by
  simp [State.raiseFromDie, hc, h]

theorem raiseFromL_cons {s : State} {x : Raise} {xs : List Raise} (h : s.flt.fromL = x :: xs) :
    s.raiseFromL = ({ s with flt := { s.flt with fromL := xs } } : State).processRaise x := by
  simp only [State.raiseFromL, h]

/-- A record that is ACTIVE or SEVERE and whose quiet period has passed is QUIET again (R365). -/
theorem recoverAt_due {s : State} {r : Nat} (hb : s.fltBound r = true) (hst : s.fltSt r = 1 ∨ s.fltSt r = 2)
    (hq : s.rd (Reg.FLT_COUNT.QUIET r) ≠ 0) (hn : (s.fltRec r).last + s.rd (Reg.FLT_COUNT.QUIET r) * 20000000 + 400 ≤ s.now) :
    s.recoverAt r =
      let e := (s.fltRec r).last + s.rd (Reg.FLT_COUNT.QUIET r) * 20000000
      let s1 := if s.fltSt r = 2 then s.count (Reg.FLT_RSTAT.RCNT r) 1 else s
      let s2 := (((s1.wr (Reg.FLT_RSTAT.STATE r) 0).wr (Reg.FLT_RSTAT.NRET r) 0).setFltRec r { s.fltRec r with stamps := [] }).fltMram r
      (s2.reportFlt r e).noticeIf r 2 { stamp := e, src := 0, kind := 0, event := 3, record := r, inj := false } :=
  if_pos (by simp [hb, hst, hq, hn])

/-! ### The fault operations (R370 to R373) -/

section FaultOperation

variable {s : State} {t : Nat} {o : HostOp}

theorem faultRead_bound (ho : s.opReady t 0x50 = some o) (hb : s.fltBound (o.fld 16 2) = true) :
    s.faultRead t = (s.begin t).complete t St.ok 0 (s.fltRec (o.fld 16 2)).last
      (leBytes 8 (s.fltValue (o.fld 16 2)) ++ leBytes 2 (s.rd (Reg.FLT_COUNT.N (o.fld 16 2))) ++ leBytes 2 (s.rd (Reg.FLT_RSTAT.NRET (o.fld 16 2)))) := by
  simp only [State.faultRead, ho, if_pos hb]

theorem faultNotices_ready (ho : s.opReady t 0x51 = some o) :
    s.faultNotices t = ({ s.begin t with flt := { s.flt with notices := s.flt.notices.drop 2 } } : State).complete t St.ok 0 0
      (((s.flt.notices.take 2).flatMap Notice.bytes ++ List.replicate 32 0#8).take 32 ++ leBytes 1 (s.flt.notices.take 2).length
        ++ leBytes 2 (s.flt.notices.drop 2).length ++ leBytes 2 (s.rd Reg.FLT_LOST.NOTICE)) := by
  simp only [State.faultNotices, ho]

theorem faultClear_bound (ho : s.opReady t 0x52 = some o) (hb : s.fltBound (o.fld 16 2) = true) :
    s.faultClear t = ((s.begin t).faultClearAt (o.fld 16 2)).complete t St.ok 0 s.now := by
  simp only [State.faultClear, ho, if_pos hb]

/-- Under TEST a raise of a defined source and kind is injected at once, recorded, and breaks the frame (R372, R373; log entry 120). -/
theorem faultInject_test (ho : s.opReady t 0x53 = some o) (hc : classDefined (o.fld 16 2) = true) (hk : kindUsed (o.fld 18 1) = true)
    (ht : s.flag Reg.FLT_STAT.TEST = true) :
    s.faultInject t = ((((s.begin t).takeRaise { src := o.fld 16 2, kind := o.fld 18 1, stamp := s.now, inj := true }).record
      { code := raiseCode (o.fld 16 2) (o.fld 18 1), flags := 1, tick := s.now, p1 := o.fld 16 2 }).breakNow 6).complete t St.ok 0 s.now := by
  simp [State.faultInject, ho, hc, hk, ht]

end FaultOperation

/-- Settles O28: a raise in its order, a record whose quiet period has passed, and the operations by their own lemmas. -/
theorem faultCommands : Obligations.FaultCommands := by
  refine ⟨?clr, ?raiseDie, ?raiseL, ?recovery, ?read, ?notices, ?clear, ?inject⟩
  case clr => exact fun s r hs hb => congrArg _ (if_pos (by simp [hs, hb]))
  case raiseDie => exact fun s d x xs hc h => congrArg _ (raiseFromDie_raise hc h)
  case raiseL => exact fun s x xs h => congrArg _ (raiseFromL_cons h)
  case recovery => exact fun s r hb hst hq hn => congrArg _ (recoverAt_due hb hst hq hn)
  case read => exact fun s t o ho hb => congrArg _ (faultRead_bound ho hb)
  case notices => exact fun s t o ho => congrArg _ (faultNotices_ready ho)
  case clear => exact fun s t o ho hb => congrArg _ (faultClear_bound ho hb)
  case inject => exact fun s t o ho hc hk ht => congrArg _ (faultInject_test ho hc hk ht)

end Sys2Proof.Proofs.Time
end

section
/-! PROOFS. The signal ledger: the order of the keys, an entry under two updates, a superseded update, and the paths into and out of the ledger. -/

namespace Sys2Proof.Proofs.Ledger

open Sys2Proof Sys2Proof.Machine

/-! ### The order of the keys (R53) -/

/-- An order key as its place in the lexicographic order: stamp first, then class, then source or ring, then position (R53). -/
def keyLex (k : OrdKey) : ℕ ×ₗ ℕ ×ₗ ℕ ×ₗ ℕ := toLex (k.stamp, toLex (k.cls, toLex (k.who, k.pos)))

theorem keyLex_injective : Function.Injective keyLex := by
  rintro ⟨stamp, cls, who, pos⟩ ⟨stamp', cls', who', pos'⟩ h
  simpa [keyLex] using h

/-- "Higher" of two keys is the strict lexicographic order. -/
theorem keyGt_iff_keyLex_lt (a b : OrdKey) : a.gt b = true ↔ keyLex b < keyLex a := by
  simp only [OrdKey.gt, keyLex, Prod.Lex.toLex_lt_toLex, Bool.or_eq_true, Bool.and_eq_true, decide_eq_true_eq]
  omega

theorem keyGt_trans {a b c : OrdKey} (hab : a.gt b = true) (hbc : b.gt c = true) : a.gt c = true := by
  rw [keyGt_iff_keyLex_lt] at *
  exact hbc.trans hab

theorem keyGt_asymm {a b : OrdKey} (h : a.gt b = true) : b.gt a = false := by
  rw [← Bool.not_eq_true, keyGt_iff_keyLex_lt, not_lt]
  exact ((keyGt_iff_keyLex_lt a b).mp h).le

theorem keyGt_or_keyGt_of_ne {a b : OrdKey} (h : a ≠ b) : a.gt b = true ∨ b.gt a = true := by
  simp only [keyGt_iff_keyLex_lt]
  exact (keyLex_injective.ne h).symm.lt_or_gt

/-! ### An entry under an update (R51 to R53) -/

/-- The entry after an update that is superseded: only UCOUNT advances (R53). -/
def superseded (e : Entry) : Entry := { e with ucount := (e.ucount + 1) % 2 ^ 32 }

section Update

variable {e : Entry} {f t : Nat} {u v : Upd}

theorem apply_higher (h : u.key.gt e.key = true) : e.apply f u t = e.accept f u t := if_pos h

theorem apply_notHigher (h : u.key.gt e.key = false) : e.apply f u t = superseded e := if_neg (by simp [h])

/-- An accepted update, of whatever kind, gives the entry its key (R53). -/
theorem accept_key (e : Entry) (f : Nat) (u : Upd) (t : Nat) : (e.accept f u t).key = u.key := by
  unfold Entry.accept
  split <;> rfl

theorem accept_ucount (e : Entry) (f : Nat) (u : Upd) (t : Nat) : (e.accept f u t).ucount = (e.ucount + 1) % 2 ^ 32 := by
  unfold Entry.accept
  split <;> rfl

/-- To count a superseded update before or after an accepted one is the same. -/
theorem accept_superseded (e : Entry) (f : Nat) (u : Upd) (t : Nat) : (superseded e).accept f u t = superseded (e.accept f u t) := by
  unfold Entry.accept
  split <;> rfl

/-- An update that carries a value leaves nothing of one accepted before it but its count (R51). -/
theorem accept_accept (hu : u.kind ≠ .invalid) : (e.accept f v t).accept f u t = superseded (e.accept f u t) := by
  cases hk : u.kind with
  | valid => simp only [Entry.accept.eq_def _ f u t, hk, accept_ucount, superseded]
  | stale => simp only [Entry.accept.eq_def _ f u t, hk, accept_ucount, superseded]
  | invalid => exact absurd hk hu

/-- A lower update is superseded where the higher one came first, and overwritten or superseded where it came before (R53). -/
theorem apply_comm_of_higher (hu : u.kind ≠ .invalid) (huv : u.key.gt v.key = true) :
    (e.apply f u t).apply f v t = (e.apply f v t).apply f u t := by
  cases hue : u.key.gt e.key with
  | true =>
    have hFirst : (e.apply f u t).apply f v t = superseded (e.accept f u t) := by
      rw [apply_higher hue, apply_notHigher (by rw [accept_key]; exact keyGt_asymm huv)]
    rw [hFirst]
    cases hve : v.key.gt e.key with
    | true => rw [apply_higher hve, apply_higher (by rw [accept_key]; exact huv), accept_accept hu]
    | false => rw [apply_notHigher hve, apply_higher (e := superseded e) hue, accept_superseded]
  | false =>
    have hve : v.key.gt e.key = false :=
      Bool.eq_false_iff.mpr fun h => Bool.eq_false_iff.mp hue (keyGt_trans huv h)
    rw [apply_notHigher hue, apply_notHigher hve, apply_notHigher (e := superseded e) hue, apply_notHigher (e := superseded e) hve]

end Update

/-- Settles O45: of two different keys one is higher, and the lower update leaves the same in either place. -/
theorem ledgerOrderDoesNotMatter : Obligations.LedgerOrderDoesNotMatter := by
  intro e f t u v hu hv huv
  rcases keyGt_or_keyGt_of_ne huv with h | h
  · exact apply_comm_of_higher hu h
  · exact (apply_comm_of_higher hv h).symm

/-! ### Expiry (R52) -/

/-- An entry that reads in the state it is in has nothing to expire (R52). -/
theorem expire_settled {s : State} {i : Nat} (h : (s.live i).stateAt s.now = (s.live i).state) : s.expire i = s := by
  refine if_neg fun hdue => ?_
  have hfresh : (s.live i).state = .fresh := hdue.1
  rw [Entry.stateAt, if_pos hdue, hfresh] at h
  cases h

/-- A FRESH entry past its deadline goes STALE and is counted (R52, R68). -/
theorem expire_due {s : State} {i : Nat} (hf : (s.live i).state = .fresh) (hd : (s.live i).deadline ≠ 0) (hn : (s.live i).deadline ≤ s.now) :
    s.expire i =
      { s.count Reg.LEDG_EXPCNT.N 1 with led := { s.led with live := SMap.set Entry.blank s.led.live i { s.live i with state := .stale } } } :=
  if_pos ⟨hf, hd, hn⟩

/-! ### Commit (R53, R54) -/

section Commit

variable {s : State} {a : Attr} {u : Upd}

theorem blobUpd_notBlob (h : a.kind ≠ 3) : s.blobUpd a u = u := if_pos (.inl h)

/-- The snapshot under construction takes an update or it waits for a later one; nothing else changes (R20). -/
theorem commitBase_frame (s : State) (a : Attr) (u : Upd) :
    ∃ b f, s.commitBase a u = { s with led := { s.led with base := b, future := f } } := by
  unfold State.commitBase
  split <;> exact ⟨_, _, rfl⟩

/-- An update of an entry of its producer, in time and no blob, goes to the snapshot and to the live entry as it is (R53, R54). -/
theorem commit_inTime (ha : s.attr u.idx = some a) (ho : a.owner = u.own) (hf : s.unfed u.idx = false) (hk : a.kind ≠ 3)
    (hl : s.lateStamp u.stamp = false) : s.commit u = (s.commitBase a u).commitLive a u := by
  simp [State.commit, ha, ho, hf, blobUpd_notBlob hk, hl]

theorem count64_led (s : State) (f : Fld) : (s.count64 f).led = s.led := rfl

/-- An update that is not higher than the live entry's is counted as superseded (R53, R68). -/
theorem commitLive_superseded (hk : u.key.gt (s.live u.idx).key = false) (he : (s.live u.idx).stateAt s.now = (s.live u.idx).state) :
    s.commitLive a u =
      { (s.count64 Reg.LEDG_UPDCNT.N).count Reg.LEDG_SUPCNT.N 1 with
        led := { s.led with live := SMap.set Entry.blank s.led.live u.idx (superseded (s.live u.idx)) } } := by
  simp [State.commitLive, expire_settled he, hk, apply_notHigher hk, count64_led]

end Commit

/-- Settles O46: the snapshot's part leaves the live entries alone, and the live entry is superseded. -/
theorem supersededUpdate : Obligations.SupersededUpdate := by
  intro s a u ha ho hf hk hl hkey he
  rw [commit_inTime ha ho hf hk hl]
  obtain ⟨b, f, hbase⟩ := commitBase_frame s a u
  have hlive : (s.commitBase a u).live u.idx = s.live u.idx := by rw [hbase]; rfl
  have hnow : (s.commitBase a u).now = s.now := by rw [hbase]
  rw [commitLive_superseded (by rw [hlive, hkey]) (by rw [hlive, hnow, he]), hlive]
  exact ⟨by rw [hbase]; rfl, rfl⟩

/-! ### The intake (R35, R54) -/

section Intake

variable {s : State} {d : Die} {u : Upd} {us : List UpMsg}

/-- The oldest message of a link that carries enters the intake while that has room; one more than 400 ticks after its stamp is late, with the link fault (R35, R54). -/
theorem arriveDie_update (hu : (s.link d).up = .update u :: us) (hc : s.linkCarries d = true) (hi : s.intakeFull = false) :
    s.arriveDie d =
      let late := decide (u.stamp + 400 < s.now)
      let s1 := s.setLink d { s.link d with up := us }
      (if late then s1.linkFault d else s1).enterIntake { u with late := late } := by
  simp [State.arriveDie, hu, hc, hi]

theorem arriveDie_inTime (hu : (s.link d).up = .update u :: us) (hc : s.linkCarries d = true) (hi : s.intakeFull = false)
    (hn : s.now ≤ u.stamp + 400) :
    s.arriveDie d = (s.setLink d { s.link d with up := us }).enterIntake { u with late := false } := by
  simp [arriveDie_update hu hc hi, Nat.not_lt.mpr hn]

theorem arriveDie_late (hu : (s.link d).up = .update u :: us) (hc : s.linkCarries d = true) (hi : s.intakeFull = false)
    (hn : u.stamp + 400 < s.now) :
    s.arriveDie d = ((s.setLink d { s.link d with up := us }).linkFault d).enterIntake { u with late := true } := by
  simp [arriveDie_update hu hc hi, hn]

theorem arriveL_cons {us : List Upd} (hu : s.led.fromL = u :: us) (hi : s.intakeFull = false) :
    s.arriveL = ({ s with led := { s.led with fromL := us } } : State).enterIntake u := by
  simp [State.arriveL, hu, hi]

/-- The first of the intake commits where no other did in this tick, its entry defined and fed by its producer's class (R50, R53, R54). -/
theorem intakeCommit_fed {us : List Upd} {a : Attr} (hq : s.led.intake = u :: us) (hc : s.led.commitAt ≠ s.now) (ha : s.attr u.idx = some a)
    (ho : a.owner = u.own) :
    s.intakeCommit =
      let s1 : State := { s with led := { s.led with intake := us, commitAt := s.now } }
      ((s1.intakeLate u).commit u).committed u (u.key.gt (s.live u.idx).key) := by
  have hattr : ({ s with led := { s.led with intake := us, commitAt := s.now } } : State).attr u.idx = some a := ha
  simp only [State.intakeCommit, hq, if_neg hc, hattr, ho, ne_eq, not_true_eq_false, if_false]
  rfl

end Intake

/-! ### Host operations (R50, R58, R301) -/

section HostOperation

variable {s : State} {t : Nat} {o : HostOp} {a : Attr}

/-- In its turn a write whose value fits an entry of the host, no blob, is sent to the ledger (R50, R295). -/
theorem ledgerWrite_value {x : ReadResult} (ho : s.opReady t 0x10 = some o) (ht : s.ledgerTurn o = true) (ha : s.attr (o.fld 16 3) = some a)
    (hv : hostValueOk a o = true) (hown : a.owner = .host) (hk : a.kind ≠ 3) : s.ledgerWrite t x = s.sendHost t o [] := by
  simp [State.ledgerWrite, ho, ht, ha, hv, hown, hk]

/-- In its turn, with no write of the host under way, a read of the live entry settles its expiry and is served at this tick (R56, R58; log entry 61). -/
theorem ledgerRead_live (ho : s.opReady t 0x11 = some o) (ht : s.ledgerTurn o = true) (hw : s.led.fromHost = [])
    (ha : s.attr (o.fld 16 3) = some a) (hs : bitOf (o.fld 20 1) 0 = false) :
    s.ledgerRead t =
      (s.expire (o.fld 16 3)).serveRead t o a ((s.expire (o.fld 16 3)).live (o.fld 16 3)) s.now (s.rd Reg.TIME_FRAME.F) := by
  simp [State.ledgerRead, ho, ht, hw, ha, hs]

/-- A read that waited for the seal is served from the snapshot once it is sealed (R58). -/
theorem snapRead_sealed (ho : s.op t = some o) (hc : o.opcode = 0x11) (hb : o.begun = true) (hs : s.tb.sealed = true)
    (ha : s.attr (o.fld 16 3) = some a) : s.snapRead t = s.serveSnap t o a := by
  simp [State.snapRead, ho, hc, hb, hs, ha]

end HostOperation

/-- Settles O3: each path into and out of the ledger by what it does where its guard is met. -/
theorem ledgerCommands : Obligations.LedgerCommands := by
  refine ⟨?inTime, ?late, ?dieL, ?expiry, ?snapRead, ?write, ?read, ?commit⟩
  case inTime => exact fun s d u us hu hc hi hn => congrArg _ (arriveDie_inTime hu hc hi hn)
  case late => exact fun s d u us hu hc hi hn => congrArg _ (arriveDie_late hu hc hi hn)
  case dieL => exact fun s u us hu hi => congrArg _ (arriveL_cons hu hi)
  case expiry => exact fun s i hf hd hn => congrArg _ (expire_due hf hd hn)
  case snapRead => exact fun s t o a ho hc hb hs ha => congrArg _ (snapRead_sealed ho hc hb hs ha)
  case write => exact fun s t x o a ho ht ha hv hown hk => congrArg _ (ledgerWrite_value ho ht ha hv hown hk)
  case read => exact fun s t o a ho ht hw ha hs => congrArg _ (ledgerRead_live ho ht hw ha hs)
  case commit => exact fun s u us a hq hc ha ho => congrArg _ (intakeCommit_fed hq hc ha ho)

end Sys2Proof.Proofs.Ledger
end

section
/-! PROOFS. The Ethernet switch: frames received and sent, what a PHY reports, peer delay requests, and frames of firmware. -/

namespace Sys2Proof.Proofs.Ethernet

open Sys2Proof Sys2Proof.Machine

/-! ### Egress (R277, R278, R280) -/

section Egress

variable {s : State} {p : Nat} {x : EthTx}

/-- A port that is up and idle, in its PLCA turn, starts the frame it picks; a build is finished with its age words at this tick (R64, R277, R280). -/
theorem ethTxStart_turn (hp : p < 4) (hu : s.ethUp p = true) (hi : (s.ethP p).sending = none) (ht : s.plcaMay p = true)
    (hx : ethPick (s.ethP p).queue = some x) :
    s.ethTxStart p =
      let s1 := s.setEthP p { s.ethP p with
        queue := (s.ethP p).queue.erase x, sending := some x, burst := if s.inBurst p then (s.ethP p).burst + 1 else 0 }
      match x.enc with
      | none => s1.emit (.ethFrame p x.bytes)
      | some _ => s1.takeFree.2.emit (.ethFrame p (encFinish x.bytes (x.pdu.at s.now) s1.takeFree.1)) := by
  have hmay : p < 4 ∧ s.ethUp p ∧ (s.ethP p).sending = none ∧ s.plcaMay p := ⟨hp, hu, hi, ht⟩
  cases hb : x.enc <;> simp only [State.ethTxStart, if_pos hmay, hx, hb]

/-- A frame sent is counted, and the builds that waited for it enter the queue (R280). -/
theorem ethTxEnd_sending (hx : (s.ethP p).sending = some x) :
    s.ethTxEnd p = (s.ethP p).waiting.foldl (fun s t => (s.ethQueue p t).1)
      ((s.count (Reg.ETH_PCNT1.TXOK p) 1).setEthP p { s.ethP p with sending := none, waiting := [], lastEnd := some s.now }) := by
  simp only [State.ethTxEnd, hx]

end Egress

/-! ### Ports and their links (R276, R281, R283) -/

section Port

variable {s : State} {p : Nat}

theorem ethFrameReceived_up (f : List Byte) (hp : p < 4) (hu : s.ethUp p = true) : s.ethFrameReceived p f = (s.ethForward p f).1 :=
  if_pos ⟨hp, hu⟩

/-- What the PHY of an enabled port reports is kept, in a speed that the port can have, and shown (R276, R283). -/
theorem ethLinkChange_enabled {v w : Nat} (l q : Bool) (hp : p < 4) (he : s.flag (Reg.ETH_PCFG.ENABLE p) = true) (hw : s.ethSpeed p v = some w) :
    s.ethLinkChange p l v q = (s.setEthP p { s.ethP p with phy := l, phySpeed := w, phyPlca := q }).ethShow p := by
  simp only [State.ethLinkChange, if_pos (And.intro hp he), hw]

/-- A peer delay request is answered with its receive stamp; the transmit stamp is left open (R281; log entry 102). -/
theorem pdelayReq_up (q : Nat) (hp : p < 4) (hu : s.ethUp p = true) :
    s.pdelayReq p q =
      ({ s with fresh := s.fresh + 1 } : State).emit (.pdelayResp p q s.now (s.now + (Config.freeWord s.fresh).toNat)) :=
  if_pos ⟨hp, hu⟩

end Port

/-! ### Frames of firmware (R300) -/

/-- A frame of firmware that has a length of R276 is forwarded from the enabled internal port, and is to be sent again where a queue was full. -/
theorem ethTx_enabled {s : State} {t : Nat} {x : ReadResult} {o : HostOp} {f : List Byte} (ho : s.opReady t 0x2C = some o) (hmin : 60 ≤ o.fld 32 2)
    (hmax : o.fld 32 2 ≤ 1518) (hf : readBytes x (o.fld 32 2) = some f) (he : s.flag (Reg.ETH_PCFG.ENABLE 4) = true) :
    s.ethTx t x =
      if (s.ethForward 4 f).2 then (s.ethForward 4 f).1.complete t St.retryLater 0 0 else (s.ethForward 4 f).1.complete t St.ok 0 s.now := by
  have hlen : ¬(o.fld 32 2 < 60 ∨ 1518 < o.fld 32 2) := by omega
  simp only [State.ethTx, ho, if_neg hlen, hf, he, Bool.not_true, Bool.false_eq_true, if_false]
  split <;> rfl

/-- Settles O25: each command of the switch by what it does where its guard is met; ageing is the filter of the database itself. -/
theorem ethernetCommands : Obligations.EthernetCommands := by
  refine ⟨?received, ?start, ?sent, ?link, ?pdelay, fun _ _ _ => rfl, ?firmware⟩
  case received => exact fun s p f hp hu => congrArg _ (ethFrameReceived_up f hp hu)
  case start => exact fun s p x hp hu hi ht hx => congrArg _ (ethTxStart_turn hp hu hi ht hx)
  case sent => exact fun s p x hx => congrArg _ (ethTxEnd_sending hx)
  case link => exact fun s p v w l q hp he hw => congrArg _ (ethLinkChange_enabled l q hp he hw)
  case pdelay => exact fun s p q hp hu => congrArg _ (pdelayReq_up q hp hu)
  case firmware => exact fun s t x o f ho hmin hmax hf he => congrArg _ (ethTx_enabled ho hmin hmax hf he)

end Sys2Proof.Proofs.Ethernet
end

section
/-! PROOFS. Switch channels: the clear requests of every unit, and a channel's trips, ember latch, snuff, retries and refill. -/

namespace Sys2Proof.Proofs.Switch

open Sys2Proof Sys2Proof.Machine

/-! ### Clear requests (R86, R129, R163, R178, R300) -/

section Clear

variable {s : State} {n : Nat} (tag : Option Nat)

/-- A channel's source identifier names it: the HS channels in class 0x01, the PD channels in class 0x02 (R14). -/
theorem unitClearOf_chan (hn : n < 64) : s.unitClearOf (chanSrc n) tag = some (chanDie n, s.chEnabled n, s.requestChanClear n tag) := by
  by_cases hhs : n < 48
  · have hclass : (0x0100 + n) / 256 = 1 := by omega
    have hunit : (0x0100 + n) % 256 = n := by omega
    simp [State.unitClearOf, chanSrc, hhs, hclass, hunit]
  · have hclass : (0x0200 + (n - 48)) / 256 = 2 := by omega
    have hunit : (0x0200 + (n - 48)) % 256 = n - 48 := by omega
    have hpd : n - 48 < 16 := by omega
    have hu : 48 + (n - 48) = n := by omega
    simp [State.unitClearOf, chanSrc, hhs, hclass, hunit, hpd, hu]

theorem unitClearOf_motor (hn : n < 14) : s.unitClearOf (motorSrc n) tag = some (motorDie n, s.mEnabled n, s.requestMotorClear n tag) := by
  have hclass : motorSrc n / 256 = 3 := by unfold motorSrc; omega
  have hunit : motorSrc n % 256 = n := by unfold motorSrc; omega
  simp [State.unitClearOf, hclass, hunit, hn]

theorem unitClearOf_valve (hn : n < 24) : s.unitClearOf (valveSrc n) tag = some (.v, s.vEnabled n, s.requestValveClear n tag) := by
  have hclass : valveSrc n / 256 = 4 := by unfold valveSrc; omega
  have hunit : valveSrc n % 256 = n := by unfold valveSrc; omega
  simp [State.unitClearOf, hclass, hunit, hn]

/-- The banks' sources stand above the valve channels' in their class (R145). -/
theorem unitClearOf_bank (hn : n < 6) : s.unitClearOf (0x0420 + n) tag = some (.v, s.bEnabled n, s.requestBankClear n tag) := by
  have hclass : (0x0420 + n) / 256 = 4 := by omega
  have hunit : (0x0420 + n) % 256 = 32 + n := by omega
  have hvalve : ¬32 + n < 24 := by omega
  have hbank : 32 + n < 38 := by omega
  simp [State.unitClearOf, hclass, hunit, hvalve, hbank]

theorem unitClearOf_led (hn : n < 48) : s.unitClearOf (ledSrc n) tag = some (.v, s.lEnabled n, s.requestLedClear n tag) := by
  have hclass : ledSrc n / 256 = 5 := by unfold ledSrc; omega
  have hunit : ledSrc n % 256 = n := by unfold ledSrc; omega
  simp [State.unitClearOf, hclass, hunit, hn]

/-- On a die that is ready the clear of an enabled unit is requested (R86, R418). -/
theorem clearWrite_ready {s1 : State} {src : Nat} {d : Die} {e : Bool} (hu : s.unitClearOf src none = some (d, e, s1)) (hd : s.domReady d = true)
    (he : e = true) : s.clearWrite src = s1 := by
  simp [State.clearWrite, hu, hd, he]

/-- A request of a control register adds no tag. -/
theorem requestChanClear_none (s : State) (u : Nat) : s.requestChanClear u none = s.setChan u { s.chan u with clear := true } := by
  simp [State.requestChanClear]

theorem requestMotorClear_none (s : State) (m : Nat) : s.requestMotorClear m none = s.setMotor m { s.motor m with clear := true } := by
  simp [State.requestMotorClear]

theorem requestValveClear_none (s : State) (n : Nat) : s.requestValveClear n none = s.setValve n { s.valve n with clear := true } := by
  simp [State.requestValveClear]

theorem requestBankClear_none (s : State) (b : Nat) : s.requestBankClear b none = s.setBank b { s.bank b with clear := true } := by
  simp [State.requestBankClear]

theorem requestLedClear_none (s : State) (n : Nat) : s.requestLedClear n none = s.setSink n { s.sink n with clear := true } := by
  simp [State.requestLedClear]

/-- To begin an operation changes no channel. -/
theorem begin_chan (s : State) (t u : Nat) : (s.begin t).chan u = s.chan u := by
  obtain ⟨h, hb⟩ := Scope.begin_frame s t
  rw [hb]
  rfl

theorem begin_chEnabled (s : State) (t u : Nat) : (s.begin t).chEnabled u = s.chEnabled u := by
  obtain ⟨h, hb⟩ := Scope.begin_frame s t
  rw [hb]
  rfl

/-- UNIT_CLEAR of an enabled channel of a die that is ready requests its clear with the tag (R86, R300). -/
theorem unitClear_chan {t : Nat} {o : HostOp} (ho : s.opReady t 0x18 = some o) (hsrc : o.fld 16 2 = chanSrc n) (hn : n < 64)
    (hd : s.domReady (chanDie n) = true) (he : s.chEnabled n = true) : s.unitClear t = (s.begin t).requestChanClear n (some t) := by
  simp [State.unitClear, ho, hsrc, unitClearOf_chan (some t) hn, hd, begin_chEnabled, he]

end Clear

/-- Settles O2: each source identifier names its unit, and the clear of an enabled unit of a ready die is requested. -/
theorem clearCommands : Obligations.ClearCommands := by
  refine ⟨?hsw, ?pdrv, ?motor, ?valve, ?bank, ?led, ?unitClear⟩
  case hsw =>
    intro s n hn hd he
    have hrequest := clearWrite_ready (unitClearOf_chan none (by omega)) hd he
    exact congrArg _ ((if_pos hn).trans (hrequest.trans (requestChanClear_none s n)))
  case pdrv =>
    intro s n hn hd he
    have hrequest := clearWrite_ready (unitClearOf_chan none (by omega)) hd he
    exact congrArg _ ((if_pos hn).trans (hrequest.trans (requestChanClear_none s (48 + n))))
  case motor =>
    intro s m hm hd he
    have hrequest := clearWrite_ready (unitClearOf_motor none hm) hd he
    exact congrArg _ ((if_pos hm).trans (hrequest.trans (requestMotorClear_none s m)))
  case valve =>
    intro s n hn hd he
    have hrequest := clearWrite_ready (unitClearOf_valve none hn) hd he
    exact congrArg _ ((if_pos hn).trans (hrequest.trans (requestValveClear_none s n)))
  case bank =>
    intro s b hb hd he
    have hrequest := clearWrite_ready (unitClearOf_bank none hb) hd he
    exact congrArg _ ((if_pos hb).trans (hrequest.trans (requestBankClear_none s b)))
  case led =>
    intro s n hn hd he
    have hrequest := clearWrite_ready (unitClearOf_led none hn) hd he
    exact congrArg _ ((if_pos hn).trans (hrequest.trans (requestLedClear_none s n)))
  case unitClear =>
    intro s t n o ho hsrc hn hd he
    have hchan : o.fld 16 2 = chanSrc n := by rw [hsrc, chanSrc, if_pos hn]
    have hrequest := unitClear_chan ho hchan (by omega) hd he
    rw [State.requestChanClear, begin_chan] at hrequest
    exact congrArg _ hrequest

/-! ### Free errors within their bounds (R82, R465) -/

/-- A value kept within bounds lies at most at the upper one. -/
theorem clampInt_le {lo hi : Int} (h : lo ≤ hi) (i : Int) : clampInt lo hi i ≤ hi := max_le h (min_le_left hi i)

theorem le_clampInt (lo hi i : Int) : lo ≤ clampInt lo hi i := le_max_left lo _

/-- The ember latch of every unit sets at 180 °C at the latest (R82). -/
theorem emberSetAt_le (k : EmberUnit) : emberSetAt k ≤ 2880 := clampInt_le (by decide) _

/-- The ember latch of every unit may release at 150 °C (R82). -/
theorem le_emberRelAt (k : EmberUnit) : 2400 ≤ emberRelAt k := le_clampInt _ _ _

/-- A current above ISHORT by more than 8 % asserts the short comparator (R79, R82). -/
theorem shortAsserts_of_above {s : State} {u cur : Nat} (h : s.rd (Reg.CH_OC.ISHORT u) * 270000 < cur * 1000) : s.shortAsserts u cur = true := by
  have herr := clampInt_le (lo := -80) (hi := 80) (by decide) (Config.shortError u)
  have hmul := Int.mul_le_mul_of_nonneg_left (Int.add_le_add_left herr 1000)
    (show (0 : Int) ≤ (s.rd (Reg.CH_OC.ISHORT u) : Int) * 250 by positivity)
  refine decide_eq_true ?_
  omega

/-- A drain-source voltage above the threshold by more than 10 % and 30 mV exceeds it (R81, R465). -/
theorem vdsExceeds_of_above {th k v : Nat} (h : th + th / 10 + 30 < v) : vdsExceeds th k v = true := by
  have herr := clampInt_le (lo := -((th : Int) / 10 + 30)) (hi := (th : Int) / 10 + 30) (by omega) (Config.vdsError k)
  refine decide_eq_true ?_
  omega

/-! ### Trips (R79 to R81) -/

section Trip

variable {s : State} {u : Nat}

/-- A channel whose overload filter is full trips with the stamp of the filter's last sample (R80). -/
theorem overloadTrip_full (he : s.chEnabled u = true) (hc : s.chConducts u = true) (hf : s.rd (Reg.CH_OC.TOVL u) * 10 ≤ (s.chan u).ovlRun)
    (h0 : (s.chan u).ovlRun ≠ 0) : s.overloadTrip u = s.protect u Cause.ovl (s.chan u).ovlStamp := by
  have hover : s.overloaded u = true := by simp [State.overloaded, hf, h0]
  exact if_pos (by simp [he, hc, hover])

theorem shortTrip_asserted {cur : Nat} (he : s.chEnabled u = true) (hp : s.protects u (s.chNow u) = true) (ha : s.shortAsserts u cur = true) :
    s.shortTrip u cur = s.protect u Cause.short (s.chNow u) :=
  if_pos (by simp [he, hp, ha])

/-- A PD channel with its gate on, its blanking over and its drain-source voltage above VDSTH trips (R81). -/
theorem vdsTrip_exceeded {v : Nat} (hu : 48 ≤ u) (he : s.chEnabled u = true) (hp : s.protects u (s.chNow u) = true)
    (hon : (if s.trippedAt u (s.chNow u) then (s.chan u).wasOn else (s.chan u).on) = true)
    (hb : (s.chan u).edge + s.rd (Reg.PDRV_SENSE.VDSBLK (u - 48)) * 20 ≤ s.chNow u)
    (hv : vdsExceeds (s.rd (Reg.PDRV_SENSE.VDSTH (u - 48)) * 20) u v = true) : s.vdsTrip u v = s.protect u Cause.vds (s.chNow u) :=
  if_pos (by simp only [hu, he, hp, hon, hb, hv, decide_true, Bool.and_self])

end Trip

/-! ### Ember, snuff end, retries and refill (R83 to R85, R180) -/

section Recovery

variable {s : State} {u : Nat}

theorem chanEmberSets_of_hot {tj : Int} (ts : Nat) (h : 2880 ≤ tj) : s.chanEmberSets u tj ts = true := by
  have hset : emberSetAt (.chan u) ≤ tj := (emberSetAt_le _).trans h
  simp [State.chanEmberSets, hset]

/-- The latch releases at 150 °C, 1 ms after it set, where TS allows it or the channel is no PD channel (R83). -/
theorem chanEmberReleases_of_cool {tj : Int} {ts e : Nat} (he : (s.chan u).emberAt = some e) (ht : e + 200000 ≤ s.chNow u) (hj : tj ≤ 2400)
    (hts : s.rd (Reg.PDRV_TS.RELV (u - 48)) ≤ ts ∨ u < 48) : s.chanEmberReleases u tj ts = true := by
  have hrel : tj ≤ emberRelAt (.chan u) := hj.trans (le_emberRelAt _)
  rcases hts with hts | hu
  · simp [State.chanEmberReleases, he, ht, hrel, hts]
  · simp [State.chanEmberReleases, he, ht, hrel, Nat.not_le.mpr hu]

theorem snuffEnd_due (he : s.chEnabled u = true) (hs : s.chSt u = .snuffed) (ht : s.rd64 (Reg.CH_TRIPT.T u) + 10000 ≤ s.chNow u) :
    s.snuffEnd u = s.decideTrip u (s.rd64 (Reg.CH_TRIPT.T u) + 10000) :=
  if_pos (by simp [he, hs, ht])

theorem retryDue_elapsed (he : s.chEnabled u = true) (hs : s.chSt u = .retryWait) (hd : s.delayElapsed u (s.chNow u) = true)
    (hw : s.flag (Reg.CH_STAT.WHOLD u) = false) : s.retryDue u = s.turnOn u (s.chNow u) :=
  if_pos (by simp [he, hs, hd, hw])

/-- A channel that has conducted for REFILL gets its retries back, and the next count starts where this one ended (R85). -/
theorem retryRefill_due {c : Nat} (hc : (s.chan u).condSince = some c) (he : s.chEnabled u = true) (hon : s.chConducts u = true)
    (ht : c + s.rd (Reg.CH_RETRY.REFILL u) * 20000000 ≤ s.chNow u) :
    s.retryRefill u =
      let e := c + s.rd (Reg.CH_RETRY.REFILL u) * 20000000
      (((s.wr (Reg.CH_STAT.RETRYLEFT u) (s.rd (Reg.CH_RETRY.MAX u))).wr (Reg.CH_STAT.TRIPPED u) 0).setChan u
        { s.chan u with condSince := some e }).reportChan u e := by
  simp [State.retryRefill, hc, he, hon, ht]

end Recovery

/-- Settles O13: the bounds of the free errors meet each guard; then each command does what its definition says under it. -/
theorem channelTripCommands : Obligations.ChannelTripCommands := by
  refine ⟨?overload, ?short, ?vds, ?emberSet, ?arraySet, ?emberRelease, ?arrayRelease, ?snuff, ?retry, ?refill⟩
  case overload => exact fun s u he hc hf h0 => congrArg _ (overloadTrip_full he hc hf h0)
  case short => exact fun s u cur he hp hcur => congrArg _ (shortTrip_asserted he hp (shortAsserts_of_above hcur))
  case vds =>
    intro s u v hu he hp hon hb hv
    exact congrArg _ (vdsTrip_exceeded hu he hp hon hb (vdsExceeds_of_above (by omega)))
  case emberSet =>
    intro s u tj ts he hf hj
    exact congrArg _ (if_pos (by simp [he, hf, chanEmberSets_of_hot ts hj]))
  case arraySet =>
    intro s tj ts hf hj
    exact congrArg _ (if_pos (by simp [hf, (emberSetAt_le .array).trans hj]))
  case emberRelease =>
    intro s u tj ts e he hf hat ht hj hts
    exact congrArg _ (if_pos (by simp [he, hf, chanEmberReleases_of_cool hat ht hj hts]))
  case arrayRelease =>
    intro s tj ts e hat ht hj
    have hguard : e + 200000 ≤ s.vNow ∧ tj ≤ emberRelAt .array := ⟨ht, hj.trans (le_emberRelAt _)⟩
    refine congrArg _ (?_ : s.arrayEmberRelease tj = _)
    simp only [State.arrayEmberRelease, hat, if_pos hguard]
  case snuff => exact fun s u he hs ht => congrArg _ (snuffEnd_due he hs ht)
  case retry => exact fun s u he hs hd hw => congrArg _ (retryDue_elapsed he hs hd hw)
  case refill => exact fun s u c hc he hon ht => congrArg _ (retryRefill_due hc he hon ht)

end Sys2Proof.Proofs.Switch
end

section
/-! PROOFS. Lamps: wick steps and bundle messages, inrush windows and soft starts, droops and their notices, and open-load tests. -/

namespace Sys2Proof.Proofs.Lamp

open Sys2Proof Sys2Proof.Machine

/-! ### Wick steps and bundle messages (R87, R88, R112) -/

section Wick

variable {s : State} {d : Die}

/-- At its multiple of 20,000 ticks a power die that is ready and has its parameters takes its wick step, once (R87). -/
theorem wickStep_due (hd : d ≠ .v) (hr : (s.ana d).ready = true) (hp : (s.ana d).params = true) (ht : s.dieNow d % 20000 = 0)
    (hw : (s.ana d).wickTick ≠ s.dieNow d) : s.wickStep d = ((s.bundleTimeout d).windowEnd d).wickStepAt d (s.dieNow d) :=
  if_neg (by simp [hd, hr, hp, ht, hw])

/-- The bundle message at the head of the queue completes the step it is for, is kept for a later one, or gives the last sums (R88). -/
theorem bundleMessage_bundle {k sent : Nat} {sums tbs : List Rat} {q : List PpMsg} (hq : s.ppQueue d = .bundle k sums tbs sent :: q) :
    s.bundleMessage d =
      let s1 := (s.setPpQueue d q).ppLate d sent
      let a := s1.ana d
      if a.wickWait ∧ a.wickTick / 20000 = k ∧ s1.dieNow d ≤ a.wickTick + 1000 then s1.bundleTake d sums tbs
      else if a.wickTick / 20000 < k then s1.setAna d { a with early := some (k, sums, tbs) }
      else s1.setAna d { a with otherSums := sums } := by
  simp only [State.bundleMessage, hq]

/-- A step that has waited 1,000 ticks for its message takes the last sums (R88). -/
theorem bundleTimeout_due (hd : d ≠ .v) (hw : (s.ana d).wickWait = true) (ht : (s.ana d).wickTick + 1000 ≤ s.dieNow d) :
    s.bundleTimeout d =
      ((s.setAna d { s.ana d with ppLost := true }).raiseFlag Reg.HSW_LINK.LOST).bundleCompute d (s.ana d).otherSums :=
  if_pos (by simp [hd, hw, ht])

end Wick

/-! ### Inrush windows (R97, R99) -/

section Inrush

variable {s : State} {u : Nat}

theorem inrushWindowEnd_due (he : s.chEnabled u = true) (hs : s.chSt u = .inrush) (hw : (s.chan u).winSusp = 0)
    (ht : (s.chan u).winEnd ≤ s.chNow u) : s.inrushWindowEnd u = s.enter u (s.appliedSt u) (s.chan u).winEnd :=
  if_pos (by simp [he, hs, hw, ht])

/-- The ramp is on until its last start: `winSoft` starts of 20,000 ticks after the channel turned on (R99). -/
theorem rampOn_iff {t : Nat} (hs : s.chSt u = .inrush) (hw : 1 ≤ (s.chan u).winSoft) (ht : (s.chan u).tOn ≤ t) :
    s.rampOn u t = true ↔ (t - (s.chan u).tOn) / 20000 < (s.chan u).winSoft := by
  have harith : t < (s.chan u).tOn + (s.chan u).winSoft * 20000 ↔ (t - (s.chan u).tOn) / 20000 < (s.chan u).winSoft := by omega
  simp [State.rampOn, hs, hw, ht, harith]

/-- At each start of the soft-start ramp the gate follows, and before the last one the carrier is taken (R99). -/
theorem softStartCarrier_start (he : s.chEnabled u = true) (hs : s.chSt u = .inrush) (hw : 1 ≤ (s.chan u).winSoft)
    (ht : (s.chan u).tOn ≤ s.chNow u) (hm : (s.chNow u - (s.chan u).tOn) % 20000 = 0)
    (hn : (s.chNow u - (s.chan u).tOn) / 20000 ≤ (s.chan u).winSoft) :
    s.softStartCarrier u =
      (if (s.chNow u - (s.chan u).tOn) / 20000 < (s.chan u).winSoft then s.takeCarrier u (s.chNow u) else s).gate u (s.chNow u) := by
  simp only [← rampOn_iff hs hw ht]
  exact if_pos (by simp [he, hs, hw, ht, hm, hn])

end Inrush

/-! ### Droops (R104 to R108) -/

section Droop

variable {s : State} {d : Die}

theorem droopFreezeEnd_due (h0 : (s.ana d).freezeEnd ≠ 0) (ht : (s.ana d).freezeEnd ≤ s.dieNow d) :
    s.droopFreezeEnd d = s.setAna d { s.ana d with freezeEnd := 0 } :=
  if_pos ⟨h0, ht⟩

/-- A droop of the die's own that lasts 65,535 us is recorded as of then (R108). -/
theorem droopRecordLimit_due (hd : (s.ana d).droop.detected = true) (ho : (s.ana d).droop.owner = true)
    (hr : (s.ana d).droop.recorded = false) (ht : (s.ana d).droop.stamp + 13107000 ≤ s.dieNow d) :
    s.droopRecordLimit d = s.droopRecord d 13107000 :=
  if_pos (by simp [hd, ho, hr, ht])

end Droop

/-! ### Open-load tests (R110 to R112) -/

section OpenLoad

variable {s : State} {u : Nat}

theorem olTestStart_due (he : s.chEnabled u = true) (hol : s.flag (Reg.CH_CFG.OLEN u) = true) (hs : s.chSt u = .off)
    (hp : s.rd (if u < 48 then Reg.HSW_OL.TPER u else Reg.PDRV_OL.TPER (u - 48)) ≠ 0)
    (ht : s.chNow u % (s.rd (if u < 48 then Reg.HSW_OL.TPER u else Reg.PDRV_OL.TPER (u - 48)) * 2000000) = 0)
    (ho : (s.chan u).offSince + 400000 ≤ s.chNow u) (hd : (s.ana (chanDie u)).droop.detected = false) (hn : (s.chan u).olStart = none)
    (hv : (s.ana (chanDie u)).sup.st = .normal) :
    s.olTestStart u = s.setChan u { s.chan u with olStart := some (s.chNow u), olN1 := 0, olS1 := 0, olN2 := 0, olS2 := 0 } :=
  if_pos (by simp [he, hol, hs, hp, ht, ho, hd, hn, hv])

/-- A test that has run for 240,000 ticks gives what its two means show above VTH, each with its free error (R112). -/
theorem olTestEnd_due {b : Nat} (hb : (s.chan u).olStart = some b) (he : s.chEnabled u = true) (ht : b + 240000 ≤ s.chNow u) :
    s.olTestEnd u =
      let c := s.chan u
      let th : Int := s.rd (if u < 48 then Reg.HSW_OL.VTH u else Reg.PDRV_OL.VTH (u - 48)) * 10
      let sb := meanAbove c.olS1 c.olN1 (th + clampInt (-50) 50 (Config.olError u (2 * b)))
      let ol := !sb && meanAbove c.olS2 c.olN2 (th + clampInt (-50) 50 (Config.olError u (2 * b + 1)))
      s.olResult u (b + 240000) sb ol := by
  simp only [State.olTestEnd, hb, he, ht, decide_true, Bool.and_self, if_true, Nat.add_zero]

end OpenLoad

/-- Settles O14: each step, message, window, droop and test by what it does where its guard is met; a cap has no guard. -/
theorem lampCommands : Obligations.LampCommands := by
  refine ⟨?wick, ?bundle, ?timeout, ?inrush, ?softStart, ?droop, ?notice, ?endNotice, fun _ _ => rfl, ?freeze, ?record, ?olStart, ?olEnd⟩
  case wick => exact fun s d hd hr hp ht hw => congrArg _ (wickStep_due hd hr hp ht hw)
  case bundle => exact fun s d k sums tbs sent q hd hq => congrArg _ ((if_neg hd).trans (bundleMessage_bundle hq))
  case timeout => exact fun s d hd hw ht => congrArg _ (bundleTimeout_due hd hw ht)
  case inrush => exact fun s u he hs hw ht => congrArg _ (inrushWindowEnd_due he hs hw ht)
  case softStart => exact fun s u he hs hw ht hm hn => congrArg _ (softStartCarrier_start he hs hw ht hm hn)
  case droop =>
    intro s d hd hr hn
    exact congrArg _ (if_neg (by simp [hd, hr, hn]))
  case notice =>
    intro s d st det sent q hd hq
    refine congrArg _ ((if_neg hd).trans (?_ : s.droopNotice d = _))
    unfold State.droopNotice
    split
    next hhead => cases hq.symm.trans hhead; rfl
    next hother => exact absurd hq (hother _ _ _ _)
  case endNotice =>
    intro s d st e sent q hd hq
    refine congrArg _ ((if_neg hd).trans (?_ : s.droopEndNotice d = _))
    unfold State.droopEndNotice
    split
    next hhead => cases hq.symm.trans hhead; rfl
    next hother => exact absurd hq (hother _ _ _ _)
  case freeze => exact fun s d h0 ht => congrArg _ (droopFreezeEnd_due h0 ht)
  case record => exact fun s d hd ho hr ht => congrArg _ (droopRecordLimit_due hd ho hr ht)
  case olStart => exact fun s u he hol hs hp ht ho hd hn hv => congrArg _ (olTestStart_due he hol hs hp ht ho hd hn hv)
  case olEnd => exact fun s u b hb he ht => congrArg _ (olTestEnd_due hb he ht)

end Sys2Proof.Proofs.Lamp
end

section
/-! PROOFS. Sensing: sample sets and windows, periodic feedback, and resent entries. -/

namespace Sys2Proof.Proofs.Sense

open Sys2Proof Sys2Proof.Machine

/-! ### Windows (R78) -/

/-- A sensing window ends at its multiple of 50 us, once (R78). -/
theorem windowEnd_due {s : State} {d : Die} (hr : (s.ana d).ready = true) (ht : s.dieNow d % 10000 = 0)
    (hw : (s.ana d).lastWindow ≠ s.dieNow d) : s.windowEnd d = s.windowAt d (s.dieNow d) :=
  if_pos (by simp [State.windowDue, hr, ht, hw])

/-! ### Periodic feedback (R71, R102, R118, R146, R175, R189) -/

section Feedback

variable {s : State} (x : Int)

theorem feedback_chanTj {u : Nat} (he : s.chEnabled u = true) (hf : s.fbTick (chanDie u) = true) :
    s.feedback (.chanTj u) x =
      (s.wr (Reg.CH_MEAS1.TJ u) (fieldOfInt 16 x)).unitD (chanDie u) (chanEntry u + 4) x (s.dieNow (chanDie u)) (chanSrc u) :=
  if_pos (by rw [he, hf]; rfl)

theorem feedback_chanTc {u : Nat} (hw : s.wickIn u = true) (hf : s.fbTick (chanDie u) = true) :
    s.feedback (.chanTc u) x =
      s.unitD (chanDie u) (chanEntry u + 5) (signedOf 16 (s.rd (Reg.CH_MEAS1.TC u))) (s.dieNow (chanDie u)) (chanSrc u) :=
  if_pos (by rw [hw, hf]; rfl)

/-- A bundle node is fed by P0, while its group is in use (R102). -/
theorem feedback_bundle {g : Nat} (hg : g < 16) (ha : s.groupActive g = true) (hf : s.fbTick .p0 = true) :
    s.feedback (.bundle g) x = s.unitD .p0 (0x700 + g) (signedOf 16 (s.rd (Reg.HSW_BGB.TB g))) (s.dieNow .p0) (0x0130 + g) :=
  if_pos (by simp [hg, ha, hf])

theorem feedback_motorCur {m : Nat} (he : s.mEnabled m = true) (hf : s.fbTick (motorDie m) = true) :
    s.feedback (.motorCur m) x = s.unitD (motorDie m) (motorEntry m + 3) (s.motor m).cur (s.dieNow (motorDie m)) (motorSrc m) :=
  if_pos (by rw [he, hf]; rfl)

theorem feedback_valveCur {n : Nat} (he : s.vEnabled n = true) (hf : s.fbTick .v = true) :
    s.feedback (.valveCur n) x = s.unitD .v (valveEntry n + 2) (s.valve n).cur s.vNow (valveSrc n) :=
  if_pos (by rw [he, hf]; rfl)

theorem feedback_bankCur {b : Nat} (he : s.bEnabled b = true) (hf : s.fbTick .v = true) :
    s.feedback (.bankCur b) x = s.unitD .v (bankEntry b + 1) (s.bank b).cur s.vNow (bankSrc b) :=
  if_pos (by rw [he, hf]; rfl)

theorem feedback_boost (hf : s.fbTick .v = true) : s.feedback .boost x = s.reportBoost s.vNow := if_pos hf

/-- A sink's voltage is fed once for each time it was measured (R175). -/
theorem feedback_ledVsink {n : Nat} (he : s.lEnabled n = true) (hf : s.fbTick .v = true) (hm : (s.sink n).measured = true) :
    s.feedback (.ledVsink n) x =
      (s.setSink n { s.sink n with measured := false }).unitD .v (ledEntry n + 2) (s.rd (Reg.LED_MEAS.VSINK n) : Nat) s.vNow (ledSrc n) :=
  if_pos (by rw [he, hf, hm]; rfl)

/-- An input's voltage is what its converter reads: 12 bits over 0 to 45 V (R189; log entry 16). -/
theorem feedback_inputVin {n : Nat} (he : s.iEnabled n = true) (ha : s.flag (Reg.INP_CFG.ADCEN n) = true) (hf : s.fbTick (inputDie n) = true) :
    s.feedback (.inputVin n) x =
      let v := (adc12 45000 (max 0 x)).toNat
      (s.wr (Reg.INP_MEAS.VIN n) v).unitD (inputDie n) (inputEntry n + 2) (v : Nat) (s.dieNow (inputDie n)) (inputSrc n) :=
  if_pos (by rw [he, ha, hf]; rfl)

end Feedback

/-! ### Resent entries (R71, R102, R118, R146, R175, R189) -/

section Resend

variable {s : State} {i : Nat} {a : Attr} {u : Upd}

/-- Its die sends a unit entry again that has not been updated for 2,000,000 ticks, the stamp advanced by as much. -/
theorem resend_die {d : Die} (ha : s.attr i = some a) (hu : s.lastSent i = some u) (ho : a.owner = .unit) (hf : a.freshint = 80000)
    (hh : s.resendHeld i = false) (hd : entryDie i = some d) (ht : u.stamp + 2000000 ≤ s.dieNow d) (hr : (s.ana d).ready = true) :
    s.resend i = s.sendD d { u with value := s.resendValue i u, stamp := u.stamp + 2000000 } := by
  simp [State.resend, ha, hu, ho, hf, hh, hd, ht, hr]

/-- Die L sends a unit entry again that no die feeds. -/
theorem resend_dieL (ha : s.attr i = some a) (hu : s.lastSent i = some u) (ho : a.owner = .unit) (hf : a.freshint = 80000)
    (hh : s.resendHeld i = false) (hd : entryDie i = none) (ht : u.stamp + 2000000 ≤ s.now) :
    s.resend i = s.sendL { u with value := s.resendValue i u, stamp := u.stamp + 2000000 } := by
  simp [State.resend, ha, hu, ho, hf, hh, hd, ht]

end Resend

/-- Settles O15: the sample set, the window, each unit's feedback and the resend by what they do where their guards are met. -/
theorem sensingCommands : Obligations.SensingCommands := by
  refine ⟨?sample, ?window, ?chanTj, ?chanTc, ?bundle, ?motorCur, ?valveCur, ?bankCur, ?boost, ?ledVsink, ?inputVin, ?resendDie, ?resendL⟩
  case sample =>
    intro s d x hr ht hl
    have hdue : ¬((s.ana d).ready = false ∨ s.dieNow d % 200 ≠ 0 ∨ (s.ana d).lastSample = s.dieNow d) := by simp [hr, ht, hl]
    exact congrArg _ (if_neg hdue)
  case window => exact fun s d hr ht hw => congrArg _ (windowEnd_due hr ht hw)
  case chanTj => exact fun s u x he hf => congrArg _ (feedback_chanTj x he hf)
  case chanTc => exact fun s u x hw hf => congrArg _ (feedback_chanTc x hw hf)
  case bundle => exact fun s g x hg ha hf => congrArg _ (feedback_bundle x hg ha hf)
  case motorCur => exact fun s m x he hf => congrArg _ (feedback_motorCur x he hf)
  case valveCur => exact fun s n x he hf => congrArg _ (feedback_valveCur x he hf)
  case bankCur => exact fun s b x he hf => congrArg _ (feedback_bankCur x he hf)
  case boost => exact fun s x hf => congrArg _ (feedback_boost x hf)
  case ledVsink => exact fun s n x he hf hm => congrArg _ (feedback_ledVsink x he hf hm)
  case inputVin => exact fun s n x he ha hf => congrArg _ (feedback_inputVin x he ha hf)
  case resendDie => exact fun s i a u d ha hu ho hf hh hd ht hr => congrArg _ (resend_die ha hu ho hf hh hd ht hr)
  case resendL => exact fun s i a u ha hu ho hf hh hd ht => congrArg _ (resend_dieL ha hu ho hf hh hd ht)

end Sys2Proof.Proofs.Sense
end

section
/-! PROOFS. Motor units: carriers, ripple edges, ends of motions, pinches, settling, current chopping and back-EMF measurements. -/

namespace Sys2Proof.Proofs.Motors

open Sys2Proof Sys2Proof.Machine

/-! ### Carriers (R75, R124) -/

section Carrier

variable {s : State}

/-- A unit in RUN, or driving back in a pinch, that neither chops nor measures starts its period (R124). -/
theorem motorPeriodStart_due {m : Nat} (he : s.mEnabled m = true) (hd : s.mSt m = .run ∨ (s.mSt m = .pinch ∧ (s.motor m).pinchDrive = true))
    (hc : (s.motor m).chopUntil = 0) (hb : (s.motor m).bemfStart = none) (ht : s.mNow m % motorPeriod (s.rd (Reg.BRG_PWM.FREQ m)) = 0) :
    s.motorPeriodStart m = s.motorGate m (s.mNow m) :=
  if_pos (by simp [he, hd, hc, hb, ht])

theorem chanPeriodStart_due {u : Nat} (he : s.chEnabled u = true) (hc : s.chConducts u = true) (hp : cmdOp (s.chan u).cmd = 2)
    (hg : pwmStarts (s.gridOf u (s.chNow u)).1 (s.gridOf u (s.chNow u)).2 (s.chNow u) = true) :
    s.chanPeriodStart u = (s.takePattern u (s.chNow u)).gate u (s.chNow u) :=
  if_pos (by simp [he, hc, hp, hg])

theorem chanOnTimeEnd_due {u : Nat} (ho : (s.chan u).on = true) (h0 : (s.chan u).onUntil ≠ 0) (ht : (s.chan u).onUntil ≤ s.chNow u) :
    s.chanOnTimeEnd u = s.setChan u { s.chan u with on := false, onUntil := 0 } :=
  if_pos (by simp [ho, h0, ht])

theorem motorOnTimeEnd_due {m : Nat} (ho : (s.motor m).on = true) (h0 : (s.motor m).onUntil ≠ 0) (ht : (s.motor m).onUntil ≤ s.mNow m) :
    s.motorOnTimeEnd m = (s.setMotor m { s.motor m with on := false, onUntil := 0 }).driveOut m (s.motor m).onUntil :=
  if_pos (by simp [ho, h0, ht])

end Carrier

section Motion

variable {s : State} {m : Nat}

/-! ### Ends found at a control step (R121, R123, R132, R134) -/

/-- A motion that stalls and is no pulse ends STALL (R132). -/
theorem motorStall_run {mo : Motion} (hs : s.mSt m = .run) (hm : (s.motor m).motion = some mo) (he : s.mEnabled m = true)
    (ht : s.stepAt m (s.mNow m) = true) (hop : mo.op ≠ 5) (hb : (s.motor m).blankEnd ≤ s.mNow m) (hst : s.stalled m (s.mNow m) = true) :
    s.motorStall m = (s.endRun m MRes.stall (s.mNow m)).raiseFlag (Reg.BRG_CAUSE.STALL m) := by
  simp [State.motorStall, State.motorStallAt, hs, hm, he, ht, hop, hb, hst]

/-- A reversal without an edge for TSTALL ends the pinch (R134). -/
theorem motorStall_reversal (hs : s.mSt m = .pinch) (he : s.mEnabled m = true) (ht : s.stepAt m (s.mNow m) = true)
    (hd : (s.motor m).pinchDrive = true)
    (hst : max ((s.motor m).lastEdge.getD 0) (s.motor m).pinchTick + s.rd (Reg.BRG_TIME.TSTALL m) * 200000 ≤ s.mNow m) :
    s.motorStall m = (s.raiseFlag (Reg.BRG_CAUSE.STALL m)).pinchDone m (s.mNow m) := by
  simp only [State.motorStall, State.motorStallAt, hs, he, ht, hd, hst, Bool.not_true, Bool.or_self, Bool.false_eq_true, if_false, decide_true,
    Bool.and_self, if_true]

/-- The end of a pulse is its target (R121). -/
theorem pulseEnd_due {mo : Motion} (hm : (s.motor m).motion = some mo) (he : s.mEnabled m = true) (ht : s.stepAt m (s.mNow m) = true)
    (hs : s.mSt m = .run) (hop : mo.op = 5) (hp : (s.motor m).pulseEnd ≤ s.mNow m) : s.pulseEnd m = s.endRun m MRes.done (s.mNow m) := by
  simp [State.pulseEnd, State.pulseEndAt, hm, he, ht, hs, hop, hp]

theorem reversalComplete_due (he : s.mEnabled m = true) (ht : s.stepAt m (s.mNow m) = true) (hs : s.mSt m = .pinch)
    (hd : (s.motor m).pinchDrive = true) (hr : s.rd (Reg.BRG_PINCH.REVCNT m) ≤ (s.motor m).revEdges) :
    s.reversalComplete m = s.pinchDone m (s.mNow m) :=
  if_pos (by simp [he, ht, hs, hd, hr])

/-! ### Timed ends (R121, R122, R132, R134) -/

theorem motorRunLimit_run (hs : s.mSt m = .run) (he : s.mEnabled m = true)
    (ht : (s.motor m).runStart + s.rd (Reg.BRG_TIME.TRUN m) * 20000000 ≤ s.mNow m) :
    s.motorRunLimit m =
      (s.endRun m MRes.runlimit ((s.motor m).runStart + s.rd (Reg.BRG_TIME.TRUN m) * 20000000)).raiseFlag (Reg.BRG_CAUSE.RUNLIMIT m) := by
  simp [State.motorRunLimit, hs, he, ht]

theorem motorRunLimit_reversal (hs : s.mSt m = .pinch) (he : s.mEnabled m = true) (hd : (s.motor m).pinchDrive = true)
    (ht : (s.motor m).pinchTick + s.rd (Reg.BRG_TIME.TRUN m) * 20000000 ≤ s.mNow m) :
    s.motorRunLimit m =
      (s.raiseFlag (Reg.BRG_CAUSE.RUNLIMIT m)).pinchDone m ((s.motor m).pinchTick + s.rd (Reg.BRG_TIME.TRUN m) * 20000000) := by
  simp [State.motorRunLimit, hs, he, hd, ht]

theorem blankingEnd_due (he : s.mEnabled m = true) (hs : s.mSt m = .run) (hb : (s.motor m).blankDone = false)
    (ht : (s.motor m).blankEnd ≤ s.mNow m) : s.blankingEnd m = s.setMotor m { s.motor m with blankDone := true, ints := [], newInts := 0 } :=
  if_pos (by simp [he, hs, hb, ht])

/-- A unit that has braked for 2,000,000 ticks in a pinch drives in the opposite direction (R134). -/
theorem pinchBrakeEnd_due (he : s.mEnabled m = true) (hs : s.mSt m = .pinch) (hd : (s.motor m).pinchDrive = false)
    (ht : (s.motor m).pinchTick + 2000000 ≤ s.mNow m) :
    s.pinchBrakeEnd m =
      let e := (s.motor m).pinchTick + 2000000
      ((s.setMotor m { s.motor m with pinchDrive := true, pinchTick := e, revEdges := 0, ivStart := none, on := true, onUntil := 0 }).wr
        (Reg.BRG_STAT.DIR m) (s.motor m).pinchDir).driveOut m e :=
  if_pos (by simp [he, hs, hd, ht])

/-- A unit that has settled goes to rest where no motion waits (R122). -/
theorem settleEnd_rest (he : s.mEnabled m = true) (hs : s.mSt m = .settle) (ht : (s.motor m).settleEnd ≤ s.mNow m)
    (hw : (s.motor m).waiting = none) : s.settleEnd m = s.mRest m (s.motor m).settleEnd := by
  simp [State.settleEnd, he, hs, ht, hw]

/-- A motion that waited starts when the unit has settled, while boundaries arrive (R24, R122; log entry 21). -/
theorem settleEnd_waiting {mo : Motion} (he : s.mEnabled m = true) (hs : s.mSt m = .settle) (ht : (s.motor m).settleEnd ≤ s.mNow m)
    (hw : (s.motor m).waiting = some mo) :
    s.settleEnd m =
      if s.boundariesArrive (motorDie m) then s.startMotion m mo (max (s.motor m).settleEnd (s.link (motorDie m)).lastBoundary) else s := by
  simp [State.settleEnd, he, hs, ht, hw]

/-! ### Current chopping (R126) -/

theorem currentChop_above {cur : Nat} (he : s.mEnabled m = true) (hd : s.mSt m = .run ∨ (s.mSt m = .pinch ∧ (s.motor m).pinchDrive = true))
    (hcl : s.rd (Reg.BRG_CFG.CLMODE m) = 1 ∨ s.rd (Reg.BRG_CFG.CLMODE m) = 2) (ho : (s.motor m).on = true)
    (hcur : s.rd (Reg.BRG_OC.ILIM m) * 50 < cur) :
    s.currentChop m cur =
      (s.setMotor m { s.motor m with on := false, chopUntil := s.mNow m + s.rd (Reg.BRG_OC.TOFF m) * 200 }).driveOut m (s.mNow m) :=
  if_pos (by simp [he, hd, hcl, ho, hcur])

theorem chopOffEnd_due (h0 : (s.motor m).chopUntil ≠ 0) (ht : (s.motor m).chopUntil ≤ s.mNow m) :
    s.chopOffEnd m = (s.setMotor m { s.motor m with chopUntil := 0 }).motorGate m (s.mNow m) :=
  if_pos ⟨h0, ht⟩

/-! ### Back-EMF measurements (R135) -/

/-- At a period start after it fell due a measurement begins, all switches off (R135). -/
theorem bemfStart_due (he : s.mEnabled m = true) (hb : s.flag (Reg.BRG_CFG.BEMFEN m) = true) (hs : s.mSt m = .run)
    (hn : (s.motor m).bemfStart = none) (hp : s.rd (Reg.BRG_BEMF.BEMFPER m) ≠ 0)
    (ht : (s.motor m).bemfLast + s.rd (Reg.BRG_BEMF.BEMFPER m) * 200000 ≤ s.mNow m)
    (hg : s.mNow m % motorPeriod (s.rd (Reg.BRG_PWM.FREQ m)) = 0) :
    s.bemfStart m =
      (s.setMotor m { s.motor m with
        bemfStart := some (s.mNow m), bemfN := 0, bemfSum := 0, on := false, onUntil := 0,
        bemfLast := (s.motor m).bemfLast + s.rd (Reg.BRG_BEMF.BEMFPER m) * 200000 }).driveOut m (s.mNow m) :=
  if_pos (by simp [he, hb, hs, hn, hp, ht, hg])

end Motion

/-- Settles O17: each carrier, edge, end and measurement by what it does where its guard is met. -/
theorem motorCommands : Obligations.MotorCommands := by
  refine ⟨?motorPeriod, ?chanPeriod, ?chanOnEnd, ?motorOnEnd, ?ripple, ?stallRun, ?stallReversal, ?limitRun, ?limitReversal, ?blanking, ?pulse,
    ?brakeEnd, ?reversal, ?settleRest, ?settleWaiting, ?chop, ?chopEnd, ?bemfStart, ?bemfEnd⟩
  case motorPeriod => exact fun s m he hd hc hb ht => congrArg _ (motorPeriodStart_due he hd hc hb ht)
  case chanPeriod => exact fun s u he hc hp hg => congrArg _ (chanPeriodStart_due he hc hp hg)
  case chanOnEnd => exact fun s u he ho h0 ht => congrArg _ ((if_pos he).trans (chanOnTimeEnd_due ho h0 ht))
  case motorOnEnd => exact fun s m he ho h0 ht => congrArg _ ((if_pos he).trans (motorOnTimeEnd_due ho h0 ht))
  case ripple =>
    intro s m e hedge he hr hb
    refine congrArg _ (?_ : s.rippleEdge m = _)
    simp only [State.rippleEdge, hedge, he, hr, hb, Bool.true_and]
  case stallRun => exact fun s m mo hs hm he ht hop hb hst => congrArg _ (motorStall_run hs hm he ht hop hb hst)
  case stallReversal => exact fun s m hs he ht hd hst => congrArg _ (motorStall_reversal hs he ht hd hst)
  case limitRun => exact fun s m hs he ht => congrArg _ (motorRunLimit_run hs he ht)
  case limitReversal => exact fun s m hs he hd ht => congrArg _ (motorRunLimit_reversal hs he hd ht)
  case blanking => exact fun s m he hs hb ht => congrArg _ (blankingEnd_due he hs hb ht)
  case pulse => exact fun s m mo hm he ht hs hop hp => congrArg _ (pulseEnd_due hm he ht hs hop hp)
  case brakeEnd => exact fun s m he hs hd ht => congrArg _ (pinchBrakeEnd_due he hs hd ht)
  case reversal => exact fun s m he ht hs hd hr => congrArg _ (reversalComplete_due he ht hs hd hr)
  case settleRest => exact fun s m he hs ht hw => congrArg _ (settleEnd_rest he hs ht hw)
  case settleWaiting => exact fun s m mo he hs ht hw => congrArg _ (settleEnd_waiting he hs ht hw)
  case chop => exact fun s m cur he hd hcl ho hcur => congrArg _ (currentChop_above he hd hcl ho hcur)
  case chopEnd => exact fun s m h0 ht => congrArg _ (chopOffEnd_due h0 ht)
  case bemfStart => exact fun s m he hb hs hn hp ht hg => congrArg _ (bemfStart_due he hb hs hn hp ht hg)
  case bemfEnd =>
    intro s m b hstart he ht
    refine congrArg _ (?_ : s.bemfEnd m = _)
    simp only [State.bemfEnd, hstart]
    exact if_pos (by simp [he, ht])

end Sys2Proof.Proofs.Motors
end

section
/-! PROOFS. Configuration banks: the operations of R398 where nothing refuses them, and the parameters of the dies. -/

namespace Sys2Proof.Proofs.Banks

open Sys2Proof Sys2Proof.Machine

/-! ### The operations of R398 -/

/-- An operation with a good body and no condition of its own against it has its effect, while the device is not RETIRED and no other runs (R401, R405). -/
theorem cfgOp_granted {s f : State} {t opc : Nat} {good : Bool} {own : Option (Nat × Nat)} (hl : s.otp.life ≠ 2) (hop : s.cfg.op = none)
    (hg : good = true) (hown : own = none) : s.cfgOp t opc good own f = f := by
  simp [State.cfgOp, hl, hop, hg, hown]

section Granted

variable {s : State} {t : Nat} {o : HostOp} (hl : s.otp.life ≠ 2) (hop : s.cfg.op = none)
include hl hop

/-- CFG_WRITE of aligned bytes within the bank stores the bytes that were read (R398). -/
theorem cfgWrite_granted {x : ReadResult} {bs : List Byte} (ho : s.opReady t 0x60 = some o) (hb : Scope.WriteBodyOk o)
    (hx : readBytes x (o.fld 32 4) = some bs) : s.cfgWrite t x = s.cfgStore t (o.fld 20 4) bs := by
  obtain ⟨hoff, hmin, hmax, hlen, hend⟩ := hb
  simp only [State.cfgWrite, ho, hx]
  exact cfgOp_granted hl hop (by simp [hoff, hmin, hmax, hlen, hend]) rfl

/-- CFG_COMMIT runs on a spare bank that is WRITING, with every check (R399). -/
theorem cfgCommit_granted (ho : s.opReady t 0x61 = some o) (hb : s.bankSt s.spareBank = 1) :
    s.cfgCommit t =
      s.runCommit t 0x61 s.spareBank (bitOf (o.fld 16 1) 0) (s.checkAll (s.bankBytes s.spareBank) (bitOf (o.fld 16 1) 0)) := by
  simp only [State.cfgCommit, ho]
  exact cfgOp_granted hl hop rfl (refuseIf_none.mpr (by simp [hb]))

/-- CFG_ROLLBACK runs on a spare bank that is PREVIOUS, with the checks from MINVER on (R403). -/
theorem cfgRollback_granted (ho : s.opReady t 0x62 = some o) (hb : s.bankSt s.spareBank = 4) :
    s.cfgRollback t =
      s.runCommit t 0x62 s.spareBank (bitOf (o.fld 16 1) 0) (s.checkFrom (s.bankBytes s.spareBank) (bitOf (o.fld 16 1) 0)) := by
  simp only [State.cfgRollback, ho]
  exact cfgOp_granted hl hop rfl (refuseIf_none.mpr (by simp [hb]))

theorem cfgRaisemin_granted (ho : s.opReady t 0x64 = some o) (hb : Scope.RaiseBodyOk s o) (hr : s.otp.raises < 255) :
    s.cfgRaisemin t = s.raiseMin t (o.fld 20 4) := by
  obtain ⟨hbank, habove, hversion⟩ := hb
  simp only [State.cfgRaisemin, ho]
  exact cfgOp_granted hl hop (by simp [hbank, habove, hversion]) (refuseIf_none.mpr (by simp [hr]))

/-- LIFECYCLE leaves MANUFACTURE only with a bank and with its images authenticated (R405). -/
theorem lifecycle_granted (ho : s.opReady t 0x65 = some o) (hb : Scope.LifeBodyOk s o)
    (hm : s.otp.life ≠ 0 ∨ (s.hasBank = true ∧ s.flag Reg.CFG_AUTH.AUTHEN = true)) : s.lifecycle t = s.lifeNext t := by
  obtain ⟨hnext, hkey⟩ := hb
  have hmay : (decide (s.otp.life = 0) && !(s.hasBank && s.flag Reg.CFG_AUTH.AUTHEN)) = false := by
    rcases hm with hfield | ⟨hbank, hauth⟩
    · simp [hfield]
    · simp [hbank, hauth]
  simp only [State.lifecycle, ho]
  exact cfgOp_granted hl hop (by simp [hnext, hkey]) (refuseIf_none.mpr hmay)

/-- ROOT_PROVISION takes a key in the clear in MANUFACTURE alone, and each root at most 4 times (R404, R406). -/
theorem rootProvision_granted {x : ReadResult} {b : List Byte} (ho : s.opReady t 0x66 = some o) (hb : Scope.ProvisionBodyOk s o)
    (hm : o.fld 17 1 ≠ 0xFF ∨ s.otp.life = 0) (hp : s.provOf (o.fld 16 1) < 4) (hx : readBytes x 60 = some b) :
    s.rootProvision t x = s.provisionWith t (o.fld 16 1) (o.fld 17 1) b := by
  obtain ⟨hroot, hslot⟩ := hb
  have hclear : (decide (o.fld 17 1 = 0xFF) && decide (s.otp.life ≠ 0)) = false := by
    rcases hm with hkey | hmade
    · simp [hkey]
    · simp [hmade]
  have hcount : decide (4 ≤ s.provOf (o.fld 16 1)) = false := by simp [hp]
  simp only [State.rootProvision, ho, hx]
  refine cfgOp_granted hl hop (by simp [hroot, hslot, and_assoc]) ?_
  rw [refuseIf_none.mpr hclear, refuseIf_none.mpr hcount]
  rfl

/-- DEBUG_UNLOCK counts the unlock, raises the alarm and opens debug, up to 16 times (R404). -/
theorem debugUnlock_granted (ho : s.opReady t 0x67 = some o) (hd : s.otp.debug < 16) :
    s.debugUnlock t =
      (((({ s with otp := { s.otp with debug := s.otp.debug + 1 } } : State).alarm 1 4).wr Reg.CFG_STAT.DBG 1).event 0x0F87 s.now
        (s.otp.debug + 1)).cfgDone t 0x67 St.ok := by
  simp only [State.debugUnlock, ho]
  exact cfgOp_granted hl hop rfl (refuseIf_none.mpr (by simp [hd]))

end Granted

section Ungoverned

variable {s : State} {t : Nat} {o : HostOp}

/-- CFG_STATUS is always served (R401). -/
theorem cfgStatus_ready (ho : s.opReady t 0x63 = some o) :
    s.cfgStatus t = (s.cfgLast St.ok 0 0 0x63).complete t St.ok 0 s.now s.cfgResult := by
  simp only [State.cfgStatus, ho]

theorem testMode_manufacture (ho : s.opReady t 0x68 = some o) (hl : s.otp.life = 0) :
    s.testMode t = ((s.wr Reg.CFG_STAT.TEST 1).event 0x0F89 s.now).cfgDone t 0x68 St.ok := by
  simp [State.testMode, ho, hl]

end Ungoverned

/-! ### Parameters at a die (R36, R92, R399, R400) -/

section Params

variable {s s1 : State} {d : Die} {regs : SMap W32} {ms : List UpMsg}

/-- A ready die holds the parameters of a swap and acknowledges them (R400). -/
theorem dieParamsReceived_swap (h : s.popDown d = some (.params regs true, s1)) (hr : s1.domReady d = true) :
    s.dieParamsReceived d = (s1.setLink d { s1.link d with params := some regs }).ack d true := by
  simp [State.dieParamsReceived, h, hr]

/-- A ready die takes active parameters at once and acknowledges them (R92). -/
theorem dieParamsReceived_active (h : s.popDown d = some (.params regs false, s1)) (hr : s1.domReady d = true) :
    s.dieParamsReceived d = (s1.takeParams d regs).ack d false := by
  simp [State.dieParamsReceived, h, hr]

/-- The acknowledgement of active parameters confirms the die (R36). -/
theorem dieParamAck_active (hu : (s.link d).up = .ack false :: ms) (hc : s.linkCarries d = true) :
    s.dieParamAck d =
      let s1 := s.setLink d { s.link d with up := ms }
      { s1 with tb := { s1.tb with dieConfirmed := SMap.set (fun _ => false) s1.tb.dieConfirmed (dieNum d) true } } := by
  simp [State.dieParamAck, hu, hc]

/-- The acknowledgement of a swap's parameters is one that the swap no longer waits for (R399). -/
theorem dieParamAck_swap (hu : (s.link d).up = .ack true :: ms) (hc : s.linkCarries d = true) :
    s.dieParamAck d =
      let s1 := s.setLink d { s.link d with up := ms }
      { s1 with cfg := { s1.cfg with op := s1.cfg.op.map (fun op => { op with waits := op.waits.filter (fun k => decide (k ≠ dieNum d)) }) } } := by
  simp [State.dieParamAck, hu, hc]

/-- A swap whose acknowledgements are not in after 20 ms fails (R399). -/
theorem swapTimeout_due {op : CfgOp} (hop : s.cfg.op = some op) (hs : s.started = true) (hw : op.waits ≠ []) (hsel : op.selected = false)
    (ht : op.sentAt + 4000000 ≤ s.now) :
    s.swapTimeout =
      ((s.cfgFail op.opcode op.bank 4 St.domainFail 7).cfgLast St.domainFail 7 4 op.opcode).completeOpt op.tag St.domainFail 7 := by
  simp [State.swapTimeout, hop, hs, hw, hsel, ht]

end Params

/-- Settles O31: the operations of R398 that nothing refuses, then what the dies do with their parameters. -/
theorem configurationCommands : Obligations.ConfigurationCommands := by
  refine ⟨?write, ?commit, ?rollback, ?status, ?raisemin, ?lifecycle, ?root, ?debug, ?test, ?holdParams, ?takeParams, ?ackActive, ?ackSwap, ?timeout⟩
  case write =>
    exact fun s t o x bs ho hl hop hoff hmin hmax hlen hend hx => congrArg _ (cfgWrite_granted hl hop ho ⟨hoff, hmin, hmax, hlen, hend⟩ hx)
  case commit => exact fun s t o ho hl hop hb => congrArg _ (cfgCommit_granted hl hop ho hb)
  case rollback => exact fun s t o ho hl hop hb => congrArg _ (cfgRollback_granted hl hop ho hb)
  case status => exact fun s t o ho => congrArg _ (cfgStatus_ready ho)
  case raisemin =>
    exact fun s t o ho hl hop hbank habove hversion hr => congrArg _ (cfgRaisemin_granted hl hop ho ⟨hbank, habove, hversion⟩ hr)
  case lifecycle => exact fun s t o ho hl hop hnext hkey hm => congrArg _ (lifecycle_granted hl hop ho ⟨hnext, hkey⟩ hm)
  case root =>
    exact fun s t o x b ho hl hop hroot hslot hm hp hx => congrArg _ (rootProvision_granted hl hop ho ⟨hroot, hslot⟩ hm hp hx)
  case debug => exact fun s t o ho hl hop hd => congrArg _ (debugUnlock_granted hl hop ho hd)
  case test => exact fun s t o ho hl => congrArg _ (testMode_manufacture ho hl)
  case holdParams => exact fun s d regs s1 h hr => congrArg _ (dieParamsReceived_swap h hr)
  case takeParams => exact fun s d regs s1 h hr => congrArg _ (dieParamsReceived_active h hr)
  case ackActive => exact fun s d ms hu hc => congrArg _ (dieParamAck_active hu hc)
  case ackSwap => exact fun s d ms hu hc => congrArg _ (dieParamAck_swap hu hc)
  case timeout => exact fun s op hop hs hw hsel ht => congrArg _ (swapTimeout_due hop hs hw hsel ht)

end Sys2Proof.Proofs.Banks
end

section
/-! PROOFS. Bridge control steps, their overruns, and the trips of motor units. -/

namespace Sys2Proof.Proofs.Bridges

open Sys2Proof Sys2Proof.Machine

/-! ### Control steps (R138, R144) -/

section ControlStep

variable {s : State} {d : Die}

/-- A control step is due on a power die at each multiple of 2,000 ticks, once, while its sequencer runs (R138). -/
theorem bridgeDue_of_running (hd : d ≠ .v) (hr : (s.ana d).ready = true) (hs : (s.seq (dieNum d)).stopped = false)
    (ht : s.dieNow d % 2000 = 0) (hl : (s.seq (dieNum d)).last < s.dieNow d) : s.bridgeDue d (s.dieNow d) = true := by
  simp [State.bridgeDue, hd, hr, hs, ht, hl]

variable (hdue : s.bridgeDue d (s.dieNow d) = true)
include hdue

/-- Where the last step has finished, the sequencer starts and each unit of the die is served (R138). -/
theorem bridgeStep_finished (hc : (s.celAt (8 + dieNum d)).running = false) :
    s.bridgeStep d =
      (motorsOf d).foldl (fun s1 m => s1.motorStep m (s.dieNow d))
        ((s.setSeq (dieNum d) { s.seq (dieNum d) with last := s.dieNow d }).seqStart (8 + dieNum d)) := by
  simp [State.bridgeStep, State.bridgeStepAt, hdue, hc]

/-- A step that comes while the last one runs is an overrun (R138; log entry 70). -/
theorem bridgeStep_unfinished (hc : (s.celAt (8 + dieNum d)).running = true) : s.bridgeStep d = s.bridgeOverrunAt d (s.dieNow d) := by
  simp [State.bridgeStep, State.bridgeStepAt, hdue, hc]

theorem bridgeOverrun_unfinished (hc : (s.celAt (8 + dieNum d)).running = true) : s.bridgeOverrun d = s.bridgeOverrunAt d (s.dieNow d) :=
  if_pos (by simp [hdue, hc])

end ControlStep

/-! ### Trips (R127) -/

section Trip

variable {s : State} {m : Nat}

/-- A current above 108 % of a short limit in steps of 250 mA is above the limit with its free error, which is at most 8 % (R82, R127). -/
theorem shortLimit_lt_of_above {lim cur : Nat} (h : lim * 270000 < cur * 1000) (e : Int) :
    (lim : Int) * 250 * (1000 + clampInt (-80) 80 e) < (cur : Int) * 1000 := by
  have herr := Switch.clampInt_le (lo := -80) (hi := 80) (by decide) e
  have hmul := Int.mul_le_mul_of_nonneg_left (Int.add_le_add_left herr 1000) (show (0 : Int) ≤ (lim : Int) * 250 by positivity)
  omega

/-- A current above ISHORT by more than 8 % is a cause of a trip, whatever the other comparators say (R127). -/
theorem bridgeCauses_ne_zero_of_above {x : BridgeSense} (t : Nat) (h : s.rd (Reg.BRG_OC.ISHORT m) * 270000 < x.cur * 1000) :
    s.bridgeCauses m t x ≠ 0 := by
  have hshort := shortLimit_lt_of_above h (Config.shortError (64 + m))
  simp [State.bridgeCauses, b2n, hshort]

/-- An enabled unit in a state with switches on trips with the causes that its comparators assert (R127). -/
theorem bridgeTrip_asserted {x : BridgeSense} (he : s.mEnabled m = true)
    (hl : busyState (s.mSt m) = true ∨ s.mSt m = .brake ∨ s.mSt m = .limp) (hc : s.bridgeCauses m (s.mNow m) x ≠ 0) :
    s.bridgeTrip m x =
      let t := s.mNow m
      let c := s.bridgeCauses m t x
      let s1 := s.raiseBits (Reg.BRG_CAUSE.SHORT m).off (BitVec.ofNat 32 c)
      let s2 := (s1.wr (Reg.BRG_STAT.TRIPRUN m) (satAdd 4 (s.rd (Reg.BRG_STAT.TRIPRUN m)) 1)).faultD (motorDie m) (motorSrc m)
        (if c % 2 = 1 then 0x01 else 0x03) t c
      let s3 := s2.endMotions m MRes.trip t
      let s4 := if s.mMoving m then s3.unsure m else s3
      ((s4.setMotor m { s4.motor m with tripTick := t }).mEnter m .tripped t).pinchLeft m t :=
  if_neg (by rcases hl with hlive | hlive | hlive <;> simp [he, hc, hlive])

/-- 2,000,000 ticks after its trip a unit locks at its trip limit, else it goes to rest (R122, R127). -/
theorem motorTrippedEnd_due (he : s.mEnabled m = true) (hs : s.mSt m = .tripped) (ht : (s.motor m).tripTick + 2000000 ≤ s.mNow m) :
    s.motorTrippedEnd m =
      let e := (s.motor m).tripTick + 2000000
      if s.rd (Reg.BRG_TRIP.TRIPLIM m) ≤ s.rd (Reg.BRG_STAT.TRIPRUN m) then
        ((s.raiseFlag (Reg.BRG_CAUSE.LOCK m)).mEnter m .locked e).faultD (motorDie m) (motorSrc m) 0x06 e
      else s.mRest m e :=
  if_pos (by simp [he, hs, ht])

end Trip

/-- Settles O18: a due step by whether the last one has finished, a trip by the short comparator at its bound, and the end of TRIPPED. -/
theorem bridgeProtectionCommands : Obligations.BridgeProtectionCommands := by
  refine ⟨?finished, ?unfinished, ?trip, ?trippedEnd, ?overrun⟩
  case finished => exact fun s d hd hr hs ht hl hc => congrArg _ (bridgeStep_finished (bridgeDue_of_running hd hr hs ht hl) hc)
  case unfinished => exact fun s d hd hr hs ht hl hc => congrArg _ (bridgeStep_unfinished (bridgeDue_of_running hd hr hs ht hl) hc)
  case trip => exact fun s m x he hl hx => congrArg _ (bridgeTrip_asserted he hl (bridgeCauses_ne_zero_of_above _ hx))
  case trippedEnd => exact fun s m he hs ht => congrArg _ (motorTrippedEnd_due he hs ht)
  case overrun => exact fun s d hd hr hs ht hl hc => congrArg _ (bridgeOverrun_unfinished (bridgeDue_of_running hd hr hs ht hl) hc)

end Sys2Proof.Proofs.Bridges
end

section
/-! PROOFS. Power states and wake: requests on the regulator bus, the main domains, PARK entry, losses of supply, and the management port. -/

namespace Sys2Proof.Proofs.Rails

open Sys2Proof Sys2Proof.Machine

/-! ### The regulator request bus (R419, R420, R427) -/

section RailRequest

variable {s : State}

/-- With no park to begin, the next rail of the sequence is requested (R419). -/
theorem rqbRequest_next (hp : s.parkDue = false) (hg : s.pow.goal ≠ .rest) (hn : s.pow.sends = 0) : s.rqbRequest = s.rqbNew := by
  simp [State.rqbRequest, hp, hg, hn]

theorem rqbRetry_due (hg : s.pow.goal ≠ .rest) (hmin : 1 ≤ s.pow.sends) (hmax : s.pow.sends ≤ 3)
    (ht : s.pow.sentAt + resendAt s.pow.sends ≤ s.pow.candle) :
    s.rqbRetry = ({ s with pow := { s.pow with sends := s.pow.sends + 1 } } : State).emit (.rqb s.pow.word) :=
  if_pos ⟨hg, hmin, hmax, ht⟩

theorem rqbStatus_acked {st : Byte} (hg : s.pow.goal ≠ .rest) (hn : s.pow.sends ≠ 0) (ht : s.pow.sentAt + 20000 ≤ s.pow.candle)
    (ha : s.pow.acked st.toNat = true) : s.rqbStatus st = { s with pow := s.pow.railDone } :=
  if_pos ⟨hg, hn, ht, ha⟩

/-- A request on that nothing acknowledges within 32 ms fails the wake (R420). -/
theorem regFail_on (hn : s.pow.sends ≠ 0) (ht : s.pow.sentAt + 6400000 ≤ s.pow.candle) (hg : s.pow.goal = .on) :
    s.regFail = s.wakeRegFail := by
  simp only [State.regFail, if_pos (And.intro hn ht), hg]

/-- A request off that nothing acknowledges within 32 ms fails the park (R420). -/
theorem regFail_off (hn : s.pow.sends ≠ 0) (ht : s.pow.sentAt + 6400000 ≤ s.pow.candle) (hg : s.pow.goal = .off) :
    s.regFail = s.parkRegFail := by
  simp only [State.regFail, if_pos (And.intro hn ht), hg]

end RailRequest

/-! ### Main domains (R417, R418, R423) -/

section Domain

variable {s : State} {d : Die}

/-- A domain that comes up changes nothing in whether die L runs. -/
theorem domainUp_started (s : State) (d : Die) : (s.domainUp d).started = s.started := by
  simp [State.domainUp, State.started]

/-- A domain becomes ready while die L runs: its parameters and commands follow, and what stalled on it goes on (R418, R423, R439). -/
theorem domainReady_started (hc : s.domainComing d = true) (hs : s.started = true) :
    s.domainReady d =
      (s.stallsOf d).foldl State.goesOn (((((s.domainUp d).sendActive d).sendSwap d).resendCommands d).unstall d) := by
  simp only [State.domainReady, hc, domainUp_started, hs, if_true]

/-- A domain that is not ready 1 ms after it was switched on fails; its next try is a second later (R423). -/
theorem domainStartTimeout_started {k : Nat} (ho : s.domainOn d = some k) (hr : s.domReady d = false) (ht : k + 200000 ≤ s.pow.candle)
    (hs : s.started = true) :
    s.domainStartTimeout d =
      { s.domainFail d with
        pow := { (s.domainFail d).pow with
          onAt := SMap.set (fun _ => none) (s.domainFail d).pow.onAt (dieNum d) (some (k + 200000000)) } } := by
  simp [State.domainStartTimeout, ho, hr, ht, hs]

/-- A domain that an access has waited 8,000 ticks for fails, and with it what stalls on it (R418). -/
theorem domainStallTimeout_due {k : Nat} (hk : SMap.get (fun _ => none) s.pow.stallAt (dieNum d) = some k) (ht : k + 8000 ≤ s.now) :
    s.domainStallTimeout d = ((s.stallsOf d).foldl State.stallFails (s.unstall d)).domainFail d := by
  simp only [State.domainStallTimeout, hk, if_pos ht]

end Domain

/-! ### The end of a run (R425 to R427) -/

section RunEnd

variable {s : State}

theorem parkEntry_off (hp : s.pow.parking = true) (hg : s.pow.goal = .rest) :
    s.parkEntry =
      let s2 : State := { s.toPark with pow := { s.toPark.pow with parking := false, lastBound := none } }
      if s2.pow.latched ≠ 0 then s2.startWake 0x200 0 else s2 :=
  if_pos ⟨hp, hg⟩

theorem shutdownTimeout_forced (hs : s.started = true) (hf : s.pow.forcedDue = true) :
    s.shutdownTimeout =
      let s1 := ((s.raiseFlag Reg.PWR_ERR.FORCED).raiseL 0x0D00 0x24 s.now).event 0x0D85 s.now
      { s1 with pow := { s1.pow with forcedDue := false } } :=
  if_pos ⟨hs, hf⟩

end RunEnd

/-! ### The management port (R422) -/

section Management

variable {s : State}

theorem execMgpReset_served {pass : List Bool} (hm : s.mgpServed = true) : execMgpReset 0x5A pass s = .next (s.deviceReset 2 pass) :=
  congrArg _ (if_pos (by simp [hm]))

theorem execMgpStatus_served (hm : s.mgpServed = true) :
    execMgpStatus s =
      .next (s.emit (.mgp (leBytes 2 ((s.readWord Reg.PWR_STAT.STATE.off).toNat % 65536) ++ leBytes 2 (s.rd Reg.PWR_WAKE.SRC)))) :=
  congrArg _ (if_pos hm)

end Management

/-- Settles O11: the request in progress, the main domains, the end of a run and the losses of supply by what each does under its guard; debug over the management port changes nothing. -/
theorem railAndDomainCommands : Obligations.RailAndDomainCommands := by
  refine ⟨?request, ?retry, ?status, ?wakeFail, ?parkFail, ?ready, ?startTimeout, ?stallTimeout, ?railLoss, ?parkEntry, ?shutdown, ?dieReset,
    ?candleReset, ?mgpReset, ?mgpStatus, fun _ _ => rfl⟩
  case request => exact fun s hp hg hn => congrArg _ (rqbRequest_next hp hg hn)
  case retry => exact fun s hg hmin hmax ht => congrArg _ (rqbRetry_due hg hmin hmax ht)
  case status => exact fun s st hg hn ht ha => congrArg _ (rqbStatus_acked hg hn ht ha)
  case wakeFail => exact fun s hn ht hg => congrArg _ (regFail_on hn ht hg)
  case parkFail => exact fun s hn ht hg => congrArg _ (regFail_off hn ht hg)
  case ready => exact fun s d hc hs => congrArg _ (domainReady_started hc hs)
  case startTimeout => exact fun s d k ho hr ht hs => congrArg _ (domainStartTimeout_started ho hr ht hs)
  case stallTimeout => exact fun s d k hk ht => congrArg _ (domainStallTimeout_due hk ht)
  case railLoss => exact fun s r k hs hb hk hr => congrArg _ (if_pos ⟨hs, hb, hk, hr⟩)
  case parkEntry => exact fun s hp hg => congrArg _ (parkEntry_off hp hg)
  case shutdown => exact fun s hs hf => congrArg _ (shutdownTimeout_forced hs hf)
  case dieReset => exact fun s d v hv hd => congrArg _ (if_pos ⟨hv, hd⟩)
  case candleReset => exact fun s mv hp hmv => congrArg _ (if_pos ⟨hp, hmv⟩)
  case mgpReset => exact fun s pass hm => execMgpReset_served hm
  case mgpStatus => exact fun s hm => execMgpStatus_served hm

end Sys2Proof.Proofs.Rails
end

section
/-! PROOFS. Valve banks: control steps, phase ends, leashes, trips and current regulation; and the boost rail. -/

namespace Sys2Proof.Proofs.Valves

open Sys2Proof Sys2Proof.Machine

/-! ### Control steps of a bank (R148, R156, R164) -/

section ControlStep

variable {s : State} {b : Nat} (hdue : s.bankDue b s.vNow = true)
include hdue

/-- Where the last step has finished, the bank's step runs its items in their order (R156). -/
theorem valveStep_finished (hc : (s.celAt (10 + b)).running = false) :
    s.valveStep b =
      let t := s.vNow
      let q := (s.bank b).seq
      let cs := s.bankChans b
      let s0 := cs.foldl (fun s n => s.leashAt n q.last) s
      let s1 := (s0.setBank b { s0.bank b with seq := { q with last := t } }).seqStart (10 + b)
      let s2 := cs.foldl (fun s n => ((((s.holdStep n t).peakFailAt n t).peakEndAt n t).releaseTimeoutAt n t).releaseEndAt n t) s1
      let s3 := cs.foldl (fun s n => s.takeWord n t) s2
      (s3.reqOrder b).foldl (fun s n => s.startPeak n t) s3 := by
  simp only [State.valveStep, State.valveStepAt, hdue, hc, if_true, Bool.false_eq_true, if_false]

/-- A step that comes while the last one runs is an overrun (R164; log entry 70). -/
theorem valveStep_unfinished (hc : (s.celAt (10 + b)).running = true) : s.valveStep b = s.bankOverrunAt b s.vNow := by
  simp only [State.valveStep, State.valveStepAt, hdue, hc, if_true]

theorem bankOverrun_unfinished (hc : (s.celAt (10 + b)).running = true) : s.bankOverrun b = s.bankOverrunAt b s.vNow :=
  if_pos (by simp [hdue, hc])

end ControlStep

/-! ### Phase ends at a control step (R149, R152, R153) -/

section PhaseEnd

variable {s : State} {n t : Nat}

/-- An actuation whose peak has run its time holds the valve (R149, R152). -/
theorem peakEndAt_actuate (hs : s.vSt n = .peak) (ht : (s.valve n).peakStart + profTpeak (s.valve n).profA ≤ t) (hop : (s.valve n).op = 1) :
    s.peakEndAt n t = (s.toHold n t).valveResult n VRes.actuated t :=
  (if_pos ⟨hs, ht⟩).trans (if_pos hop)

/-- A pulse whose peak has run its time releases the valve (R149, R152). -/
theorem peakEndAt_pulse (hs : s.vSt n = .peak) (ht : (s.valve n).peakStart + profTpeak (s.valve n).profA ≤ t) (hop : (s.valve n).op ≠ 1) :
    s.peakEndAt n t = s.toRelease n VRes.pulsed t :=
  (if_pos ⟨hs, ht⟩).trans (if_neg hop)

variable (hl : s.vLive n = true) (hb : s.bankSteps (valveBank n) s.vNow = true)
include hl hb

theorem execPeakEnd_step : execPeakEnd n s = .next (s.peakEndAt n s.vNow) := congrArg _ (if_pos (by simp [hl, hb]))

theorem execPeakFail_step : execPeakFail n s = .next (s.peakFailAt n s.vNow) := congrArg _ (if_pos (by simp [hl, hb]))

theorem execReleaseTimeout_step : execReleaseTimeout n s = .next (s.releaseTimeoutAt n s.vNow) := congrArg _ (if_pos (by simp [hl, hb]))

end PhaseEnd

section Channel

variable {s : State} {n : Nat}

/-! ### Leashes and a low hold (R152, R155, R157) -/

/-- A request whose leash ends by a control step is a conflict, or waited for a rail that is not ready (R155, R157). -/
theorem leashAt_expired {r : ValveReq} {t : Nat} (hr : (s.valve n).req = some r) (hleash : r.leash = true)
    (ht : r.stamp + s.rd (Reg.VLV_BCFG.LEASH (valveBank n)) * 2000 ≤ t) :
    s.leashAt n t =
      (s.count (Reg.VLV_BCNT.CONFLICT (valveBank n)) 1).dropReq n
        (if s.flag Reg.VLV_BSTSTAT.READY = false ∧ profSrc (s.profA (valveBank n) r.prof) = 1 then VRes.boostwait else VRes.conflict) t := by
  simp only [State.leashAt, hr]
  exact if_pos ⟨hleash, ht⟩

theorem holdLow_run (he : s.vEnabled n = true) (hs : s.vSt n = .hold) (hf : s.flag (Reg.VLV_STAT.HOLDLOW n) = false)
    (hr : 200 ≤ (s.valve n).lowRun) :
    s.holdLow n =
      (((s.wr (Reg.VLV_STAT.HOLDLOW n) 1).raiseFlag (Reg.VLV_CAUSE.HOLDLOW n)).raiseD .v (valveSrc n) 0x0C s.vNow).reportValve n s.vNow :=
  if_pos (by simp [he, hs, hf, hr])

/-! ### Trips (R149, R150, R160, R161) -/

/-- A value kept within bounds lies at most at the upper one. -/
theorem clampNat_le {lo hi : Nat} (h : lo ≤ hi) (v : Nat) : clampNat lo hi v ≤ hi := max_le h (min_le_left hi v)

/-- A current above 6.6 A is above the short limit of every channel, whatever its free error (R160). -/
theorem valveTrip_above {cur : Nat} (he : s.vEnabled n = true) (hl : (s.valve n).lowSide = true) (hcur : 6600 < cur) :
    s.valveTrip n cur = s.valveTripAt n 0 s.vNow := by
  have hlimit := (clampNat_le (lo := 5400) (by decide) (Config.valveShort n)).trans_lt hcur
  exact if_pos (by simp [he, hl, hlimit])

/-- 2,000,000 ticks after its trip a channel locks at its trip limit, else it goes to rest (R149). -/
theorem valveTrippedEnd_due (hl : s.vLive n = true) (hs : s.vSt n = .tripped) (ht : s.rd64 (Reg.VLV_TRIPT.T n) + 2000000 ≤ s.vNow) :
    s.valveTrippedEnd n =
      let e := s.rd64 (Reg.VLV_TRIPT.T n) + 2000000
      if s.rd (Reg.VLV_CFG.TRIPLIM n) ≤ s.rd (Reg.VLV_STAT.TRIPRUN n) then
        ((s.raiseFlag (Reg.VLV_CAUSE.LOCK n)).vEnter n .locked e).faultD .v (valveSrc n) 0x06 e
      else s.vRest n e :=
  if_pos (by simp [hl, hs, ht])

/-! ### Current regulation (R151) -/

theorem targetReached_at {cur : Nat} (he : s.vEnabled n = true) (hs : s.vSt n = .peak ∨ s.vSt n = .hold) (hl : (s.valve n).lowSide = true)
    (hcur : (s.vTarget n).1 ≤ cur) :
    s.targetReached n cur = s.setValve n { s.valve n with lowSide := false, recirc := true, offEnd := s.vNow + (s.vTarget n).2 } :=
  if_pos (by simp [he, hs, hl, hcur])

theorem offTimeEnd_due (he : s.vEnabled n = true) (hs : s.vSt n = .peak ∨ s.vSt n = .hold) (hr : (s.valve n).recirc = true)
    (ht : (s.valve n).offEnd ≤ s.vNow) :
    s.offTimeEnd n = s.setValve n { s.valve n with lowSide := true, recirc := false, offEnd := 0 } :=
  if_pos (by simp [he, hs, hr, ht])

end Channel

section BankTrip

variable {s : State} {b : Nat}

/-- A current above 13.2 A is above the limit of every bank, whatever its free error, and trips a bank whose switch conducts (R161). -/
theorem bankTrip_above {cur : Nat} (he : s.bEnabled b = true) (hs : s.bSt b = .vbat ∨ s.bSt b = .boost) (hv : s.supplyBlocks .v = false)
    (hcur : 13200 < cur) :
    s.bankTrip b cur =
      let t := s.vNow
      let s1 := (s.raiseFlag (Reg.VLV_BCAUSE.SHORT b)).wr64 (Reg.VLV_BTRIPT.T b) t
      let s2 := (s1.wr (Reg.VLV_BSTAT.TRIPRUN b) (satAdd 4 (s.rd (Reg.VLV_BSTAT.TRIPRUN b)) 1)).faultD .v (bankSrc b) 0x01 t 1
      (s2.bankDrop b VRes.trip t).bEnter b .tripped t := by
  have hlimit := (clampNat_le (lo := 10800) (by decide) (Config.bankShort b)).trans_lt hcur
  exact if_pos (by simp [he, hs, hv, hlimit])

/-- 2,000,000 ticks after its trip a bank locks at its trip limit, else it goes to rest (R150). -/
theorem bankTrippedEnd_due (he : s.bEnabled b = true) (hs : s.bSt b = .tripped) (ht : s.rd64 (Reg.VLV_BTRIPT.T b) + 2000000 ≤ s.vNow) :
    s.bankTrippedEnd b =
      let e := s.rd64 (Reg.VLV_BTRIPT.T b) + 2000000
      if s.rd (Reg.VLV_BCFG.TRIPLIM b) ≤ s.rd (Reg.VLV_BSTAT.TRIPRUN b) then
        ((s.raiseFlag (Reg.VLV_BCAUSE.LOCK b)).bEnter b .locked e).faultD .v (bankSrc b) 0x06 e
      else s.bRest b e :=
  if_pos (by simp [he, hs, ht])

end BankTrip

/-- Settles O19: a due step by whether the last one has finished, each phase end at a step, the trips by a current above every limit, and regulation. -/
theorem valveCommands : Obligations.ValveCommands := by
  refine ⟨?finished, ?unfinished, ?actuate, ?pulse, ?peakFail, ?releaseTimeout, ?leash, ?holdLow, ?trip, ?trippedEnd, ?bankTrip, ?bankTrippedEnd,
    ?overrun, ?target, ?offTime⟩
  case finished => exact fun s b hdue hc => congrArg _ (valveStep_finished hdue hc)
  case unfinished => exact fun s b hdue hc => congrArg _ (valveStep_unfinished hdue hc)
  case actuate => exact fun s n hl hb hs ht hop => (execPeakEnd_step hl hb).trans (congrArg _ (peakEndAt_actuate hs ht hop))
  case pulse => exact fun s n hl hb hs ht hop => (execPeakEnd_step hl hb).trans (congrArg _ (peakEndAt_pulse hs ht hop))
  case peakFail => exact fun s n hl hb hs hr ht => (execPeakFail_step hl hb).trans (congrArg _ (if_pos ⟨hs, hr, ht⟩))
  case releaseTimeout => exact fun s n hl hb hs hc ht => (execReleaseTimeout_step hl hb).trans (congrArg _ (if_pos ⟨hs, hc, ht⟩))
  case leash => exact fun s n r he hr hleash ht => congrArg _ ((if_pos he).trans (leashAt_expired hr hleash ht))
  case holdLow => exact fun s n he hs hf hr => congrArg _ (holdLow_run he hs hf hr)
  case trip => exact fun s n cur he hl hcur => congrArg _ (valveTrip_above he hl hcur)
  case trippedEnd => exact fun s n hl hs ht => congrArg _ (valveTrippedEnd_due hl hs ht)
  case bankTrip => exact fun s b cur he hs hv hcur => congrArg _ (bankTrip_above he hs hv hcur)
  case bankTrippedEnd => exact fun s b he hs ht => congrArg _ (bankTrippedEnd_due he hs ht)
  case overrun => exact fun s b hdue hc => congrArg _ (bankOverrun_unfinished hdue hc)
  case target => exact fun s n cur he hs hl hcur => congrArg _ (targetReached_at he hs hl hcur)
  case offTime => exact fun s n he hs hr ht => congrArg _ (offTimeEnd_due he hs hr ht)

/-! ### The boost rail (R158, R159) -/

section Boost

variable {s : State}

/-- READY sets as of the end of 2,000 ticks at or above VRDY, but not before the enable (R158). -/
theorem boostReady_due {k : Nat} (hk : s.bst.since = some k) (he : s.flag Reg.VLV_BST.BSTEN = true) (hv : (s.ana .v).ready = true)
    (hr : s.flag Reg.VLV_BSTSTAT.READY = false) (ht : max (k + 2000) s.bst.enAt ≤ s.vNow) :
    s.boostReady = (s.wr Reg.VLV_BSTSTAT.READY 1).reportBoost (max (k + 2000) s.bst.enAt) := by
  simp only [State.boostReady, hk]
  exact if_pos (by simp only [he, hv, hr, ht, Bool.not_false, Bool.and_self, decide_true])

/-- The rail 1 V below VRDY is a loss of READY (R158, R159). -/
theorem boostReadyLoss_low (hr : s.flag Reg.VLV_BSTSTAT.READY = true) (hlow : s.bst.rail + 1000 < s.rd Reg.VLV_BSTRDY.VRDY * 100) :
    s.boostReadyLoss =
      ({ (s.wr Reg.VLV_BSTSTAT.READY 0).count Reg.VLV_BSTCNT.LOSS 1 with bst := { s.bst with since := none, notReady := s.vNow } } : State).reportBoost
        s.vNow :=
  if_pos (by simp [hr, hlow])

theorem boostNotReady_due (he : s.flag Reg.VLV_BST.BSTEN = true) (hv : (s.ana .v).ready = true) (hr : s.flag Reg.VLV_BSTSTAT.READY = false)
    (ht : s.bst.notReady + 4000000 ≤ s.vNow) :
    s.boostNotReady =
      let s1 := (s.raiseFlag Reg.VLV_BSTCAUSE.NOTREADY).faultD .v 0x0430 0x0E (s.bst.notReady + 4000000)
      { s1 with bst := { s.bst with notReady := s.bst.notReady + 4000000 } } :=
  if_pos (by simp [he, hv, hr, ht])

/-- The converter stops above VSET + 4 V and above 52 V, once until the rail is below VSET (R159). -/
theorem boostOvp_high (he : s.flag Reg.VLV_BST.BSTEN = true) (ho : s.bst.ovp = false)
    (hhigh : s.rd Reg.VLV_BST.VSET * 100 + 4000 < s.bst.rail ∨ 52000 < s.bst.rail) :
    s.boostOvp =
      let s1 := ((s.raiseFlag Reg.VLV_BSTCAUSE.OVP).wr Reg.VLV_BSTSTAT.RUN 0).raiseD .v 0x0430 0x0F s.vNow
      { s1 with bst := { s.bst with ovp := true } } :=
  if_pos (by simp [he, ho, hhigh])

theorem boostOvpEnd_low (ho : s.bst.ovp = true) (hlow : s.bst.rail < s.rd Reg.VLV_BST.VSET * 100) :
    s.boostOvpEnd = { s.wr Reg.VLV_BSTSTAT.RUN (b2n s.boostMay) with bst := { s.bst with ovp := false } } :=
  if_pos (by simp [ho, hlow])

end Boost

/-- Settles O20: each change of the boost rail by what it does where its guard is met. -/
theorem boostCommands : Obligations.BoostCommands := by
  refine ⟨?ready, ?loss, ?notReady, ?ovp, ?ovpEnd⟩
  case ready => exact fun s k hk he hv hr ht => congrArg _ (boostReady_due hk he hv hr ht)
  case loss => exact fun s hr hlow => congrArg _ (boostReadyLoss_low hr hlow)
  case notReady => exact fun s he hv hr ht => congrArg _ (boostNotReady_due he hv hr ht)
  case ovp => exact fun s he ho hhigh => congrArg _ (boostOvp_high he ho hhigh)
  case ovpEnd => exact fun s ho hlow => congrArg _ (boostOvpEnd_low ho hlow)

end Sys2Proof.Proofs.Valves
end

section
/-! PROOFS. LED sinks and switch inputs: period starts, the open and short checks, the foldback, reads of a pin, acceptances, chatter and the low-battery suspension. -/

namespace Sys2Proof.Proofs.Sinks

open Sys2Proof Sys2Proof.Machine

/-! ### LED sinks (R173, R174, R177, R179, R180) -/

section Sink

variable {s : State} {n : Nat}

/-- At a period start a sink in THERMAL keeps its timeline alone; another takes its duty and the brightness values in force (R173, R174, R177). -/
theorem ledPeriodStart_due (he : s.lEnabled n = true) (hr : (s.ana .v).ready = true) (ht : s.ledStarts n s.vNow = true)
    (hs : s.lSt n = .lit ∨ s.lSt n = .fading ∨ s.lSt n = .thermal) :
    s.ledPeriodStart n =
      let t := s.vNow
      let x := s.ledPos n t
      let s1 := s.setLedPos n x
      let s2 := if s.fadeOver n t then s1.setSink n { s1.sink n with fade := none } else s1
      if s.lSt n = .thermal then (if s.fadeOver n t then s2.reportLed n t else s2)
      else
        let k := s2.sink n
        let d := s2.curveDuty k.curve x
        let e := if d = 4095 then t + s.ledPeriod else t + s.ledPeriod * d / 4096
        let s3 := (s2.setSink n { k with
          onUntil := e, edge := if t ≤ k.onUntil ∧ k.edge < t then k.edge else t,
          glob := s.rd Reg.LED_GCFG.GLOBAL, lev := s.rd (Reg.LED_CFG.LEVEL n) }).wr (Reg.LED_MEAS.DUTY n) d
        if s.fadeOver n t then s3.ledEnter n .lit t else s3 :=
  if_pos (by simpa [he, hr, ht, or_assoc] using hs)

/-- Sixteen samples in a row that are low and below 0.3 V set OPEN (R179). -/
theorem ledOpen_sixteen (he : s.lEnabled n = true) (ho : s.flag (Reg.LED_STAT.OPEN n) = false) (hrun : 16 ≤ (s.sink n).openRun) :
    s.ledOpen n = ((s.wr (Reg.LED_STAT.OPEN n) 1).faultD .v (ledSrc n) 0x08 s.vNow).reportLed n s.vNow :=
  if_pos (by simp [he, ho, hrun])

/-- Sixteen good samples in a row clear OPEN (R179). -/
theorem ledOpenClear_sixteen (he : s.lEnabled n = true) (ho : s.flag (Reg.LED_STAT.OPEN n) = true) (hrun : 16 ≤ (s.sink n).okRun) :
    s.ledOpenClear n = (s.wr (Reg.LED_STAT.OPEN n) 0).reportLed n s.vNow :=
  if_pos (by simp [he, ho, hrun])

/-- A trip to SHORTED carries the stamp of the sixteenth sample (R179). -/
theorem ledShort_sixteen (he : s.lEnabled n = true) (hs : s.lSt n = .lit ∨ s.lSt n = .fading) (hrun : 16 ≤ (s.sink n).shortRun) :
    s.ledShort n =
      ((s.raiseFlag (Reg.LED_STAT.SHORT n)).faultD .v (ledSrc n) 0x01 (s.sink n).shortStamp).ledEnter n .shorted s.vNow :=
  if_pos (by simp [he, hs, hrun])

/-- The foldback steps at its multiple of 10 ms, once, and raises where it leaves 0 (R180). -/
theorem foldback_due {tj : Int} (hr : (s.ana .v).ready = true) (ht : s.vNow % 2000000 = 0) (hl : s.ledArr.lastFold ≠ s.vNow) :
    s.foldback tj =
      let n := foldStep (s.rd Reg.LED_GSTAT.FOLD) tj
      let s1 : State := { (s.wr Reg.LED_GSTAT.FOLD n).wr Reg.LED_GSTAT.TJ (fieldOfInt 16 tj) with ledArr := { s.ledArr with lastFold := s.vNow } }
      if s.rd Reg.LED_GSTAT.FOLD = 0 ∧ n = 1 then s1.faultD .v 0x0530 0x10 s.vNow else s1 :=
  if_pos (by simp [hr, ht, hl])

end Sink

/-! ### Switch inputs (R187 to R192) -/

section Input

variable {s : State} {n : Nat}

/-- The pin of an input keeps its voltage; only a CONT input reads it at once (R187, R188; log entry 81). -/
theorem rawEdge_input (v : Nat) (hn : n < 160) :
    s.rawEdge n v =
      let s1 := s.setInput n { s.input n with pin := v }
      if s.iRuns n && !s.flag (Reg.INP_CFG.MODE n) then s1.rawAt n v (s.iNow n) else s1 :=
  if_neg (Nat.not_le.mpr hn)

/-- A PULSED input reads its pin at the end of its pulse (R187). -/
theorem pulsedRead_pulseEnd (v : Nat) (hr : s.iRuns n = true) (hm : s.flag (Reg.INP_CFG.MODE n) = true)
    (ht : s.iNow n % (s.rd (Reg.INP_PULSE.PER n) * 20000) = 2000) :
    s.pulsedRead n v =
      let s1 := (s.setInput n { s.input n with pin := v }).rawAt n v (s.iNow n)
      s1.setInput n { s1.input n with lastRead := s.iNow n } :=
  if_pos (by simp [hr, hm, ht])

/-- The acceptances of one tick on a die go in the order of their inputs (R188, R189). -/
theorem debounceAccept_due {t : Nat} (ht : s.acceptDue n = some t) :
    s.debounceAccept n =
      (((inputsOf (inputDie n)).filter (fun m => decide (m < n) && decide (s.acceptDue m = some t))).foldl State.acceptOne s).acceptOne n := by
  simp only [State.debounceAccept, ht]

/-- Chatter is reported with the tick of its 64th restart (R191). -/
theorem chatter_came {t : Nat} (ht : (s.input n).chatAt = some t) :
    s.chatter n =
      ((s.setInput n { s.input n with chatAt := none }).raiseFlag (Reg.INP_STAT.CHAT n)).faultD (inputDie n) (inputSrc n) 0x11 t t := by
  simp only [State.chatter, ht]

/-- The suspension ends as of 2,000 ticks after the battery came back: a first acceptance counts from there, an accepted level is sent again (R190, R192; log entry 81). -/
theorem lowbatEnd_due {k : Nat} (hk : (s.input n).lowOk = some k) (hr : s.iRuns n = true) (hl : s.flag (Reg.INP_STAT.LOWBAT n) = true)
    (ht : k + 2000 ≤ s.iNow n) :
    s.lowbatEnd n =
      let x := s.input n
      let t := k + 2000
      let s1 := (s.setInput n { x with lowOk := none, holdFrom := if x.accepted then x.holdFrom else t }).wr (Reg.INP_STAT.LOWBAT n) 0
      if x.accepted then
        let s2 := s1.sendLevel n t
        if s.inverted n x.raw ≠ s.level n then s2.beginRun n t else s2
      else s1 := by
  simp only [State.lowbatEnd, hk]
  exact if_pos (by simp [hr, hl, ht])

end Input

/-- Settles O16: each command of the sinks and the inputs by what it does where its guard is met. -/
theorem ledAndInputCommands : Obligations.LedAndInputCommands := by
  refine ⟨?period, ?isOpen, ?openClear, ?short, ?fold, ?rawEdge, ?pulsed, ?accept, ?chatter, ?lowbat⟩
  case period => exact fun s n he hr ht hs => congrArg _ (ledPeriodStart_due he hr ht hs)
  case isOpen => exact fun s n he ho hrun => congrArg _ (ledOpen_sixteen he ho hrun)
  case openClear => exact fun s n he ho hrun => congrArg _ (ledOpenClear_sixteen he ho hrun)
  case short => exact fun s n he hs hrun => congrArg _ (ledShort_sixteen he hs hrun)
  case fold => exact fun s tj hr ht hl => congrArg _ (foldback_due hr ht hl)
  case rawEdge => exact fun s n v hn => congrArg _ (rawEdge_input v hn)
  case pulsed => exact fun s n v hr hm ht => congrArg _ (pulsedRead_pulseEnd v hr hm ht)
  case accept => exact fun s n t ht => congrArg _ (debounceAccept_due ht)
  case chatter => exact fun s n t ht => congrArg _ (chatter_came ht)
  case lowbat => exact fun s n k hk hr hl ht => congrArg _ (lowbatEnd_due hk hr hl ht)

end Sys2Proof.Proofs.Sinks
end

section
/-! PROOFS. What wakes the device and how a wake starts: wake sources in PARK and after the last boundary, the poll, CAN wake-up, and the starts. -/

namespace Sys2Proof.Proofs.Wake

open Sys2Proof Sys2Proof.Machine

/-! ### Wake sources (R329, R421, R422, R426) -/

section Source

variable {s : State} {src : Nat}

/-- In PARK a wake source asks for a wake (R421). -/
theorem wakeBy_park (hs : s.pow.supplied = true) (hp : s.power = Pw.park) :
    s.wakeBy src = { s with pow := { s.pow with heldSrc := orBits s.pow.heldSrc src } } := by
  simp only [State.wakeBy, hs, hp, Bool.not_true, Bool.false_eq_true, if_false, if_true]

/-- From the last boundary to PARK entry a wake source latches a wake (R426). -/
theorem wakeBy_afterLast (hs : s.pow.supplied = true) (hp : s.power ≠ Pw.park) (hb : s.pow.lastBound.isSome = true) :
    s.wakeBy src = { s with pow := { s.pow with latched := orBits s.pow.latched src } } := by
  simp only [State.wakeBy, hs, hp, hb, Bool.not_true, Bool.false_eq_true, if_false, if_true]

/-- TKR_WAKE_N has been low for 100 µs (R421). -/
theorem execTkrWake_long {k : Nat} (hk : 20000 ≤ k) : execTkrWake k s = .next (s.wakeBy 0x08) :=
  congrArg _ (if_pos hk)

/-- The management port's own address on its bus (R422). -/
theorem execMgpAddressMatch_own {a : Nat} (ha : a = 0x58 + s.pow.straps) : execMgpAddressMatch a s = .next (s.wakeBy 0x20) :=
  congrArg _ (if_pos ha)

/-- A supplied device alarms on TAMPER in every power state; only PARK latches the event (R329, R421). -/
theorem tamper_supplied (hs : s.pow.supplied = true) :
    s.tamper = (if s.power = Pw.park then (s.alarm 2 5).latchEvent 0x0D8A else s.alarm 2 5).wakeBy 0x10 :=
  if_neg (by simp [hs])

theorem execParkTimerWake_due (hp : s.power = Pw.park) (ht : s.timerDue = true) : execParkTimerWake s = .next (s.wakeBy 0x40) :=
  congrArg _ (if_pos ⟨hp, ht⟩)

end Source

/-! ### CAN wake-up (R262, R263, R426) -/

section Can

variable {s : State} {c : Nat}

theorem canWakeFrame_wakeable (f : CanFrame) (g : Bool) (hc : c < 2) (hw : s.wakeable = true) :
    s.canWakeFrame c f g =
      let s1 := if s.flag (Reg.CAN_SWCFG.SWEN c) then s.swFrame c f g else s
      if g ∧ s.power ≠ Pw.park ∧ s.flag (Reg.CAN_SWCFG.WUPEN c) then s1.wakeBy (2 * 2 ^ c) else s1 :=
  if_neg (by simp [hw, hc])

/-- A wake-up pattern wakes under `WUPEN` where selective wake-up is off (R263). -/
theorem canWakePattern_enabled (hc : c < 2) (hw : s.wakeable = true) (hsw : s.flag (Reg.CAN_SWCFG.SWEN c) = false)
    (hwu : s.flag (Reg.CAN_SWCFG.WUPEN c) = true) : s.canWakePattern c = s.canWoke c (Reg.CAN_SWSTAT.WUP c) :=
  if_pos (by simp [hc, hw, hsw, hwu])

end Can

/-! ### Starts (R420, R421, R423, R440) -/

section Start

variable {s : State}

/-- A source that asks starts the wake with its bits, as attempt 0 (R421, R440). -/
theorem wakeStart_held (hs : s.pow.supplied = true) (hp : s.power = Pw.park) (hh : s.pow.heldSrc ≠ 0) :
    s.wakeStart = s.startWake s.pow.heldSrc 0 :=
  if_pos ⟨hs, hp, hh⟩

/-- The first supply reads the straps and starts a wake with POR (R421, R422). -/
theorem powerOn_unsupplied (a1 a0 : Bool) (hs : s.pow.supplied = false) :
    s.powerOn a1 a0 =
      ({ s with pow := { s.pow with supplied := true, candle := 0, straps := 2 * b2n a1 + b2n a0 } } : State).startWake 0x80 0 :=
  if_neg (by simp [hs])

/-- A failed start is tried again as the next attempt, with RETRY among its sources (R420, R421). -/
theorem wakeRetry_due {k : Nat} (hr : s.pow.retryAt = some k) (hp : s.power = Pw.park) (hk : k ≤ s.pow.candle) :
    s.wakeRetry = s.startWake (orBits s.pow.src 0x100) (s.pow.attempt + 1) := by
  simp only [State.wakeRetry, hr, if_pos (And.intro hp hk)]

/-- Die L boots once its three rails are on (R423). -/
theorem dieLReady_railsOn (pass : List Bool) (hs : s.pow.supplied = true) (hp : s.power = Pw.waking) (hn : s.now = 0)
    (hg : s.pow.goal = .rest) (hr : s.pow.railsOn.length = 3) :
    s.dieLReady pass = s.boot 0 (if s.pow.waking then s.pow.candleSec else 0) pass :=
  if_pos ⟨hs, hp, hn, hg, hr⟩

end Start

/-- Settles O10: each wake source asks in PARK or latches after the last boundary; a poll, a CAN wake-up and a start do what their definitions say under their guards. -/
theorem wakeCommands : Obligations.WakeCommands := by
  refine ⟨?tkrPark, ?tkrLatch, ?tamper, ?mgpPark, ?mgpLatch, ?timer, ?poll, ?canFrame, ?canPattern, ?start, ?voltageOk, ?powerOn,
    ?dieL, ?retry⟩
  case tkrPark => exact fun s k hk hs hp => (execTkrWake_long hk).trans (congrArg _ (wakeBy_park hs hp))
  case tkrLatch => exact fun s k hk hs hp hb => (execTkrWake_long hk).trans (congrArg _ (wakeBy_afterLast hs hp hb))
  case tamper => exact fun s k hk hs => congrArg _ ((if_pos hk).trans (tamper_supplied hs))
  case mgpPark => exact fun s a ha hs hp => (execMgpAddressMatch_own ha).trans (congrArg _ (wakeBy_park hs hp))
  case mgpLatch => exact fun s a ha hs hp hb => (execMgpAddressMatch_own ha).trans (congrArg _ (wakeBy_afterLast hs hp hb))
  case timer => exact fun s ht hs hp => (execParkTimerWake_due hp ht).trans (congrArg _ (wakeBy_park hs hp))
  case poll => exact fun s v hs hp ht => congrArg _ (if_pos ⟨hs, hp, ht⟩)
  case canFrame => exact fun s c f g hc hw => congrArg _ (canWakeFrame_wakeable f g hc hw)
  case canPattern => exact fun s c hc hw hsw hwu => congrArg _ (canWakePattern_enabled hc hw hsw hwu)
  case start => exact fun s hs hp hh => congrArg _ (wakeStart_held hs hp hh)
  case voltageOk => exact fun s hs hp hh => congrArg _ (wakeStart_held hs hp hh)
  case powerOn => exact fun s a1 a0 hs => congrArg _ (powerOn_unsupplied a1 a0 hs)
  case dieL => exact fun s pass hs hp hn hg hr => congrArg _ (dieLReady_railsOn pass hs hp hn hg hr)
  case retry => exact fun s k hr hp hk => congrArg _ (wakeRetry_due hr hp hk)

end Sys2Proof.Proofs.Wake
end

section
/-! PROOFS. Celper machines: local memory, ports and the ledger, and what directs a run. -/

namespace Sys2Proof.Proofs.Celper

open Sys2Proof Sys2Proof.Machine Sys2Proof.Safety

/-! ### What an issued instruction does (R223 to R228) -/

/-- The charge and the products delivered leave the general registers alone. -/
theorem issued_g (s : State) (k : CoreId) (n r : Nat) : (issued s k n).g r = (s.celAt (celIdx k)).g r := rfl

section Issued

variable {s t : State} {k : CoreId} {word n : Nat} {good : Bool} {need : List Nat} {cost : Cel → Nat} {act : State → Cel → CelAct} {y : Cel}
  (h : issues s k word need n = true) (hg : good = true) (hc : cost (s.celAt (celIdx k)) = n)
include h hg hc

/-- An instruction without a fault goes on in sequence, with its effects. -/
theorem celIssue_goOn (ha : act s (issued s k n) = { s := t, x := y }) (hl : s.leaves k y .seq = false) :
    s.celIssue k word good need cost act = goOn t k y := by
  rw [State.celIssue_eq h hg hc, ha, State.celPerform_seq hl, goOn]

/-- A branch, a jump, a skip or a push goes where it says. -/
theorem celIssue_goTo {m : CelNext} (ha : act s (issued s k n) = { s := t, x := y, next := m }) (hl : s.leaves k y m = false)
    (hs : m ≠ .stop) (he : ∀ c, m ≠ .error c) :
    s.celIssue k word good need cost act = t.setCel (celIdx k) (y.goTo m) := by
  rw [State.celIssue_eq h hg hc, ha, State.celPerform_go hl hs he]

/-- An end ends the run, whatever products are still pending (R200). -/
theorem celIssue_stop (ha : act s (issued s k n) = { s := t, x := y, next := .stop }) :
    s.celIssue k word good need cost act = (t.setCel (celIdx k) { y with prods := [] }).celEnd k := by
  rw [State.celIssue_eq h hg hc, ha, State.celPerform]

end Issued

@[simp] theorem setG_pc (x : Cel) (d : Nat) (v : W32) : (x.setG d v).pc = x.pc := by unfold Cel.setG; split <;> rfl

@[simp] theorem setG_loops (x : Cel) (d : Nat) (v : W32) : (x.setG d v).loops = x.loops := by unfold Cel.setG; split <;> rfl

/-- The address that follows in sequence depends on the loops, not on the general registers (R227). -/
theorem after_setG_pc (x : Cel) (d : Nat) (v : W32) : (x.setG d v).after.pc = x.after.pc := by
  cases hx : x.loops <;> simp only [Cel.after, setG_pc, setG_loops, hx, apply_ite Cel.pc]

theorem leaves_seq_setG (s : State) (k : CoreId) (x : Cel) (d : Nat) (v : W32) : s.leaves k (x.setG d v) .seq = s.leaves k x .seq := by
  simp only [State.leaves, Cel.goTo, after_setG_pc]

/-! ### Loads and stores of the ledger (R230 to R233) -/

section Ledger

variable {s : State} {x : Cel} {d i : Nat} {a : Attr} (ha : s.attr i = some a)
include ha

theorem loadV_defined : s.loadV x d i = { s := s, x := { x.setG d ((s.snap i).value.setWidth 32) with lstat := s.lstatOf a i } } := by
  simp only [State.loadV, ha]

theorem loadE_defined (h4 : d % 4 = 0) (h0 : d ≠ 0) (h28 : d ≤ 28) :
    s.loadE x d i =
      { s := s
        x := { (((x.setG d ((s.snap i).value.setWidth 32)).setG (d + 1) (((s.snap i).value >>> 32).setWidth 32)).setG (d + 2)
          (BitVec.ofNat 32 (s.ageOf i))).setG (d + 3) (BitVec.ofNat 32 ((s.snapState i).code + 4 * a.kind + 65536 * ((s.snap i).ucount % 65536)))
          with lstat := s.lstatOf a i } } := by
  simp only [State.loadE, ha]
  exact if_neg (by omega)

theorem loadB_word {off : Nat} (hk : a.kind = 3) (h4 : off % 4 = 0) :
    s.loadB x d i off = { s := s, x := { x.setG d (BitVec.ofNat 32 (byteField (s.snap i).bytes off 4)) with lstat := s.lstatOf a i } } := by
  simp only [State.loadB, ha]
  exact if_neg (by simp [hk, h4])

/-- A store to a target of the program stages a value that fits its entry (R233). -/
theorem storeE_staged (hk : a.kind ≠ 3) (ht : (s.img.progAt x.prog).targets.contains i = true) (hd : a.kind < 2 → 32 < a.width → d ≠ 31)
    (hv : valueFits a (stagedValue a x d) = true) :
    s.storeE x d i = { s := { s with led := { s.led with staged := SMap.put i (stagedValue a x d, 0x1000 + x.prog, []) s.led.staged } }, x := x } := by
  have hpair : ¬(a.kind < 2 ∧ 32 < a.width ∧ d = 31) := fun ⟨h2, hw, h31⟩ => hd h2 hw h31
  have htarget : ¬(a.kind = 3 ∨ (!(s.img.progAt x.prog).targets.contains i) = true) := by
    simp only [hk, ht, Bool.not_true, Bool.false_eq_true, or_self, not_false_eq_true]
  simp only [State.storeE, ha, if_neg hpair, if_neg htarget, hv, Bool.not_true, Bool.false_eq_true, if_false]

end Ledger

/-- Settles O34: each instruction acts on the machine as issued, by what its load or store does there. -/
theorem celperMemoryAndLedgerResults : Obligations.CelperMemoryAndLedgerResults := by
  refine ⟨?ldw, ?stw, ?prd, ?pwr, ?ldv, ?ldvx, ?lde, ?ldex, ?ldb, ?ste, ?stex⟩
  case ldw => exact fun s k d a n imm h hd ha hn hl => congrArg _ (celIssue_goOn h (by simp [hd, ha]) rfl (by simp only [hn]) hl)
  case stw => exact fun s k d a n imm h hd ha hn hl => congrArg _ (celIssue_goOn h (by simp [hd, ha]) rfl (by simp only [hn]) hl)
  case prd => exact fun s k d port h hd hp hl => congrArg _ (celIssue_goOn h (by simp [hd, hp]) rfl rfl ((leaves_seq_setG ..).trans hl))
  case pwr => exact fun s k a port h ha hp hl => congrArg _ (celIssue_goOn h (by simp [ha, hp]) rfl rfl hl)
  case ldv => exact fun s k d i w h hd hi hw hl => congrArg _ (celIssue_goOn h (by simp [hd, hi]) rfl (loadV_defined hw) hl)
  case ldvx => exact fun s k d a w h hd ha hw hl => congrArg _ (celIssue_goOn h (by simp [hd, ha]) rfl (loadV_defined hw) hl)
  case lde =>
    intro s k d i w h hi h4 h0 h28 hw hl
    have hd : d < 32 := by omega
    exact congrArg _ (celIssue_goOn h (by simp [hd, hi]) rfl (loadE_defined hw h4 h0 h28) hl)
  case ldex =>
    intro s k d a w h ha h4 h0 h28 hw hl
    have hd : d < 32 := by omega
    exact congrArg _ (celIssue_goOn h (by simp [hd, ha]) rfl (loadE_defined hw h4 h0 h28) hl)
  case ldb =>
    exact fun s k d a b w h hd ha hb hw hk h4 hl =>
      congrArg _ (celIssue_goOn h (by simp [hd, ha, hb]) rfl (loadB_word hw hk h4) hl)
  case ste =>
    exact fun s k d i w h hd hi hw hk ht h31 hv hl =>
      congrArg _ (celIssue_goOn h (by simp [hd, hi]) rfl (storeE_staged hw hk ht h31 hv) hl)
  case stex =>
    exact fun s k d a w h hd ha hw hk ht h31 hv hl =>
      congrArg _ (celIssue_goOn h (by simp [hd, ha]) rfl (storeE_staged hw hk ht h31 hv) hl)

/-! ### Skips and loops outside every level (R225, R227) -/

section Skip

variable {s : State} {x : Cel} {c : Option Bool}

theorem skipIf_holds (hc : c = some true) : CelAct.skipIf s x c = { s := s, x := x, next := .skip } := congrArg (CelAct.skipIf s x) hc

theorem skipIf_fails (hc : c = some false) : CelAct.skipIf s x c = { s := s, x := x } := congrArg (CelAct.skipIf s x) hc

end Skip

section Loop

variable {s : State} {k : CoreId} {x : Cel} {count : W32} {n : Nat} (hx : x.loops = [])
  (hend : s.inCode k ((x.pc + 1 + n : Nat) : Int) = true)
include hx hend

/-- A count of zero goes behind the end of the loop. -/
theorem celLoopAct_zero (hz : count = 0#32) :
    s.celLoopAct k x count n = { s := s, x := x, next := .jump (((x.pc + 1 + n : Nat) : Int) + 1) } := by
  simp only [State.celLoopAct, hx, hend, hz, ne_eq, not_true_eq_false, false_and, if_false, Bool.not_true, Bool.false_eq_true, or_self, if_true]

/-- Another count pushes its level: every machine has one (R218). -/
theorem celLoopAct_push (hz : count ≠ 0#32) :
    s.celLoopAct k x count n = { s := s, x := x, next := .push { ls := x.pc + 1, le := x.pc + 1 + n, lc := count } } := by
  have hdepth : ¬ maxDepth k ≤ 0 := by unfold maxDepth; split <;> decide
  simp only [State.celLoopAct, hx, hend, hz, List.length_nil, hdepth, and_false, if_false, Bool.not_true, Bool.false_eq_true, or_self]

end Loop

/-- A run that its next instruction would take over its budget is aborted (R204). -/
theorem budgetAbort_exceeds {s : State} {c : Nat} (hc : c < 8) (hr : (s.celAt c).running = true)
    (he : s.exceeds (.reflex c) (if (s.celAt c).skip then 1 else wordCost (s.codeWord c)) = true) :
    s.budgetAbort c = s.budgetOut (.reflex c) :=
  if_pos ⟨hc, hr, he⟩

/-- Settles O35: each instruction goes where its condition, its offset or its count sends the machine as issued; a run over its budget is aborted. -/
theorem celperFlowResults : Obligations.CelperFlowResults := by
  refine ⟨?nop, ?stop, ?bcTaken, ?bcOn, ?br, ?bl, ?jr, ?skSkips, ?skOn, ?skiSkips, ?skiOn, ?skstSkips, ?skstOn, ?loop, ?loopZero, ?loopi, ?loopiZero,
    ?budget⟩
  case nop => exact fun s k h hl => congrArg _ (celIssue_goOn h rfl rfl rfl hl)
  case stop => exact fun s k h => congrArg _ (celIssue_stop h rfl rfl rfl)
  case bcTaken =>
    exact fun s k a b cond off h ha hb hc hcond hl =>
      congrArg _ (celIssue_goTo h (by simp [ha, hb, hc]) (if_pos hcond) (by simp only [issued_g, hcond]) hl nofun nofun)
  case bcOn =>
    exact fun s k a b cond off h ha hb hc hcond hl =>
      congrArg _ (celIssue_goOn h (by simp [ha, hb, hc]) (if_neg (by simp [hcond])) (by simp only [issued_g, hcond]) hl)
  case br => exact fun s k off h hl => congrArg _ (celIssue_goTo h rfl rfl rfl hl nofun nofun)
  case bl => exact fun s k off h hl => congrArg _ (celIssue_goTo h rfl rfl rfl hl nofun nofun)
  case jr => exact fun s k a h ha hl => congrArg _ (celIssue_goTo h (by simp [ha]) rfl rfl hl nofun nofun)
  case skSkips =>
    exact fun s k a b cond h ha hb hc hcond hl =>
      congrArg _ (celIssue_goTo h (by simp [ha, hb, hc]) rfl (skipIf_holds hcond) hl nofun nofun)
  case skOn =>
    exact fun s k a b cond h ha hb hc hcond hl =>
      congrArg _ (celIssue_goOn h (by simp [ha, hb, hc]) rfl (skipIf_fails hcond) hl)
  case skiSkips =>
    exact fun s k a cond imm h ha hc hcond hl =>
      congrArg _ (celIssue_goTo h (by simp [ha, hc]) rfl (skipIf_holds hcond) hl nofun nofun)
  case skiOn =>
    exact fun s k a cond imm h ha hc hcond hl =>
      congrArg _ (celIssue_goOn h (by simp [ha, hc]) rfl (skipIf_fails hcond) hl)
  case skstSkips =>
    exact fun s k mask h hb hl =>
      congrArg _ (celIssue_goTo h rfl rfl (skipIf_holds (congrArg some hb)) hl nofun nofun)
  case skstOn =>
    exact fun s k mask h hb hl =>
      congrArg _ (celIssue_goOn h rfl rfl (skipIf_fails (congrArg some hb)) hl)
  case loop =>
    exact fun s k a n h ha hz hx hend hl =>
      congrArg _ (celIssue_goTo h (by simp [ha]) rfl (celLoopAct_push hx hend hz) hl nofun nofun)
  case loopZero =>
    exact fun s k a n h ha hz hx hend hl =>
      congrArg _ (celIssue_goTo h (by simp [ha]) rfl (celLoopAct_zero hx hend hz) hl nofun nofun)
  case loopi => exact fun s k cnt n h hz hx hend hl => congrArg _ (celIssue_goTo h rfl rfl (celLoopAct_push hx hend hz) hl nofun nofun)
  case loopiZero => exact fun s k cnt n h hz hx hend hl => congrArg _ (celIssue_goTo h rfl rfl (celLoopAct_zero hx hend hz) hl nofun nofun)
  case budget => exact fun s c hc hr he => congrArg _ (budgetAbort_exceeds hc hr he)

end Sys2Proof.Proofs.Celper
end

section
/-! PROOFS. The reflex engine: core service, self-test and failure of a core, and the immediate path. -/

namespace Sys2Proof.Proofs.Reflex

open Sys2Proof Sys2Proof.Machine

/-! ### Core service (R209, R211) -/

section Service

variable {s : State} {c : Nat}

/-- A removal that leaves cores for every program waits for its boundary (R211). -/
theorem svcRemove_placeable (tag : Option Nat) (hc : s.coreSt c = 0) (hp : s.place (s.remaining c) ≠ none) :
    s.svcRemove c tag = (s.setCore c 1).svcAdd { core := c, op := 1, tag := tag, tick := s.now } := by
  simp only [State.svcRemove, hc, if_neg hp]

/-- A return of a core that is out waits for its boundary (R211). -/
theorem svcReturn_out (tag : Option Nat) (hc : s.coreSt c = 2) :
    s.svcReturn c tag = (s.setCore c 3).svcAdd { core := c, op := 2, tag := tag, tick := s.now, origin := 2 } := by
  simp only [State.svcReturn, hc]

/-- A return of a core that leaves keeps it in service, and its removal is withdrawn (R211). -/
theorem svcReturn_leaving (tag : Option Nat) (hc : s.coreSt c = 1) :
    s.svcReturn c tag = ((s.setCore c 0).svcDone c 2 tag St.ok 0).svcWithdraw c 1 := by
  simp only [State.svcReturn, hc]

theorem execRfxSvcRemove_started (hc : c < 8) (hs : s.started = true) : execRfxSvcRemove c s = .next (s.svcRemove c none) :=
  congrArg _ (if_pos ⟨hc, hs⟩)

theorem execRfxSvcReturn_started (hc : c < 8) (hs : s.started = true) : execRfxSvcReturn c s = .next (s.svcReturn c none) :=
  congrArg _ (if_pos ⟨hc, hs⟩)

/-- CORE_SERVICE on a core of the device asks by its code: 1 for a removal, 2 for a return (R211). -/
theorem coreService_core {t : Nat} {o : HostOp} (ho : s.opReady t 0x19 = some o) (hc : o.fld 16 1 < 8) :
    s.coreService t =
      if o.fld 17 1 = 1 then (s.begin t).svcRemove (o.fld 16 1) (some t)
      else if o.fld 17 1 = 2 then (s.begin t).svcReturn (o.fld 16 1) (some t)
      else s.complete t St.invalid := by
  simp only [State.coreService, ho, if_neg (Nat.not_le.mpr hc)]

end Service

/-! ### Self-test and failure (R209, R211, R212) -/

section Test

variable {s : State} {c : Nat}

/-- 10,000 ticks after its return was accepted a core ends its self-test (R209, R211). -/
theorem selfTestEnd_due {r : SvcReq} (pass : Bool)
    (hr : s.rfx.reqs.find? (fun r => decide (r.core = c) && decide (r.op = 2) && !r.tested) = some r) (hc : s.coreSt c = 3)
    (ht : r.tick + 10000 ≤ s.now) :
    s.selfTestEnd c pass =
      if pass then { s with rfx := { s.rfx with reqs := s.rfx.reqs.map (fun q => if q.core = c then { q with tested := true } else q) } }
      else
        ((({ s with rfx := { s.rfx with reqs := s.rfx.reqs.filter (fun q => !(decide (q.core = c) && decide (q.op = 2))) } } : State).setCore c 4).wr
          (Reg.RFX_CORE.FAILCAUSE c) 4).svcDone c 2 r.tag St.internal 0 := by
  simp only [State.selfTestEnd, hr, if_pos (And.intro hc ht)]

/-- A core that runs programs is declared FAILED; for an abort it did not stop for, only where it has not stopped (R212). -/
theorem execCoreFailure_declared {cause : Nat} (hc : c < 8) (hs : s.started = true) (hst : s.coreSt c ≤ 1) (h1 : 1 ≤ cause) (h3 : cause ≤ 3)
    (hn : cause = 1 → s.notStopped c = true) : execCoreFailure c cause s = .next (s.coreFail c cause) :=
  congrArg _ (if_pos ⟨hc, hs, hst, h1, h3, hn⟩)

end Test

/-! ### The immediate path (R207) -/

/-- At a grid tick of its die the words that arrived before it are applied in their order, and the other messages stay (R207). -/
theorem immediateApply_grid {s : State} {d : Die} (h0 : s.dieNow d ≠ 0) (h200 : s.dieNow d % 200 = 0) :
    s.immediateApply d =
      (takeImmediates (s.dieNow d) (s.link d).down).1.foldl (fun q w => q.immediateAt (s.dieNow d) w)
        (s.setLink d { s.link d with down := (takeImmediates (s.dieNow d) (s.link d).down).2 }) :=
  if_pos ⟨h0, h200⟩

/-- An immediate write of a command entry commits its value and sends it to the unit's die (R207; log entries 56 and 87). -/
theorem immediateWrite_sent {s : State} {t : Nat} {o : HostOp} {k : CmdUnit} (ho : s.opReady t 0x12 = some o) (ha : s.attr (o.fld 16 3) ≠ none)
    (hk : cmdUnit (o.fld 16 3) = some k) (hen : s.flag Reg.RFX_CFG.IMMEN = true) (hr : s.domReady k.die = true) (hl : s.inLimp k.die = false) :
    s.immediateWrite t =
      ((s.begin t).commit { idx := o.fld 16 3, value := BitVec.ofNat 64 (o.fld 32 4), stamp := s.now, src := 0x1100 + o.sq, own := .program }).sendDown
        k.die (.immediate { idx := o.fld 16 3, value := BitVec.ofNat 64 (o.fld 32 4), tag := some t } s.now) := by
  obtain ⟨a, ha⟩ := Option.ne_none_iff_exists'.mp ha
  simp only [State.immediateWrite, ho, ha, hk, hen, hr, hl, Bool.not_true, Bool.false_eq_true, if_false]

/-- Settles O30: a service request by the core's state, a test and a failure by what they do where their guard is met, and both ends of the immediate path. -/
theorem reflexCoreCommands : Obligations.ReflexCoreCommands := by
  refine ⟨?remove, ?ret, ?keep, ?failure, ?passed, ?failed, ?apply, ?write, ?serviceRemove, ?serviceReturn⟩
  case remove => exact fun s c hc hs h0 hp => (execRfxSvcRemove_started hc hs).trans (congrArg _ (svcRemove_placeable none h0 hp))
  case ret => exact fun s c hc hs h2 => (execRfxSvcReturn_started hc hs).trans (congrArg _ (svcReturn_out none h2))
  case keep => exact fun s c hc hs h1 => (execRfxSvcReturn_started hc hs).trans (congrArg _ (svcReturn_leaving none h1))
  case failure => exact fun s c cause hc hs hst h1 h3 hn => execCoreFailure_declared hc hs hst h1 h3 hn
  case passed => exact fun s c r hr hc ht => congrArg _ (selfTestEnd_due true hr hc ht)
  case failed => exact fun s c r hr hc ht => congrArg _ (selfTestEnd_due false hr hc ht)
  case apply => exact fun s d h0 h200 => congrArg _ (immediateApply_grid h0 h200)
  case write => exact fun s t o k ho ha hk hen hr hl => congrArg _ (immediateWrite_sent ho ha hk hen hr hl)
  case serviceRemove => exact fun s t o ho hc h1 => congrArg _ ((coreService_core ho hc).trans (if_pos h1))
  case serviceReturn => exact fun s t o ho hc h2 => congrArg _ ((coreService_core ho hc).trans ((if_neg (by omega)).trans (if_pos h2)))

end Sys2Proof.Proofs.Reflex
end

section
/-! PROOFS. Celper machines: the registers, what computes in them, a skipped instruction, and compare-and-branch. -/

namespace Sys2Proof.Proofs.CelperAlu

open Sys2Proof Sys2Proof.Machine Sys2Proof.Safety Sys2Proof.Proofs.Celper

/-! ### g0 (R219) -/

@[simp] theorem setG_zero (x : Cel) (v : W32) : x.setG 0 v = x := if_pos rfl

@[simp] theorem g_zero (x : Cel) : x.g 0 = 0#32 := if_pos rfl

/-- Settles O52: both are the case of g0 in the definitions. -/
theorem zeroRegister : Obligations.ZeroRegister := fun x v => ⟨setG_zero x v, g_zero x⟩

/-! ### Instructions that compute (R220, R222, R223, R229) -/

/-- The products due take effect in a machine that runs (R229). -/
theorem celProducts_running {s : State} {k : CoreId} (he : CoreId.exists k = true) (hr : (s.celAt (celIdx k)).running = true) :
    s.celProducts k = s.setCel (celIdx k) ((s.celAt (celIdx k)).deliver ((s.celAt (celIdx k)).cyc + 1)) :=
  if_pos (by rw [he, hr, Bool.and_self])

/-- Settles O33: each instruction an issued instruction goes on with what it writes; a shift amount of at most 31 and a special register that the machine has make no error. -/
theorem celperArithmeticResults : Obligations.CelperArithmeticResults := by
  refine ⟨?add, ?sub, ?and, ?or, ?xor, ?sll, ?srl, ?sra, ?slt, ?sltu, ?addi, ?andi, ?ori, ?xori, ?slti, ?lui, ?slli, ?srli, ?srai, ?mul, ?mulu, ?mac,
    ?result, ?mfs, ?mts⟩
  case add | sub | and | or | xor | sll | srl | sra | slt | sltu =>
    exact fun s k d a b h hd ha hb hl => congrArg _ (celIssue_goOn h (by simp [hd, ha, hb]) rfl rfl hl)
  case addi | andi | ori | xori | slti => exact fun s k d a imm h hd ha hl => congrArg _ (celIssue_goOn h (by simp [hd, ha]) rfl rfl hl)
  case lui => exact fun s k d imm h hd hl => congrArg _ (celIssue_goOn h (by simp [hd]) rfl rfl hl)
  case slli | srli | srai =>
    intro s k d a imm h hd ha hi hl
    have hshift : ¬ 31 < imm.toNat := Nat.not_lt.mpr hi
    exact congrArg _ (celIssue_goOn h (by simp [hd, ha]) rfl (by simp only [if_neg hshift]) hl)
  case mul | mulu | mac => exact fun s k a b h ha hb hl => congrArg _ (celIssue_goOn h (by simp [ha, hb]) rfl rfl hl)
  case result => exact fun s k he hr => congrArg _ (celProducts_running he hr)
  case mfs => exact fun s k d sp v h hd hsp hv hl => congrArg _ (celIssue_goOn h (by simp [hd, hsp]) rfl (by simp only [hv]) hl)
  case mts => exact fun s k sp a y h ha hsp hy hl => congrArg _ (celIssue_goOn h (by simp [ha, hsp]) rfl (by simp only [hy]) hl)

/-! ### Skipped instructions (R225) -/

/-- An instruction that is skipped and fits the budget with one cycle is charged that cycle, and nothing of what it would do is done. -/
theorem celIssue_skipped {s : State} {c word : Nat} {good : Bool} {need : List Nat} {cost : Cel → Nat} {act : State → Cel → CelAct} {y : Cel}
    (hc : c < 8) (hr : (s.celAt c).running = true) (hs : (s.celAt c).skip = true) (hb : s.exceeds (.reflex c) 1 = false)
    (hy : y = { issued s (.reflex c) 1 with skip := false }) (hl : s.leaves (.reflex c) y .seq = false)
    (hg : good = true) (hw : s.codeWord c = word) : s.celIssue (.reflex c) word good need cost act = goOn s (.reflex c) y := by
  have hskip : s.celIssue (.reflex c) word good need cost act = s.celSkipped (.reflex c) (issued s (.reflex c) 1) := by
    simp [State.celIssue, issued, celIdx, CoreId.isL, CoreId.exists, hc, hr, hs, hb, hg, hw]
  rw [hskip, State.celSkipped, ← hy, State.celPerform_seq hl, goOn]

/-- Settles O50: whatever the instruction is, it is skipped by the same rule. -/
theorem skippedInstruction : Obligations.SkippedInstruction := by
  rintro s c a b d n imm off k y rfl hc hr hs hb hy hl
  refine ⟨?mul, ?loop, ?br, ?stop, ?stw⟩
  case mul => exact fun ⟨ha, hb'⟩ hw => congrArg _ (celIssue_skipped hc hr hs hb hy hl (by simp [ha, hb']) hw)
  case loop => exact fun ha hw => congrArg _ (celIssue_skipped hc hr hs hb hy hl (by simp [ha]) hw)
  case br => exact fun hw => congrArg _ (celIssue_skipped hc hr hs hb hy hl rfl hw)
  case stop => exact fun hw => congrArg _ (celIssue_skipped hc hr hs hb hy hl rfl hw)
  case stw => exact fun ⟨hd, ha⟩ hw => congrArg _ (celIssue_skipped hc hr hs hb hy hl (by simp [hd, ha]) hw)

/-! ### Compare-and-branch (R226) -/

/-- A sequencer issues an instruction of its profile whose registers it has, whatever its charge: it has no budget (R218, R236). -/
theorem issues_sequencer {s : State} {k : CoreId} (hk : CoreId.isL k = false) (word n : Nat) (need : List Nat) :
    issues s k word need n = true ↔
      (CoreId.exists k = true ∧ (s.celAt (celIdx k)).running = true ∧ (s.celAt (celIdx k)).skip = false) ∧
        onlyL (word / 2 ^ 26) = false ∧ ∀ r ∈ need, r < 16 := by
  simp [issues, hk, and_assoc]

/-- BR is an instruction of both profiles (R222). -/
theorem onlyL_br (off : BitVec 26) : onlyL (encJ 0x38 off.toNat / 2 ^ 26) = false := by
  have hop : encJ 0x38 off.toNat / 2 ^ 26 = 0x38 := by unfold encJ; omega
  rw [hop]; rfl

/-- A comparison is decided for the condition codes that are not reserved alone (R221). -/
theorem cond_lt_of_condHolds {cond : Nat} {x y : W32} {r : Bool} (h : condHolds cond x y = some r) : cond < 6 := by
  unfold condHolds at h
  split at h
  case h_7 => cases h
  all_goals decide

section Bc

variable {s : State} {k : CoreId} {a b cond n : Nat} {off : BitVec 13} {word : Nat}

/-- A BC that a sequencer issues and whose comparison is decided has its operands within their fields. -/
theorem bc_operands {r : Bool} {x y : W32} (hk : CoreId.isL k = false) (h : issues s k word [a, b] n = true) (hc : condHolds cond x y = some r) :
    (decide (a < 32) && decide (b < 32) && decide (cond < 8)) = true := by
  obtain ⟨-, -, hneed⟩ := (issues_sequencer hk ..).mp h
  obtain ⟨ha, hb⟩ : a < 16 ∧ b < 16 := by simpa using hneed
  have hcond := cond_lt_of_condHolds hc
  simp only [Bool.and_eq_true, decide_eq_true_eq]
  omega

/-- A BC whose comparison holds acts on the machine as issued for two cycles: it branches (R226). -/
theorem celBc_taken (hk : CoreId.isL k = false) (h : issues s k (encC 0x2C a b cond off.toNat) [a, b] 2 = true)
    (hc : condHolds cond ((s.celAt (celIdx k)).g a) ((s.celAt (celIdx k)).g b) = some true) :
    s.celBc k a b cond off =
      s.celPerform k (s.celAt (celIdx k)) { s := s, x := issued s k 2, next := .branch (((issued s k 2).pc : Int) + 1 + off.toInt) } :=
  (State.celIssue_eq h (bc_operands hk h hc) (if_pos hc)).trans (by simp only [issued_g, hc])

/-- A BC whose comparison fails is charged one cycle and goes on in sequence (R226). -/
theorem celBc_goOn (hk : CoreId.isL k = false) (h : issues s k (encC 0x2C a b cond off.toNat) [a, b] 1 = true)
    (hc : condHolds cond ((s.celAt (celIdx k)).g a) ((s.celAt (celIdx k)).g b) = some false) (hl : s.leaves k (issued s k 1) .seq = false) :
    s.celBc k a b cond off = goOn s k (issued s k 1) :=
  celIssue_goOn h (bc_operands hk h hc) (if_neg (by simp [hc])) (by simp only [issued_g, hc]) hl

end Bc

/-- A BR acts on the machine as issued for two cycles: it branches (R228). -/
theorem celBr_issued {s : State} {k : CoreId} {off : BitVec 26} (h : issues s k (encJ 0x38 off.toNat) [] 2 = true) :
    s.celBr k off =
      s.celPerform k (s.celAt (celIdx k)) { s := s, x := issued s k 2, next := .branch (((issued s k 2).pc : Int) + 1 + off.toInt) } :=
  State.celIssue_eq h rfl rfl

/-- Settles O48: a taken BC and the BR to the same target act alike, inside the code and out of it; a BC that is not taken goes on in sequence. -/
theorem compareAndBranch : Obligations.CompareAndBranch := by
  intro s k a b cond off hk
  refine ⟨fun h hc => ?taken, fun h hc hl => congrArg _ (celBc_goOn hk h hc hl)⟩
  case taken =>
    obtain ⟨hrun, -, -⟩ := (issues_sequencer hk ..).mp h
    have hbr : issues s k (encJ 0x38 (off.signExtend 26).toNat) [] 2 = true := (issues_sequencer hk ..).mpr ⟨hrun, onlyL_br _, nofun⟩
    have heq : s.celBc k a b cond off = s.celBr k (off.signExtend 26) := by
      rw [celBc_taken hk h hc, celBr_issued hbr, BitVec.toInt_signExtend_of_le (by decide)]
    exact congrArg _ heq

end Sys2Proof.Proofs.CelperAlu
end

section
/-! PROOFS. What a read of a field depends on, and what a completion leaves alone. -/

namespace Sys2Proof.Proofs.Reads

open Sys2Proof Sys2Proof.Machine Sys2Proof.Safety Sys2Proof.Proofs.Scope

/-! ### Fields of registers -/

/-- What a field reads depends on the register file alone. -/
theorem rd_of_regs {s u : State} (h : u.regs = s.regs) (f : Fld) : u.rd f = s.rd f := by
  simp only [State.rd, State.word, h]

theorem flag_of_regs {s u : State} (h : u.regs = s.regs) (f : Fld) : u.flag f = s.flag f := by
  simp only [State.flag, rd_of_regs h]

/-- Two fields share no bit of a word. -/
def Apart (f g : Fld) : Prop := g.off ≠ f.off ∨ g.lo + g.w ≤ f.lo ∨ f.lo + f.w ≤ g.lo

theorem rd_wr_apart {s : State} (hc : RegsCanonical s) {f g : Fld} (v : Nat) (hf : f.lo + f.w ≤ 32) (h : Apart f g) : (s.wr f v).rd g = s.rd g := by
  obtain hoff | hbits := h
  · exact s.rd_wr_ne hc f g v hoff
  · exact s.rd_wr_disjoint hc f g v hf hbits

/-! ### What the host interface leaves alone -/

section HostStep

variable {s u : State} (h : HostStep s u)
include h

theorem regs_of_hostStep : u.regs = s.regs := by
  obtain ⟨_, _, _, rfl⟩ := h
  rfl

theorem evr_of_hostStep : u.evr = s.evr := by
  obtain ⟨_, _, _, rfl⟩ := h
  rfl

theorem cfg_of_hostStep : u.cfg = s.cfg := by
  obtain ⟨_, _, _, rfl⟩ := h
  rfl

theorem pow_of_hostStep : u.pow = s.pow := by
  obtain ⟨_, _, _, rfl⟩ := h
  rfl

end HostStep

end Sys2Proof.Proofs.Reads
end

section
/-! PROOFS. The one-time counts over a step, the state after reset, the words of the table, and the bytes of a bank. -/

namespace Sys2Proof.Proofs.Counts

open Sys2Proof Sys2Proof.Machine Sys2Proof.Safety Sys2Proof.Proofs.Scope Sys2Proof.Proofs.Reads

/-! ### The one-time counts (R7, R404, R405) -/

/-- One more provisioning of root slot r shows at r and at no other slot. -/
theorem prov_set (m : SMap Nat) (r n k : Nat) :
    SMap.get (fun _ => 0) (SMap.set (fun _ => 0) m r (n + 1)) k = if k = r then n + 1 else SMap.get (fun _ => 0) m k := by
  rw [SMap.set, if_neg n.succ_ne_zero]
  split
  next h => rw [h, SMap.get_put_self]
  next h => exact SMap.get_put_ne _ h _ _

/-- A move that starts within the limits ends within them: it takes one step of a count that is below its limit. -/
theorem otpLegal_of_otpMove {s t : State} (hs : OtpLegal s) (hm : OtpMove s t.otp) : OtpLegal t := by
  obtain ⟨hraises, hdebug, hlife, hprov⟩ := hs
  obtain h | ⟨v, -, hlt, h⟩ | ⟨hlt, h⟩ | ⟨r, hlt, h⟩ | ⟨hlt, h⟩ := hm <;> unfold OtpLegal State.provOf <;> rw [h]
  case inl => exact ⟨hraises, hdebug, hlife, hprov⟩
  case inr.inl => exact ⟨hlt, hdebug, hlife, hprov⟩
  case inr.inr.inl => exact ⟨hraises, hdebug, hlt, hprov⟩
  case inr.inr.inr.inl =>
    refine ⟨hraises, hdebug, hlife, fun k => ?_⟩
    rw [prov_set]
    split
    · exact hlt
    · exact hprov k
  case inr.inr.inr.inr => exact ⟨hraises, hlt, hlife, hprov⟩

/-- What a command may do to the counts: four commands may move one, and every other leaves them alone. -/
theorem exec_otpMove {c : Instr} {s s' : State} (hl : s.otp.life ≤ 2) (h : exec c s = .next s') : OtpMove s s'.otp := by
  obtain ⟨hkeep, -⟩ | ⟨t, rfl | rfl | rfl | ⟨x, rfl⟩⟩ := exec_kept_or_movesCounts h
  · exact .inl hkeep
  · exact (execCfgRaisemin_otp t s s' h).1
  · exact (execLifecycle_otp t s s' hl h).1
  · exact (execDebugUnlock_otp t s s' h).1
  · exact (execRootProvision_otp t x s s' h).1

theorem step_otpMove {s t : State} (hs : OtpLegal s) (h : step s = .next t) : OtpMove s t.otp := by
  cases hp : s.pending with
  | nil => cases (step_of_pending_nil hp).symm.trans h; exact .inl rfl
  | cons c rest =>
    obtain ⟨-, -, hlife, -⟩ := hs
    exact exec_otpMove (s := { s with pending := rest }) hlife ((step_of_pending_cons hp).symm.trans h)

/-- Settles O41: a step moves at most one count, from below its limit. -/
theorem oneTimeCountsOnlyAdvance : Obligations.OneTimeCountsOnlyAdvance := fun _ _ hs h =>
  have hm := step_otpMove hs h
  ⟨otpLegal_of_otpMove hs hm, hm⟩

/-- Settles O39: no count has moved and no register is listed. -/
theorem resetIsSafe : Obligations.ResetIsSafe :=
  ⟨⟨Nat.zero_le _, Nat.zero_le _, Nat.zero_le _, fun _ => Nat.zero_le _⟩, SMap.wf_nil _⟩

/-- Settles O37: no row of the table gives bits, so there is no word to decode (log entry 40). -/
theorem noWordSpellsACommand : Obligations.NoWordSpellsACommand := fun _ _ _ => ⟨rfl, rfl⟩

/-! ### The bytes of a bank (R398) -/

/-- A store puts its first byte at its offset, and the others behind it. -/
theorem bankPut_cons (m : SMap Byte) (off : Nat) (b : Byte) (bs : List Byte) :
    bankPut m off (b :: bs) = bankPut (SMap.set (fun _ => 0#8) m off b) (off + 1) bs := by
  simp only [bankPut, List.zipIdx_cons, List.foldl_cons, List.zipIdx_succ, List.foldl_map, Nat.add_zero, Nat.zero_add, Nat.add_assoc,
    Nat.add_comm 1]

/-- Each byte of a store reads back at its place. -/
theorem bankPut_stored (m : SMap Byte) (off : Nat) (bs : List Byte) (h : Memory.wf m = true) {i : Nat} {b : Byte} (hb : bs[i]? = some b) :
    SMap.get (fun _ => 0#8) (bankPut m off bs) (off + i) = b := by
  induction bs generalizing m off i with
  | nil => cases hb
  | cons c bs ih =>
    have hset := SMap.wf_set _ m off c h
    rw [bankPut_cons]
    cases i with
    | zero =>
      cases hb
      exact (bankPut_other _ _ bs hset off (.inl (Nat.lt_add_one off))).trans (SMap.get_set_self _ m off b h)
    | succ i =>
      rw [Nat.add_comm i 1, ← Nat.add_assoc]
      exact ih _ _ hset hb

/-- Both banks hold their bytes in canonical form. -/
def BanksCanonical (s : State) : Prop := Memory.wf s.cfg.bytesA = true ∧ Memory.wf s.cfg.bytesB = true

theorem cfgDone_cfg (s : State) (t opc status reason step : Nat) : (s.cfgDone t opc status reason step).cfg = s.cfg :=
  (cfg_of_hostStep (complete_hostStep _ t status reason 0 [] [])).trans (by simp [State.cfgLast])

theorem hostErr_cfg (s : State) (f : Fld) : (s.hostErr f).cfg = s.cfg :=
  (cfg_of_hostStep (msix_hostStep _ 32)).trans (by simp)

theorem readFailed_cfg (s : State) (x : ReadResult) : (s.readFailed x).cfg = s.cfg := by
  cases x with
  | data => rfl
  | unsupported | poisoned | timeout => exact hostErr_cfg s _

/-- A CFG_WRITE stores its bytes in the bank that is not ACTIVE, and leaves the other bank's bytes alone. -/
theorem cfgStore_banksCanonical {s : State} (h : BanksCanonical s) (t off : Nat) (bs : List Byte) : BanksCanonical (s.cfgStore t off bs) := by
  obtain ⟨hA, hB⟩ := h
  unfold BanksCanonical State.cfgStore
  rw [cfgDone_cfg]
  by_cases hk : s.spareBank = 0 <;> simp [State.bankBlank, State.setBankStep, State.setBankSt, State.setBankBytes, State.bankBytes, hk, hA, hB, bankPut_wf]

theorem cfgWrite_banksCanonical {s : State} (h : BanksCanonical s) (t : Nat) (x : ReadResult) : BanksCanonical (s.cfgWrite t x) := by
  have hsame {u : State} (hu : u.cfg = s.cfg) : BanksCanonical u := by rw [BanksCanonical, hu]; exact h
  unfold State.cfgWrite
  split
  · exact h
  · dsimp only
    obtain ⟨st, r, hd⟩ | ⟨-, -, -, hf⟩ := State.cfgOp_cases ..
    · rw [hd]; exact hsame (cfgDone_cfg s ..)
    · rw [hf]
      split
      · exact hsame (by rw [cfgDone_cfg, hostErr_cfg, readFailed_cfg])
      · exact cfgStore_banksCanonical h t _ _

/-- Settles O44: a store is a sequence of writes to the sparse list, each byte at its own place. -/
theorem bankBytesWriteAndRead : Obligations.BankBytesWriteAndRead := by
  refine ⟨fun m off bs h => ⟨bankPut_wf m off bs h, fun i b hb => bankPut_stored m off bs h hb, bankPut_other m off bs h⟩, ?_⟩
  rintro s u t x hA hB ⟨⟩
  exact cfgWrite_banksCanonical ⟨hA, hB⟩ t x

end Sys2Proof.Proofs.Counts
end

section
/-! PROOFS. The cipher engine: requests accepted, started and ended, the draws of nonces, the operations on slots, and alarm, erase and start. -/

namespace Sys2Proof.Proofs.Cipher

open Sys2Proof Sys2Proof.Machine Sys2Proof.Safety Sys2Proof.Proofs.Reads

/-! ### Fields zeroed one after the other -/

/-- The fields of a list hold 0. -/
def zeroFields (s : State) (fs : List Fld) : State := fs.foldl (fun s f => s.wr f 0) s

/-- A field that shares no bit with the zeroed ones keeps its value. -/
theorem rd_zeroFields_apart {fs : List Fld} {s : State} (hc : RegsCanonical s) {g : Fld} (h : ∀ f ∈ fs, f.lo + f.w ≤ 32 ∧ Apart f g) :
    (zeroFields s fs).rd g = s.rd g := by
  induction fs generalizing s with
  | nil => rfl
  | cons f fs ih =>
    obtain ⟨hw, hf⟩ := h f List.mem_cons_self
    exact (ih (s.wr_canonical hc f 0) fun k hk => h k (List.mem_cons_of_mem f hk)).trans (rd_wr_apart hc 0 hw hf)

/-- Of fields that share no bits each one that is zeroed reads 0. -/
theorem rd_zeroFields_mem {fs : List Fld} {s : State} (hc : RegsCanonical s) {g : Fld} (hw : ∀ f ∈ fs, f.lo + f.w ≤ 32) (hp : fs.Pairwise (fun f g => Apart g f))
    (hg : g ∈ fs) : (zeroFields s fs).rd g = 0 := by
  induction fs generalizing s with
  | nil => cases hg
  | cons f fs ih =>
    obtain ⟨hf, hfs⟩ := List.pairwise_cons.mp hp
    have hc' := s.wr_canonical hc f 0
    have hw' : ∀ k ∈ fs, k.lo + k.w ≤ 32 := fun k hk => hw k (List.mem_cons_of_mem f hk)
    obtain rfl | hmem := List.mem_cons.mp hg
    · have hself := s.rd_wr_self hc g 0 (hw g hg)
      exact (rd_zeroFields_apart hc' fun k hk => ⟨hw' k hk, hf k hk⟩).trans (hself.trans (Nat.zero_mod _))
    · exact ih hc' hw' hfs hmem

/-! ### Slots (R320, R322) -/

/-- The fields of a slot's record; its epoch is none of them (R320). -/
def slotFields (i : Nat) : List Fld := [Reg.CRY_SLOT.STATE i, Reg.CRY_SLOT.ROOT i, Reg.CRY_SLOT.KEYLEN i, Reg.CRY_SLOT.MODES i, Reg.CRY_NONCE.N i]

theorem emptySlot_eq_zeroFields (s : State) (i : Nat) : s.emptySlot i = zeroFields (s.setKennel i {}) (slotFields i) := rfl

theorem slotFields_width (i : Nat) : ∀ f ∈ slotFields i, f.lo + f.w ≤ 32 := by simp [slotFields]

theorem slotFields_apart (i : Nat) : (slotFields i).Pairwise (fun f g => Apart g f) := by simp [slotFields, Apart]

theorem slotFields_apart_epoch (i : Nat) : ∀ f ∈ slotFields i, Apart f (Reg.CRY_SLOT.EPOCH i) := by simp [slotFields, Apart]

/-- Every field of the record of an emptied slot reads 0. -/
theorem emptySlot_field {s : State} (hc : RegsCanonical s) (i : Nat) {g : Fld} (hg : g ∈ slotFields i) : (s.emptySlot i).rd g = 0 := by
  have hc' : RegsCanonical (s.setKennel i {}) := hc
  rw [emptySlot_eq_zeroFields]
  exact rd_zeroFields_mem hc' (slotFields_width i) (slotFields_apart i) hg

/-- An emptied slot keeps its epoch (R322). -/
theorem emptySlot_epoch {s : State} (hc : RegsCanonical s) (i : Nat) : (s.emptySlot i).rd (Reg.CRY_SLOT.EPOCH i) = s.rd (Reg.CRY_SLOT.EPOCH i) := by
  have hc' : RegsCanonical (s.setKennel i {}) := hc
  rw [emptySlot_eq_zeroFields, rd_zeroFields_apart hc' fun f hf => ⟨slotFields_width i f hf, slotFields_apart_epoch i f hf⟩]
  exact rd_of_regs rfl _

/-! ### Acceptance (R314, R315, R318) -/

section Accept

variable {s : State} {t : Nat} {o : HostOp}

/-- A well formed request joins the queue of a READY engine that has room for it. -/
theorem cryAccept_queued {good : Bool} (input aux : List Byte) (hst : s.crySt = 2) (hroom : s.cryHost < 48) (hg : good = true) :
    s.cryAccept t o good input aux = { (s.begin t) with
      cry := { (s.begin t).cry with
        queue := (s.begin t).cry.queue ++ [{ id := (s.begin t).cry.nextId, tag := some t, opcode := o.opcode, desc := o.desc, input := input, aux := aux }],
        nextId := (s.begin t).cry.nextId + 1 } } := by
  simp [State.cryAccept, hst, hg, Nat.not_le.mpr hroom]

/-- A read that brought its bytes is no fault. -/
theorem cryReadFault_read {n : Nat} {x : ReadResult} {bs : List Byte} (h : readBytes x n = some bs) : s.cryReadFault n x = (false, s) := by
  simp [State.cryReadFault, h]

theorem cipherOp_read {x aux : ReadResult} {bs as : List Byte} (ho : s.opReady t 0x30 = some o) (hst : s.crySt = 2) (hok : cipherOk o = true)
    (hx : readBytes x (o.fld 20 4) = some bs) (ha : readBytes aux (auxLen o) = some as) : s.cipherOp t x aux = s.cryAccept t o true bs as := by
  simp [State.cipherOp, ho, hst, hok, cryReadFault_read hx, cryReadFault_read ha, hx, ha]

theorem hashOp_read {x : ReadResult} {bs : List Byte} (ho : s.opReady t 0x31 = some o) (hst : s.crySt = 2) (hlen : o.fld 20 4 ≤ 16777215)
    (hx : readBytes x (o.fld 20 4) = some bs) : s.hashOp t x = s.cryAccept t o true bs [] := by
  simp [State.hashOp, ho, hst, hlen, cryReadFault_read hx, hx]

end Accept

/-! ### Starting requests (R314, R321 to R324) -/

section Start

variable {s : State} {k : Nat} {r : CryReq}

/-- Request r has left the queue for unit k, which is free. -/
def taken (s : State) (k : Nat) (r : CryReq) : State :=
  ({ s with cry := { s.cry with queue := s.cry.queue.erase r } } : State).setCryU k { s.cryU k with cur := none }

@[simp] theorem taken_rd (f : Fld) : (taken s k r).rd f = s.rd f := rd_of_regs rfl f

@[simp] theorem taken_flag (f : Fld) : (taken s k r).flag f = s.flag f := flag_of_regs rfl f

/-- The request runs on unit k. -/
def runOn (s : State) (k : Nat) (r : CryReq) : State := s.setCryU k { s.cryU k with cur := some r }

/-- A free unit takes its next request; what the request does first depends on its opcode (R314). -/
theorem cryStart_free (hn : s.cryNext k = some r) (hk : k < 3) (hst : s.crySt = 2) (hfree : (s.cryU k).cur = none) :
    s.cryStart k =
      if r.internal ∨ r.opcode = 0x31 then runOn (taken s k r) k r
      else if r.opcode = 0x30 then (taken s k r).cipherBegin k r
      else if r.opcode = 0x32 then (taken s k r).deriveStart k r
      else (taken s k r).slotOp r := by
  simp only [State.cryStart, hn]
  rw [if_pos ⟨hk, hst, .inl (by rw [hfree]; rfl)⟩]
  simp only [hfree, Option.isSome_none, Bool.false_eq_true, if_false]
  rfl

/-- A hash needs no slot: it runs (R331). -/
theorem cryStart_hash (hn : s.cryNext k = some r) (hk : k < 3) (hst : s.crySt = 2) (hfree : (s.cryU k).cur = none) (hop : r.opcode = 0x31) :
    s.cryStart k = runOn (taken s k r) k r :=
  (cryStart_free hn hk hst hfree).trans (if_pos (.inr hop))

theorem cryStart_cipher (hn : s.cryNext k = some r) (hk : k < 3) (hst : s.crySt = 2) (hfree : (s.cryU k).cur = none) (hi : r.internal = false)
    (hop : r.opcode = 0x30) : s.cryStart k = (taken s k r).cipherBegin k r := by
  simp [cryStart_free hn hk hst hfree, hi, hop]

theorem cryStart_derive (hn : s.cryNext k = some r) (hk : k < 3) (hst : s.crySt = 2) (hfree : (s.cryU k).cur = none) (hi : r.internal = false)
    (hop : r.opcode = 0x32) : s.cryStart k = (taken s k r).deriveStart k r := by
  simp [cryStart_free hn hk hst hfree, hi, hop]

theorem cryStart_slotOp (hn : s.cryNext k = some r) (hk : k < 3) (hst : s.crySt = 2) (hfree : (s.cryU k).cur = none) (hi : r.internal = false)
    (hop : r.opcode = 0x33 ∨ r.opcode = 0x34) : s.cryStart k = (taken s k r).slotOp r := by
  rw [cryStart_free hn hk hst hfree]
  obtain h | h := hop <;> simp [hi, h]

/-- A cipher of an EMPTY slot ends at once (R318). -/
theorem cipherBegin_empty (h : s.rd (Reg.CRY_SLOT.STATE (r.fld 16 1)) = 0) : s.cipherBegin k r = s.cryDone r St.invalid 3 [] [] := if_pos h

/-- A cipher that draws no nonce runs on a slot that permits its mode (R324). -/
theorem cipherBegin_permitted (hs : s.rd (Reg.CRY_SLOT.STATE (r.fld 16 1)) ≠ 0)
    (hm : bitOf (s.rd (Reg.CRY_SLOT.MODES (r.fld 16 1))) (r.fld 17 1) = true) (hd : r.draws = false) : s.cipherBegin k r = runOn s k r := by
  simp only [State.cipherBegin, if_neg hs, hm, hd]
  rfl

/-- A derivation over a valid root with a newer epoch, which no other slot repeats, empties its slot and runs (R321). -/
theorem deriveStart_newEpoch (hv : s.flag (Reg.CRY_ROOT.VALID (r.fld 17 1)) = true) (hl : s.rd (Reg.CRY_SLOT.EPOCH (r.fld 16 1)) ≠ 65535)
    (he : s.rd (Reg.CRY_SLOT.EPOCH (r.fld 16 1)) < r.fld 20 2) (ht : s.slotTwin r = false) :
    s.deriveStart k r = ((s.emptySlot (r.fld 16 1)).wr (Reg.CRY_SLOT.EPOCH (r.fld 16 1)) (r.fld 20 2)).setCryU k { s.cryU k with cur := some r } := by
  simp [State.deriveStart, hv, hl, Nat.not_le.mpr he, ht]

theorem slotOp_retire (hop : r.opcode = 0x33) (hs : s.rd (Reg.CRY_SLOT.STATE (r.fld 16 1)) = 1) :
    s.slotOp r = ((s.wr (Reg.CRY_SLOT.STATE (r.fld 16 1)) 2).slotEvent (r.fld 16 1) 0x33).cryDone r St.ok 0 [] [] := by
  simp [State.slotOp, hop, hs]

theorem slotOp_clear (hop : r.opcode = 0x34) : s.slotOp r = ((s.emptySlot (r.fld 16 1)).slotEvent (r.fld 16 1) 0x34).cryDone r St.ok 0 [] [] :=
  if_pos hop

/-- While a running request names its slot a request of R322 does not begin, and no other is taken before it. -/
theorem cryNext_slotBusy (hk : k < 2) (hop : r.opcode = 0x33 ∨ r.opcode = 0x34) (hi : r.internal = false)
    (hint : s.cry.queue.find? (fun q => q.internal) = none) (hr : s.cry.queue.find? (fun q => !q.internal && decide (q.opcode ≠ 0x31)) = some r)
    (hb : s.slotBusy (r.fld 16 1) = true) : s.cryNext k = none := by
  have hslot : s.crySlotOf r = some (r.fld 16 1) := by
    have hpdu : r.pdu = none := by simpa [CryReq.internal] using hi
    obtain h | h := hop <;> simp [State.crySlotOf, hpdu, h]
  have hwait : s.mayBegin r = false := by
    obtain h | h := hop <;> simp [State.mayBegin, hslot, hi, h, hb]
  simp only [State.cryNext, if_neg (Nat.ne_of_lt hk), hint, hr, hwait]
  rfl

end Start

/-- Settles O53: a core that takes the request carries it out on its slot, and takes none while the slot is in use. -/
theorem slotOperations : Obligations.SlotOperations := by
  refine ⟨fun s k r hn hk hst hfree hi => ⟨fun hop hready => ?retire, fun hop => ?clear⟩, ?emptied, ?waits⟩
  case retire =>
    have hstart := cryStart_slotOp hn (Nat.lt_succ_of_lt hk) hst hfree hi (.inl hop)
    exact congrArg Host.Outcome.next (hstart.trans (slotOp_retire hop ((taken_rd _).trans hready)))
  case clear =>
    have hstart := cryStart_slotOp hn (Nat.lt_succ_of_lt hk) hst hfree hi (.inr hop)
    exact congrArg Host.Outcome.next (hstart.trans (slotOp_clear hop))
  case emptied =>
    intro s i hc _
    exact ⟨rfl, emptySlot_field hc i (by simp [slotFields]), emptySlot_field hc i (by simp [slotFields]),
      emptySlot_field hc i (by simp [slotFields]), emptySlot_field hc i (by simp [slotFields]), emptySlot_field hc i (by simp [slotFields]),
      emptySlot_epoch hc i⟩
  case waits =>
    intro s k r hk hop hi hint hr hb
    have hstays : s.cryStart k = s := by rw [State.cryStart, cryNext_slotBusy hk hop hi hint hr hb]
    exact congrArg Host.Outcome.next hstays

/-! ### Draws, ends, alarm, erase and start (R318, R323, R327, R329, R330) -/

section Engine

variable {s : State} {k t : Nat} {r : CryReq} {o : HostOp}

/-- The first draw of its slot whose ceiling is reached takes its nonce once the next ceiling is written (R323). -/
theorem ceilWritten_first (hr : (s.cryU k).cur = some r) (hk : k < 2) (hw : r.waitCeil = true)
    (hfirst : s.cryRunning.all (fun q => !(q.waitCeil && decide (q.fld 16 1 = r.fld 16 1)) || decide (r.id ≤ q.id)) = true)
    (hn : s.rd (Reg.CRY_NONCE.N (r.fld 16 1)) = (s.kennel (r.fld 16 1)).ceil) :
    s.ceilWritten k =
      ((s.setKennel (r.fld 16 1) { s.kennel (r.fld 16 1) with ceil := (s.kennel (r.fld 16 1)).ceil + 4096 }).wr (Reg.CRY_NONCE.N (r.fld 16 1))
        (s.rd (Reg.CRY_NONCE.N (r.fld 16 1)) + 1)).setCryU k
        { s.cryU k with cur := some { r with waitCeil := false, nonce := some (s.rd (Reg.CRY_NONCE.N (r.fld 16 1))) } } := by
  simp only [State.ceilWritten, hr]
  rw [if_pos ⟨hk, hw, hfirst⟩, if_pos hn]
  rfl

theorem cryEnd_running (hr : (s.cryU k).cur = some r) (hk : k < 3) (hst : s.crySt = 2) (hw : r.waitCeil = false) :
    s.cryEnd k = (s.setCryU k { cur := (s.cryU k).susp, susp := none }).cryFinish r := by
  simp [State.cryEnd, hr, hk, hst, hw]

theorem alarmOp_level (ho : s.opReady t 0x35 = some o) (hl : o.fld 16 1 = 1 ∨ o.fld 16 1 = 2) :
    s.alarmOp t = (s.complete t St.ok 0 s.now).alarm (o.fld 16 1) (o.fld 16 1 - 1) := by
  simp only [State.alarmOp, ho, if_pos hl]

/-- A level 1 erase empties every slot and keeps the root keys (R330). -/
theorem eraseAll_level1 (hp : s.rd Reg.CRY_STAT.ERASEPEND = 1) :
    s.eraseAll =
      let s1 := (((List.range 64).foldl (fun s i => s.emptySlot i) s).wr Reg.CRY_STAT.ERASEPEND 0).faultL 0x0B00 0x1B s.now 1 s.cry.eraseSrc
      ({ s1 with cry := { s1.cry with eraseSrc := 0 } } : State).cryUp := by
  simp only [State.eraseAll, hp]
  rfl

end Engine

/-- Settles O26: a request is accepted, started and ended by what it does under its guard; a draw, an alarm, an erase and a start likewise. -/
theorem cipherEngineCommands : Obligations.CipherEngineCommands := by
  refine ⟨?cipher, ?hash, ?derive, ?slotRetire, ?slotClear, ?alarmOp, ?startHash, ?startEmpty, ?startCipher, ?startDerive, ?startSlotOp, ?ceiling,
    ?requestEnd, ?alarm, ?erase, ?startDone⟩
  case cipher =>
    exact fun s t o x aux bs as ho hst hroom hok hx ha => congrArg Host.Outcome.next ((cipherOp_read ho hst hok hx ha).trans (cryAccept_queued bs as hst hroom rfl))
  case hash => exact fun s t o x bs ho hst hroom hlen hx => congrArg Host.Outcome.next ((hashOp_read ho hst hlen hx).trans (cryAccept_queued bs [] hst hroom rfl))
  case derive =>
    intro s t o ho hst hroom hslot hroot hlen hm0 hm1 he hl0 hl1
    have hop : exec (.derive t) s = .next (s.deriveOp t) := rfl
    rw [hop, State.deriveOp, ho]
    exact congrArg Host.Outcome.next (cryAccept_queued [] [] hst hroom (by simp [hslot, hroot, hlen, hm0, hm1, he, hl0, hl1]))
  case slotRetire =>
    intro s t o ho hst hroom hslot
    have hop : exec (.slotRetire t) s = .next (s.slotRetireOp t) := rfl
    rw [hop, State.slotRetireOp, ho]
    exact congrArg Host.Outcome.next (cryAccept_queued [] [] hst hroom (decide_eq_true hslot))
  case slotClear =>
    intro s t o ho hst hroom hslot
    have hop : exec (.slotClear t) s = .next (s.slotClearOp t) := rfl
    rw [hop, State.slotClearOp, ho]
    exact congrArg Host.Outcome.next (cryAccept_queued [] [] hst hroom (decide_eq_true hslot))
  case alarmOp => exact fun s t o ho hl => congrArg Host.Outcome.next (alarmOp_level ho hl)
  case startHash => exact fun s k r hn hk hst hfree hop => congrArg Host.Outcome.next (cryStart_hash hn hk hst hfree hop)
  case startEmpty =>
    exact fun s k r hn hk hst hfree hi hop hs =>
      congrArg Host.Outcome.next ((cryStart_cipher hn hk hst hfree hi hop).trans (cipherBegin_empty ((taken_rd _).trans hs)))
  case startCipher =>
    intro s k r hn hk hst hfree hi hop hs hm hd
    have hbegin : (taken s k r).cipherBegin k r = runOn (taken s k r) k r :=
      cipherBegin_permitted (by simpa using hs) (by simpa using hm) hd
    exact congrArg Host.Outcome.next ((cryStart_cipher hn hk hst hfree hi hop).trans hbegin)
  case startDerive =>
    intro s k r hn hk hst hfree hi hop hv hl he ht
    have hbegin := deriveStart_newEpoch (s := taken s k r) (k := k) (r := r) (by simpa using hv) (by simpa using hl) (by simpa using he) ht
    have hstart := (cryStart_derive hn hk hst hfree hi hop).trans hbegin
    exact congrArg Host.Outcome.next hstart
  case startSlotOp => exact fun s k r hn hk hst hfree hi hop => congrArg Host.Outcome.next (cryStart_slotOp hn hk hst hfree hi hop)
  case ceiling => exact fun s k r hr hk hw hfirst hn => congrArg Host.Outcome.next (ceilWritten_first hr hk hw hfirst hn)
  case requestEnd => exact fun s k r hr hk hst hw => congrArg Host.Outcome.next (cryEnd_running hr hk hst hw)
  case alarm => exact fun s a hs => congrArg Host.Outcome.next (if_pos hs)
  case erase =>
    intro s hst hp
    have hdue : s.crySt = 3 ∧ s.rd Reg.CRY_STAT.ERASEPEND ≠ 0 := ⟨hst, by rw [hp]; exact one_ne_zero⟩
    exact congrArg Host.Outcome.next ((if_pos hdue).trans (eraseAll_level1 hp))
  case startDone => exact fun s hst => congrArg Host.Outcome.next (if_pos hst)

end Sys2Proof.Proofs.Cipher
end

section
/-! PROOFS. The event recorder: records, repeats written back, reads, marks, the clear, and the operating seconds. -/

namespace Sys2Proof.Proofs.Recorder

open Sys2Proof Sys2Proof.Machine Sys2Proof.Safety Sys2Proof.Proofs.Scope Sys2Proof.Proofs.Reads

/-! ### A new record (R379, R387) -/

/-- The record that event e becomes. -/
def recordOf (s : State) (e : Evt) : EvRec :=
  { code := e.code, flags := e.flags, tick := e.tick, p1 := e.p1, p2 := e.p2, p3 := e.p3, opsec := s.rd Reg.EVR_OPSEC.N, pcyc := s.rd Reg.EVR_PCYC.N }

/-- The record is in the next slot and counted; the ceiling and `EVR_OLDEST` are as before. -/
def appended (s : State) (e : Evt) : State :=
  let k := slotOf (s.rd Reg.EVR_WCNT.N)
  let s1 := (s.setEvSlot k (recordOf s e)).wr Reg.EVR_WCNT.N (s.rd Reg.EVR_WCNT.N + 1)
  { s1 with evr := { s1.evr with mramRep := SMap.del k s1.evr.mramRep, wbTick := SMap.del k s1.evr.wbTick } }

theorem newRecord_eq_appended (s : State) (e : Evt) : s.newRecord e = (appended s e).raiseCeil.showOldest := rfl

theorem raiseCeil_below {s : State} (h : s.rd Reg.EVR_WCNT.N ≠ s.evr.wcntCeil) : s.raiseCeil = s := if_neg h

theorem appended_ceil (s : State) (e : Evt) : (appended s e).evr.wcntCeil = s.evr.wcntCeil := by
  simp [appended, State.setEvSlot]

section Record

variable {s : State} (hc : RegsCanonical s) (e : Evt)
include hc

theorem appended_canonical : RegsCanonical (appended s e) :=
  State.wr_canonical (s.setEvSlot (slotOf (s.rd Reg.EVR_WCNT.N)) (recordOf s e)) hc _ _

theorem appended_wcnt : (appended s e).rd Reg.EVR_WCNT.N = (s.rd Reg.EVR_WCNT.N + 1) % 2 ^ 32 :=
  (rd_of_regs rfl _).trans (State.rd_wr_self (s.setEvSlot (slotOf (s.rd Reg.EVR_WCNT.N)) (recordOf s e)) hc Reg.EVR_WCNT.N _ le_rfl)

theorem appended_rd {f : Fld} (hf : f.off ≠ Reg.EVR_WCNT.N.off) : (appended s e).rd f = s.rd f :=
  (rd_of_regs rfl _).trans
    ((State.rd_wr_ne (s.setEvSlot (slotOf (s.rd Reg.EVR_WCNT.N)) (recordOf s e)) hc _ f _ hf).trans (rd_of_regs rfl _))

/-- Below the MRAM ceiling of the count a new record raises no ceiling (R387). -/
theorem newRecord_belowCeil (h : (s.rd Reg.EVR_WCNT.N + 1) % 2 ^ 32 ≠ s.evr.wcntCeil) : s.newRecord e = (appended s e).showOldest := by
  rw [newRecord_eq_appended, raiseCeil_below]
  rwa [appended_wcnt hc, appended_ceil]

end Record

/-! ### EVR_CLEAR (R391) -/

/-- The recorder with every slot empty and the count 0. -/
def cleared (s : State) : State :=
  ({ s with evr := { s.evr with slots := [], mramRep := [], wbTick := [], wcntCeil := 64 } } : State).wr Reg.EVR_WCNT.N 0

section Clear

variable {s : State} {t : Nat} {o : HostOp}

theorem evrClear_fielded (ho : s.opReady t 0x5A = some o) (hl : s.otp.life ≠ 0) : s.evrClear t = (s.begin t).complete t St.configMismatch := by
  simp only [State.evrClear, ho, if_pos hl]

theorem evrClear_manufacture (ho : s.opReady t 0x5A = some o) (hl : s.otp.life = 0) :
    s.evrClear t = ((cleared (s.begin t)).newRecord { code := 0x0FE3, tick := s.now }).complete t St.ok 0 s.now := by
  simp only [State.evrClear, ho, hl, ne_eq, not_true_eq_false, if_false]
  rfl

theorem cleared_canonical (hc : RegsCanonical s) : RegsCanonical (cleared s) :=
  State.wr_canonical { s with evr := { s.evr with slots := [], mramRep := [], wbTick := [], wcntCeil := 64 } } hc _ _

theorem cleared_wcnt (hc : RegsCanonical s) : (cleared s).rd Reg.EVR_WCNT.N = 0 :=
  State.rd_wr_self { s with evr := { s.evr with slots := [], mramRep := [], wbTick := [], wcntCeil := 64 } } hc _ _ le_rfl

theorem cleared_rd (hc : RegsCanonical s) {f : Fld} (hf : f.off ≠ Reg.EVR_WCNT.N.off) : (cleared s).rd f = s.rd f :=
  (State.rd_wr_ne { s with evr := { s.evr with slots := [], mramRep := [], wbTick := [], wcntCeil := 64 } } hc _ f _ hf).trans (rd_of_regs rfl _)

theorem cleared_ceil : (cleared s).evr.wcntCeil = 64 := by simp [cleared]

/-- The first record of a cleared recorder leaves the ceiling alone: the count is 1. -/
theorem newRecord_cleared (hc : RegsCanonical s) (e : Evt) : (cleared s).newRecord e = (appended (cleared s) e).showOldest :=
  newRecord_belowCeil (cleared_canonical hc) e (by rw [cleared_wcnt hc, cleared_ceil]; decide)

/-- `EVR_OLDEST` follows the slots, and every other register stays. -/
theorem showOldest_rd (hc : RegsCanonical s) {f : Fld} (hf : f.off ≠ Reg.EVR_OLDEST.N.off) : s.showOldest.rd f = s.rd f := s.rd_wr_ne hc _ f _ hf

/-- The first record of a cleared recorder stands in slot 0, and every other slot is empty. -/
theorem newRecord_cleared_evSlot (hc : RegsCanonical s) (e : Evt) (he : e.code ≠ 0) (k : Nat) :
    ((cleared s).newRecord e).evSlot k = if k = 0 then recordOf (cleared s) e else {} := by
  have hne : recordOf (cleared s) e ≠ {} := fun h => he (congrArg EvRec.code h)
  have hslots : ((cleared s).newRecord e).evr.slots = SMap.set EvRec.blank [] 0 (recordOf (cleared s) e) := by
    rw [newRecord_cleared hc]
    show SMap.set EvRec.blank [] (slotOf ((cleared s).rd Reg.EVR_WCNT.N)) (recordOf (cleared s) e) = _
    rw [cleared_wcnt hc]
    rfl
  rw [State.evSlot, hslots]
  split
  next h => rw [h, SMap.get_set_self _ _ _ _ (SMap.wf_nil _)]
  next h => rw [SMap.get_set_ne _ _ h _ (SMap.wf_nil _)]; rfl

theorem newRecord_cleared_wcnt (hc : RegsCanonical s) (e : Evt) : ((cleared s).newRecord e).rd Reg.EVR_WCNT.N = 1 := by
  have hc' := cleared_canonical hc
  rw [newRecord_cleared hc, showOldest_rd (appended_canonical hc' e) (by decide), appended_wcnt hc', cleared_wcnt hc]
  rfl

/-- Registers beside the count and `EVR_OLDEST` stay. -/
theorem newRecord_cleared_rd (hc : RegsCanonical s) (e : Evt) {f : Fld} (hw : f.off ≠ Reg.EVR_WCNT.N.off) (ho : f.off ≠ Reg.EVR_OLDEST.N.off) :
    ((cleared s).newRecord e).rd f = s.rd f := by
  have hc' := cleared_canonical hc
  rw [newRecord_cleared hc, showOldest_rd (appended_canonical hc' e) ho, appended_rd hc' e hw, cleared_rd hc hw]

theorem newRecord_cleared_latch (hc : RegsCanonical s) (e : Evt) : ((cleared s).newRecord e).pow.latch = s.pow.latch := by
  rw [newRecord_cleared hc]
  simp [State.showOldest, appended, State.setEvSlot, cleared]

/-- The completion of EVR_CLEAR leaves what the clear has done. -/
theorem evrClear_hostStep (ho : s.opReady t 0x5A = some o) (hl : s.otp.life = 0) :
    HostStep ((cleared (s.begin t)).newRecord { code := 0x0FE3, tick := s.now }) (s.evrClear t) := by
  rw [evrClear_manufacture ho hl]
  exact complete_hostStep ..

end Clear

/-- Settles O47: outside MANUFACTURE the operation is refused; in it a new record goes into slot 0 of the cleared recorder. -/
theorem recorderClear : Obligations.RecorderClear := by
  intro s t o ho
  refine ⟨fun hl => congrArg Host.Outcome.next (evrClear_fielded ho hl), fun hl hc => ⟨_, rfl, ?_⟩⟩
  have hend := evrClear_hostStep ho hl
  have hregs : (s.begin t).regs = s.regs := regs_of_hostStep (begin_hostStep s t)
  have hc' : RegsCanonical (s.begin t) := by rw [RegsCanonical, hregs]; exact hc
  have hrec : recordOf (cleared (s.begin t)) { code := 0x0FE3, tick := s.now } =
      { code := 0x0FE3, tick := s.now, opsec := s.rd Reg.EVR_OPSEC.N, pcyc := s.rd Reg.EVR_PCYC.N } := by
    simp only [recordOf, cleared_rd hc' (show Reg.EVR_OPSEC.N.off ≠ _ by decide), cleared_rd hc' (show Reg.EVR_PCYC.N.off ≠ _ by decide), rd_of_regs hregs]
  have hrd {f : Fld} (hw : f.off ≠ Reg.EVR_WCNT.N.off) (hold : f.off ≠ Reg.EVR_OLDEST.N.off) : (s.evrClear t).rd f = s.rd f := by
    rw [rd_of_regs (regs_of_hostStep hend), newRecord_cleared_rd hc' _ hw hold, rd_of_regs hregs]
  refine ⟨fun k => ?slots, ?count, hrd (by decide) (by decide), hrd (by decide) (by decide), ?latch⟩
  case slots =>
    rw [State.evSlot, evr_of_hostStep hend]
    exact (newRecord_cleared_evSlot hc' _ (by simp) k).trans (by rw [hrec])
  case count => rw [rd_of_regs (regs_of_hostStep hend), newRecord_cleared_wcnt hc']
  case latch => rw [pow_of_hostStep hend, newRecord_cleared_latch hc', pow_of_hostStep (begin_hostStep s t)]

/-! ### The other commands (R381, R384, R390) -/

section Command

variable {s : State} {t n : Nat} {o : HostOp}

/-- A count that lags MRAM is written back, the first time at once and then 100 ms after the last (R384). -/
theorem repeatWriteback_due (hs : s.started = true) (hm : s.evr.mramRep.any (fun p => decide (p.1 = n)) = true)
    (hd : SMap.get (fun _ => 0) s.evr.wbTick n = 0 ∨ SMap.get (fun _ => 0) s.evr.wbTick n + 20000000 ≤ s.now) :
    s.repeatWriteback n =
      { s with evr := { s.evr with mramRep := SMap.del n s.evr.mramRep, wbTick := SMap.set (fun _ => 0) s.evr.wbTick n s.now } } :=
  if_pos (by simpa [hs, hm] using hd)

/-- A read from a record that the recorder holds reports no gap (R390). -/
theorem evrRead_held (ho : s.opReady t 0x58 = some o) (h0 : o.fld 20 2 ≠ 0) (h256 : o.fld 20 2 ≤ 256)
    (hnew : frameLater (o.fld 16 4) (s.rd Reg.EVR_WCNT.N) = false) (hold : frameLater (s.rd Reg.EVR_OLDEST.N) (o.fld 16 4) = false)
    (hn : min (o.fld 20 2) ((s.rd Reg.EVR_WCNT.N + 2 ^ 32 - o.fld 16 4) % 2 ^ 32) = n) (hn0 : n ≠ 0) :
    s.evrRead t = (s.begin t).complete t St.ok 0 s.now
      (leBytes 4 (o.fld 16 4) ++ leBytes 4 n ++ leBytes 4 (s.rd Reg.EVR_WCNT.N) ++ leBytes 4 (s.rd Reg.EVR_OLDEST.N))
      [(o.fld 24 8, (List.range n).flatMap (fun i => (s.evSlot (slotOf (o.fld 16 4 + i))).bytes))] := by
  have hgood : ¬(o.fld 20 2 = 0 ∨ 256 < o.fld 20 2 ∨ frameLater (o.fld 16 4) (s.rd Reg.EVR_WCNT.N) = true) := by
    simp [h0, Nat.not_lt.mpr h256, hnew]
  simp only [State.evrRead, ho, if_neg hgood, hold, Bool.false_eq_true, if_false, hn, if_neg hn0]
  rfl

theorem evrMark_room (ho : s.opReady t 0x59 = some o) (hq : s.evr.queue.length < 64) :
    s.evrMark t =
      ((s.begin t).record { code := 0x1100 + o.fld 16 1, flags := 4, tick := s.now, p1 := o.fld 20 4, p2 := o.fld 24 4, p3 := o.fld 28 4 }).complete
        t St.ok 0 s.now := by
  simp only [State.evrMark, ho, if_pos hq]

/-- With nothing discarded the oldest event of the queue is committed (R388). -/
theorem eventRecord_oldest {e : Evt} {q : List Evt} (hs : s.started = true) (hd : s.evr.discards = 0) (hq : s.evr.queue = e :: q) :
    s.eventRecord = ({ s with evr := { s.evr with queue := q } } : State).commitEvent e := by
  simp [State.eventRecord, hs, hd, hq]

/-- After discards a record of their number comes first (R388). -/
theorem eventRecord_discards (hs : s.started = true) (hd : s.evr.discards ≠ 0) :
    s.eventRecord =
      ({ s with evr := { s.evr with discards := 0 } } : State).newRecord { code := 0x0FE1, tick := s.now, p1 := s.evr.discards % 2 ^ 32 } := by
  simp [State.eventRecord, hs, hd]

theorem opsecTick_due (hs : s.started = true) (hd : s.evr.opsecAt + 200000000 ≤ s.now) :
    s.opsecTick = ({ s.count Reg.EVR_OPSEC.N 1 with evr := { s.evr with opsecAt := s.evr.opsecAt + 200000000 } } : State).opsecCeil := by
  simp [State.opsecTick, hs, hd]

end Command

/-- Settles O29: each command of the recorder by what it does where its guard is met. -/
theorem recorderCommands : Obligations.RecorderCommands := by
  refine ⟨?writeback, ?read, ?mark, ?clear, ?oldest, ?discards, ?seconds⟩
  case writeback => exact fun s n hs hm hd => congrArg Host.Outcome.next (repeatWriteback_due hs hm hd)
  case read => exact fun s t o ho h0 h256 hnew hold hn => congrArg Host.Outcome.next (evrRead_held ho h0 h256 hnew hold rfl hn)
  case mark => exact fun s t o ho hq => congrArg Host.Outcome.next (evrMark_room ho hq)
  case clear => exact fun s t o ho hl => congrArg Host.Outcome.next (evrClear_manufacture ho hl)
  case oldest => exact fun s e q hs hd hq => congrArg Host.Outcome.next (eventRecord_oldest hs hd hq)
  case discards => exact fun s hs hd => congrArg Host.Outcome.next (eventRecord_discards hs hd)
  case seconds => exact fun s hs hd => congrArg Host.Outcome.next (opsecTick_due hs hd)

end Sys2Proof.Proofs.Recorder
end

section
/-! PROOFS. The host interface: enable and stop, link and bus mastering, doorbells and descriptors, moderation and drains, and the operations on rings, buffers and functions. -/

namespace Sys2Proof.Proofs.HostInterface

open Sys2Proof Sys2Proof.Machine

/-! ### Enable, link, and what is held back (R288, R289, R307, R312) -/

section Interface

variable {s : State} {d q v : Nat}

theorem hostEnable_start (hs : s.started = true) (hl : s.host.linkUp = true) (he : s.flag Reg.HOST_CTL.EN = false) :
    s.hostEnable d = (s.wr Reg.HOST_CTL.DBPER d).hostStart := by
  simp [State.hostEnable, hs, hl, he]

theorem hostDisable_enabled (hs : s.started = true) (he : s.flag Reg.HOST_CTL.EN = true) :
    s.hostDisable d = ({ s.wr Reg.HOST_CTL.DBPER d with host := { s.host with enWait := none } } : State).hostStop := by
  simp [State.hostDisable, hs, he]

/-- A pending vector that is unmasked while the interface runs signals (R288). -/
theorem msixUnmask_pending (hv : v < 33) (hu : s.hostUp = true) (hp : (SMap.get MsixVec.blank s.host.msix v).pending = true) :
    s.msixUnmask v =
      let e : MsixVec := { SMap.get MsixVec.blank s.host.msix v with masked := false, pending := false }
      ({ s with host := { s.host with msix := SMap.set MsixVec.blank s.host.msix v e } } : State).msix v := by
  have hl : s.host.linkUp = true := by
    rw [State.hostUp, Bool.and_eq_true] at hu
    exact hu.2
  simp [State.msixUnmask, hv, hl, hu, hp]

theorem pcieUp_down (hs : s.started = true) (hl : s.host.linkUp = false) :
    s.pcieUp =
      let s1 : State := { s with host := { s.host with linkUp := true, enWait := none } }
      match s.host.enWait with
      | none => s1
      | some d => s1.hostEnable d :=
  if_pos (by simp [hs, hl])

theorem linkDown_up (hs : s.started = true) (hl : s.host.linkUp = true) :
    s.linkDown =
      (({ s.hostStop with host := { s.hostStop.host with linkUp := false, bme := false, d3 := false, msix := [], enWait := none } } : State).raiseFlag
        Reg.HOST_ERR.LINKDOWN).raiseL 0x0A00 0x18 s.now :=
  if_pos (by simp [hs, hl])

/-- Bus mastering that returns sends what was held back (R289). -/
theorem busMasterChange_on (hl : s.host.linkUp = true) :
    s.busMasterChange true false = ({ s with host := { s.host with bme := true, d3 := false } } : State).sendHeld := by
  simp [State.busMasterChange, State.busMaster, hl]

theorem busMasterChange_off (d3 : Bool) (hl : s.host.linkUp = true) :
    s.busMasterChange false d3 = { s with host := { s.host with bme := false, d3 := d3 } } := by
  simp [State.busMasterChange, State.busMaster, hl]

/-- A read that timed out brings nothing, and counts as failed (R291). -/
theorem doorbellData_timeout (hu : s.hostUp = true) (ho : 0 < s.host.fetchOut) :
    s.doorbellData .timeout = ({ s with host := { s.host with fetchOut := s.host.fetchOut - 1 } } : State).fetchFailed .timeout :=
  if_pos ⟨hu, ho⟩

theorem doorbellData_read {x : ReadResult} {b : List Byte} (hu : s.hostUp = true) (ho : 0 < s.host.fetchOut) (hb : readBytes x 256 = some b) :
    s.doorbellData x = ({ s with host := { s.host with fetchOut := s.host.fetchOut - 1 } } : State).doorbellPage b := by
  rw [State.doorbellData, if_pos ⟨hu, ho⟩]
  simp only [hb]

/-- The descriptor of the ring in turn is accepted where it does not ask for a fence (R294, R295). -/
theorem descriptor_accepted {x : ReadResult} {b : List Byte} (hu : s.hostUp = true) (hm : s.busMaster = true) (hb : s.pow.lastBound = none)
    (hn : s.nextSq = some q) (hx : readBytes x 64 = some b) (hf : byteField b 2 1 % 2 = 0) :
    s.descriptor q x = (((s.served q).consume q).acceptDesc q b).drainCheck q := by
  rw [State.descriptor, if_pos ⟨hu, hm, hb, hn⟩]
  simp [hx, hf]

end Interface

/-- Settles O5: each command of the interface by what it does where its guard is met. -/
theorem hostInterfaceCommands : Obligations.HostInterfaceCommands := by
  refine ⟨?enable, ?disable, ?unmask, ?linkUp, ?linkDown, ?masterOn, ?masterOff, ?fetch, ?page, ?descriptor, ?timeout, ?moderation, ?drain⟩
  case enable => exact fun s d hs hl he => congrArg Host.Outcome.next (hostEnable_start hs hl he)
  case disable => exact fun s d hs he => congrArg Host.Outcome.next (hostDisable_enabled hs he)
  case unmask => exact fun s v hv hu hp => congrArg Host.Outcome.next (msixUnmask_pending hv hu hp)
  case linkUp => exact fun s hs hl => congrArg Host.Outcome.next (pcieUp_down hs hl)
  case linkDown => exact fun s hs hl => congrArg Host.Outcome.next (linkDown_up hs hl)
  case masterOn => exact fun s hl => congrArg Host.Outcome.next (busMasterChange_on hl)
  case masterOff => exact fun s d3 hl => congrArg Host.Outcome.next (busMasterChange_off d3 hl)
  case fetch => exact fun s hu hm hp hn => congrArg Host.Outcome.next (if_pos ⟨hu, hm, hp, hn⟩)
  case page => exact fun s x b hu ho hb => congrArg Host.Outcome.next (doorbellData_read hu ho hb)
  case descriptor => exact fun s q x b hu hm hb hn hx hf => congrArg Host.Outcome.next (descriptor_accepted hu hm hb hn hx hf)
  case timeout => exact fun s hu ho => congrArg Host.Outcome.next (doorbellData_timeout hu ho)
  case moderation => exact fun s q hu ha hi hn hv hd => congrArg Host.Outcome.next (if_pos ⟨hu, ha, hi, hn, hv, hd⟩)
  case drain => exact fun s q hu hst hn hd => congrArg Host.Outcome.next (if_pos ⟨hu, hst, by rw [hn]; rfl, hd⟩)

/-! ### Operations on rings, functions and buffers (R300, R303 to R305, R308) -/

section Operation

variable {s : State} {t i : Nat} {o : HostOp}

theorem nop_ready (ho : s.opReady t 0 = some o) : s.nop t = s.complete t St.ok 0 o.tick := by
  simp only [State.nop, ho]

/-- A RING_ADD within R304 makes an absent submission ring active. -/
theorem ringAdd_sq (ho : s.opReady t 1 = some o) (hk : o.fld 16 1 = 0) (hq0 : o.fld 17 1 ≠ 0) (hq : o.fld 17 1 < 32)
    (hr : ringOk (o.fld 18 1) (o.fld 24 8) = true) (hw1 : 1 ≤ o.fld 20 1) (hw16 : o.fld 20 1 ≤ 16) (hc : o.fld 19 1 < 32)
    (ha : (s.cq (o.fld 19 1)).active = true) (hz : o.fld 21 1 = 0) (hst : (s.sq (o.fld 17 1)).st = .absent) :
    s.ringAdd t =
      (s.setSq (o.fld 17 1) { st := .active, base := o.fld 24 8, log2 := o.fld 18 1, cq := o.fld 19 1, weight := o.fld 20 1 }).complete
        t St.ok 0 o.tick := by
  simp [State.ringAdd, State.addSq, ho, hk, hq0, Nat.not_le.mpr hq, hr, Nat.ne_of_gt hw1, Nat.not_lt.mpr hw16, Nat.not_le.mpr hc, ha, hz, hst]

/-- The removal of an active submission ring begins where its last descriptor lies on the ring (R305). -/
theorem ringRemove_sq (ho : s.opReady t 2 = some o) (hk : o.fld 16 1 = 0) (hq0 : o.fld 17 1 ≠ 0) (hq : o.fld 17 1 < 32)
    (hst : (s.sq (o.fld 17 1)).st = .active) (hown : o.fld 17 1 ≠ o.sq)
    (hf : (o.fld 20 2 + 65536 - (s.sq (o.fld 17 1)).consumed) % 65536 ≤ 2 ^ (s.sq (o.fld 17 1)).log2) :
    s.ringRemove t =
      ((s.begin t).setSq (o.fld 17 1)
        { s.sq (o.fld 17 1) with st := .draining, final := o.fld 20 2, remTag := some t, remTick := o.tick }).drainCheck (o.fld 17 1) := by
  simp [State.ringRemove, State.removeSq, ho, hk, hq0, Nat.not_le.mpr hq, hst, hown, Nat.not_lt.mpr hf]

/-- The reset of an enabled Ethernet port (R308). -/
theorem funcReset_eth (ho : s.opReady t 3 = some o) (hf : o.fld 16 2 = 0x0900 + i) (hi : i < 4) (he : s.flag (Reg.ETH_PCFG.ENABLE i) = true) :
    s.funcReset t = ((s.begin t).ethPortReset i).complete t St.ok := by
  have hclass : (0x0900 + i) / 256 = 9 := by omega
  have hunit : (0x0900 + i) % 256 = i := by omega
  simp [State.funcReset, ho, hf, hclass, hunit, hi, he]

/-- A buffer posted for an enabled CAN controller joins the posted ones (R303). -/
theorem rxPost_can (ho : s.opReady t 0x24 = some o) (hk : o.fld 16 1 = 0) (hu : o.fld 17 1 < 12) (hst : s.canSt (o.fld 17 1) ≠ 0) :
    s.rxPost t =
      let s1 := s.begin t
      ({ s1 with host := { s1.host with rx := s1.host.rx ++ [{ tag := t, kind := 0, unit := o.fld 17 1, addr := o.fld 24 8 }] } } : State).drainCheck o.sq := by
  simp [State.rxPost, State.rxUnit, ho, hk, hu, hst]

end Operation

/-- Settles O6: an operation that nothing refuses does what its definition says. -/
theorem ringOperations : Obligations.RingOperations := by
  refine ⟨?nop, ?add, ?remove, ?reset, ?post⟩
  case nop => exact fun s t o ho => congrArg Host.Outcome.next (nop_ready ho)
  case add =>
    exact fun s t o ho hk hq0 hq hr hw1 hw16 hc ha hz hst => congrArg Host.Outcome.next (ringAdd_sq ho hk hq0 hq hr hw1 hw16 hc ha hz hst)
  case remove => exact fun s t o ho hk hq0 hq hst hown hf => congrArg Host.Outcome.next (ringRemove_sq ho hk hq0 hq hst hown hf)
  case reset => exact fun s t i o ho hf hi he => congrArg Host.Outcome.next (funcReset_eth ho hf hi he)
  case post => exact fun s t o ho hk hu hst => congrArg Host.Outcome.next (rxPost_can ho hk hu hst)

end Sys2Proof.Proofs.HostInterface
end

section
/-! PROOFS. The CAN controllers: frames sent, lost and received, errors, bus-off and restricted operation, and the operations of firmware. -/

namespace Sys2Proof.Proofs.Can

open Sys2Proof Sys2Proof.Machine

/-! ### Frames in progress (R248, R250, R254) -/

section Frame

variable {s : State} {c i k tec rec : Nat} {f : CanTx} {v : Option Nat}

/-- The pending frame that wins starts with its data and its ESI as of this tick (R248). -/
theorem canTxStart_best (hc : c < 12) (hst : s.canSt c = 2 ∨ s.canSt c = 3) (hcur : (s.canC c).cur = none) (ha : (s.canC c).after = .none)
    (hb : canBest (s.canReadySlots c) = some (i, f)) :
    s.canTxStart c =
      (s.setCanC c { s.canC c with cur := some i }).canSay c
        (.canFrame c { f.frame with data := TxPdu.at { bytes := f.frame.data, ages := f.ages } s.now, esi := decide (s.canSt c = 3) }) := by
  rw [State.canTxStart, if_pos ⟨hc, hst, hcur, ha⟩]
  simp only [hb]

/-- A frame becomes valid unless its transmitter is forced recessive (R250, R437). -/
theorem canFrameSent_valid {v : Nat} (hcur : (s.canC c).cur = some i) (hslot : (s.canC c).slot i = some f) (hm : s.canMute c = false) :
    s.canFrameSent c v =
      let s2 := (s.count (Reg.CAN_CNT.TXOK c) 1).canMeasured c (some v)
      let s3 := (s2.canCounters c (s.rd (Reg.CAN_STAT.TEC c) - 1) (s.rd (Reg.CAN_STAT.REC c))).canLevel c
      ((s3.setCanC c { s3.canC c with cur := none }).canEnd c i 1 s.now).canAfterFrame c := by
  simp only [State.canFrameSent, hcur, hslot, hm, Bool.false_eq_true, if_false]

theorem canArbitrationLost_current (hcur : (s.canC c).cur = some i) : s.canArbitrationLost c = s.canFailed c i 3 := by
  simp only [State.canArbitrationLost, hcur]

/-- A protocol exception sets its bit and changes nothing else (R254). -/
theorem canError_exception (hc : c < 12) (hst : s.canSt c = 2 ∨ s.canSt c = 3 ∨ s.canSt c = 6) (hk : k % 64 ≠ 0) (he : s.canKinds c k % 32 = 0) :
    s.canError c k tec rec v = s.canErrBits c (s.canKinds c k) := by
  rw [State.canError, if_pos ⟨hc, hst, hk⟩]
  exact if_pos he

/-- An error sets its bits, sends the error flag and takes the new counters; then the controller is bus-off, or its frame has failed (R254). -/
theorem canError_counted (hc : c < 12) (hst : s.canSt c = 2 ∨ s.canSt c = 3 ∨ s.canSt c = 6) (hk : k % 64 ≠ 0) (he : s.canKinds c k % 32 ≠ 0)
    (hok : s.canStepOk c tec rec = true) :
    s.canError c k tec rec v =
      let s2 := (((s.canErrBits c (s.canKinds c k)).canMeasured c v).canFlag c).canCounters c tec rec
      let x := s2.canC c
      if s2.canSt c ≠ 6 ∧ 255 < s2.rd (Reg.CAN_STAT.TEC c) ∧ x.after = .none then s2.canBusoff c x.cur
      else
        let s3 := s2.canLevel c
        match x.cur with
        | none => s3
        | some i => s3.canFailed c i 4 := by
  rw [State.canError, if_pos ⟨hc, hst, hk⟩]
  exact (if_neg he).trans (if_neg (by rw [hok]; exact Bool.false_ne_true))

end Frame

/-! ### Operations of firmware (R247, R250, R252, R257, R258) -/

section Operation

variable {s : State} {t i r : Nat} {x : ReadResult} {o : HostOp}

/-- The bytes of the data of a CAN_TX (R237). -/
def txLen (o : HostOp) : Nat := dlcLen (bitOf (o.fld 17 1) 2) (o.fld 18 1)

/-- The frame of a CAN_TX with what the read of host memory brought. -/
def txFrame (o : HostOp) (x : ReadResult) : CanFrame := canReqFrame o ((readBytes x (txLen o)).getD [])

/-- The data of a CAN_TX stand in its descriptor, or were read. -/
def txDataRead (o : HostOp) (x : ReadResult) : Prop := txLen o ≤ 32 ∨ bitOf (o.fld 17 1) 1 = true ∨ readBytes x (txLen o) ≠ none

/-- With its data at hand a CAN_TX is refused, or takes a slot (R247). -/
theorem canTx_data (ho : s.opReady t 0x20 = some o) (hc : o.fld 16 1 < 12) (hd : txDataRead o x) :
    s.canTx t x =
      match s.canRefusal (o.fld 16 1) (txFrame o x) with
      | some r => s.complete t (canStatus r) r
      | none =>
        match (s.canC (o.fld 16 1)).freeFw with
        | none => s
        | some i =>
          (s.begin t).setCanC (o.fld 16 1) { (s.canC (o.fld 16 1)).setSlot i
            (some { frame := txFrame o x, seq := (s.canC (o.fld 16 1)).seq, tag := some t, oneshot := bitOf (o.fld 17 1) 4 }) with
            seq := (s.canC (o.fld 16 1)).seq + 1 } := by
  have hread : ¬(s.canSt (o.fld 16 1) ≠ 0 ∧ (s.canC (o.fld 16 1)).after ≠ .off ∧ 32 < txLen o ∧ (!bitOf (o.fld 17 1) 1) = true ∧
      readBytes x (txLen o) = none) := by
    rintro ⟨-, -, hlong, hdata, hfail⟩
    obtain h | h | h := hd
    · exact absurd hlong (Nat.not_lt.mpr h)
    · rw [h] at hdata; cases hdata
    · exact h hfail
  simp only [State.canTx, ho, if_neg (Nat.not_le.mpr hc)]
  exact if_neg hread

theorem canTx_slot (ho : s.opReady t 0x20 = some o) (hc : o.fld 16 1 < 12) (hd : txDataRead o x)
    (hr : s.canRefusal (o.fld 16 1) (txFrame o x) = none) (hi : (s.canC (o.fld 16 1)).freeFw = some i) :
    s.canTx t x =
      (s.begin t).setCanC (o.fld 16 1) { (s.canC (o.fld 16 1)).setSlot i
        (some { frame := txFrame o x, seq := (s.canC (o.fld 16 1)).seq, tag := some t, oneshot := bitOf (o.fld 17 1) 4 }) with
        seq := (s.canC (o.fld 16 1)).seq + 1 } := by
  rw [canTx_data ho hc hd]
  simp only [hr, hi]

theorem canTx_refused (ho : s.opReady t 0x20 = some o) (hc : o.fld 16 1 < 12) (hd : txDataRead o x)
    (hr : s.canRefusal (o.fld 16 1) (txFrame o x) = some r) : s.canTx t x = s.complete t (canStatus r) r := by
  rw [canTx_data ho hc hd]
  simp only [hr]

/-- A cancel acts from the tick after its arrival on (log entry 37). -/
theorem canCancel_later (ho : s.opReady t 0x21 = some o) (hc : o.fld 16 1 < 12) (hn : o.tick < s.now) :
    s.canCancel t = (s.canCancelTag (o.fld 16 1) (o.fld 17 1)).2.complete t St.ok (s.canCancelTag (o.fld 16 1) (o.fld 17 1)).1 := by
  simp only [State.canCancel, ho, if_neg (Nat.not_le.mpr hc), if_neg (Nat.not_le.mpr hn)]

/-- A recover request starts recovery in BUS_OFF alone (R257). -/
theorem canRecoverReq_eq {c : Nat} (hc : c < 12) :
    s.canRecoverReq c = if s.canSt c = 4 then (true, s.canRecoverStart c) else (false, s) := by
  simp [State.canRecoverReq, hc]

theorem canRecover_ready (ho : s.opReady t 0x22 = some o) (hc : o.fld 16 1 < 12) :
    s.canRecover t =
      if s.canSt (o.fld 16 1) = 4 then (s.canRecoverStart (o.fld 16 1)).complete t St.ok 15 else s.complete t St.ok 16 := by
  simp only [State.canRecover, ho, if_neg (Nat.not_le.mpr hc), canRecoverReq_eq hc]
  split <;> rfl

theorem canMode_ready (ho : s.opReady t 0x23 = some o) (hc : o.fld 16 1 < 12) (hm : o.fld 17 1 = 1 ∨ o.fld 17 1 = 2) :
    s.canMode t = (s.canSource (o.fld 16 1) 0 (decide (o.fld 17 1 = 1))).complete t St.ok := by
  have hgood : ¬(12 ≤ o.fld 16 1 ∨ o.fld 17 1 = 0 ∨ 2 < o.fld 17 1) := by omega
  simp only [State.canMode, ho, if_neg hgood]

end Operation

/-- Settles O21: each command by what it does where its guard is met. -/
theorem canTransmitCommands : Obligations.CanTransmitCommands := by
  refine ⟨?start, ?sent, ?lost, ?exception, ?error, ?tx, ?refused, ?cancel, ?recover, ?mode⟩
  case start => exact fun s c i f hc hst hcur ha hb => congrArg Host.Outcome.next (canTxStart_best hc hst hcur ha hb)
  case sent => exact fun s c v i f hcur hslot hm => congrArg Host.Outcome.next (canFrameSent_valid hcur hslot hm)
  case lost => exact fun s c i hcur => congrArg Host.Outcome.next (canArbitrationLost_current hcur)
  case exception => exact fun s c k tec rec v hc hst hk he => congrArg Host.Outcome.next (canError_exception hc hst hk he)
  case error => exact fun s c k tec rec v hc hst hk he hok => congrArg Host.Outcome.next (canError_counted hc hst hk he hok)
  case tx => exact fun s t i x o ho hc hd hr hi => congrArg Host.Outcome.next (canTx_slot ho hc hd hr hi)
  case refused => exact fun s t r x o ho hc hd hr => congrArg Host.Outcome.next (canTx_refused ho hc hd hr)
  case cancel => exact fun s t o ho hc hn => congrArg Host.Outcome.next (canCancel_later ho hc hn)
  case recover => exact fun s t o ho hc => congrArg Host.Outcome.next (canRecover_ready ho hc)
  case mode => exact fun s t o ho hc hm => congrArg Host.Outcome.next (canMode_ready ho hc hm)

/-! ### Reception, bus-off and modes (R243, R253, R255 to R258) -/

section Reception

variable {s : State} {c : Nat} {f : CanFrame}

/-- A controller that takes part and sends nothing takes every valid frame of a format it supports (R243). -/
theorem canFrameReceived_valid (hc : c < 12) (hst : s.canSt c = 2 ∨ s.canSt c = 3 ∨ s.canSt c = 6) (hcur : (s.canC c).cur = none)
    (hv : canValid f = true) (hf : f.fdf = false ∨ s.flag (Reg.CAN_CFG.FDEN c) = true) :
    s.canFrameReceived c f =
      let k := if f.rtr then none else s.decRec 0 c (f.id + 2 ^ 31 * b2n f.ide) 0 0
      let s0 := if s.canSt c = 6 then s else s.canSay c (.canAck c)
      let s1 := (s0.count (Reg.CAN_CNT.RXOK c) 1).canRxCount c
      let s2 : State := match k with
        | none => s1
        | some k => s1.receiveRec k f.data s.now (canSrc c)
      if s.rd (Reg.CAN_CFG.RXHOST c) = 2 ∨ (s.rd (Reg.CAN_CFG.RXHOST c) = 1 ∧ k = none) then
        s2.fillPost 0 c (canEntry c f s.now k.isSome) [] s.now (s2.canDrop c)
      else s2 := by
  have hformat : ¬(f.fdf = true ∧ (!s.flag (Reg.CAN_CFG.FDEN c)) = true) := by
    obtain h | h := hf <;> simp [h]
  exact (if_pos ⟨hc, hst, hcur, hv⟩).trans (if_neg hformat)

theorem canRecoverReq_busoff (hc : c < 12) (hst : s.canSt c = 4) : (s.canRecoverReq c).2 = s.canRecoverStart c := by
  rw [canRecoverReq_eq hc, if_pos hst]

theorem busoffHoldEnd_due (hc : c < 12) (hst : s.canSt c = 4) (hr : s.flag (Reg.CAN_CFG.RECOV c) = false) (hl : (s.canC c).limit = false)
    (hd : (s.canC c).boAt + s.rd (Reg.CAN_CFG.BOHOLD c) * 2000000 ≤ s.now) : s.busoffHoldEnd c = s.canRecoverStart c :=
  if_pos ⟨hc, hst, by rw [hr]; rfl, by rw [hl]; rfl, hd⟩

end Reception

/-- Settles O22: each command by what it does where its guard is met. -/
theorem canStateCommands : Obligations.CanStateCommands := by
  refine ⟨?recover, ?restrict, ?unrestrict, ?received, ?holdEnd, ?recovered, ?synced, ?countReset⟩
  case recover => exact fun s c hc hst => congrArg Host.Outcome.next (canRecoverReq_busoff hc hst)
  case restrict => exact fun s c hc => congrArg Host.Outcome.next (if_pos hc)
  case unrestrict => exact fun s c hc => congrArg Host.Outcome.next (if_pos hc)
  case received => exact fun s c f hc hst hcur hv hf => congrArg Host.Outcome.next (canFrameReceived_valid hc hst hcur hv hf)
  case holdEnd => exact fun s c hc hst hr hl hd => congrArg Host.Outcome.next (busoffHoldEnd_due hc hst hr hl hd)
  case recovered => exact fun s c hc hst => congrArg Host.Outcome.next (if_pos ⟨hc, hst⟩)
  case synced => exact fun s c hc hst => congrArg Host.Outcome.next (if_pos ⟨hc, hst⟩)
  case countReset => exact fun s c hc hst hd => congrArg Host.Outcome.next (if_pos ⟨hc, hst, hd⟩)

end Sys2Proof.Proofs.Can
end

section
/-! PROOFS. The LIN channels: schedules and requests, sleep and wake-up, headers, responses and their limits. -/

namespace Sys2Proof.Proofs.Lin

open Sys2Proof Sys2Proof.Machine

/-! ### Schedules, requests, sleep and wake-up (R268, R269, R272, R273) -/

section Schedule

variable {s : State} {t n e k : Nat} {o : HostOp}

theorem linSched_ready (ho : s.opReady t 0x28 = some o) (hn : o.fld 16 1 < 10) (hst : s.linSt (o.fld 16 1) ≠ 0)
    (he : (s.linC (o.fld 16 1)).ending = false) (hc : s.linCommander (o.fld 16 1) = true)
    (hl : (s.linTable (o.fld 16 1) (o.fld 17 1)).length ≠ 0) :
    s.linSched t = (s.begin t).linRequest (o.fld 16 1) (o.fld 17 1) (some t) := by
  have hrun : ¬(s.linSt (o.fld 16 1) = 0 ∨ (s.linC (o.fld 16 1)).ending = true) := by simp [hst, he]
  simp only [State.linSched, ho, if_neg (Nat.not_le.mpr hn), if_neg hrun, if_neg (not_and_of_not_right _ hl), hc, Bool.not_true,
    Bool.false_eq_true, if_false]

/-- A diagnostic request of an ACTIVE commander with fewer than four waiting waits (R273). -/
theorem linDiag_room (ho : s.opReady t 0x29 = some o) (hn : o.fld 16 1 < 10) (hst : s.linSt (o.fld 16 1) = 2)
    (he : (s.linC (o.fld 16 1)).ending = false) (hc : s.linCommander (o.fld 16 1) = true) (hd : (s.linC (o.fld 16 1)).diag.length < 4) :
    s.linDiag t =
      (s.begin t).setLinC (o.fld 16 1)
        { s.linC (o.fld 16 1) with diag := (s.linC (o.fld 16 1)).diag ++ [(t, (o.desc.drop 24).take 8)] } := by
  have hroom : ¬(s.linSt (o.fld 16 1) = 1 ∨ 4 ≤ (s.linC (o.fld 16 1)).diag.length) := by omega
  have hrun : ¬(s.linSt (o.fld 16 1) = 0 ∨ (s.linC (o.fld 16 1)).ending = true) := by simp [hst, he]
  simp only [State.linDiag, ho, if_neg (Nat.not_le.mpr hn), if_neg hrun, hc, Bool.not_true, Bool.false_eq_true, if_false, if_neg hroom]

/-- A running commander whose slot has ended takes the next one, the frame in it being over (R268). -/
theorem linSlotStart_due (hn : n < 10) (hst : s.linSt n = 2) (hc : s.linCommander n = true) (hr : (s.linC n).restartAt = none)
    (he : (s.linC n).ending = false) (hd : (s.linC n).slotEnd ≤ s.now) : s.linSlotStart n = (s.linResponseTimeout n).linSlotNext n :=
  if_pos ⟨hn, hst, hc, hr, by rw [he]; rfl, hd⟩

/-- A signal without an answer is repeated 150 ms after it, and the next attempt comes 1.5 s later (R272; log entry 98). -/
theorem linWakeRetry_due (hw : (s.linC n).wakeEnd = some e) (hn : n < 10) (hst : s.linSt n ≠ 0)
    (hd : (if (s.linC n).wakeTries < 3 then e + 30000000 else e + 330000000) ≤ s.now) :
    s.linWakeRetry n =
      if (s.linC n).wakeTries < 3 then s.linWakeSignal n (e + 30000000) ((s.linC n).wakeTries + 1) else s.linWakeSignal n (e + 330000000) 1 := by
  by_cases ht : (s.linC n).wakeTries < 3
  · rw [if_pos ht] at hd ⊢
    simp only [State.linWakeRetry, hw, if_pos ht]
    exact if_pos ⟨hn, hst, hd⟩
  · rw [if_neg ht] at hd ⊢
    simp only [State.linWakeRetry, hw, if_neg ht, Nat.add_assoc, Nat.reduceAdd]
    exact if_pos ⟨hn, hst, hd⟩

/-- A responder without traffic for 4 s sleeps (R272). -/
theorem linBusIdleTimeout_due (hn : n < 10) (hst : s.linSt n = 2) (hc : s.linCommander n = false) (hd : (s.linC n).lastBus + 800000000 ≤ s.now) :
    s.linBusIdleTimeout n = s.linGo n 1 s.now :=
  if_pos ⟨hn, hst, by rw [hc]; rfl, hd⟩

theorem linScheduleRestart_due (hr : (s.linC n).restartAt = some k) (hn : n < 10) (hk : k ≤ s.now) :
    s.linScheduleRestart n = s.setLinC n { s.linC n with restartAt := none, anew := true, slotEnd := k, hdr := none, publishing := false } := by
  simp only [State.linScheduleRestart, hr]
  exact if_pos ⟨hn, hk⟩

end Schedule

/-- Settles O23: each command by what it does where its guard is met. -/
theorem linScheduleCommands : Obligations.LinScheduleCommands := by
  refine ⟨?request, ?sched, ?diag, ?sleep, ?wake, ?slot, ?retry, ?remote, ?idle, ?restart⟩
  case request => exact fun s n tb hn hst hc hl => congrArg Host.Outcome.next (if_pos ⟨hn, hst, hc, hl⟩)
  case sched => exact fun s t o ho hn hst he hc hl => congrArg Host.Outcome.next (linSched_ready ho hn hst he hc hl)
  case diag => exact fun s t o ho hn hst he hc hd => congrArg Host.Outcome.next (linDiag_room ho hn hst he hc hd)
  case sleep => exact fun s n hn hst hc => congrArg Host.Outcome.next (if_pos ⟨hn, hst, hc⟩)
  case wake => exact fun s n hn hst he => congrArg Host.Outcome.next (if_pos ⟨hn, hst, by rw [he]; rfl⟩)
  case slot => exact fun s n hn hst hc hr he hd => congrArg Host.Outcome.next (linSlotStart_due hn hst hc hr he hd)
  case retry => exact fun s n e hw hn hst hd => congrArg Host.Outcome.next (linWakeRetry_due hw hn hst hd)
  case remote => exact fun s n k hn hst hlo hhi => congrArg Host.Outcome.next (if_pos ⟨hn, hst, hlo, hhi⟩)
  case idle => exact fun s n hn hst hc hd => congrArg Host.Outcome.next (linBusIdleTimeout_due hn hst hc hd)
  case restart => exact fun s n k hr hn hk => congrArg Host.Outcome.next (linScheduleRestart_due hr hn hk)

/-! ### Headers and responses (R267, R270, R271, R437) -/

section Frame

variable {s : State} {n id t : Nat} {f : LinSlot}

/-- A running responder sees a header of legal length (R270, R271). -/
theorem linHeaderReceived_legal (p ago : Nat) (ok : Bool) (hn : n < 10) (hst : s.linSt n = 2) (hc : s.linCommander n = false)
    (he : (s.linC n).ending = false) (hl : s.linHeaderLen n ago = true) :
    s.linHeaderReceived n p ok ago =
      let s1 := s.setLinC n { s.linC n with lastBus := s.now, wakeEnd := none, wakeTries := 0, hdr := none, publishing := false }
      match s.linRespFrame n (p % 64) with
      | none => if ok then s1 else s1.linErrs n 16 false
      | some f =>
        if !ok then s1.linErrs n 16 (s.linFrameOf n f.id).isSome
        else
          let t := s.now - ago
          let s2 := s1.setLinC n { s1.linC n with hdr := some (f.id, t) }
          if f.publish then (if f.kind = .eventTriggered then s2.linPublishEvent n f t else s2.linPublish n f t) else s2 :=
  if_pos ⟨hn, hst, by rw [hc]; rfl, by rw [he]; rfl, hl⟩

/-- The response to the frame of the header ends it within its maximum length (R270, R271). -/
theorem linFrameReceived_inTime {r : LinFrame} (hh : (s.linC n).hdr = some (id, t)) (hf : s.linExpected n id = some f) (hn : n < 10)
    (hst : s.linSt n = 2) (hp : r.pid = linPid id) (ht : s.now ≤ t + s.linFrameMax n f.dlen) :
    s.linFrameReceived n r =
      if f.kind = .eventTriggered ∧ r.collision then (s.linCollision n f).linFrameOver n
      else
        let own := (s.linC n).publishing && s.txMute .p1 && decide (r.err % 2 = 0)
        let bad := r.err % 16 - (if bitOf r.err 2 then 4 else 0) + (if r.data.length < f.dlen then 4 else 0) + b2n own
        if bad ≠ 0 then (s.linErrs n bad (s.linFrameOf n id).isSome).linFrameOver n
        else if (s.linC n).publishing then (s.linSent n f).linFrameOver n
        else (s.linGot n id f r.data).linFrameOver n := by
  have hdue : ¬(10 ≤ n ∨ s.linSt n ≠ 2 ∨ r.pid ≠ linPid id ∨ t + s.linFrameMax n f.dlen < s.now) := by
    simp [Nat.not_le.mpr hn, hst, hp, Nat.not_lt.mpr ht]
  simp only [State.linFrameReceived, hh, hf]
  exact if_neg hdue

/-- At its maximum length the frame is over, an event-triggered one without an error (R271). -/
theorem linResponseTimeout_due (hh : (s.linC n).hdr = some (id, t)) (hf : s.linExpected n id = some f) (hn : n < 10)
    (ht : t + s.linFrameMax n f.dlen ≤ s.now) :
    s.linResponseTimeout n = (if f.kind = .eventTriggered then s else s.linErrs n 4 (s.linFrameOf n id).isSome).linFrameOver n := by
  simp only [State.linResponseTimeout, hh, hf]
  exact if_pos ⟨hn, ht⟩

end Frame

/-- Settles O24: a header, a response and a missing response by what each does where its guard is met. -/
theorem linFrameCommands : Obligations.LinFrameCommands := by
  refine ⟨?header, ?frame, ?timeout⟩
  case header => exact fun s n p ago ok hn hst hc he hl => congrArg Host.Outcome.next (linHeaderReceived_legal p ago ok hn hst hc he hl)
  case frame => exact fun s n id t r f hh hf hn hst hp ht => congrArg Host.Outcome.next (linFrameReceived_inTime hh hf hn hst hp ht)
  case timeout => exact fun s n id t f hh hf hn ht => congrArg Host.Outcome.next (linResponseTimeout_due hh hf hn ht)

end Sys2Proof.Proofs.Lin
end

section
/-! PROOFS. The access engine: requests and tokens, LF drivers and their sequencer, challenges and reply slots, verification, lockout and session. -/

namespace Sys2Proof.Proofs.Access

open Sys2Proof Sys2Proof.Machine

/-! ### Requests and tokens (R338, R339, R351) -/

section Request

variable {s : State} {t : Nat} {o : HostOp}

/-- A CHALLENGE that passes the checks waits where fewer than four of the host do (R351). -/
theorem challengeOp_room (ho : s.opReady t 0x40 = some o) (hm : o.fld 16 1 = 1 ∨ o.fld 16 1 = 2)
    (hk : s.accCheck { tag := some t, mode := o.fld 16 1, token := o.fld 17 1, mask := o.fld 18 1 } = none)
    (hq : (s.acc.queue.filter (fun q => q.tag.isSome)).length < 4) :
    s.challengeOp t = { (s.begin t) with
      acc := { (s.begin t).acc with
        queue := (s.begin t).acc.queue ++ [{ tag := some t, mode := o.fld 16 1, token := o.fld 17 1, mask := o.fld 18 1 }] } } := by
  simp only [State.challengeOp, ho, if_pos hm, hk, if_neg (Nat.not_le.mpr hq)]

/-- A CALIBRATE is accepted in IDLE alone (R339). -/
theorem calibrate_room (ho : s.opReady t 0x43 = some o)
    (hk : s.accCheck { tag := some t, mode := 3, token := o.fld 16 1, mask := o.fld 17 1 } = none) (hst : s.accSt = 1)
    (hq : (s.acc.queue.filter (fun q => q.tag.isSome)).length < 4) :
    s.calibrate t = { (s.begin t) with
      acc := { (s.begin t).acc with
        queue := (s.begin t).acc.queue ++ [{ tag := some t, mode := 3, token := o.fld 16 1, mask := o.fld 17 1 }] } } := by
  have hroom : ¬(s.accSt ≠ 1 ∨ 4 ≤ (s.acc.queue.filter (fun q => q.tag.isSome)).length) := by omega
  simp only [State.calibrate, ho, hk, if_neg hroom]

/-- A new token with a permitted slot takes a free record while no round runs (R338). -/
theorem tokenRegister_free (ho : s.opReady t 0x41 = some o) (hi : o.fld 16 1 < 8) (hr : s.tokReg (o.fld 16 1) = false)
    (hid : o.fld 20 4 ≠ 0xFFFFFFFF) (hnew : s.tokenOf (o.fld 20 4) = none) (hp : s.slotPermits (o.fld 17 1) 2 = true) (hb : s.accBusy = false) :
    s.tokenRegister t =
      ((((((s.tokZero (o.fld 16 1)).wr (Reg.ACC_TOKID.ID (o.fld 16 1)) (o.fld 20 4)).wr (Reg.ACC_TOKCFG.SLOT (o.fld 16 1)) (o.fld 17 1)).wr
        (Reg.ACC_TOKCFG.REG (o.fld 16 1)) 1).tokReport (o.fld 16 1)).event 0x0C80 s.now (o.fld 16 1) 0x41 (o.fld 20 4)).complete t St.ok := by
  have hfree : ¬(8 ≤ o.fld 16 1 ∨ s.tokReg (o.fld 16 1) = true ∨ o.fld 20 4 = 0xFFFFFFFF ∨ (s.tokenOf (o.fld 20 4)).isSome = true) := by
    simp [Nat.not_le.mpr hi, hr, hid, hnew]
  simp only [State.tokenRegister, ho, if_neg hfree, hp, hb, Bool.not_true, Bool.false_eq_true, if_false]

/-- A token that no session uses is removed while no round runs (R338). -/
theorem tokenRemove_used (ho : s.opReady t 0x42 = some o) (hr : s.tokReg (o.fld 16 1) = true) (hb : s.accBusy = false)
    (hses : bits s.acc.session 1 3 ≠ o.fld 16 1) :
    s.tokenRemove t =
      (((s.tokZero (o.fld 16 1)).tokReport (o.fld 16 1)).event 0x0C80 s.now (o.fld 16 1) 0x42 (s.rd (Reg.ACC_TOKID.ID (o.fld 16 1)))).complete
        t St.ok := by
  simp only [State.tokenRemove, ho, hr, hb, Bool.not_true, Bool.false_eq_true, if_false, if_neg hses]

end Request

/-! ### Frames of the token receive port (R337, R341, R346) -/

section Button

variable {s : State} {f : List Byte} {x : TkrFrame} {i : Nat} (hx : parseTkr f = some x) (hb : x.button = true) (h0 : s.accSt ≠ 0) (h4 : s.accSt ≠ 4)
include hx hb h0 h4

/-- A button frame of no known token is a failure (R346). -/
theorem buttonFrame_unknown (ht : s.tokenOf x.id = none) : s.buttonFrame f = s.accFailure 6 := by
  simp [State.buttonFrame, hx, hb, h0, h4, ht]

/-- A genuine button frame with a newer counter stores it, counts and starts a session (R346, R349). -/
theorem buttonFrame_newer (ht : s.tokenOf x.id = some i) (hv : s.tkrVerifies i x = true) (hn : s.rd (Reg.ACC_TOKCNT.LASTCNT i) < x.cnt) :
    s.buttonFrame f = (((s.tokFlags i x.flags).wr (Reg.ACC_TOKCNT.LASTCNT i) x.cnt).tokAccept i).startSession i 1 0 s.now := by
  simp [State.buttonFrame, hx, hb, h0, h4, ht, hv, Nat.not_lt.mpr (Nat.le_of_lt hn), Nat.ne_of_gt hn]

end Button

theorem tkrFrame_joins {s : State} {x : Nat} (f : List Byte) (hx : s.acc.strobes.getLast? = some x) :
    s.tkrFrame f = { s with acc := { s.acc with frames := s.acc.frames ++ [(x, f)] } } := by
  simp only [State.tkrFrame, hx]

/-! ### The LF sequencer (R335) -/

section Sequencer

variable {s : State} (hd : s.lfDue = true)
include hd

/-- A control step is due while a challenge is sent alone. -/
theorem sending_of_lfDue : s.acc.sending = true := by
  simp only [State.lfDue, Bool.and_eq_true] at hd
  obtain ⟨⟨⟨⟨hsending, -⟩, -⟩, -⟩, -⟩ := hd
  exact hsending

theorem lfStep_starts (hr : (s.celAt 16).running = false) :
    s.lfStep = ({ s with acc := { s.acc with lf := { s.acc.lf with last := s.dieNow .v } } } : State).seqStart 16 := by
  simp [State.lfStep, hd, hr]

/-- An overrun ends the transmission at once, and the round INTERNAL. -/
theorem lfOverrun_due :
    s.lfOverrun = (({ s with acc := { s.acc with sending := false, drivers := 0 } } : State).seqHalt 16).accFinish St.internal 16 :=
  if_pos (sending_of_lfDue hd)

theorem lfStep_overrun (hr : (s.celAt 16).running = true) :
    s.lfStep = (({ s with acc := { s.acc with sending := false, drivers := 0 } } : State).seqHalt 16).accFinish St.internal 16 := by
  rw [State.lfStep, if_pos hd, if_pos hr, lfOverrun_due hd]

end Sequencer

/-! ### Challenges (R340, R344) -/

section Challenge

variable {s : State} {r : AccReq} {i : Nat} {rest : List Nat}

section Start

variable (hs : s.acc.sending = false) (he : s.acc.challengeEnd = none) (hm : s.lfMay = true)
include hs he hm

/-- From IDLE the first waiting request is served. -/
theorem challengeStart_waiting (hc : s.acc.cur = none) (hst : s.accSt = 1) : s.challengeStart = s.serveNext := by
  simp [State.challengeStart, hs, he, hm, hc, hst]

/-- A round with addressed repeats left sends the next. -/
theorem challengeStart_repeat (hc : s.acc.cur = some r) (hr : r.mode ≠ 3) (hi : s.acc.repeats = i :: rest) :
    s.challengeStart = ({ s with acc := { s.acc with repeats := rest } } : State).sendChallenge true i r.mask := by
  simp [State.challengeStart, hs, he, hm, hc, hr, hi]

theorem challengeStart_calibration (hc : s.acc.cur = some r) (hr : r.mode = 3) : s.challengeStart = s.sendChallenge true r.token r.mask := by
  simp [State.challengeStart, hs, he, hm, hc, hr]

end Start

/-- The end of the challenge of a request is stamped, and arms its reply slots (R340). -/
theorem challengeOver_due (hs : s.acc.sending = true) (he : s.acc.endAt ≤ s.dieNow .v) (hc : s.acc.cur = some r) :
    s.challengeOver =
      ({ s with acc := { s.acc with sending := false, drivers := 0, challengeEnd := some s.acc.endAt } } : State).seqHalt 16 := by
  simp [State.challengeOver, hs, he, hc]

end Challenge

/-! ### Reply slots and verification (R343, R344) -/

/-- The tick at which the current reply slot begins, `e` being the end of the challenge (R343). -/
def slotStart (s : State) (e : Nat) : Nat := e + 30000 + s.acc.k * 800000

/-- The strobes of the current reply slot. -/
def slotStrobes (s : State) (e : Nat) : List Nat :=
  s.acc.strobes.filter (fun x => decide (slotStart s e ≤ x) && decide (x < slotStart s e + 800000))

section Slot

variable {s : State} {e x y i : Nat} {zs : List Nat} {f : TkrFrame} {v : AccReply} {r : AccReq} (he : s.acc.challengeEnd = some e)

section End

variable (hb : s.accBusy = true) (hv : s.acc.verify = none) (hd : slotStart s e + 800000 ≤ s.now)

include hb hv hd in
theorem slot_due : ¬(s.accBusy = false ∨ s.acc.verify.isSome = true ∨ s.now < slotStart s e + 800000) := by
  simp [hb, hv, Nat.not_lt.mpr hd]

include he hb hv hd

theorem replySlotEnd_empty (hx : slotStrobes s e = []) : s.replySlotEnd = s.slotDone := by
  have hdue := slot_due hb hv hd
  delta slotStrobes slotStart at hx
  unfold slotStart at hdue
  simp only [State.replySlotEnd, he, if_neg hdue, hx]

/-- A slot with several strobes is discarded. -/
theorem replySlotEnd_several (hx : slotStrobes s e = x :: y :: zs) :
    s.replySlotEnd =
      ((({ s with acc := { s.acc with discards := s.acc.discards + 1 } } : State).count Reg.ACC_CNT1.COLL 1).lastDev 0 0 false).slotDone := by
  have hdue := slot_due hb hv hd
  delta slotStrobes slotStart at hx
  unfold slotStart at hdue
  simp only [State.replySlotEnd, he, if_neg hdue, hx]

/-- A slot with one strobe, whose one frame names a token, waits for the verification of that frame. -/
theorem replySlotEnd_token (hx : slotStrobes s e = [x])
    (hf : (s.acc.frames.filter (fun p => decide (p.1 = x))).map (fun p => parseTkr p.2) = [some f]) (hbtn : f.button = false)
    (ht : s.tokenOf f.id = some i) :
    s.replySlotEnd =
      { s with acc := { s.acc with verify := some { k := s.acc.k, token := i, flags := f.flags, stamp := x, good := s.tkrVerifies i f } } } := by
  have hdue := slot_due hb hv hd
  delta slotStrobes slotStart at hx
  unfold slotStart at hdue
  simp only [State.replySlotEnd, he, if_neg hdue, hx, hf, hbtn, ht, Bool.false_eq_true, if_false]

end End

include he in
/-- A verified reply is judged by the calibration, or by the round, that it belongs to. -/
theorem replyVerified_judged (hv : s.acc.verify = some v) (hc : s.acc.cur = some r) :
    s.replyVerified =
      (if r.mode = 3 then ({ s with acc := { s.acc with verify := none } } : State).judgeCal e r.token v
        else ({ s with acc := { s.acc with verify := none } } : State).judgeReply e v).slotDone := by
  simp only [State.replyVerified, hv, hc, he]

end Slot

/-- A session that runs for 30 s ends TIMEOUT as of then (R349). -/
theorem sessionTimeout_due {s : State} (hon : s.sessionOn = true) (hd : s.sessionEnd ≤ s.now) : s.sessionTimeout = s.closeSession 2 s.sessionEnd := by
  simp [State.sessionTimeout, State.endSession, hon, hd]

/-- Settles O27: each command by what it does where its guard is met. -/
theorem accessEngineCommands : Obligations.AccessEngineCommands := by
  refine ⟨?challenge, ?calibrate, ?register, ?remove, ?short, ?marked, ?frame, ?unknown, ?button, ?step, ?stepOverrun, ?overrun, ?start, ?startRepeat,
    ?startCalibration, ?ended, ?strobe, ?empty, ?several, ?token, ?judged, ?calibrated, ?lockoutEnd, ?timeout⟩
  case challenge => exact fun s t o ho hm hk hq => congrArg Host.Outcome.next (challengeOp_room ho hm hk hq)
  case calibrate => exact fun s t o ho hk hst hq => congrArg Host.Outcome.next (calibrate_room ho hk hst hq)
  case register => exact fun s t o ho hi hr hid hnew hp hb => congrArg Host.Outcome.next (tokenRegister_free ho hi hr hid hnew hp hb)
  case remove => exact fun s t o ho hr hb hses => congrArg Host.Outcome.next (tokenRemove_used ho hr hb hses)
  case short => exact fun s k cur hk hd hc => congrArg Host.Outcome.next (if_pos ⟨hk, hd, hc⟩)
  case marked => exact fun s k peak hk hd ho hp => congrArg Host.Outcome.next (if_pos ⟨hk, hd, by rw [ho]; rfl, hp⟩)
  case frame => exact fun s f x hb hx => congrArg Host.Outcome.next ((if_pos hb).trans (tkrFrame_joins f hx))
  case unknown => exact fun s f x hx hb h0 h4 ht => congrArg Host.Outcome.next (buttonFrame_unknown hx hb h0 h4 ht)
  case button => exact fun s f x i hx hb h0 h4 ht hv hn => congrArg Host.Outcome.next (buttonFrame_newer hx hb h0 h4 ht hv hn)
  case step => exact fun s hd hr => congrArg Host.Outcome.next (lfStep_starts hd hr)
  case stepOverrun => exact fun s hd hr => congrArg Host.Outcome.next (lfStep_overrun hd hr)
  case overrun => exact fun s hd hr => congrArg Host.Outcome.next ((if_pos (by rw [hd, hr]; rfl)).trans (lfOverrun_due hd))
  case start => exact fun s hs he hm hc hst => congrArg Host.Outcome.next (challengeStart_waiting hs he hm hc hst)
  case startRepeat => exact fun s r i rest hs he hm hc hr hi => congrArg Host.Outcome.next (challengeStart_repeat hs he hm hc hr hi)
  case startCalibration => exact fun s r hs he hm hc hr => congrArg Host.Outcome.next (challengeStart_calibration hs he hm hc hr)
  case ended => exact fun s r hs he hc => congrArg Host.Outcome.next (challengeOver_due hs he hc)
  case strobe => exact fun s e hb he => congrArg Host.Outcome.next (if_pos ⟨hb, by rw [he]; rfl⟩)
  case empty => exact fun s e he hb hv hd hx => congrArg Host.Outcome.next (replySlotEnd_empty he hb hv hd hx)
  case several => exact fun s e x y zs he hb hv hd hx => congrArg Host.Outcome.next (replySlotEnd_several he hb hv hd hx)
  case token => exact fun s e x f i he hb hv hd hx hf hbtn ht => congrArg Host.Outcome.next (replySlotEnd_token he hb hv hd hx hf hbtn ht)
  case judged =>
    exact fun s v r e hv hc he hm => congrArg Host.Outcome.next ((replyVerified_judged he hv hc).trans (congrArg State.slotDone (if_neg hm)))
  case calibrated =>
    exact fun s v r e hv hc he hm => congrArg Host.Outcome.next ((replyVerified_judged he hv hc).trans (congrArg State.slotDone (if_pos hm)))
  case lockoutEnd => exact fun s hst hd => congrArg Host.Outcome.next (if_pos ⟨hst, hd⟩)
  case timeout => exact fun s hon hd => congrArg Host.Outcome.next (sessionTimeout_due hon hd)

end Sys2Proof.Proofs.Access
end

section
/-! PROOFS. Verya: what a received lantern does, a peer that becomes SILENT, and the lantern that falls due. -/

namespace Sys2Proof.Proofs.Lantern

open Sys2Proof Sys2Proof.Machine

/-! ### Lanterns received (R409) -/

/-- What a good lantern of the bytes `b` tells of its node. -/
def told (s : State) (b : List Byte) : LanternSeen :=
  { stamp := s.now, gen := byteField b 2 2, version := byteField b 4 3, digest := byteField b 8 8 }

/-- The latest lanterns kept once that of the bytes `b` is kept too. -/
def seenWith (s : State) (b : List Byte) : SMap (Option LanternSeen) :=
  SMap.set (fun _ => none) (s.count Reg.CFG_VCNT.RX 1).cfg.seen (byteField b 1 1 % 64) (some (told s b))

section Received

variable {s : State} {x : LanternRx} {b : List Byte} {i : Nat} {p : PeerRec}

theorem lanternReceived_bad (hb : s.lanternBytes x = some b) (hg : s.lanternGood b = false) :
    s.lanternReceived x = (s.count Reg.CFG_VCNT.RX 1).count Reg.CFG_VCNT.BAD 1 := by
  simp only [State.lanternReceived, hb, hg, Bool.not_false, if_true]

/-- A good lantern of this device's own node raises 0x44. -/
theorem lanternReceived_own (hb : s.lanternBytes x = some b) (hg : s.lanternGood b = true)
    (hn : byteField b 1 1 % 64 = s.rd (Reg.CFG_BVER.NODE s.activeBank)) :
    s.lanternReceived x = (s.count Reg.CFG_VCNT.RX 1).raiseL 0x0F40 0x44 s.now := by
  simp only [State.lanternReceived, hb, hg, Bool.not_true, Bool.false_eq_true, if_false, if_pos hn]

/-- One of another node that the list of peers does not hold is kept, and raises 0x44. -/
theorem lanternReceived_unknown (hb : s.lanternBytes x = some b) (hg : s.lanternGood b = true)
    (hn : byteField b 1 1 % 64 ≠ s.rd (Reg.CFG_BVER.NODE s.activeBank))
    (hf : (List.range s.img.peers.length).find? (fun i => (s.peer i).any (fun p => decide (p.node = byteField b 1 1 % 64))) = none) :
    s.lanternReceived x =
      ({ (s.count Reg.CFG_VCNT.RX 1) with cfg := { (s.count Reg.CFG_VCNT.RX 1).cfg with seen := seenWith s b } } : State).raiseL 0x0F40 0x44
        s.now := by
  simp only [State.lanternReceived, hb, hg, Bool.not_true, Bool.false_eq_true, if_false, if_neg hn, hf, seenWith, told]

/-- One of a peer is kept, and the peer enters the state it gives, after a silence that ended only now. -/
theorem lanternReceived_peer (hb : s.lanternBytes x = some b) (hg : s.lanternGood b = true)
    (hn : byteField b 1 1 % 64 ≠ s.rd (Reg.CFG_BVER.NODE s.activeBank))
    (hf : (List.range s.img.peers.length).find? (fun i => (s.peer i).any (fun p => decide (p.node = byteField b 1 1 % 64))) = some i)
    (hp : s.peer i = some p) :
    s.lanternReceived x =
      ({ ((s.count Reg.CFG_VCNT.RX 1).peerSilent i) with
        cfg := { ((s.count Reg.CFG_VCNT.RX 1).peerSilent i).cfg with seen := seenWith s b } } : State).peerEnter i (p.classify (told s b))
          (told s b).gen s.now := by
  simp only [State.lanternReceived, hb, hg, Bool.not_true, Bool.false_eq_true, if_false, if_neg hn, hf, hp, seenWith, told]

end Received

/-! ### Silence and sending (R407, R409) -/

/-- A peer whose last lantern is `VSILENT` seconds old becomes SILENT as of then. -/
theorem peerSilent_due {s : State} {i : Nat} {p : PeerRec} {l : LanternSeen} (hp : s.peer i = some p) (hl : s.seenOf p.node = some l)
    (hs : s.started = true) (hd : l.stamp + s.rd Reg.CFG_VID.VSILENT * 200000000 ≤ s.now) (hst : s.rd (Reg.CFG_PEER.STATE i) ≠ 0) :
    s.peerSilent i = s.peerEnter i 0 (s.rd (Reg.CFG_PEER.GEN i)) (l.stamp + s.rd Reg.CFG_VID.VSILENT * 200000000) := by
  simp only [State.peerSilent, hp, hl, hs, hd, hst, decide_true, decide_not, decide_false, Bool.not_false, Bool.and_self, ne_eq, if_true]

/-- One lantern more is queued at the first multiple of 1 s after the last. -/
theorem lanternDue_next {s : State} (hs : s.started = true) (hv : s.veryaOn = true) (ht : s.cfg.lanternTick < s.now / 200000000 * 200000000) :
    s.lanternDue =
      { s with cfg := { s.cfg with lanternsDue := s.cfg.lanternsDue + 1, lanternTick := s.now / 200000000 * 200000000 } } :=
  if_pos (by rw [hs, hv, decide_eq_true ht]; rfl)

/-- Settles O32: each command by what it does where its guard is met. -/
theorem lanternCommands : Obligations.LanternCommands := by
  refine ⟨?bad, ?own, ?unknown, ?peer, ?silent, ?due⟩
  case bad => exact fun s x b hb hg => congrArg Host.Outcome.next (lanternReceived_bad hb hg)
  case own => exact fun s x b hb hg hn => congrArg Host.Outcome.next (lanternReceived_own hb hg hn)
  case unknown => exact fun s x b hb hg hn hf => congrArg Host.Outcome.next (lanternReceived_unknown hb hg hn hf)
  case peer => exact fun s x b i p hb hg hn hf hp => congrArg Host.Outcome.next (lanternReceived_peer hb hg hn hf hp)
  case silent => exact fun s i p l hp hl hs hd hst => congrArg Host.Outcome.next (peerSilent_due hp hl hs hd hst)
  case due => exact fun s hs hv ht => congrArg Host.Outcome.next (lanternDue_next hs hv ht)

end Sys2Proof.Proofs.Lantern
end
